-- ==== Sys2Proof/Word.lean ====
section
/-! DEFINITION. The word types of the device and their plainest arithmetic. -/

namespace Sys2Proof

/-- One byte of an addressed memory. -/
abbrev Byte := BitVec 8

/-- One 32-bit register or instruction word (R4). -/
abbrev Word := BitVec 32

end Sys2Proof
end

