-- ==== Sys2Proof/Syntax.lean ====
section
/-! DEFINITION. The commands of the Torvith Xirus Mionan, one constructor for each row of the opcode table.
The table gives no bit encodings; the operands are the ones the rules name. The first operand `k` names the stack that the
command reaches (R2: each Atlas stack has its own blocks). -/

namespace Sys2Proof

/-- The two stacks of a package (R1, R2): the only stack of an Octavo or Quarto is `recto`. -/
inductive Side where
  | recto | verso
deriving DecidableEq, Repr


/-- A port of a leaf memory at an edge of its clock: port A 0 or port B 1, and whether the edge is that of the accesses that came just before,
or lies within 300 ps of it (R94). -/
structure PortEdge where
  port : Nat
  same : Bool
deriving DecidableEq, Repr

/-- What a request's header flit gives (R311), the destination being derived from the address (R308). `src` is the initiator
interface 32 × hub index + stop; `reserved` says that a reserved header field is not 0. -/
structure Header where
  src : Nat
  tag : Nat
  cls : Nat := 2
  len : Nat := 0
  rlen : Nat := 1
  rot : Bool := false
  keyattr : Nat := 0
  addr : Nat
  birth : Nat := 0
  beFirst : Nat := 0
  beLast : Nat := 0
  data : Nat := 0
  reserved : Bool := false
deriving DecidableEq, Repr


/-- One command of the block (spec/opcode_table.json). -/
inductive Instr where
  /-- R6: A write to a register field with no behaviour of its own takes effect by the field's type, or is answered with an error when it is misaligned or at an unlisted offset (R4). -/
  | registerWrite (k : Side) (block off size v : Nat)
  /-- R233: A write to the staged copy of a staged register; it is ignored, and LOCKED_WRITE is set, while a firmware turn is armed. -/
  | stagedCopyWrite (k : Side) (block off v : Nat)
  /-- R29: VCC_VIGIL rises above its brown-out threshold and the device enters Vigil. -/
  | offToVigil
  /-- R51: VCC_VIGIL falls below its brown-out threshold and resets the whole device to Off. -/
  | brownOut
  /-- R29: The WAKE ball is asserted and starts Dawn from Vigil or a wake from Siesta. -/
  | wake
  /-- R29: The vigil wake timer of SYS.VIGIL_TIMER expires and starts Dawn if every supply is within specification. -/
  | vigilWakeTimer
  /-- R29: Firmware requests Day; this is a Siesta wake, or a return from Dusk steps 1 to 3 (R42), or a refusal. -/
  | modeReqDay (k : Side) (after : Nat)
  /-- R29: Firmware requests Siesta from Day; a stop turn is made, or the request is refused (R30). -/
  | modeReqSiesta (k : Side) (after : Nat)
  /-- R29: Firmware requests Dusk from Day or Workshop, or the request is refused. -/
  | modeReqDusk (k : Side) (after : Nat)
  /-- R29: Firmware requests Dawn from Haven, or the request is refused. -/
  | modeReqDawn (k : Side) (after : Nat)
  /-- R29: Firmware requests Vigil from Haven, or the request is refused. -/
  | modeReqVigil (k : Side) (after : Nat)
  /-- R30: Firmware requests Workshop directly; no such move exists, and the request is refused. -/
  | modeReqWorkshop (k : Side) (after : Nat)
  /-- R30: Firmware requests Haven directly; no such move exists, and the request is refused. -/
  | modeReqHaven (k : Side) (after : Nat)
  /-- R70: No TCXO edges arrive within 2 ms of Dawn step 1, and Dawn fails to Haven. -/
  | tcxoTimeout
  /-- R70: The base system PLL has not locked within 1 ms of the TCXO edges, and Dawn fails. -/
  | systemPllTimeout
  /-- R70: The memory fill has not completed within 40 ms, and Dawn fails. -/
  | fillTimeout
  /-- R537: UCIe has not trained within 10 ms of host release, and Dawn fails with cause 0x08. -/
  | ucieTrainTimeout
  /-- R70: A layer PLL has not locked within 5 ms at Dawn step 8, and Dawn fails. -/
  | layerPllTimeout
  /-- R63: The delay after a release step, or after a recovery's release step, ends and the next release step begins. -/
  | releaseDelayExpiry (k : Side)
  /-- R62: Every loop selected in LOCK_MASK reports lock, and the wait-for-locks step completes. -/
  | locksReported (k : Side)
  /-- R65: The wait for locks exceeds LOCK_TIMEOUT, and Dawn fails or the recovery escalates. -/
  | lockTimeout (k : Side)
  /-- R40: A shutdown that a re-enable request has queued reaches its safe boundary, and it is abandoned, re-initialised and enabled. -/
  | reenableAtSafeBoundary (k : Side) (kind n : Nat)
  /-- R45: A stack-level fault, such as a base-ring, spine-ring, loader or colophon fault, is handled by the escalation rules. -/
  | baseRingFault (k : Side) (block cause : Nat)
  /-- R44: A recovery exceeds its time limit and is abandoned and escalated one level. -/
  | recoveryLimit (k : Side) (level id : Nat)
  /-- R43: A recovery completes, and its completion is written to the ledger. -/
  | recoveryComplete (k : Side) (level id : Nat)
  /-- R93: A design read on a leaf-memory port returns data, or zero with the error flag for an address beyond the depth. -/
  | leafPortRead (k : Side) (layer tile m port a : Nat)
  /-- R95: A design write on a leaf-memory port, a read-modify-write when it is narrower than 128 bits. -/
  | leafPortWrite (k : Side) (layer tile m : Nat) (e : PortEdge) (a v : Nat)
  /-- R125: Every 10 ms, the spare and unused vertical tracks of a tile boundary are tested. -/
  | vtrackPeriodicTest (k : Side) (b tile : Nat) (failed : List Nat)
  /-- R124: Both drivers of a vertical track are found enabled; the lower driver wins and a section-level fault starts a folio check. -/
  | vtrackContention (k : Side) (b tile track : Nat)
  /-- R117: The capture phase of a mesochronous group follows temperature in steps of at most 2 ps, at most once per microsecond. -/
  | bridgePhaseTrack (k : Side) (b tile j : Nat) (up : Bool)
  /-- R137: The stage command of SECT.PG_CMD copies a stored page into a plane, or is refused under R141. -/
  | stage (k : Side) (i n page p : Nat)
  /-- R138: The evict command of SECT.PG_CMD writes a plane's state bank and memory-mode folios back to its page's slot. -/
  | evict (k : Side) (i n page p : Nat)
  /-- R139: The free command of SECT.PG_CMD discards a plane in 0.2 µs. -/
  | free (k : Side) (i n page p : Nat)
  /-- R155: SECT.PG_CMD with OP 0b11 acts as no operation. -/
  | pgCmdNop (k : Side) (i n page p : Nat)
  /-- R137: The page links become free, and a waiting page command is rechecked and begins its step 1. -/
  | pageLinksFree (k : Side)
  /-- R137: A stage or eviction finishes; the plane becomes Staged, Blocked or Free, and RESULT and PG_DONE are set. -/
  | pageCommandComplete (k : Side) (i : Nat)
  /-- R148: SECT.CAP_CTL.GO arms a capture of a section, or the capture is refused under R151. -/
  | capture (k : Side) (i domain : Nat) (atPoint : Bool) (raster : Nat)
  /-- R159: SECT.CAP_CTL.RELEASE frees the Captured plane, and the capture state returns to Idle. -/
  | captureRelease (k : Side) (i : Nat)
  /-- R149: At the capture edge the flip-flops are snapshot into a Free plane, or the capture is refused, and the section is Capturing. -/
  | captureEdge (k : Side) (i : Nat)
  /-- R150: The leaf-memory copy of a capture completes; the section returns to its state and the image is Ready. -/
  | captureCopyComplete (k : Side) (i : Nat)
  /-- R162: A read of SECT.CAP_DATA returns the next image word and advances PTR, or returns 0 and sets EARLY. -/
  | capDataRead (k : Side) (i : Nat)
  /-- R194: A read of SECT.HINGE_DATA returns a hinge-table word and advances ADDR when AUTOINC is set. -/
  | hingeDataRead (k : Side) (i : Nat)
  /-- R177: A SECT.CMD of code 0x0, or of 0x9 to 0xF, does nothing. -/
  | sectNone (k : Side) (i n op : Nat)
  /-- R177: The SLEEP command puts a Live section to sleep at once and clears LIVE in both copies of RUN. -/
  | sectSleep (k : Side) (i n : Nat)
  /-- R177: The WAKE command wakes an Asleep section at once and sets LIVE in both copies of RUN. -/
  | sectWake (k : Side) (i n : Nat)
  /-- R176: The RESET_PULSE command asserts the section's reset for four slowest-domain cycles. -/
  | resetPulse (k : Side) (i n : Nat)
  /-- R176: The reset pulse period ends, and the section's reset is released. -/
  | resetPulseEnd (k : Side) (n : Nat)
  /-- R177: The HOLD command makes the section Held with the FIRMWARE bit set. -/
  | hold (k : Side) (i n : Nat)
  /-- R177: The CLEAR_HOLD command clears the FIRMWARE bit, so the section may be released at the next turn. -/
  | clearHold (k : Side) (i n : Nat)
  /-- R589: The TEST command makes an Asleep section Testing and tests its tiles with 64 BIST groups. -/
  | sectTest (k : Side) (i n : Nat)
  /-- R589: A section test ends; the section is re-initialised and returns to Asleep, and SECT_RES is written. -/
  | sectionTestComplete (k : Side) (failed : Nat)
  /-- R170: The DISCARD command makes an Asleep, Held or Torn section and its descendants Empty. -/
  | discard (k : Side) (i n : Nat)
  /-- R177: The REMOVE command ends an Empty section and its descendants and frees their numbers. -/
  | remove (k : Side) (i n : Nat)
  /-- R231: A LOAD.CMD with OP 0 or 6 to 15 does nothing. -/
  | loadNone (k : Side) (op image : Nat)
  /-- R217: The LOAD command runs a load of an image through Check, Define, Copy, Stage and Registers. -/
  | load (k : Side) (image : Nat)
  /-- R219: The REBIND command rebinds an Asleep or Held section and its descendants from a rebinding image. -/
  | rebind (k : Side) (image : Nat)
  /-- R222: The RESTART command reruns an image from phase 1, counting its Torn sections as its own. -/
  | restart (k : Side) (image : Nat)
  /-- R221: The ABORT command stops the running loader job, and its sections become Torn. -/
  | loadAbort (k : Side) (image : Nat)
  /-- R231: The VERIFY command runs the Check phase of an image alone. -/
  | verify (k : Side) (image : Nat)
  /-- R217: A loader phase finishes its work, and the next phase begins or the job ends with its cause. -/
  | loadPhaseComplete (k : Side) (unc : Option Nat)
  /-- R217: The loader's registers phase, which waited while a turn was armed, begins once the turn is Idle. -/
  | loadRegistersPhase (k : Side)
  /-- R225: A LOAD.FETCH GO requests a colophon fetch of a page into a plane in pooled use, or is refused. -/
  | colophonFetch (k : Side) (n page p : Nat)
  /-- R225: A colophon fetch completes, and the plane becomes Staged or Blocked. -/
  | fetchComplete (k : Side) (unc : Bool)
  /-- R226: The open command of LOAD.UP_CTL opens an upload into a FREE directory entry, or is refused. -/
  | uploadOpen (k : Side) (image : Nat)
  /-- R226: The commit command of LOAD.UP_CTL checks the length, CRC and header, and the entry becomes VALID or FREE. -/
  | uploadCommit (k : Side) (image : Nat)
  /-- R227: The abandon command of LOAD.UP_CTL sets the open entry to FREE. -/
  | uploadAbandon (k : Side) (image : Nat)
  /-- R227: The delete command of LOAD.UP_CTL frees an image, or is refused with IN_USE. -/
  | uploadDelete (k : Side) (image : Nat)
  /-- R231: A LOAD.UP_CTL with an unassigned OP does nothing. -/
  | uploadNone (k : Side) (image op : Nat)
  /-- R226: A write to LOAD.UP_DATA buffers one image word, or drops it and sets OVERFLOW when SPACE is 0. -/
  | upDataWrite (k : Side) (v : Nat)
  /-- R226: The loader programs buffered upload data into the colophon die, and abandons it if the temperature window is left. -/
  | colophonProgram (k : Side)
  /-- R226: A commit or delete that was in progress completes, and UP_STATUS.BUSY clears. -/
  | uploadCommitDone (k : Side)
  /-- R228: A layer's checker reads one folio of a Live or Staged plane every 160 ns and compares it with its golden digest. -/
  | backgroundCheck (k : Side) (layer tile g p : Nat)
  /-- R229: The rewrite of a rewrite-safe folio from its source completes, and a Blocked staged plane becomes Staged again. -/
  | folioRewriteComplete (k : Side)
  /-- R230: The loader stages a clean page into a Free plane and arms the repair device turn when no turn is armed. -/
  | repairTurn (k : Side)
  /-- R235: TURN.ARM.GO arms a turn, fixes the turn set and numbers it, or refuses the arm. -/
  | arm (k : Side)
  /-- R248: TURN.ARM.CANCEL fails a firmware turn with CANCELLED unless it lies within 10 µs of its instant. -/
  | cancel (k : Side)
  /-- R241: The turn check completes; the turn becomes Pending with its instant fixed, or fails with a reason. -/
  | turnCheckComplete (k : Side)
  /-- R244: 20 ns before the turn instant, the turn's conditions are examined a last time and the turn applies or fails. -/
  | lastExamination (k : Side)
  /-- R245: At the turn instant, each item applies at its own edge and the turn is Applying. -/
  | turnApply (k : Side)
  /-- R238: The last item of a turn has applied; SEQ.LIVE is written and the turn returns to Idle. -/
  | turnApplied (k : Side)
  /-- R249: A waiting device turn arms when the stage is Idle, or pre-empts an armed turn. -/
  | deviceTurnArm (k : Side)
  /-- R252: A whole second of device time ends; the turns applied are counted and RATE is set above 120. -/
  | turnRateSecond (k : Side)
  /-- R279: An FE.CMD with OP 0 or 5 to 15 does nothing. -/
  | feNone (k : Side) (i n op : Nat) (fill : Bool)
  /-- R279: The START command makes an engine Running from Reset, Stopped or Halted. -/
  | feStart (k : Side) (i n : Nat)
  /-- R279: The STOP command freezes a Running engine's pipeline within 3 engine cycles. -/
  | feStop (k : Side) (i n : Nat)
  /-- R279: The STEP command advances a Stopped engine by one cycle. -/
  | feStep (k : Side) (i n : Nat)
  /-- R279: The RESET command puts an engine in Reset, and zero-fills its memories with FILL. -/
  | feReset (k : Side) (i n : Nat) (fill : Bool)
  /-- R279: The zero fill of an engine's memories completes after 1,024 engine cycles, and BUSY clears. -/
  | feFillComplete (k : Side) (i : Nat)
  /-- R282: A write to FE.DOORBELL_nnn copies its value to DBV and makes DOORBELL pending. -/
  | feDoorbell (k : Side) (i n v : Nat)
  /-- R282: A write to FE.PORT_CLK_nnn sets the stream-port domains, and is ignored unless the engine is in Reset. -/
  | fePortClkWrite (k : Side) (i n v : Nat)
  /-- R267: An engine takes an interrupt: it freezes the main bank and runs the shadow bank from 0x004. -/
  | feInterrupt (k : Side) (i n : Nat)
  /-- R270: An engine takes a FETCH, ILLEGAL, DATA or REPEAT trap, or becomes Trapped on a double trap. -/
  | feTrap (k : Side) (i n cause : Nat)
  /-- R264: A stalled engine resumes when its input FIFO gains data, its output FIFO gains room, or an external access ends. -/
  | feStallRelease (k : Side) (i n : Nat)
  /-- R276: A ring access to an engine's memories is performed after at most 16 cycles, or answered with an error. -/
  | feExternalAccess (k : Side) (i n off kid : Nat) (write : Bool) (len : Nat) (data : List Nat) (stolen : Bool)
  /-- R273: The fabric transfers one quad into an engine's input FIFO. -/
  | streamPortInput (k : Side) (i n p data mark : Nat)
  /-- R273: An engine's output FIFO transfers one quad to the fabric. -/
  | streamPortOutput (k : Side) (i n p : Nat)
  /-- R289: The NOP instruction does nothing. -/
  | iNop (k : Side) (i n : Nat)
  /-- R289: The HALT instruction stops issue; the engine is Halted and HALT_PEND is set. -/
  | iHalt (k : Side) (i n : Nat)
  /-- R289: The SIGNAL instruction sets the engine's SIGNAL_PEND bit. -/
  | iSignal (k : Side) (i n : Nat)
  /-- R290: The BR instruction branches with one delay slot when COND holds. -/
  | iBr (k : Side) (i n : Nat) (cond target : Nat)
  /-- R289: The BRL instruction branches always and writes the return address to G7. -/
  | iBrl (k : Side) (i n : Nat) (target : Nat)
  /-- R289: The JR instruction branches to the address held in a general register. -/
  | iJr (k : Side) (i n : Nat) (s1 : Nat)
  /-- R302: The REP instruction opens a repeat block with an immediate count. -/
  | iRep (k : Side) (i n : Nat) (len count : Nat)
  /-- R289: The REPR instruction opens a repeat block with a count from a register. -/
  | iRepr (k : Side) (i n : Nat) (len s2 : Nat)
  /-- R268: The RETI instruction returns to the main bank and resumes its frozen pipeline. -/
  | iReti (k : Side) (i n : Nat)
  /-- R294: The WAITM instruction discards head quads until one with the named mark arrives. -/
  | iWaitm (k : Side) (i n : Nat) (port mark : Nat)
  /-- R286: The MFS instruction reads a special register into a general register. -/
  | iMfs (k : Side) (i n : Nat) (d spr : Nat)
  /-- R286: The MTS instruction writes a general register into a special register. -/
  | iMts (k : Side) (i n : Nat) (s1 spr : Nat)
  /-- R291: The PUSHQ instruction stores CNT + 1 quads from an input port into memory. -/
  | iPushq (k : Side) (i n : Nat) (mem a : Nat) (u : Bool) (port cnt : Nat)
  /-- R291: The SENDQ instruction offers a memory quad with a mark on an output port. -/
  | iSendq (k : Side) (i n : Nat) (mem a : Nat) (u : Bool) (port mark : Nat)
  /-- R291: The INQ instruction takes one quad from an input port into a register pair. -/
  | iInq (k : Side) (i n : Nat) (d port : Nat)
  /-- R291: The OUTQ instruction narrows the accumulators into a quad and sends it on an output port. -/
  | iOutq (k : Side) (i n : Nat) (sh port mark : Nat) (clr uns : Bool)
  /-- R297: The TAP instruction performs one four-lane filter tap, optionally moving the delay line. -/
  | iTap (k : Side) (i n : Nat) (ya ca : Nat) (uy uc mv neg cq sy sc clr : Bool)
  /-- R296: The MACQ instruction multiplies an X quad by a Y quad into the four accumulators. -/
  | iMacq (k : Side) (i n : Nat) (xa ya : Nat) (ux uy neg sx sy clr : Bool)
  /-- R296: The MACE instruction multiplies one element by a coefficient into one accumulator. -/
  | iMace (k : Side) (i n : Nat) (acc mem a1 ac : Nat) (u1 uc neg s1 sc clr : Bool)
  /-- R296: The CLRA instruction clears the accumulators selected by MASK. -/
  | iClra (k : Side) (i n : Nat) (mask : Nat)
  /-- R296: The MOVAG instruction moves a shifted and clamped accumulator into a general register. -/
  | iMovag (k : Side) (i n : Nat) (d acc sh : Nat) (rnd : Bool)
  /-- R296: The MOVGA instruction moves a sign-extended general register into an accumulator. -/
  | iMovga (k : Side) (i n : Nat) (acc s1 : Nat)
  /-- R296: The SHFA instruction shifts the selected accumulators with saturation. -/
  | iShfa (k : Side) (i n : Nat) (mask sh : Nat)
  /-- R296: The STAQ instruction stores the narrowed accumulators as a quad in memory. -/
  | iStaq (k : Side) (i n : Nat) (mem a : Nat) (u : Bool) (sh : Nat) (uns clr : Bool)
  /-- R296: The SUMA instruction sums the four accumulators into one, saturated. -/
  | iSuma (k : Side) (i n : Nat) (acc : Nat)
  /-- R298: The ADD instruction adds two registers and sets Z, N, C and V. -/
  | iAdd (k : Side) (i n : Nat) (d s1 s2 : Nat)
  /-- R298: The SUB instruction subtracts two registers and sets Z, N, C and V. -/
  | iSub (k : Side) (i n : Nat) (d s1 s2 : Nat)
  /-- R298: The AND instruction takes the bitwise and of two registers. -/
  | iAnd (k : Side) (i n : Nat) (d s1 s2 : Nat)
  /-- R298: The OR instruction takes the bitwise or of two registers. -/
  | iOr (k : Side) (i n : Nat) (d s1 s2 : Nat)
  /-- R298: The XOR instruction takes the bitwise exclusive or of two registers. -/
  | iXor (k : Side) (i n : Nat) (d s1 s2 : Nat)
  /-- R298: The SHL instruction shifts a register left. -/
  | iShl (k : Side) (i n : Nat) (d s1 s2 : Nat)
  /-- R298: The SHR instruction shifts a register logically right. -/
  | iShr (k : Side) (i n : Nat) (d s1 s2 : Nat)
  /-- R298: The ASR instruction shifts a register arithmetically right. -/
  | iAsr (k : Side) (i n : Nat) (d s1 s2 : Nat)
  /-- R298: The MIN instruction takes the signed minimum of two registers. -/
  | iMin (k : Side) (i n : Nat) (d s1 s2 : Nat)
  /-- R298: The MAX instruction takes the signed maximum of two registers. -/
  | iMax (k : Side) (i n : Nat) (d s1 s2 : Nat)
  /-- R298: The CMP instruction compares two registers and sets the flags only. -/
  | iCmp (k : Side) (i n : Nat) (s1 s2 : Nat)
  /-- R298: The ADDI instruction adds a sign-extended immediate to a register. -/
  | iAddi (k : Side) (i n : Nat) (d s1 imm : Nat)
  /-- R298: The LDI instruction loads a sign-extended immediate into a register. -/
  | iLdi (k : Side) (i n : Nat) (d imm : Nat)
  /-- R298: The LUI instruction loads an immediate into the upper half of a register. -/
  | iLui (k : Side) (i n : Nat) (d imm : Nat)
  /-- R299: The SETA instruction sets an address register from an immediate or a register. -/
  | iSeta (k : Side) (i n : Nat) (a : Nat) (src : Bool) (r imm : Nat)
  /-- R299: The SETM instruction sets an address register's mode and step. -/
  | iSetm (k : Side) (i n : Nat) (a mode step : Nat)
  /-- R299: The SETBL instruction sets an address register's base and length. -/
  | iSetbl (k : Side) (i n : Nat) (a len : Nat)
  /-- R299: The MOVRA instruction copies an address register into a general register. -/
  | iMovra (k : Side) (i n : Nat) (d a : Nat)
  /-- R299: The LD instruction loads one element into a general register. -/
  | iLd (k : Side) (i n : Nat) (d mem a : Nat) (u sg : Bool)
  /-- R299: The ST instruction stores the low 14 bits of a register as an element. -/
  | iSt (k : Side) (i n : Nat) (r mem a : Nat) (u : Bool)
  /-- R299: The LDQ instruction loads a quad into a register pair. -/
  | iLdq (k : Side) (i n : Nat) (d mem a : Nat) (u : Bool)
  /-- R299: The STQ instruction stores a register pair as a quad. -/
  | iStq (k : Side) (i n : Nat) (r mem a : Nat) (u : Bool)
  /-- R312: A READ request is taken at its target and answered with READ_RESP, or with an error status. -/
  | ringRead (k : Side) (h : Header)
  /-- R312: A WRITE request is performed at its target and answered with WRITE_ACK. -/
  | ringWrite (k : Side) (h : Header) (data : List Nat) (poison : Nat)
  /-- R312: A WRITE_POSTED request is performed at its target with no answer. -/
  | ringWritePosted (k : Side) (h : Header) (data : List Nat) (poison : Nat)
  /-- R312: A REG_READ request reads a register and is answered with REG_RESP. -/
  | ringRegRead (k : Side) (h : Header)
  /-- R312: A REG_WRITE request writes a register and is answered with WRITE_ACK. -/
  | ringRegWrite (k : Side) (h : Header)
  /-- R321: A CURSOR request sets a receive channel's cursor at a store or commons port. -/
  | ringCursor (k : Side) (h : Header)
  /-- R548: An MSG packet at HOSTIF raises a message vector from 128 to 255, or is dropped. -/
  | ringMsg (k : Side) (h : Header)
  /-- R312: A request with an unassigned opcode is answered UNSUPPORTED, or counted and dropped. -/
  | unassignedOpcode (k : Side) (posted : Bool)
  /-- R330: A READ_RESP reaches its initiator, or is dropped as late. -/
  | ringReadResp (k : Side) (n tag status : Nat) (data : List Nat)
  /-- R330: A WRITE_ACK reaches its initiator, or is dropped as late. -/
  | ringWriteAck (k : Side) (n tag status : Nat)
  /-- R330: A REG_RESP reaches its initiator, or is dropped as late. -/
  | ringRegResp (k : Side) (n tag status data : Nat)
  /-- R328: An initiator interface injects a request once its response space and tag are free. -/
  | requestInject (k : Side) (op : Nat) (h : Header) (reg : Nat) (room : Bool)
  /-- R329: A request's timer expires; it is withdrawn or answered TIMEOUT, and its tag is quarantined. -/
  | requestTimeout (k : Side) (n tag : Nat)
  /-- R329: A quarantined tag whose request is 586 epochs old is freed. -/
  | tagQuarantineExpiry (k : Side) (n tag : Nat)
  /-- R316: A router discards a packet whose age reaches 586 epochs. -/
  | packetLifetimeDiscard (k : Side) (birth : Nat)
  /-- R317: An epoch of 4,096 slots ends and the epoch count advances. -/
  | epochBoundary (k : Side)
  /-- R321: A guaranteed flit is ejected to a receive channel and passed to its consumer, or discarded. -/
  | guaranteedFlit (k : Side) (hub stop chan queue : Nat) (data : List Nat) (poison ring hop slot : Nat)
  /-- R323: An access to RING.WIN_DATA reads or writes a timetable word and may advance ADDR; a write during a copy waits. -/
  | ringWinDataAccess (k : Side) (write : Bool) (v : Nat)
  /-- R349: A local store port accepts a read or write request to its memory layer's local store. -/
  | localStoreRequest (k : Side) (i p : Nat) (write : Bool) (block be : Nat) (data : List Nat)
  /-- R350: A local store port returns a response in order, with a status. -/
  | localStoreResponse (k : Side) (i p : Nat)
  /-- R344: A bank's refresh falls due and is scheduled at the rate that its temperature sets. -/
  | refresh (k : Side) (m made : Nat)
  /-- R371: An error event leaves the 64-event queue and enters the correctable or uncorrectable log. -/
  | errorLogEntry (k : Side)
  /-- R377: A scrubber visits one codeword, writes back a correction or poisons an uncorrectable word. -/
  | scrubVisit (k : Side) (n : Nat)
  /-- R378: A scrubber lap exceeds its limit, and the LAP interrupt is set. -/
  | lapLimitExceeded (k : Side) (n : Nat)
  /-- R383: A link corrects eight errors in one symbol within 1 ms; its vias are failed and remapped, or the link degrades or retires. -/
  | persistentSymbol (k : Side) (link symbol mask : Nat)
  /-- R387: Arming CODE.INJECT makes the next full write of a codeword store it with symbols inverted. -/
  | injectArm (k : Side) (target symA symB : Nat)
  /-- R388: LOG_CLEAR.CE empties the correctable log and clears CE_OVERFLOW. -/
  | logClearCe (k : Side)
  /-- R388: LOG_CLEAR.UE empties the uncorrectable log and clears UE_OVERFLOW. -/
  | logClearUe (k : Side)
  /-- R400: A DMA.CMD with OP 0 or 6 to 15 does nothing. -/
  | dmaNone (k : Side) (n op : Nat)
  /-- R398: The START command makes an Idle channel Running at LIST. -/
  | dmaStart (k : Side) (n : Nat)
  /-- R398: The STOP command makes a Running channel Stopping. -/
  | dmaStop (k : Side) (n : Nat)
  /-- R398: The RESUME command reruns the group at CUR of a Stopped or Halted channel. -/
  | dmaResume (k : Side) (n : Nat)
  /-- R398: The SKIP command marks the group at CUR SKIPPED and goes on with the next. -/
  | dmaSkip (k : Side) (n : Nat)
  /-- R398: The RESET command makes a Stopped or Halted channel Idle. -/
  | dmaReset (k : Side) (n : Nat)
  /-- R389: A channel has read a whole group, checks it and starts its data requests. -/
  | dmaGroupRead (k : Side) (n : Nat)
  /-- R397: A response to a channel's data request arrives and may mark entries BAD or halt the channel. -/
  | dmaDataResponse (k : Side) (n i p ext : Nat) (data : List Nat)
  /-- R389: A group's data has moved, and its status bytes are written back. -/
  | dmaGroupComplete (k : Side) (n : Nat)
  /-- R398: Every outstanding response of a Stopping channel has arrived, and it is Stopped. -/
  | dmaStopped (k : Side) (n : Nat)
  /-- R412: A leaf re-encryption completes, and stalled writes proceed. -/
  | leafReencryptComplete (k : Side) (region leaf : Nat)
  /-- R420: KEYS.REKEY_CTL.GO queues a rekey of a region into a new slot, or is refused. -/
  | rekeyRequest (k : Side) (region new : Nat) (clear : Bool)
  /-- R417: The rekey engine re-encrypts one leaf under the new key and moves the boundary. -/
  | rekeyLeaf (k : Side)
  /-- R420: A rekey completes; the new slot is written into REGION.KEY and the old slot is cleared. -/
  | rekeyComplete (k : Side)
  /-- R423: A KEYS.KCMD with an unassigned OP does nothing. -/
  | kcmdNone (k : Side) (slot op entry : Nat)
  /-- R423: The GENERATE command fills a key slot from the random generator. -/
  | generate (k : Side) (slot entry : Nat)
  /-- R423: The LOAD command fills a key slot from a secret-zone entry. -/
  | keyLoad (k : Side) (slot entry : Nat)
  /-- R423: The UNWRAP command unwraps the KWRAP words into a key slot. -/
  | unwrap (k : Side) (slot entry : Nat)
  /-- R423: The STORE command writes a key slot to a secret-zone entry. -/
  | keyStore (k : Side) (slot entry : Nat)
  /-- R423: The CLEAR command empties a key slot. -/
  | keyClear (k : Side) (slot entry : Nat)
  /-- R423: The ERASE command empties a secret-zone entry. -/
  | keyErase (k : Side) (slot entry : Nat)
  /-- R422: The 100 µs hold of a link's previous key slot ends. -/
  | previousKeyHoldExpiry (k : Side) (a : Nat)
  /-- R431: Setting LANE.CFG.ENABLE starts a lane's bring-up at stage 1. -/
  | laneEnable (k : Side) (n v : Nat)
  /-- R434: Clearing LANE.CFG.ENABLE powers a lane down to Off. -/
  | laneDisable (k : Side) (n : Nat)
  /-- R432: A lane's bring-up stage completes, and the next stage or Ready follows. -/
  | laneStageComplete (k : Side) (n : Nat) (inv : Bool) (height width : Nat)
  /-- R433: A bring-up stage overruns its limit; the attempt ends, or the lane goes to Failed. -/
  | laneStageOverrun (k : Side) (n : Nat)
  /-- R433: 100 µs after a failed attempt, the lane restarts at stage 1. -/
  | laneRestart (k : Side) (n : Nat)
  /-- R434: A Ready lane loses signal for 1 µs and returns to stage 1. -/
  | lossOfSignal (k : Side) (n : Nat)
  /-- R434: Sixteen invalid sync headers within 64 blocks return a Lacing lane to stage 3. -/
  | syncHeaderErrors (k : Side) (n : Nat)
  /-- R434: A lane's reference clock stops, and the lane waits at stage 1 with cause REF. -/
  | referenceClockStopped (k : Side) (q ab : Nat)
  /-- R440: A change of LANE.TEST.LOOP sets a loop and restarts the lane at stage 1. -/
  | laneLoop (k : Side) (n v : Nat)
  /-- R440: TEST.GEN replaces the lane's transmit data with a PRBS pattern. -/
  | prbsGenerator (k : Side) (n gen pattern : Nat)
  /-- R440: TEST.CHK compares the receive data with a pattern and counts errors. -/
  | prbsChecker (k : Side) (n chk pattern : Nat) (lock : Bool) (errors : Nat)
  /-- R440: TEST.INJECT inverts one transmitted bit. -/
  | laneInject (k : Side) (n : Nat)
  /-- R438: A Lacing training frame is received, and its polarity, lane and equalisation requests are acted on. -/
  | trainingFrame (k : Side) (n : Nat) (inv : Bool) (f : Nat)
  /-- R441: A Lacing marker block is received, checked and removed from the stream. -/
  | marker (k : Side) (n f : Nat)
  /-- R444: A Lacing unit is received, checked, decrypted and accepted, or fails and is NAKed. -/
  | lacingUnitReceive (k : Side) (l seq : Nat) (guaranteed enc kp : Bool) (cls queue : Nat) (flits : List Nat) (tag ce : Nat) (broken : Bool) (far : Nat)
  /-- R445: A Lacing sender sends a unit once it holds enough credits. -/
  | lacingUnitSend (k : Side) (l cls n : Nat)
  /-- R446: A CREDIT block is received; it returns credits and acknowledges, or triggers a NAK resend. -/
  | credit (k : Side) (l ack : Nat) (nak : Bool) (req rsp guar : Nat)
  /-- R446: A receiver sends a CREDIT block with ACK_SEQ within 1 µs of an acceptance. -/
  | creditSend (k : Side) (l : Nat)
  /-- R446: The NAK of a failed unit is repeated every 2 µs. -/
  | nakRepeat (k : Side) (l : Nat)
  /-- R446: ACK_SEQ has not advanced for LACE_TMO, and every unacknowledged unit is resent. -/
  | resendTimer (k : Side) (l : Nat)
  /-- R447: Setting LACE_CTL.ENABLE moves a Lacing link from Down to Training. -/
  | laceEnable (k : Side) (l : Nat)
  /-- R447: Clearing LACE_CTL.ENABLE moves a Lacing link to Down. -/
  | laceDisable (k : Side) (l : Nat)
  /-- R447: A retrain is not Up within 25 ms, and the link fails. -/
  | retrainTimeout (k : Side) (l : Nat)
  /-- R450: RWIN_CTL.GO sends a 4-byte read or write to the far device over Lacing. -/
  | rwinGo (k : Side) (l : Nat) (write : Bool)
  /-- R458: Setting MPORT.CFG.ENABLE starts a media port and its lanes, or leaves it down with FAIL. -/
  | mportEnable (k : Side) (q v : Nat)
  /-- R479: Clearing MPORT.CFG.ENABLE stops a media port and its lanes. -/
  | mportDisable (k : Side) (q : Nat)
  /-- R460: A received Ethernet frame goes to the host path or a flow, or is discarded. -/
  | frameReceive (k : Side) (q : Nat) (frame : List Nat) (fcsOk : Bool) (ce ue : Nat)
  /-- R473: A flow's buffered flits enter its guaranteed queue when the queue has room. -/
  | receiveBufferDrain (k : Side) (q e : Nat)
  /-- R461: A read of HRX_DATA takes the next host receive word. -/
  | hrxDataRead (k : Side) (q : Nat)
  /-- R462: A write of HTX_DATA adds a word to the host frame being built. -/
  | htxDataWrite (k : Side) (q v : Nat)
  /-- R462: HTX_CTL.GO sends a host frame, with a transmit timestamp if requested. -/
  | hostFrameSend (k : Side) (q len : Nat) (tsReq : Bool)
  /-- R476: The pacer's release time for a flow packet arrives, and the packet is sent, or counted late. -/
  | flowPacketRelease (k : Side) (q e : Nat)
  /-- R475: A unit arrives from a transmit channel and is narrowed and packed into packets. -/
  | transmitUnit (k : Side) (stop chan : Nat) (flits : List Nat)
  /-- R477: SDI_CTL.ENABLE starts or stops an SDI framer on its lane. -/
  | sdiEnable (k : Side) (q n v : Nat)
  /-- R477: An SDI line is received and its picture and ancillary data are delivered. -/
  | sdiLineReceive (k : Side) (q n row : Nat) (sof crcOk : Bool) (pid : Option Nat) (codes anc : List Nat)
  /-- R477: An SDI line falls due on its raster and is sent, or sent as black if late. -/
  | sdiLineTransmit (k : Side) (q n black : Nat)
  /-- R490: A monitored source has no edge for 4 vigil cycles, or a PLL loses lock, and is declared dead. -/
  | clockDead (k : Side) (n : Nat)
  /-- R487: A user PLL locks after start or reconfiguration and becomes running. -/
  | userPllLock (k : Side) (n : Nat)
  /-- R491: A write to CLK.DRST.RESET asserts or releases a user domain's reset. -/
  | domainReset (k : Side) (d : Nat) (v : Bool)
  /-- R491: CLK.DRST.FORCE connects the live selection and clears a hang, or sets FORCE_REFUSED. -/
  | domainForce (k : Side) (d : Nat)
  /-- R492: A clock gate closes once every block it feeds is bus-idle. -/
  | clockGateClose (k : Side) (user : Bool) (id : Nat)
  /-- R492: A gate request times out; the gate closes and outstanding requests are aborted. -/
  | gateTimeout (k : Side) (user : Bool) (id domain : Nat)
  /-- R496: PTP_CTL.GO submits a PTP offset that the house servo acts on, or ignores. -/
  | ptpMeasurement (k : Side)
  /-- R495: No reference measurement or edge arrives for the loss time, and the house clock goes to HOLDOVER. -/
  | referenceLoss (k : Side)
  /-- R494: A write to HOUSE_CTL moves the house clock to HOLDOVER and selects a new reference. -/
  | houseCtlWrite (k : Side) (v : Nat)
  /-- R497: TIME_CTL.SET steps device time to TIME_SET, or is refused. -/
  | timeSet (k : Side)
  /-- R500: Writing RAS_CTL.ENABLE 1 starts a raster after checks, or sets BAD. -/
  | rasterEnable (k : Side) (n : Nat)
  /-- R500: Clearing RAS_CTL.ENABLE stops a raster. -/
  | rasterDisable (k : Side) (n : Nat)
  /-- R501: FM_CTL.GO starts a frequency-meter window. -/
  | frequencyMeter (k : Side) (target ref : Nat)
  /-- R501: A frequency-meter window ends, and the count is written. -/
  | frequencyMeterDone (k : Side) (edges : Nat)
  /-- R509: POWER.OPP_REQ.GO requests an operating point, or the request is refused. -/
  | oppRequest (k : Side) (layer scale volt : Nat)
  /-- R510: The voltage ramp and scale change of an operating point complete. -/
  | oppApplied (k : Side) (layer : Nat)
  /-- R507: A regulator becomes suspect, and a layer fault puts the layer on the raw feed. -/
  | regulatorSuspect (k : Side) (layer : Nat)
  /-- R507: 20 ms after a regulator fault, one hand-over back to regulation is tried. -/
  | handBackRetry (k : Side) (layer : Nat)
  /-- R533: The REG_CMD REGULATE operation hands a layer to its regulators in Workshop or Haven. -/
  | regRegulate (k : Side) (layer : Nat)
  /-- R533: The REG_CMD RAW operation hands a layer to the raw feed in Workshop or Haven. -/
  | regRaw (k : Side) (layer : Nat)
  /-- R506: A hand-over between feeds completes, or is found to have failed. -/
  | handoverComplete (k : Side) (layer : Nat) (ok : Bool)
  /-- R511: A monitored supply leaves its limits for 1 µs, and the excursion is reported. -/
  | supplyExcursion (k : Side) (supply : Nat) (ok : Bool)
  /-- R513: A die's sensors are sampled and its decided temperature and throttle factor are recomputed. -/
  | temperatureSample (k : Side) (die : Nat) (readings : List (Option Nat))
  /-- R515: Every 125 µs, the layer powers and estimates of the thermal model are computed. -/
  | thermalModelUpdate (k : Side) (activity : List (Nat × Nat)) (powers : List Nat)
  /-- R523: 10 ms after a trip, the upper layers are raised on the raw feed with clocks stopped. -/
  | tripPowerRestore (k : Side)
  /-- R524: Every 100 ms, a device ledger write abandoned for temperature is retried. -/
  | ledgerRetry (k : Side)
  /-- R529: The FLUSH command writes the pending events to the ledger. -/
  | ledgerFlush (k : Side)
  /-- R529: 10 s after the oldest pending event, the pending buffer is flushed. -/
  | ledgerFlushTimer (k : Side)
  /-- R535: The COMMIT command writes the device configuration record, or fails a test. -/
  | ledgerCommit (k : Side)
  /-- R535: An access to LEDGER.WIN_DATA reads the record or fills the commit buffer, advancing WORD. -/
  | ledgerWinDataAccess (k : Side) (write : Bool) (v : Nat)
  /-- R527: Every 24 h of Day, the wear record is written. -/
  | wearRecord (k : Side)
  /-- R541: A cacheable host line fill becomes a one-flit READ. -/
  | hostLineFill (k : Side) (core addr : Nat)
  /-- R541: A host line write-back becomes a one-flit WRITE. -/
  | hostWriteBack (k : Side) (core addr : Nat) (data : List Nat)
  /-- R541: An uncached host load becomes a block READ. -/
  | hostUncachedLoad (k : Side) (core size addr : Nat)
  /-- R541: An uncached host store becomes a WRITE with byte enables. -/
  | hostUncachedStore (k : Side) (core addr : Nat) (data : List Nat)
  /-- R541: A 4-byte host access to register space becomes REG_READ or REG_WRITE. -/
  | hostRegisterAccess (k : Side) (core : Nat) (write : Bool) (addr v : Nat)
  /-- R541: A host instruction fetch becomes a READ; a failure is a synchronous abort. -/
  | hostInstructionFetch (k : Side) (core addr : Nat)
  /-- R541: A host access of a kind that HOSTIF does not list is answered ERROR. -/
  | hostUnsupportedAccess (k : Side) (core size addr : Nat) (data : List Nat)
  /-- R539: A UCIe flit fails its CRC and is replayed. -/
  | flitReplay (k : Side)
  /-- R539: A UCIe module fails, and the link runs at half bandwidth. -/
  | ucieModuleDown (k : Side) (m : Nat)
  /-- R539: No module is up for 10 ms, a device-level fault. -/
  | ucieLinkLost
  /-- R544: An access to a HOSTIF window issues an access at the window address, or collects it. -/
  | winDataAccess (k : Side) (core n : Nat) (write : Bool) (v : Nat)
  /-- R545: 1 µs passes without a window write, and the collected block is sent. -/
  | windowCollectTimeout (k : Side) (n : Nat)
  /-- R546: A read of HOSTIF.FENCE returns once every earlier host write is acknowledged or failed. -/
  | fence (k : Side) (core : Nat)
  /-- R549: A write to VEC_EOI ends a pending vector, and it is resent if its line is still high. -/
  | vecEoi (k : Side) (core v : Nat)
  /-- R549: A block's interrupt line rises and a message vector goes to its core. -/
  | vectorLineRise (k : Side) (v : Nat)
  /-- R549: A write to VEC_CFG that sets EN sends a pending vector's message. -/
  | vecCfgWrite (k : Side) (core v w : Nat)
  /-- R549: A vector with WAKE 1 becomes pending in Siesta and wakes the device. -/
  | wakeInterrupt
  /-- R559: A write to GPIO_OUT reaches the pads at the second pin-clock edge. -/
  | gpioOutWrite (k : Side) (w v : Nat)
  /-- R570: A write to OUT_SET sets the named GPIO_OUT bits. -/
  | outSet (k : Side) (w v : Nat)
  /-- R570: A write to OUT_CLR clears the named GPIO_OUT bits. -/
  | outClr (k : Side) (w v : Nat)
  /-- R558: A W1C write to CONFLICT clears it, and it is set again while the conflict lasts. -/
  | conflictClear (k : Side) (w v : Nat)
  /-- R560: A write of 0x5A3C to LOCK_KEY arms the pin lock. -/
  | lockKey (k : Side) (v : Nat)
  /-- R560: A LOCK_MASK write after the key locks pins until Dawn, or is refused while a turn is armed. -/
  | lockMask (k : Side) (w m : Nat)
  /-- R560: An XLOCK_MASK write after the key locks Atlas crossbar entries until Dawn. -/
  | xlockMask (k : Side) (w m : Nat)
  /-- R555: A rising edge on a frame pulse or PPS input pin is timestamped into the queue and may steer the house clock. -/
  | timestampEdge (k : Side) (n : Nat)
  /-- R570: A read of TS_S_HI removes the head timestamp entry. -/
  | tsHeadPop (k : Side)
  /-- R555: A GPI tally pad stays at one level for 1 ms and updates TALLY. -/
  | tallyDebounce (k : Side) (n : Nat) (level : Bool)
  /-- R571: A write to SPI_DATA sends one byte on the bank's SPI controller. -/
  | spiDataWrite (k : Side) (b v rx : Nat)
  /-- R571: I2C_CMD.GO transfers one I²C byte with start or stop. -/
  | i2cCommand (k : Side) (b v : Nat) (start stop read nack ack lost : Bool) (rx : Nat)
  /-- R571: A write to UART_DATA queues a byte for transmission. -/
  | uartDataWrite (k : Side) (b v : Nat)
  /-- R571: A read of UART_DATA takes one received byte. -/
  | uartDataRead (k : Side) (b : Nat)
  /-- R571: The bank UART receives a byte into its buffer, or records an error. -/
  | uartByteReceive (k : Side) (b v : Nat) (bad : Bool)
  /-- R571: The LTC reader decodes a timecode word into LTC_IN. -/
  | ltcWordReceive (k : Side) (b w : Nat)
  /-- R580: At a raster 0 frame start, the active stack snapshots mirrored sections and the standby applies the last complete exchange. -/
  | mirrorExchange (complete : Bool)
  /-- R582: The re-synchronisation window is still open after three frames, and RESYNC_FAIL is raised. -/
  | resyncFail
  /-- R597: A TEST.CTL with OP 0 or 3 to 15 does nothing. -/
  | testNone (k : Side) (op : Nat)
  /-- R596: The RUN command starts BIST in Workshop, or sets OVERRUN. -/
  | testRun (k : Side)
  /-- R596: The ABORT command ends the BIST at the next group boundary. -/
  | testAbort (k : Side)
  /-- R585: A group of 1,024 BIST patterns ends and its signature is compared. -/
  | bistGroup (k : Side) (failed : List Nat)
  /-- R591: The JTAG BYPASS instruction. -/
  | jtagBypass
  /-- R592: The JTAG IDCODE instruction returns the device identity. -/
  | jtagIdcode
  /-- R591: The JTAG SAMPLE/PRELOAD instruction captures or loads the boundary register. -/
  | jtagSamplePreload (cells : List Nat)
  /-- R591: The JTAG EXTEST instruction drives pins from the boundary register in Workshop. -/
  | jtagExtest (cells : List Nat)
  /-- R591: The JTAG CLAMP instruction in Workshop. -/
  | jtagClamp
  /-- R591: The JTAG HIGHZ instruction in Workshop. -/
  | jtagHighz
  /-- R591: The IEEE 1149.6 EXTEST_PULSE instruction on lanes in Workshop. -/
  | jtagExtestPulse (cells : List Nat)
  /-- R591: The IEEE 1149.6 EXTEST_TRAIN instruction on lanes in Workshop. -/
  | jtagExtestTrain (cells : List Nat)
  /-- R592: The JTAG LOCK_STATUS instruction returns the port's lock state. -/
  | jtagLockStatus
  /-- R594: The JTAG UNLOCK instruction with its key erases the secrets and opens the port, or is refused. -/
  | jtagUnlock (v : Nat)
  /-- R593: The JTAG DBG_ACCESS instruction issues one 4-byte access from base stop 15 on an open port. -/
  | jtagDbgAccess (k : Side) (addr : Nat) (write : Bool) (v : Nat)
  /-- R595: TEST.JTAG_CTL.RELOCK locks the JTAG port again in Workshop. -/
  | jtagRelock (k : Side)
  /-- R434: A lane reference clock that had stopped runs again, and the lane that waited at stage 1 goes on with its bring-up. -/
  | referenceClockRuns (k : Side) (q ab : Nat)
  /-- R539: A retraining UCIe link, or a failed module, comes back up, so held host requests and pending interrupts flow again. -/
  | ucieLinkRetrained (k : Side) (m rate : Nat)
  /-- R574: In the Atlas, one UCIe module that stays down for 10 ms makes its stack unreachable, a stack-level fault of that stack. -/
  | stackUnreachable (k : Side)
  /-- R545: A write to HOSTIF.WIN_ADDR_LO_n or WIN_ADDR_HI_n sends the window's collected writes as one WRITE and moves the window. -/
  | winAddrWrite (k : Side) (core n : Nat) (hi : Bool) (v : Nat)
deriving DecidableEq, Repr

end Sys2Proof
end

