-- ==== Sys2Proof/Decode.lean ====
section
/-! DEFINITION. The command that a word spells. The opcode table gives its rows no bits, so no word spells a command (log 70). -/

namespace Sys2Proof

/-- The command that an nbits-wide word w spells by the bits of the opcode table. No row of the table has bits: none. -/
def decodeTableWord (_nbits _w : Nat) : Option Instr := none

end Sys2Proof
end

