-- ==== Sys2Proof/Config.lean ====
section
/-! DEFINITION. What an implementation fixes and the spec leaves open: free values. No constant here has a body, so no proof can
rest on a value. Each is applied to a counter that State holds or to the operands it depends on (log 2). -/

namespace Sys2Proof

/-- A fresh 32-bit free value, by the number of the draw (log 2). -/
opaque Config.freeWord : Nat → Word

/-- A fresh 256-bit value of the random generator that fills a key slot, by the number of the draw (R423, log 2). -/
opaque Config.randomKey : Nat → BitVec 256

/-! ## What the fabric database and the binding tool fix (R183, R204, log 20) -/

/-- A wire of the fabric, or a point on it that configuration selects (R71, R81, R104, R107). Directions are 0 north, 1 south, 2 east, 3 west;
`col` and `row` are those of the gathering grid. -/
inductive Net where
  /-- quire output `o` of cell `c` of a gathering -/
  | cell (layer tile g c o : Nat)
  /-- the carry into cell `c` of a gathering -/
  | carry (layer tile g c : Nat)
  /-- the carry-out of the top cell of quire `q` -/
  | carryTop (layer tile g q : Nat)
  /-- the routed signal that a chain entry at quire `q` may take -/
  | carryEntry (layer tile g q : Nat)
  /-- load `j` of the crossbar of quire `q`: 8c + i is input i of cell c (LI0 to LI5, DA, DB), 66 and 67 are the enable lines, 68 and 69 the
  set/reset lines -/
  | load (layer tile g q j : Nat)
  /-- cluster input `i` of quire `q` -/
  | cluster (layer tile g q i : Nat)
  /-- the track `idx` of a length that starts at a gathering -/
  | track (layer dir len idx col row : Nat)
  /-- the same track, `k` gatherings on -/
  | tap (layer dir len idx col row k : Nat)
  /-- the long line `idx` of a gathering row -/
  | longEW (layer row idx : Nat)
  /-- the long line `idx` of a gathering column -/
  | longNS (layer col idx : Nat)
  /-- the multiplexer by which a gathering drives a long line, east-west or north-south -/
  | drive (layer : Nat) (ew : Bool) (idx col row : Nat)
  /-- the vertical entry of a logical track at its source tile -/
  | entry (layer tile id : Nat)
  /-- the arrival of a logical track at its destination tile -/
  | arrival (layer tile id : Nat)
  /-- bit `b` of the read data of a leaf-memory port; bits 128 and 129 are its error flags -/
  | leaf (layer tile m port b : Nat)
  /-- output `n` of the hard blocks that face a tile: ring stops, stream ports; in the pin-port row, 0 to 3 are FAB_n.I of its pins (R556) -/
  | hard (layer tile n : Nat)
  /-- signal `b` of the pin port in position `j` of a tile: 0 FAB_n.O, 1 FAB_n.OE (R556) -/
  | fab (layer tile j b : Nat)
deriving DecidableEq, Repr

/-- The input that a multiplexer selects, from the configuration bytes of its tile by gathering and byte; none where it selects none. -/
opaque Config.driver : Net → (Nat → Nat → Byte) → Option Net

/-- The user domain, of the eight of its layer, that clock line 0 or 1 of a quire selects; none where it selects none (R74). -/
opaque Config.quireClock : (quire line : Nat) → (Nat → Byte) → Option (BitVec 3)

/-- What the four output-selection bits of a cell put on its output `o`: 0 LW, 1 LH, 2 A, 3 B, 4 s0, 5 s1 (R104). -/
opaque Config.outputSelect : (bits o : Nat) → BitVec 3

/-- What the four carry bits of a quire's lowest cell select: 0 the cell below, 1 constant 0, 2 constant 1, 3 the routed signal (R82). -/
opaque Config.carrySelect : (bits : Nat) → BitVec 2

/-- The wire of a hinge group's position across a tile edge, in the order that the binding tool gives: image, layer, tile, direction, and
8 × group + wire (R183). -/
opaque Config.hingeWire : (image layer tile dir pos : Nat) → Option Net

/-- The settings of a leaf-memory port that a tile's configuration gives: ratio in [2:0], output register in [3], domain in [6:4] (R90, R93). -/
opaque Config.leafPort : (m port : Nat) → (Nat → Nat → Byte) → BitVec 7

/-- The user domains of the local store ports of a tile, by its configuration (R348, R613). -/
opaque Config.storePortDomains : (Nat → Nat → Byte) → List (BitVec 3)

/-- The value of a point on a combinational loop, at a draw (R71 gives none). -/
opaque Config.loopValue : (draw : Nat) → Net → Bool

/-- The value of an output of the hard blocks, at a draw. -/
opaque Config.hardValue : (draw : Nat) → Net → Bool

/-- What a vertical track carries that no driver drives, or whose wire has failed, at a draw (R108, R126). -/
opaque Config.floatValue : (draw layer tile id : Nat) → Bool

/-- Whether a user domain has an edge, at a draw: the order of edges of unrelated domains is free (log 104). -/
opaque Config.clockEdge : (draw domain : Nat) → Bool

/-- Whether the first register of a synchroniser takes a change at the first destination edge after it, at a draw (R114). -/
opaque Config.syncTakes : (draw layer tile id : Nat) → Bool

/-- What a checker of the common code answers for a codeword (R366). -/
inductive CodeClass where
  | none
  | corrected (symbol : Nat)
  | uncorrectable
  | poison
deriving DecidableEq, Repr

/-- Column of data bit i of the parity-check matrix, which the spec leaves to the vendor's table (R365). -/
opaque Config.parity : (i : Nat) → BitVec 16

/-- What a faulty checker answers for a codeword in place of R366's class, at a draw; none where it works (R57, log 106). The checker is a
source of R370 and its number in that source. -/
opaque Config.checkerFault : (draw source unit : Nat) → BitVec 144 → Option CodeClass

/-- Whether a via of a vertical data link delivers a wrong bit in the test of Dawn step 4, at a draw (R382, log 106). -/
opaque Config.viaBad : (draw link via : Nat) → Bool

/-- Whether a physical vertical track fails the test of Dawn step 4, at a draw: logical tracks 0 to 95 on their own wires, spares 96 to 101 (R125,
log 106). -/
opaque Config.trackBad : (draw boundary tile id : Nat) → Bool

/-- Whether the bridge phase that the ledger holds for a boundary passes its verification, at a draw (R58, log 106). -/
opaque Config.phaseVerified : (draw boundary : Nat) → Bool

/-- Whether a boundary can be calibrated, at a draw (R58, R70, log 106). -/
opaque Config.calibrates : (draw boundary : Nat) → Bool

/-- The capture phase that the calibration's measure, the phases of two PLLs and the temperatures give a mesochronous group, at a draw
(R117, log 108). -/
opaque Config.groupPhase : (draw key : Nat) → BitVec 16

/-- The partition of the base die that holds the loader (R69, R584, log 50). -/
opaque Config.loaderPartition : BitVec 4

/-- The key-wrapping key of the device, which derives from a fused secret and is never readable (R423, log 2). -/
opaque Config.wrappingKey : BitVec 256

/-- A word of the boot timetable at a window address, in interleaved or pooled use: R326 gives its number of slots and their destinations, not
the slots (log 58). -/
opaque Config.bootWord : (pooled : Bool) → (window : Nat) → Word

/-- The long lines that a folio's routing bits drive or read at its tile: byte r of the low 128 bits for gathering row r, and the word of the
tile column above them. Which bits select a line is fixed by the fabric database (R204, R209, log 20). -/
opaque Config.longLines : (layer tile gathering : Nat) → List Byte → BitVec 160

/-- Silicon revision (`SYS.ID.REVISION`, R551: no value is given, log 4). -/
opaque Config.revision : Nat

end Sys2Proof
end

