-- ==== Sys2Proof/Machine/State.lean ====
section
/-! DEFINITION. The state of the device as plain data: every register field, memory, mode, queue and engine that the spec names. -/

namespace Sys2Proof.Machine

/-! ## Registers -/

/-- A named register field: its bit address in the register space of a stack (block number times 0x10000 plus byte offset, times
eight, plus lowest bit), its width and its reset value. -/
structure Field where
  key : Nat
  width : Nat
  reset : Nat
deriving DecidableEq, Repr

/-- The fields that differ from their reset values: (bit address, value), bit addresses strictly rising. -/
abbrev Regs := List (Nat × Nat)

/-- The register types of R6; an LK field is an `st` field that the pin lock guards (R560). -/
inductive FType where
  | rw | ro | w1c | wo | st
deriving DecidableEq, Repr

/-- One field of a register table row. -/
structure FSpec where
  lo : Nat
  width : Nat
  ty : FType
  reset : Nat
deriving DecidableEq, Repr

/-- One row of a register table: the first block number, the number of instances, the offset, the stride and the count. -/
structure RegRow where
  block : Nat
  insts : Nat
  off : Nat
  stride : Nat
  count : Nat
  fields : List FSpec
deriving DecidableEq, Repr

/-- A sparse map: keys strictly rising, no entry equal to the value an unlisted key reads as. -/
abbrev Sparse (α : Type) := List (Nat × α)

/-! ## Modes, recovery and the ledger -/

/-- The three builds (R1). -/
inductive Build where
  | octavo | quarto | atlas
deriving DecidableEq, Repr

/-- The eight major modes (R25). -/
inductive Mode where
  | off | vigil | dawn | day | siesta | workshop | dusk | haven
deriving DecidableEq, Repr

/-- A resource of the fault levels (R42's table): a section, an engine of a layer (R271), a layer, the stack or the device. -/
inductive Resource where
  | sect (n : Nat)
  | engine (k n : Nat)
  | layer (k : Nat)
  | stack
  | device
deriving DecidableEq, Repr

/-- A recovery in progress (R43): its resource and the block and cause of the fault that started it. -/
structure Recovery where
  res : Resource
  block : Nat
  cause : Nat
deriving DecidableEq, Repr

/-- One entry of the event log (R528). -/
structure Event where
  block : Nat
  cause : Nat
  turn : Nat := 0
  level : Nat := 0
  time : Nat := 0
  data0 : Nat := 0
  data1 : Nat := 0
  data2 : Nat := 0
deriving DecidableEq, Repr

/-- One bank of a ledger record (R525): the header words and the body words, by word index. -/
structure Bank where
  magic : Nat := 0
  type : Nat := 0
  seq : Nat := 0
  length : Nat := 0
  crc : Nat := 0
  body : Sparse Nat := []
deriving DecidableEq, Repr

/-- What the user pins and transmitters do (R25, R27, R33, R60): float, safe state, or their live functions. -/
inductive Outputs where
  | float | safe | live
deriving DecidableEq, Repr

/-- The release steps of Dawn or of a stack recovery (R62, R63, R614). -/
structure Release where
  /-- index of the release step in progress, 0 to 3 -/
  idx : Nat := 0
  /-- waiting for locks -/
  locks : Bool := false
  /-- in the delay after a step -/
  delay : Bool := false
  /-- the steps belong to a stack recovery (R614) -/
  recovery : Bool := false
  active : Bool := false
deriving DecidableEq, Repr

/-- A block whose shutdown has not finished and that firmware asked to enable again (R40, R41). -/
inductive Shutdown where
  | sectionSleep (n : Nat)
  | duskBist
  | lanePower (n : Nat)
  | rail (layer : Nat)
deriving DecidableEq, Repr

/-- The mode sequencer (chapters 02 and 03) beside the SYS registers. -/
structure Sys where
  /-- the step of Dusk in progress, 0 outside Dusk (R34) -/
  duskStep : Nat := 0
  /-- this Dusk was caused by the critical temperature (R35) -/
  duskCritical : Bool := false
  /-- this Dusk was entered from Workshop, so it admits no return to Day (R29, R30) -/
  duskWorkshop : Bool := false
  /-- Dawn steps 1 to 8 run towards Workshop (R36) -/
  toWorkshop : Bool := false
  /-- the step of Siesta wake in progress, 0 otherwise (R32) -/
  siestaWake : Nat := 0
  /-- Siesta entry waits for its stop turn (R29) -/
  siestaEntry : Bool := false
  /-- what the outputs do; the override of R33 while it is not `live` -/
  outputs : Outputs := .float
  /-- release outputs of a recovery or a return waits for the next turn (R33, R614) -/
  overrideUntilTurn : Bool := false
  release : Release := {}
  /-- release set/reset has run (R60, R62) -/
  setReset : Bool := false
  /-- enable writes has run (R60, R62) -/
  writesEnabled : Bool := false
  /-- the host die is out of reset (R52 step 6, R536) -/
  hostReleased : Bool := false
  /-- the monitored supplies that are outside specification, VCC_VIGIL apart (R29, R511) -/
  suppliesOut : List Nat := []
  recoveries : List Recovery := []
  reenables : List Shutdown := []
  /-- system clocks run on the boot oscillator (R70 cause 0x01) -/
  bootClock : Bool := true
  /-- a Day request during Dusk step 4 became a Dawn request (R42) -/
  dawnAfterDusk : Bool := false
  /-- the device configuration record in force, by word: latched at Dawn step 4 (R52, R66, R67) -/
  record : Sparse Nat := []
  /-- Dawn step 4 has read the ledger (R52) -/
  ledgerRead : Bool := false
  /-- the blocks that failed the last BIST are being tested again at Dawn (R68) -/
  retest : Bool := false
deriving DecidableEq, Repr

/-- The ledger of the colophon die and its pending buffer (R525 to R530). -/
structure Ledger where
  /-- banks A and B of every record type: key 2 × type + bank -/
  banks : Sparse Bank := []
  /-- events waiting in the vigil-domain buffer, oldest first, at most 64 -/
  pend : List Event := []
  /-- device ledger writes abandoned for temperature that wait for their retry: record type, body; the event log's body is made at the
  retry (R524) -/
  retry : List (Nat × Sparse Nat) := []
  /-- the commit buffer of 384 bytes, by word (R535) -/
  commit : Sparse Nat := []
deriving DecidableEq, Repr

/-! ## Sections, planes and pages -/

/-- The states of a section (R169). `none` is a number that names no section. -/
inductive SectState where
  | none | empty | loading | torn | asleep | live | rebinding | capturing | testing | held
deriving DecidableEq, Repr

/-- A sleep or wake in progress (R38, R39), by the number of the last step completed. -/
inductive Seq where
  | idle
  | sleep (step : Nat)
  | wake (step : Nat)
deriving DecidableEq, Repr

/-- A section: its state, hold bits and descriptor (R165, R169, R172, R195, R203). -/
structure Section where
  state : SectState := .none
  hold : Nat := 0
  col0 : Nat := 0
  cols : Nat := 0
  row0 : Nat := 0
  rows : Nat := 0
  layerLo : Nat := 0
  layerCnt : Nat := 0
  parent : Nat := 0
  root : Bool := false
  turnDom : Nat := 0
  image : Nat := 0
  depth : Nat := 0
  hingeBase : Nat := 0
  hingeCnt : Nat := 0
  repairRaster : Nat := 0
  repairLine : Nat := 0
  startLive : Bool := false
  seq : Seq := .idle
  /-- a SLEEP written while Capturing waits for the copy (R177) -/
  sleepPending : Bool := false
  /-- a SECT.CMD waits for its last step: BUSY of the home instance (R191) -/
  cmdBusy : Bool := false
  /-- the reset pulse of R176 is running -/
  resetPulse : Bool := false
  /-- user domains that the live plane selects in the section's tiles (R613) -/
  doms : List Nat := []
  /-- the detour variant whose folios stand in the section's pages (R127, R214) -/
  detour : Option Nat := none
  /-- the tile boundaries that the variant avoids, by physical layer number and tile (R128, R214) -/
  avoids : List (Nat × Nat) := []
deriving DecidableEq, Repr

/-- The statuses of a plane (R131). -/
inductive PlaneStatus where
  | free | staging | staged | live | blocked | evicting | captured
deriving DecidableEq, Repr

/-- One plane of a nest: its status, the page it holds (0x1F none, 0x1E a capture image, R158), and whether a folio in it has
failed its digest (R229). -/
structure Plane where
  status : PlaneStatus := .free
  src : Nat := 0x1F
  bad : Bool := false
deriving DecidableEq, Repr

/-- A page command of one SECT instance: 0 idle, 1 waiting for the page links, 2 running (R137). -/
structure PgJob where
  phase : Nat := 0
  op : Nat := 0
  /-- the section that the command names -/
  sect : Nat := 0
  root : Nat := 0
  page : Nat := 0
  plane : Nat := 0
  order : Nat := 0
deriving DecidableEq, Repr

/-- A capture of one SECT instance (R148 to R152). -/
structure CapJob where
  sect : Nat := 0
  domain : Nat := 0
  live : Nat := 0
  plane : Nat := 0
  time : Nat := 0
  seq : Nat := 0
  /-- with AT_POINT, the device time of the raster position at or after which the capture edge falls (R149, R160) -/
  due : Nat := 0
  /-- 0 none, 1 armed, 2 copying, 3 ready, 4 copying although released, 5 the edge waits for a turn's application edge (R244) -/
  phase : Nat := 0
deriving DecidableEq, Repr

/-- An access of a leaf-memory port: the location of its 128-bit word, the bits it writes (0 for a read), and the unit of the word that it reads
(R90, R94). -/
structure LeafAccess where
  loc : Nat := 0
  mask : BitVec 128 := 0
  unit : Nat := 0
deriving DecidableEq, Repr

/-- A port of a leaf memory: the settings in force, its read data with its flags in bits 128 (correctable), 129 (uncorrectable) and 130 (error),
the optional output register, and its last access (R90 to R96). -/
structure LeafPort where
  ratio : Nat := 0
  outReg : Bool := false
  domain : Nat := 0
  data : BitVec 131 := 0
  out : BitVec 131 := 0
  last : Option LeafAccess := none
deriving DecidableEq, Repr

/-- The fabric of the logic layers: configuration planes, state banks, golden digests, page store, hinge tables. -/
structure Fabric where
  /-- configuration bytes: folio key × 4,096 + byte -/
  planeMem : List Host.Cell := []
  /-- state banks of 256 bits: folio key (R134) -/
  banks : Sparse (BitVec 256) := []
  /-- golden digest of each folio in a plane: folio key (R207) -/
  golden : Sparse Nat := []
  /-- page store bytes: memory layer index × 2^31 + offset (R133) -/
  pageStore : List Host.Cell := []
  /-- rewrite-safe flags of stored folios: (memory layer index × 16 + slot) × 32,768 + i (R206) -/
  rewriteSafe : Sparse Bool := []
  /-- hinge tables: logic layer index × 65,536 + word (R184) -/
  hinges : Sparse Nat := []
  /-- leaf words of capture images: instance × 2^44 + byte location (R150) -/
  capLeaf : List Host.Cell := []
  /-- the checkers' laps: folios read in the lap of logic layer index i at key i, and the time the lap began at key 16 + i (R228,
  R231) -/
  checkPos : Sparse Nat := []
  /-- bridge registers of the tracks that arrive at a tile: (layer × 2,048 + tile) × 128 + logical track; bit 0 the source end, bit 1 the
  destination end, bit 2 the second register of a synchroniser, bit 3 that the first has let one edge pass (R108, R111, R114) -/
  bridge : Sparse Nat := []
  /-- the value of each Hold last wire at the last edge at which its hinge was open, where it is 1 (R179, R180) -/
  latched : Sparse Nat := []
  /-- leaf-memory ports: ((layer × 2,048 + tile) × 4 + memory) × 2 + port (R90, R93) -/
  ports : Sparse LeafPort := []
deriving DecidableEq, Repr

/-- The page and capture engines (chapter 06). -/
structure Pages where
  planes : Sparse Plane := []
  jobs : Sparse PgJob := []
  caps : Sparse CapJob := []
  order : Nat := 0
deriving DecidableEq, Repr

/-! ## The loader -/

/-- One entry of the colophon directory: 0 FREE, 1 WRITING, 2 VALID (R215). -/
structure DirEntry where
  state : Nat := 0
  first : Nat := 0
  len : Nat := 0
  crc : Nat := 0
deriving DecidableEq, Repr

/-- The loader, its fetch and upload engines and the colophon image area (chapter 08). -/
structure Loader where
  dir : Sparse DirEntry := []
  /-- image area bytes: block × 131,072 + offset (R215) -/
  image : List Host.Cell := []
  /-- the colophon die can be read (R70 cause 0x05) -/
  readable : Bool := true
  /-- the running job: 0 none, 1 LOAD, 2 REBIND, 3 RESTART, 5 VERIFY, 6 a binding copy of Dawn -/
  job : Nat := 0
  jobImage : Nat := 0
  jobDigest : Nat := 0
  jobStartLive : Bool := false
  /-- the sections of the image that Check passed: the extent of the fence (R218) -/
  fence : List Section := []
  /-- blocks of the colophon die that a read has found uncorrectable, until they are programmed anew (R221, log 101) -/
  unreadable : List Nat := []
  /-- the image that a delete in progress frees (R227) -/
  delImage : Nat := 0
  /-- the registers phase waits while a turn is armed (R217) -/
  waitTurn : Bool := false
  /-- index of the next default binding of Dawn step 9, and the cause with which the last one ended, until the step has acted on it (R59,
  R70, R223) -/
  dawnIndex : Nat := 0
  dawnCause : Option Nat := none
  /-- the fetch in progress: section, page, plane -/
  fetchRoot : Nat := 0
  fetchPage : Nat := 0
  fetchPlane : Nat := 0
  /-- the image number of the open upload -/
  upImage : Nat := 0
  /-- words received and the words of the 64 KiB buffer not yet programmed, oldest first -/
  upCount : Nat := 0
  upBuffer : List Nat := []
  upProgrammed : Nat := 0
  upOverflow : Bool := false
  /-- a commit (2) or delete (4) in progress (R226) -/
  upBusyOp : Nat := 0
  /-- repairs: root of the nest, and the plane being prepared, 4 while none is Free (R230) -/
  repairs : List (Nat × Nat) := []
  /-- folios waiting for a rewrite: folio key of the plane (R229) -/
  rewrites : List Nat := []
  /-- thermal model (R213): size, matrix entries by index, and section entries (number, idle, coef) -/
  thermalN : Nat := 0
  thermal : Sparse Nat := []
  thermalSect : List (Nat × Nat × Nat) := []
deriving DecidableEq, Repr

/-! ## Turns -/

/-- The device turns of R249. -/
inductive DevTurn where
  | repair (root plane : Nat)
  | detour (root plane : Nat)
  | stopSiesta
  | stopDusk
  | stopCritical
  | safeOutput
  | degraded (variant : Nat)
  | switchOver
deriving DecidableEq, Repr

/-- The turn stage beside the TURN registers (chapter 09). -/
structure Turn where
  /-- the armed device turn, if the armed turn is one -/
  dev : Option DevTurn := Option.none
  /-- device turns that wait, in the order in which they were made -/
  waiting : List DevTurn := []
  /-- the number of the armed turn -/
  num : Nat := 0
  /-- the instant fixed by the check, device time in ns -/
  instant : Nat := 0
  /-- the raster of a turn placed on a raster -/
  raster : Option Nat := Option.none
  /-- the raster of an armed device turn was running when the turn was armed (R250) -/
  rasterRan : Bool := false
  /-- the last examination has passed -/
  examined : Bool := false
  /-- turns applied in the running second (R252) -/
  thisSecond : Nat := 0
  /-- an applied timetable item waits for the epoch boundary (R245); the variant that a degraded-timetable turn names -/
  ttPending : Bool := false
  ttVariant : Option Nat := Option.none
  /-- applied CHMAP items wait for the same boundary (R449) -/
  chmapPending : Bool := false
  /-- the armed turn is one of a pair that Mirror armed on both stacks (R579) -/
  mirrored : Bool := false
deriving DecidableEq, Repr

/-! ## Memory and integrity -/

/-- What a codeword holds beside its data (R366, R367): nothing wrong, an error confined to one symbol, an uncorrectable error, or
the poison pattern. The parity matrix is not in the spec (R365), so a codeword is modelled by its data and this mark (log 10). -/
inductive Health where
  | ok
  | symbol (j : Nat)
  | uncorrectable
  | poison
deriving DecidableEq, Repr

/-- An error event on its way to the logs (R371). -/
structure ErrEvent where
  ue : Bool
  source : Nat
  loc : Nat
  symbol : Nat
deriving DecidableEq, Repr

/-- An entry of an error log (R371). -/
structure LogEntry where
  source : Nat
  loc : Nat
  symbol : Nat
  count : Nat
  first : Nat
deriving DecidableEq, Repr

/-- A vertical data link's record (R386): its spares (via served, 0xFF free, 0xFE failed), unspared symbol and state. -/
structure VLink where
  spares : List Nat := [0xFF, 0xFF, 0xFF, 0xFF, 0xFF, 0xFF, 0xFF, 0xFF]
  unspared : Nat := 0xFF
  state : Nat := 0
  ce : Nat := 0
deriving DecidableEq, Repr

/-- A via remap in progress: link, via, spare index, and epoch boundaries still to pass (R383). -/
structure Remap where
  link : Nat
  via : Nat
  spare : Nat
  left : Nat
deriving DecidableEq, Repr

/-- Error logs, scrubbers and vertical links (chapter 14). -/
structure Integrity where
  queue : List ErrEvent := []
  ceLog : List LogEntry := []
  ueLog : List LogEntry := []
  /-- next codeword of each scrubber (0 to 3 memory layers, 4 commons) and the time its lap began -/
  scrubPos : Sparse Nat := []
  lapStart : Sparse Nat := []
  lapOver : Sparse Bool := []
  vlinks : Sparse VLink := []
  remaps : List Remap := []
  /-- links to be retired at the next epoch boundary (R384) -/
  retire : List Nat := []
  /-- vertical tracks: spare assignments by (boundary index × 1,200 + tile) × 8 + byte (R128) -/
  vtracks : Sparse Nat := []
  /-- logical tracks that have failed and have no spare: (layer × 2,048 + tile of the destination) × 128 + track (R127, R128) -/
  badTracks : List Nat := []
  /-- capture phase of bridge groups, signed 16 bits in 2 ps units, by boundary index × 65,536 + tile × 12 + group, and one more than the
  time at which it last moved (R117) -/
  phases : Sparse Nat := []
  phaseAt : Sparse Nat := []
deriving DecidableEq, Repr

/-! ## Clocks -/

/-- Clocks, the house servo and the frequency meter beside the CLK registers (chapter 19). -/
structure Clk where
  /-- device time has started at Dawn step 8 (R493) -/
  started : Bool := false
  /-- seconds latched by a read of TIME_NS (R503) -/
  latched : Nat := 0
  /-- user PLLs, by number, that locked when they last ran (R487) -/
  pllLocked : List Nat := []
  /-- user PLLs stopped by R175 or by EN 0, or not yet locked after a reconfiguration: idle sources (R490) -/
  pllIdle : List Nat := []
  /-- user domains that FORCE connected to a source that gives no edges: stopped without a hang until a turn selects a running one (R491) -/
  forced : List Nat := []
  /-- times of the PTP measurements accepted within the last second, newest first (R496) -/
  accepted : List Nat := []
  /-- consecutive measurements within LOCK_NS, and beyond STEP (R495, R496) -/
  within : Nat := 0
  beyond : Nat := 0
  /-- time of the last reference edge or measurement, when there is one (R495) -/
  lastRef : Option Nat := Option.none
  /-- HOUSE_FREQ after each of the last sixteen measurements, newest first (R495) -/
  freqs : List Nat := []
  /-- the part of a nanosecond that the servo's corrections have summed to, in units of 1 ÷ 8,192,000,000 ns: 8 ns × 1/65,536 ppm (R493, R503) -/
  frac : Nat := 0
  /-- nanoseconds that the block has run, whatever steps device time has made: elapsed time is measured by it -/
  up : Nat := 0
  /-- the source that the frequency meter's window counts (R501) -/
  meterRef : Nat := 0
deriving DecidableEq, Repr

/-! ## Filter engines (chapters 10 and 11) -/

/-- The three-register operations of R298. -/
inductive AluOp where
  | add | sub | and | or | xor | shl | shr | asr | min | max | cmp
deriving DecidableEq, Repr

/-- An instruction of a filter engine with its fields (R283 to R299). -/
inductive FeOp where
  | nop | halt | signal
  | br (cond target : Nat) | brl (target : Nat) | jr (s1 : Nat)
  | rep (len count : Nat) | repr (len s2 : Nat) | reti
  | waitm (port mark : Nat) | mfs (d spr : Nat) | mts (s1 spr : Nat)
  | pushq (mem a : Nat) (u : Bool) (port cnt : Nat) | sendq (mem a : Nat) (u : Bool) (port mark : Nat)
  | inq (d port : Nat) | outq (sh port mark : Nat) (clr uns : Bool)
  | tap (ya ca : Nat) (uy uc mv neg cq sy sc clr : Bool)
  | macq (xa ya : Nat) (ux uy neg sx sy clr : Bool)
  | mace (acc mem a1 ac : Nat) (u1 uc neg s1 sc clr : Bool)
  | clra (mask : Nat) | movag (d acc sh : Nat) (rnd : Bool) | movga (acc s1 : Nat) | shfa (mask sh : Nat)
  | staq (mem a : Nat) (u : Bool) (sh : Nat) (uns clr : Bool) | suma (acc : Nat)
  | alu (f : AluOp) (d s1 s2 : Nat) | addi (d s1 imm : Nat) | ldi (d imm : Nat) | lui (d imm : Nat)
  | seta (a : Nat) (src : Bool) (s imm : Nat) | setm (a mode step : Nat) | setbl (a len : Nat) | movra (d a : Nat)
  | ld (d mem a : Nat) (u sg : Bool) | st (s mem a : Nat) (u : Bool) | ldq (d mem a : Nat) (u : Bool) | stq (s mem a : Nat) (u : Bool)
deriving DecidableEq, Repr

/-- An instruction in flight: its address, the element addresses fixed in stage D, and what stage O has read (R262). -/
structure FeSlot where
  op : FeOp
  pc : Nat := 0
  adr : Nat := 0
  adr2 : Nat := 0
  vals : List Nat := []
  mark : Nat := 0
deriving DecidableEq, Repr

/-- An open repeat level: LS, LE, LC and whether its first iteration is over, so that fetches come from the loop cache (R265). -/
structure FeLevel where
  start : Nat
  last : Nat
  left : Nat
  cached : Bool := false
deriving DecidableEq, Repr

/-- The instruction in stage F: its word, and whether its fetch met an uncorrectable error or the poison pattern (R262, R269). -/
structure FeFetch where
  word : Nat
  bad : Bool := false
deriving DecidableEq, Repr

/-- One bank of an engine: the banked state of R260. -/
structure FeBank where
  a : Sparse Nat := []
  mode : Sparse Nat := []
  step : Sparse Nat := []
  base : Sparse Nat := []
  len : Sparse Nat := []
  g : Sparse Nat := []
  /-- accumulators as 48-bit two's complement -/
  acc : Sparse Nat := []
  flags : Nat := 0
  /-- open repeat levels, innermost first -/
  levels : List FeLevel := []
  pc : Nat := 0
  /-- the instruction fetched at `pc`, which would issue in the next cycle; none right after a start or an entry (R262, R267) -/
  f : Option FeFetch := Option.none
  /-- the instructions in stages O, E and W of the next cycle -/
  o : Option FeSlot := Option.none
  e : Option FeSlot := Option.none
  w : Option FeSlot := Option.none
  /-- the next instruction stands in a delay slot; the target of a taken branch -/
  slot : Bool := false
  target : Option Nat := Option.none
  /-- issues already made of the PUSHQ at `pc` (R291) -/
  issued : Nat := 0
  /-- HALT has issued (R289) -/
  halting : Bool := false
deriving DecidableEq, Repr

/-- A quad of a stream port with its mark (R272). -/
structure Quad where
  data : Nat
  mark : Nat
deriving DecidableEq, Repr

/-- One filter engine (R260, R278). Its memories lie in `Stack.mem`; its loop cache never differs from P while it is used
(R265). -/
structure Engine where
  /-- STATE of R278: 0 Reset, 1 Stopped, 2 Running, 3 Halted, 4 Trapped -/
  st : Nat := 0
  shadow : Bool := false
  main : FeBank := {}
  shad : FeBank := {}
  ie : Nat := 0
  /-- IP bit 0: DOORBELL is pending -/
  bell : Bool := false
  thresh : Nat := 0
  dbv : Nat := 0
  /-- stream-port FIFOs, oldest first: 0 to 3 IN, 4 to 7 OUT -/
  fifos : Sparse (List Quad) := []
  /-- STALL of R282 -/
  stall : Nat := 0
  /-- its memories are being zero-filled (R279) -/
  filling : Bool := false
deriving DecidableEq, Repr

/-- What a command answers to whoever sent it: a status (R313) and data words. The model's own output latch (log 5). -/
structure Answer where
  status : Nat := 0
  data : List Nat := []
deriving DecidableEq, Repr

/-! ## Encryption (chapter 16) -/

/-- A quarantined range (R415): its region, level (0 data-tag codeword, 1 leaf, j + 1 upper level j), first location and blocks. -/
structure Quar where
  region : Nat
  level : Nat
  loc : Nat
  blocks : Nat
deriving DecidableEq, Repr

/-- A rekey request (R420); a request that waits for a slot has none. -/
structure Rekey where
  region : Nat
  new : Option Nat
  clear : Bool := false
deriving DecidableEq, Repr

/-- A write that stalls while its leaf is re-encrypted (R412): device address, the bytes of one block with their enables, whether it came
through a cursor, and the header of the request to answer once it is done. -/
structure StalledWrite where
  addr : Nat
  data : List (Nat × Bool)
  cursor : Bool
  req : Option Header := Option.none
deriving DecidableEq, Repr

/-- Key slots, the secret zone, region roots, quarantine and rekeys (chapter 16). A key k is held as k + 1, and 0 is no key. -/
structure Keys where
  slots : Sparse Nat := []
  zone : Sparse Nat := []
  /-- root counters: region × 64 + node (R405) -/
  root : Sparse Nat := []
  quar : List Quar := []
  /-- regions wholly quarantined by overflow -/
  quarWhole : List Nat := []
  rekey : Option Rekey := Option.none
  rekeyQueue : List Rekey := []
  /-- the first leaf not yet rekeyed -/
  boundLeaf : Nat := 0
  /-- leaves being re-encrypted: region, leaf (R412) -/
  reenc : List (Nat × Nat) := []
  stalled : List StalledWrite := []
  /-- counters that have ended: region, level, and the child beneath the counter; writes there are refused until a rekey passes (R414) -/
  ended : List (Nat × Nat × Nat) := []
  /-- previous key slots of links, kept for 100 µs: KEYATTR, slot (R422) -/
  previous : List (Nat × Nat) := []
deriving DecidableEq, Repr

/-! ## Rings (chapter 12) -/

/-- One tag of an initiator interface (R328, R329): 0 free, 1 accepted and not injected, 2 injected, 3 quarantined; its BIRTH; whether its
request has waited for tokens and is counted in WAITS (R338); and the device time at which its timer expires. -/
structure RingTag where
  st : Nat := 0
  birth : Nat := 0
  waited : Bool := false
  due : Nat := 0
deriving DecidableEq, Repr

/-- A non-guaranteed packet on the rings (R309, R311, R315): its header with the opcode, the router that it names, the routing fields, and where
it stands: hub index, stop (none at the hub), the ring on whose input it waits (0 CW, 1 CCW, 2 + n spine ring n; none for an initiator's
or target's own queue), its virtual channel, and whether it has left the rings at its destination. -/
structure Packet where
  op : Nat
  head : Header
  dhub : Nat
  dstop : Option Nat
  /-- DIR and DDIR: counter-clockwise -/
  dir : Bool := false
  ddir : Bool := false
  spine : Nat := 0
  hub : Nat
  at_ : Option Nat
  ring : Option Nat := none
  vc : Nat := 0
  arrived : Bool := false
deriving DecidableEq, Repr

/-- A cursor of a receive channel (R321): its device address and the flits left. -/
structure Cursor where
  addr : Nat := 0
  left : Nat := 0
deriving DecidableEq, Repr

/-- A timetable variant of the variant store (R337): its number, ring and hop, the queues it drops, and its table entries. -/
structure Variant where
  num : Nat
  ring : Nat
  hop : Nat
  dropped : List Nat
  entries : List (Nat × Nat)
deriving DecidableEq, Repr

/-- Rings, timetables, interfaces and channels beside the RING registers (chapter 12). -/
structure Rings where
  /-- tags: 1,024 × interface + tag -/
  tags : Sparse RingTag := []
  /-- regulator buckets in sixteenths of a token (R327) -/
  tokens : Sparse Nat := []
  /-- timetable entries (R323): stop tables at (hub × 64 + router) × 4,096 + slot, hub tables at 2^24 + hub × 4,096 + slot, queue
  descriptors at 2^25 + (hub × 32 + stop) × 32 + queue -/
  live : Sparse Nat := []
  staged : Sparse Nat := []
  /-- window writes that wait for the copy to finish (R325) -/
  waiting : List (Nat × Nat) := []
  /-- guaranteed queues: (hub × 32 + stop) × 32 + queue, flits oldest first (R321, R322) -/
  queues : Sparse (List Nat) := []
  /-- cursors: (hub × 32 + stop) × 32 + channel -/
  cursors : Sparse Cursor := []
  variants : List Variant := []
  /-- non-guaranteed packets in flight or arrived (R309, R315) -/
  packets : List Packet := []
deriving DecidableEq, Repr

/-! ## DMA engine (chapter 15) -/

/-- An entry of a DMA list with the address it was read from (R390). -/
structure DmaEntry where
  at_ : Nat
  addr : Nat
  dest : Bool
  last : Bool
  finish : Bool
  int : Bool
  op : Nat
  len : Nat
  param : Nat
  reserved : Bool
deriving DecidableEq, Repr

/-- What a DMA channel holds beside its registers: the group it has read and how far its data has moved (R389, R395 to R398). -/
structure DmaChan where
  /-- entries of the group read, none before the group is read -/
  entries : List DmaEntry := []
  /-- address of the entry after the group -/
  next : Nat := 0
  /-- requests answered OK: 2^15 × entry + piece -/
  answered : Sparse Bool := []
  /-- source bytes read, by offset in the source stream -/
  buf : Sparse Nat := []
  /-- statuses that entries have received, by index (R394) -/
  status : Sparse Nat := []
  /-- an overlapping COPY: 0 no, 1 in ascending order, 2 in descending order (R396) -/
  overlap : Nat := 0
  /-- a STOP command waits for Stopped (R400) -/
  stopCmd : Bool := false
  /-- responses that have arrived while Stopping (R395, R398) -/
  late : Nat := 0
deriving DecidableEq, Repr

/-! ## Lanes and Lacing (chapter 17) -/

/-- A serial lane beside its registers (R431 to R438). -/
structure Lane where
  /-- 100 µs of pause after a failed attempt (R433) -/
  waiting : Bool := false
  /-- stage 1 waits for the reference clock (R434) -/
  refWait : Bool := false
  /-- end of a power-down in progress (R41) -/
  downUntil : Nat := 0
  /-- polarity of the last training frames and how many came in a row (R435) -/
  inverted : Bool := false
  run : Nat := 0
  /-- what the far end's training frames and markers say (R437, R438, R441) -/
  farRole : Option Bool := Option.none
  farWidth : Nat := 0
  /-- frames in a row with RX_READY -/
  readyRun : Nat := 0
  /-- the ST fields being sent: two bits each for PRE, MAIN, POST1, POST2 -/
  st : Nat := 0
deriving DecidableEq, Repr

/-- A unit of a Lacing link, in plaintext (R442). -/
structure LaceUnit where
  /-- its packet count; SEQ is its low 12 bits (R453) -/
  count : Nat
  guaranteed : Bool
  cls : Nat
  queue : Nat
  /-- effective KEYATTR and the key slot and key phase it was sent under (R452, R453) -/
  attr : Nat
  slot : Nat
  kp : Bool
  flits : List Nat
deriving DecidableEq, Repr

/-- A Lacing link beside its registers (R445 to R450). -/
structure Lace where
  /-- units sent and not acknowledged, oldest first, and the next of them to resend (R446) -/
  replay : List LaceUnit := []
  resend : Option Nat := Option.none
  /-- resends of the oldest unacknowledged unit -/
  resends : Nat := 0
  /-- when the resend timer last began: a first unit went out, ACK_SEQ advanced, or the units were sent again (R446) -/
  since : Nat := 0
  /-- how many of the last units of `replay` have not been sent since the retrain (R448) -/
  unsent : Nat := 0
  /-- tag of the remote window's request at interface 13, whether it is a write, and which word of its block it names (R450) -/
  rwinTag : Nat := 0
  rwinWrite : Bool := false
  rwinWord : Nat := 0
  /-- packets waiting to be sent: requests, responses; guaranteed flits with their far queue (R449) -/
  req : List (List Nat) := []
  rsp : List (List Nat) := []
  guar : List (Nat × Nat) := []
  /-- credits held (R445) -/
  crReq : Nat := 0
  crRsp : Nat := 0
  crGuar : Nat := 0
  /-- packet count of the next unit to send, and of the next unit expected -/
  txCount : Nat := 0
  rxCount : Nat := 0
  /-- a failed unit: everything is discarded until the expected SEQ -/
  discarding : Bool := false
  /-- credits to return in the next CREDIT -/
  owedReq : Nat := 0
  owedRsp : Nat := 0
  owedGuar : Nat := 0
  /-- an acceptance waits for its acknowledgement -/
  ackDue : Bool := false
  /-- guaranteed buffer: far queue and flit, oldest first -/
  rxGuar : List (Nat × Nat) := []
  /-- times of the retrains of the last second (R447) -/
  retrains : List Nat := []
  /-- LAST_RX of the far end's training frames (R438) -/
  farLastRx : Nat := 4095
  /-- far requests whose writes wait for a re-encryption: their responses go onto this link (R412, R450) -/
  stalled : List Header := []
  /-- own key phase (R453) -/
  kp : Bool := false
  /-- the training count has ended: encrypted sending stops (R422) -/
  encStop : Bool := false
deriving DecidableEq, Repr

/-! ## Media ports (chapter 18) -/

/-- The counters and the assembly of a receive flow (R469 to R474, R479). -/
structure RxFlow where
  pkts : Nat := 0
  lost : Nat := 0
  dup : Nat := 0
  drop : Nat := 0
  /-- RTP timestamp of the frame in progress -/
  ts : Option Nat := Option.none
  /-- the line in progress: row, samples received by index (value + 1), first sequence number, port and entry of its first packet -/
  row : Option Nat := Option.none
  samples : Sparse Nat := []
  firstSeq : Nat := 0
  origin : Nat := 0
  /-- the line in progress is the first of its frame -/
  sof : Bool := false
  /-- the next header carries PREV_INC -/
  prevInc : Bool := false
  lastSeq : Option Nat := Option.none
  /-- the frame's flits wait for the WRITE_ACK of its CURSOR, whose tag this is (R474) -/
  hold : Bool := false
  tag : Nat := 0
  /-- the rest of the frame is discarded -/
  skip : Bool := false
deriving DecidableEq, Repr

/-- A unit in a port's receive buffer: its flow, its queue and the flits not yet in the queue (R473). -/
structure RxUnit where
  flow : Nat
  queue : Nat
  flits : List Nat
deriving DecidableEq, Repr

/-- A packet of a transmit flow: its release time and its header fields and payload (R475, R476). -/
structure TxPacket where
  release : Nat
  fields : List Nat
deriving DecidableEq, Repr

/-- A transmit entry's counters and waiting packets (R476). -/
structure TxFlow where
  pkts : Nat := 0
  lost : Nat := 0
  drop : Nat := 0
  late : Nat := 0
  packets : List TxPacket := []
deriving DecidableEq, Repr

/-- What the entries that share a transmit channel share: the next RTP sequence number, the frame's start and timestamp and the next
packet of the frame (R475, R476). -/
structure TxChan where
  seq : Option Nat := Option.none
  start : Nat := 0
  ts : Nat := 0
  next : Nat := 0
deriving DecidableEq, Repr

/-- An ST 2022-7 merge unit: the newest sequence number and the numbers seen in the window behind it (R472). -/
structure Merge where
  newest : Option Nat := Option.none
  seen : List Nat := []
deriving DecidableEq, Repr

/-- A media port beside its registers (R461, R462, R473, R474, R477). -/
structure MPort where
  /-- host receive buffer: the words left of each frame -/
  hrx : List (List Nat) := []
  /-- words of the host frame being built -/
  htx : List Nat := []
  buffer : List RxUnit := []
  /-- frames since each store ring became live -/
  rings : Sparse Nat := []
  /-- units that wait in each SDI framer -/
  sdi : Sparse (List (List Nat)) := []
deriving DecidableEq, Repr

/-- The media ports of a stack (chapter 18). -/
structure Media where
  ports : Sparse MPort := []
  /-- receive flows: 1,024 × port + entry; SDI framer n of a port at 512 + n -/
  rx : Sparse RxFlow := []
  /-- transmit flows: 512 × port + entry -/
  tx : Sparse TxFlow := []
  /-- transmit channels: 32 × stop + channel -/
  chans : Sparse TxChan := []
  merges : Sparse Merge := []
  /-- flow whose unit is partly in a queue, plus 1: 32 × stop + queue -/
  owner : Sparse Nat := []
deriving DecidableEq, Repr

/-! ## Pins (chapter 22) -/

/-- The serial peripherals of a bank of pins (R571): the UART's queues and the time of the last timecode word read. -/
structure Periph where
  tx : List Nat := []
  rx : List Nat := []
  ltcAt : Option Nat := Option.none
deriving DecidableEq, Repr

/-- Pads and the timestamp queue (R555, R559, R570). -/
structure Pins where
  /-- levels that the board brings to the pads, by virtual pin -/
  levels : Sparse Bool := []
  /-- in the Atlas, the pad that the crossbar gives a virtual pin: 1 + its physical pin, + 256 × its safe-state code, + 1024 × the boundary
  cell that drives it; no entry for a virtual pin without a pad (R562, R565, R591) -/
  pads : Sparse Nat := []
  /-- timestamps: pin, kind (0 frame pulse, 1 PPS), device time; oldest first -/
  ts : List (Nat × Nat × Nat) := []
  periph : Sparse Periph := []
  /-- time of the last rising edge of the house reference pin (R495) -/
  lastEdge : Option Nat := Option.none
deriving DecidableEq, Repr

/-! ## The host interface (chapter 21) -/

/-- Kinds of host access (R541). -/
inductive HostKind where
  | lineFill | writeBack | load | store | regLoad | regStore | fetch | other
deriving DecidableEq, Repr

/-- A host access: its kind, core, size in bytes, device address and data bytes (R540, R541). `window` says that a register window
makes it. -/
structure HostReq where
  kind : HostKind
  core : Nat
  size : Nat
  addr : Nat
  data : List Nat
  window : Bool := false
deriving DecidableEq, Repr

/-- A read of FENCE that waits: the tags of the earlier writes still in flight, the first non-OK status and the failures among the
writes that it covers (R546). -/
structure Fence where
  wait : List Nat
  status : Nat
  failed : Nat
deriving DecidableEq, Repr

/-- HOSTIF beside its registers. -/
structure HostIf where
  /-- collected writes of each window: bytes by device address, as value + 1 (R545) -/
  windows : Sparse (Sparse Nat) := []
  /-- the core of the last write collected by each window -/
  cores : Sparse Nat := []
  /-- accesses that wait in the host die while the link is down (R539), oldest first -/
  waiting : List HostReq := []
  /-- requests in flight, by tag of interface 0 -/
  out : Sparse (List HostReq) := []
  /-- first non-OK status and failures among the writes since the last fence (R546) -/
  fenceStatus : Nat := 0
  fenceFailed : Nat := 0
  /-- fence reads that wait, oldest first -/
  fences : List Fence := []
  /-- pending vectors whose message has not gone out (R539, R549) -/
  unsent : List Nat := []
deriving DecidableEq, Repr

/-! ## Self-test and debug (chapter 24) -/

/-- The test controller: what runs, the blocks that failed, were tested and were skipped (R584 to R590, R596). -/
structure Bist where
  /-- 0 nothing, 1 waves of Dusk, 2 waves started by TEST.CTL, 3 reduced BIST of Dawn, 4 retest of Dawn -/
  run : Nat := 0
  failed : List Nat := []
  /-- blocks tested to the end of their groups in the waves before this one -/
  tested : Nat := 0
  skipped : Nat := 0
  /-- an ABORT, a critical temperature or a Day request ends the test at the next group boundary: 0 no, 1 abort, 2 not run -/
  stop : Nat := 0
  /-- the sections of the TEST commands that run, oldest first (R589) -/
  sects : List Nat := []
  /-- identifiers that a retest tests; none for the full waves (R590) -/
  retest : List Nat := []
deriving DecidableEq, Repr

/-- The test access port (R591 to R595): the instruction, the boundary register and the result of the last debug access. -/
structure Jtag where
  ir : Nat := 0xFF
  boundary : Sparse Nat := []
  dbgStatus : Nat := 0
  dbgData : Nat := 0
  dbgDone : Bool := true
  /-- the debug access in flight: its stack and its tag of interface 15; and its address -/
  dbgOut : Option (Side × Nat) := Option.none
  dbgAddr : Nat := 0
  /-- step of R594 reached by an opening, 0 while none runs -/
  step : Nat := 0
deriving DecidableEq, Repr

/-! ## Power and temperature (chapter 20) -/

/-- A hand-over in progress (R506, R507, R533): its layer, whether it goes to regulated feed, and who asked: 0 Dawn, 1 the retry of
R507, 2 REG_CMD. -/
structure Handover where
  layer : Nat
  regulate : Bool
  who : Nat
deriving DecidableEq, Repr

/-- Feeds and operating points beside the POWER registers. -/
structure Power where
  handovers : List Handover := []
  /-- accepted operating points not yet applied: logic layer index, SCALE, VOLT (R510) -/
  opps : List (Nat × Nat × Nat) := []
  /-- layers whose regulator is suspect (R507) -/
  suspects : List Nat := []
  /-- layers that wait for the one hand-over back of R507 -/
  retries : List Nat := []
  /-- hardware trip: 0 none, 1 upper layers unpowered, 2 raised again on the raw feed, 3 unpowered until Dawn or Vigil (R522, R523) -/
  trip : Nat := 0
deriving DecidableEq, Repr

/-- Sensors and the thermal model beside the THERM registers. -/
structure Therm where
  /-- readings by sensor number (R512, R534), 12-bit two's complement, and consecutive periods without a reading -/
  sensors : Sparse Nat := []
  missing : Sparse Nat := []
  /-- sensors that have failed (R514) -/
  failed : List Nat := []
  /-- the last 64 samples of each die: time and decided value, newest first (R522) -/
  history : Sparse (List (Nat × Nat)) := []
  /-- time since when neither condition of R516 has held, plus 1 -/
  clearSince : Sparse Nat := []
  /-- time since when the temperature difference that a layer or section is held for has stayed below 20 °C, plus 1: physical layer k at k,
  section n at 16 + n (R122) -/
  coolSince : Sparse Nat := []
  /-- nanoseconds in each band of R530 since the last wear record: 5 × die + band; and the time of each die's last sample, plus 1 -/
  bands : Sparse Nat := []
  lastAt : Sparse Nat := []
  /-- turns applied since the last wear record (R530) -/
  turns : Nat := 0
deriving DecidableEq, Repr

/-! ## The Atlas pair (chapter 23) -/

/-- The part of a mirrored section in a snapshot: its number, its state banks by folio place (the folio key of plane 0), and the leaf
memories of its tiles: the first location and the listed bytes (R580). -/
structure Snapshot where
  sect : Nat
  banks : List (Nat × BitVec 256)
  leaves : List (Nat × List Host.Cell)
deriving DecidableEq, Repr

/-- A snapshot of the mirrored sections, its size in bytes, and the stack that takes it (R577, R580). -/
structure Exchange where
  taker : Side
  bytes : Nat
  parts : List Snapshot
deriving DecidableEq, Repr

/-- The exchange in recto's PINS block. -/
structure Pair where
  /-- the exchange that the active stack sent at the last frame start -/
  held : Option Exchange := Option.none
  /-- frames of raster 0 since the switch-over, while the window is open (R582) -/
  frames : Nat := 0
deriving DecidableEq, Repr

/-- One stack of the package: everything the spec gives it. -/
structure Stack where
  side : Side := .recto
  build : Build := .quarto
  mode : Mode := .off
  /-- device time in nanoseconds (R493) -/
  time : Nat := 0
  /-- number of free values drawn; the model's own field (log 2) -/
  freeCount : Nat := 0
  regs : Regs := []
  /-- store, commons, leaf memories and filter-engine memories by device location (R340), unlisted bytes read as 0 -/
  mem : List Host.Cell := []
  /-- marks of codewords by location div 16; page store codewords at 2^44 + address div 16 -/
  health : Sparse Health := []
  sys : Sys := {}
  ledger : Ledger := {}
  sections : Sparse Section := []
  fabric : Fabric := {}
  pages : Pages := {}
  loader : Loader := {}
  turn : Turn := {}
  integ : Integrity := {}
  clk : Clk := {}
  /-- engines by 192 × layer index + number -/
  engines : Sparse Engine := []
  answer : Answer := {}
  keys : Keys := {}
  rings : Rings := {}
  /-- responses waiting in the local store ports: 16 × layer index + port (R349) -/
  localPorts : Sparse (List Answer) := []
  /-- DMA channels by number -/
  dma : Sparse DmaChan := []
  lanes : Sparse Lane := []
  laces : Sparse Lace := []
  media : Media := {}
  pins : Pins := {}
  hostif : HostIf := {}
  bist : Bist := {}
  jtag : Jtag := {}
  power : Power := {}
  therm : Therm := {}
  pair : Pair := {}
deriving DecidableEq, Repr

/-- The package: the build, its stacks, the escalation in progress and the queue of waiting commands. In the Octavo and Quarto
`verso` takes no part. -/
structure State where
  build : Build
  recto : Stack
  verso : Stack
  pending : List Instr
deriving DecidableEq, Repr

/-- Why the machine stops: raised by no command but the ones NOTES.md lists under Stops. -/
inductive Fault where
  /-- Raised by no command of this model (the spec gives every command an answer); kept so that the type is not empty. Safe. -/
  | none
deriving DecidableEq, Repr

/-- Why a command is refused. -/
inductive Refusal where
  /-- The command has no meaning in the model yet. Raised by the dispatch alone. Safe. -/
  | notModelled (mnemonic : String)
deriving DecidableEq, Repr

/-- A stack right after reset: mode Off, every field at its reset value (R6 tables; log 4 for fields without one). -/
def Stack.initial (k : Side) (b : Build) : Stack := { side := k, build := b }

/-- The machine right after reset (log 1 for the build): Off, nothing listed in any memory, the queue empty. -/
def State.reset : State :=
  { build := .quarto, recto := Stack.initial .recto .quarto, verso := Stack.initial .verso .quarto, pending := [] }

end Sys2Proof.Machine
end

