-- ==== Sys2Proof/Machine/Fields.lean ====
section
/-! DEFINITION. The named fields of every register of the spec's register tables, one definition a field. A field of an
instanced block takes the instance `i` first; a field of a repeated register takes its index `n`. -/

namespace Sys2Proof.Machine

/-- R154 `PAGE_SEL.PLANE` bits [1:0], ST. -/
def SECT.PAGE_SEL_PLANE (i : Nat) (n : Nat) : Field := ⟨0x2008000 + i * 0x80000 + n * 32, 2, 0⟩
/-- R155 `PG_CMD.SECTION` bits [9:0], RW. -/
def SECT.PG_CMD_SECTION (i : Nat) : Field := ⟨0x2002000 + i * 0x80000, 10, 0⟩
/-- R155 `PG_CMD.PAGE` bits [13:10], RW. -/
def SECT.PG_CMD_PAGE (i : Nat) : Field := ⟨0x200200A + i * 0x80000, 4, 0⟩
/-- R155 `PG_CMD.PLANE` bits [15:14], RW. -/
def SECT.PG_CMD_PLANE (i : Nat) : Field := ⟨0x200200E + i * 0x80000, 2, 0⟩
/-- R155 `PG_CMD.OP` bits [17:16], RW. -/
def SECT.PG_CMD_OP (i : Nat) : Field := ⟨0x2002010 + i * 0x80000, 2, 0⟩
/-- R155 `PG_CMD.GO` bits [31:31], WO. -/
def SECT.PG_CMD_GO (i : Nat) : Field := ⟨0x200201F + i * 0x80000, 1, 0⟩
/-- R156 `PG_STATUS.BUSY` bits [0:0], RO. -/
def SECT.PG_STATUS_BUSY (i : Nat) : Field := ⟨0x2002020 + i * 0x80000, 1, 0⟩
/-- R156 `PG_STATUS.OVERRUN` bits [1:1], W1C. -/
def SECT.PG_STATUS_OVERRUN (i : Nat) : Field := ⟨0x2002021 + i * 0x80000, 1, 0⟩
/-- R156 `PG_STATUS.RESULT` bits [7:4], RO. -/
def SECT.PG_STATUS_RESULT (i : Nat) : Field := ⟨0x2002024 + i * 0x80000, 4, 0⟩
/-- R156 `PG_STATUS.DONE` bits [31:16], RO. -/
def SECT.PG_STATUS_DONE (i : Nat) : Field := ⟨0x2002030 + i * 0x80000, 16, 0⟩
/-- R157 `PLANE_STAT.STAT_0` bits [3:0], RO. -/
def SECT.PLANE_STAT_STAT_0 (i : Nat) : Field := ⟨0x2002040 + i * 0x80000, 4, 0⟩
/-- R157 `PLANE_STAT.STAT_1` bits [7:4], RO. -/
def SECT.PLANE_STAT_STAT_1 (i : Nat) : Field := ⟨0x2002044 + i * 0x80000, 4, 0⟩
/-- R157 `PLANE_STAT.STAT_2` bits [11:8], RO. -/
def SECT.PLANE_STAT_STAT_2 (i : Nat) : Field := ⟨0x2002048 + i * 0x80000, 4, 0⟩
/-- R157 `PLANE_STAT.STAT_3` bits [15:12], RO. -/
def SECT.PLANE_STAT_STAT_3 (i : Nat) : Field := ⟨0x200204C + i * 0x80000, 4, 0⟩
/-- R157 `PLANE_STAT.LIVE` bits [17:16], RO. -/
def SECT.PLANE_STAT_LIVE (i : Nat) : Field := ⟨0x2002050 + i * 0x80000, 2, 0⟩
/-- R157 `PLANE_STAT.FREE` bits [21:18], RO. -/
def SECT.PLANE_STAT_FREE (i : Nat) : Field := ⟨0x2002052 + i * 0x80000, 4, 0⟩
/-- R157 `PLANE_STAT.READY` bits [25:22], RO. -/
def SECT.PLANE_STAT_READY (i : Nat) : Field := ⟨0x2002056 + i * 0x80000, 4, 0⟩
/-- R158 `PLANE_SRC.SRC_0` bits [4:0], RO. -/
def SECT.PLANE_SRC_SRC_0 (i : Nat) : Field := ⟨0x2002060 + i * 0x80000, 5, 31⟩
/-- R158 `PLANE_SRC.SRC_1` bits [12:8], RO. -/
def SECT.PLANE_SRC_SRC_1 (i : Nat) : Field := ⟨0x2002068 + i * 0x80000, 5, 31⟩
/-- R158 `PLANE_SRC.SRC_2` bits [20:16], RO. -/
def SECT.PLANE_SRC_SRC_2 (i : Nat) : Field := ⟨0x2002070 + i * 0x80000, 5, 31⟩
/-- R158 `PLANE_SRC.SRC_3` bits [28:24], RO. -/
def SECT.PLANE_SRC_SRC_3 (i : Nat) : Field := ⟨0x2002078 + i * 0x80000, 5, 31⟩
/-- R159 `CAP_CTL.DOMAIN` bits [5:0], RW. -/
def SECT.CAP_CTL_DOMAIN (i : Nat) : Field := ⟨0x2002080 + i * 0x80000, 6, 0⟩
/-- R159 `CAP_CTL.AT_POINT` bits [6:6], RW. -/
def SECT.CAP_CTL_AT_POINT (i : Nat) : Field := ⟨0x2002086 + i * 0x80000, 1, 0⟩
/-- R159 `CAP_CTL.RASTER` bits [8:7], RW. -/
def SECT.CAP_CTL_RASTER (i : Nat) : Field := ⟨0x2002087 + i * 0x80000, 2, 0⟩
/-- R159 `CAP_CTL.RELEASE` bits [30:30], WO. -/
def SECT.CAP_CTL_RELEASE (i : Nat) : Field := ⟨0x200209E + i * 0x80000, 1, 0⟩
/-- R159 `CAP_CTL.GO` bits [31:31], WO. -/
def SECT.CAP_CTL_GO (i : Nat) : Field := ⟨0x200209F + i * 0x80000, 1, 0⟩
/-- R160 `CAP_POINT.LINE` bits [15:0], RW. -/
def SECT.CAP_POINT_LINE (i : Nat) : Field := ⟨0x20020A0 + i * 0x80000, 16, 0⟩
/-- R160 `CAP_POINT.SAMPLE` bits [31:16], RW. -/
def SECT.CAP_POINT_SAMPLE (i : Nat) : Field := ⟨0x20020B0 + i * 0x80000, 16, 0⟩
/-- R161 `CAP_STATUS.STATE` bits [2:0], RO. -/
def SECT.CAP_STATUS_STATE (i : Nat) : Field := ⟨0x20020C0 + i * 0x80000, 3, 0⟩
/-- R161 `CAP_STATUS.EARLY` bits [3:3], W1C. -/
def SECT.CAP_STATUS_EARLY (i : Nat) : Field := ⟨0x20020C3 + i * 0x80000, 1, 0⟩
/-- R161 `CAP_STATUS.PLANE` bits [5:4], RO. -/
def SECT.CAP_STATUS_PLANE (i : Nat) : Field := ⟨0x20020C4 + i * 0x80000, 2, 0⟩
/-- R161 `CAP_STATUS.CAUSE` bits [11:8], RO. -/
def SECT.CAP_STATUS_CAUSE (i : Nat) : Field := ⟨0x20020C8 + i * 0x80000, 4, 0⟩
/-- R162 `CAP_PTR.PTR` bits [23:0], RW. -/
def SECT.CAP_PTR_PTR (i : Nat) : Field := ⟨0x20020E0 + i * 0x80000, 24, 0⟩
/-- R162 `CAP_DATA.DATA` bits [31:0], RO. -/
def SECT.CAP_DATA_DATA (i : Nat) : Field := ⟨0x2002100 + i * 0x80000, 32, 0⟩
/-- R162 `CAP_LEN.LEN` bits [23:0], RO. -/
def SECT.CAP_LEN_LEN (i : Nat) : Field := ⟨0x2002120 + i * 0x80000, 24, 0⟩
/-- R190 `CMD.SECTION` bits [9:0], RW. -/
def SECT.CMD_SECTION (i : Nat) : Field := ⟨0x2000000 + i * 0x80000, 10, 0⟩
/-- R190 `CMD.OP` bits [19:16], RW. -/
def SECT.CMD_OP (i : Nat) : Field := ⟨0x2000010 + i * 0x80000, 4, 0⟩
/-- R190 `CMD.GO` bits [31:31], WO. -/
def SECT.CMD_GO (i : Nat) : Field := ⟨0x200001F + i * 0x80000, 1, 0⟩
/-- R191 `CMD_STATUS.BUSY` bits [0:0], RO. -/
def SECT.CMD_STATUS_BUSY (i : Nat) : Field := ⟨0x2000020 + i * 0x80000, 1, 0⟩
/-- R191 `CMD_STATUS.OVERRUN` bits [1:1], W1C. -/
def SECT.CMD_STATUS_OVERRUN (i : Nat) : Field := ⟨0x2000021 + i * 0x80000, 1, 0⟩
/-- R191 `CMD_STATUS.RESULT` bits [7:4], RO. -/
def SECT.CMD_STATUS_RESULT (i : Nat) : Field := ⟨0x2000024 + i * 0x80000, 4, 0⟩
/-- R192 `COUNT.HOMED` bits [10:0], RO. -/
def SECT.COUNT_HOMED (i : Nat) : Field := ⟨0x2000040 + i * 0x80000, 11, 0⟩
/-- R192 `COUNT.FREE` bits [26:16], RO. -/
def SECT.COUNT_FREE (i : Nat) : Field := ⟨0x2000050 + i * 0x80000, 11, 1024⟩
/-- R193 `FAULT.SECTION` bits [9:0], RO. -/
def SECT.FAULT_SECTION (i : Nat) : Field := ⟨0x2000060 + i * 0x80000, 10, 0⟩
/-- R193 `FAULT.CAUSE` bits [23:16], RO. -/
def SECT.FAULT_CAUSE (i : Nat) : Field := ⟨0x2000070 + i * 0x80000, 8, 0⟩
/-- R193 `FAULT.LOST` bits [30:30], W1C. -/
def SECT.FAULT_LOST (i : Nat) : Field := ⟨0x200007E + i * 0x80000, 1, 0⟩
/-- R193 `FAULT.VALID` bits [31:31], W1C. -/
def SECT.FAULT_VALID (i : Nat) : Field := ⟨0x200007F + i * 0x80000, 1, 0⟩
/-- R194 `HINGE_ADDR.ADDR` bits [15:0], RW. -/
def SECT.HINGE_ADDR_ADDR (i : Nat) : Field := ⟨0x2000080 + i * 0x80000, 16, 0⟩
/-- R194 `HINGE_ADDR.AUTOINC` bits [16:16], RW. -/
def SECT.HINGE_ADDR_AUTOINC (i : Nat) : Field := ⟨0x2000090 + i * 0x80000, 1, 0⟩
/-- R194 `HINGE_DATA.DATA` bits [31:0], RO. -/
def SECT.HINGE_DATA_DATA (i : Nat) : Field := ⟨0x20000A0 + i * 0x80000, 32, 0⟩
/-- R615 `INT.FAULT` bits [0:0], W1C. -/
def SECT.INT_FAULT (i : Nat) : Field := ⟨0x20000C0 + i * 0x80000, 1, 0⟩
/-- R615 `INT.PG_DONE` bits [1:1], W1C. -/
def SECT.INT_PG_DONE (i : Nat) : Field := ⟨0x20000C1 + i * 0x80000, 1, 0⟩
/-- R615 `INT.CAP_DONE` bits [2:2], W1C. -/
def SECT.INT_CAP_DONE (i : Nat) : Field := ⟨0x20000C2 + i * 0x80000, 1, 0⟩
/-- R615 `INT_EN.EN` bits [2:0], RW. -/
def SECT.INT_EN_EN (i : Nat) : Field := ⟨0x20000E0 + i * 0x80000, 3, 0⟩
/-- R195 `DESCW0.COL0` bits [5:0], RO. -/
def SECT.DESCW0_COL0 (i : Nat) (n : Nat) : Field := ⟨0x2010000 + i * 0x80000 + n * 128, 6, 0⟩
/-- R195 `DESCW0.COLS` bits [13:8], RO. -/
def SECT.DESCW0_COLS (i : Nat) (n : Nat) : Field := ⟨0x2010008 + i * 0x80000 + n * 128, 6, 0⟩
/-- R195 `DESCW0.ROW0` bits [20:16], RO. -/
def SECT.DESCW0_ROW0 (i : Nat) (n : Nat) : Field := ⟨0x2010010 + i * 0x80000 + n * 128, 5, 0⟩
/-- R195 `DESCW0.ROWS` bits [28:24], RO. -/
def SECT.DESCW0_ROWS (i : Nat) (n : Nat) : Field := ⟨0x2010018 + i * 0x80000 + n * 128, 5, 0⟩
/-- R195 `DESCW0.VALID` bits [31:31], RO. -/
def SECT.DESCW0_VALID (i : Nat) (n : Nat) : Field := ⟨0x201001F + i * 0x80000 + n * 128, 1, 0⟩
/-- R195 `DESCW1.LAYER_LO` bits [3:0], RO. -/
def SECT.DESCW1_LAYER_LO (i : Nat) (n : Nat) : Field := ⟨0x2010020 + i * 0x80000 + n * 128, 4, 0⟩
/-- R195 `DESCW1.LAYER_CNT` bits [6:4], RO. -/
def SECT.DESCW1_LAYER_CNT (i : Nat) (n : Nat) : Field := ⟨0x2010024 + i * 0x80000 + n * 128, 3, 0⟩
/-- R195 `DESCW1.PARENT` bits [17:8], RO. -/
def SECT.DESCW1_PARENT (i : Nat) (n : Nat) : Field := ⟨0x2010028 + i * 0x80000 + n * 128, 10, 0⟩
/-- R195 `DESCW1.ROOT` bits [18:18], RO. -/
def SECT.DESCW1_ROOT (i : Nat) (n : Nat) : Field := ⟨0x2010032 + i * 0x80000 + n * 128, 1, 0⟩
/-- R195 `DESCW1.TURN_DOM` bits [31:20], RO. -/
def SECT.DESCW1_TURN_DOM (i : Nat) (n : Nat) : Field := ⟨0x2010034 + i * 0x80000 + n * 128, 12, 0⟩
/-- R195 `DESCW2.IMAGE` bits [15:0], RO. -/
def SECT.DESCW2_IMAGE (i : Nat) (n : Nat) : Field := ⟨0x2010040 + i * 0x80000 + n * 128, 16, 0⟩
/-- R195 `DESCW2.DEPTH` bits [23:16], RO. -/
def SECT.DESCW2_DEPTH (i : Nat) (n : Nat) : Field := ⟨0x2010050 + i * 0x80000 + n * 128, 8, 0⟩
/-- R195 `DESCW3.HINGE_BASE` bits [15:0], RO. -/
def SECT.DESCW3_HINGE_BASE (i : Nat) (n : Nat) : Field := ⟨0x2010060 + i * 0x80000 + n * 128, 16, 0⟩
/-- R195 `DESCW3.HINGE_CNT` bits [31:16], RO. -/
def SECT.DESCW3_HINGE_CNT (i : Nat) (n : Nat) : Field := ⟨0x2010070 + i * 0x80000 + n * 128, 16, 0⟩
/-- R196 `RUN.LIVE` bits [0:0], ST. -/
def SECT.RUN_LIVE (i : Nat) (n : Nat) : Field := ⟨0x2030000 + i * 0x80000 + n * 32, 1, 0⟩
/-- R196 `RUN.PLL_KEEP` bits [1:1], ST. -/
def SECT.RUN_PLL_KEEP (i : Nat) (n : Nat) : Field := ⟨0x2030001 + i * 0x80000 + n * 32, 1, 0⟩
/-- R196 `RUN.RESET` bits [2:2], ST. -/
def SECT.RUN_RESET (i : Nat) (n : Nat) : Field := ⟨0x2030002 + i * 0x80000 + n * 32, 1, 0⟩
/-- R197 `STATE.STATE` bits [3:0], RO. -/
def SECT.STATE_STATE (i : Nat) (n : Nat) : Field := ⟨0x2038000 + i * 0x80000 + n * 32, 4, 0⟩
/-- R197 `STATE.MIXED` bits [4:4], RO. -/
def SECT.STATE_MIXED (i : Nat) (n : Nat) : Field := ⟨0x2038004 + i * 0x80000 + n * 32, 1, 0⟩
/-- R197 `STATE.RESET` bits [5:5], RO. -/
def SECT.STATE_RESET (i : Nat) (n : Nat) : Field := ⟨0x2038005 + i * 0x80000 + n * 32, 1, 0⟩
/-- R197 `STATE.BYPASS` bits [6:6], RO. -/
def SECT.STATE_BYPASS (i : Nat) (n : Nat) : Field := ⟨0x2038006 + i * 0x80000 + n * 32, 1, 0⟩
/-- R197 `STATE.HINGES` bits [7:7], RO. -/
def SECT.STATE_HINGES (i : Nat) (n : Nat) : Field := ⟨0x2038007 + i * 0x80000 + n * 32, 1, 0⟩
/-- R197 `STATE.HOLD` bits [13:8], RO. -/
def SECT.STATE_HOLD (i : Nat) (n : Nat) : Field := ⟨0x2038008 + i * 0x80000 + n * 32, 6, 0⟩
/-- R231 `CMD.IMAGE` bits [15:0], RW. -/
def LOAD.CMD_IMAGE : Field := ⟨0x100000, 16, 0⟩
/-- R231 `CMD.OP` bits [19:16], RW. -/
def LOAD.CMD_OP : Field := ⟨0x100010, 4, 0⟩
/-- R231 `CMD.GO` bits [31:31], WO. -/
def LOAD.CMD_GO : Field := ⟨0x10001F, 1, 0⟩
/-- R231 `CMD_DIGEST.DIGEST` bits [31:0], RW. -/
def LOAD.CMD_DIGEST_DIGEST : Field := ⟨0x100020, 32, 0⟩
/-- R231 `STATUS.BUSY` bits [0:0], RO. -/
def LOAD.STATUS_BUSY : Field := ⟨0x100040, 1, 0⟩
/-- R231 `STATUS.OVERRUN` bits [1:1], W1C. -/
def LOAD.STATUS_OVERRUN : Field := ⟨0x100041, 1, 0⟩
/-- R231 `STATUS.PHASE` bits [4:2], RO. -/
def LOAD.STATUS_PHASE : Field := ⟨0x100042, 3, 0⟩
/-- R231 `STATUS.CAUSE` bits [15:8], RO. -/
def LOAD.STATUS_CAUSE : Field := ⟨0x100048, 8, 0⟩
/-- R231 `STATUS.SECTION` bits [25:16], RO. -/
def LOAD.STATUS_SECTION : Field := ⟨0x100050, 10, 0⟩
/-- R231 `PROGRESS.BYTES` bits [31:0], RO. -/
def LOAD.PROGRESS_BYTES : Field := ⟨0x100060, 32, 0⟩
/-- R231 `FAULT_ADDR.ADDR` bits [31:0], RO. -/
def LOAD.FAULT_ADDR_ADDR : Field := ⟨0x100080, 32, 0⟩
/-- R231 `FETCH.SECTION` bits [9:0], RW. -/
def LOAD.FETCH_SECTION : Field := ⟨0x100100, 10, 0⟩
/-- R231 `FETCH.PAGE` bits [13:10], RW. -/
def LOAD.FETCH_PAGE : Field := ⟨0x10010A, 4, 0⟩
/-- R231 `FETCH.PLANE` bits [15:14], RW. -/
def LOAD.FETCH_PLANE : Field := ⟨0x10010E, 2, 0⟩
/-- R231 `FETCH.GO` bits [31:31], WO. -/
def LOAD.FETCH_GO : Field := ⟨0x10011F, 1, 0⟩
/-- R231 `FETCH_STATUS.BUSY` bits [0:0], RO. -/
def LOAD.FETCH_STATUS_BUSY : Field := ⟨0x100120, 1, 0⟩
/-- R231 `FETCH_STATUS.OVERRUN` bits [1:1], W1C. -/
def LOAD.FETCH_STATUS_OVERRUN : Field := ⟨0x100121, 1, 0⟩
/-- R231 `FETCH_STATUS.RESULT` bits [7:4], RO. -/
def LOAD.FETCH_STATUS_RESULT : Field := ⟨0x100124, 4, 0⟩
/-- R231 `UP_CTL.IMAGE` bits [15:0], RW. -/
def LOAD.UP_CTL_IMAGE : Field := ⟨0x100180, 16, 0⟩
/-- R231 `UP_CTL.OP` bits [18:16], RW. -/
def LOAD.UP_CTL_OP : Field := ⟨0x100190, 3, 0⟩
/-- R231 `UP_CTL.GO` bits [31:31], WO. -/
def LOAD.UP_CTL_GO : Field := ⟨0x10019F, 1, 0⟩
/-- R231 `UP_LEN.LEN` bits [31:0], RW. -/
def LOAD.UP_LEN_LEN : Field := ⟨0x1001A0, 32, 0⟩
/-- R231 `UP_DIGEST.DIGEST` bits [31:0], RW. -/
def LOAD.UP_DIGEST_DIGEST : Field := ⟨0x1001C0, 32, 0⟩
/-- R231 `UP_DATA.DATA` bits [31:0], WO. -/
def LOAD.UP_DATA_DATA : Field := ⟨0x1001E0, 32, 0⟩
/-- R231 `UP_STATUS.BUSY` bits [0:0], RO. -/
def LOAD.UP_STATUS_BUSY : Field := ⟨0x100200, 1, 0⟩
/-- R231 `UP_STATUS.OPEN` bits [1:1], RO. -/
def LOAD.UP_STATUS_OPEN : Field := ⟨0x100201, 1, 0⟩
/-- R231 `UP_STATUS.OVERFLOW` bits [2:2], W1C. -/
def LOAD.UP_STATUS_OVERFLOW : Field := ⟨0x100202, 1, 0⟩
/-- R231 `UP_STATUS.RESULT` bits [7:4], RO. -/
def LOAD.UP_STATUS_RESULT : Field := ⟨0x100204, 4, 0⟩
/-- R231 `UP_STATUS.SPACE` bits [31:16], RO. -/
def LOAD.UP_STATUS_SPACE : Field := ⟨0x100210, 16, 16384⟩
/-- R231 `CHK_CTL.ENABLE` bits [0:0], RW. -/
def LOAD.CHK_CTL_ENABLE : Field := ⟨0x100280, 1, 1⟩
/-- R231 `CHK_LAP.LAP` bits [23:0], RO. -/
def LOAD.CHK_LAP_LAP (n : Nat) : Field := ⟨0x1002A0 + n * 32, 24, 0⟩
/-- R231 `CHK_EVENT.ADDR` bits [31:0], RO. -/
def LOAD.CHK_EVENT_ADDR : Field := ⟨0x100340, 32, 0⟩
/-- R231 `CHK_INFO.PLANE` bits [1:0], RO. -/
def LOAD.CHK_INFO_PLANE : Field := ⟨0x100360, 2, 0⟩
/-- R231 `CHK_INFO.ACTION` bits [4:2], RO. -/
def LOAD.CHK_INFO_ACTION : Field := ⟨0x100362, 3, 0⟩
/-- R231 `CHK_INFO.SECTION` bits [25:16], RO. -/
def LOAD.CHK_INFO_SECTION : Field := ⟨0x100370, 10, 0⟩
/-- R231 `CHK_INFO.LOST` bits [30:30], W1C. -/
def LOAD.CHK_INFO_LOST : Field := ⟨0x10037E, 1, 0⟩
/-- R231 `CHK_INFO.VALID` bits [31:31], W1C. -/
def LOAD.CHK_INFO_VALID : Field := ⟨0x10037F, 1, 0⟩
/-- R231 `DIR_SEL.IMAGE` bits [15:0], RW. -/
def LOAD.DIR_SEL_IMAGE : Field := ⟨0x100380, 16, 0⟩
/-- R231 `DIR_STATE.STATE` bits [1:0], RO. -/
def LOAD.DIR_STATE_STATE : Field := ⟨0x1003A0, 2, 0⟩
/-- R231 `DIR_STATE.FIRST` bits [31:16], RO. -/
def LOAD.DIR_STATE_FIRST : Field := ⟨0x1003B0, 16, 0⟩
/-- R231 `DIR_LEN.LEN` bits [31:0], RO. -/
def LOAD.DIR_LEN_LEN : Field := ⟨0x1003C0, 32, 0⟩
/-- R231 `DIR_DIGEST.CRC` bits [31:0], RO. -/
def LOAD.DIR_DIGEST_CRC : Field := ⟨0x1003E0, 32, 0⟩
/-- R231 `DIR_FREE.BLOCKS` bits [15:0], RO. -/
def LOAD.DIR_FREE_BLOCKS : Field := ⟨0x100400, 16, 65024⟩
/-- R253 `ARM.CANCEL` bits [30:30], WO. -/
def TURN.ARM_CANCEL : Field := ⟨0x8001E, 1, 0⟩
/-- R253 `ARM.GO` bits [31:31], WO. -/
def TURN.ARM_GO : Field := ⟨0x8001F, 1, 0⟩
/-- R253 `POINT.RASTER` bits [1:0], RW. -/
def TURN.POINT_RASTER : Field := ⟨0x80020, 2, 0⟩
/-- R253 `POINT.WHEN` bits [3:2], RW. -/
def TURN.POINT_WHEN : Field := ⟨0x80022, 2, 0⟩
/-- R253 `POINT_POS.LINE` bits [15:0], RW. -/
def TURN.POINT_POS_LINE : Field := ⟨0x80040, 16, 0⟩
/-- R253 `POINT_POS.SAMPLE` bits [31:16], RW. -/
def TURN.POINT_POS_SAMPLE : Field := ⟨0x80050, 16, 0⟩
/-- R253 `POINT_FRAME.FRAME` bits [31:0], RW. -/
def TURN.POINT_FRAME_FRAME : Field := ⟨0x80060, 32, 0⟩
/-- R253 `STATUS.PENDING` bits [0:0], RO. -/
def TURN.STATUS_PENDING : Field := ⟨0x80080, 1, 0⟩
/-- R253 `STATUS.STAGE` bits [3:1], RO. -/
def TURN.STATUS_STAGE : Field := ⟨0x80081, 3, 0⟩
/-- R253 `STATUS.DEVICE` bits [4:4], RO. -/
def TURN.STATUS_DEVICE : Field := ⟨0x80084, 1, 0⟩
/-- R253 `STATUS.ARM_REFUSED` bits [5:5], W1C. -/
def TURN.STATUS_ARM_REFUSED : Field := ⟨0x80085, 1, 0⟩
/-- R253 `STATUS.LOCKED_WRITE` bits [6:6], W1C. -/
def TURN.STATUS_LOCKED_WRITE : Field := ⟨0x80086, 1, 0⟩
/-- R253 `STATUS.RATE` bits [7:7], W1C. -/
def TURN.STATUS_RATE : Field := ⟨0x80087, 1, 0⟩
/-- R253 `RESULT.REASON` bits [4:0], RO. -/
def TURN.RESULT_REASON : Field := ⟨0x800A0, 5, 0⟩
/-- R253 `RESULT.ITEM` bits [31:5], RO. -/
def TURN.RESULT_ITEM : Field := ⟨0x800A5, 27, 0⟩
/-- R253 `RESULT_SEQ.SEQ` bits [15:0], RO. -/
def TURN.RESULT_SEQ_SEQ : Field := ⟨0x800C0, 16, 0⟩
/-- R253 `RESULT_SEQ.DEVICE` bits [16:16], RO. -/
def TURN.RESULT_SEQ_DEVICE : Field := ⟨0x800D0, 1, 0⟩
/-- R253 `RESULT_SEQ.REFUSED` bits [17:17], RO. -/
def TURN.RESULT_SEQ_REFUSED : Field := ⟨0x800D1, 1, 0⟩
/-- R253 `SEQ.LIVE` bits [15:0], RO. -/
def TURN.SEQ_LIVE : Field := ⟨0x800E0, 16, 0⟩
/-- R253 `SEQ.NEXT` bits [31:16], RO. -/
def TURN.SEQ_NEXT : Field := ⟨0x800F0, 16, 0⟩
/-- R253 `INSTANT_NS.NS` bits [31:0], RO. -/
def TURN.INSTANT_NS_NS : Field := ⟨0x80100, 32, 0⟩
/-- R253 `INSTANT_S.S_LO` bits [31:0], RO. -/
def TURN.INSTANT_S_S_LO : Field := ⟨0x80120, 32, 0⟩
/-- R253 `INSTANT_S_HI.S_HI` bits [15:0], RO. -/
def TURN.INSTANT_S_HI_S_HI : Field := ⟨0x80140, 16, 0⟩
/-- R253 `ITEMS.COUNT` bits [23:0], RO. -/
def TURN.ITEMS_COUNT : Field := ⟨0x80160, 24, 0⟩
/-- R253 `COUNT.APPLIED` bits [31:0], RO. -/
def TURN.COUNT_APPLIED : Field := ⟨0x80180, 32, 0⟩
/-- R253 `RATE.LAST_S` bits [7:0], RO. -/
def TURN.RATE_LAST_S : Field := ⟨0x801A0, 8, 0⟩
/-- R253 `INT.APPLIED` bits [0:0], W1C. -/
def TURN.INT_APPLIED : Field := ⟨0x801C0, 1, 0⟩
/-- R253 `INT.FAILED` bits [1:1], W1C. -/
def TURN.INT_FAILED : Field := ⟨0x801C1, 1, 0⟩
/-- R253 `INT.PREEMPTED` bits [2:2], W1C. -/
def TURN.INT_PREEMPTED : Field := ⟨0x801C2, 1, 0⟩
/-- R253 `INT_EN.EN` bits [2:0], RW. -/
def TURN.INT_EN_EN : Field := ⟨0x801E0, 3, 0⟩
/-- R281 `CMD.ENGINE` bits [7:0], RW. -/
def FE.CMD_ENGINE (i : Nat) : Field := ⟨0x2800000 + i * 0x80000, 8, 0⟩
/-- R281 `CMD.OP` bits [11:8], RW. -/
def FE.CMD_OP (i : Nat) : Field := ⟨0x2800008 + i * 0x80000, 4, 0⟩
/-- R281 `CMD.FILL` bits [12:12], RW. -/
def FE.CMD_FILL (i : Nat) : Field := ⟨0x280000C + i * 0x80000, 1, 0⟩
/-- R281 `CMD.GO` bits [31:31], WO. -/
def FE.CMD_GO (i : Nat) : Field := ⟨0x280001F + i * 0x80000, 1, 0⟩
/-- R281 `CMD_STATUS.BUSY` bits [0:0], RO. -/
def FE.CMD_STATUS_BUSY (i : Nat) : Field := ⟨0x2800020 + i * 0x80000, 1, 0⟩
/-- R281 `CMD_STATUS.OVERRUN` bits [1:1], W1C. -/
def FE.CMD_STATUS_OVERRUN (i : Nat) : Field := ⟨0x2800021 + i * 0x80000, 1, 0⟩
/-- R281 `CMD_STATUS.RESULT` bits [7:4], RO. -/
def FE.CMD_STATUS_RESULT (i : Nat) : Field := ⟨0x2800024 + i * 0x80000, 4, 0⟩
/-- R281 `INT_EN.TRAP` bits [0:0], RW. -/
def FE.INT_EN_TRAP (i : Nat) : Field := ⟨0x2800040 + i * 0x80000, 1, 0⟩
/-- R281 `INT_EN.SIGNAL` bits [1:1], RW. -/
def FE.INT_EN_SIGNAL (i : Nat) : Field := ⟨0x2800041 + i * 0x80000, 1, 0⟩
/-- R281 `INT_EN.HALT` bits [2:2], RW. -/
def FE.INT_EN_HALT (i : Nat) : Field := ⟨0x2800042 + i * 0x80000, 1, 0⟩
/-- R281 `EXT_ERR.COUNT` bits [15:0], RO. -/
def FE.EXT_ERR_COUNT (i : Nat) : Field := ⟨0x2800060 + i * 0x80000, 16, 0⟩
/-- R281 `TRAP_PEND.PEND` bits [31:0], W1C. -/
def FE.TRAP_PEND_PEND (i : Nat) (n : Nat) : Field := ⟨0x2800800 + i * 0x80000 + n * 32, 32, 0⟩
/-- R281 `SIGNAL_PEND.PEND` bits [31:0], W1C. -/
def FE.SIGNAL_PEND_PEND (i : Nat) (n : Nat) : Field := ⟨0x2800900 + i * 0x80000 + n * 32, 32, 0⟩
/-- R281 `HALT_PEND.PEND` bits [31:0], W1C. -/
def FE.HALT_PEND_PEND (i : Nat) (n : Nat) : Field := ⟨0x2800A00 + i * 0x80000 + n * 32, 32, 0⟩
/-- R282 `STATUS.STATE` bits [2:0], RO. -/
def FE.STATUS_STATE (i : Nat) (n : Nat) : Field := ⟨0x2808000 + i * 0x80000 + n * 256, 3, 0⟩
/-- R282 `STATUS.SHADOW` bits [3:3], RO. -/
def FE.STATUS_SHADOW (i : Nat) (n : Nat) : Field := ⟨0x2808003 + i * 0x80000 + n * 256, 1, 0⟩
/-- R282 `STATUS.DEPTH` bits [5:4], RO. -/
def FE.STATUS_DEPTH (i : Nat) (n : Nat) : Field := ⟨0x2808004 + i * 0x80000 + n * 256, 2, 0⟩
/-- R282 `STATUS.STALL` bits [7:6], RO. -/
def FE.STATUS_STALL (i : Nat) (n : Nat) : Field := ⟨0x2808006 + i * 0x80000 + n * 256, 2, 0⟩
/-- R282 `STATUS.PC` bits [19:8], RO. -/
def FE.STATUS_PC (i : Nat) (n : Nat) : Field := ⟨0x2808008 + i * 0x80000 + n * 256, 12, 0⟩
/-- R282 `TRAP.CAUSE` bits [3:0], RO. -/
def FE.TRAP_CAUSE (i : Nat) (n : Nat) : Field := ⟨0x2808020 + i * 0x80000 + n * 256, 4, 0⟩
/-- R282 `TRAP.PC` bits [15:4], RO. -/
def FE.TRAP_PC (i : Nat) (n : Nat) : Field := ⟨0x2808024 + i * 0x80000 + n * 256, 12, 0⟩
/-- R282 `TRAP.DOUBLE` bits [16:16], RO. -/
def FE.TRAP_DOUBLE (i : Nat) (n : Nat) : Field := ⟨0x2808030 + i * 0x80000 + n * 256, 1, 0⟩
/-- R282 `START_PC.PC` bits [11:0], RW. -/
def FE.START_PC_PC (i : Nat) (n : Nat) : Field := ⟨0x2808040 + i * 0x80000 + n * 256, 12, 0⟩
/-- R282 `DOORBELL.VALUE` bits [31:0], RW. -/
def FE.DOORBELL_VALUE (i : Nat) (n : Nat) : Field := ⟨0x2808060 + i * 0x80000 + n * 256, 32, 0⟩
/-- R282 `PORT_CLK.IN_DOM_0` bits [2:0], RW. -/
def FE.PORT_CLK_IN_DOM_0 (i : Nat) (n : Nat) : Field := ⟨0x2808080 + i * 0x80000 + n * 256, 3, 0⟩
/-- R282 `PORT_CLK.IN_DOM_1` bits [5:3], RW. -/
def FE.PORT_CLK_IN_DOM_1 (i : Nat) (n : Nat) : Field := ⟨0x2808083 + i * 0x80000 + n * 256, 3, 0⟩
/-- R282 `PORT_CLK.IN_DOM_2` bits [8:6], RW. -/
def FE.PORT_CLK_IN_DOM_2 (i : Nat) (n : Nat) : Field := ⟨0x2808086 + i * 0x80000 + n * 256, 3, 0⟩
/-- R282 `PORT_CLK.IN_DOM_3` bits [11:9], RW. -/
def FE.PORT_CLK_IN_DOM_3 (i : Nat) (n : Nat) : Field := ⟨0x2808089 + i * 0x80000 + n * 256, 3, 0⟩
/-- R282 `PORT_CLK.OUT_DOM_0` bits [14:12], RW. -/
def FE.PORT_CLK_OUT_DOM_0 (i : Nat) (n : Nat) : Field := ⟨0x280808C + i * 0x80000 + n * 256, 3, 0⟩
/-- R282 `PORT_CLK.OUT_DOM_1` bits [17:15], RW. -/
def FE.PORT_CLK_OUT_DOM_1 (i : Nat) (n : Nat) : Field := ⟨0x280808F + i * 0x80000 + n * 256, 3, 0⟩
/-- R282 `PORT_CLK.OUT_DOM_2` bits [20:18], RW. -/
def FE.PORT_CLK_OUT_DOM_2 (i : Nat) (n : Nat) : Field := ⟨0x2808092 + i * 0x80000 + n * 256, 3, 0⟩
/-- R282 `PORT_CLK.OUT_DOM_3` bits [23:21], RW. -/
def FE.PORT_CLK_OUT_DOM_3 (i : Nat) (n : Nat) : Field := ⟨0x2808095 + i * 0x80000 + n * 256, 3, 0⟩
/-- R282 `IN_LEVEL.LEVEL_0` bits [4:0], RO. -/
def FE.IN_LEVEL_LEVEL_0 (i : Nat) (n : Nat) : Field := ⟨0x28080A0 + i * 0x80000 + n * 256, 5, 0⟩
/-- R282 `IN_LEVEL.LEVEL_1` bits [12:8], RO. -/
def FE.IN_LEVEL_LEVEL_1 (i : Nat) (n : Nat) : Field := ⟨0x28080A8 + i * 0x80000 + n * 256, 5, 0⟩
/-- R282 `IN_LEVEL.LEVEL_2` bits [20:16], RO. -/
def FE.IN_LEVEL_LEVEL_2 (i : Nat) (n : Nat) : Field := ⟨0x28080B0 + i * 0x80000 + n * 256, 5, 0⟩
/-- R282 `IN_LEVEL.LEVEL_3` bits [28:24], RO. -/
def FE.IN_LEVEL_LEVEL_3 (i : Nat) (n : Nat) : Field := ⟨0x28080B8 + i * 0x80000 + n * 256, 5, 0⟩
/-- R282 `OUT_LEVEL.LEVEL_0` bits [4:0], RO. -/
def FE.OUT_LEVEL_LEVEL_0 (i : Nat) (n : Nat) : Field := ⟨0x28080C0 + i * 0x80000 + n * 256, 5, 0⟩
/-- R282 `OUT_LEVEL.LEVEL_1` bits [12:8], RO. -/
def FE.OUT_LEVEL_LEVEL_1 (i : Nat) (n : Nat) : Field := ⟨0x28080C8 + i * 0x80000 + n * 256, 5, 0⟩
/-- R282 `OUT_LEVEL.LEVEL_2` bits [20:16], RO. -/
def FE.OUT_LEVEL_LEVEL_2 (i : Nat) (n : Nat) : Field := ⟨0x28080D0 + i * 0x80000 + n * 256, 5, 0⟩
/-- R282 `OUT_LEVEL.LEVEL_3` bits [28:24], RO. -/
def FE.OUT_LEVEL_LEVEL_3 (i : Nat) (n : Nat) : Field := ⟨0x28080D8 + i * 0x80000 + n * 256, 5, 0⟩
/-- R282 `STALLS.CYCLES` bits [31:0], RO. -/
def FE.STALLS_CYCLES (i : Nat) (n : Nat) : Field := ⟨0x28080E0 + i * 0x80000 + n * 256, 32, 0⟩
/-- R338 `EPOCH.COUNT` bits [31:0], RO. -/
def RING.EPOCH_COUNT : Field := ⟨0x180000, 32, 0⟩
/-- R338 `SLOT.SLOT` bits [11:0], RO. -/
def RING.SLOT_SLOT : Field := ⟨0x180020, 12, 0⟩
/-- R338 `TT_STATUS.COPY` bits [0:0], RO. -/
def RING.TT_STATUS_COPY : Field := ⟨0x180040, 1, 0⟩
/-- R338 `TT_STATUS.BOOT` bits [1:1], RO. -/
def RING.TT_STATUS_BOOT : Field := ⟨0x180041, 1, 1⟩
/-- R338 `TT_STATUS.VARIANT` bits [15:8], RO. -/
def RING.TT_STATUS_VARIANT : Field := ⟨0x180048, 8, 0⟩
/-- R338 `TT_FAULT.SLOT` bits [11:0], RO. -/
def RING.TT_FAULT_SLOT : Field := ⟨0x180060, 12, 0⟩
/-- R338 `TT_FAULT.ROUTER` bits [17:12], RO. -/
def RING.TT_FAULT_ROUTER : Field := ⟨0x18006C, 6, 0⟩
/-- R338 `TT_FAULT.HUB` bits [20:18], RO. -/
def RING.TT_FAULT_HUB : Field := ⟨0x180072, 3, 0⟩
/-- R338 `TT_FAULT.HUBT` bits [21:21], RO. -/
def RING.TT_FAULT_HUBT : Field := ⟨0x180075, 1, 0⟩
/-- R338 `TT_FAULT.CAUSE` bits [25:22], RO. -/
def RING.TT_FAULT_CAUSE : Field := ⟨0x180076, 4, 0⟩
/-- R338 `HOP.RETIRED` bits [9:0], RO. -/
def RING.HOP_RETIRED (n : Nat) : Field := ⟨0x180100 + n * 32, 10, 0⟩
/-- R338 `DISCARD.LIFETIME` bits [15:0], RO. -/
def RING.DISCARD_LIFETIME : Field := ⟨0x180200, 16, 0⟩
/-- R338 `DISCARD.BYPASS` bits [31:16], RO. -/
def RING.DISCARD_BYPASS : Field := ⟨0x180210, 16, 0⟩
/-- R338 `GQ_LOSS.DEAD` bits [15:0], RO. -/
def RING.GQ_LOSS_DEAD : Field := ⟨0x180220, 16, 0⟩
/-- R338 `GQ_LOSS.NO_CURSOR` bits [31:16], RO. -/
def RING.GQ_LOSS_NO_CURSOR : Field := ⟨0x180230, 16, 0⟩
/-- R338 `INT.DEGRADED` bits [0:0], W1C. -/
def RING.INT_DEGRADED : Field := ⟨0x180280, 1, 0⟩
/-- R338 `INT.DISCARD` bits [1:1], W1C. -/
def RING.INT_DISCARD : Field := ⟨0x180281, 1, 0⟩
/-- R338 `INT.GQ_LOSS` bits [2:2], W1C. -/
def RING.INT_GQ_LOSS : Field := ⟨0x180282, 1, 0⟩
/-- R338 `INT.LATE` bits [3:3], W1C. -/
def RING.INT_LATE : Field := ⟨0x180283, 1, 0⟩
/-- R338 `INT_EN.EN` bits [3:0], RW. -/
def RING.INT_EN_EN : Field := ⟨0x1802A0, 4, 0⟩
/-- R338 `TT_GEN.GEN` bits [15:0], ST. -/
def RING.TT_GEN_GEN : Field := ⟨0x180800, 16, 0⟩
/-- R338 `WIN_ADDR.ADDR` bits [21:0], RW. -/
def RING.WIN_ADDR_ADDR : Field := ⟨0x181000, 22, 0⟩
/-- R338 `WIN_ADDR.LIVE` bits [30:30], RW. -/
def RING.WIN_ADDR_LIVE : Field := ⟨0x18101E, 1, 0⟩
/-- R338 `WIN_ADDR.AUTOINC` bits [31:31], RW. -/
def RING.WIN_ADDR_AUTOINC : Field := ⟨0x18101F, 1, 0⟩
/-- R338 `WIN_DATA.DATA` bits [31:0], RW. -/
def RING.WIN_DATA_DATA : Field := ⟨0x181020, 32, 0⟩
/-- R338 `REG_CFG.RATE` bits [15:0], RW. -/
def RING.REG_CFG_RATE (n : Nat) : Field := ⟨0x181800 + n * 64, 16, (match n with | 0 => 1024 | 1 => 512 | 7 => 512 | 8 => 256 | 9 => 64 | _ => 128)⟩
/-- R338 `REG_CFG.BURST` bits [27:16], RW. -/
def RING.REG_CFG_BURST (n : Nat) : Field := ⟨0x181810 + n * 64, 12, (match n with | 0 => 256 | 1 => 128 | 7 => 128 | 8 => 64 | 9 => 17 | _ => 32)⟩
/-- R338 `REG_STAT.TOKENS` bits [15:0], RO. -/
def RING.REG_STAT_TOKENS (n : Nat) : Field := ⟨0x181820 + n * 64, 16, 0⟩
/-- R338 `REG_STAT.WAITS` bits [31:16], RO. -/
def RING.REG_STAT_WAITS (n : Nat) : Field := ⟨0x181830 + n * 64, 16, 0⟩
/-- R338 `TMO.US` bits [9:0], RW. -/
def RING.TMO_US (n : Nat) : Field := ⟨0x188000 + n * 32, 10, 16⟩
/-- R338 `ISTAT.TIMEOUTS` bits [15:0], RO. -/
def RING.ISTAT_TIMEOUTS (n : Nat) : Field := ⟨0x18A000 + n * 32, 16, 0⟩
/-- R338 `ISTAT.LATE` bits [31:16], RO. -/
def RING.ISTAT_LATE (n : Nat) : Field := ⟨0x18A010 + n * 32, 16, 0⟩
/-- R362 `INFO.USE` bits [0:0], RO. -/
def STORE.INFO_USE : Field := ⟨0x200000, 1, 0⟩
/-- R362 `INFO.LAYERS` bits [3:1], RO. -/
def STORE.INFO_LAYERS : Field := ⟨0x200001, 3, 4⟩
/-- R362 `INFO.USABLE` bits [15:8], RO. -/
def STORE.INFO_USABLE : Field := ⟨0x200008, 8, 76⟩
/-- R362 `CARVE.SIZE` bits [5:0], RO. -/
def STORE.CARVE_SIZE : Field := ⟨0x200020, 6, 8⟩
/-- R362 `CARVE.BASE` bits [15:8], RO. -/
def STORE.CARVE_BASE : Field := ⟨0x200028, 8, 68⟩
/-- R362 `CARVE.DEFAULTED` bits [16:16], RO. -/
def STORE.CARVE_DEFAULTED : Field := ⟨0x200030, 1, 0⟩
/-- R362 `REFRESH.RATE` bits [1:0], RO. -/
def STORE.REFRESH_RATE (n : Nat) : Field := ⟨0x200080 + n * 32, 2, 0⟩
/-- R362 `REFRESH.SELF` bits [2:2], RO. -/
def STORE.REFRESH_SELF (n : Nat) : Field := ⟨0x200082 + n * 32, 1, 0⟩
/-- R362 `REFRESH.DEBT` bits [15:8], RO. -/
def STORE.REFRESH_DEBT (n : Nat) : Field := ⟨0x200088 + n * 32, 8, 0⟩
/-- R362 `RD.FLITS` bits [31:0], RO. -/
def STORE.RD_FLITS (n : Nat) : Field := ⟨0x200100 + n * 64, 32, 0⟩
/-- R362 `WR.FLITS` bits [31:0], RO. -/
def STORE.WR_FLITS (n : Nat) : Field := ⟨0x200120 + n * 64, 32, 0⟩
/-- R362 `LOCAL.REFUSED` bits [15:0], RO. -/
def STORE.LOCAL_REFUSED (n : Nat) : Field := ⟨0x200200 + n * 32, 16, 0⟩
/-- R362 `INT.HOT` bits [0:0], W1C. -/
def STORE.INT_HOT : Field := ⟨0x200280, 1, 0⟩
/-- R362 `INT.LOCAL` bits [1:1], W1C. -/
def STORE.INT_LOCAL : Field := ⟨0x200281, 1, 0⟩
/-- R362 `INT_EN.EN` bits [1:0], RW. -/
def STORE.INT_EN_EN : Field := ⟨0x2002A0, 2, 0⟩
/-- R363 `INFO.SIZE` bits [15:0], RO. -/
def COMN.INFO_SIZE : Field := ⟨0x280000, 16, 64⟩
/-- R363 `RD.FLITS` bits [31:0], RO. -/
def COMN.RD_FLITS (n : Nat) : Field := ⟨0x280080 + n * 64, 32, 0⟩
/-- R363 `WR.FLITS` bits [31:0], RO. -/
def COMN.WR_FLITS (n : Nat) : Field := ⟨0x2800A0 + n * 64, 32, 0⟩
/-- R363 `CONFLICT.CYCLES` bits [31:0], RO. -/
def COMN.CONFLICT_CYCLES : Field := ⟨0x280180, 32, 0⟩
/-- R363 `ROT.REFUSED` bits [15:0], RO. -/
def COMN.ROT_REFUSED : Field := ⟨0x2801A0, 16, 0⟩
/-- R388 `CE_CNT.COUNT` bits [31:0], RO. -/
def CODE.CE_CNT_COUNT (n : Nat) : Field := ⟨0x300000 + n * 32, 32, 0⟩
/-- R388 `UE_CNT.COUNT` bits [31:0], RO. -/
def CODE.UE_CNT_COUNT (n : Nat) : Field := ⟨0x300200 + n * 32, 32, 0⟩
/-- R388 `LOG_SEL.ENTRY` bits [3:0], RW. -/
def CODE.LOG_SEL_ENTRY : Field := ⟨0x300400, 4, 0⟩
/-- R388 `LOG_SEL.UE` bits [4:4], RW. -/
def CODE.LOG_SEL_UE : Field := ⟨0x300404, 1, 0⟩
/-- R388 `LOG_STATUS.CE_USED` bits [4:0], RO. -/
def CODE.LOG_STATUS_CE_USED : Field := ⟨0x300420, 5, 0⟩
/-- R388 `LOG_STATUS.CE_OVERFLOW` bits [5:5], RO. -/
def CODE.LOG_STATUS_CE_OVERFLOW : Field := ⟨0x300425, 1, 0⟩
/-- R388 `LOG_STATUS.UE_USED` bits [12:8], RO. -/
def CODE.LOG_STATUS_UE_USED : Field := ⟨0x300428, 5, 0⟩
/-- R388 `LOG_STATUS.UE_OVERFLOW` bits [13:13], RO. -/
def CODE.LOG_STATUS_UE_OVERFLOW : Field := ⟨0x30042D, 1, 0⟩
/-- R388 `LOG_STATUS.DROPPED` bits [14:14], W1C. -/
def CODE.LOG_STATUS_DROPPED : Field := ⟨0x30042E, 1, 0⟩
/-- R388 `LOG_CLEAR.CE` bits [0:0], WO. -/
def CODE.LOG_CLEAR_CE : Field := ⟨0x300440, 1, 0⟩
/-- R388 `LOG_CLEAR.UE` bits [1:1], WO. -/
def CODE.LOG_CLEAR_UE : Field := ⟨0x300441, 1, 0⟩
/-- R388 `LOG_SRC.SOURCE` bits [3:0], RO. -/
def CODE.LOG_SRC_SOURCE : Field := ⟨0x300480, 4, 0⟩
/-- R388 `LOG_SRC.SYMBOL` bits [9:4], RO. -/
def CODE.LOG_SRC_SYMBOL : Field := ⟨0x300484, 6, 0⟩
/-- R388 `LOG_SRC.COUNT` bits [31:16], RO. -/
def CODE.LOG_SRC_COUNT : Field := ⟨0x300490, 16, 0⟩
/-- R388 `LOG_LOC_LO.LOC` bits [31:0], RO. -/
def CODE.LOG_LOC_LO_LOC : Field := ⟨0x3004A0, 32, 0⟩
/-- R388 `LOG_LOC_HI.LOC` bits [15:0], RO. -/
def CODE.LOG_LOC_HI_LOC : Field := ⟨0x3004C0, 16, 0⟩
/-- R388 `LOG_FIRST.EPOCH` bits [31:0], RO. -/
def CODE.LOG_FIRST_EPOCH : Field := ⟨0x3004E0, 32, 0⟩
/-- R388 `LAP.MS` bits [23:0], RO. -/
def CODE.LAP_MS (n : Nat) : Field := ⟨0x300800 + n * 32, 24, 0⟩
/-- R388 `LAP_LIMIT.MEM` bits [15:0], RW. -/
def CODE.LAP_LIMIT_MEM : Field := ⟨0x300900, 16, 20000⟩
/-- R388 `LAP_LIMIT.COMN` bits [31:16], RW. -/
def CODE.LAP_LIMIT_COMN : Field := ⟨0x300910, 16, 1000⟩
/-- R388 `SCRUB_CTL.ENABLE` bits [4:0], RW. -/
def CODE.SCRUB_CTL_ENABLE : Field := ⟨0x300920, 5, 31⟩
/-- R388 `VLINK_SEL.LINK` bits [15:0], RW. -/
def CODE.VLINK_SEL_LINK : Field := ⟨0x301000, 16, 0⟩
/-- R388 `VLINK_STAT.STATE` bits [1:0], RO. -/
def CODE.VLINK_STAT_STATE : Field := ⟨0x301020, 2, 0⟩
/-- R388 `VLINK_STAT.SPARES` bits [5:2], RO. -/
def CODE.VLINK_STAT_SPARES : Field := ⟨0x301022, 4, 0⟩
/-- R388 `VLINK_STAT.UNSPARED` bits [11:6], RO. -/
def CODE.VLINK_STAT_UNSPARED : Field := ⟨0x301026, 6, 63⟩
/-- R388 `VLINK_STAT.CE` bits [31:16], RO. -/
def CODE.VLINK_STAT_CE : Field := ⟨0x301030, 16, 0⟩
/-- R388 `VLINK_SUM.DEGRADED` bits [10:0], RO. -/
def CODE.VLINK_SUM_DEGRADED : Field := ⟨0x301040, 11, 0⟩
/-- R388 `VLINK_SUM.RETIRED` bits [26:16], RO. -/
def CODE.VLINK_SUM_RETIRED : Field := ⟨0x301050, 11, 0⟩
/-- R388 `VLINK_EVENT.LINK` bits [15:0], RO. -/
def CODE.VLINK_EVENT_LINK : Field := ⟨0x301060, 16, 0⟩
/-- R388 `VLINK_EVENT.ACTION` bits [17:16], RO. -/
def CODE.VLINK_EVENT_ACTION : Field := ⟨0x301070, 2, 0⟩
/-- R388 `VLINK_EVENT.LOST` bits [30:30], W1C. -/
def CODE.VLINK_EVENT_LOST : Field := ⟨0x30107E, 1, 0⟩
/-- R388 `VLINK_EVENT.VALID` bits [31:31], W1C. -/
def CODE.VLINK_EVENT_VALID : Field := ⟨0x30107F, 1, 0⟩
/-- R388 `INJECT.TARGET` bits [0:0], RW. -/
def CODE.INJECT_TARGET : Field := ⟨0x301800, 1, 0⟩
/-- R388 `INJECT.SYM_A` bits [6:1], RW. -/
def CODE.INJECT_SYM_A : Field := ⟨0x301801, 6, 0⟩
/-- R388 `INJECT.SYM_B` bits [12:7], RW. -/
def CODE.INJECT_SYM_B : Field := ⟨0x301807, 6, 63⟩
/-- R388 `INJECT.ARM` bits [31:31], RW. -/
def CODE.INJECT_ARM : Field := ⟨0x30181F, 1, 0⟩
/-- R388 `INJECT_LOC_LO.LOC` bits [31:0], RW. -/
def CODE.INJECT_LOC_LO_LOC : Field := ⟨0x301820, 32, 0⟩
/-- R388 `INJECT_LOC_HI.LOC` bits [11:0], RW. -/
def CODE.INJECT_LOC_HI_LOC : Field := ⟨0x301840, 12, 0⟩
/-- R388 `INT.CE_NEW` bits [0:0], W1C. -/
def CODE.INT_CE_NEW : Field := ⟨0x302000, 1, 0⟩
/-- R388 `INT.UE` bits [1:1], W1C. -/
def CODE.INT_UE : Field := ⟨0x302001, 1, 0⟩
/-- R388 `INT.POISON` bits [2:2], W1C. -/
def CODE.INT_POISON : Field := ⟨0x302002, 1, 0⟩
/-- R388 `INT.LAP` bits [3:3], W1C. -/
def CODE.INT_LAP : Field := ⟨0x302003, 1, 0⟩
/-- R388 `INT.VLINK` bits [4:4], W1C. -/
def CODE.INT_VLINK : Field := ⟨0x302004, 1, 0⟩
/-- R388 `INT_EN.EN` bits [4:0], RW. -/
def CODE.INT_EN_EN : Field := ⟨0x302020, 5, 0⟩
/-- R400 `CMD.CHANNEL` bits [4:0], RW. -/
def DMA.CMD_CHANNEL : Field := ⟨0x380000, 5, 0⟩
/-- R400 `CMD.OP` bits [11:8], RW. -/
def DMA.CMD_OP : Field := ⟨0x380008, 4, 0⟩
/-- R400 `CMD.GO` bits [31:31], WO. -/
def DMA.CMD_GO : Field := ⟨0x38001F, 1, 0⟩
/-- R400 `CMD_STATUS.BUSY` bits [0:0], RO. -/
def DMA.CMD_STATUS_BUSY : Field := ⟨0x380020, 1, 0⟩
/-- R400 `CMD_STATUS.OVERRUN` bits [1:1], W1C. -/
def DMA.CMD_STATUS_OVERRUN : Field := ⟨0x380021, 1, 0⟩
/-- R400 `CMD_STATUS.RESULT` bits [7:4], RO. -/
def DMA.CMD_STATUS_RESULT : Field := ⟨0x380024, 4, 0⟩
/-- R400 `DONE_PEND.PEND` bits [31:0], W1C. -/
def DMA.DONE_PEND_PEND : Field := ⟨0x380080, 32, 0⟩
/-- R400 `ERR_PEND.PEND` bits [31:0], W1C. -/
def DMA.ERR_PEND_PEND : Field := ⟨0x3800A0, 32, 0⟩
/-- R400 `HALT_PEND.PEND` bits [31:0], W1C. -/
def DMA.HALT_PEND_PEND : Field := ⟨0x3800C0, 32, 0⟩
/-- R400 `INT_EN.EN` bits [2:0], RW. -/
def DMA.INT_EN_EN : Field := ⟨0x3800E0, 3, 0⟩
/-- R401 `LIST_LO.ADDR` bits [31:0], RW. -/
def DMA.LIST_LO_ADDR (n : Nat) : Field := ⟨0x380800 + n * 256, 32, 0⟩
/-- R401 `LIST_HI.ADDR` bits [15:0], RW. -/
def DMA.LIST_HI_ADDR (n : Nat) : Field := ⟨0x380820 + n * 256, 16, 0⟩
/-- R401 `STATE.STATE` bits [2:0], RO. -/
def DMA.STATE_STATE (n : Nat) : Field := ⟨0x380840 + n * 256, 3, 0⟩
/-- R401 `STATE.CAUSE` bits [15:8], RO. -/
def DMA.STATE_CAUSE (n : Nat) : Field := ⟨0x380848 + n * 256, 8, 0⟩
/-- R401 `CUR_LO.ADDR` bits [31:0], RO. -/
def DMA.CUR_LO_ADDR (n : Nat) : Field := ⟨0x380860 + n * 256, 32, 0⟩
/-- R401 `CUR_HI.ADDR` bits [15:0], RO. -/
def DMA.CUR_HI_ADDR (n : Nat) : Field := ⟨0x380880 + n * 256, 16, 0⟩
/-- R401 `BYTES.COUNT` bits [31:0], RO. -/
def DMA.BYTES_COUNT (n : Nat) : Field := ⟨0x3808A0 + n * 256, 32, 0⟩
/-- R401 `GROUPS.DONE` bits [15:0], RO. -/
def DMA.GROUPS_DONE (n : Nat) : Field := ⟨0x3808C0 + n * 256, 16, 0⟩
/-- R401 `GROUPS.FAILED` bits [31:16], RO. -/
def DMA.GROUPS_FAILED (n : Nat) : Field := ⟨0x3808D0 + n * 256, 16, 0⟩
/-- R401 `LIMIT.OUTSTANDING` bits [5:0], RW. -/
def DMA.LIMIT_OUTSTANDING (n : Nat) : Field := ⟨0x3808E0 + n * 256, 6, 32⟩
/-- R425 `KCMD.SLOT` bits [4:0], RW. -/
def KEYS.KCMD_SLOT : Field := ⟨0x400000, 5, 0⟩
/-- R425 `KCMD.OP` bits [11:8], RW. -/
def KEYS.KCMD_OP : Field := ⟨0x400008, 4, 0⟩
/-- R425 `KCMD.ENTRY` bits [21:16], RW. -/
def KEYS.KCMD_ENTRY : Field := ⟨0x400010, 6, 0⟩
/-- R425 `KCMD.GO` bits [31:31], WO. -/
def KEYS.KCMD_GO : Field := ⟨0x40001F, 1, 0⟩
/-- R425 `KCMD_STATUS.BUSY` bits [0:0], RO. -/
def KEYS.KCMD_STATUS_BUSY : Field := ⟨0x400020, 1, 0⟩
/-- R425 `KCMD_STATUS.OVERRUN` bits [1:1], W1C. -/
def KEYS.KCMD_STATUS_OVERRUN : Field := ⟨0x400021, 1, 0⟩
/-- R425 `KCMD_STATUS.RESULT` bits [7:4], RO. -/
def KEYS.KCMD_STATUS_RESULT : Field := ⟨0x400024, 4, 0⟩
/-- R425 `KWRAP.WORD` bits [31:0], WO. -/
def KEYS.KWRAP_WORD (n : Nat) : Field := ⟨0x400080 + n * 32, 32, 0⟩
/-- R425 `SLOT_STAT.LOADED` bits [31:0], RO. -/
def KEYS.SLOT_STAT_LOADED : Field := ⟨0x400200, 32, 0⟩
/-- R425 `SLOT_USE.IN_USE` bits [31:0], RO. -/
def KEYS.SLOT_USE_IN_USE : Field := ⟨0x400220, 32, 0⟩
/-- R425 `ENTRY_STAT.BINDING` bits [0:0], RO. -/
def KEYS.ENTRY_STAT_BINDING : Field := ⟨0x400240, 1, 0⟩
/-- R425 `ENTRY_KEYS.HELD` bits [31:0], RO. -/
def KEYS.ENTRY_KEYS_HELD : Field := ⟨0x400260, 32, 0⟩
/-- R425 `REGIONW0.VALID` bits [0:0], ST. -/
def KEYS.REGIONW0_VALID (n : Nat) : Field := ⟨0x400800 + n * 128, 1, 0⟩
/-- R425 `REGIONW0.KEY` bits [8:4], ST. -/
def KEYS.REGIONW0_KEY (n : Nat) : Field := ⟨0x400804 + n * 128, 5, 0⟩
/-- R425 `REGIONW1.BASE` bits [13:0], ST. -/
def KEYS.REGIONW1_BASE (n : Nat) : Field := ⟨0x400820 + n * 128, 14, 0⟩
/-- R425 `REGIONW2.DATA` bits [13:0], ST. -/
def KEYS.REGIONW2_DATA (n : Nat) : Field := ⟨0x400840 + n * 128, 14, 0⟩
/-- R425 `REGION_STAT.STATE` bits [1:0], RO. -/
def KEYS.REGION_STAT_STATE (n : Nat) : Field := ⟨0x401000 + n * 64, 2, 0⟩
/-- R425 `REGION_STAT.QUAR` bits [4:4], RO. -/
def KEYS.REGION_STAT_QUAR (n : Nat) : Field := ⟨0x401004 + n * 64, 1, 0⟩
/-- R425 `REGION_STAT.CEND` bits [5:5], RO. -/
def KEYS.REGION_STAT_CEND (n : Nat) : Field := ⟨0x401005 + n * 64, 1, 0⟩
/-- R425 `REGION_FOOT.FOOT` bits [13:0], RO. -/
def KEYS.REGION_FOOT_FOOT (n : Nat) : Field := ⟨0x401020 + n * 64, 14, 0⟩
/-- R425 `LINK_SEL.SLOT` bits [4:0], ST. -/
def KEYS.LINK_SEL_SLOT (n : Nat) : Field := ⟨0x401800 + n * 32, 5, 0⟩
/-- R425 `LINK_SEL.VALID` bits [7:7], ST. -/
def KEYS.LINK_SEL_VALID (n : Nat) : Field := ⟨0x401807 + n * 32, 1, 0⟩
/-- R425 `REKEY_CTL.REGION` bits [3:0], RW. -/
def KEYS.REKEY_CTL_REGION : Field := ⟨0x402000, 4, 0⟩
/-- R425 `REKEY_CTL.NEW` bits [12:8], RW. -/
def KEYS.REKEY_CTL_NEW : Field := ⟨0x402008, 5, 0⟩
/-- R425 `REKEY_CTL.CLEAR` bits [16:16], RW. -/
def KEYS.REKEY_CTL_CLEAR : Field := ⟨0x402010, 1, 0⟩
/-- R425 `REKEY_CTL.GO` bits [31:31], WO. -/
def KEYS.REKEY_CTL_GO : Field := ⟨0x40201F, 1, 0⟩
/-- R425 `REKEY_STATUS.BUSY` bits [0:0], RO. -/
def KEYS.REKEY_STATUS_BUSY : Field := ⟨0x402020, 1, 0⟩
/-- R425 `REKEY_STATUS.RESULT` bits [7:4], RO. -/
def KEYS.REKEY_STATUS_RESULT : Field := ⟨0x402024, 4, 0⟩
/-- R425 `REKEY_STATUS.REGION` bits [11:8], RO. -/
def KEYS.REKEY_STATUS_REGION : Field := ⟨0x402028, 4, 0⟩
/-- R425 `REKEY_STATUS.QUEUED` bits [19:16], RO. -/
def KEYS.REKEY_STATUS_QUEUED : Field := ⟨0x402030, 4, 0⟩
/-- R425 `REKEY_BOUND_LO.LOC` bits [31:0], RO. -/
def KEYS.REKEY_BOUND_LO_LOC : Field := ⟨0x402040, 32, 0⟩
/-- R425 `REKEY_BOUND_HI.LOC` bits [11:0], RO. -/
def KEYS.REKEY_BOUND_HI_LOC : Field := ⟨0x402060, 12, 0⟩
/-- R425 `QUAR_SEL.ENTRY` bits [5:0], RW. -/
def KEYS.QUAR_SEL_ENTRY : Field := ⟨0x402800, 6, 0⟩
/-- R425 `QUAR_INFO.REGION` bits [3:0], RO. -/
def KEYS.QUAR_INFO_REGION : Field := ⟨0x402820, 4, 0⟩
/-- R425 `QUAR_INFO.LEVEL` bits [7:4], RO. -/
def KEYS.QUAR_INFO_LEVEL : Field := ⟨0x402824, 4, 0⟩
/-- R425 `QUAR_INFO.VALID` bits [31:31], RO. -/
def KEYS.QUAR_INFO_VALID : Field := ⟨0x40283F, 1, 0⟩
/-- R425 `QUAR_LOC_LO.LOC` bits [31:0], RO. -/
def KEYS.QUAR_LOC_LO_LOC : Field := ⟨0x402840, 32, 0⟩
/-- R425 `QUAR_LOC_HI.LOC` bits [11:0], RO. -/
def KEYS.QUAR_LOC_HI_LOC : Field := ⟨0x402860, 12, 0⟩
/-- R425 `QUAR_LEN.BLOCKS` bits [31:0], RO. -/
def KEYS.QUAR_LEN_BLOCKS : Field := ⟨0x402880, 32, 0⟩
/-- R425 `QUAR_COUNT.USED` bits [6:0], RO. -/
def KEYS.QUAR_COUNT_USED : Field := ⟨0x4028A0, 7, 0⟩
/-- R425 `QUAR_COUNT.OVERFLOW` bits [8:8], RO. -/
def KEYS.QUAR_COUNT_OVERFLOW : Field := ⟨0x4028A8, 1, 0⟩
/-- R425 `HITS.COUNT` bits [31:0], RO. -/
def KEYS.HITS_COUNT : Field := ⟨0x403000, 32, 0⟩
/-- R425 `MISSES.COUNT` bits [31:0], RO. -/
def KEYS.MISSES_COUNT : Field := ⟨0x403020, 32, 0⟩
/-- R425 `MINOR_END.COUNT` bits [31:0], RO. -/
def KEYS.MINOR_END_COUNT : Field := ⟨0x403040, 32, 0⟩
/-- R425 `INTEGRITY.COUNT` bits [31:0], RO. -/
def KEYS.INTEGRITY_COUNT : Field := ⟨0x403060, 32, 0⟩
/-- R425 `QDROP.COUNT` bits [31:0], RO. -/
def KEYS.QDROP_COUNT : Field := ⟨0x403080, 32, 0⟩
/-- R425 `LINK_FAIL.COUNT` bits [31:0], RO. -/
def KEYS.LINK_FAIL_COUNT : Field := ⟨0x4030A0, 32, 0⟩
/-- R425 `EVENT.REGION` bits [3:0], RO. -/
def KEYS.EVENT_REGION : Field := ⟨0x403100, 4, 0⟩
/-- R425 `EVENT.CAUSE` bits [11:8], RO. -/
def KEYS.EVENT_CAUSE : Field := ⟨0x403108, 4, 0⟩
/-- R425 `EVENT.LOST` bits [30:30], W1C. -/
def KEYS.EVENT_LOST : Field := ⟨0x40311E, 1, 0⟩
/-- R425 `EVENT.VALID` bits [31:31], W1C. -/
def KEYS.EVENT_VALID : Field := ⟨0x40311F, 1, 0⟩
/-- R425 `INT.EVENT` bits [0:0], W1C. -/
def KEYS.INT_EVENT : Field := ⟨0x403800, 1, 0⟩
/-- R425 `INT.REKEY` bits [1:1], W1C. -/
def KEYS.INT_REKEY : Field := ⟨0x403801, 1, 0⟩
/-- R425 `INT.QUAR` bits [2:2], W1C. -/
def KEYS.INT_QUAR : Field := ⟨0x403802, 1, 0⟩
/-- R425 `INT_EN.EN` bits [2:0], RW. -/
def KEYS.INT_EN_EN : Field := ⟨0x403820, 3, 0⟩
/-- R455 `INFO.LANES` bits [5:0], RO. -/
def LANE.INFO_LANES : Field := ⟨0x480000, 6, 32⟩
/-- R455 `INFO.LINKS` bits [10:8], RO. -/
def LANE.INFO_LINKS : Field := ⟨0x480008, 3, 4⟩
/-- R455 `INT.LANE_FAIL` bits [0:0], W1C. -/
def LANE.INT_LANE_FAIL : Field := ⟨0x480080, 1, 0⟩
/-- R455 `INT.LINK_UP` bits [1:1], W1C. -/
def LANE.INT_LINK_UP : Field := ⟨0x480081, 1, 0⟩
/-- R455 `INT.LINK_DOWN` bits [2:2], W1C. -/
def LANE.INT_LINK_DOWN : Field := ⟨0x480082, 1, 0⟩
/-- R455 `INT.LINK_FAIL` bits [3:3], W1C. -/
def LANE.INT_LINK_FAIL : Field := ⟨0x480083, 1, 0⟩
/-- R455 `INT.REF` bits [4:4], W1C. -/
def LANE.INT_REF : Field := ⟨0x480084, 1, 0⟩
/-- R455 `INT.GQ_DROP` bits [5:5], W1C. -/
def LANE.INT_GQ_DROP : Field := ⟨0x480085, 1, 0⟩
/-- R455 `INT_EN.EN` bits [5:0], RW. -/
def LANE.INT_EN_EN : Field := ⟨0x4800A0, 6, 0⟩
/-- R455 `FAIL_PEND.PEND` bits [31:0], W1C. -/
def LANE.FAIL_PEND_PEND (n : Nat) : Field := ⟨0x4800C0 + n * 32, 32, 0⟩
/-- R455 `QCTL.REF_EN` bits [1:0], RW. -/
def LANE.QCTL_REF_EN (n : Nat) : Field := ⟨0x480800 + n * 64, 2, 3⟩
/-- R455 `QSTAT.REF_OK` bits [1:0], RO. -/
def LANE.QSTAT_REF_OK (n : Nat) : Field := ⟨0x480820 + n * 64, 2, 0⟩
/-- R455 `QSTAT.PLL_LOCK` bits [3:2], RO. -/
def LANE.QSTAT_PLL_LOCK (n : Nat) : Field := ⟨0x480822 + n * 64, 2, 0⟩
/-- R455 `QSTAT.RATE_A` bits [11:8], RO. -/
def LANE.QSTAT_RATE_A (n : Nat) : Field := ⟨0x480828 + n * 64, 4, 0⟩
/-- R455 `QSTAT.RATE_B` bits [15:12], RO. -/
def LANE.QSTAT_RATE_B (n : Nat) : Field := ⟨0x48082C + n * 64, 4, 0⟩
/-- R455 `LACE_CTL.ENABLE` bits [0:0], RW. -/
def LANE.LACE_CTL_ENABLE (n : Nat) : Field := ⟨0x482000 + n * 512, 1, 0⟩
/-- R455 `LACE_CTL.ROLE` bits [1:1], RW. -/
def LANE.LACE_CTL_ROLE (n : Nat) : Field := ⟨0x482001 + n * 512, 1, 0⟩
/-- R455 `LACE_CTL.REMOTE` bits [2:2], RW. -/
def LANE.LACE_CTL_REMOTE (n : Nat) : Field := ⟨0x482002 + n * 512, 1, 0⟩
/-- R455 `LACE_CTL.LINK_ID` bits [31:16], RW. -/
def LANE.LACE_CTL_LINK_ID (n : Nat) : Field := ⟨0x482010 + n * 512, 16, 0⟩
/-- R455 `LACE_STAT.STATE` bits [2:0], RO. -/
def LANE.LACE_STAT_STATE (n : Nat) : Field := ⟨0x482020 + n * 512, 3, 0⟩
/-- R455 `LACE_STAT.LANES` bits [7:3], RO. -/
def LANE.LACE_STAT_LANES (n : Nat) : Field := ⟨0x482023 + n * 512, 5, 0⟩
/-- R455 `LACE_STAT.FAIL` bits [11:8], RO. -/
def LANE.LACE_STAT_FAIL (n : Nat) : Field := ⟨0x482028 + n * 512, 4, 0⟩
/-- R455 `LACE_STAT.TRAINS` bits [31:16], RO. -/
def LANE.LACE_STAT_TRAINS (n : Nat) : Field := ⟨0x482030 + n * 512, 16, 0⟩
/-- R455 `LACE_CNT.NAKS` bits [15:0], RO. -/
def LANE.LACE_CNT_NAKS (n : Nat) : Field := ⟨0x482040 + n * 512, 16, 0⟩
/-- R455 `LACE_CNT.RESENDS` bits [31:16], RO. -/
def LANE.LACE_CNT_RESENDS (n : Nat) : Field := ⟨0x482050 + n * 512, 16, 0⟩
/-- R455 `LACE_ERR.CE` bits [15:0], RO. -/
def LANE.LACE_ERR_CE (n : Nat) : Field := ⟨0x482060 + n * 512, 16, 0⟩
/-- R455 `LACE_ERR.GQ_DROP` bits [31:16], RO. -/
def LANE.LACE_ERR_GQ_DROP (n : Nat) : Field := ⟨0x482070 + n * 512, 16, 0⟩
/-- R455 `LACE_TMO.US` bits [7:0], RW. -/
def LANE.LACE_TMO_US (n : Nat) : Field := ⟨0x482080 + n * 512, 8, 8⟩
/-- R455 `RWIN_ADDR_LO.ADDR` bits [31:0], RW. -/
def LANE.RWIN_ADDR_LO_ADDR (n : Nat) : Field := ⟨0x4820A0 + n * 512, 32, 0⟩
/-- R455 `RWIN_ADDR_HI.ADDR` bits [15:0], RW. -/
def LANE.RWIN_ADDR_HI_ADDR (n : Nat) : Field := ⟨0x4820C0 + n * 512, 16, 0⟩
/-- R455 `RWIN_DATA.DATA` bits [31:0], RW. -/
def LANE.RWIN_DATA_DATA (n : Nat) : Field := ⟨0x4820E0 + n * 512, 32, 0⟩
/-- R455 `RWIN_CTL.WRITE` bits [0:0], RW. -/
def LANE.RWIN_CTL_WRITE (n : Nat) : Field := ⟨0x482100 + n * 512, 1, 0⟩
/-- R455 `RWIN_CTL.GO` bits [31:31], WO. -/
def LANE.RWIN_CTL_GO (n : Nat) : Field := ⟨0x48211F + n * 512, 1, 0⟩
/-- R455 `RWIN_STATUS.BUSY` bits [0:0], RO. -/
def LANE.RWIN_STATUS_BUSY (n : Nat) : Field := ⟨0x482120 + n * 512, 1, 0⟩
/-- R455 `RWIN_STATUS.OVERRUN` bits [1:1], W1C. -/
def LANE.RWIN_STATUS_OVERRUN (n : Nat) : Field := ⟨0x482121 + n * 512, 1, 0⟩
/-- R455 `RWIN_STATUS.STATUS` bits [7:4], RO. -/
def LANE.RWIN_STATUS_STATUS (n : Nat) : Field := ⟨0x482124 + n * 512, 4, 0⟩
/-- R455 `LACE_KEY.ATTR` bits [3:0], ST. -/
def LANE.LACE_KEY_ATTR (n : Nat) : Field := ⟨0x483000 + n * 32, 4, 0⟩
/-- R455 `LACE_KEY.GATTR` bits [7:4], ST. -/
def LANE.LACE_KEY_GATTR (n : Nat) : Field := ⟨0x483004 + n * 32, 4, 0⟩
/-- R455 `LACE_KEY.REQUIRE` bits [8:8], ST. -/
def LANE.LACE_KEY_REQUIRE (n : Nat) : Field := ⟨0x483008 + n * 32, 1, 0⟩
/-- R455 `CHMAP.LINK` bits [2:0], ST. -/
def LANE.CHMAP_LINK (n : Nat) : Field := ⟨0x483800 + n * 32, 3, 0⟩
/-- R455 `CHMAP.QUEUE` bits [8:4], ST. -/
def LANE.CHMAP_QUEUE (n : Nat) : Field := ⟨0x483804 + n * 32, 5, 0⟩
/-- R455 `CHMAP.VALID` bits [15:15], ST. -/
def LANE.CHMAP_VALID (n : Nat) : Field := ⟨0x48380F + n * 32, 1, 0⟩
/-- R456 `CFG.USE` bits [1:0], RW. -/
def LANE.CFG_USE (n : Nat) : Field := ⟨0x488000 + n * 512, 2, 0⟩
/-- R456 `CFG.LINK` bits [4:2], RW. -/
def LANE.CFG_LINK (n : Nat) : Field := ⟨0x488002 + n * 512, 3, 0⟩
/-- R456 `CFG.RATE` bits [8:5], RW. -/
def LANE.CFG_RATE (n : Nat) : Field := ⟨0x488005 + n * 512, 4, 0⟩
/-- R456 `CFG.PAM4` bits [9:9], RW. -/
def LANE.CFG_PAM4 (n : Nat) : Field := ⟨0x488009 + n * 512, 1, 0⟩
/-- R456 `CFG.FRAC` bits [10:10], RW. -/
def LANE.CFG_FRAC (n : Nat) : Field := ⟨0x48800A + n * 512, 1, 0⟩
/-- R456 `CFG.REFSEL` bits [11:11], RW. -/
def LANE.CFG_REFSEL (n : Nat) : Field := ⟨0x48800B + n * 512, 1, 0⟩
/-- R456 `CFG.TX_INV` bits [12:12], RW. -/
def LANE.CFG_TX_INV (n : Nat) : Field := ⟨0x48800C + n * 512, 1, 0⟩
/-- R456 `CFG.RX_INV` bits [13:13], RW. -/
def LANE.CFG_RX_INV (n : Nat) : Field := ⟨0x48800D + n * 512, 1, 0⟩
/-- R456 `CFG.POL_AUTO` bits [14:14], RW. -/
def LANE.CFG_POL_AUTO (n : Nat) : Field := ⟨0x48800E + n * 512, 1, 1⟩
/-- R456 `CFG.TRAIN` bits [15:15], RW. -/
def LANE.CFG_TRAIN (n : Nat) : Field := ⟨0x48800F + n * 512, 1, 1⟩
/-- R456 `CFG.TRIES` bits [19:16], RW. -/
def LANE.CFG_TRIES (n : Nat) : Field := ⟨0x488010 + n * 512, 4, 8⟩
/-- R456 `CFG.ENABLE` bits [31:31], RW. -/
def LANE.CFG_ENABLE (n : Nat) : Field := ⟨0x48801F + n * 512, 1, 0⟩
/-- R456 `STATUS.STAGE` bits [3:0], RO. -/
def LANE.STATUS_STAGE (n : Nat) : Field := ⟨0x488020 + n * 512, 4, 0⟩
/-- R456 `STATUS.SIGNAL` bits [7:4], RO. -/
def LANE.STATUS_SIGNAL (n : Nat) : Field := ⟨0x488024 + n * 512, 4, 0⟩
/-- R456 `STATUS.FAIL` bits [11:8], RO. -/
def LANE.STATUS_FAIL (n : Nat) : Field := ⟨0x488028 + n * 512, 4, 0⟩
/-- R456 `STATUS.LANE_ID` bits [16:12], RO. -/
def LANE.STATUS_LANE_ID (n : Nat) : Field := ⟨0x48802C + n * 512, 5, 0⟩
/-- R456 `STATUS.ATTEMPT` bits [23:20], RO. -/
def LANE.STATUS_ATTEMPT (n : Nat) : Field := ⟨0x488034 + n * 512, 4, 0⟩
/-- R456 `TXEQ.PRE` bits [3:0], RW. -/
def LANE.TXEQ_PRE (n : Nat) : Field := ⟨0x488040 + n * 512, 4, 4⟩
/-- R456 `TXEQ.MAIN` bits [13:8], RW. -/
def LANE.TXEQ_MAIN (n : Nat) : Field := ⟨0x488048 + n * 512, 6, 52⟩
/-- R456 `TXEQ.POST1` bits [20:16], RW. -/
def LANE.TXEQ_POST1 (n : Nat) : Field := ⟨0x488050 + n * 512, 5, 7⟩
/-- R456 `TXEQ.POST2` bits [27:24], RW. -/
def LANE.TXEQ_POST2 (n : Nat) : Field := ⟨0x488058 + n * 512, 4, 0⟩
/-- R456 `TXPRESET.PRE` bits [3:0], RW. -/
def LANE.TXPRESET_PRE (n : Nat) : Field := ⟨0x488060 + n * 512, 4, 4⟩
/-- R456 `TXPRESET.MAIN` bits [13:8], RW. -/
def LANE.TXPRESET_MAIN (n : Nat) : Field := ⟨0x488068 + n * 512, 6, 52⟩
/-- R456 `TXPRESET.POST1` bits [20:16], RW. -/
def LANE.TXPRESET_POST1 (n : Nat) : Field := ⟨0x488070 + n * 512, 5, 7⟩
/-- R456 `TXPRESET.POST2` bits [27:24], RW. -/
def LANE.TXPRESET_POST2 (n : Nat) : Field := ⟨0x488078 + n * 512, 4, 0⟩
/-- R456 `TEST.LOOP` bits [1:0], RW. -/
def LANE.TEST_LOOP (n : Nat) : Field := ⟨0x488080 + n * 512, 2, 0⟩
/-- R456 `TEST.PATTERN` bits [6:4], RW. -/
def LANE.TEST_PATTERN (n : Nat) : Field := ⟨0x488084 + n * 512, 3, 0⟩
/-- R456 `TEST.GEN` bits [8:8], RW. -/
def LANE.TEST_GEN (n : Nat) : Field := ⟨0x488088 + n * 512, 1, 0⟩
/-- R456 `TEST.CHK` bits [9:9], RW. -/
def LANE.TEST_CHK (n : Nat) : Field := ⟨0x488089 + n * 512, 1, 0⟩
/-- R456 `TEST.INJECT` bits [10:10], WO. -/
def LANE.TEST_INJECT (n : Nat) : Field := ⟨0x48808A + n * 512, 1, 0⟩
/-- R456 `PRBS_ERR.ERRORS` bits [31:0], RO. -/
def LANE.PRBS_ERR_ERRORS (n : Nat) : Field := ⟨0x4880A0 + n * 512, 32, 0⟩
/-- R456 `PRBS_STAT.LOCK` bits [1:0], RO. -/
def LANE.PRBS_STAT_LOCK (n : Nat) : Field := ⟨0x4880C0 + n * 512, 2, 0⟩
/-- R456 `EYE.HEIGHT` bits [7:0], RO. -/
def LANE.EYE_HEIGHT (n : Nat) : Field := ⟨0x4880E0 + n * 512, 8, 0⟩
/-- R456 `EYE.WIDTH` bits [15:8], RO. -/
def LANE.EYE_WIDTH (n : Nat) : Field := ⟨0x4880E8 + n * 512, 8, 0⟩
/-- R456 `ERRCNT.SYNC_ERR` bits [15:0], RO. -/
def LANE.ERRCNT_SYNC_ERR (n : Nat) : Field := ⟨0x488100 + n * 512, 16, 0⟩
/-- R456 `ERRCNT.RESTARTS` bits [31:16], RO. -/
def LANE.ERRCNT_RESTARTS (n : Nat) : Field := ⟨0x488110 + n * 512, 16, 0⟩
/-- R479 `CFG.MODE` bits [3:0], RW. -/
def MPORT.CFG_MODE (i : Nat) : Field := ⟨0x1000000 + i * 0x80000, 4, 0⟩
/-- R479 `CFG.FEC` bits [4:4], RW. -/
def MPORT.CFG_FEC (i : Nat) : Field := ⟨0x1000004 + i * 0x80000, 1, 1⟩
/-- R479 `CFG.HOST_UNMATCHED` bits [5:5], RW. -/
def MPORT.CFG_HOST_UNMATCHED (i : Nat) : Field := ⟨0x1000005 + i * 0x80000, 1, 0⟩
/-- R479 `CFG.ENABLE` bits [31:31], RW. -/
def MPORT.CFG_ENABLE (i : Nat) : Field := ⟨0x100001F + i * 0x80000, 1, 0⟩
/-- R479 `STATUS.LINK` bits [0:0], RO. -/
def MPORT.STATUS_LINK (i : Nat) : Field := ⟨0x1000020 + i * 0x80000, 1, 0⟩
/-- R479 `STATUS.ALIGN` bits [1:1], RO. -/
def MPORT.STATUS_ALIGN (i : Nat) : Field := ⟨0x1000021 + i * 0x80000, 1, 0⟩
/-- R479 `STATUS.FEC_LOCK` bits [2:2], RO. -/
def MPORT.STATUS_FEC_LOCK (i : Nat) : Field := ⟨0x1000022 + i * 0x80000, 1, 0⟩
/-- R479 `STATUS.FAIL` bits [7:4], RO. -/
def MPORT.STATUS_FAIL (i : Nat) : Field := ⟨0x1000024 + i * 0x80000, 4, 0⟩
/-- R479 `MAC_LO.MAC` bits [31:0], RW. -/
def MPORT.MAC_LO_MAC (i : Nat) : Field := ⟨0x1000040 + i * 0x80000, 32, 0⟩
/-- R479 `MAC_HI.MAC` bits [15:0], RW. -/
def MPORT.MAC_HI_MAC (i : Nat) : Field := ⟨0x1000060 + i * 0x80000, 16, 0⟩
/-- R479 `IPV4.ADDR` bits [31:0], RW. -/
def MPORT.IPV4_ADDR (i : Nat) : Field := ⟨0x1000080 + i * 0x80000, 32, 0⟩
/-- R479 `TXHDR.TTL` bits [7:0], RW. -/
def MPORT.TXHDR_TTL (i : Nat) : Field := ⟨0x10000A0 + i * 0x80000, 8, 64⟩
/-- R479 `TXHDR.VID` bits [19:8], RW. -/
def MPORT.TXHDR_VID (i : Nat) : Field := ⟨0x10000A8 + i * 0x80000, 12, 0⟩
/-- R479 `TXHDR.PCP` bits [22:20], RW. -/
def MPORT.TXHDR_PCP (i : Nat) : Field := ⟨0x10000B4 + i * 0x80000, 3, 0⟩
/-- R479 `TXHDR.TAG` bits [23:23], RW. -/
def MPORT.TXHDR_TAG (i : Nat) : Field := ⟨0x10000B7 + i * 0x80000, 1, 0⟩
/-- R479 `NEXTHOP_LO.MAC` bits [31:0], RW. -/
def MPORT.NEXTHOP_LO_MAC (i : Nat) : Field := ⟨0x10000C0 + i * 0x80000, 32, 0⟩
/-- R479 `NEXTHOP_HI.MAC` bits [15:0], RW. -/
def MPORT.NEXTHOP_HI_MAC (i : Nat) : Field := ⟨0x10000E0 + i * 0x80000, 16, 0⟩
/-- R479 `RX_FRAMES.COUNT` bits [31:0], RO. -/
def MPORT.RX_FRAMES_COUNT (i : Nat) : Field := ⟨0x1000100 + i * 0x80000, 32, 0⟩
/-- R479 `RX_BAD.COUNT` bits [31:0], RO. -/
def MPORT.RX_BAD_COUNT (i : Nat) : Field := ⟨0x1000120 + i * 0x80000, 32, 0⟩
/-- R479 `RX_UNMATCHED.COUNT` bits [31:0], RO. -/
def MPORT.RX_UNMATCHED_COUNT (i : Nat) : Field := ⟨0x1000140 + i * 0x80000, 32, 0⟩
/-- R479 `RX_HOST_DROP.COUNT` bits [31:0], RO. -/
def MPORT.RX_HOST_DROP_COUNT (i : Nat) : Field := ⟨0x1000160 + i * 0x80000, 32, 0⟩
/-- R479 `TX_FRAMES.COUNT` bits [31:0], RO. -/
def MPORT.TX_FRAMES_COUNT (i : Nat) : Field := ⟨0x1000180 + i * 0x80000, 32, 0⟩
/-- R479 `FEC_CE.COUNT` bits [31:0], RO. -/
def MPORT.FEC_CE_COUNT (i : Nat) : Field := ⟨0x10001A0 + i * 0x80000, 32, 0⟩
/-- R479 `FEC_UE.COUNT` bits [31:0], RO. -/
def MPORT.FEC_UE_COUNT (i : Nat) : Field := ⟨0x10001C0 + i * 0x80000, 32, 0⟩
/-- R479 `FSEL.ENTRY` bits [8:0], RW. -/
def MPORT.FSEL_ENTRY (i : Nat) : Field := ⟨0x1000200 + i * 0x80000, 9, 0⟩
/-- R479 `FSEL.TX` bits [9:9], RW. -/
def MPORT.FSEL_TX (i : Nat) : Field := ⟨0x1000209 + i * 0x80000, 1, 0⟩
/-- R479 `FSTAT_PKTS.COUNT` bits [31:0], RO. -/
def MPORT.FSTAT_PKTS_COUNT (i : Nat) : Field := ⟨0x1000220 + i * 0x80000, 32, 0⟩
/-- R479 `FSTAT_LOST.COUNT` bits [31:0], RO. -/
def MPORT.FSTAT_LOST_COUNT (i : Nat) : Field := ⟨0x1000240 + i * 0x80000, 32, 0⟩
/-- R479 `FSTAT_DUP.COUNT` bits [31:0], RO. -/
def MPORT.FSTAT_DUP_COUNT (i : Nat) : Field := ⟨0x1000260 + i * 0x80000, 32, 0⟩
/-- R479 `FSTAT_DROP.COUNT` bits [31:0], RO. -/
def MPORT.FSTAT_DROP_COUNT (i : Nat) : Field := ⟨0x1000280 + i * 0x80000, 32, 0⟩
/-- R479 `HRX_STATUS.WORDS` bits [12:0], RO. -/
def MPORT.HRX_STATUS_WORDS (i : Nat) : Field := ⟨0x1000800 + i * 0x80000, 13, 0⟩
/-- R479 `HRX_STATUS.FRAME` bits [16:16], RO. -/
def MPORT.HRX_STATUS_FRAME (i : Nat) : Field := ⟨0x1000810 + i * 0x80000, 1, 0⟩
/-- R479 `HRX_DATA.DATA` bits [31:0], RO. -/
def MPORT.HRX_DATA_DATA (i : Nat) : Field := ⟨0x1000820 + i * 0x80000, 32, 0⟩
/-- R479 `HTX_CTL.LEN` bits [13:0], RW. -/
def MPORT.HTX_CTL_LEN (i : Nat) : Field := ⟨0x1000840 + i * 0x80000, 14, 0⟩
/-- R479 `HTX_CTL.TS_REQ` bits [16:16], RW. -/
def MPORT.HTX_CTL_TS_REQ (i : Nat) : Field := ⟨0x1000850 + i * 0x80000, 1, 0⟩
/-- R479 `HTX_CTL.GO` bits [31:31], WO. -/
def MPORT.HTX_CTL_GO (i : Nat) : Field := ⟨0x100085F + i * 0x80000, 1, 0⟩
/-- R479 `HTX_DATA.DATA` bits [31:0], WO. -/
def MPORT.HTX_DATA_DATA (i : Nat) : Field := ⟨0x1000860 + i * 0x80000, 32, 0⟩
/-- R479 `HTX_STATUS.BUSY` bits [0:0], RO. -/
def MPORT.HTX_STATUS_BUSY (i : Nat) : Field := ⟨0x1000880 + i * 0x80000, 1, 0⟩
/-- R479 `HTX_STATUS.OVERRUN` bits [1:1], W1C. -/
def MPORT.HTX_STATUS_OVERRUN (i : Nat) : Field := ⟨0x1000881 + i * 0x80000, 1, 0⟩
/-- R479 `HTX_STATUS.SPACE` bits [28:16], RO. -/
def MPORT.HTX_STATUS_SPACE (i : Nat) : Field := ⟨0x1000890 + i * 0x80000, 13, 4096⟩
/-- R479 `HTX_TS_NS.TS` bits [31:0], RO. -/
def MPORT.HTX_TS_NS_TS (i : Nat) : Field := ⟨0x10008A0 + i * 0x80000, 32, 0⟩
/-- R479 `HTX_TS_S.TS` bits [31:0], RO. -/
def MPORT.HTX_TS_S_TS (i : Nat) : Field := ⟨0x10008C0 + i * 0x80000, 32, 0⟩
/-- R479 `HTX_TS_S_HI.TS` bits [15:0], RO. -/
def MPORT.HTX_TS_S_HI_TS (i : Nat) : Field := ⟨0x10008E0 + i * 0x80000, 16, 0⟩
/-- R479 `MFILTW0.MAC_LO` bits [31:0], RW. -/
def MPORT.MFILTW0_MAC_LO (i : Nat) (n : Nat) : Field := ⟨0x1001000 + i * 0x80000 + n * 64, 32, 0⟩
/-- R479 `MFILTW1.MAC_HI` bits [15:0], RW. -/
def MPORT.MFILTW1_MAC_HI (i : Nat) (n : Nat) : Field := ⟨0x1001020 + i * 0x80000 + n * 64, 16, 0⟩
/-- R479 `MFILTW1.VALID` bits [31:31], RW. -/
def MPORT.MFILTW1_VALID (i : Nat) (n : Nat) : Field := ⟨0x100103F + i * 0x80000 + n * 64, 1, 0⟩
/-- R479 `SDI_CTL.RATE` bits [1:0], RW. -/
def MPORT.SDI_CTL_RATE (i : Nat) (n : Nat) : Field := ⟨0x1004000 + i * 0x80000 + n * 128, 2, 0⟩
/-- R479 `SDI_CTL.FRAC` bits [2:2], RW. -/
def MPORT.SDI_CTL_FRAC (i : Nat) (n : Nat) : Field := ⟨0x1004002 + i * 0x80000 + n * 128, 1, 0⟩
/-- R479 `SDI_CTL.RAW` bits [3:3], RW. -/
def MPORT.SDI_CTL_RAW (i : Nat) (n : Nat) : Field := ⟨0x1004003 + i * 0x80000 + n * 128, 1, 0⟩
/-- R479 `SDI_CTL.QUEUE` bits [8:4], RW. -/
def MPORT.SDI_CTL_QUEUE (i : Nat) (n : Nat) : Field := ⟨0x1004004 + i * 0x80000 + n * 128, 5, 0⟩
/-- R479 `SDI_CTL.ANC_QUEUE` bits [13:9], RW. -/
def MPORT.SDI_CTL_ANC_QUEUE (i : Nat) (n : Nat) : Field := ⟨0x1004009 + i * 0x80000 + n * 128, 5, 0⟩
/-- R479 `SDI_CTL.CHAN` bits [18:14], RW. -/
def MPORT.SDI_CTL_CHAN (i : Nat) (n : Nat) : Field := ⟨0x100400E + i * 0x80000 + n * 128, 5, 0⟩
/-- R479 `SDI_CTL.RASTER` bits [20:19], RW. -/
def MPORT.SDI_CTL_RASTER (i : Nat) (n : Nat) : Field := ⟨0x1004013 + i * 0x80000 + n * 128, 2, 0⟩
/-- R479 `SDI_CTL.ENABLE` bits [31:31], RW. -/
def MPORT.SDI_CTL_ENABLE (i : Nat) (n : Nat) : Field := ⟨0x100401F + i * 0x80000 + n * 128, 1, 0⟩
/-- R479 `SDI_STAT.LOCKED` bits [0:0], RO. -/
def MPORT.SDI_STAT_LOCKED (i : Nat) (n : Nat) : Field := ⟨0x1004020 + i * 0x80000 + n * 128, 1, 0⟩
/-- R479 `SDI_STAT.PID_VALID` bits [1:1], RO. -/
def MPORT.SDI_STAT_PID_VALID (i : Nat) (n : Nat) : Field := ⟨0x1004021 + i * 0x80000 + n * 128, 1, 0⟩
/-- R479 `SDI_STAT.RATE` bits [3:2], RO. -/
def MPORT.SDI_STAT_RATE (i : Nat) (n : Nat) : Field := ⟨0x1004022 + i * 0x80000 + n * 128, 2, 0⟩
/-- R479 `SDI_PID.PID` bits [31:0], RO. -/
def MPORT.SDI_PID_PID (i : Nat) (n : Nat) : Field := ⟨0x1004040 + i * 0x80000 + n * 128, 32, 0⟩
/-- R479 `SDI_ERR.CRC` bits [15:0], RO. -/
def MPORT.SDI_ERR_CRC (i : Nat) (n : Nat) : Field := ⟨0x1004060 + i * 0x80000 + n * 128, 16, 0⟩
/-- R479 `SDI_ERR.LATE` bits [31:16], RO. -/
def MPORT.SDI_ERR_LATE (i : Nat) (n : Nat) : Field := ⟨0x1004070 + i * 0x80000 + n * 128, 16, 0⟩
/-- R479 `SDI_TXPID.PID` bits [31:0], RW. -/
def MPORT.SDI_TXPID_PID (i : Nat) (n : Nat) : Field := ⟨0x1004800 + i * 0x80000 + n * 32, 32, 0⟩
/-- R479 `INT.LINK_UP` bits [0:0], W1C. -/
def MPORT.INT_LINK_UP (i : Nat) : Field := ⟨0x1005000 + i * 0x80000, 1, 0⟩
/-- R479 `INT.LINK_DOWN` bits [1:1], W1C. -/
def MPORT.INT_LINK_DOWN (i : Nat) : Field := ⟨0x1005001 + i * 0x80000, 1, 0⟩
/-- R479 `INT.HRX` bits [2:2], W1C. -/
def MPORT.INT_HRX (i : Nat) : Field := ⟨0x1005002 + i * 0x80000, 1, 0⟩
/-- R479 `INT.HTX_TS` bits [3:3], W1C. -/
def MPORT.INT_HTX_TS (i : Nat) : Field := ⟨0x1005003 + i * 0x80000, 1, 0⟩
/-- R479 `INT.FLOW_LOSS` bits [4:4], W1C. -/
def MPORT.INT_FLOW_LOSS (i : Nat) : Field := ⟨0x1005004 + i * 0x80000, 1, 0⟩
/-- R479 `INT.SDI` bits [5:5], W1C. -/
def MPORT.INT_SDI (i : Nat) : Field := ⟨0x1005005 + i * 0x80000, 1, 0⟩
/-- R479 `INT_EN.EN` bits [5:0], RW. -/
def MPORT.INT_EN_EN (i : Nat) : Field := ⟨0x1005020 + i * 0x80000, 6, 0⟩
/-- R503 `HOUSE_CTL.REF` bits [31:0], RW. -/
def CLK.HOUSE_CTL_REF : Field := ⟨0x500000, 32, 0⟩
/-- R503 `HOUSE_STAT.STATE` bits [1:0], RO. -/
def CLK.HOUSE_STAT_STATE : Field := ⟨0x500020, 2, 0⟩
/-- R503 `HOUSE_OFS.NS` bits [31:0], RO. -/
def CLK.HOUSE_OFS_NS : Field := ⟨0x500040, 32, 0⟩
/-- R503 `HOUSE_FREQ.FREQ` bits [31:0], RO. -/
def CLK.HOUSE_FREQ_FREQ : Field := ⟨0x500060, 32, 0⟩
/-- R503 `SERVO.LOCK_NS` bits [15:0], RW. -/
def CLK.SERVO_LOCK_NS : Field := ⟨0x500080, 16, 1000⟩
/-- R503 `SERVO.STEP` bits [31:16], RW. -/
def CLK.SERVO_STEP : Field := ⟨0x500090, 16, 1000⟩
/-- R503 `SERVO2.BW` bits [7:0], RW. -/
def CLK.SERVO2_BW : Field := ⟨0x5000A0, 8, 10⟩
/-- R503 `SERVO2.LOSS` bits [31:16], RW. -/
def CLK.SERVO2_LOSS : Field := ⟨0x5000B0, 16, 3000⟩
/-- R503 `PTP_OFS_LO.OFS` bits [31:0], RW. -/
def CLK.PTP_OFS_LO_OFS : Field := ⟨0x5000C0, 32, 0⟩
/-- R503 `PTP_OFS_HI.OFS` bits [31:0], RW. -/
def CLK.PTP_OFS_HI_OFS : Field := ⟨0x5000E0, 32, 0⟩
/-- R503 `PTP_CTL.OVERRUN` bits [0:0], W1C. -/
def CLK.PTP_CTL_OVERRUN : Field := ⟨0x500100, 1, 0⟩
/-- R503 `PTP_CTL.IGNORED` bits [1:1], W1C. -/
def CLK.PTP_CTL_IGNORED : Field := ⟨0x500101, 1, 0⟩
/-- R503 `PTP_CTL.GO` bits [31:31], WO. -/
def CLK.PTP_CTL_GO : Field := ⟨0x50011F, 1, 0⟩
/-- R503 `TIME_NS.NS` bits [31:0], RO. -/
def CLK.TIME_NS_NS : Field := ⟨0x500180, 32, 0⟩
/-- R503 `TIME_S.S` bits [31:0], RO. -/
def CLK.TIME_S_S : Field := ⟨0x5001A0, 32, 0⟩
/-- R503 `TIME_S_HI.S` bits [15:0], RO. -/
def CLK.TIME_S_HI_S : Field := ⟨0x5001C0, 16, 0⟩
/-- R503 `TIME_SET_NS.SET` bits [31:0], RW. -/
def CLK.TIME_SET_NS_SET : Field := ⟨0x500200, 32, 0⟩
/-- R503 `TIME_SET_S.SET` bits [31:0], RW. -/
def CLK.TIME_SET_S_SET : Field := ⟨0x500220, 32, 0⟩
/-- R503 `TIME_SET_S_HI.SET` bits [15:0], RW. -/
def CLK.TIME_SET_S_HI_SET : Field := ⟨0x500240, 16, 0⟩
/-- R503 `TIME_CTL.SET` bits [0:0], WO. -/
def CLK.TIME_CTL_SET : Field := ⟨0x500260, 1, 0⟩
/-- R503 `TIME_CTL.REFUSED` bits [1:1], W1C. -/
def CLK.TIME_CTL_REFUSED : Field := ⟨0x500261, 1, 0⟩
/-- R503 `TIME_STEPS.COUNT` bits [31:0], RO. -/
def CLK.TIME_STEPS_COUNT : Field := ⟨0x500280, 32, 0⟩
/-- R503 `SRC.SEL` bits [2:0], ST. -/
def CLK.SRC_SEL (n : Nat) : Field := ⟨0x502000 + n * 32, 3, 0⟩
/-- R503 `SRC.DIV` bits [7:4], ST. -/
def CLK.SRC_DIV (n : Nat) : Field := ⟨0x502004 + n * 32, 4, 0⟩
/-- R503 `UPLLW0.INT` bits [7:0], ST. -/
def CLK.UPLLW0_INT (n : Nat) : Field := ⟨0x503000 + n * 64, 8, 0⟩
/-- R503 `UPLLW0.REF` bits [8:8], ST. -/
def CLK.UPLLW0_REF (n : Nat) : Field := ⟨0x503008 + n * 64, 1, 0⟩
/-- R503 `UPLLW0.EN` bits [31:31], ST. -/
def CLK.UPLLW0_EN (n : Nat) : Field := ⟨0x50301F + n * 64, 1, 0⟩
/-- R503 `UPLLW1.NUM` bits [15:0], ST. -/
def CLK.UPLLW1_NUM (n : Nat) : Field := ⟨0x503020 + n * 64, 16, 0⟩
/-- R503 `UPLLW1.DEN` bits [31:16], ST. -/
def CLK.UPLLW1_DEN (n : Nat) : Field := ⟨0x503030 + n * 64, 16, 1⟩
/-- R503 `SRC_STAT.SEL` bits [2:0], RO. -/
def CLK.SRC_STAT_SEL (n : Nat) : Field := ⟨0x508000 + n * 32, 3, 0⟩
/-- R503 `SRC_STAT.DIV` bits [7:4], RO. -/
def CLK.SRC_STAT_DIV (n : Nat) : Field := ⟨0x508004 + n * 32, 4, 0⟩
/-- R503 `SRC_STAT.SWITCHING` bits [8:8], RO. -/
def CLK.SRC_STAT_SWITCHING (n : Nat) : Field := ⟨0x508008 + n * 32, 1, 0⟩
/-- R503 `SRC_STAT.HUNG` bits [9:9], RO. -/
def CLK.SRC_STAT_HUNG (n : Nat) : Field := ⟨0x508009 + n * 32, 1, 0⟩
/-- R503 `DRST.RESET` bits [0:0], RW. -/
def CLK.DRST_RESET (n : Nat) : Field := ⟨0x508800 + n * 32, 1, 0⟩
/-- R503 `DRST.FORCE` bits [1:1], WO. -/
def CLK.DRST_FORCE (n : Nat) : Field := ⟨0x508801 + n * 32, 1, 0⟩
/-- R503 `DRST.FORCE_REFUSED` bits [2:2], W1C. -/
def CLK.DRST_FORCE_REFUSED (n : Nat) : Field := ⟨0x508802 + n * 32, 1, 0⟩
/-- R503 `MON_RUN.RUN` bits [31:0], RO. -/
def CLK.MON_RUN_RUN (n : Nat) : Field := ⟨0x509000 + n * 32, 32, 0⟩
/-- R503 `MON_DEAD.DEAD` bits [31:0], W1C. -/
def CLK.MON_DEAD_DEAD (n : Nat) : Field := ⟨0x509040 + n * 32, 32, 0⟩
/-- R503 `RAS_CTL.ENABLE` bits [0:0], RW. -/
def CLK.RAS_CTL_ENABLE (n : Nat) : Field := ⟨0x510000 + n * 256, 1, 0⟩
/-- R503 `RAS_CTL.BAD` bits [1:1], W1C. -/
def CLK.RAS_CTL_BAD (n : Nat) : Field := ⟨0x510001 + n * 256, 1, 0⟩
/-- R503 `RAS_RATE.NUM` bits [15:0], RW. -/
def CLK.RAS_RATE_NUM (n : Nat) : Field := ⟨0x510020 + n * 256, 16, 50⟩
/-- R503 `RAS_RATE.DEN` bits [31:16], RW. -/
def CLK.RAS_RATE_DEN (n : Nat) : Field := ⟨0x510030 + n * 256, 16, 1⟩
/-- R503 `RAS_GEOM.LINES` bits [15:0], RW. -/
def CLK.RAS_GEOM_LINES (n : Nat) : Field := ⟨0x510040 + n * 256, 16, 1125⟩
/-- R503 `RAS_GEOM.SAMPLES` bits [31:16], RW. -/
def CLK.RAS_GEOM_SAMPLES (n : Nat) : Field := ⟨0x510050 + n * 256, 16, 2640⟩
/-- R503 `RAS_OFS.NS` bits [31:0], RW. -/
def CLK.RAS_OFS_NS (n : Nat) : Field := ⟨0x510060 + n * 256, 32, 0⟩
/-- R503 `RAS_FRAME.FRAME` bits [31:0], RO. -/
def CLK.RAS_FRAME_FRAME (n : Nat) : Field := ⟨0x510080 + n * 256, 32, 0⟩
/-- R503 `RAS_POS.LINE` bits [15:0], RO. -/
def CLK.RAS_POS_LINE (n : Nat) : Field := ⟨0x5100A0 + n * 256, 16, 0⟩
/-- R503 `RAS_POS.SAMPLE` bits [31:16], RO. -/
def CLK.RAS_POS_SAMPLE (n : Nat) : Field := ⟨0x5100B0 + n * 256, 16, 0⟩
/-- R503 `GATE_TIMEOUT.CYCLES` bits [15:0], RW. -/
def CLK.GATE_TIMEOUT_CYCLES : Field := ⟨0x510800, 16, 4096⟩
/-- R503 `GATE_EVT.BLOCK` bits [15:0], RO. -/
def CLK.GATE_EVT_BLOCK : Field := ⟨0x510820, 16, 0⟩
/-- R503 `GATE_EVT.USER` bits [16:16], RO. -/
def CLK.GATE_EVT_USER : Field := ⟨0x510830, 1, 0⟩
/-- R503 `GATE_EVT.DOMAIN` bits [22:17], RO. -/
def CLK.GATE_EVT_DOMAIN : Field := ⟨0x510831, 6, 0⟩
/-- R503 `GATE_EVT.LOST` bits [30:30], W1C. -/
def CLK.GATE_EVT_LOST : Field := ⟨0x51083E, 1, 0⟩
/-- R503 `GATE_EVT.VALID` bits [31:31], W1C. -/
def CLK.GATE_EVT_VALID : Field := ⟨0x51083F, 1, 0⟩
/-- R503 `FM_CTL.TARGET` bits [6:0], RW. -/
def CLK.FM_CTL_TARGET : Field := ⟨0x518000, 7, 0⟩
/-- R503 `FM_CTL.REF` bits [14:8], RW. -/
def CLK.FM_CTL_REF : Field := ⟨0x518008, 7, 0⟩
/-- R503 `FM_CTL.GO` bits [31:31], WO. -/
def CLK.FM_CTL_GO : Field := ⟨0x51801F, 1, 0⟩
/-- R503 `FM_WIN.WINDOW` bits [31:0], RW. -/
def CLK.FM_WIN_WINDOW : Field := ⟨0x518020, 32, 0⟩
/-- R503 `FM_RES.COUNT` bits [31:0], RO. -/
def CLK.FM_RES_COUNT : Field := ⟨0x518040, 32, 0⟩
/-- R503 `FM_STAT.BUSY` bits [0:0], RO. -/
def CLK.FM_STAT_BUSY : Field := ⟨0x518060, 1, 0⟩
/-- R503 `FM_STAT.OVF` bits [1:1], RO. -/
def CLK.FM_STAT_OVF : Field := ⟨0x518061, 1, 0⟩
/-- R503 `FM_STAT.DEAD` bits [2:2], RO. -/
def CLK.FM_STAT_DEAD : Field := ⟨0x518062, 1, 0⟩
/-- R503 `INT.CLOCK_DEAD` bits [0:0], W1C. -/
def CLK.INT_CLOCK_DEAD : Field := ⟨0x518800, 1, 0⟩
/-- R503 `INT.HUNG` bits [1:1], W1C. -/
def CLK.INT_HUNG : Field := ⟨0x518801, 1, 0⟩
/-- R503 `INT.HOUSE_LOCK` bits [2:2], W1C. -/
def CLK.INT_HOUSE_LOCK : Field := ⟨0x518802, 1, 0⟩
/-- R503 `INT.HOUSE_HOLDOVER` bits [3:3], W1C. -/
def CLK.INT_HOUSE_HOLDOVER : Field := ⟨0x518803, 1, 0⟩
/-- R503 `INT.TIME_STEP` bits [4:4], W1C. -/
def CLK.INT_TIME_STEP : Field := ⟨0x518804, 1, 0⟩
/-- R503 `INT.GATE_TIMEOUT` bits [5:5], W1C. -/
def CLK.INT_GATE_TIMEOUT : Field := ⟨0x518805, 1, 0⟩
/-- R503 `INT.FM_DONE` bits [6:6], W1C. -/
def CLK.INT_FM_DONE : Field := ⟨0x518806, 1, 0⟩
/-- R503 `INT_EN.EN` bits [6:0], RW. -/
def CLK.INT_EN_EN : Field := ⟨0x518820, 7, 0⟩
/-- R533 `FEED.RAW` bits [9:2], RO. -/
def POWER.FEED_RAW : Field := ⟨0x600002, 8, 255⟩
/-- R533 `OPP_REQ.LAYER` bits [3:0], RW. -/
def POWER.OPP_REQ_LAYER : Field := ⟨0x600020, 4, 2⟩
/-- R533 `OPP_REQ.SCALE` bits [10:4], RW. -/
def POWER.OPP_REQ_SCALE : Field := ⟨0x600024, 7, 64⟩
/-- R533 `OPP_REQ.VOLT` bits [25:16], RW. -/
def POWER.OPP_REQ_VOLT : Field := ⟨0x600030, 10, 750⟩
/-- R533 `OPP_REQ.GO` bits [31:31], WO. -/
def POWER.OPP_REQ_GO : Field := ⟨0x60003F, 1, 0⟩
/-- R533 `OPP_STATUS.BUSY` bits [0:0], RO. -/
def POWER.OPP_STATUS_BUSY : Field := ⟨0x600040, 1, 0⟩
/-- R533 `OPP_STATUS.RESULT` bits [7:4], RO. -/
def POWER.OPP_STATUS_RESULT : Field := ⟨0x600044, 4, 0⟩
/-- R533 `OPP.SCALE` bits [6:0], RO. -/
def POWER.OPP_SCALE (n : Nat) : Field := ⟨0x600080 + n * 32, 7, 64⟩
/-- R533 `OPP.VOLT` bits [25:16], RO. -/
def POWER.OPP_VOLT (n : Nat) : Field := ⟨0x600090 + n * 32, 10, 750⟩
/-- R533 `REG_CMD.LAYER` bits [3:0], RW. -/
def POWER.REG_CMD_LAYER : Field := ⟨0x600100, 4, 0⟩
/-- R533 `REG_CMD.OP` bits [5:4], RW. -/
def POWER.REG_CMD_OP : Field := ⟨0x600104, 2, 0⟩
/-- R533 `REG_CMD.GO` bits [31:31], WO. -/
def POWER.REG_CMD_GO : Field := ⟨0x60011F, 1, 0⟩
/-- R533 `REG_STATUS.BUSY` bits [0:0], RO. -/
def POWER.REG_STATUS_BUSY : Field := ⟨0x600120, 1, 0⟩
/-- R533 `REG_STATUS.RESULT` bits [7:4], RO. -/
def POWER.REG_STATUS_RESULT : Field := ⟨0x600124, 4, 0⟩
/-- R533 `RAIL.MV` bits [11:0], RO. -/
def POWER.RAIL_MV (n : Nat) : Field := ⟨0x600800 + n * 32, 12, 0⟩
/-- R533 `RAIL.DA` bits [27:16], RO. -/
def POWER.RAIL_DA (n : Nat) : Field := ⟨0x600810 + n * 32, 12, 0⟩
/-- R533 `SUPPLY_OK.OK` bits [13:0], RO. -/
def POWER.SUPPLY_OK_OK : Field := ⟨0x601000, 14, 0⟩
/-- R533 `SUPPLY_EVT.EVT` bits [13:0], W1C. -/
def POWER.SUPPLY_EVT_EVT : Field := ⟨0x601020, 14, 0⟩
/-- R533 `INT.SUPPLY` bits [0:0], W1C. -/
def POWER.INT_SUPPLY : Field := ⟨0x601800, 1, 0⟩
/-- R533 `INT.SUSPECT` bits [1:1], W1C. -/
def POWER.INT_SUSPECT : Field := ⟨0x601801, 1, 0⟩
/-- R533 `INT.OPP_DONE` bits [2:2], W1C. -/
def POWER.INT_OPP_DONE : Field := ⟨0x601802, 1, 0⟩
/-- R533 `INT_EN.EN` bits [2:0], RW. -/
def POWER.INT_EN_EN : Field := ⟨0x601820, 3, 0⟩
/-- R534 `DIE.MEASURED` bits [11:0], RO. -/
def THERM.DIE_MEASURED (n : Nat) : Field := ⟨0x580000 + n * 32, 12, 0⟩
/-- R534 `DIE.DECIDED` bits [27:16], RO. -/
def THERM.DIE_DECIDED (n : Nat) : Field := ⟨0x580010 + n * 32, 12, 0⟩
/-- R534 `DIE.SUSPECT` bits [28:28], RO. -/
def THERM.DIE_SUSPECT (n : Nat) : Field := ⟨0x58001C + n * 32, 1, 0⟩
/-- R534 `DIE.NO_SENSOR` bits [29:29], RO. -/
def THERM.DIE_NO_SENSOR (n : Nat) : Field := ⟨0x58001D + n * 32, 1, 0⟩
/-- R534 `DIE.RATE` bits [31:30], RO. -/
def THERM.DIE_RATE (n : Nat) : Field := ⟨0x58001E + n * 32, 2, 0⟩
/-- R534 `MODEL.EST` bits [11:0], RO. -/
def THERM.MODEL_EST (n : Nat) : Field := ⟨0x580200 + n * 32, 12, 0⟩
/-- R534 `MODEL.VALID` bits [31:31], RO. -/
def THERM.MODEL_VALID (n : Nat) : Field := ⟨0x58021F + n * 32, 1, 0⟩
/-- R534 `SENS_SEL.SENSOR` bits [7:0], RW. -/
def THERM.SENS_SEL_SENSOR : Field := ⟨0x580400, 8, 0⟩
/-- R534 `SENS_VAL.T` bits [11:0], RO. -/
def THERM.SENS_VAL_T : Field := ⟨0x580420, 12, 0⟩
/-- R534 `SENS_VAL.FAILED` bits [31:31], RO. -/
def THERM.SENS_VAL_FAILED : Field := ⟨0x58043F, 1, 0⟩
/-- R534 `CFG.THROTTLE` bits [4:0], RW. -/
def THERM.CFG_THROTTLE : Field := ⟨0x580480, 5, 15⟩
/-- R534 `CFG.SLOPE` bits [12:8], RW. -/
def THERM.CFG_SLOPE : Field := ⟨0x580488, 5, 10⟩
/-- R534 `CFG.MARGIN` bits [19:16], RW. -/
def THERM.CFG_MARGIN : Field := ⟨0x580490, 4, 2⟩
/-- R534 `FACTOR.F` bits [6:0], RO. -/
def THERM.FACTOR_F (n : Nat) : Field := ⟨0x580500 + n * 32, 7, 64⟩
/-- R534 `ELASTIC.DOMAINS` bits [31:0], RW. -/
def THERM.ELASTIC_DOMAINS : Field := ⟨0x580680, 32, 0⟩
/-- R534 `WEAR.BASE` bits [15:0], RO. -/
def THERM.WEAR_BASE (n : Nat) : Field := ⟨0x580700 + n * 32, 16, 0⟩
/-- R534 `WEAR.MARGIN` bits [31:16], RO. -/
def THERM.WEAR_MARGIN (n : Nat) : Field := ⟨0x580710 + n * 32, 16, 0⟩
/-- R534 `EVENT.DIE` bits [3:0], RO. -/
def THERM.EVENT_DIE : Field := ⟨0x580800, 4, 0⟩
/-- R534 `EVENT.CAUSE` bits [7:4], RO. -/
def THERM.EVENT_CAUSE : Field := ⟨0x580804, 4, 0⟩
/-- R534 `EVENT.LOST` bits [30:30], W1C. -/
def THERM.EVENT_LOST : Field := ⟨0x58081E, 1, 0⟩
/-- R534 `EVENT.VALID` bits [31:31], W1C. -/
def THERM.EVENT_VALID : Field := ⟨0x58081F, 1, 0⟩
/-- R534 `INT.CRITICAL` bits [0:0], W1C. -/
def THERM.INT_CRITICAL : Field := ⟨0x580880, 1, 0⟩
/-- R534 `INT.SUSPECT` bits [1:1], W1C. -/
def THERM.INT_SUSPECT : Field := ⟨0x580881, 1, 0⟩
/-- R534 `INT.THROTTLING` bits [2:2], W1C. -/
def THERM.INT_THROTTLING : Field := ⟨0x580882, 1, 0⟩
/-- R534 `INT.WEAR` bits [3:3], W1C. -/
def THERM.INT_WEAR : Field := ⟨0x580883, 1, 0⟩
/-- R534 `INT_EN.EN` bits [3:0], RW. -/
def THERM.INT_EN_EN : Field := ⟨0x5808A0, 4, 0⟩
/-- R535 `SEL.TYPE` bits [15:0], RW. -/
def LEDGER.SEL_TYPE : Field := ⟨0x800000, 16, 0⟩
/-- R535 `REC_STAT.VALID_A` bits [0:0], RO. -/
def LEDGER.REC_STAT_VALID_A : Field := ⟨0x800020, 1, 0⟩
/-- R535 `REC_STAT.VALID_B` bits [1:1], RO. -/
def LEDGER.REC_STAT_VALID_B : Field := ⟨0x800021, 1, 0⟩
/-- R535 `REC_STAT.BANK` bits [2:2], RO. -/
def LEDGER.REC_STAT_BANK : Field := ⟨0x800022, 1, 0⟩
/-- R535 `REC_SEQ.SEQ` bits [31:0], RO. -/
def LEDGER.REC_SEQ_SEQ : Field := ⟨0x800040, 32, 0⟩
/-- R535 `REC_LEN.LEN` bits [31:0], RO. -/
def LEDGER.REC_LEN_LEN : Field := ⟨0x800060, 32, 0⟩
/-- R535 `WIN_ADDR.WORD` bits [15:0], RW. -/
def LEDGER.WIN_ADDR_WORD : Field := ⟨0x800080, 16, 0⟩
/-- R535 `WIN_ADDR.AUTOINC` bits [31:31], RW. -/
def LEDGER.WIN_ADDR_AUTOINC : Field := ⟨0x80009F, 1, 0⟩
/-- R535 `WIN_DATA.DATA` bits [31:0], RW. -/
def LEDGER.WIN_DATA_DATA : Field := ⟨0x8000A0, 32, 0⟩
/-- R535 `CMD.OP` bits [3:0], RW. -/
def LEDGER.CMD_OP : Field := ⟨0x8000C0, 4, 0⟩
/-- R535 `CMD.GO` bits [31:31], WO. -/
def LEDGER.CMD_GO : Field := ⟨0x8000DF, 1, 0⟩
/-- R535 `STATUS.BUSY` bits [0:0], RO. -/
def LEDGER.STATUS_BUSY : Field := ⟨0x8000E0, 1, 0⟩
/-- R535 `STATUS.RESULT` bits [7:4], RO. -/
def LEDGER.STATUS_RESULT : Field := ⟨0x8000E4, 4, 0⟩
/-- R535 `DAWNS.COUNT` bits [31:0], RO. -/
def LEDGER.DAWNS_COUNT : Field := ⟨0x800100, 32, 0⟩
/-- R535 `PEND.HELD` bits [6:0], RO. -/
def LEDGER.PEND_HELD : Field := ⟨0x800120, 7, 0⟩
/-- R535 `PEND.DROPPED` bits [31:16], RO. -/
def LEDGER.PEND_DROPPED : Field := ⟨0x800130, 16, 0⟩
/-- R551 `ID.BUILD` bits [1:0], RO. -/
def SYS.ID_BUILD : Field := ⟨0x0, 2, 0⟩
/-- R551 `ID.STACK` bits [2:2], RO. -/
def SYS.ID_STACK : Field := ⟨0x2, 1, 0⟩
/-- R551 `ID.REVISION` bits [15:8], RO. -/
def SYS.ID_REVISION : Field := ⟨0x8, 8, 0⟩
/-- R551 `MODE.CURRENT` bits [3:0], RO. -/
def SYS.MODE_CURRENT : Field := ⟨0x20, 4, 0⟩
/-- R551 `MODE.BUSY` bits [4:4], RO. -/
def SYS.MODE_BUSY : Field := ⟨0x24, 1, 0⟩
/-- R551 `MODE.REFUSED` bits [5:5], W1C. -/
def SYS.MODE_REFUSED : Field := ⟨0x25, 1, 0⟩
/-- R551 `MODE.REFUSE_CAUSE` bits [11:8], RO. -/
def SYS.MODE_REFUSE_CAUSE : Field := ⟨0x28, 4, 0⟩
/-- R551 `MODE_REQ.TARGET` bits [3:0], RW. -/
def SYS.MODE_REQ_TARGET : Field := ⟨0x40, 4, 0⟩
/-- R551 `MODE_REQ.AFTER_DUSK` bits [7:4], RW. -/
def SYS.MODE_REQ_AFTER_DUSK : Field := ⟨0x44, 4, 1⟩
/-- R551 `DAWN.STEP` bits [3:0], RO. -/
def SYS.DAWN_STEP : Field := ⟨0x60, 4, 0⟩
/-- R551 `DAWN.FAIL` bits [15:8], RO. -/
def SYS.DAWN_FAIL : Field := ⟨0x68, 8, 0⟩
/-- R551 `RECOV.BUSY` bits [0:0], RO. -/
def SYS.RECOV_BUSY : Field := ⟨0x80, 1, 0⟩
/-- R551 `RECOV.LEVEL` bits [3:1], RO. -/
def SYS.RECOV_LEVEL : Field := ⟨0x81, 3, 0⟩
/-- R551 `VIGIL_TIMER.SECONDS` bits [23:0], RW. -/
def SYS.VIGIL_TIMER_SECONDS : Field := ⟨0xA0, 24, 0⟩
/-- R551 `INT.MODE_DONE` bits [0:0], W1C. -/
def SYS.INT_MODE_DONE : Field := ⟨0x100, 1, 0⟩
/-- R551 `INT.MODE_REFUSED` bits [1:1], W1C. -/
def SYS.INT_MODE_REFUSED : Field := ⟨0x101, 1, 0⟩
/-- R551 `INT.RECOV` bits [2:2], W1C. -/
def SYS.INT_RECOV : Field := ⟨0x102, 1, 0⟩
/-- R551 `INT_EN.EN` bits [2:0], RW. -/
def SYS.INT_EN_EN : Field := ⟨0x120, 3, 0⟩
/-- R552 `WIN_ADDR_LO.ADDR` bits [31:0], RW. -/
def HOSTIF.WIN_ADDR_LO_ADDR (n : Nat) : Field := ⟨0x700000 + n * 128, 32, 0⟩
/-- R552 `WIN_ADDR_HI.ADDR` bits [15:0], RW. -/
def HOSTIF.WIN_ADDR_HI_ADDR (n : Nat) : Field := ⟨0x700020 + n * 128, 16, 0⟩
/-- R552 `WIN_ADDR_HI.AUTOINC` bits [31:31], RW. -/
def HOSTIF.WIN_ADDR_HI_AUTOINC (n : Nat) : Field := ⟨0x70003F + n * 128, 1, 0⟩
/-- R552 `WIN_DATA.DATA` bits [31:0], RW. -/
def HOSTIF.WIN_DATA_DATA (n : Nat) : Field := ⟨0x700040 + n * 128, 32, 0⟩
/-- R552 `FENCE.STATUS` bits [3:0], RO. -/
def HOSTIF.FENCE_STATUS : Field := ⟨0x700800, 4, 0⟩
/-- R552 `FENCE.FAILED` bits [31:16], RO. -/
def HOSTIF.FENCE_FAILED : Field := ⟨0x700810, 16, 0⟩
/-- R552 `ERR_STATUS.STATUS` bits [3:0], RO. -/
def HOSTIF.ERR_STATUS_STATUS : Field := ⟨0x700880, 4, 0⟩
/-- R552 `ERR_STATUS.KIND` bits [5:4], RO. -/
def HOSTIF.ERR_STATUS_KIND : Field := ⟨0x700884, 2, 0⟩
/-- R552 `ERR_STATUS.CORE` bits [7:6], RO. -/
def HOSTIF.ERR_STATUS_CORE : Field := ⟨0x700886, 2, 0⟩
/-- R552 `ERR_STATUS.LOST` bits [30:30], W1C. -/
def HOSTIF.ERR_STATUS_LOST : Field := ⟨0x70089E, 1, 0⟩
/-- R552 `ERR_STATUS.VALID` bits [31:31], W1C. -/
def HOSTIF.ERR_STATUS_VALID : Field := ⟨0x70089F, 1, 0⟩
/-- R552 `ERR_ADDR_LO.ADDR` bits [31:0], RO. -/
def HOSTIF.ERR_ADDR_LO_ADDR : Field := ⟨0x7008A0, 32, 0⟩
/-- R552 `ERR_ADDR_HI.ADDR` bits [15:0], RO. -/
def HOSTIF.ERR_ADDR_HI_ADDR : Field := ⟨0x7008C0, 16, 0⟩
/-- R552 `UCIE_STAT.MODULES` bits [1:0], RO. -/
def HOSTIF.UCIE_STAT_MODULES : Field := ⟨0x700900, 2, 0⟩
/-- R552 `UCIE_STAT.RATE` bits [2:2], RO. -/
def HOSTIF.UCIE_STAT_RATE : Field := ⟨0x700902, 1, 0⟩
/-- R552 `UCIE_STAT.RETRIES` bits [31:16], RO. -/
def HOSTIF.UCIE_STAT_RETRIES : Field := ⟨0x700910, 16, 0⟩
/-- R552 `MSG_DROP.COUNT` bits [15:0], RO. -/
def HOSTIF.MSG_DROP_COUNT : Field := ⟨0x700920, 16, 0⟩
/-- R552 `VEC_PEND.PEND` bits [31:0], RO. -/
def HOSTIF.VEC_PEND_PEND (n : Nat) : Field := ⟨0x701000 + n * 32, 32, 0⟩
/-- R552 `VEC_EOI.VECTOR` bits [7:0], WO. -/
def HOSTIF.VEC_EOI_VECTOR : Field := ⟨0x701100, 8, 0⟩
/-- R552 `INT.ERR` bits [0:0], W1C. -/
def HOSTIF.INT_ERR : Field := ⟨0x701180, 1, 0⟩
/-- R552 `INT.DEGRADED` bits [1:1], W1C. -/
def HOSTIF.INT_DEGRADED : Field := ⟨0x701181, 1, 0⟩
/-- R552 `INT.MSG_DROP` bits [2:2], W1C. -/
def HOSTIF.INT_MSG_DROP : Field := ⟨0x701182, 1, 0⟩
/-- R552 `INT_EN.EN` bits [2:0], RW. -/
def HOSTIF.INT_EN_EN : Field := ⟨0x7011A0, 3, 0⟩
/-- R552 `VEC_CFG.EN` bits [0:0], RW. -/
def HOSTIF.VEC_CFG_EN (n : Nat) : Field := ⟨0x708000 + n * 32, 1, 0⟩
/-- R552 `VEC_CFG.CORE` bits [2:1], RW. -/
def HOSTIF.VEC_CFG_CORE (n : Nat) : Field := ⟨0x708001 + n * 32, 2, 0⟩
/-- R552 `VEC_CFG.WAKE` bits [3:3], RW. -/
def HOSTIF.VEC_CFG_WAKE (n : Nat) : Field := ⟨0x708003 + n * 32, 1, 0⟩
/-- R570 `INFO.PINS` bits [7:0], RO. -/
def PINS.INFO_PINS : Field := ⟨0x680000, 8, 96⟩
/-- R570 `INFO.BANKS` bits [11:8], RO. -/
def PINS.INFO_BANKS : Field := ⟨0x680008, 4, 6⟩
/-- R570 `GPIO_OUT.OUT` bits [31:0], RW. -/
def PINS.GPIO_OUT_OUT (n : Nat) : Field := ⟨0x680080 + n * 32, 32, 0⟩
/-- R570 `OUT_SET.SET` bits [31:0], WO. -/
def PINS.OUT_SET_SET (n : Nat) : Field := ⟨0x680100 + n * 32, 32, 0⟩
/-- R570 `OUT_CLR.CLR` bits [31:0], WO. -/
def PINS.OUT_CLR_CLR (n : Nat) : Field := ⟨0x680180 + n * 32, 32, 0⟩
/-- R570 `IN.IN` bits [31:0], RO. -/
def PINS.IN_IN (n : Nat) : Field := ⟨0x680200 + n * 32, 32, 0⟩
/-- R570 `TALLY.TALLY` bits [31:0], RO. -/
def PINS.TALLY_TALLY (n : Nat) : Field := ⟨0x680280 + n * 32, 32, 0⟩
/-- R570 `CONFLICT.CONFLICT` bits [31:0], W1C. -/
def PINS.CONFLICT_CONFLICT (n : Nat) : Field := ⟨0x680300 + n * 32, 32, 0⟩
/-- R570 `LOCKED.LOCKED` bits [31:0], RO. -/
def PINS.LOCKED_LOCKED (n : Nat) : Field := ⟨0x680380 + n * 32, 32, 0⟩
/-- R570 `LOCK_KEY.KEY` bits [15:0], WO. -/
def PINS.LOCK_KEY_KEY : Field := ⟨0x680400, 16, 0⟩
/-- R570 `LOCK_MASK.MASK` bits [31:0], WO. -/
def PINS.LOCK_MASK_MASK (n : Nat) : Field := ⟨0x680420 + n * 32, 32, 0⟩
/-- R570 `LOCK_STATUS.ARMED` bits [0:0], RO. -/
def PINS.LOCK_STATUS_ARMED : Field := ⟨0x680480, 1, 0⟩
/-- R570 `LOCK_STATUS.REFUSED` bits [1:1], W1C. -/
def PINS.LOCK_STATUS_REFUSED : Field := ⟨0x680481, 1, 0⟩
/-- R570 `XLOCK_MASK.MASK` bits [31:0], WO. -/
def PINS.XLOCK_MASK_MASK (n : Nat) : Field := ⟨0x680680 + n * 32, 32, 0⟩
/-- R570 `XLOCKED.LOCKED` bits [31:0], RO. -/
def PINS.XLOCKED_LOCKED (n : Nat) : Field := ⟨0x680900 + n * 32, 32, 0⟩
/-- R570 `BANK.VSEL` bits [1:0], RO. -/
def PINS.BANK_VSEL (n : Nat) : Field := ⟨0x680500 + n * 32, 2, 0⟩
/-- R570 `BANK.OK` bits [2:2], RO. -/
def PINS.BANK_OK (n : Nat) : Field := ⟨0x680502 + n * 32, 1, 0⟩
/-- R570 `TS_HEAD.PIN` bits [6:0], RO. -/
def PINS.TS_HEAD_PIN : Field := ⟨0x680580, 7, 0⟩
/-- R570 `TS_HEAD.KIND` bits [8:8], RO. -/
def PINS.TS_HEAD_KIND : Field := ⟨0x680588, 1, 0⟩
/-- R570 `TS_HEAD.COUNT` bits [20:16], RO. -/
def PINS.TS_HEAD_COUNT : Field := ⟨0x680590, 5, 0⟩
/-- R570 `TS_NS.TS` bits [31:0], RO. -/
def PINS.TS_NS_TS : Field := ⟨0x6805A0, 32, 0⟩
/-- R570 `TS_S.TS` bits [31:0], RO. -/
def PINS.TS_S_TS : Field := ⟨0x6805C0, 32, 0⟩
/-- R570 `TS_S_HI.TS` bits [15:0], RO. -/
def PINS.TS_S_HI_TS : Field := ⟨0x6805E0, 16, 0⟩
/-- R570 `FP_CFG.WIDTH` bits [7:0], RW. -/
def PINS.FP_CFG_WIDTH (n : Nat) : Field := ⟨0x680600 + n * 32, 8, 1⟩
/-- R570 `FP_CFG.INVERT` bits [8:8], RW. -/
def PINS.FP_CFG_INVERT (n : Nat) : Field := ⟨0x680608 + n * 32, 1, 0⟩
/-- R570 `INT.CONFLICT` bits [0:0], W1C. -/
def PINS.INT_CONFLICT : Field := ⟨0x680780, 1, 0⟩
/-- R570 `INT.LOCK_REFUSED` bits [1:1], W1C. -/
def PINS.INT_LOCK_REFUSED : Field := ⟨0x680781, 1, 0⟩
/-- R570 `INT.TS` bits [2:2], W1C. -/
def PINS.INT_TS : Field := ⟨0x680782, 1, 0⟩
/-- R570 `INT.TS_LOST` bits [3:3], W1C. -/
def PINS.INT_TS_LOST : Field := ⟨0x680783, 1, 0⟩
/-- R570 `INT.PERIPH` bits [4:4], W1C. -/
def PINS.INT_PERIPH : Field := ⟨0x680784, 1, 0⟩
/-- R570 `INT_EN.EN` bits [4:0], RW. -/
def PINS.INT_EN_EN : Field := ⟨0x6807A0, 5, 0⟩
/-- R570 `PIN.FUNC` bits [3:0], ST, LK. -/
def PINS.PIN_FUNC (n : Nat) : Field := ⟨0x688000 + n * 32, 4, 0⟩
/-- R570 `PIN.DIR` bits [4:4], ST, LK. -/
def PINS.PIN_DIR (n : Nat) : Field := ⟨0x688004 + n * 32, 1, 0⟩
/-- R570 `PIN.OD` bits [5:5], ST, LK. -/
def PINS.PIN_OD (n : Nat) : Field := ⟨0x688005 + n * 32, 1, 0⟩
/-- R570 `PIN.PULL` bits [7:6], ST, LK. -/
def PINS.PIN_PULL (n : Nat) : Field := ⟨0x688006 + n * 32, 2, 0⟩
/-- R570 `PIN.DRIVE` bits [9:8], ST, LK. -/
def PINS.PIN_DRIVE (n : Nat) : Field := ⟨0x688008 + n * 32, 2, 1⟩
/-- R570 `PIN.SLOW` bits [10:10], ST, LK. -/
def PINS.PIN_SLOW (n : Nat) : Field := ⟨0x68800A + n * 32, 1, 0⟩
/-- R570 `XBAR.SIDE` bits [1:0], ST, LK. -/
def PINS.XBAR_SIDE (n : Nat) : Field := ⟨0x698000 + n * 32, 2, 0⟩
/-- R570 `XBAR.VPIN` bits [8:2], ST, LK. -/
def PINS.XBAR_VPIN (n : Nat) : Field := ⟨0x698002 + n * 32, 7, 0⟩
/-- R570 `XBAR.VALID` bits [31:31], ST, LK. -/
def PINS.XBAR_VALID (n : Nat) : Field := ⟨0x69801F + n * 32, 1, 0⟩
/-- R571 `SPI_CFG.DIV` bits [7:0], RW. -/
def PINS.SPI_CFG_DIV (n : Nat) : Field := ⟨0x6A0000 + n * 512, 8, 0⟩
/-- R571 `SPI_CFG.MODE` bits [9:8], RW. -/
def PINS.SPI_CFG_MODE (n : Nat) : Field := ⟨0x6A0008 + n * 512, 2, 0⟩
/-- R571 `SPI_CFG.CS` bits [12:10], RW. -/
def PINS.SPI_CFG_CS (n : Nat) : Field := ⟨0x6A000A + n * 512, 3, 0⟩
/-- R571 `SPI_CFG.LSB` bits [13:13], RW. -/
def PINS.SPI_CFG_LSB (n : Nat) : Field := ⟨0x6A000D + n * 512, 1, 0⟩
/-- R571 `SPI_CFG.EN` bits [31:31], RW. -/
def PINS.SPI_CFG_EN (n : Nat) : Field := ⟨0x6A001F + n * 512, 1, 0⟩
/-- R571 `SPI_DATA.DATA` bits [7:0], RW. -/
def PINS.SPI_DATA_DATA (n : Nat) : Field := ⟨0x6A0020 + n * 512, 8, 0⟩
/-- R571 `I2C_CFG.DIV` bits [9:0], RW. -/
def PINS.I2C_CFG_DIV (n : Nat) : Field := ⟨0x6A0040 + n * 512, 10, 0⟩
/-- R571 `I2C_CFG.EN` bits [31:31], RW. -/
def PINS.I2C_CFG_EN (n : Nat) : Field := ⟨0x6A005F + n * 512, 1, 0⟩
/-- R571 `I2C_CMD.DATA` bits [7:0], RW. -/
def PINS.I2C_CMD_DATA (n : Nat) : Field := ⟨0x6A0060 + n * 512, 8, 0⟩
/-- R571 `I2C_CMD.START` bits [8:8], RW. -/
def PINS.I2C_CMD_START (n : Nat) : Field := ⟨0x6A0068 + n * 512, 1, 0⟩
/-- R571 `I2C_CMD.STOP` bits [9:9], RW. -/
def PINS.I2C_CMD_STOP (n : Nat) : Field := ⟨0x6A0069 + n * 512, 1, 0⟩
/-- R571 `I2C_CMD.READ` bits [10:10], RW. -/
def PINS.I2C_CMD_READ (n : Nat) : Field := ⟨0x6A006A + n * 512, 1, 0⟩
/-- R571 `I2C_CMD.NACK` bits [11:11], RW. -/
def PINS.I2C_CMD_NACK (n : Nat) : Field := ⟨0x6A006B + n * 512, 1, 0⟩
/-- R571 `I2C_CMD.GO` bits [31:31], WO. -/
def PINS.I2C_CMD_GO (n : Nat) : Field := ⟨0x6A007F + n * 512, 1, 0⟩
/-- R571 `UART_CFG.DIV` bits [15:0], RW. -/
def PINS.UART_CFG_DIV (n : Nat) : Field := ⟨0x6A0080 + n * 512, 16, 0⟩
/-- R571 `UART_CFG.PAR` bits [16:16], RW. -/
def PINS.UART_CFG_PAR (n : Nat) : Field := ⟨0x6A0090 + n * 512, 1, 0⟩
/-- R571 `UART_CFG.ODD` bits [17:17], RW. -/
def PINS.UART_CFG_ODD (n : Nat) : Field := ⟨0x6A0091 + n * 512, 1, 0⟩
/-- R571 `UART_CFG.STOP2` bits [18:18], RW. -/
def PINS.UART_CFG_STOP2 (n : Nat) : Field := ⟨0x6A0092 + n * 512, 1, 0⟩
/-- R571 `UART_CFG.CTS_EN` bits [19:19], RW. -/
def PINS.UART_CFG_CTS_EN (n : Nat) : Field := ⟨0x6A0093 + n * 512, 1, 0⟩
/-- R571 `UART_CFG.EN` bits [31:31], RW. -/
def PINS.UART_CFG_EN (n : Nat) : Field := ⟨0x6A009F + n * 512, 1, 0⟩
/-- R571 `UART_DATA.DATA` bits [7:0], RW. -/
def PINS.UART_DATA_DATA (n : Nat) : Field := ⟨0x6A00A0 + n * 512, 8, 0⟩
/-- R571 `UART_DATA.VALID` bits [8:8], RO. -/
def PINS.UART_DATA_VALID (n : Nat) : Field := ⟨0x6A00A8 + n * 512, 1, 0⟩
/-- R571 `LTC_CFG.RASTER` bits [1:0], RW. -/
def PINS.LTC_CFG_RASTER (n : Nat) : Field := ⟨0x6A00C0 + n * 512, 2, 0⟩
/-- R571 `LTC_CFG.DROP` bits [2:2], RW. -/
def PINS.LTC_CFG_DROP (n : Nat) : Field := ⟨0x6A00C2 + n * 512, 1, 0⟩
/-- R571 `LTC_CFG.EN` bits [31:31], RW. -/
def PINS.LTC_CFG_EN (n : Nat) : Field := ⟨0x6A00DF + n * 512, 1, 0⟩
/-- R571 `LTC_OFS.SECONDS` bits [31:0], RW. -/
def PINS.LTC_OFS_SECONDS (n : Nat) : Field := ⟨0x6A00E0 + n * 512, 32, 0⟩
/-- R571 `LTC_IN.TIME` bits [31:0], RO. -/
def PINS.LTC_IN_TIME (n : Nat) : Field := ⟨0x6A0100 + n * 512, 32, 0⟩
/-- R571 `STAT.SPI_BUSY` bits [0:0], RO. -/
def PINS.STAT_SPI_BUSY (n : Nat) : Field := ⟨0x6A0120 + n * 512, 1, 0⟩
/-- R571 `STAT.I2C_BUSY` bits [1:1], RO. -/
def PINS.STAT_I2C_BUSY (n : Nat) : Field := ⟨0x6A0121 + n * 512, 1, 0⟩
/-- R571 `STAT.I2C_NACK` bits [2:2], W1C. -/
def PINS.STAT_I2C_NACK (n : Nat) : Field := ⟨0x6A0122 + n * 512, 1, 0⟩
/-- R571 `STAT.I2C_LOST` bits [3:3], W1C. -/
def PINS.STAT_I2C_LOST (n : Nat) : Field := ⟨0x6A0123 + n * 512, 1, 0⟩
/-- R571 `STAT.TX_LEVEL` bits [8:4], RO. -/
def PINS.STAT_TX_LEVEL (n : Nat) : Field := ⟨0x6A0124 + n * 512, 5, 0⟩
/-- R571 `STAT.RX_LEVEL` bits [13:9], RO. -/
def PINS.STAT_RX_LEVEL (n : Nat) : Field := ⟨0x6A0129 + n * 512, 5, 0⟩
/-- R571 `STAT.OVERRUN` bits [14:14], W1C. -/
def PINS.STAT_OVERRUN (n : Nat) : Field := ⟨0x6A012E + n * 512, 1, 0⟩
/-- R571 `STAT.FRAMING` bits [15:15], W1C. -/
def PINS.STAT_FRAMING (n : Nat) : Field := ⟨0x6A012F + n * 512, 1, 0⟩
/-- R571 `STAT.LTC_VALID` bits [16:16], RO. -/
def PINS.STAT_LTC_VALID (n : Nat) : Field := ⟨0x6A0130 + n * 512, 1, 0⟩
/-- R571 `STAT.I2C_RX` bits [31:24], RO. -/
def PINS.STAT_I2C_RX (n : Nat) : Field := ⟨0x6A0138 + n * 512, 8, 0⟩
/-- R575 `PAIR.MODE` bits [0:0], ST. -/
def PINS.PAIR_MODE : Field := ⟨0x680800, 1, 0⟩
/-- R575 `PAIR.ACTIVE` bits [1:1], ST. -/
def PINS.PAIR_ACTIVE : Field := ⟨0x680801, 1, 0⟩
/-- R575 `PAIR_STAT.MODE` bits [0:0], RO. -/
def PINS.PAIR_STAT_MODE : Field := ⟨0x680820, 1, 0⟩
/-- R575 `PAIR_STAT.ACTIVE` bits [1:1], RO. -/
def PINS.PAIR_STAT_ACTIVE : Field := ⟨0x680821, 1, 0⟩
/-- R575 `PAIR_STAT.SYNC_R` bits [2:2], RO. -/
def PINS.PAIR_STAT_SYNC_R : Field := ⟨0x680822, 1, 0⟩
/-- R575 `PAIR_STAT.SYNC_V` bits [3:3], RO. -/
def PINS.PAIR_STAT_SYNC_V : Field := ⟨0x680823, 1, 0⟩
/-- R575 `PAIR_STAT.WINDOW` bits [4:4], RO. -/
def PINS.PAIR_STAT_WINDOW : Field := ⟨0x680824, 1, 0⟩
/-- R575 `PAIR_STAT.LINK` bits [5:5], RO. -/
def PINS.PAIR_STAT_LINK : Field := ⟨0x680825, 1, 0⟩
/-- R575 `PAIR_EVT.CAUSE` bits [3:0], RO. -/
def PINS.PAIR_EVT_CAUSE : Field := ⟨0x680840, 4, 0⟩
/-- R575 `PAIR_EVT.LOST` bits [30:30], W1C. -/
def PINS.PAIR_EVT_LOST : Field := ⟨0x68085E, 1, 0⟩
/-- R575 `PAIR_EVT.VALID` bits [31:31], W1C. -/
def PINS.PAIR_EVT_VALID : Field := ⟨0x68085F, 1, 0⟩
/-- R575 `EXCH.BYTES` bits [31:0], RO. -/
def PINS.EXCH_BYTES : Field := ⟨0x680860, 32, 0⟩
/-- R575 `MIRROR.SECTION` bits [9:0], ST. -/
def PINS.MIRROR_SECTION (n : Nat) : Field := ⟨0x681000 + n * 32, 10, 0⟩
/-- R575 `MIRROR.FF` bits [16:16], ST. -/
def PINS.MIRROR_FF (n : Nat) : Field := ⟨0x681010 + n * 32, 1, 0⟩
/-- R575 `MIRROR.LEAF` bits [17:17], ST. -/
def PINS.MIRROR_LEAF (n : Nat) : Field := ⟨0x681011 + n * 32, 1, 0⟩
/-- R575 `MIRROR.VALID` bits [31:31], ST. -/
def PINS.MIRROR_VALID (n : Nat) : Field := ⟨0x68101F + n * 32, 1, 0⟩
/-- R597 `CTL.OP` bits [3:0], RW. -/
def TEST.CTL_OP : Field := ⟨0x780000, 4, 0⟩
/-- R597 `CTL.GO` bits [31:31], WO. -/
def TEST.CTL_GO : Field := ⟨0x78001F, 1, 0⟩
/-- R597 `STATUS.BUSY` bits [0:0], RO. -/
def TEST.STATUS_BUSY : Field := ⟨0x780020, 1, 0⟩
/-- R597 `STATUS.OVERRUN` bits [1:1], W1C. -/
def TEST.STATUS_OVERRUN : Field := ⟨0x780021, 1, 0⟩
/-- R597 `STATUS.WAVE` bits [3:2], RO. -/
def TEST.STATUS_WAVE : Field := ⟨0x780022, 2, 0⟩
/-- R597 `STATUS.RESULT` bits [7:4], RO. -/
def TEST.STATUS_RESULT : Field := ⟨0x780024, 4, 0⟩
/-- R597 `STATUS.GROUPS` bits [31:16], RO. -/
def TEST.STATUS_GROUPS : Field := ⟨0x780030, 16, 0⟩
/-- R597 `CFG.SKIP` bits [3:0], RW. -/
def TEST.CFG_SKIP : Field := ⟨0x780040, 4, 0⟩
/-- R597 `SECT_RES.SECTION` bits [9:0], RO. -/
def TEST.SECT_RES_SECTION : Field := ⟨0x780080, 10, 0⟩
/-- R597 `SECT_RES.RESULT` bits [13:12], RO. -/
def TEST.SECT_RES_RESULT : Field := ⟨0x78008C, 2, 0⟩
/-- R597 `SECT_RES.FAILED` bits [31:16], RO. -/
def TEST.SECT_RES_FAILED : Field := ⟨0x780090, 16, 0⟩
/-- R597 `JTAG_STAT.OPEN` bits [0:0], RO. -/
def TEST.JTAG_STAT_OPEN : Field := ⟨0x780100, 1, 0⟩
/-- R597 `JTAG_STAT.ERASING` bits [1:1], RO. -/
def TEST.JTAG_STAT_ERASING : Field := ⟨0x780101, 1, 0⟩
/-- R597 `JTAG_STAT.REFUSED` bits [2:2], RO. -/
def TEST.JTAG_STAT_REFUSED : Field := ⟨0x780102, 1, 0⟩
/-- R597 `JTAG_STAT.CAUSE` bits [7:4], RO. -/
def TEST.JTAG_STAT_CAUSE : Field := ⟨0x780104, 4, 0⟩
/-- R597 `JTAG_STAT.OPENS` bits [15:8], RO. -/
def TEST.JTAG_STAT_OPENS : Field := ⟨0x780108, 8, 0⟩
/-- R597 `JTAG_CTL.RELOCK` bits [0:0], WO. -/
def TEST.JTAG_CTL_RELOCK : Field := ⟨0x780120, 1, 0⟩
/-- R597 `JTAG_CTL.RESULT` bits [7:4], RO. -/
def TEST.JTAG_CTL_RESULT : Field := ⟨0x780124, 4, 0⟩
/-- R597 `INT.BIST_DONE` bits [0:0], W1C. -/
def TEST.INT_BIST_DONE : Field := ⟨0x780180, 1, 0⟩
/-- R597 `INT.BIST_FAIL` bits [1:1], W1C. -/
def TEST.INT_BIST_FAIL : Field := ⟨0x780181, 1, 0⟩
/-- R597 `INT.JTAG_OPEN` bits [2:2], W1C. -/
def TEST.INT_JTAG_OPEN : Field := ⟨0x780182, 1, 0⟩
/-- R597 `INT.JTAG_REFUSED` bits [3:3], W1C. -/
def TEST.INT_JTAG_REFUSED : Field := ⟨0x780183, 1, 0⟩
/-- R597 `INT_EN.EN` bits [3:0], RW. -/
def TEST.INT_EN_EN : Field := ⟨0x7801A0, 4, 0⟩
/-- R464 `RXENTW0.WORD` bits [31:0], ST. -/
def MPORT.RXENTW0_WORD (i : Nat) (n : Nat) : Field := ⟨0x1020000 + i * 0x80000 + n * 128, 32, 0⟩
/-- R464 `RXENTW1.WORD` bits [31:0], ST. -/
def MPORT.RXENTW1_WORD (i : Nat) (n : Nat) : Field := ⟨0x1020020 + i * 0x80000 + n * 128, 32, 0⟩
/-- `UDP_DST` of word 2 of a `receive` entry (R465, R480). -/
def MPORT.RXENTW2_UDP_DST (i : Nat) (n : Nat) : Field := ⟨0x1020040 + i * 0x80000 + n * 128, 16, 0⟩
/-- `KIND` of word 2 of a `receive` entry (R465, R480). -/
def MPORT.RXENTW2_KIND (i : Nat) (n : Nat) : Field := ⟨0x1020050 + i * 0x80000 + n * 128, 4, 0⟩
/-- `FORMAT` of word 2 of a `receive` entry (R465, R480). -/
def MPORT.RXENTW2_FORMAT (i : Nat) (n : Nat) : Field := ⟨0x1020054 + i * 0x80000 + n * 128, 4, 0⟩
/-- `VALID` of word 2 of a `receive` entry (R465, R480). -/
def MPORT.RXENTW2_VALID (i : Nat) (n : Nat) : Field := ⟨0x102005F + i * 0x80000 + n * 128, 1, 0⟩
/-- The fields of word 2 of a `receive` entry with their lowest bits; the other bits are reserved (R5, R465, R480). -/
def MPORT.RXENTW2 (i : Nat) (n : Nat) : List (Nat × Field) := [(0, MPORT.RXENTW2_UDP_DST i n), (16, MPORT.RXENTW2_KIND i n), (20, MPORT.RXENTW2_FORMAT i n), (31, MPORT.RXENTW2_VALID i n)]
/-- `QUEUE` of word 3 of a `receive` entry (R465, R480). -/
def MPORT.RXENTW3_QUEUE (i : Nat) (n : Nat) : Field := ⟨0x1020060 + i * 0x80000 + n * 128, 5, 0⟩
/-- `MERGE` of word 3 of a `receive` entry (R465, R480). -/
def MPORT.RXENTW3_MERGE (i : Nat) (n : Nat) : Field := ⟨0x1020065 + i * 0x80000 + n * 128, 8, 0⟩
/-- `DEST` of word 3 of a `receive` entry (R465, R480). -/
def MPORT.RXENTW3_DEST (i : Nat) (n : Nat) : Field := ⟨0x102006D + i * 0x80000 + n * 128, 1, 0⟩
/-- `SRING` of word 3 of a `receive` entry (R465, R480). -/
def MPORT.RXENTW3_SRING (i : Nat) (n : Nat) : Field := ⟨0x102006E + i * 0x80000 + n * 128, 4, 0⟩
/-- The fields of word 3 of a `receive` entry with their lowest bits; the other bits are reserved (R5, R465, R480). -/
def MPORT.RXENTW3 (i : Nat) (n : Nat) : List (Nat × Field) := [(0, MPORT.RXENTW3_QUEUE i n), (5, MPORT.RXENTW3_MERGE i n), (13, MPORT.RXENTW3_DEST i n), (14, MPORT.RXENTW3_SRING i n)]
/-- R464 `TXENTW0.WORD` bits [31:0], ST. -/
def MPORT.TXENTW0_WORD (i : Nat) (n : Nat) : Field := ⟨0x1030000 + i * 0x80000 + n * 128, 32, 0⟩
/-- R464 `TXENTW1.WORD` bits [31:0], ST. -/
def MPORT.TXENTW1_WORD (i : Nat) (n : Nat) : Field := ⟨0x1030020 + i * 0x80000 + n * 128, 32, 0⟩
/-- R464 `TXENTW2.WORD` bits [31:0], ST. -/
def MPORT.TXENTW2_WORD (i : Nat) (n : Nat) : Field := ⟨0x1030040 + i * 0x80000 + n * 128, 32, 0⟩
/-- R464 `TXENTW3.WORD` bits [31:0], ST. -/
def MPORT.TXENTW3_WORD (i : Nat) (n : Nat) : Field := ⟨0x1030060 + i * 0x80000 + n * 128, 32, 0⟩
/-- `WIDTH` of word 0 of a `FMT` entry (R465, R480). -/
def MPORT.FMTW0_WIDTH (i : Nat) (n : Nat) : Field := ⟨0x1002000 + i * 0x80000 + n * 64, 13, 0⟩
/-- `SAMPLING` of word 0 of a `FMT` entry (R465, R480). -/
def MPORT.FMTW0_SAMPLING (i : Nat) (n : Nat) : Field := ⟨0x100200D + i * 0x80000 + n * 64, 2, 0⟩
/-- `DEPTH12` of word 0 of a `FMT` entry (R465, R480). -/
def MPORT.FMTW0_DEPTH12 (i : Nat) (n : Nat) : Field := ⟨0x100200F + i * 0x80000 + n * 64, 1, 0⟩
/-- `HEIGHT` of word 0 of a `FMT` entry (R465, R480). -/
def MPORT.FMTW0_HEIGHT (i : Nat) (n : Nat) : Field := ⟨0x1002010 + i * 0x80000 + n * 64, 13, 0⟩
/-- The fields of word 0 of a `FMT` entry with their lowest bits; the other bits are reserved (R5, R465, R480). -/
def MPORT.FMTW0 (i : Nat) (n : Nat) : List (Nat × Field) := [(0, MPORT.FMTW0_WIDTH i n), (13, MPORT.FMTW0_SAMPLING i n), (15, MPORT.FMTW0_DEPTH12 i n), (16, MPORT.FMTW0_HEIGHT i n)]
/-- `TOTAL` of word 1 of a `FMT` entry (R465, R480). -/
def MPORT.FMTW1_TOTAL (i : Nat) (n : Nat) : Field := ⟨0x1002020 + i * 0x80000 + n * 64, 11, 0⟩
/-- `TRO_LINES` of word 1 of a `FMT` entry (R465, R480). -/
def MPORT.FMTW1_TRO_LINES (i : Nat) (n : Nat) : Field := ⟨0x1002030 + i * 0x80000 + n * 64, 5, 0⟩
/-- `AUDIO` of word 1 of a `FMT` entry (R465, R480). -/
def MPORT.FMTW1_AUDIO (i : Nat) (n : Nat) : Field := ⟨0x100203F + i * 0x80000 + n * 64, 1, 0⟩
/-- The fields of word 1 of a `FMT` entry with their lowest bits; the other bits are reserved (R5, R465, R480). -/
def MPORT.FMTW1 (i : Nat) (n : Nat) : List (Nat × Field) := [(0, MPORT.FMTW1_TOTAL i n), (16, MPORT.FMTW1_TRO_LINES i n), (31, MPORT.FMTW1_AUDIO i n)]
/-- R480 `SRINGW0.WORD` bits [31:0], ST. -/
def MPORT.SRINGW0_WORD (i : Nat) (n : Nat) : Field := ⟨0x1003000 + i * 0x80000 + n * 128, 32, 0⟩
/-- `BASE_HI` of word 1 of a `SRING` entry (R465, R480). -/
def MPORT.SRINGW1_BASE_HI (i : Nat) (n : Nat) : Field := ⟨0x1003020 + i * 0x80000 + n * 128, 16, 0⟩
/-- `CHAN` of word 1 of a `SRING` entry (R465, R480). -/
def MPORT.SRINGW1_CHAN (i : Nat) (n : Nat) : Field := ⟨0x1003030 + i * 0x80000 + n * 128, 5, 0⟩
/-- `VALID` of word 1 of a `SRING` entry (R465, R480). -/
def MPORT.SRINGW1_VALID (i : Nat) (n : Nat) : Field := ⟨0x100303F + i * 0x80000 + n * 128, 1, 0⟩
/-- The fields of word 1 of a `SRING` entry with their lowest bits; the other bits are reserved (R5, R465, R480). -/
def MPORT.SRINGW1 (i : Nat) (n : Nat) : List (Nat × Field) := [(0, MPORT.SRINGW1_BASE_HI i n), (16, MPORT.SRINGW1_CHAN i n), (31, MPORT.SRINGW1_VALID i n)]
/-- R480 `SRINGW2.WORD` bits [31:0], ST. -/
def MPORT.SRINGW2_WORD (i : Nat) (n : Nat) : Field := ⟨0x1003040 + i * 0x80000 + n * 128, 32, 0⟩
/-- `COUNT` of word 3 of a `SRING` entry (R465, R480). -/
def MPORT.SRINGW3_COUNT (i : Nat) (n : Nat) : Field := ⟨0x1003060 + i * 0x80000 + n * 128, 16, 0⟩
/-- The fields of word 3 of a `SRING` entry with their lowest bits; the other bits are reserved (R5, R465, R480). -/
def MPORT.SRINGW3 (i : Nat) (n : Nat) : List (Nat × Field) := [(0, MPORT.SRINGW3_COUNT i n)]

end Sys2Proof.Machine
end

