-- ==== Sys2Proof/Machine/RegTable.lean ====
section
/-! DEFINITION. The register tables of the spec as data: which offsets hold registers, and the type of each field (R4 to R6). -/

namespace Sys2Proof.Machine

/-- Registers of the SECT block. -/
def regsSect : List RegRow := [
  ⟨0x40, 4, 0x1000, 4, 1024, [⟨0, 2, .st, 0⟩]⟩,
  ⟨0x40, 4, 0x400, 0, 1, [⟨0, 10, .rw, 0⟩, ⟨10, 4, .rw, 0⟩, ⟨14, 2, .rw, 0⟩, ⟨16, 2, .rw, 0⟩, ⟨31, 1, .wo, 0⟩]⟩,
  ⟨0x40, 4, 0x404, 0, 1, [⟨0, 1, .ro, 0⟩, ⟨1, 1, .w1c, 0⟩, ⟨4, 4, .ro, 0⟩, ⟨16, 16, .ro, 0⟩]⟩,
  ⟨0x40, 4, 0x408, 0, 1, [⟨0, 4, .ro, 0⟩, ⟨4, 4, .ro, 0⟩, ⟨8, 4, .ro, 0⟩, ⟨12, 4, .ro, 0⟩, ⟨16, 2, .ro, 0⟩, ⟨18, 4, .ro, 0⟩, ⟨22, 4, .ro, 0⟩]⟩,
  ⟨0x40, 4, 0x40C, 0, 1, [⟨0, 5, .ro, 31⟩, ⟨8, 5, .ro, 31⟩, ⟨16, 5, .ro, 31⟩, ⟨24, 5, .ro, 31⟩]⟩,
  ⟨0x40, 4, 0x410, 0, 1, [⟨0, 6, .rw, 0⟩, ⟨6, 1, .rw, 0⟩, ⟨7, 2, .rw, 0⟩, ⟨30, 1, .wo, 0⟩, ⟨31, 1, .wo, 0⟩]⟩,
  ⟨0x40, 4, 0x414, 0, 1, [⟨0, 16, .rw, 0⟩, ⟨16, 16, .rw, 0⟩]⟩,
  ⟨0x40, 4, 0x418, 0, 1, [⟨0, 3, .ro, 0⟩, ⟨3, 1, .w1c, 0⟩, ⟨4, 2, .ro, 0⟩, ⟨8, 4, .ro, 0⟩]⟩,
  ⟨0x40, 4, 0x41C, 0, 1, [⟨0, 24, .rw, 0⟩]⟩,
  ⟨0x40, 4, 0x420, 0, 1, [⟨0, 32, .ro, 0⟩]⟩,
  ⟨0x40, 4, 0x424, 0, 1, [⟨0, 24, .ro, 0⟩]⟩,
  ⟨0x40, 4, 0x0, 0, 1, [⟨0, 10, .rw, 0⟩, ⟨16, 4, .rw, 0⟩, ⟨31, 1, .wo, 0⟩]⟩,
  ⟨0x40, 4, 0x4, 0, 1, [⟨0, 1, .ro, 0⟩, ⟨1, 1, .w1c, 0⟩, ⟨4, 4, .ro, 0⟩]⟩,
  ⟨0x40, 4, 0x8, 0, 1, [⟨0, 11, .ro, 0⟩, ⟨16, 11, .ro, 1024⟩]⟩,
  ⟨0x40, 4, 0xC, 0, 1, [⟨0, 10, .ro, 0⟩, ⟨16, 8, .ro, 0⟩, ⟨30, 1, .w1c, 0⟩, ⟨31, 1, .w1c, 0⟩]⟩,
  ⟨0x40, 4, 0x10, 0, 1, [⟨0, 16, .rw, 0⟩, ⟨16, 1, .rw, 0⟩]⟩,
  ⟨0x40, 4, 0x14, 0, 1, [⟨0, 32, .ro, 0⟩]⟩,
  ⟨0x40, 4, 0x18, 0, 1, [⟨0, 1, .w1c, 0⟩, ⟨1, 1, .w1c, 0⟩, ⟨2, 1, .w1c, 0⟩]⟩,
  ⟨0x40, 4, 0x1C, 0, 1, [⟨0, 3, .rw, 0⟩]⟩,
  ⟨0x40, 4, 0x2000, 16, 1024, [⟨0, 6, .ro, 0⟩, ⟨8, 6, .ro, 0⟩, ⟨16, 5, .ro, 0⟩, ⟨24, 5, .ro, 0⟩, ⟨31, 1, .ro, 0⟩]⟩,
  ⟨0x40, 4, 0x2004, 16, 1024, [⟨0, 4, .ro, 0⟩, ⟨4, 3, .ro, 0⟩, ⟨8, 10, .ro, 0⟩, ⟨18, 1, .ro, 0⟩, ⟨20, 12, .ro, 0⟩]⟩,
  ⟨0x40, 4, 0x2008, 16, 1024, [⟨0, 16, .ro, 0⟩, ⟨16, 8, .ro, 0⟩]⟩,
  ⟨0x40, 4, 0x200C, 16, 1024, [⟨0, 16, .ro, 0⟩, ⟨16, 16, .ro, 0⟩]⟩,
  ⟨0x40, 4, 0x6000, 4, 1024, [⟨0, 1, .st, 0⟩, ⟨1, 1, .st, 0⟩, ⟨2, 1, .st, 0⟩]⟩,
  ⟨0x40, 4, 0x7000, 4, 1024, [⟨0, 4, .ro, 0⟩, ⟨4, 1, .ro, 0⟩, ⟨5, 1, .ro, 0⟩, ⟨6, 1, .ro, 0⟩, ⟨7, 1, .ro, 0⟩, ⟨8, 6, .ro, 0⟩]⟩]

/-- Registers of the LOAD block. -/
def regsLoad : List RegRow := [
  ⟨0x2, 1, 0x0, 0, 1, [⟨0, 16, .rw, 0⟩, ⟨16, 4, .rw, 0⟩, ⟨31, 1, .wo, 0⟩]⟩,
  ⟨0x2, 1, 0x4, 0, 1, [⟨0, 32, .rw, 0⟩]⟩,
  ⟨0x2, 1, 0x8, 0, 1, [⟨0, 1, .ro, 0⟩, ⟨1, 1, .w1c, 0⟩, ⟨2, 3, .ro, 0⟩, ⟨8, 8, .ro, 0⟩, ⟨16, 10, .ro, 0⟩]⟩,
  ⟨0x2, 1, 0xC, 0, 1, [⟨0, 32, .ro, 0⟩]⟩,
  ⟨0x2, 1, 0x10, 0, 1, [⟨0, 32, .ro, 0⟩]⟩,
  ⟨0x2, 1, 0x20, 0, 1, [⟨0, 10, .rw, 0⟩, ⟨10, 4, .rw, 0⟩, ⟨14, 2, .rw, 0⟩, ⟨31, 1, .wo, 0⟩]⟩,
  ⟨0x2, 1, 0x24, 0, 1, [⟨0, 1, .ro, 0⟩, ⟨1, 1, .w1c, 0⟩, ⟨4, 4, .ro, 0⟩]⟩,
  ⟨0x2, 1, 0x30, 0, 1, [⟨0, 16, .rw, 0⟩, ⟨16, 3, .rw, 0⟩, ⟨31, 1, .wo, 0⟩]⟩,
  ⟨0x2, 1, 0x34, 0, 1, [⟨0, 32, .rw, 0⟩]⟩,
  ⟨0x2, 1, 0x38, 0, 1, [⟨0, 32, .rw, 0⟩]⟩,
  ⟨0x2, 1, 0x3C, 0, 1, [⟨0, 32, .wo, 0⟩]⟩,
  ⟨0x2, 1, 0x40, 0, 1, [⟨0, 1, .ro, 0⟩, ⟨1, 1, .ro, 0⟩, ⟨2, 1, .w1c, 0⟩, ⟨4, 4, .ro, 0⟩, ⟨16, 16, .ro, 16384⟩]⟩,
  ⟨0x2, 1, 0x50, 0, 1, [⟨0, 1, .rw, 1⟩]⟩,
  ⟨0x2, 1, 0x54, 4, 4, [⟨0, 24, .ro, 0⟩]⟩,
  ⟨0x2, 1, 0x68, 0, 1, [⟨0, 32, .ro, 0⟩]⟩,
  ⟨0x2, 1, 0x6C, 0, 1, [⟨0, 2, .ro, 0⟩, ⟨2, 3, .ro, 0⟩, ⟨16, 10, .ro, 0⟩, ⟨30, 1, .w1c, 0⟩, ⟨31, 1, .w1c, 0⟩]⟩,
  ⟨0x2, 1, 0x70, 0, 1, [⟨0, 16, .rw, 0⟩]⟩,
  ⟨0x2, 1, 0x74, 0, 1, [⟨0, 2, .ro, 0⟩, ⟨16, 16, .ro, 0⟩]⟩,
  ⟨0x2, 1, 0x78, 0, 1, [⟨0, 32, .ro, 0⟩]⟩,
  ⟨0x2, 1, 0x7C, 0, 1, [⟨0, 32, .ro, 0⟩]⟩,
  ⟨0x2, 1, 0x80, 0, 1, [⟨0, 16, .ro, 65024⟩]⟩]

/-- Registers of the TURN block. -/
def regsTurn : List RegRow := [
  ⟨0x1, 1, 0x0, 0, 1, [⟨30, 1, .wo, 0⟩, ⟨31, 1, .wo, 0⟩]⟩,
  ⟨0x1, 1, 0x4, 0, 1, [⟨0, 2, .rw, 0⟩, ⟨2, 2, .rw, 0⟩]⟩,
  ⟨0x1, 1, 0x8, 0, 1, [⟨0, 16, .rw, 0⟩, ⟨16, 16, .rw, 0⟩]⟩,
  ⟨0x1, 1, 0xC, 0, 1, [⟨0, 32, .rw, 0⟩]⟩,
  ⟨0x1, 1, 0x10, 0, 1, [⟨0, 1, .ro, 0⟩, ⟨1, 3, .ro, 0⟩, ⟨4, 1, .ro, 0⟩, ⟨5, 1, .w1c, 0⟩, ⟨6, 1, .w1c, 0⟩, ⟨7, 1, .w1c, 0⟩]⟩,
  ⟨0x1, 1, 0x14, 0, 1, [⟨0, 5, .ro, 0⟩, ⟨5, 27, .ro, 0⟩]⟩,
  ⟨0x1, 1, 0x18, 0, 1, [⟨0, 16, .ro, 0⟩, ⟨16, 1, .ro, 0⟩, ⟨17, 1, .ro, 0⟩]⟩,
  ⟨0x1, 1, 0x1C, 0, 1, [⟨0, 16, .ro, 0⟩, ⟨16, 16, .ro, 0⟩]⟩,
  ⟨0x1, 1, 0x20, 0, 1, [⟨0, 32, .ro, 0⟩]⟩,
  ⟨0x1, 1, 0x24, 0, 1, [⟨0, 32, .ro, 0⟩]⟩,
  ⟨0x1, 1, 0x28, 0, 1, [⟨0, 16, .ro, 0⟩]⟩,
  ⟨0x1, 1, 0x2C, 0, 1, [⟨0, 24, .ro, 0⟩]⟩,
  ⟨0x1, 1, 0x30, 0, 1, [⟨0, 32, .ro, 0⟩]⟩,
  ⟨0x1, 1, 0x34, 0, 1, [⟨0, 8, .ro, 0⟩]⟩,
  ⟨0x1, 1, 0x38, 0, 1, [⟨0, 1, .w1c, 0⟩, ⟨1, 1, .w1c, 0⟩, ⟨2, 1, .w1c, 0⟩]⟩,
  ⟨0x1, 1, 0x3C, 0, 1, [⟨0, 3, .rw, 0⟩]⟩]

/-- Registers of the FE block. -/
def regsFe : List RegRow := [
  ⟨0x50, 4, 0x0, 0, 1, [⟨0, 8, .rw, 0⟩, ⟨8, 4, .rw, 0⟩, ⟨12, 1, .rw, 0⟩, ⟨31, 1, .wo, 0⟩]⟩,
  ⟨0x50, 4, 0x4, 0, 1, [⟨0, 1, .ro, 0⟩, ⟨1, 1, .w1c, 0⟩, ⟨4, 4, .ro, 0⟩]⟩,
  ⟨0x50, 4, 0x8, 0, 1, [⟨0, 1, .rw, 0⟩, ⟨1, 1, .rw, 0⟩, ⟨2, 1, .rw, 0⟩]⟩,
  ⟨0x50, 4, 0xC, 0, 1, [⟨0, 16, .ro, 0⟩]⟩,
  ⟨0x50, 4, 0x100, 4, 6, [⟨0, 32, .w1c, 0⟩]⟩,
  ⟨0x50, 4, 0x120, 4, 6, [⟨0, 32, .w1c, 0⟩]⟩,
  ⟨0x50, 4, 0x140, 4, 6, [⟨0, 32, .w1c, 0⟩]⟩,
  ⟨0x50, 4, 0x1000, 32, 192, [⟨0, 3, .ro, 0⟩, ⟨3, 1, .ro, 0⟩, ⟨4, 2, .ro, 0⟩, ⟨6, 2, .ro, 0⟩, ⟨8, 12, .ro, 0⟩]⟩,
  ⟨0x50, 4, 0x1004, 32, 192, [⟨0, 4, .ro, 0⟩, ⟨4, 12, .ro, 0⟩, ⟨16, 1, .ro, 0⟩]⟩,
  ⟨0x50, 4, 0x1008, 32, 192, [⟨0, 12, .rw, 0⟩]⟩,
  ⟨0x50, 4, 0x100C, 32, 192, [⟨0, 32, .rw, 0⟩]⟩,
  ⟨0x50, 4, 0x1010, 32, 192, [⟨0, 3, .rw, 0⟩, ⟨3, 3, .rw, 0⟩, ⟨6, 3, .rw, 0⟩, ⟨9, 3, .rw, 0⟩, ⟨12, 3, .rw, 0⟩, ⟨15, 3, .rw, 0⟩, ⟨18, 3, .rw, 0⟩, ⟨21, 3, .rw, 0⟩]⟩,
  ⟨0x50, 4, 0x1014, 32, 192, [⟨0, 5, .ro, 0⟩, ⟨8, 5, .ro, 0⟩, ⟨16, 5, .ro, 0⟩, ⟨24, 5, .ro, 0⟩]⟩,
  ⟨0x50, 4, 0x1018, 32, 192, [⟨0, 5, .ro, 0⟩, ⟨8, 5, .ro, 0⟩, ⟨16, 5, .ro, 0⟩, ⟨24, 5, .ro, 0⟩]⟩,
  ⟨0x50, 4, 0x101C, 32, 192, [⟨0, 32, .ro, 0⟩]⟩]

/-- Registers of the RING block. -/
def regsRing : List RegRow := [
  ⟨0x3, 1, 0x0, 0, 1, [⟨0, 32, .ro, 0⟩]⟩,
  ⟨0x3, 1, 0x4, 0, 1, [⟨0, 12, .ro, 0⟩]⟩,
  ⟨0x3, 1, 0x8, 0, 1, [⟨0, 1, .ro, 0⟩, ⟨1, 1, .ro, 1⟩, ⟨8, 8, .ro, 0⟩]⟩,
  ⟨0x3, 1, 0xC, 0, 1, [⟨0, 12, .ro, 0⟩, ⟨12, 6, .ro, 0⟩, ⟨18, 3, .ro, 0⟩, ⟨21, 1, .ro, 0⟩, ⟨22, 4, .ro, 0⟩]⟩,
  ⟨0x3, 1, 0x20, 4, 4, [⟨0, 10, .ro, 0⟩]⟩,
  ⟨0x3, 1, 0x40, 0, 1, [⟨0, 16, .ro, 0⟩, ⟨16, 16, .ro, 0⟩]⟩,
  ⟨0x3, 1, 0x44, 0, 1, [⟨0, 16, .ro, 0⟩, ⟨16, 16, .ro, 0⟩]⟩,
  ⟨0x3, 1, 0x50, 0, 1, [⟨0, 1, .w1c, 0⟩, ⟨1, 1, .w1c, 0⟩, ⟨2, 1, .w1c, 0⟩, ⟨3, 1, .w1c, 0⟩]⟩,
  ⟨0x3, 1, 0x54, 0, 1, [⟨0, 4, .rw, 0⟩]⟩,
  ⟨0x3, 1, 0x100, 0, 1, [⟨0, 16, .st, 0⟩]⟩,
  ⟨0x3, 1, 0x200, 0, 1, [⟨0, 22, .rw, 0⟩, ⟨30, 1, .rw, 0⟩, ⟨31, 1, .rw, 0⟩]⟩,
  ⟨0x3, 1, 0x204, 0, 1, [⟨0, 32, .rw, 0⟩]⟩,
  ⟨0x3, 1, 0x300, 0, 1, [⟨0, 16, .rw, 1024⟩, ⟨16, 12, .rw, 256⟩]⟩,
  ⟨0x3, 1, 0x308, 0, 1, [⟨0, 16, .rw, 512⟩, ⟨16, 12, .rw, 128⟩]⟩,
  ⟨0x3, 1, 0x310, 0, 1, [⟨0, 16, .rw, 128⟩, ⟨16, 12, .rw, 32⟩]⟩,
  ⟨0x3, 1, 0x318, 0, 1, [⟨0, 16, .rw, 128⟩, ⟨16, 12, .rw, 32⟩]⟩,
  ⟨0x3, 1, 0x320, 0, 1, [⟨0, 16, .rw, 128⟩, ⟨16, 12, .rw, 32⟩]⟩,
  ⟨0x3, 1, 0x328, 0, 1, [⟨0, 16, .rw, 128⟩, ⟨16, 12, .rw, 32⟩]⟩,
  ⟨0x3, 1, 0x330, 0, 1, [⟨0, 16, .rw, 128⟩, ⟨16, 12, .rw, 32⟩]⟩,
  ⟨0x3, 1, 0x338, 0, 1, [⟨0, 16, .rw, 512⟩, ⟨16, 12, .rw, 128⟩]⟩,
  ⟨0x3, 1, 0x340, 0, 1, [⟨0, 16, .rw, 256⟩, ⟨16, 12, .rw, 64⟩]⟩,
  ⟨0x3, 1, 0x348, 0, 1, [⟨0, 16, .rw, 64⟩, ⟨16, 12, .rw, 17⟩]⟩,
  ⟨0x3, 1, 0x304, 8, 10, [⟨0, 16, .ro, 0⟩, ⟨16, 16, .ro, 0⟩]⟩,
  ⟨0x3, 1, 0x1000, 4, 160, [⟨0, 10, .rw, 16⟩]⟩,
  ⟨0x3, 1, 0x1400, 4, 160, [⟨0, 16, .ro, 0⟩, ⟨16, 16, .ro, 0⟩]⟩]

/-- Registers of the STORE block. -/
def regsStore : List RegRow := [
  ⟨0x4, 1, 0x0, 0, 1, [⟨0, 1, .ro, 0⟩, ⟨1, 3, .ro, 4⟩, ⟨8, 8, .ro, 76⟩]⟩,
  ⟨0x4, 1, 0x4, 0, 1, [⟨0, 6, .ro, 8⟩, ⟨8, 8, .ro, 68⟩, ⟨16, 1, .ro, 0⟩]⟩,
  ⟨0x4, 1, 0x10, 4, 4, [⟨0, 2, .ro, 0⟩, ⟨2, 1, .ro, 0⟩, ⟨8, 8, .ro, 0⟩]⟩,
  ⟨0x4, 1, 0x20, 8, 4, [⟨0, 32, .ro, 0⟩]⟩,
  ⟨0x4, 1, 0x24, 8, 4, [⟨0, 32, .ro, 0⟩]⟩,
  ⟨0x4, 1, 0x40, 4, 4, [⟨0, 16, .ro, 0⟩]⟩,
  ⟨0x4, 1, 0x50, 0, 1, [⟨0, 1, .w1c, 0⟩, ⟨1, 1, .w1c, 0⟩]⟩,
  ⟨0x4, 1, 0x54, 0, 1, [⟨0, 2, .rw, 0⟩]⟩]

/-- Registers of the COMN block. -/
def regsComn : List RegRow := [
  ⟨0x5, 1, 0x0, 0, 1, [⟨0, 16, .ro, 64⟩]⟩,
  ⟨0x5, 1, 0x10, 8, 4, [⟨0, 32, .ro, 0⟩]⟩,
  ⟨0x5, 1, 0x14, 8, 4, [⟨0, 32, .ro, 0⟩]⟩,
  ⟨0x5, 1, 0x30, 0, 1, [⟨0, 32, .ro, 0⟩]⟩,
  ⟨0x5, 1, 0x34, 0, 1, [⟨0, 16, .ro, 0⟩]⟩]

/-- Registers of the CODE block. -/
def regsCode : List RegRow := [
  ⟨0x6, 1, 0x0, 4, 8, [⟨0, 32, .ro, 0⟩]⟩,
  ⟨0x6, 1, 0x40, 4, 8, [⟨0, 32, .ro, 0⟩]⟩,
  ⟨0x6, 1, 0x80, 0, 1, [⟨0, 4, .rw, 0⟩, ⟨4, 1, .rw, 0⟩]⟩,
  ⟨0x6, 1, 0x84, 0, 1, [⟨0, 5, .ro, 0⟩, ⟨5, 1, .ro, 0⟩, ⟨8, 5, .ro, 0⟩, ⟨13, 1, .ro, 0⟩, ⟨14, 1, .w1c, 0⟩]⟩,
  ⟨0x6, 1, 0x88, 0, 1, [⟨0, 1, .wo, 0⟩, ⟨1, 1, .wo, 0⟩]⟩,
  ⟨0x6, 1, 0x90, 0, 1, [⟨0, 4, .ro, 0⟩, ⟨4, 6, .ro, 0⟩, ⟨16, 16, .ro, 0⟩]⟩,
  ⟨0x6, 1, 0x94, 0, 1, [⟨0, 32, .ro, 0⟩]⟩,
  ⟨0x6, 1, 0x98, 0, 1, [⟨0, 16, .ro, 0⟩]⟩,
  ⟨0x6, 1, 0x9C, 0, 1, [⟨0, 32, .ro, 0⟩]⟩,
  ⟨0x6, 1, 0x100, 4, 5, [⟨0, 24, .ro, 0⟩]⟩,
  ⟨0x6, 1, 0x120, 0, 1, [⟨0, 16, .rw, 20000⟩, ⟨16, 16, .rw, 1000⟩]⟩,
  ⟨0x6, 1, 0x124, 0, 1, [⟨0, 5, .rw, 31⟩]⟩,
  ⟨0x6, 1, 0x200, 0, 1, [⟨0, 16, .rw, 0⟩]⟩,
  ⟨0x6, 1, 0x204, 0, 1, [⟨0, 2, .ro, 0⟩, ⟨2, 4, .ro, 0⟩, ⟨6, 6, .ro, 63⟩, ⟨16, 16, .ro, 0⟩]⟩,
  ⟨0x6, 1, 0x208, 0, 1, [⟨0, 11, .ro, 0⟩, ⟨16, 11, .ro, 0⟩]⟩,
  ⟨0x6, 1, 0x20C, 0, 1, [⟨0, 16, .ro, 0⟩, ⟨16, 2, .ro, 0⟩, ⟨30, 1, .w1c, 0⟩, ⟨31, 1, .w1c, 0⟩]⟩,
  ⟨0x6, 1, 0x300, 0, 1, [⟨0, 1, .rw, 0⟩, ⟨1, 6, .rw, 0⟩, ⟨7, 6, .rw, 63⟩, ⟨31, 1, .rw, 0⟩]⟩,
  ⟨0x6, 1, 0x304, 0, 1, [⟨0, 32, .rw, 0⟩]⟩,
  ⟨0x6, 1, 0x308, 0, 1, [⟨0, 12, .rw, 0⟩]⟩,
  ⟨0x6, 1, 0x400, 0, 1, [⟨0, 1, .w1c, 0⟩, ⟨1, 1, .w1c, 0⟩, ⟨2, 1, .w1c, 0⟩, ⟨3, 1, .w1c, 0⟩, ⟨4, 1, .w1c, 0⟩]⟩,
  ⟨0x6, 1, 0x404, 0, 1, [⟨0, 5, .rw, 0⟩]⟩]

/-- Registers of the DMA block. -/
def regsDma : List RegRow := [
  ⟨0x7, 1, 0x0, 0, 1, [⟨0, 5, .rw, 0⟩, ⟨8, 4, .rw, 0⟩, ⟨31, 1, .wo, 0⟩]⟩,
  ⟨0x7, 1, 0x4, 0, 1, [⟨0, 1, .ro, 0⟩, ⟨1, 1, .w1c, 0⟩, ⟨4, 4, .ro, 0⟩]⟩,
  ⟨0x7, 1, 0x10, 0, 1, [⟨0, 32, .w1c, 0⟩]⟩,
  ⟨0x7, 1, 0x14, 0, 1, [⟨0, 32, .w1c, 0⟩]⟩,
  ⟨0x7, 1, 0x18, 0, 1, [⟨0, 32, .w1c, 0⟩]⟩,
  ⟨0x7, 1, 0x1C, 0, 1, [⟨0, 3, .rw, 0⟩]⟩,
  ⟨0x7, 1, 0x100, 32, 32, [⟨0, 32, .rw, 0⟩]⟩,
  ⟨0x7, 1, 0x104, 32, 32, [⟨0, 16, .rw, 0⟩]⟩,
  ⟨0x7, 1, 0x108, 32, 32, [⟨0, 3, .ro, 0⟩, ⟨8, 8, .ro, 0⟩]⟩,
  ⟨0x7, 1, 0x10C, 32, 32, [⟨0, 32, .ro, 0⟩]⟩,
  ⟨0x7, 1, 0x110, 32, 32, [⟨0, 16, .ro, 0⟩]⟩,
  ⟨0x7, 1, 0x114, 32, 32, [⟨0, 32, .ro, 0⟩]⟩,
  ⟨0x7, 1, 0x118, 32, 32, [⟨0, 16, .ro, 0⟩, ⟨16, 16, .ro, 0⟩]⟩,
  ⟨0x7, 1, 0x11C, 32, 32, [⟨0, 6, .rw, 32⟩]⟩]

/-- Registers of the KEYS block. -/
def regsKeys0 : List RegRow := [
  ⟨0x8, 1, 0x0, 0, 1, [⟨0, 5, .rw, 0⟩, ⟨8, 4, .rw, 0⟩, ⟨16, 6, .rw, 0⟩, ⟨31, 1, .wo, 0⟩]⟩,
  ⟨0x8, 1, 0x4, 0, 1, [⟨0, 1, .ro, 0⟩, ⟨1, 1, .w1c, 0⟩, ⟨4, 4, .ro, 0⟩]⟩,
  ⟨0x8, 1, 0x10, 4, 10, [⟨0, 32, .wo, 0⟩]⟩,
  ⟨0x8, 1, 0x40, 0, 1, [⟨0, 32, .ro, 0⟩]⟩,
  ⟨0x8, 1, 0x44, 0, 1, [⟨0, 32, .ro, 0⟩]⟩,
  ⟨0x8, 1, 0x48, 0, 1, [⟨0, 1, .ro, 0⟩]⟩,
  ⟨0x8, 1, 0x4C, 0, 1, [⟨0, 32, .ro, 0⟩]⟩,
  ⟨0x8, 1, 0x100, 16, 16, [⟨0, 1, .st, 0⟩, ⟨4, 5, .st, 0⟩]⟩,
  ⟨0x8, 1, 0x104, 16, 16, [⟨0, 14, .st, 0⟩]⟩,
  ⟨0x8, 1, 0x108, 16, 16, [⟨0, 14, .st, 0⟩]⟩,
  ⟨0x8, 1, 0x200, 8, 16, [⟨0, 2, .ro, 0⟩, ⟨4, 1, .ro, 0⟩, ⟨5, 1, .ro, 0⟩]⟩,
  ⟨0x8, 1, 0x204, 8, 16, [⟨0, 14, .ro, 0⟩]⟩,
  ⟨0x8, 1, 0x300, 4, 16, [⟨0, 5, .st, 0⟩, ⟨7, 1, .st, 0⟩]⟩,
  ⟨0x8, 1, 0x400, 0, 1, [⟨0, 4, .rw, 0⟩, ⟨8, 5, .rw, 0⟩, ⟨16, 1, .rw, 0⟩, ⟨31, 1, .wo, 0⟩]⟩,
  ⟨0x8, 1, 0x404, 0, 1, [⟨0, 1, .ro, 0⟩, ⟨4, 4, .ro, 0⟩, ⟨8, 4, .ro, 0⟩, ⟨16, 4, .ro, 0⟩]⟩,
  ⟨0x8, 1, 0x408, 0, 1, [⟨0, 32, .ro, 0⟩]⟩,
  ⟨0x8, 1, 0x40C, 0, 1, [⟨0, 12, .ro, 0⟩]⟩,
  ⟨0x8, 1, 0x500, 0, 1, [⟨0, 6, .rw, 0⟩]⟩,
  ⟨0x8, 1, 0x504, 0, 1, [⟨0, 4, .ro, 0⟩, ⟨4, 4, .ro, 0⟩, ⟨31, 1, .ro, 0⟩]⟩,
  ⟨0x8, 1, 0x508, 0, 1, [⟨0, 32, .ro, 0⟩]⟩,
  ⟨0x8, 1, 0x50C, 0, 1, [⟨0, 12, .ro, 0⟩]⟩,
  ⟨0x8, 1, 0x510, 0, 1, [⟨0, 32, .ro, 0⟩]⟩,
  ⟨0x8, 1, 0x514, 0, 1, [⟨0, 7, .ro, 0⟩, ⟨8, 1, .ro, 0⟩]⟩,
  ⟨0x8, 1, 0x600, 0, 1, [⟨0, 32, .ro, 0⟩]⟩,
  ⟨0x8, 1, 0x604, 0, 1, [⟨0, 32, .ro, 0⟩]⟩]

/-- Registers of the KEYS block. -/
def regsKeys1 : List RegRow := [
  ⟨0x8, 1, 0x608, 0, 1, [⟨0, 32, .ro, 0⟩]⟩,
  ⟨0x8, 1, 0x60C, 0, 1, [⟨0, 32, .ro, 0⟩]⟩,
  ⟨0x8, 1, 0x610, 0, 1, [⟨0, 32, .ro, 0⟩]⟩,
  ⟨0x8, 1, 0x614, 0, 1, [⟨0, 32, .ro, 0⟩]⟩,
  ⟨0x8, 1, 0x620, 0, 1, [⟨0, 4, .ro, 0⟩, ⟨8, 4, .ro, 0⟩, ⟨30, 1, .w1c, 0⟩, ⟨31, 1, .w1c, 0⟩]⟩,
  ⟨0x8, 1, 0x700, 0, 1, [⟨0, 1, .w1c, 0⟩, ⟨1, 1, .w1c, 0⟩, ⟨2, 1, .w1c, 0⟩]⟩,
  ⟨0x8, 1, 0x704, 0, 1, [⟨0, 3, .rw, 0⟩]⟩]

/-- Registers of the LANE block. -/
def regsLane0 : List RegRow := [
  ⟨0x9, 1, 0x0, 0, 1, [⟨0, 6, .ro, 32⟩, ⟨8, 3, .ro, 4⟩]⟩,
  ⟨0x9, 1, 0x10, 0, 1, [⟨0, 1, .w1c, 0⟩, ⟨1, 1, .w1c, 0⟩, ⟨2, 1, .w1c, 0⟩, ⟨3, 1, .w1c, 0⟩, ⟨4, 1, .w1c, 0⟩, ⟨5, 1, .w1c, 0⟩]⟩,
  ⟨0x9, 1, 0x14, 0, 1, [⟨0, 6, .rw, 0⟩]⟩,
  ⟨0x9, 1, 0x18, 4, 2, [⟨0, 32, .w1c, 0⟩]⟩,
  ⟨0x9, 1, 0x100, 8, 12, [⟨0, 2, .rw, 3⟩]⟩,
  ⟨0x9, 1, 0x104, 8, 12, [⟨0, 2, .ro, 0⟩, ⟨2, 2, .ro, 0⟩, ⟨8, 4, .ro, 0⟩, ⟨12, 4, .ro, 0⟩]⟩,
  ⟨0x9, 1, 0x400, 64, 5, [⟨0, 1, .rw, 0⟩, ⟨1, 1, .rw, 0⟩, ⟨2, 1, .rw, 0⟩, ⟨16, 16, .rw, 0⟩]⟩,
  ⟨0x9, 1, 0x404, 64, 5, [⟨0, 3, .ro, 0⟩, ⟨3, 5, .ro, 0⟩, ⟨8, 4, .ro, 0⟩, ⟨16, 16, .ro, 0⟩]⟩,
  ⟨0x9, 1, 0x408, 64, 5, [⟨0, 16, .ro, 0⟩, ⟨16, 16, .ro, 0⟩]⟩,
  ⟨0x9, 1, 0x40C, 64, 5, [⟨0, 16, .ro, 0⟩, ⟨16, 16, .ro, 0⟩]⟩,
  ⟨0x9, 1, 0x410, 64, 5, [⟨0, 8, .rw, 8⟩]⟩,
  ⟨0x9, 1, 0x414, 64, 5, [⟨0, 32, .rw, 0⟩]⟩,
  ⟨0x9, 1, 0x418, 64, 5, [⟨0, 16, .rw, 0⟩]⟩,
  ⟨0x9, 1, 0x41C, 64, 5, [⟨0, 32, .rw, 0⟩]⟩,
  ⟨0x9, 1, 0x420, 64, 5, [⟨0, 1, .rw, 0⟩, ⟨31, 1, .wo, 0⟩]⟩,
  ⟨0x9, 1, 0x424, 64, 5, [⟨0, 1, .ro, 0⟩, ⟨1, 1, .w1c, 0⟩, ⟨4, 4, .ro, 0⟩]⟩,
  ⟨0x9, 1, 0x600, 4, 5, [⟨0, 4, .st, 0⟩, ⟨4, 4, .st, 0⟩, ⟨8, 1, .st, 0⟩]⟩,
  ⟨0x9, 1, 0x700, 4, 32, [⟨0, 3, .st, 0⟩, ⟨4, 5, .st, 0⟩, ⟨15, 1, .st, 0⟩]⟩,
  ⟨0x9, 1, 0x1000, 64, 48, [⟨0, 2, .rw, 0⟩, ⟨2, 3, .rw, 0⟩, ⟨5, 4, .rw, 0⟩, ⟨9, 1, .rw, 0⟩, ⟨10, 1, .rw, 0⟩, ⟨11, 1, .rw, 0⟩, ⟨12, 1, .rw, 0⟩, ⟨13, 1, .rw, 0⟩, ⟨14, 1, .rw, 1⟩, ⟨15, 1, .rw, 1⟩, ⟨16, 4, .rw, 8⟩, ⟨31, 1, .rw, 0⟩]⟩,
  ⟨0x9, 1, 0x1004, 64, 48, [⟨0, 4, .ro, 0⟩, ⟨4, 4, .ro, 0⟩, ⟨8, 4, .ro, 0⟩, ⟨12, 5, .ro, 0⟩, ⟨20, 4, .ro, 0⟩]⟩,
  ⟨0x9, 1, 0x1008, 64, 48, [⟨0, 4, .rw, 4⟩, ⟨8, 6, .rw, 52⟩, ⟨16, 5, .rw, 7⟩, ⟨24, 4, .rw, 0⟩]⟩,
  ⟨0x9, 1, 0x100C, 64, 48, [⟨0, 4, .rw, 4⟩, ⟨8, 6, .rw, 52⟩, ⟨16, 5, .rw, 7⟩, ⟨24, 4, .rw, 0⟩]⟩,
  ⟨0x9, 1, 0x1010, 64, 48, [⟨0, 2, .rw, 0⟩, ⟨4, 3, .rw, 0⟩, ⟨8, 1, .rw, 0⟩, ⟨9, 1, .rw, 0⟩, ⟨10, 1, .wo, 0⟩]⟩,
  ⟨0x9, 1, 0x1014, 64, 48, [⟨0, 32, .ro, 0⟩]⟩,
  ⟨0x9, 1, 0x1018, 64, 48, [⟨0, 2, .ro, 0⟩]⟩]

/-- Registers of the LANE block. -/
def regsLane1 : List RegRow := [
  ⟨0x9, 1, 0x101C, 64, 48, [⟨0, 8, .ro, 0⟩, ⟨8, 8, .ro, 0⟩]⟩,
  ⟨0x9, 1, 0x1020, 64, 48, [⟨0, 16, .ro, 0⟩, ⟨16, 16, .ro, 0⟩]⟩]

/-- Registers of the MPORT block. -/
def regsMport0 : List RegRow := [
  ⟨0x20, 8, 0x0, 0, 1, [⟨0, 4, .rw, 0⟩, ⟨4, 1, .rw, 1⟩, ⟨5, 1, .rw, 0⟩, ⟨31, 1, .rw, 0⟩]⟩,
  ⟨0x20, 8, 0x4, 0, 1, [⟨0, 1, .ro, 0⟩, ⟨1, 1, .ro, 0⟩, ⟨2, 1, .ro, 0⟩, ⟨4, 4, .ro, 0⟩]⟩,
  ⟨0x20, 8, 0x8, 0, 1, [⟨0, 32, .rw, 0⟩]⟩,
  ⟨0x20, 8, 0xC, 0, 1, [⟨0, 16, .rw, 0⟩]⟩,
  ⟨0x20, 8, 0x10, 0, 1, [⟨0, 32, .rw, 0⟩]⟩,
  ⟨0x20, 8, 0x14, 0, 1, [⟨0, 8, .rw, 64⟩, ⟨8, 12, .rw, 0⟩, ⟨20, 3, .rw, 0⟩, ⟨23, 1, .rw, 0⟩]⟩,
  ⟨0x20, 8, 0x18, 0, 1, [⟨0, 32, .rw, 0⟩]⟩,
  ⟨0x20, 8, 0x1C, 0, 1, [⟨0, 16, .rw, 0⟩]⟩,
  ⟨0x20, 8, 0x20, 0, 1, [⟨0, 32, .ro, 0⟩]⟩,
  ⟨0x20, 8, 0x24, 0, 1, [⟨0, 32, .ro, 0⟩]⟩,
  ⟨0x20, 8, 0x28, 0, 1, [⟨0, 32, .ro, 0⟩]⟩,
  ⟨0x20, 8, 0x2C, 0, 1, [⟨0, 32, .ro, 0⟩]⟩,
  ⟨0x20, 8, 0x30, 0, 1, [⟨0, 32, .ro, 0⟩]⟩,
  ⟨0x20, 8, 0x34, 0, 1, [⟨0, 32, .ro, 0⟩]⟩,
  ⟨0x20, 8, 0x38, 0, 1, [⟨0, 32, .ro, 0⟩]⟩,
  ⟨0x20, 8, 0x40, 0, 1, [⟨0, 9, .rw, 0⟩, ⟨9, 1, .rw, 0⟩]⟩,
  ⟨0x20, 8, 0x44, 0, 1, [⟨0, 32, .ro, 0⟩]⟩,
  ⟨0x20, 8, 0x48, 0, 1, [⟨0, 32, .ro, 0⟩]⟩,
  ⟨0x20, 8, 0x4C, 0, 1, [⟨0, 32, .ro, 0⟩]⟩,
  ⟨0x20, 8, 0x50, 0, 1, [⟨0, 32, .ro, 0⟩]⟩,
  ⟨0x20, 8, 0x100, 0, 1, [⟨0, 13, .ro, 0⟩, ⟨16, 1, .ro, 0⟩]⟩,
  ⟨0x20, 8, 0x104, 0, 1, [⟨0, 32, .ro, 0⟩]⟩,
  ⟨0x20, 8, 0x108, 0, 1, [⟨0, 14, .rw, 0⟩, ⟨16, 1, .rw, 0⟩, ⟨31, 1, .wo, 0⟩]⟩,
  ⟨0x20, 8, 0x10C, 0, 1, [⟨0, 32, .wo, 0⟩]⟩,
  ⟨0x20, 8, 0x110, 0, 1, [⟨0, 1, .ro, 0⟩, ⟨1, 1, .w1c, 0⟩, ⟨16, 13, .ro, 4096⟩]⟩]

/-- Registers of the MPORT block. -/
def regsMport1 : List RegRow := [
  ⟨0x20, 8, 0x114, 0, 1, [⟨0, 32, .ro, 0⟩]⟩,
  ⟨0x20, 8, 0x118, 0, 1, [⟨0, 32, .ro, 0⟩]⟩,
  ⟨0x20, 8, 0x11C, 0, 1, [⟨0, 16, .ro, 0⟩]⟩,
  ⟨0x20, 8, 0x200, 8, 16, [⟨0, 32, .rw, 0⟩]⟩,
  ⟨0x20, 8, 0x204, 8, 16, [⟨0, 16, .rw, 0⟩, ⟨31, 1, .rw, 0⟩]⟩,
  ⟨0x20, 8, 0x800, 16, 4, [⟨0, 2, .rw, 0⟩, ⟨2, 1, .rw, 0⟩, ⟨3, 1, .rw, 0⟩, ⟨4, 5, .rw, 0⟩, ⟨9, 5, .rw, 0⟩, ⟨14, 5, .rw, 0⟩, ⟨19, 2, .rw, 0⟩, ⟨31, 1, .rw, 0⟩]⟩,
  ⟨0x20, 8, 0x804, 16, 4, [⟨0, 1, .ro, 0⟩, ⟨1, 1, .ro, 0⟩, ⟨2, 2, .ro, 0⟩]⟩,
  ⟨0x20, 8, 0x808, 16, 4, [⟨0, 32, .ro, 0⟩]⟩,
  ⟨0x20, 8, 0x80C, 16, 4, [⟨0, 16, .ro, 0⟩, ⟨16, 16, .ro, 0⟩]⟩,
  ⟨0x20, 8, 0x900, 4, 4, [⟨0, 32, .rw, 0⟩]⟩,
  ⟨0x20, 8, 0xA00, 0, 1, [⟨0, 1, .w1c, 0⟩, ⟨1, 1, .w1c, 0⟩, ⟨2, 1, .w1c, 0⟩, ⟨3, 1, .w1c, 0⟩, ⟨4, 1, .w1c, 0⟩, ⟨5, 1, .w1c, 0⟩]⟩,
  ⟨0x20, 8, 0xA04, 0, 1, [⟨0, 6, .rw, 0⟩]⟩,
  ⟨0x20, 8, 0x4000, 16, 512, [⟨0, 32, .st, 0⟩]⟩,
  ⟨0x20, 8, 0x4004, 16, 512, [⟨0, 32, .st, 0⟩]⟩,
  ⟨0x20, 8, 0x4008, 16, 512, [⟨0, 16, .st, 0⟩, ⟨16, 4, .st, 0⟩, ⟨20, 4, .st, 0⟩, ⟨31, 1, .st, 0⟩]⟩,
  ⟨0x20, 8, 0x400C, 16, 512, [⟨0, 5, .st, 0⟩, ⟨5, 8, .st, 0⟩, ⟨13, 1, .st, 0⟩, ⟨14, 4, .st, 0⟩]⟩,
  ⟨0x20, 8, 0x6000, 16, 512, [⟨0, 32, .st, 0⟩]⟩,
  ⟨0x20, 8, 0x6004, 16, 512, [⟨0, 32, .st, 0⟩]⟩,
  ⟨0x20, 8, 0x6008, 16, 512, [⟨0, 32, .st, 0⟩]⟩,
  ⟨0x20, 8, 0x600C, 16, 512, [⟨0, 32, .st, 0⟩]⟩,
  ⟨0x20, 8, 0x400, 8, 16, [⟨0, 13, .st, 0⟩, ⟨13, 2, .st, 0⟩, ⟨15, 1, .st, 0⟩, ⟨16, 13, .st, 0⟩]⟩,
  ⟨0x20, 8, 0x404, 8, 16, [⟨0, 11, .st, 0⟩, ⟨16, 5, .st, 0⟩, ⟨31, 1, .st, 0⟩]⟩,
  ⟨0x20, 8, 0x600, 16, 16, [⟨0, 32, .st, 0⟩]⟩,
  ⟨0x20, 8, 0x604, 16, 16, [⟨0, 16, .st, 0⟩, ⟨16, 5, .st, 0⟩, ⟨31, 1, .st, 0⟩]⟩,
  ⟨0x20, 8, 0x608, 16, 16, [⟨0, 32, .st, 0⟩]⟩]

/-- Registers of the MPORT block. -/
def regsMport2 : List RegRow := [
  ⟨0x20, 8, 0x60C, 16, 16, [⟨0, 16, .st, 0⟩]⟩]

/-- Registers of the CLK block. -/
def regsClk0 : List RegRow := [
  ⟨0xA, 1, 0x0, 0, 1, [⟨0, 32, .rw, 0⟩]⟩,
  ⟨0xA, 1, 0x4, 0, 1, [⟨0, 2, .ro, 0⟩]⟩,
  ⟨0xA, 1, 0x8, 0, 1, [⟨0, 32, .ro, 0⟩]⟩,
  ⟨0xA, 1, 0xC, 0, 1, [⟨0, 32, .ro, 0⟩]⟩,
  ⟨0xA, 1, 0x10, 0, 1, [⟨0, 16, .rw, 1000⟩, ⟨16, 16, .rw, 1000⟩]⟩,
  ⟨0xA, 1, 0x14, 0, 1, [⟨0, 8, .rw, 10⟩, ⟨16, 16, .rw, 3000⟩]⟩,
  ⟨0xA, 1, 0x18, 0, 1, [⟨0, 32, .rw, 0⟩]⟩,
  ⟨0xA, 1, 0x1C, 0, 1, [⟨0, 32, .rw, 0⟩]⟩,
  ⟨0xA, 1, 0x20, 0, 1, [⟨0, 1, .w1c, 0⟩, ⟨1, 1, .w1c, 0⟩, ⟨31, 1, .wo, 0⟩]⟩,
  ⟨0xA, 1, 0x30, 0, 1, [⟨0, 32, .ro, 0⟩]⟩,
  ⟨0xA, 1, 0x34, 0, 1, [⟨0, 32, .ro, 0⟩]⟩,
  ⟨0xA, 1, 0x38, 0, 1, [⟨0, 16, .ro, 0⟩]⟩,
  ⟨0xA, 1, 0x40, 0, 1, [⟨0, 32, .rw, 0⟩]⟩,
  ⟨0xA, 1, 0x44, 0, 1, [⟨0, 32, .rw, 0⟩]⟩,
  ⟨0xA, 1, 0x48, 0, 1, [⟨0, 16, .rw, 0⟩]⟩,
  ⟨0xA, 1, 0x4C, 0, 1, [⟨0, 1, .wo, 0⟩, ⟨1, 1, .w1c, 0⟩]⟩,
  ⟨0xA, 1, 0x50, 0, 1, [⟨0, 32, .ro, 0⟩]⟩,
  ⟨0xA, 1, 0x400, 4, 48, [⟨0, 3, .st, 0⟩, ⟨4, 4, .st, 0⟩]⟩,
  ⟨0xA, 1, 0x600, 8, 16, [⟨0, 8, .st, 0⟩, ⟨8, 1, .st, 0⟩, ⟨31, 1, .st, 0⟩]⟩,
  ⟨0xA, 1, 0x604, 8, 16, [⟨0, 16, .st, 0⟩, ⟨16, 16, .st, 1⟩]⟩,
  ⟨0xA, 1, 0x1000, 4, 48, [⟨0, 3, .ro, 0⟩, ⟨4, 4, .ro, 0⟩, ⟨8, 1, .ro, 0⟩, ⟨9, 1, .ro, 0⟩]⟩,
  ⟨0xA, 1, 0x1100, 4, 48, [⟨0, 1, .rw, 0⟩, ⟨1, 1, .wo, 0⟩, ⟨2, 1, .w1c, 0⟩]⟩,
  ⟨0xA, 1, 0x1200, 4, 2, [⟨0, 32, .ro, 0⟩]⟩,
  ⟨0xA, 1, 0x1208, 4, 2, [⟨0, 32, .w1c, 0⟩]⟩,
  ⟨0xA, 1, 0x2000, 32, 4, [⟨0, 1, .rw, 0⟩, ⟨1, 1, .w1c, 0⟩]⟩]

/-- Registers of the CLK block. -/
def regsClk1 : List RegRow := [
  ⟨0xA, 1, 0x2004, 32, 4, [⟨0, 16, .rw, 50⟩, ⟨16, 16, .rw, 1⟩]⟩,
  ⟨0xA, 1, 0x2008, 32, 4, [⟨0, 16, .rw, 1125⟩, ⟨16, 16, .rw, 2640⟩]⟩,
  ⟨0xA, 1, 0x200C, 32, 4, [⟨0, 32, .rw, 0⟩]⟩,
  ⟨0xA, 1, 0x2010, 32, 4, [⟨0, 32, .ro, 0⟩]⟩,
  ⟨0xA, 1, 0x2014, 32, 4, [⟨0, 16, .ro, 0⟩, ⟨16, 16, .ro, 0⟩]⟩,
  ⟨0xA, 1, 0x2100, 0, 1, [⟨0, 16, .rw, 4096⟩]⟩,
  ⟨0xA, 1, 0x2104, 0, 1, [⟨0, 16, .ro, 0⟩, ⟨16, 1, .ro, 0⟩, ⟨17, 6, .ro, 0⟩, ⟨30, 1, .w1c, 0⟩, ⟨31, 1, .w1c, 0⟩]⟩,
  ⟨0xA, 1, 0x3000, 0, 1, [⟨0, 7, .rw, 0⟩, ⟨8, 7, .rw, 0⟩, ⟨31, 1, .wo, 0⟩]⟩,
  ⟨0xA, 1, 0x3004, 0, 1, [⟨0, 32, .rw, 0⟩]⟩,
  ⟨0xA, 1, 0x3008, 0, 1, [⟨0, 32, .ro, 0⟩]⟩,
  ⟨0xA, 1, 0x300C, 0, 1, [⟨0, 1, .ro, 0⟩, ⟨1, 1, .ro, 0⟩, ⟨2, 1, .ro, 0⟩]⟩,
  ⟨0xA, 1, 0x3100, 0, 1, [⟨0, 1, .w1c, 0⟩, ⟨1, 1, .w1c, 0⟩, ⟨2, 1, .w1c, 0⟩, ⟨3, 1, .w1c, 0⟩, ⟨4, 1, .w1c, 0⟩, ⟨5, 1, .w1c, 0⟩, ⟨6, 1, .w1c, 0⟩]⟩,
  ⟨0xA, 1, 0x3104, 0, 1, [⟨0, 7, .rw, 0⟩]⟩]

/-- Registers of the POWER block. -/
def regsPower : List RegRow := [
  ⟨0xC, 1, 0x0, 0, 1, [⟨2, 8, .ro, 255⟩]⟩,
  ⟨0xC, 1, 0x4, 0, 1, [⟨0, 4, .rw, 2⟩, ⟨4, 7, .rw, 64⟩, ⟨16, 10, .rw, 750⟩, ⟨31, 1, .wo, 0⟩]⟩,
  ⟨0xC, 1, 0x8, 0, 1, [⟨0, 1, .ro, 0⟩, ⟨4, 4, .ro, 0⟩]⟩,
  ⟨0xC, 1, 0x10, 4, 4, [⟨0, 7, .ro, 64⟩, ⟨16, 10, .ro, 750⟩]⟩,
  ⟨0xC, 1, 0x20, 0, 1, [⟨0, 4, .rw, 0⟩, ⟨4, 2, .rw, 0⟩, ⟨31, 1, .wo, 0⟩]⟩,
  ⟨0xC, 1, 0x24, 0, 1, [⟨0, 1, .ro, 0⟩, ⟨4, 4, .ro, 0⟩]⟩,
  ⟨0xC, 1, 0x100, 4, 16, [⟨0, 12, .ro, 0⟩, ⟨16, 12, .ro, 0⟩]⟩,
  ⟨0xC, 1, 0x200, 0, 1, [⟨0, 14, .ro, 0⟩]⟩,
  ⟨0xC, 1, 0x204, 0, 1, [⟨0, 14, .w1c, 0⟩]⟩,
  ⟨0xC, 1, 0x300, 0, 1, [⟨0, 1, .w1c, 0⟩, ⟨1, 1, .w1c, 0⟩, ⟨2, 1, .w1c, 0⟩]⟩,
  ⟨0xC, 1, 0x304, 0, 1, [⟨0, 3, .rw, 0⟩]⟩]

/-- Registers of the THERM block. -/
def regsTherm : List RegRow := [
  ⟨0xB, 1, 0x0, 4, 11, [⟨0, 12, .ro, 0⟩, ⟨16, 12, .ro, 0⟩, ⟨28, 1, .ro, 0⟩, ⟨29, 1, .ro, 0⟩, ⟨30, 2, .ro, 0⟩]⟩,
  ⟨0xB, 1, 0x40, 4, 11, [⟨0, 12, .ro, 0⟩, ⟨31, 1, .ro, 0⟩]⟩,
  ⟨0xB, 1, 0x80, 0, 1, [⟨0, 8, .rw, 0⟩]⟩,
  ⟨0xB, 1, 0x84, 0, 1, [⟨0, 12, .ro, 0⟩, ⟨31, 1, .ro, 0⟩]⟩,
  ⟨0xB, 1, 0x90, 0, 1, [⟨0, 5, .rw, 15⟩, ⟨8, 5, .rw, 10⟩, ⟨16, 4, .rw, 2⟩]⟩,
  ⟨0xB, 1, 0xA0, 4, 11, [⟨0, 7, .ro, 64⟩]⟩,
  ⟨0xB, 1, 0xD0, 0, 1, [⟨0, 32, .rw, 0⟩]⟩,
  ⟨0xB, 1, 0xE0, 4, 4, [⟨0, 16, .ro, 0⟩, ⟨16, 16, .ro, 0⟩]⟩,
  ⟨0xB, 1, 0x100, 0, 1, [⟨0, 4, .ro, 0⟩, ⟨4, 4, .ro, 0⟩, ⟨30, 1, .w1c, 0⟩, ⟨31, 1, .w1c, 0⟩]⟩,
  ⟨0xB, 1, 0x110, 0, 1, [⟨0, 1, .w1c, 0⟩, ⟨1, 1, .w1c, 0⟩, ⟨2, 1, .w1c, 0⟩, ⟨3, 1, .w1c, 0⟩]⟩,
  ⟨0xB, 1, 0x114, 0, 1, [⟨0, 4, .rw, 0⟩]⟩]

/-- Registers of the LEDGER block. -/
def regsLedger : List RegRow := [
  ⟨0x10, 1, 0x0, 0, 1, [⟨0, 16, .rw, 0⟩]⟩,
  ⟨0x10, 1, 0x4, 0, 1, [⟨0, 1, .ro, 0⟩, ⟨1, 1, .ro, 0⟩, ⟨2, 1, .ro, 0⟩]⟩,
  ⟨0x10, 1, 0x8, 0, 1, [⟨0, 32, .ro, 0⟩]⟩,
  ⟨0x10, 1, 0xC, 0, 1, [⟨0, 32, .ro, 0⟩]⟩,
  ⟨0x10, 1, 0x10, 0, 1, [⟨0, 16, .rw, 0⟩, ⟨31, 1, .rw, 0⟩]⟩,
  ⟨0x10, 1, 0x14, 0, 1, [⟨0, 32, .rw, 0⟩]⟩,
  ⟨0x10, 1, 0x18, 0, 1, [⟨0, 4, .rw, 0⟩, ⟨31, 1, .wo, 0⟩]⟩,
  ⟨0x10, 1, 0x1C, 0, 1, [⟨0, 1, .ro, 0⟩, ⟨4, 4, .ro, 0⟩]⟩,
  ⟨0x10, 1, 0x20, 0, 1, [⟨0, 32, .ro, 0⟩]⟩,
  ⟨0x10, 1, 0x24, 0, 1, [⟨0, 7, .ro, 0⟩, ⟨16, 16, .ro, 0⟩]⟩]

/-- Registers of the SYS block. -/
def regsSys : List RegRow := [
  ⟨0x0, 1, 0x0, 0, 1, [⟨0, 2, .ro, 0⟩, ⟨2, 1, .ro, 0⟩, ⟨8, 8, .ro, 0⟩]⟩,
  ⟨0x0, 1, 0x4, 0, 1, [⟨0, 4, .ro, 0⟩, ⟨4, 1, .ro, 0⟩, ⟨5, 1, .w1c, 0⟩, ⟨8, 4, .ro, 0⟩]⟩,
  ⟨0x0, 1, 0x8, 0, 1, [⟨0, 4, .rw, 0⟩, ⟨4, 4, .rw, 1⟩]⟩,
  ⟨0x0, 1, 0xC, 0, 1, [⟨0, 4, .ro, 0⟩, ⟨8, 8, .ro, 0⟩]⟩,
  ⟨0x0, 1, 0x10, 0, 1, [⟨0, 1, .ro, 0⟩, ⟨1, 3, .ro, 0⟩]⟩,
  ⟨0x0, 1, 0x14, 0, 1, [⟨0, 24, .rw, 0⟩]⟩,
  ⟨0x0, 1, 0x20, 0, 1, [⟨0, 1, .w1c, 0⟩, ⟨1, 1, .w1c, 0⟩, ⟨2, 1, .w1c, 0⟩]⟩,
  ⟨0x0, 1, 0x24, 0, 1, [⟨0, 3, .rw, 0⟩]⟩]

/-- Registers of the HOSTIF block. -/
def regsHostif : List RegRow := [
  ⟨0xE, 1, 0x0, 16, 4, [⟨0, 32, .rw, 0⟩]⟩,
  ⟨0xE, 1, 0x4, 16, 4, [⟨0, 16, .rw, 0⟩, ⟨31, 1, .rw, 0⟩]⟩,
  ⟨0xE, 1, 0x8, 16, 4, [⟨0, 32, .rw, 0⟩]⟩,
  ⟨0xE, 1, 0x100, 0, 1, [⟨0, 4, .ro, 0⟩, ⟨16, 16, .ro, 0⟩]⟩,
  ⟨0xE, 1, 0x110, 0, 1, [⟨0, 4, .ro, 0⟩, ⟨4, 2, .ro, 0⟩, ⟨6, 2, .ro, 0⟩, ⟨30, 1, .w1c, 0⟩, ⟨31, 1, .w1c, 0⟩]⟩,
  ⟨0xE, 1, 0x114, 0, 1, [⟨0, 32, .ro, 0⟩]⟩,
  ⟨0xE, 1, 0x118, 0, 1, [⟨0, 16, .ro, 0⟩]⟩,
  ⟨0xE, 1, 0x120, 0, 1, [⟨0, 2, .ro, 0⟩, ⟨2, 1, .ro, 0⟩, ⟨16, 16, .ro, 0⟩]⟩,
  ⟨0xE, 1, 0x124, 0, 1, [⟨0, 16, .ro, 0⟩]⟩,
  ⟨0xE, 1, 0x200, 4, 8, [⟨0, 32, .ro, 0⟩]⟩,
  ⟨0xE, 1, 0x220, 0, 1, [⟨0, 8, .wo, 0⟩]⟩,
  ⟨0xE, 1, 0x230, 0, 1, [⟨0, 1, .w1c, 0⟩, ⟨1, 1, .w1c, 0⟩, ⟨2, 1, .w1c, 0⟩]⟩,
  ⟨0xE, 1, 0x234, 0, 1, [⟨0, 3, .rw, 0⟩]⟩,
  ⟨0xE, 1, 0x1000, 4, 256, [⟨0, 1, .rw, 0⟩, ⟨1, 2, .rw, 0⟩, ⟨3, 1, .rw, 0⟩]⟩]

/-- Registers of the PINS block. -/
def regsPins0 : List RegRow := [
  ⟨0xD, 1, 0x0, 0, 1, [⟨0, 8, .ro, 96⟩, ⟨8, 4, .ro, 6⟩]⟩,
  ⟨0xD, 1, 0x10, 4, 3, [⟨0, 32, .rw, 0⟩]⟩,
  ⟨0xD, 1, 0x20, 4, 3, [⟨0, 32, .wo, 0⟩]⟩,
  ⟨0xD, 1, 0x30, 4, 3, [⟨0, 32, .wo, 0⟩]⟩,
  ⟨0xD, 1, 0x40, 4, 3, [⟨0, 32, .ro, 0⟩]⟩,
  ⟨0xD, 1, 0x50, 4, 3, [⟨0, 32, .ro, 0⟩]⟩,
  ⟨0xD, 1, 0x60, 4, 3, [⟨0, 32, .w1c, 0⟩]⟩,
  ⟨0xD, 1, 0x70, 4, 3, [⟨0, 32, .ro, 0⟩]⟩,
  ⟨0xD, 1, 0x80, 0, 1, [⟨0, 16, .wo, 0⟩]⟩,
  ⟨0xD, 1, 0x84, 4, 3, [⟨0, 32, .wo, 0⟩]⟩,
  ⟨0xD, 1, 0x90, 0, 1, [⟨0, 1, .ro, 0⟩, ⟨1, 1, .w1c, 0⟩]⟩,
  ⟨0xD, 1, 0xD0, 4, 6, [⟨0, 32, .wo, 0⟩]⟩,
  ⟨0xD, 1, 0x120, 4, 6, [⟨0, 32, .ro, 0⟩]⟩,
  ⟨0xD, 1, 0xB0, 0, 1, [⟨0, 7, .ro, 0⟩, ⟨8, 1, .ro, 0⟩, ⟨16, 5, .ro, 0⟩]⟩,
  ⟨0xD, 1, 0xB4, 0, 1, [⟨0, 32, .ro, 0⟩]⟩,
  ⟨0xD, 1, 0xB8, 0, 1, [⟨0, 32, .ro, 0⟩]⟩,
  ⟨0xD, 1, 0xBC, 0, 1, [⟨0, 16, .ro, 0⟩]⟩,
  ⟨0xD, 1, 0xC0, 4, 4, [⟨0, 8, .rw, 1⟩, ⟨8, 1, .rw, 0⟩]⟩,
  ⟨0xD, 1, 0xF0, 0, 1, [⟨0, 1, .w1c, 0⟩, ⟨1, 1, .w1c, 0⟩, ⟨2, 1, .w1c, 0⟩, ⟨3, 1, .w1c, 0⟩, ⟨4, 1, .w1c, 0⟩]⟩,
  ⟨0xD, 1, 0xF4, 0, 1, [⟨0, 5, .rw, 0⟩]⟩,
  ⟨0xD, 1, 0x1000, 4, 96, [⟨0, 4, .st, 0⟩, ⟨4, 1, .st, 0⟩, ⟨5, 1, .st, 0⟩, ⟨6, 2, .st, 0⟩, ⟨8, 2, .st, 1⟩, ⟨10, 1, .st, 0⟩]⟩,
  ⟨0xD, 1, 0x3000, 4, 192, [⟨0, 2, .st, 0⟩, ⟨2, 7, .st, 0⟩, ⟨31, 1, .st, 0⟩]⟩,
  ⟨0xD, 1, 0x4000, 64, 6, [⟨0, 8, .rw, 0⟩, ⟨8, 2, .rw, 0⟩, ⟨10, 3, .rw, 0⟩, ⟨13, 1, .rw, 0⟩, ⟨31, 1, .rw, 0⟩]⟩,
  ⟨0xD, 1, 0x4004, 64, 6, [⟨0, 8, .rw, 0⟩]⟩,
  ⟨0xD, 1, 0x4008, 64, 6, [⟨0, 10, .rw, 0⟩, ⟨31, 1, .rw, 0⟩]⟩]

/-- Registers of the PINS block. -/
def regsPins1 : List RegRow := [
  ⟨0xD, 1, 0x400C, 64, 6, [⟨0, 8, .rw, 0⟩, ⟨8, 1, .rw, 0⟩, ⟨9, 1, .rw, 0⟩, ⟨10, 1, .rw, 0⟩, ⟨11, 1, .rw, 0⟩, ⟨31, 1, .wo, 0⟩]⟩,
  ⟨0xD, 1, 0x4010, 64, 6, [⟨0, 16, .rw, 0⟩, ⟨16, 1, .rw, 0⟩, ⟨17, 1, .rw, 0⟩, ⟨18, 1, .rw, 0⟩, ⟨19, 1, .rw, 0⟩, ⟨31, 1, .rw, 0⟩]⟩,
  ⟨0xD, 1, 0x4014, 64, 6, [⟨0, 8, .rw, 0⟩, ⟨8, 1, .ro, 0⟩]⟩,
  ⟨0xD, 1, 0x4018, 64, 6, [⟨0, 2, .rw, 0⟩, ⟨2, 1, .rw, 0⟩, ⟨31, 1, .rw, 0⟩]⟩,
  ⟨0xD, 1, 0x401C, 64, 6, [⟨0, 32, .rw, 0⟩]⟩,
  ⟨0xD, 1, 0x4020, 64, 6, [⟨0, 32, .ro, 0⟩]⟩,
  ⟨0xD, 1, 0x4024, 64, 6, [⟨0, 1, .ro, 0⟩, ⟨1, 1, .ro, 0⟩, ⟨2, 1, .w1c, 0⟩, ⟨3, 1, .w1c, 0⟩, ⟨4, 5, .ro, 0⟩, ⟨9, 5, .ro, 0⟩, ⟨14, 1, .w1c, 0⟩, ⟨15, 1, .w1c, 0⟩, ⟨16, 1, .ro, 0⟩, ⟨24, 8, .ro, 0⟩]⟩,
  ⟨0xD, 1, 0x100, 0, 1, [⟨0, 1, .st, 0⟩, ⟨1, 1, .st, 0⟩]⟩,
  ⟨0xD, 1, 0x104, 0, 1, [⟨0, 1, .ro, 0⟩, ⟨1, 1, .ro, 0⟩, ⟨2, 1, .ro, 0⟩, ⟨3, 1, .ro, 0⟩, ⟨4, 1, .ro, 0⟩, ⟨5, 1, .ro, 0⟩]⟩,
  ⟨0xD, 1, 0x108, 0, 1, [⟨0, 4, .ro, 0⟩, ⟨30, 1, .w1c, 0⟩, ⟨31, 1, .w1c, 0⟩]⟩,
  ⟨0xD, 1, 0x10C, 0, 1, [⟨0, 32, .ro, 0⟩]⟩,
  ⟨0xD, 1, 0x200, 4, 64, [⟨0, 10, .st, 0⟩, ⟨16, 1, .st, 0⟩, ⟨17, 1, .st, 0⟩, ⟨31, 1, .st, 0⟩]⟩,
  ⟨0xD, 1, 0xA0, 4, 6, [⟨0, 2, .ro, 0⟩, ⟨2, 1, .ro, 0⟩]⟩]

/-- Registers of the TEST block. -/
def regsTest : List RegRow := [
  ⟨0xF, 1, 0x0, 0, 1, [⟨0, 4, .rw, 0⟩, ⟨31, 1, .wo, 0⟩]⟩,
  ⟨0xF, 1, 0x4, 0, 1, [⟨0, 1, .ro, 0⟩, ⟨1, 1, .w1c, 0⟩, ⟨2, 2, .ro, 0⟩, ⟨4, 4, .ro, 0⟩, ⟨16, 16, .ro, 0⟩]⟩,
  ⟨0xF, 1, 0x8, 0, 1, [⟨0, 4, .rw, 0⟩]⟩,
  ⟨0xF, 1, 0x10, 0, 1, [⟨0, 10, .ro, 0⟩, ⟨12, 2, .ro, 0⟩, ⟨16, 16, .ro, 0⟩]⟩,
  ⟨0xF, 1, 0x20, 0, 1, [⟨0, 1, .ro, 0⟩, ⟨1, 1, .ro, 0⟩, ⟨2, 1, .ro, 0⟩, ⟨4, 4, .ro, 0⟩, ⟨8, 8, .ro, 0⟩]⟩,
  ⟨0xF, 1, 0x24, 0, 1, [⟨0, 1, .wo, 0⟩, ⟨4, 4, .ro, 0⟩]⟩,
  ⟨0xF, 1, 0x30, 0, 1, [⟨0, 1, .w1c, 0⟩, ⟨1, 1, .w1c, 0⟩, ⟨2, 1, .w1c, 0⟩, ⟨3, 1, .w1c, 0⟩]⟩,
  ⟨0xF, 1, 0x34, 0, 1, [⟨0, 4, .rw, 0⟩]⟩]

/-- Every register of a stack, block by block. -/
def regTable : List RegRow :=
  regsSect ++ regsLoad ++ regsTurn ++ regsFe ++ regsRing ++ regsStore ++ regsComn ++ regsCode ++ regsDma ++ regsKeys0 ++ regsKeys1 ++ regsLane0 ++ regsLane1 ++ regsMport0 ++ regsMport1 ++ regsMport2 ++ regsClk0 ++ regsClk1 ++ regsPower ++ regsTherm ++ regsLedger ++ regsSys ++ regsHostif ++ regsPins0 ++ regsPins1 ++ regsTest

end Sys2Proof.Machine
end

