-- ==== Sys2Proof/Machine/Ops.lean ====
section
/-! DEFINITION. The shared operations: sparse maps, bits, CRC-32C, register fields, events, memory and time. -/

namespace Sys2Proof.Machine

/-! ## Sparse maps -/

/-- What a key reads as; an unlisted key reads as `d`. -/
def mapGet {α : Type} (d : α) : Sparse α → Nat → α
  | [], _ => d
  | (k, v) :: t, n => if k = n then v else mapGet d t n

/-- The map without any entry for a key. -/
def mapErase {α : Type} (m : Sparse α) (n : Nat) : Sparse α := m.filter (fun e => e.1 != n)

/-- The map with one more entry, before the first larger key. -/
def mapInsert {α : Type} (n : Nat) (v : α) : Sparse α → Sparse α
  | [] => [(n, v)]
  | (k, w) :: t => if n < k then (n, v) :: (k, w) :: t else (k, w) :: mapInsert n v t

/-- The map with a key set; writing what an unlisted key reads as removes the entry. -/
def mapSet {α : Type} [DecidableEq α] (d : α) (m : Sparse α) (n : Nat) (v : α) : Sparse α :=
  if v = d then mapErase m n else mapInsert n v (mapErase m n)

/-- Keys strictly rising from a lower bound, and no entry equal to the default: the canonical form. -/
def mapWf {α : Type} [DecidableEq α] (d : α) : Sparse α → Bool
  | [] => true
  | [(_, v)] => !decide (v = d)
  | (k, v) :: (k', w) :: t => !decide (v = d) && decide (k < k') && mapWf d ((k', w) :: t)

/-- The listed entries whose keys lie in a range. -/
def mapRange {α : Type} (m : Sparse α) (lo n : Nat) : Sparse α := m.filter (fun e => decide (lo ≤ e.1) && decide (e.1 < lo + n))

/-- The map with a range of keys returned to the default. -/
def mapClear {α : Type} (m : Sparse α) (lo n : Nat) : Sparse α := m.filter (fun e => !(decide (lo ≤ e.1) && decide (e.1 < lo + n)))

/-- The map with the `n` keys from `dst` made equal to the `n` keys of `src` from `lo`. -/
def mapCopy {α : Type} [DecidableEq α] (d : α) (m : Sparse α) (dst : Nat) (src : Sparse α) (lo n : Nat) : Sparse α :=
  (mapRange src lo n).foldl (fun acc e => mapSet d acc (e.1 - lo + dst) e.2) (mapClear m dst n)

/-! ## Bits -/

/-- Bits [lo + w - 1 : lo] of a number. -/
def bits (v lo w : Nat) : Nat := (v >>> lo) % 2 ^ w

/-- One bit of a number as a Boolean. -/
def bit (v i : Nat) : Bool := (v >>> i) % 2 == 1

/-- The number with one bit set or cleared. -/
def setBit (v i : Nat) (b : Bool) : Nat := if bit v i then (if b then v else v - 2 ^ i) else (if b then v + 2 ^ i else v)

/-- A Boolean as a one-bit number. -/
def b2n (b : Bool) : Nat := if b then 1 else 0

/-- The two's-complement value of the low `w` bits. -/
def signed (v w : Nat) : Int := if bits v (w - 1) 1 = 1 then (bits v 0 w : Int) - 2 ^ w else (bits v 0 w : Int)

/-- The low `w` bits of an integer. -/
def wrapInt (w : Nat) (x : Int) : Nat := (x % (2 ^ w : Int)).toNat

/-- A count that saturates at the largest value of its width. -/
def satAdd (w v n : Nat) : Nat := Nat.min (v + n) (2 ^ w - 1)

/-- A value of `n` bytes as its bytes, least significant first. -/
def toBytes : Nat → Nat → List Byte
  | 0, _ => []
  | n + 1, v => BitVec.ofNat 8 v :: toBytes n (v / 256)

/-- The number that bytes spell, least significant first. -/
def ofBytes : List Byte → Nat
  | [] => 0
  | b :: t => b.toNat + 256 * ofBytes t

/-! ## CRC-32C -/

/-- One bit of the reflected CRC-32C (Castagnoli polynomial, R207, R525). -/
def crcBit (c : Nat) : Nat := if c % 2 = 1 then (c >>> 1) ^^^ 0x82F63B78 else c >>> 1

/-- One byte of the reflected CRC-32C. -/
def crcByte (c : Nat) (b : Nat) : Nat :=
  crcBit (crcBit (crcBit (crcBit (crcBit (crcBit (crcBit (crcBit (c ^^^ b))))))))

/-- CRC-32C of a list of bytes (initial value and final inversion all ones). -/
def crc32c (l : List Nat) : Nat := (l.foldl crcByte 0xFFFFFFFF) ^^^ 0xFFFFFFFF

/-- CRC-32C of 32-bit words, each fed least significant byte first (R152). -/
def crcWords (l : List Nat) : Nat :=
  (l.foldl (fun c w => crcByte (crcByte (crcByte (crcByte c (bits w 0 8)) (bits w 8 8)) (bits w 16 8)) (bits w 24 8)) 0xFFFFFFFF)
    ^^^ 0xFFFFFFFF

/-! ## Register fields -/

/-- What a register field holds. -/
def Stack.get (s : Stack) (f : Field) : Nat := mapGet f.reset s.regs f.key

/-- A one-bit field as a Boolean. -/
def Stack.flag (s : Stack) (f : Field) : Bool := s.get f != 0

/-- The register file with a field written; bits beyond its width are dropped. -/
def Stack.put (s : Stack) (f : Field) (v : Nat) : Stack := { s with regs := mapSet f.reset s.regs f.key (v % 2 ^ f.width) }

/-- A word assembled from its fields, each with its lowest bit. -/
def Stack.word (s : Stack) (l : List (Nat × Field)) : Nat := l.foldl (fun a p => a + s.get p.2 * 2 ^ p.1) 0

/-- A status or INT bit set. -/
def Stack.raise (s : Stack) (f : Field) : Stack := s.put f 1

/-- A counter advanced, saturating at its width. -/
def Stack.bump (s : Stack) (f : Field) (n : Nat := 1) : Stack := s.put f (satAdd f.width (s.get f) n)

/-- A counter advanced, wrapping at its width. -/
def Stack.bumpWrap (s : Stack) (f : Field) (n : Nat := 1) : Stack := s.put f (s.get f + n)

/-- The staged copy of a staged register's field, 0x8000 bytes above its live copy (R6). -/
def Field.staged (f : Field) : Field := ⟨f.key + 0x40000, f.width, f.reset⟩

/-- Both copies of a staged register's field written (R173, R249). -/
def Stack.putBoth (s : Stack) (f : Field) (v : Nat) : Stack := (s.put f v).put f.staged v

/-- A free value drawn: the draw is counted, so the next one is another (log 2). -/
def Stack.draw (s : Stack) : Stack := { s with freeCount := s.freeCount + 1 }

/-- The 32-bit free value of the current draw; the two stacks of an Atlas draw from different values (log 2). -/
def Stack.freeNat (s : Stack) : Nat :=
  (Config.freeWord (2 * s.freeCount + (match s.side with | .recto => 0 | .verso => 1))).toNat

/-- A block's event register records an event: the first since VALID was cleared is kept, a further one sets LOST
(R193, R231, R388, R425, R503, R534, R552, R575). The `fields` are written only with the first. -/
def Stack.eventReg (s : Stack) (valid lost : Field) (fields : List (Field × Nat)) : Stack :=
  if s.flag valid then s.raise lost
  else fields.foldl (fun s p => s.put p.1 p.2) (s.raise valid)

/-! ## Builds -/

/-- Whether every supply but VCC_VIGIL is within specification (R29). -/
def Stack.suppliesOk (s : Stack) : Bool := s.sys.suppliesOut.isEmpty

/-- The decided value of a die in 0.125 °C (R516, R534). -/
def Stack.decided (s : Stack) (die : Nat) : Int := signed (s.get (THERM.DIE_DECIDED die)) 12

/-- Logic layers of a stack (R1). -/
def Build.layers : Build → Nat
  | .octavo => 2
  | _ => 4

/-- Physical layer number of logic layer Lk's index i = k - 1 (R8, R9). -/
def logicLayer (i : Nat) : Nat := 2 * (i + 1)

/-- Index of a physical layer among the logic layers, if it is one of the build's (R8, R10). -/
def Build.logicIndex (b : Build) (k : Nat) : Option Nat :=
  if k % 2 = 0 ∧ 2 ≤ k ∧ k ≤ 2 * b.layers then some (k / 2 - 1) else Option.none

/-- Top physical layer (R3, R8). -/
def Build.top (b : Build) : Nat := 2 * b.layers + 1

/-- Whether the stack takes part in the package: verso exists in the Atlas only (R1, R2). -/
def State.hasSide (s : State) (k : Side) : Bool :=
  match k with
  | .recto => true
  | .verso => decide (s.build = .atlas)

/-! ## Stacks of the package -/

/-- A stack of the package. -/
def State.stack (s : State) (k : Side) : Stack :=
  match k with
  | .recto => s.recto
  | .verso => s.verso

/-- The package with one stack replaced. -/
def State.setStack (s : State) (k : Side) (t : Stack) : State :=
  match k with
  | .recto => { s with recto := t }
  | .verso => { s with verso := t }

/-- An effect on one stack; a stack that the build lacks does nothing (R1, R2). -/
def State.onStack (s : State) (k : Side) (f : Stack → Stack) : State :=
  if s.hasSide k then s.setStack k (f (s.stack k)) else s

/-- One stack of the package replaced, where the build has it (R1, R2). -/
def State.putStack (s : State) (k : Side) (t : Stack) : State := s.onStack k fun _ => t

/-- An effect on every stack of the package (R55, R573). -/
def State.onBoth (s : State) (f : Stack → Stack) : State := (s.onStack .recto f).onStack .verso f

/-- The next state of a command that acts on one stack. -/
def nextStack (s : State) (k : Side) (f : Stack → Stack) : Host.Outcome State Fault Refusal := .next (s.onStack k f)

/-- The next state of a command that one stack starts and that may reach the package: nothing where the build lacks the stack. -/
def nextSide (s : State) (k : Side) (f : State → State) : Host.Outcome State Fault Refusal := .next (if s.hasSide k then f s else s)

/-! ## The ledger -/

/-- The body bytes of a record type (R527). -/
def recordLength (b : Build) (type : Nat) : Nat :=
  match type with
  | 0x0001 => 384
  | 0x0002 => 8
  | 0x0021 => if b = .octavo then 196 else 580
  | 0x0022 => if b = .octavo then 9604 else 28804
  | 0x0023 => if b = .octavo then 6244 else 14020
  | 0x0030 => 276
  | 0x0040 => 248
  | 0x0050 => 32784
  | _ => 0

/-- CRC-32C of a bank's header words 0 to 2 and its body (R525). -/
def Bank.computeCrc (b : Bank) : Nat :=
  crcWords ([b.magic + 0x10000 * b.type, b.seq, b.length] ++ (List.range (b.length / 4)).map (mapGet 0 b.body))

/-- Whether a bank of a record type is valid (R526). -/
def Bank.valid (b : Bank) (bld : Build) (type : Nat) : Bool :=
  b.magic == 0x1ED6 && b.type == type && b.length == recordLength bld type && b.crc == b.computeCrc

/-- Whether SEQ `x` is newer than SEQ `y` by 32-bit serial-number arithmetic (R526). -/
def seqNewer (x y : Nat) : Bool := let d := (x + 2 ^ 32 - y % 2 ^ 32) % 2 ^ 32; d != 0 && decide (d < 2 ^ 31)

/-- A bank of a record type: 0 is A, 1 is B (R525). -/
def Stack.bank (s : Stack) (type i : Nat) : Bank := mapGet {} s.ledger.banks (2 * type + i)

/-- The bank that a read takes: none when neither is valid (R526). -/
def Stack.readBank (s : Stack) (type : Nat) : Option Nat :=
  let a := s.bank type 0; let b := s.bank type 1
  match a.valid s.build type, b.valid s.build type with
  | false, false => Option.none
  | true, false => some 0
  | false, true => some 1
  | true, true => if seqNewer b.seq a.seq then some 1 else some 0

/-- The bank that a write takes (R526): the invalid one, or the one with the older SEQ, A when both are invalid. -/
def Stack.writeBank (s : Stack) (type : Nat) : Nat :=
  let a := s.bank type 0; let b := s.bank type 1
  match a.valid s.build type, b.valid s.build type with
  | false, _ => 0
  | true, false => 1
  | true, true => if seqNewer b.seq a.seq then 0 else 1

/-- The SEQ that a write carries (R526): the newer valid SEQ plus 1, or 1. -/
def Stack.nextSeq (s : Stack) (type : Nat) : Nat :=
  match s.readBank type with
  | some i => ((s.bank type i).seq + 1) % 2 ^ 32
  | Option.none => 1

/-- A bank of a record with a new body, its CRC computed (R525). -/
def mkBank (bld : Build) (type seq : Nat) (body : Sparse Nat) : Bank :=
  let b : Bank := { magic := 0x1ED6, type := type, seq := seq, length := recordLength bld type, crc := 0, body := body }
  { b with crc := b.computeCrc }

/-- A record written to the ledger: the other bank is left as it is (R526). -/
def Stack.writeRecord (s : Stack) (type : Nat) (body : Sparse Nat) : Stack :=
  { s with ledger := { s.ledger with
      banks := mapSet {} s.ledger.banks (2 * type + s.writeBank type) (mkBank s.build type (s.nextSeq type) body) } }

/-- A word of the record's body as a read gives it; 0 when the record is absent. -/
def Stack.recordWord (s : Stack) (type w : Nat) : Nat :=
  match s.readBank type with
  | some i => mapGet 0 (s.bank type i).body w
  | Option.none => 0

/-- The body of a record, empty when the record is absent. -/
def Stack.recordBody (s : Stack) (type : Nat) : Sparse Nat :=
  match s.readBank type with
  | some i => (s.bank type i).body
  | Option.none => []

/-- The first sensor and the number of sensors of a die, numbered die by die in the order of R512: logic layers, memory layers, base,
colophon and host. Dies are physical layers, and 10 is the host (R512, R534). -/
def Build.sensors (b : Build) (die : Nat) : Nat × Nat :=
  let n := b.layers
  if die = 0 then (32 * n, 16)
  else if die = 1 then (32 * n + 16, 4)
  else if die = 10 then (32 * n + 20, 4)
  else if b.top < die then (0, 0)
  else if die % 2 = 0 then (24 * (die / 2 - 1), 24)
  else (24 * n + 8 * ((die - 3) / 2), 8)

/-- The readings of the working sensors of a die, in 0.125 °C units (R514). -/
def Stack.readings (s : Stack) (die : Nat) : List Int :=
  let r := s.build.sensors die
  (((List.range r.2).map (r.1 + ·)).filter fun n => !s.therm.failed.contains n).map fun n => signed (mapGet 0 s.therm.sensors n) 12

/-- Whether every working colophon sensor lies inside the window of ledger and image writes, 0 to 90 °C (R524). A sensor not yet
sampled reads 0 °C. -/
def Stack.tempWindow (s : Stack) : Bool := (s.readings 1).all fun t => decide (0 ≤ t) && decide (t ≤ 720)

/-- Whether every working colophon sensor lies inside the window of secret-zone writes, 15 to 60 °C (R524). -/
def Stack.secretWindow (s : Stack) : Bool := (s.readings 1).all fun t => decide (120 ≤ t) && decide (t ≤ 480)

/-- The eight words of an event-log entry (R528). -/
def Event.words (e : Event) : List Nat :=
  [e.block + 0x10000 * e.cause, e.turn + 0x10000 * e.level, e.time % 1000000000, (e.time / 1000000000) % 2 ^ 32,
   (e.time / 1000000000) / 2 ^ 32 % 2 ^ 16, e.data0, e.data1, e.data2]

/-- Words stored one after the other from a word index. -/
def putWords (m : Sparse Nat) (i : Nat) : List Nat → Sparse Nat
  | [] => m
  | w :: t => putWords (mapSet 0 m i w) (i + 1) t

/-- One event added to the event-log body: NEXT at word 1, TOTAL at word 2, entries of eight words from word 4 (R528). -/
def logEvent (body : Sparse Nat) (e : Event) : Sparse Nat :=
  let next := mapGet 0 body 1 % 1024
  let b := putWords body (4 + 8 * next) e.words
  mapSet 0 (mapSet 0 (mapSet 0 b 0 1) 1 ((next + 1) % 1024)) 2 ((mapGet 0 body 2 + 1) % 2 ^ 32)

/-- A record that the device writes: outside the temperature window the write is abandoned and waits for its retry (R524). -/
def Stack.deviceRecord (s : Stack) (type : Nat) (body : Sparse Nat) : Stack :=
  let rest := s.ledger.retry.filter fun r => r.1 != type
  if s.tempWindow then ({ s with ledger := { s.ledger with retry := rest } } : Stack).writeRecord type body
  else { s with ledger := { s.ledger with retry := rest ++ [(type, body)] } }

/-- The pending events written to the event log (R529). Outside the temperature window the write is abandoned and retried
(R524). -/
def Stack.flushLedger (s : Stack) : Stack :=
  if s.ledger.pend.isEmpty then s
  else if !s.tempWindow then s.deviceRecord 0x0050 []
  else
    let t := s.deviceRecord 0x0050 (s.ledger.pend.foldl logEvent (s.recordBody 0x0050))
    { t with ledger := { t.ledger with pend := [] } }.put LEDGER.PEND_HELD 0

/-- An event recorded: it waits in the pending buffer, or is counted as dropped when 64 wait. LEVEL 3 and 4, THERM events and the
sixteenth pending event flush the buffer (R529). -/
def Stack.event (s : Stack) (e : Event) : Stack :=
  let e := { e with turn := s.get TURN.SEQ_LIVE, time := s.time }
  if 64 ≤ s.ledger.pend.length then s.bump LEDGER.PEND_DROPPED
  else
    let t := ({ s with ledger := { s.ledger with pend := s.ledger.pend ++ [e] } } : Stack).put LEDGER.PEND_HELD
      (s.ledger.pend.length + 1)
    if 3 ≤ e.level ∨ e.block = 0xB ∨ 16 ≤ s.ledger.pend.length + 1 then t.flushLedger else t

/-! ## Memory -/

/-- The canonical form of a byte memory: addresses strictly rising, and no entry equal to 0, which an unlisted address reads as (log 21). -/
abbrev Memory.wf (m : List Host.Cell) : Bool := mapWf 0 m

/-- One byte of memory at a device location. -/
def Stack.readByte (s : Stack) (a : Nat) : Byte := mapGet 0 s.mem a

/-- One byte of memory written. -/
def Stack.writeByte (s : Stack) (a : Nat) (v : Byte) : Stack := { s with mem := mapSet 0 s.mem a v }

/-- `n` bytes of memory from a location. -/
def Stack.readBytes (s : Stack) (a n : Nat) : List Byte := (List.range n).map (fun i => s.readByte (a + i))

/-- Bytes written one after the other from a location. -/
def writeBytesMem (m : List Host.Cell) (a : Nat) : List Byte → List Host.Cell
  | [] => m
  | v :: t => writeBytesMem (mapSet 0 m a v) (a + 1) t

/-- Bytes written under byte enables, one enable a byte. -/
def writeEnabledMem (m : List Host.Cell) (a : Nat) : List (Byte × Bool) → List Host.Cell
  | [] => m
  | (v, e) :: t => writeEnabledMem (if e then mapSet 0 m a v else m) (a + 1) t

/-- Bytes written to memory from a location. -/
def Stack.writeBytes (s : Stack) (a : Nat) (l : List Byte) : Stack := { s with mem := writeBytesMem s.mem a l }

/-- The mark of a codeword of 16 bytes: key is its location div 16. -/
def Stack.mark (s : Stack) (cw : Nat) : Health := mapGet .ok s.health cw

/-- A codeword marked. -/
def Stack.setMark (s : Stack) (cw : Nat) (h : Health) : Stack := { s with health := mapSet .ok s.health cw h }

/-- The error counts and the log queue take an error event (R370, R371). -/
def Stack.errorEvent (s : Stack) (ue : Bool) (source loc symbol : Nat) : Stack :=
  let s := if ue then (s.bump (CODE.UE_CNT_COUNT source)).raise CODE.INT_UE else s.bump (CODE.CE_CNT_COUNT source)
  if 64 ≤ s.integ.queue.length then s.raise CODE.LOG_STATUS_DROPPED
  else { s with integ := { s.integ with queue := s.integ.queue ++ [⟨ue, source, loc, symbol⟩] } }

/-- What a checker reports of a codeword (R366). -/
inductive Class where
  | clean | corrected (j : Nat) | uncorrectable | poison
deriving DecidableEq, Repr

/-- The class of a marked codeword (R366, R367). -/
def Health.class : Health → Class
  | .ok => .clean
  | .symbol j => .corrected j
  | .uncorrectable => .uncorrectable
  | .poison => .poison

/-- A reader meets a codeword: the error is counted and queued for the log; an uncorrectable one is poisoned in memory, so later
reads report POISON (R369, R370, R372). `source` and `loc` are those of R370's table. -/
def Stack.meetCodeword (s : Stack) (cw source loc : Nat) : Stack :=
  match s.mark cw with
  | .ok => s
  | .symbol j => s.errorEvent false source loc j
  | .uncorrectable => (s.errorEvent true source loc 0x3F).setMark cw .poison
  | .poison => s.errorEvent true source loc 0x3F

/-- Mark of a codeword after a write of some of its bytes: one that is uncorrectable or poisoned holds the poison pattern, and a correctable
one is stored clean (R95, R374). -/
def Health.afterPartial : Health → Health
  | .uncorrectable => .poison
  | .poison => .poison
  | .ok => .ok
  | .symbol _ => .ok

/-! ## Time -/

/-- Device time in whole seconds and nanoseconds (R493). -/
def Stack.seconds (s : Stack) : Nat := s.time / 1000000000

/-- The mode is one of those listed. -/
def Stack.modeIn (s : Stack) (l : List Mode) : Bool := l.contains s.mode

/-- Device time has reached an instant: a command that names its moment is an occurrence at that moment (log 60). -/
def Stack.reach (s : Stack) (t : Nat) : Stack :=
  { s with
    time := Nat.max s.time t
    clk := { s.clk with up := s.clk.up + (Nat.max s.time t - s.time) } }

/-- The block has run for `u` ns: the end of a timer that device time's steps do not move (log 60). Device time passes with it once it has
started. -/
def Stack.elapse (s : Stack) (u : Nat) : Stack :=
  { s with
    time := if s.clk.started then s.time + (u - s.clk.up) else s.time
    clk := { s.clk with up := Nat.max s.clk.up u } }

end Sys2Proof.Machine
end

