-- ==== Sys2Proof/Machine/SelfTest.lean ====
section
/-! DEFINITION. The common code and the checker self-test of Dawn step 3 (R57, R364 to R367). -/

namespace Sys2Proof.Machine

/-- The syndrome of a received codeword: its check bits and the parity columns of its data bits (R364, R365). -/
def syndrome (w : BitVec 144) : BitVec 16 :=
  (List.range 128).foldl (fun a i => if w.getLsbD i then a ^^^ Config.parity i else a) (w.extractLsb' 128 16)

/-- The valid check bits of some data (R365). -/
def checkBits (d : BitVec 128) : BitVec 16 := syndrome (d.setWidth 144)

/-- Data with its valid check bits (R364). -/
def codeword (d : BitVec 128) : BitVec 144 := checkBits d ++ d

/-- Symbol j of a codeword changed by four bits (R364). -/
def flipSymbol (j : Nat) (e : BitVec 4) (w : BitVec 144) : BitVec 144 := w ^^^ (e.setWidth 144 <<< (4 * j))

/-- The poison pattern: data all ones, check bits those of all ones with every bit inverted (R367). -/
def poisonPattern : BitVec 144 := ~~~(checkBits (BitVec.allOnes 128)) ++ BitVec.allOnes 128

/-- The class of a received codeword (R366). -/
def classify (w : BitVec 144) : CodeClass :=
  let y := syndrome w
  if y = 0 then .none
  else if w.extractLsb' 0 128 = BitVec.allOnes 128 ∧ y = 0xFFFF then .poison
  else
    match (List.range 36).find? fun j => (List.range 15).any fun e => syndrome (flipSymbol j (BitVec.ofNat 4 (e + 1)) 0) == y with
    | some j => .corrected j
    | Option.none => .uncorrectable

/-- The 76 codewords of the self-test with the classes that they must return (R57). -/
def selfTestPatterns : List (BitVec 144 × CodeClass) :=
  [(codeword 0, .none), (codeword 0x55555555555555555555555555555555, .none), (codeword 0xAAAAAAAAAAAAAAAAAAAAAAAAAAAAAAAA, .none)] ++
  ((List.range 36).map fun j => (flipSymbol j 0xF 0, CodeClass.corrected j)) ++
  ((List.range 36).map fun j => (flipSymbol ((j + 1) % 36) 0xF (flipSymbol j 0xF 0), CodeClass.uncorrectable)) ++
  [(poisonPattern, .poison)]

/-- The checkers of a stack by source of R370 and number: memory controllers, the commons, leaf memories, ring interfaces and vertical data
links (R57). -/
def Build.checkers (b : Build) (links : List Nat) : List (Nat × Nat) :=
  ((List.range b.layers).map fun i => (0, i)) ++ [(2, 0)] ++
  ((List.range b.layers).flatMap fun i => (List.range 4800).map fun m => (3, 4800 * i + m)) ++
  ((List.range (32 * (b.layers + 1))).map fun i => (5, i)) ++ links.map fun l => (6, l)

/-- What a checker answers at a draw: R366's class, unless it is faulty. -/
def checkerAnswer (draw : Nat) (c : Nat × Nat) (w : BitVec 144) : CodeClass := (Config.checkerFault draw c.1 c.2 w).getD (classify w)

/-- Whether every checker of a stack returns the stated class for every codeword of the self-test (R57). -/
def Stack.selfTest (s : Stack) (links : List Nat) : Bool :=
  (s.build.checkers links).all fun c => selfTestPatterns.all fun p => checkerAnswer s.freeCount c p.1 == p.2

end Sys2Proof.Machine
end

