-- ==== Sys2Proof/Machine/Aes.lean ====
section
/-! DEFINITION. AES-256 (FIPS 197), its use in GCM (NIST SP 800-38D) and AES key wrap (NIST SP 800-38F), as R202, R408, R409 and
R423 use them. A 128-bit block is a number whose most significant byte is the standard's first byte (log 23). -/

namespace Sys2Proof.Machine

/-- Multiplication by x in GF(2^8). -/
def xtime (a : Nat) : Nat := if 128 ≤ a then ((2 * a) ^^^ 0x11B) % 256 else 2 * a

/-- Multiplication in GF(2^8), bit by bit. -/
def gmulBits : Nat → Nat → Nat → Nat
  | 0, _, _ => 0
  | k + 1, a, b => (if b % 2 = 1 then a else 0) ^^^ gmulBits k (xtime a) (b / 2)

/-- Multiplication in GF(2^8). -/
def gmul (a b : Nat) : Nat := gmulBits 8 a b

/-- The inverse in GF(2^8): the 254th power; 0 for 0. -/
def ginv (a : Nat) : Nat :=
  let a2 := gmul a a; let a3 := gmul a2 a; let a6 := gmul a3 a3; let a12 := gmul a6 a6; let a15 := gmul a12 a3
  let a30 := gmul a15 a15; let a60 := gmul a30 a30; let a120 := gmul a60 a60; let a240 := gmul a120 a120
  gmul (gmul a240 a12) a2

/-- A byte rotated left. -/
def rotl8 (a n : Nat) : Nat := ((a <<< n) ||| (a >>> (8 - n))) % 256

/-- SubBytes of one byte. -/
def sbox (a : Nat) : Nat := let b := ginv a; b ^^^ rotl8 b 1 ^^^ rotl8 b 2 ^^^ rotl8 b 3 ^^^ rotl8 b 4 ^^^ 0x63

/-- InvSubBytes of one byte. -/
def invSbox (a : Nat) : Nat := let b := rotl8 a 1 ^^^ rotl8 a 3 ^^^ rotl8 a 6 ^^^ 0x05; ginv b

/-- The bytes of a number, most significant first. -/
def toBytesBE : Nat → Nat → List Nat
  | 0, _ => []
  | n + 1, v => (v / 256 ^ n) % 256 :: toBytesBE n v

/-- The number that bytes spell, most significant first. -/
def ofBytesBE (l : List Nat) : Nat := l.foldl (fun acc b => acc * 256 + b) 0

/-- One step of the AES-256 key schedule: word i from words i - 8 and i - 1. -/
def keyWord (ws : List (List Nat)) (rcon i : Nat) : List Nat :=
  let prev := ws.getD (i - 1) []
  let t :=
    if i % 8 = 0 then
      let r := (prev.drop 1 ++ prev.take 1).map sbox
      match r with
      | a :: t => (a ^^^ rcon) :: t
      | [] => []
    else if i % 8 = 4 then prev.map sbox
    else prev
  List.zipWith (· ^^^ ·) (ws.getD (i - 8) []) t

/-- The key schedule from word `60 - k` on. -/
def expandKey : Nat → Nat → List (List Nat) → List (List Nat)
  | 0, _, ws => ws
  | k + 1, rcon, ws =>
    let i := ws.length
    expandKey k (if i % 8 = 0 then xtime rcon else rcon) (ws ++ [keyWord ws rcon i])

/-- The fifteen round keys of a 256-bit key. -/
def roundKeys (key : Nat) : List (List Nat) :=
  let b := toBytesBE 32 key
  let ws := expandKey 52 1 ((List.range 8).map fun i => (b.drop (4 * i)).take 4)
  (List.range 15).map fun r => ((ws.drop (4 * r)).take 4).flatten

/-- ShiftRows: byte r + 4c comes from byte r + 4 (c + r). -/
def shiftRows (s : List Nat) : List Nat :=
  (List.range 16).map fun i => s.getD (i % 4 + 4 * ((i / 4 + i % 4) % 4)) 0

/-- InvShiftRows. -/
def invShiftRows (s : List Nat) : List Nat :=
  (List.range 16).map fun i => s.getD (i % 4 + 4 * ((i / 4 + 4 - i % 4) % 4)) 0

/-- A column mix with the four coefficients of a row of the circulant matrix. -/
def mixWith (a b c d : Nat) (s : List Nat) : List Nat :=
  (List.range 16).map fun i =>
    let col := i / 4 * 4
    let x := fun k => s.getD (col + (i + k) % 4) 0
    gmul a (x 0) ^^^ gmul b (x 1) ^^^ gmul c (x 2) ^^^ gmul d (x 3)

/-- AES-256 of a block. -/
def aesEncrypt (key block : Nat) : Nat :=
  let ks := roundKeys key
  let add := fun (s : List Nat) (r : Nat) => List.zipWith (· ^^^ ·) s (ks.getD r [])
  let s := add (toBytesBE 16 block) 0
  let s := (List.range 13).foldl (fun s r => add (mixWith 2 3 1 1 (shiftRows (s.map sbox))) (r + 1)) s
  ofBytesBE (add (shiftRows (s.map sbox)) 14)

/-- The inverse cipher of AES-256. -/
def aesDecrypt (key block : Nat) : Nat :=
  let ks := roundKeys key
  let add := fun (s : List Nat) (r : Nat) => List.zipWith (· ^^^ ·) s (ks.getD r [])
  let s := add (toBytesBE 16 block) 14
  let s := (List.range 13).foldl (fun s r => mixWith 14 11 13 9 (add ((invShiftRows s).map invSbox) (13 - r))) s
  ofBytesBE (add ((invShiftRows s).map invSbox) 0)

/-! ## GHASH and GCM -/

/-- Multiplication in GF(2^128) of SP 800-38D: `x`'s bits are taken from bit 127 down. -/
def ghashMul : Nat → Nat → Nat → Nat
  | 0, _, _ => 0
  | k + 1, x, v =>
    (if bit x k then v else 0) ^^^ ghashMul k x (if v % 2 = 1 then (v / 2) ^^^ (0xE1 * 2 ^ 120) else v / 2)

/-- GHASH of blocks under the hash key `h`. -/
def ghash (h : Nat) (blocks : List Nat) : Nat := blocks.foldl (fun y x => ghashMul 128 (y ^^^ x) h) 0

/-- Bytes cut into 128-bit blocks, the last padded with zeros. -/
def blocksOf : Nat → List Nat → List Nat
  | 0, _ => []
  | k + 1, l => ofBytesBE ((l.take 16) ++ List.replicate (16 - (l.take 16).length) 0) :: blocksOf k (l.drop 16)

/-- Blocks of a byte list. -/
def toBlocks (l : List Nat) : List Nat := blocksOf ((l.length + 15) / 16) l

/-- The GCM tag of a ciphertext with additional data under a 96-bit IV. -/
def gcmTag (key iv : Nat) (aad ct : List Nat) : Nat :=
  let h := aesEncrypt key 0
  ghash h (toBlocks aad ++ toBlocks ct ++ [8 * aad.length * 2 ^ 64 + 8 * ct.length]) ^^^ aesEncrypt key (iv * 2 ^ 32 + 1)

/-- The GCM key stream applied to bytes from counter `c`. -/
def gcmStream (key iv c : Nat) : Nat → List Nat → List Nat
  | 0, _ => []
  | k + 1, l =>
    List.zipWith (· ^^^ ·) (l.take 16) (toBytesBE 16 (aesEncrypt key (iv * 2 ^ 32 + c))) ++ gcmStream key iv (c + 1) k (l.drop 16)

/-- GCM decryption (the key stream starts at counter 2). -/
def gcmCrypt (key iv : Nat) (l : List Nat) : List Nat := gcmStream key iv 2 ((l.length + 15) / 16) l

/-! ## Key wrap -/

/-- One inverse step of key unwrap: A and the four 64-bit registers, step t. -/
def unwrapStep (kek : Nat) (ar : Nat × List Nat) (t : Nat) : Nat × List Nat :=
  let i := (t - 1) % 4
  let b := aesDecrypt kek ((ar.1 ^^^ t) * 2 ^ 64 + ar.2.getD i 0)
  (b / 2 ^ 64, ar.2.set i (b % 2 ^ 64))

/-- AES key unwrap of five 64-bit words: the 256-bit key, or none when the integrity check fails. -/
def keyUnwrap (kek : Nat) (c : List Nat) : Option Nat :=
  let r := (List.range 24).foldl (fun ar k => unwrapStep kek ar (24 - k)) (c.getD 0 0, c.drop 1)
  if r.1 = 0xA6A6A6A6A6A6A6A6 then some (r.2.foldl (fun acc w => acc * 2 ^ 64 + w) 0) else Option.none

end Sys2Proof.Machine
end

