-- ==== Sys2Proof/Machine/RegLookup.lean ====
section
/-! DEFINITION. Registers found by block and offset: the row that holds one, its staged fields, and the pin lock (R5, R6, R560). -/

namespace Sys2Proof.Machine

/-- Whether a row holds the register at an offset of a block. -/
def RegRow.covers (r : RegRow) (block off : Nat) : Bool :=
  decide (r.block ≤ block) && decide (block < r.block + r.insts) && decide (r.off ≤ off) &&
  (if r.stride = 0 then off == r.off else (off - r.off) % r.stride == 0 && decide ((off - r.off) / r.stride < r.count))

/-- The row of the register at an offset of a block. -/
def regAt (block off : Nat) : Option RegRow := regTable.find? (·.covers block off)

/-- Bit address of the word at an offset of a block. -/
def wordKey (block off : Nat) : Nat := (block * 0x10000 + off) * 8

/-! ## Which offsets hold registers (R4, R550) -/

/-- Lanes of a stack (R426). -/
def Build.lanes : Build → Nat
  | .octavo => 16
  | .quarto => 32
  | .atlas => 48

/-- Media ports of a stack (R457). -/
def Build.mports (b : Build) : Nat := if b = .octavo then 4 else 8

/-- Links of a stack (R426). -/
def Build.laces (b : Build) : Nat := if b = .atlas then 5 else 4

/-- The first instance and the count of a repeated block (R550). -/
def Build.blockExists (b : Build) (block : Nat) : Bool :=
  decide (block ≤ 0x10) || (0x20 ≤ block && decide (block < 0x20 + b.mports)) || (0x40 ≤ block && decide (block < 0x40 + b.layers)) ||
    (0x50 ≤ block && decide (block < 0x50 + b.layers))

/-- Offsets inside a row of a table whose index the table starts above 0, or ends below the row's end: SRC_dd, SRC_STAT_dd and DRST_dd
from d = 16, REGION_kk, REGION_STAT_kk, REGION_FOOT_kk and LINK_SEL_aa from 1, word 2 of the pins of an Octavo, and the registers of quads,
links and lanes that the build lacks (R425, R455, R456, R503, R570). -/
def Build.indexListed (b : Build) (block off : Nat) : Bool :=
  let beyond := fun (lo hi stride n : Nat) => lo ≤ off && decide (off < hi) && decide (n ≤ (off - lo) / stride)
  match block with
  | 0x9 => !(beyond 0x100 0x160 8 (b.lanes / 4) || beyond 0x400 0x540 64 b.laces || beyond 0x600 0x614 4 b.laces || beyond 0x1000 0x1C00 64 b.lanes)
  | 0xA => !((0x400 ≤ off && off < 0x440) || (0x1000 ≤ off && off < 0x1040) || (0x1100 ≤ off && off < 0x1140))
  | 0x8 => !((0x100 ≤ off && off < 0x110) || (0x200 ≤ off && off < 0x208) || (0x300 ≤ off && off < 0x304))
  | 0xD => !(b == .octavo && [0x18, 0x28, 0x38, 0x48, 0x58, 0x68, 0x78, 0x8C].contains off)
  | _ => true

/-- The live offset of a register, and whether the offset is that of the staged copy (R6). -/
def liveOffset (off : Nat) : Nat × Bool := if 0x8000 ≤ off then (off - 0x8000, true) else (off, false)

/-- The row of the register at an offset, live or staged; none where no register stands (R4). -/
def Build.regRow (b : Build) (block off : Nat) : Option RegRow :=
  let o := liveOffset off
  if off % 4 ≠ 0 ∨ b.blockExists block = false ∨ b.indexListed block o.1 = false then Option.none
  else match regAt block o.1 with
    | some r => if o.2 && !(r.fields.any (·.ty == .st)) then Option.none else some r
    | Option.none => Option.none

/-- A field of a row as the field of one register. -/
def FSpec.field (f : FSpec) (block off : Nat) : Field := ⟨wordKey block off + f.lo, f.width, f.reset⟩

/-- The staged fields of the register at a live offset of a block: none for a register that is not staged (R6). -/
def stagedFields (block off : Nat) : List FSpec :=
  match regAt block off with
  | some r => r.fields.filter (·.ty == .st)
  | Option.none => []

/-- Whether the register at a live offset is locked by the pin lock (R560). -/
def Stack.pinLocked (s : Stack) (block off : Nat) : Bool :=
  block == 0xD &&
    (if 0x1000 ≤ off ∧ off < 0x1180 then
      let n := (off - 0x1000) / 4
      bit (s.get (PINS.LOCKED_LOCKED (n / 32))) (n % 32)
    else if 0x3000 ≤ off ∧ off < 0x3300 then
      let n := (off - 0x3000) / 4
      bit (s.get (PINS.XLOCKED_LOCKED (n / 32))) (n % 32)
    else false)

/-- The staged copy of a staged register written; a locked pin's ignores the write (R6, R560). -/
def Stack.putStaged (s : Stack) (block off v : Nat) : Stack :=
  if s.pinLocked block off then s
  else (stagedFields block off).foldl (fun s f => s.put (f.field block off).staged (bits v f.lo f.width)) s

/-- The live copy of a staged register written; a locked pin's ignores the write (R6, R560). -/
def Stack.putLive (s : Stack) (block off v : Nat) : Stack :=
  if s.pinLocked block off then s
  else (stagedFields block off).foldl (fun s f => s.put (f.field block off) (bits v f.lo f.width)) s

end Sys2Proof.Machine
end

