-- ==== Sys2Proof/Machine/Cells.lean ====
section
/-! DEFINITION. The cell of the fabric: look-up table, carry stage and flip-flops (R71 to R84), and the sample word (R98 to R103).
Wires.lean applies them to the cells of the planes in force at each clock edge of a design (log 104). -/

namespace Sys2Proof.Machine

/-- The look-up table input value of LI5 to LI0 after the input polarities. DESIGN CHOICE: a set polarity bit inverts its input, and the generates
g0 and g1 of a carry stage are taken after it (R71, R80, R89, log 114). -/
def lutIndex (inputs polarity : Nat) : Nat := bits (inputs ^^^ polarity) 0 6

/-- The outputs LW and LH of a look-up table with contents `t` (64 bits), mode and input value (R71). In arithmetic mode they are
the sum bits s1 and s0, given the carry-in. DESIGN CHOICE: in dual mode F0, and in arithmetic mode p0, stand in bits [31:0] of the table, and F1
and p1 in bits [63:32] (log 113). -/
def lutOut (t mode idx c0 : Nat) : Bool × Bool :=
  match mode with
  | 0 => (bit t idx, bit t idx)
  | 1 => (bit t (32 + idx % 32), bit t (idx % 32))
  | 2 =>
    let p0 := bit t (idx % 32); let p1 := bit t (32 + idx % 32)
    let c1 := if p0 then c0 == 1 else bit idx 0
    (p1 != c1, p0 != (c0 == 1))
  | _ => (bit t idx, bit t (idx % 32))

/-- The carry-out of a cell: in arithmetic mode by the equations of R80 with g0 = LI0 and g1 = LI1, else the carry-in (R71, R80). -/
def carryOut (t mode idx c0 : Nat) : Bool :=
  if mode = 2 then
    let p0 := bit t (idx % 32); let p1 := bit t (32 + idx % 32)
    let c1 := if p0 then c0 == 1 else bit idx 0
    if p1 then c1 else bit idx 1
  else c0 == 1

/-- The twelve configuration bits of a flip-flop (R75). -/
structure FlipFlop where
  dsel : Nat
  csel : Nat
  cen : Nat
  srsel : Nat
  srmode : Nat
  init : Bool
  shared : Bool
deriving DecidableEq, Repr

/-- A flip-flop's configuration bits read as fields (R75). -/
def FlipFlop.ofBits (v : Nat) : FlipFlop :=
  ⟨bits v 0 2, bits v 2 1, bits v 3 2, bits v 5 1, bits v 6 3, bit v 9, bit v 10⟩

/-- What a flip-flop sees: its section's reset, its two set/reset lines, its two enable lines, a clock edge, and its sources
LW, LH, own sum bit and own direct input (R74 to R76). -/
structure FlipFlopIn where
  reset : Bool
  sr : Bool × Bool
  en : Bool × Bool
  edge : Bool
  src : Bool × Bool × Bool × Bool
deriving DecidableEq, Repr

/-- The next value of a flip-flop: the first rule of R76 that applies. -/
def FlipFlop.next (f : FlipFlop) (i : FlipFlopIn) (q : Bool) : Bool :=
  let line := if f.srsel = 0 then i.sr.1 else i.sr.2
  let en := match f.cen with
    | 0 => true
    | 1 => i.en.1
    | 2 => i.en.2
    | _ => false
  let d := match f.dsel with
    | 0 => i.src.1
    | 1 => i.src.2.1
    | 2 => i.src.2.2.1
    | _ => i.src.2.2.2
  if i.reset then f.init
  else if f.srmode = 3 && line then false
  else if f.srmode = 4 && line then true
  else if i.edge && f.srmode == 1 && line then false
  else if i.edge && f.srmode == 2 && line then true
  else if i.edge && en then d
  else q

/-! ## The sample word -/

/-- A video code of 10, 12 or 14 bits as a sample word, guard bits 0 (R98). -/
def widen (width v : Nat) : Nat := bits v 0 width <<< (14 - width)

/-- A sample word narrowed to 10 or 12 bits: nearest code, ties upward, saturated at the top code (R99). -/
def narrow (width v : Nat) : Nat := Nat.min ((bits v 0 14 + 2 ^ (13 - width)) >>> (14 - width)) (2 ^ width - 1)

/-- The pair of sample words of an audio sample of 24 or 16 bits: high word, low word (R101). -/
def audioPair (width v : Nat) : Nat × Nat := let p := bits v 0 width <<< (28 - width); (bits p 14 14, bits p 0 14)

/-- Nine sample words packed in a 128-bit word, spare bits 0 (R102, R103). -/
def packNine : List Nat → Nat
  | [] => 0
  | w :: t => bits w 0 14 + 2 ^ 14 * packNine t

/-- Sample word h of a 128-bit word (R102). -/
def sampleOf (v h : Nat) : Nat := bits v (14 * h) 14

end Sys2Proof.Machine
end

