-- ==== Sys2Proof/Machine/Fabric.lean ====
section
/-! DEFINITION. The fabric's storage: tiles, folios in planes, state banks, golden digests, page-store slots and tile vectors
(R85, R129 to R135, R204 to R207). -/

namespace Sys2Proof.Machine

/-- A tile of a layer. -/
structure Tile where
  layer : Nat
  tile : Nat
deriving DecidableEq, Repr

/-- Tile index of a row and column (R85). -/
def tileIndex (row col : Nat) : Nat := row * 40 + col

/-- The tiles of a section's rectangle in one layer, in index order (R163). -/
def Section.layerTiles (x : Section) (layer : Nat) : List Tile :=
  (List.range x.rows).flatMap fun r => (List.range x.cols).map fun c => ⟨layer, tileIndex (x.row0 + r) (x.col0 + c)⟩

/-- The physical layer numbers of a section, lowest first (R163, R195). -/
def Section.layers (x : Section) : List Nat := (List.range x.layerCnt).map fun i => x.layerLo + 2 * i

/-- The tiles of a section, layer by layer (R163). -/
def Section.tiles (x : Section) : List Tile := x.layers.flatMap x.layerTiles

/-- Whether a section's extent holds a tile (R163). -/
def Section.holds (x : Section) (t : Tile) : Bool :=
  let row := t.tile / 40; let col := t.tile % 40
  decide (x.layerLo ≤ t.layer) && decide (t.layer < x.layerLo + 2 * x.layerCnt) && t.layer % 2 == x.layerLo % 2 &&
  decide (x.row0 ≤ row) && decide (row < x.row0 + x.rows) && decide (x.col0 ≤ col) && decide (col < x.col0 + x.cols)

/-- Key of a folio of a plane: layer, tile, gathering and plane (R616). -/
def folioKey (t : Tile) (g p : Nat) : Nat := ((t.layer * 2048 + t.tile) * 16 + g) * 4 + p

/-- The folio address of R616 with WORD 0. -/
def folioAddr (t : Tile) (g p : Nat) : Nat := t.layer * 2 ^ 28 + t.tile * 2 ^ 17 + g * 2 ^ 13 + p * 2 ^ 11

/-- The tile, gathering and plane that a folio address names (R616). -/
def ofFolioAddr (a : Nat) : Tile × Nat × Nat := (⟨bits a 28 4, bits a 17 11⟩, bits a 13 4, bits a 11 2)

/-- Byte `b` of a folio in a plane. -/
def Fabric.folioByte (f : Fabric) (key b : Nat) : Nat := (mapGet 0 f.planeMem (key * 4096 + b)).toNat

/-- The 4,096 bytes of a folio in a plane. -/
def Fabric.folioBytes (f : Fabric) (key : Nat) : List Nat := (List.range 4096).map (f.folioByte key)

/-- Bits [71:64] of a cell: mode and polarities, byte 8 of the cell's 32 bytes (R204). -/
def cellMode (byte8 : Nat) : Nat := byte8 % 4

/-- The digest of a folio of zeros: CRC-32C of 4,096 zero bytes (R207). -/
def zeroDigest : Nat := 0x98F94189

/-- A folio's bytes as a digest takes them: bits [63:0] of every cell in memory mode count as 0 (R207). -/
def digestBytes (byte : Nat → Nat) : List Nat :=
  (List.range 128).flatMap fun c =>
    (List.range 32).map fun b => if b < 8 ∧ cellMode (byte (32 * c + 8)) = 3 then 0 else byte (32 * c + b)

/-- The golden digest of a folio (R207), from its listed bytes; a folio with no listed byte is all zeros. -/
def digestOf (listed : List Host.Cell) (base : Nat) : Nat :=
  let l := mapRange listed base 4096
  if l.isEmpty then zeroDigest
  else crc32c (digestBytes fun b => (mapGet 0 l (base + b)).toNat)

/-- The digest computed over a folio of a plane (R207). -/
def Fabric.digest (f : Fabric) (key : Nat) : Nat := digestOf f.planeMem (key * 4096)

/-- Whether a folio of a plane matches its golden digest. -/
def Fabric.folioOk (f : Fabric) (key : Nat) : Bool := f.digest key == mapGet zeroDigest f.golden key

/-- Whether a folio holds a cell in memory mode (R73, R206). -/
def memModeOf (listed : List Host.Cell) (base : Nat) : Bool :=
  (List.range 128).any fun c => cellMode (mapGet 0 listed (base + 32 * c + 8)).toNat == 3

/-- A 256-bit state word with one bit for every flip-flop: bit `bitA` of each cell's byte `byteA` at 2c, `bitB` of `byteB` at
2c + 1 (R134, R204). -/
def ffBits (byte : Nat → Nat) (byteA bitA byteB bitB : Nat) : BitVec 256 :=
  (List.range 128).foldl (fun acc c =>
    let acc := if bit (byte (32 * c + byteA)) bitA then acc ||| BitVec.twoPow 256 (2 * c) else acc
    if bit (byte (32 * c + byteB)) bitB then acc ||| BitVec.twoPow 256 (2 * c + 1) else acc) 0

/-- The INIT values of a gathering's flip-flops: bit 81 of the cell for A, bit 93 for B (R75, R204). A folio with no listed byte
has INIT 0 everywhere. -/
def initBits (listed : List Host.Cell) (base : Nat) : BitVec 256 :=
  let l := mapRange listed base 4096
  if l.isEmpty then 0 else ffBits (fun b => (mapGet 0 l (base + b)).toNat) 10 1 11 5

/-- The SHARED bits of a gathering's flip-flops: bit 82 of the cell for A, bit 94 for B (R75, R204). -/
def sharedBits (listed : List Host.Cell) (base : Nat) : BitVec 256 :=
  let l := mapRange listed base 4096
  if l.isEmpty then 0 else ffBits (fun b => (mapGet 0 l (base + b)).toNat) 10 2 11 6

/-- A gathering's state bank in a plane (R134). -/
def Fabric.bank (f : Fabric) (key : Nat) : BitVec 256 := mapGet 0 f.banks key

/-- The gatherings of a list of tiles: folio keys in a plane. -/
def folioKeys (ts : List Tile) (p : Nat) : List Nat := ts.flatMap fun t => (List.range 16).map fun g => folioKey t g p

/-- The live flip-flops of tiles set to INIT in plane `p` (R76 order 1, R147). -/
def Fabric.resetFlipFlops (f : Fabric) (ts : List Tile) (p : Nat) : Fabric :=
  { f with banks := (folioKeys ts p).foldl (fun b k => mapSet 0 b k (initBits f.planeMem (k * 4096))) f.banks }

/-! ## Page store slots -/

/-- Index of the memory layer above a logic layer: Mk serves Lk (R132). -/
def memIndex (layer : Nat) : Nat := layer / 2 - 1

/-- Address of a slot in the page store map: memory layer index × 2^31 + slot × 0x500_0000 (R133). -/
def slotBase (layer slot : Nat) : Nat := memIndex layer * 0x80000000 + slot * 0x5000000

/-- Address of folio i = 16t + g in its slot (R133). -/
def slotFolio (t : Tile) (g slot : Nat) : Nat := slotBase t.layer slot + 4096 * (16 * t.tile + g)

/-- Address of the state of gathering i in its slot (R133). -/
def slotState (t : Tile) (g slot : Nat) : Nat := slotBase t.layer slot + 0x4B00000 + 32 * (16 * t.tile + g)

/-- Address of the golden digest of folio i in its slot (R133). -/
def slotDigest (t : Tile) (g slot : Nat) : Nat := slotBase t.layer slot + 0x4BA1000 + 4 * (16 * t.tile + g)

/-- Address of the slot header entry of a tile (R135). -/
def slotEntry (t : Tile) (slot : Nat) : Nat := slotBase t.layer slot + 0x4BA0000 + 4 + 2 * t.tile

/-- A little-endian number of `n` bytes in the page store. -/
def Fabric.pageNat (f : Fabric) (a n : Nat) : Nat := ofBytes ((List.range n).map fun i => mapGet 0 f.pageStore (a + i))

/-- A little-endian number written to the page store. -/
def Fabric.putPage (f : Fabric) (a n v : Nat) : Fabric := { f with pageStore := writeBytesMem f.pageStore a (toBytes n v) }

/-- Whether slot `slot` holds a page of section `n` at a tile (R135, R141 NO_PAGE). -/
def Fabric.slotHas (f : Fabric) (t : Tile) (slot n : Nat) : Bool :=
  let e := f.pageNat (slotEntry t slot) 2
  bit e 15 && bits e 0 10 == n

/-- A slot header entry written: SECTION and VALID (R135). -/
def Fabric.setSlot (f : Fabric) (t : Tile) (slot n : Nat) (valid : Bool) : Fabric :=
  f.putPage (slotEntry t slot) 2 (if valid then bits n 0 10 + 0x8000 else 0)

/-- VALID cleared for tiles in all sixteen slots (R170, R222). -/
def Fabric.clearSlots (f : Fabric) (ts : List Tile) : Fabric :=
  ts.foldl (fun f t => (List.range 16).foldl (fun f slot => f.setSlot t slot 0 false) f) f

/-- One gathering staged from its slot into a plane: folio, state and golden digest (R137, R140). -/
def Fabric.stageFolio (f : Fabric) (t : Tile) (g slot p : Nat) : Fabric :=
  let k := folioKey t g p
  { f with
    planeMem := mapCopy 0 f.planeMem (k * 4096) f.pageStore (slotFolio t g slot) 4096
    banks := mapSet 0 f.banks k (BitVec.ofNat 256 (f.pageNat (slotState t g slot) 32))
    golden := mapSet zeroDigest f.golden k (f.pageNat (slotDigest t g slot) 4) }

/-- One gathering evicted from a plane to its slot: the state, and the folio when it holds a cell in memory mode (R138). -/
def Fabric.evictFolio (f : Fabric) (t : Tile) (g slot p : Nat) : Fabric :=
  let k := folioKey t g p
  let f' := f.putPage (slotState t g slot) 32 (f.bank k).toNat
  if memModeOf f.planeMem (k * 4096) then
    { f' with pageStore := mapCopy 0 f'.pageStore (slotFolio t g slot) f.planeMem (k * 4096) 4096 }
  else f'

/-- Every gathering of tiles acted on in order. -/
def overFolios (f : Fabric) (ts : List Tile) (g : Fabric → Tile → Nat → Fabric) : Fabric :=
  ts.foldl (fun f t => (List.range 16).foldl (fun f i => g f t i) f) f

/-- Key of a page-store codeword's mark. -/
def pageMark (a : Nat) : Nat := 2 ^ 44 + a / 16

/-- Mark of any codeword of a page-store range that is uncorrectable or poison. -/
def markBad (h : Sparse Health) (a n : Nat) : Bool :=
  (mapRange h (pageMark a) (n / 16)).any fun e => e.2 == .uncorrectable || e.2 == .poison

/-! ## Tile vectors (R205) -/

/-- Byte j of a tile vector in a plane: cell c of gathering g supplies byte 128g + c from its bits [255:248] (R205). -/
def Fabric.tileByte (f : Fabric) (t : Tile) (p j : Nat) : Nat := f.folioByte (folioKey t (j / 128) p) (32 * (j % 128) + 31)

/-- Bits [lo + n - 1 : lo] of a tile vector, for lo a multiple of 8 (R205). -/
def Fabric.tileBits (f : Fabric) (t : Tile) (p lo n : Nat) : Nat :=
  bits (ofBytes ((List.range (n / 8 + 1)).map fun i => BitVec.ofNat 8 (f.tileByte t p (lo / 8 + i)))) 0 n

/-- Driver enables of the logical tracks at the boundary below (up = false) or above (up = true) a tile (R205). -/
def Fabric.enables (f : Fabric) (t : Tile) (p : Nat) (above : Bool) : Nat := f.tileBits t p (if above then 96 else 0) 96

/-- The nine bits of bridge group j of a tile: 0 to 5 up groups from below, 6 to 11 down groups from above (R109, R205). -/
def Fabric.group (f : Fabric) (t : Tile) (p j : Nat) : Nat := bits (f.tileBits t p 192 108) (9 * j) 9

/-- Boundary index of the boundary whose lower logic layer is `layer`: 2, 4, 6 give 0, 1, 2 (R107, R118). -/
def boundaryIndex (layer : Nat) : Nat := layer / 2 - 1

end Sys2Proof.Machine
end

