-- ==== Sys2Proof/Machine/SectBase.lean ====
section
/-! DEFINITION. Sections: nesting, what their states mean, hinges and stops (R163 to R169, R178 to R186). -/

namespace Sys2Proof.Machine

/-! ## Nesting -/

/-- The section of a number; a free number has state `none` (R164, R169). -/
def Stack.sect (s : Stack) (n : Nat) : Section := mapGet {} s.sections n

/-- A section replaced. -/
def Stack.setSect (s : Stack) (n : Nat) (x : Section) : Stack := { s with sections := mapSet {} s.sections n x }

/-- A section changed. -/
def Stack.modSect (s : Stack) (n : Nat) (f : Section → Section) : Stack := s.setSect n (f (s.sect n))

/-- Several sections changed. -/
def Stack.modSects (s : Stack) (l : List Nat) (f : Section → Section) : Stack := l.foldl (fun s n => s.modSect n f) s

/-- The SECT instance of a section's lowest layer (R153, R164). -/
def Section.home (x : Section) : Nat := x.layerLo / 2 - 1

/-- Whether a section exists and is homed in instance i (R153). -/
def Stack.homed (s : Stack) (i n : Nat) : Bool := (s.sect n).state != .none && (s.sect n).home == i

/-- The numbers of the sections that exist, rising. -/
def Stack.sectionNumbers (s : Stack) : List Nat := (s.sections.filter fun e => e.2.state != .none).map (·.1)

/-- The ancestor reached by `d` steps to the parent. -/
def Stack.climb (s : Stack) : Nat → Nat → Nat
  | 0, n => n
  | d + 1, n => if (s.sect n).root then n else s.climb d (s.sect n).parent

/-- The root of a section's nest (R165). -/
def Stack.rootOf (s : Stack) (n : Nat) : Nat := s.climb (s.sect n).depth n

/-- Whether `a` is `n` or an ancestor of `n` (R165). -/
def Stack.ancestorOrSelf (s : Stack) (a n : Nat) : Bool :=
  (List.range ((s.sect n).depth + 1)).any fun d => s.climb d n == a

/-- A section and its descendants (R167). -/
def Stack.family (s : Stack) (n : Nat) : List Nat := s.sectionNumbers.filter (s.ancestorOrSelf n)

/-- The sections of a nest, by its root (R165). -/
def Stack.nest (s : Stack) (r : Nat) : List Nat := s.sectionNumbers.filter fun m => s.rootOf m == r

/-- The innermost existing section that holds a tile; none for an unassigned tile (R165). -/
def Stack.ownerOf (s : Stack) (t : Tile) : Option Nat :=
  s.sectionNumbers.foldl (fun acc n =>
    if (s.sect n).holds t then
      match acc with
      | some m => if (s.sect m).depth ≤ (s.sect n).depth then some n else some m
      | Option.none => some n
    else acc) Option.none

/-- The state of the section that owns a tile; an unassigned tile behaves as an Empty section's tile (R165). -/
def Stack.tileState (s : Stack) (t : Tile) : SectState :=
  match s.ownerOf t with
  | some n => (s.sect n).state
  | Option.none => .empty

/-- Live plane of a nest's root (R130, R154, R166). -/
def Stack.livePlane (s : Stack) (n : Nat) : Nat := let r := s.rootOf n; s.get (SECT.PAGE_SEL_PLANE (s.sect r).home r)

/-- A plane of a nest. -/
def Stack.plane (s : Stack) (r p : Nat) : Plane := mapGet {} s.pages.planes (4 * r + p)

/-- A plane of a nest replaced. -/
def Stack.setPlane (s : Stack) (r p : Nat) (x : Plane) : Stack :=
  { s with pages := { s.pages with planes := mapSet {} s.pages.planes (4 * r + p) x } }

/-! ## The repair map (R126 to R128) -/

/-- Byte `i` of a tile boundary's repair entry: spares 0 to 5, then UNSPARED and DETOUR (R128). -/
def Stack.vbyte (s : Stack) (b t i : Nat) : Nat := mapGet (if i < 6 then 0x7F else 0) s.integ.vtracks ((b * 1200 + t) * 8 + i)

/-- A byte of a repair entry written. -/
def Stack.setVbyte (s : Stack) (b t i v : Nat) : Stack :=
  { s with integ := { s.integ with vtracks := mapSet (if i < 6 then 0x7F else 0) s.integ.vtracks ((b * 1200 + t) * 8 + i) v } }

/-- The vertical-track repair map written to the ledger (R126, R128). -/
def Stack.writeTrackMap (s : Stack) : Stack :=
  let n := s.build.layers - 1
  let words := (List.range n).flatMap fun b => (List.range 1200).flatMap fun t =>
    [s.vbyte b t 0 + s.vbyte b t 1 * 2 ^ 8 + s.vbyte b t 2 * 2 ^ 16 + s.vbyte b t 3 * 2 ^ 24,
     s.vbyte b t 4 + s.vbyte b t 5 * 2 ^ 8 + s.vbyte b t 6 * 2 ^ 16]
  s.deviceRecord 0x0022 (putWords [] 0 ((1 + n * 65536) :: words))

/-- Whether a tile boundary is exhausted: a failed logical track has no spare (R127). -/
def Stack.exhausted (s : Stack) (b t : Nat) : Bool := s.vbyte b t 6 % 128 != 0

/-- Whether a section uses a detour variant for a tile boundary: the boundary is exhausted and the variant avoids it (R128). -/
def Stack.detourUsed (s : Stack) (b t : Nat) : Bool :=
  s.exhausted b t && s.sections.any fun e => e.2.detour.isSome && e.2.avoids.contains (2 * (b + 1), t)

/-- DETOUR of every tile boundary follows the sections; the map is written when one changes (R128). -/
def Stack.syncDetours (s : Stack) : Stack :=
  let l := (List.range (s.build.layers - 1)).flatMap fun b => (List.range 1200).filterMap fun t =>
    if decide (128 ≤ s.vbyte b t 6) != s.detourUsed b t then some (b, t) else Option.none
  if l.isEmpty then s
  else (l.foldl (fun s e => s.setVbyte e.1 e.2 6 (s.vbyte e.1 e.2 6 % 128 + 128 * b2n (s.detourUsed e.1 e.2))) s).writeTrackMap

/-! ## What the states mean (R169) -/

/-- The code of a state (R169). -/
def SectState.code : SectState → Nat
  | .none => 0 | .empty => 1 | .loading => 2 | .torn => 3 | .asleep => 4 | .live => 5 | .rebinding => 6 | .capturing => 7
  | .testing => 8 | .held => 9

/-- States in which a turn may change PAGE_SEL or RUN (R169). -/
def SectState.turnable : SectState → Bool
  | .asleep | .live | .held => true
  | _ => false

/-- States that serve: hinges transparent, stops served, clocks open (R169). -/
def SectState.serving : SectState → Bool
  | .live | .capturing => true
  | _ => false

/-- Whether a section's border hinges hold: by its state, and from step 1 of a sleep entry (R38, R169, R178). -/
def Section.hingesHold (x : Section) : Bool :=
  match x.seq with
  | .sleep _ => true
  | _ => !x.state.serving

/-- Whether a section's stops are in bypass: by its state, from step 1 of a sleep entry, until step 3 of a wake (R38, R39, R185). -/
def Section.bypass (x : Section) : Bool :=
  match x.seq with
  | .sleep _ => true
  | .wake k => decide (k < 3)
  | .idle => !x.state.serving

/-- Whether a hinge between two sides is transparent: one section, or both Live or Capturing (R178). -/
def Stack.hingeOpen (s : Stack) (a b : Tile) : Bool :=
  match s.ownerOf a, s.ownerOf b with
  | some m, some n => m == n || (!(s.sect m).hingesHold && !(s.sect n).hingesHold)
  | _, _ => false

/-- What a hinge presents while it holds: mode 0b00 and 0b11 give 0, 0b01 gives 1, 0b10 the value at the hold edge (R179). -/
def hingeValue (mode last : Nat) : Nat :=
  match mode with
  | 1 => 1
  | 2 => last
  | _ => 0

/-- Absolute user domains of the turn domain field, one for each layer part, lowest first (R74, R145, R195). -/
def Section.turnDoms (x : Section) : List Nat :=
  (List.range x.layerCnt).map fun j => 16 + 8 * (x.layerLo / 2 - 1 + j) + bits x.turnDom (3 * j) 3

/-! ## Stops (R88, R185, R333) -/

/-- Tile row of the fabric stop s of a layer (R88). -/
def stopRow (stop : Nat) : Nat :=
  match stop % 4 with
  | 1 => if stop / 4 % 2 = 0 then 5 else 25
  | 2 => 15
  | _ => if stop / 4 % 2 = 0 then 25 else 5

/-- Whether the three waves of a BIST hold a layer's stop in bypass: wave 2 tests the engines behind stops 4f, wave 3 the layers' routers; a
class that TEST.CFG.SKIP names is not tested (R584, R586, R588). The base ring goes on, since a test is commanded over it (log 76). -/
def Stack.stopTested (s : Stack) (stop : Nat) : Bool :=
  let class' := fun c => !bit (s.get TEST.CFG_SKIP) c
  decide (s.bist.run = 1 ∨ s.bist.run = 2) &&
    ((s.get TEST.STATUS_WAVE == 2 && stop % 4 == 0 && class' 2) || (s.get TEST.STATUS_WAVE == 3 && class' 1))

/-- Whether a stop of a hub index is in bypass: it is under test, or it is a fabric stop whose tile's section is in bypass or whose tile is
unassigned (R165, R185, R186, R586). Stops 4f serve engines, which are in no section. -/
def Stack.stopBypassed (s : Stack) (hub stop : Nat) : Bool :=
  hub != 0 && (s.stopTested stop || stop % 4 != 0 &&
    (match s.ownerOf ⟨2 * hub, tileIndex (stopRow stop) (5 * (stop / 4) + 2)⟩ with
     | some n => (s.sect n).bypass
     | Option.none => true))

/-- The guaranteed queues of stops in bypass are emptied, and their flits counted in RING.DISCARD.BYPASS (R333). -/
def Stack.drainBypass (s : Stack) : Stack :=
  let out := s.rings.queues.filter fun e => s.stopBypassed (e.1 / 1024) (e.1 / 32 % 32)
  if out.isEmpty then s
  else
    let n := out.foldl (fun acc e => acc + e.2.length) 0
    ((({ s with rings := { s.rings with queues := s.rings.queues.filter fun e => !s.stopBypassed (e.1 / 1024) (e.1 / 32 % 32) } } : Stack).bump
      RING.DISCARD_BYPASS n).raise RING.INT_DISCARD)

end Sys2Proof.Machine
end

