-- ==== Sys2Proof/Machine/PadBase.lean ====
section
/-! DEFINITION. Rasters' positions, and what the pads of the pins carry (R499, R500, R553 to R565). -/

namespace Sys2Proof.Machine

/-! ## Rasters (R499) -/

/-- Whether a raster is running (R500). -/
def Stack.rasterRunning (s : Stack) (n : Nat) : Bool := s.flag (CLK.RAS_CTL_ENABLE n)

/-- Whether a position exists in a raster's format (R242, R499). -/
def Stack.positionExists (s : Stack) (n line sample : Nat) : Bool :=
  decide (1 ≤ line) && decide (line ≤ s.get (CLK.RAS_GEOM_LINES n)) && decide (sample < s.get (CLK.RAS_GEOM_SAMPLES n))

/-- Frame index f in progress at a device time, as an integer (R499). -/
def Stack.frameAt (s : Stack) (n t : Nat) : Int :=
  (((t : Int) - (s.get (CLK.RAS_OFS_NS n) : Int)) * (s.get (CLK.RAS_RATE_NUM n) : Int)).fdiv
    (1000000000 * (s.get (CLK.RAS_RATE_DEN n) : Int))

/-- Device time at which a position of frame f begins, rounded up to the next nanosecond (R499). -/
def Stack.positionTime (s : Stack) (n : Nat) (f : Int) (line sample : Nat) : Nat :=
  let l := s.get (CLK.RAS_GEOM_LINES n); let m := s.get (CLK.RAS_GEOM_SAMPLES n)
  let num : Int := 1000000000 * (s.get (CLK.RAS_RATE_DEN n) : Int) * (f * (l * m : Nat) + ((line - 1) * m + sample : Nat))
  let den : Int := ((s.get (CLK.RAS_RATE_NUM n) * l * m : Nat) : Int)
  ((s.get (CLK.RAS_OFS_NS n) : Int) - (-num).fdiv den).toNat

/-- The first time at or after `t` at which the raster reaches a position (R242). -/
def Stack.nextOccurrence (s : Stack) (n line sample t : Nat) : Nat :=
  let f := s.frameAt n t
  let here := s.positionTime n f line sample
  if t ≤ here then here else s.positionTime n (f + 1) line sample

/-- Line and sample in progress on a raster (R499, R503); both 0 while it is stopped (R500). -/
def Stack.rasterPos (s : Stack) (n : Nat) : Nat × Nat :=
  if s.rasterRunning n then
    let l := s.get (CLK.RAS_GEOM_LINES n); let m := s.get (CLK.RAS_GEOM_SAMPLES n)
    let x : Int := ((s.time : Int) - (s.get (CLK.RAS_OFS_NS n) : Int)) * (s.get (CLK.RAS_RATE_NUM n) : Int) * (l * m : Nat)
    let q := (x.fdiv (1000000000 * (s.get (CLK.RAS_RATE_DEN n) : Int)) % ((l * m : Nat) : Int)).toNat
    (q / m + 1, q % m)
  else (0, 0)

/-- Frame count of a raster now, modulo 2^32; 0 while it is stopped (R499, R500). -/
def Stack.rasterFrame (s : Stack) (n : Nat) : Nat := if s.rasterRunning n then (s.frameAt n s.time % (2 ^ 32 : Int)).toNat else 0

/-! ## Pads (R553, R555, R556, R564) -/

/-- Pins of a stack's PINS block (R553, R562). -/
def Build.pins (b : Build) : Nat := if b = .octavo then 64 else 96

/-- Banks of pins of a stack (R553). -/
def Build.pinBanks (b : Build) : Nat := b.pins / 16

/-- The tile of the pin port of pin n, and its position in it (R556). -/
def pinPort (n : Nat) : Tile × Nat := (⟨2, tileIndex 29 (6 * (n / 16) + n % 16 / 4)⟩, n % 4)

/-- The pin whose port stands in position `j` of a tile; none where no port stands (R556). -/
def Build.pinOf (b : Build) (t : Tile) (j : Nat) : Option Nat :=
  let c := t.tile % 40
  let n := 16 * (c / 6) + 4 * (c % 6) + j
  if t.layer = 2 ∧ t.tile / 40 = 29 ∧ c % 6 < 4 ∧ j < 4 ∧ n < b.pins then some n else Option.none

/-- Whether a pin port is connected to its tile: the tile is assigned, and its section's hinges do not hold. Where they hold, the port
presents the hold value 0, since no group of the layer's north edge has a mode of its own (R178, R184, R556). -/
def Stack.portJoined (s : Stack) (t : Tile) : Bool := (s.ownerOf t).any fun n => !(s.sect n).hingesHold

/-- What a live function drives on the pad of virtual pin n, given the values of the design's wires: none where it does not drive; `free` for
the outputs whose instants within a transfer the model does not follow, which are SPI, UART and the timecode generator (R555, R556, R559). -/
def Stack.pinDrive (s : Stack) (v : Net → Bool) (n : Nat) (free : Bool) : Option Bool :=
  let out := bit (s.get (PINS.GPIO_OUT_OUT (n / 32))) (n % 32)
  let r := n % 4
  let port := pinPort n
  let fab := fun b => v (.fab port.1.layer port.1.tile port.2 b)
  match s.get (PINS.PIN_FUNC n) with
  | 0 => if !s.flag (PINS.PIN_DIR n) || (s.flag (PINS.PIN_OD n) && out) then Option.none else some out
  | 1 => if !fab 1 || (s.flag (PINS.PIN_OD n) && fab 0) then Option.none else some (fab 0)
  | 2 => if n % 16 % 8 = 2 then Option.none else some free
  | 4 => if n % 2 = 0 then some free else Option.none
  | 6 => if out then some false else Option.none
  | 8 => some free
  | 10 =>
    let p := s.rasterPos r
    some (decide (1 ≤ p.1 ∧ p.1 ≤ Nat.max 1 (s.get (PINS.FP_CFG_WIDTH r))) != s.flag (PINS.FP_CFG_INVERT r))
  | 12 => some (decide (s.time % 1000000000 < 100000000))
  | 13 => some (decide (s.time * 96000 / 1000000000 % 2 = 0))
  | _ => Option.none

/-- Whether an instruction of the test access port drives the pins from the boundary register: EXTEST, CLAMP and the two of IEEE 1149.6
(R564, R591). -/
def drivesPins (ir : Nat) : Bool := [0x00, 0x03, 0x05, 0x06].contains ir

/-- The level of a pad of a stack, given its boundary cell, its safe-state code, what the board brings and what its live function drives; the
level is free in a bank whose supply is outside its limits (R49, R559, R564, R565, R591). -/
def Stack.padValue (s : Stack) (ir cell safe n : Nat) (board : Bool) (drive : Option Bool) : Bool :=
  if s.sys.suppliesOut.contains (6 + n / 16) then Config.hardValue s.freeCount (.hard 2 1200 n)
  else if s.mode = .workshop ∧ (drivesPins ir && bit cell 1) = true then bit cell 0
  else if s.mode = .workshop ∧ s.sys.outputs ≠ .safe then board
  else match s.sys.outputs with
    | .float => board
    | .safe => if safe = 1 then false else if safe = 2 then true else board
    | .live => drive.getD board

/-- A word of the record in force. -/
def Stack.cfg (s : Stack) (w : Nat) : Nat := mapGet 0 s.sys.record w

/-- Two bits of PIN_SAFE in a stack's device configuration record (R565). -/
def Stack.pinSafe (s : Stack) (m : Nat) : Nat := bits (s.cfg (16 + m / 16)) (2 * (m % 16)) 2

/-- FAB_n.I: the level of a pin's pad, whatever its function (R556). In the Atlas the pad is the one that the crossbar gives the virtual pin,
and 0 is read without one (R562). -/
def Stack.padInput (s : Stack) (v : Net → Bool) (n : Nat) : Bool :=
  let board := mapGet false s.pins.levels n
  let drive := s.pinDrive v n (Config.hardValue s.freeCount (.hard 2 1201 n))
  if s.build = .atlas then
    match mapGet 0 s.pins.pads n with
    | 0 => false
    | e + 1 => s.padValue 0 (e / 1024) (bits e 8 2) (e % 256) board drive
  else s.padValue s.jtag.ir (mapGet 0 s.jtag.boundary n) (s.pinSafe n) n board drive

end Sys2Proof.Machine
end

