-- ==== Sys2Proof/Machine/Wires.lean ====
section
/-! DEFINITION. What a configured design computes: wires, carry chains, hinge hold values, bridge registers and clock edges (R71 to R83, R104
to R119, R179 to R183). What each routing bit selects is fixed by the fabric database (R204): `Config.driver` stands for it (log 20). -/

namespace Sys2Proof.Machine

/-! ## Configuration in force -/

/-- Whether a section has a live plane: it is not Empty, Loading or Torn (R613). -/
def Section.configured (x : Section) : Bool :=
  match x.state with
  | .none | .empty | .loading | .torn => false
  | _ => true

/-- The plane in force at a tile. -/
def Stack.planeAt (s : Stack) (t : Tile) : Nat := ((s.ownerOf t).map s.livePlane).getD 0

/-- Byte `b` of gathering `g` of a tile's configuration in plane `p`. -/
def Stack.configIn (s : Stack) (t : Tile) (p g b : Nat) : Byte := mapGet 0 s.fabric.planeMem (folioKey t g p * 4096 + b)

/-- Byte `b` of gathering `g` of a tile's configuration in force. -/
def Stack.configAt (s : Stack) (t : Tile) (g b : Nat) : Byte := s.configIn t (s.planeAt t) g b

/-- The 256 configuration bits of a cell as a number (R204). -/
def Stack.cellBits (s : Stack) (t : Tile) (g c : Nat) : Nat := ofBytes ((List.range 32).map fun i => s.configAt t g (32 * c + i))

/-- The state bank in force of a gathering (R134). -/
def Stack.bankAt (s : Stack) (t : Tile) (g : Nat) : BitVec 256 := s.fabric.bank (folioKey t g (s.planeAt t))

/-- A configuration that takes effect at a tile (R170, R613). -/
def Stack.configured (s : Stack) (t : Tile) : Bool := (s.ownerOf t).any fun n => (s.sect n).configured

/-! ## The grid of gatherings (R104) -/

/-- The tile of a gathering-grid position. -/
def gridTile (layer col row : Nat) : Tile := ⟨layer, tileIndex (row / 16) col⟩

/-- The position `k` gatherings on in a direction; none past the layer's edge (R104). -/
def gridStep (dir k col row : Nat) : Option (Nat × Nat) :=
  match dir with
  | 0 => if row + k < 480 then some (col, row + k) else Option.none
  | 1 => if k ≤ row then some (col, row - k) else Option.none
  | 2 => if col + k < 40 then some (col + k, row) else Option.none
  | _ => if k ≤ col then some (col - k, row) else Option.none

/-- The number of tracks of a length and direction that start at a gathering (R104). -/
def trackCount (len : Nat) : Nat :=
  match len with
  | 1 => 24 | 2 => 16 | 4 => 12 | 16 => 8
  | _ => 0

/-- Whether a wire reaches the cluster routing of a gathering: a track's tap there, a long line that passes it, a carry-out, an arrival or a
leaf port of its tile, or a hard block (R82, R86, R104). -/
def netReaches (n : Net) (layer col row : Nat) : Bool :=
  let tile := (gridTile layer col row).tile; let g := row % 16
  match n with
  | .cell l t h c o => l == layer && t == tile && h == g && decide (c < 128) && decide (o < 2)
  | .tap l d len i c r k =>
    l == layer && decide (1 ≤ k) && decide (k ≤ len) && decide (i < trackCount len) && gridStep d k c r == some (col, row)
  | .longEW l r i => l == layer && r == row && decide (i < 8)
  | .longNS l c i => l == layer && c == col && decide (i < 32)
  | .carryTop l t h q => l == layer && t == tile && h == g && decide (q < 16)
  | .arrival l t i => l == layer && t == tile && decide (i < 96)
  | .leaf l t m p b => l == layer && t == tile && m == g / 4 && decide (p < 2) && decide (b < 131)
  | .hard l t _ => l == layer && t == tile
  | _ => false

/-- Whether the routing of R104 lets multiplexer `dst` take wire `src`. -/
def netMayFeed (src dst : Net) : Bool :=
  match dst with
  | .load l t g q j =>
    decide (j < 70) && (match src with
      | .cell l' t' g' c o => l == l' && t == t' && g == g' && c / 8 == q && decide (o < 2)
      | .cluster l' t' g' q' i => l == l' && t == t' && g == g' && q == q' && decide (i < 32)
      | _ => false)
  | .carryEntry l t g q =>
    (match src with
      | .cell l' t' g' c o => l == l' && t == t' && g == g' && c / 8 == q && decide (o < 2)
      | .cluster l' t' g' q' i => l == l' && t == t' && g == g' && q == q' && decide (i < 32)
      | _ => false)
  | .cluster l t g q i => decide (q < 16) && decide (i < 32) && netReaches src l (t % 40) (t / 40 * 16 + g)
  | .track l _ len i col row =>
    decide (i < trackCount len) && netReaches src l col row && (len ≤ 2 || (match src with
      | .arrival .. | .leaf .. | .hard .. | .carryTop .. => false
      | _ => true))
  | .drive l _ _ col row => netReaches src l col row
  | .fab l t j b => decide (j < 4) && decide (b < 2) && (List.range 16).any fun g => netReaches src l (t % 40) (t / 40 * 16 + g)
  | .entry l t id => decide (id < 96) && (match src with
      | .cell l' t' _ c o => l == l' && t == t' && decide (c < 128) && decide (o < 2)
      | _ => false)
  | _ => false

/-- The tile whose configuration holds a multiplexer. -/
def netHome : Net → Option Tile
  | .load l t .. | .carryEntry l t .. | .cluster l t .. | .entry l t _ | .fab l t .. => some ⟨l, t⟩
  | .track l _ _ _ col row | .drive l _ _ col row => some (gridTile l col row)
  | _ => Option.none

/-- The input that a multiplexer selects in the configuration in force; none where it selects none, or one that the routing does not let it
take (R104, R105). -/
def Stack.driver (s : Stack) (n : Net) : Option Net :=
  match netHome n with
  | some t =>
    if s.configured t then
      match Config.driver n (s.configAt t) with
      | some m => if netMayFeed m n then some m else Option.none
      | Option.none => Option.none
    else Option.none
  | Option.none => Option.none

/-! ## Hinge hold values (R179, R180, R183, R184) -/

/-- Word and mode position of the hinge group of a wire that leaves a tile in a direction (R184): the tile whose word it is, and the group's
first word. -/
def hingeHome (dir : Nat) (from' toward : Tile) : Tile × Nat :=
  match dir with
  | 0 => (from', 16)
  | 1 => (toward, 24)
  | 2 => (from', 0)
  | _ => (toward, 8)

/-- The hinge mode of group `j` at a tile's first word (R184). -/
def Stack.hingeMode (s : Stack) (t : Tile) (word j : Nat) : Nat :=
  bits (mapGet 0 s.fabric.hinges ((t.layer / 2 - 1) * 65536 + 33 * t.tile + word + j / 16)) (2 * (j % 16)) 2

/-- Key of a Hold last wire: layer, tile and direction of its hinge (4 a vertical one), and its position (R180). -/
def hingeKey (t : Tile) (dir pos : Nat) : Nat := ((t.layer * 2048 + t.tile) * 5 + dir) * 1024 + pos

/-- The value that a hinge presents while it holds a wire from one tile to the next: its mode's, and 0 where the driving side is unassigned
(R179, R183). -/
def Stack.heldValue (s : Stack) (dir : Nat) (from' toward : Tile) (n : Net) : Bool :=
  match s.ownerOf from' with
  | Option.none => false
  | some m =>
    let h := hingeHome dir from' toward
    match (List.range 1024).find? fun pos => Config.hingeWire (s.sect m).image h.1.layer h.1.tile dir pos == some n with
    | Option.none => false
    | some pos => hingeValue (s.hingeMode h.1 h.2 (pos / 8)) (mapGet 0 s.fabric.latched (hingeKey h.1 dir pos)) == 1

/-- The source tile of a logical track that arrives at a tile: an up track comes from the layer below (R107). -/
def arrivalFrom (t : Tile) (id : Nat) : Tile := if id < 48 then ⟨t.layer - 2, t.tile⟩ else ⟨t.layer + 2, t.tile⟩

/-- What a vertical hinge presents while it holds a track: the mode of its bridge group (R178, R183, R184). -/
def Stack.heldArrival (s : Stack) (t : Tile) (id : Nat) : Bool :=
  match s.ownerOf (arrivalFrom t id) with
  | Option.none => false
  | some _ => hingeValue (s.hingeMode t 32 (id / 8)) (mapGet 0 s.fabric.latched (hingeKey t 4 id)) == 1

/-! ## Bridge registers (R108 to R114) -/

/-- Key of the bridge registers of a track that arrives at a tile. -/
def bridgeKey (t : Tile) (id : Nat) : Nat := (t.layer * 2048 + t.tile) * 128 + id

/-- The settings of bridge group `id / 8` at its destination tile: MODE, DCLK, SCLK, PASS in nine bits (R109). -/
def Stack.groupAt (s : Stack) (t : Tile) (id : Nat) : Nat := if s.configured t then s.fabric.group t (s.planeAt t) (id / 8) else 0

/-- Whether a tile stands in a logic layer of the build. -/
def Stack.tileExists (s : Stack) (t : Tile) : Bool := (s.build.logicIndex t.layer).isSome && decide (t.tile < 1200)

/-- The value in the last register of a track's destination end; 0 where the group's mode is off (R109, R111, R114). -/
def Stack.bridgeOut (s : Stack) (t : Tile) (id : Nat) : Bool :=
  match bits (s.groupAt t id) 0 2 with
  | 1 => bit (mapGet 0 s.fabric.bridge (bridgeKey t id)) 1
  | 2 => bit (mapGet 0 s.fabric.bridge (bridgeKey t id)) 2
  | _ => false

/-! ## Values of wires -/

/-- The look-up table's input value of a cell, given the values of wires (R71). -/
def Stack.cellIndex (s : Stack) (v : Net → Bool) (t : Tile) (g c : Nat) : Nat :=
  lutIndex ((List.range 6).foldl (fun a i => a + b2n (v (.load t.layer t.tile g (c / 8) (8 * (c % 8) + i))) * 2 ^ i) 0) (bits (s.cellBits t g c) 66 6)

/-- LW and LH of a cell, given the values of wires (R71). -/
def Stack.cellLut (s : Stack) (v : Net → Bool) (t : Tile) (g c : Nat) : Bool × Bool :=
  let w := s.cellBits t g c
  lutOut (bits w 0 64) (bits w 64 2) (s.cellIndex v t g c) (b2n (v (.carry t.layer t.tile g c)))

/-- The sum bits s1 and s0 of a cell's carry stage, given the values of wires (R80). -/
def Stack.cellSums (s : Stack) (v : Net → Bool) (t : Tile) (g c : Nat) : Bool × Bool :=
  lutOut (bits (s.cellBits t g c) 0 64) 2 (s.cellIndex v t g c) (b2n (v (.carry t.layer t.tile g c)))

/-- The carry-out of a cell, given the values of wires (R80). -/
def Stack.cellCarry (s : Stack) (v : Net → Bool) (t : Tile) (g c : Nat) : Bool :=
  let w := s.cellBits t g c
  carryOut (bits w 0 64) (bits w 64 2) (s.cellIndex v t g c) (b2n (v (.carry t.layer t.tile g c)))

/-- The quire below quire `q` of a gathering in its chain: the tile, gathering and quire; none at the layer's south edge (R81, R83). -/
def chainBelow (t : Tile) (g q : Nat) : Option (Tile × Nat × Nat) :=
  if q % 8 ≠ 0 then some (t, g, q - 1)
  else if g ≠ 0 then some (t, g - 1, q + 7)
  else if 40 ≤ t.tile then some (⟨t.layer, t.tile - 40⟩, 15, q + 7)
  else Option.none

/-- The carry into the lowest cell of a quire: the top of the quire below, 0 where the chain is cut at a section border or the layer's edge, a
constant, or a routed signal (R82, R83). -/
def Stack.carryInto (s : Stack) (v : Net → Bool) (t : Tile) (g q : Nat) : Bool :=
  match (Config.carrySelect (bits (s.cellBits t g (8 * q)) 96 4)).toNat with
  | 0 =>
    match chainBelow t g q with
    | some (u, h, r) => s.ownerOf u == s.ownerOf t && v (.carryTop u.layer u.tile h r)
    | Option.none => false
  | 1 => false
  | 2 => true
  | _ => v (.carryEntry t.layer t.tile g q)

/-- The gathering that drives a long line: the first along it that selects an input (R104, R105). -/
def Stack.lineDriver (s : Stack) (layer : Nat) (ew : Bool) (idx at_ : Nat) : Option Net :=
  ((List.range (if ew then 40 else 480)).map fun i =>
    if ew then Net.drive layer true idx i at_ else Net.drive layer false idx at_ i).findSome? s.driver

/-- The value of a wire, given the values of the wires it depends on (R71, R80 to R83, R104, R105, R109, R178 to R181). -/
def Stack.wireStep (s : Stack) (v : Net → Bool) (n : Net) : Bool :=
  let routed := fun m => match s.driver m with
    | some d => v d
    | Option.none => false
  match n with
  | .cell l t g c o =>
    let x : Tile := ⟨l, t⟩
    if !s.configured x then false
    else match (Config.outputSelect (bits (s.cellBits x g c) 100 4) o).toNat with
      | 0 => (s.cellLut v x g c).1
      | 1 => (s.cellLut v x g c).2
      | 2 => (s.bankAt x g).getLsbD (2 * c)
      | 3 => (s.bankAt x g).getLsbD (2 * c + 1)
      | 4 => (s.cellSums v x g c).2
      | _ => (s.cellSums v x g c).1
  | .carry l t g c => if c % 8 = 0 then s.carryInto v ⟨l, t⟩ g (c / 8) else s.cellCarry v ⟨l, t⟩ g (c - 1)
  | .carryTop l t g q => s.configured ⟨l, t⟩ && s.cellCarry v ⟨l, t⟩ g (8 * q + 7)
  | .tap l d len i col row k =>
    if k = 0 then v (.track l d len i col row)
    else match gridStep d (k - 1) col row, gridStep d k col row with
      | some a, some b =>
        let x := gridTile l a.1 a.2; let y := gridTile l b.1 b.2
        if x = y ∨ s.hingeOpen x y = true then v (.tap l d len i col row (k - 1)) else s.heldValue d x y (.track l d len i col row)
      | _, _ => false
  | .longEW l row i => (s.lineDriver l true i row).any v
  | .longNS l col i => (s.lineDriver l false i col).any v
  | .arrival l t id =>
    let x : Tile := ⟨l, t⟩
    if s.hingeOpen (arrivalFrom x id) x then s.bridgeOut x id else s.heldArrival x id
  | .leaf l t m p b =>
    let y := mapGet {} s.fabric.ports (((l * 2048 + t) * 4 + m) * 2 + p)
    (if y.outReg then y.out else y.data).getLsbD b
  | .hard l t j =>
    match s.build.pinOf ⟨l, t⟩ j with
    | some p => s.portJoined ⟨l, t⟩ && s.padInput v p
    | Option.none => Config.hardValue s.freeCount n
  | .fab l t .. => s.portJoined ⟨l, t⟩ && routed n
  | m => routed m

/-- The value of a wire, evaluated to a depth; a wire that needs more lies on a combinational loop, and its value is free (log 104). -/
def Stack.wire (s : Stack) : Nat → Net → Bool
  | 0, n => Config.loopValue s.freeCount n
  | f + 1, n => s.wireStep (s.wire f) n

/-- A depth that no wire without a loop exceeds: more than the multiplexers, cells and tracks of a build. -/
def wireDepth : Nat := 2 ^ 40

/-- The value of a wire of the design now. -/
def Stack.level (s : Stack) : Net → Bool := s.wire wireDepth

/-! ## Clocks and resets of a section -/

/-- The user domain of index `d` in a logic layer (R74). -/
def userDomain (layer d : Nat) : Nat := 16 + 8 * (layer / 2 - 1) + d % 8

/-- The user domain that clock line `k` of a quire selects (R74). -/
def Stack.quireDomain (s : Stack) (t : Tile) (p g q k : Nat) : Option Nat :=
  (Config.quireClock q k (s.configIn t p g)).map fun d => userDomain t.layer d.toNat

/-- Whether a section's clock gates are open (R38, R39, R169). -/
def Section.clocked (x : Section) : Bool :=
  match x.seq with
  | .sleep k => x.state.serving && decide (k < 2)
  | .wake k => decide (3 ≤ k)
  | .idle => x.state.serving

/-- Whether the gates of a tile's section are open. -/
def Stack.tileClocked (s : Stack) (t : Tile) : Bool := (s.ownerOf t).any fun n => (s.sect n).clocked

/-- Whether the reset of a section is asserted: RUN.RESET, a pulse, or the hold of Dawn until release set/reset (R60, R76, R77, R176). -/
def Stack.resetOf (s : Stack) (n : Nat) : Bool :=
  !s.sys.setReset || s.flag (SECT.RUN_RESET (s.sect n).home n) || (s.sect n).resetPulse

/-! ## A clock edge -/

/-- The next value of a flip-flop of a cell, A for `which` 0 and B for 1, at an edge of the domains of `edge` (R75, R76, R491). -/
def Stack.flipFlopNext (s : Stack) (v : Net → Bool) (edge : Nat → Bool) (reset : Bool) (t : Tile) (g c which : Nat) : Bool :=
  let w := s.cellBits t g c
  let f := FlipFlop.ofBits (bits w (72 + 12 * which) 12)
  let line := fun j => v (.load t.layer t.tile g (c / 8) j)
  let d := s.quireDomain t (s.planeAt t) g (c / 8) f.csel
  let lut := s.cellLut v t g c; let sum := s.cellSums v t g c
  f.next {
    reset := reset || d.any fun d => s.flag (CLK.DRST_RESET d)
    sr := (line 68, line 69)
    en := (line 66, line 67)
    edge := d.any edge
    src := (lut.1, lut.2, if which = 0 then sum.2 else sum.1, line (8 * (c % 8) + 6 + which)) } ((s.bankAt t g).getLsbD (2 * c + which))

/-- A gathering's flip-flops after an edge. -/
def Stack.gatheringNext (s : Stack) (v : Net → Bool) (edge : Nat → Bool) (reset : Bool) (t : Tile) (g : Nat) : BitVec 256 :=
  (List.range 256).foldl (fun acc i => if s.flipFlopNext v edge reset t g (i / 2) (i % 2) then acc ||| BitVec.twoPow 256 i else acc) 0

/-- The byte of a table that a cell in memory mode writes at an edge, as its address in plane `p` and its new value; none where the cell is in
another mode, has no edge of the clock that flip-flop A selects, or DB is 0 (R72). -/
def Stack.tableWrite (s : Stack) (v : Net → Bool) (edge : Nat → Bool) (t : Tile) (p g c : Nat) : Option (Nat × Byte) :=
  let w := s.cellBits t g c
  let line := fun j => v (.load t.layer t.tile g (c / 8) (8 * (c % 8) + j))
  if bits w 64 2 = 3 ∧ (s.quireDomain t (s.planeAt t) g (c / 8) (bits w 74 1)).any edge = true ∧ line 7 = true then
    let i := s.cellIndex v t g c; let a := folioKey t g p * 4096 + 32 * c + i / 8
    some (a, BitVec.ofNat 8 (setBit (mapGet 0 s.fabric.planeMem a).toNat (i % 8) (line 6)))
  else Option.none

/-- What a logical track carries towards a tile: its source end's driver where the source's page enables it, the lower end's where both ends
are enabled, and a free value where none is or the wire has failed. A group that passes through sends its arrival on, with every boundary
mesochronous (R108, R109, R111, R124, log 104). -/
def Stack.trackLevel (s : Stack) (v : Net → Bool) (t : Tile) (id : Nat) : Bool :=
  let u := arrivalFrom t id
  let lower := if id < 48 then u else t; let upper := if id < 48 then t else u
  let on := fun (x : Tile) above => s.configured x && bit (s.fabric.enables x (s.planeAt x) above) id
  let free := Config.floatValue s.freeCount t.layer t.tile id
  let value := fun (x : Tile) =>
    let g := s.groupAt x id
    if x = u ∧ bit g 8 = true then (if bits g 0 2 = 1 ∧ bits (s.groupAt t id) 0 2 = 1 then s.bridgeOut x id else free)
    else v (.entry x.layer x.tile id)
  if s.integ.badTracks.contains (bridgeKey t id) then free
  else if on lower true then value lower
  else if on upper false then value upper
  else free

/-- The bridge registers of an arriving track with those of a domain in reset cleared (R111, R114, R491): `v` are their values. -/
def Stack.bridgeHeld (s : Stack) (t : Tile) (id v : Nat) : Nat :=
  let g := s.groupAt t id
  let dst := s.flag (CLK.DRST_RESET (userDomain t.layer (bits g 2 3)))
  let src := s.flag (CLK.DRST_RESET (userDomain (arrivalFrom t id).layer (bits g 5 3)))
  match bits g 0 2 with
  | 1 => if dst then 0 else v
  | 2 => let v := if dst then b2n (bit v 0) else v
         if src then v - b2n (bit v 0) else v
  | _ => v

/-- The bridge registers of an arriving track after an edge of the domains of `edge` (R111, R114). -/
def Stack.bridgeNext (s : Stack) (v : Net → Bool) (edge : Nat → Bool) (t : Tile) (id : Nat) : Nat :=
  let g := s.groupAt t id; let u := arrivalFrom t id
  let old := mapGet 0 s.fabric.bridge (bridgeKey t id)
  let dst := s.tileClocked t && edge (userDomain t.layer (bits g 2 3))
  let pack := fun (a b c d : Bool) => b2n a + 2 * b2n b + 4 * b2n c + 8 * b2n d
  match bits g 0 2 with
  | 1 => if dst then pack (s.trackLevel v t id) (bit old 0) false false else old
  | 2 =>
    let src := if s.tileClocked u && edge (userDomain u.layer (bits g 5 3)) then s.trackLevel v t id else bit old 0
    if dst then
      let change := bit old 0 != bit old 1
      let takes := !change || bit old 3 || Config.syncTakes s.freeCount t.layer t.tile id
      pack src (if takes then bit old 0 else bit old 1) (bit old 1) (!takes)
    else pack src (bit old 1) (bit old 2) (bit old 3)
  | _ => 0

/-- The tiles whose innermost section is `n`. -/
def Stack.ownTiles (s : Stack) (n : Nat) : List Tile := (s.sect n).tiles.filter fun t => s.ownerOf t == some n

/-- The logical tracks that arrive at a tile of the build. -/
def Stack.arrivals (s : Stack) (t : Tile) : List Nat := (List.range 96).filter fun id => s.tileExists (arrivalFrom t id)

/-- The planes in which memory-mode writes of a nest are made: the live one, and the plane of a repair in progress (R230). -/
def Stack.tablePlanes (s : Stack) (n : Nat) : List Nat :=
  let r := s.rootOf n; let p := s.livePlane n
  p :: ((s.loader.repairs.filter fun q => q.1 == r && decide (q.2 < 4) && q.2 != p).map (·.2))

/-- The Hold last wires whose hinges are open at a tile's east and north edges and at its arrivals, with their values now (R180). -/
def Stack.latchTile (s : Stack) (v : Net → Bool) (m : Sparse Nat) (t : Tile) : Sparse Nat :=
  let row := t.tile / 40; let col := t.tile % 40
  let sides := (if col < 39 then [(2, t, (⟨t.layer, t.tile + 1⟩ : Tile)), (3, ⟨t.layer, t.tile + 1⟩, t)] else []) ++
    (if row < 29 then [(0, t, (⟨t.layer, t.tile + 40⟩ : Tile)), (1, ⟨t.layer, t.tile + 40⟩, t)] else [])
  let m := sides.foldl (fun m e =>
    if s.hingeOpen e.2.1 e.2.2 && s.ownerOf e.2.1 != s.ownerOf e.2.2 then
      let h := hingeHome e.1 e.2.1 e.2.2
      let img := ((s.ownerOf e.2.1).map fun n => (s.sect n).image).getD 0
      (List.range 128).foldl (fun m j =>
        if s.hingeMode h.1 h.2 j = 2 then
          (List.range 8).foldl (fun m i =>
            match Config.hingeWire img h.1.layer h.1.tile e.1 (8 * j + i) with
            | some n => mapSet 0 m (hingeKey h.1 e.1 (8 * j + i)) (b2n (v n))
            | Option.none => m) m
        else m) m
    else m) m
  (s.arrivals t).foldl (fun m id =>
    let u := arrivalFrom t id
    if s.hingeOpen u t && s.ownerOf u != s.ownerOf t && s.hingeMode t 32 (id / 8) == 2 then mapSet 0 m (hingeKey t 4 id) (b2n (s.bridgeOut t id)) else m) m

/-- Key of a leaf-memory port. -/
def portKey (t : Tile) (m port : Nat) : Nat := ((t.layer * 2048 + t.tile) * 4 + m) * 2 + port

/-- The output registers of leaf-memory ports at an edge of the domains of `edge` take the read data (R93). -/
def Stack.portsEdge (s : Stack) (edge : Nat → Bool) : Sparse LeafPort :=
  s.fabric.ports.foldl (fun m e =>
    let t : Tile := ⟨e.1 / 8 / 2048, e.1 / 8 % 2048⟩
    if s.tileClocked t && edge (userDomain t.layer e.2.domain) then mapSet {} m e.1 { e.2 with out := e.2.data } else m) s.fabric.ports

/-- Every design clock edge of the domains of `edge`: flip-flops, tables in memory mode, bridge registers and output registers take their next
values at once, each from the state before, and the Hold last wires are recorded after (R72, R76, R111, R114, R180). Sections whose gates are closed take
only their resets (R76). -/
def Stack.fabricEdge (s : Stack) (edge : Nat → Bool) : Stack :=
  let v := s.level
  let tiles := s.sectionNumbers.flatMap fun n => if (s.sect n).configured then (s.ownTiles n).map fun t => (n, t) else []
  let banks := tiles.foldl (fun b e =>
    let on := fun d => (s.sect e.1).clocked && edge d
    (List.range 16).foldl (fun b g => mapSet 0 b (folioKey e.2 g (s.planeAt e.2)) (s.gatheringNext v on (s.resetOf e.1) e.2 g)) b) s.fabric.banks
  let mem := tiles.foldl (fun m e =>
    if (s.sect e.1).clocked then
      (s.tablePlanes e.1).foldl (fun m p => (List.range 2048).foldl (fun m i =>
        match s.tableWrite v edge e.2 p (i / 128) (i % 128) with
        | some w => mapSet 0 m w.1 w.2
        | Option.none => m) m) m
    else m) s.fabric.planeMem
  let bridge := tiles.foldl (fun b e => (s.arrivals e.2).foldl (fun b id => mapSet 0 b (bridgeKey e.2 id) (s.bridgeHeld e.2 id (s.bridgeNext v edge e.2 id))) b) s.fabric.bridge
  let t : Stack := { s with fabric := { s.fabric with banks := banks, planeMem := mem, bridge := bridge, ports := s.portsEdge edge } }
  let w := t.level
  { t with fabric := { t.fabric with latched := tiles.foldl (fun m e => t.latchTile w m e.2) t.fabric.latched } }

/-! ## A turn's new plane: ports, bridges (R119, R146) -/

/-- The settings that plane `p` gives a leaf-memory port (R90, R93). -/
def Stack.portSettings (s : Stack) (t : Tile) (p m port : Nat) : Nat := (Config.leafPort m port (s.configIn t p)).toNat

/-- A leaf-memory port under plane `p`: its settings, and its read data 0 where they differ from those in force (R146). -/
def Stack.takePort (s : Stack) (p : Nat) (t : Tile) (m port : Nat) : Stack :=
  let k := portKey t m port; let y := mapGet {} s.fabric.ports k; let v := s.portSettings t p m port
  let z : LeafPort := { y with ratio := bits v 0 3, outReg := bit v 3, domain := bits v 4 3 }
  { s with fabric := { s.fabric with ports := mapSet {} s.fabric.ports k (if z = y then y else { z with data := 0, out := 0 }) } }

/-- The ports of some tiles under plane `p` (R146). -/
def Stack.takePorts (s : Stack) (p : Nat) (ts : List Tile) : Stack :=
  ts.foldl (fun s t => (List.range 8).foldl (fun s i => s.takePort p t (i / 2) (i % 2)) s) s

/-- The ports of a nest's tiles under its live plane, and the flip-flops at INIT of those of its sections whose reset is asserted (R76, R77, R146,
R147). -/
def Stack.takeNest (s : Stack) (r : Nat) : Stack :=
  let p := s.livePlane r
  (s.nest r).foldl (fun s n =>
    let s := s.takePorts p (s.ownTiles n)
    if s.resetOf n then { s with fabric := s.fabric.resetFlipFlops (s.ownTiles n) p } else s) s

/-- Whether a track that arrives at a tile is enabled at its source end, by the plane in force there (R119). -/
def Stack.trackEnabled (s : Stack) (t : Tile) (id : Nat) : Bool :=
  let u := arrivalFrom t id
  s.configured u && bit (s.fabric.enables u (s.planeAt u) (decide (id < 48))) id

/-- The bridge registers at some tiles after their plane has changed from that of `old`: kept where the group's settings are the same and the
track is enabled in both, else cleared (R119). -/
def Stack.takeBridges (s old : Stack) (ts : List Tile) : Stack :=
  { s with fabric := { s.fabric with
    bridge := ts.foldl (fun b t => (s.arrivals t).foldl (fun b id =>
      if old.groupAt t id = s.groupAt t id ∧ old.trackEnabled t id = true ∧ s.trackEnabled t id = true then b
      else mapSet 0 b (bridgeKey t id) 0) b) s.fabric.bridge } }

/-! ## User domains of a section (R613) -/

/-- The destination domains of the bridge groups that arrive at a tile, and the source domains of the asynchronous groups that leave it, in
the live planes (R109, R613). -/
def Stack.tileDomains (s : Stack) (t : Tile) (p : Nat) : List Nat :=
  let dst := (List.range 12).filterMap fun j =>
    let g := s.fabric.group t p j
    if bits g 0 2 = 1 ∨ bits g 0 2 = 2 then some (userDomain t.layer (bits g 2 3)) else Option.none
  let src := (List.range 12).filterMap fun j =>
    let u : Tile := ⟨if j < 6 then t.layer + 2 else t.layer - 2, t.tile⟩
    match s.ownerOf u with
    | some m =>
      let g := s.fabric.group u (s.livePlane m) j
      if bits g 0 2 = 2 ∧ (s.sect m).configured = true then some (userDomain t.layer (bits g 5 3)) else Option.none
    | Option.none => Option.none
  dst ++ src

/-- The domains that a tile's quires, leaf-memory ports and store ports select in plane `p` (R74, R93, R348, R613). -/
def Stack.clockDomains (s : Stack) (t : Tile) (p : Nat) : List Nat :=
  ((List.range 16).flatMap fun g => (List.range 32).filterMap fun i => s.quireDomain t p g (i / 2) (i % 2)) ++
  ((List.range 8).map fun i => userDomain t.layer (bits (s.portSettings t p (i / 2) (i % 2)) 4 3)) ++
  (Config.storePortDomains (s.configIn t p)).map fun d => userDomain t.layer d.toNat

/-- The user domains that a section uses with a plane live: its turn domains, which R145 counts among them (log 56), and those that the
plane's tiles select (R613). -/
def Stack.domainsAt (s : Stack) (n p : Nat) : List Nat :=
  let x := s.sect n
  (x.turnDoms ++ x.layers.flatMap fun k => (x.layerTiles k).flatMap fun t => s.clockDomains t p ++ s.tileDomains t p).eraseDups

/-- The user domains that a section uses: those of its live plane (R613). -/
def Stack.usedDomains (s : Stack) (n : Nat) : List Nat := s.domainsAt n (s.livePlane n)

/-- The domains of every section: none without a live plane (R613). Done after each change of planes or of what a section is. -/
def Stack.refreshDoms (s : Stack) : Stack :=
  s.sectionNumbers.foldl (fun t n => t.modSect n fun x => { x with doms := if x.configured then s.usedDomains n else [] }) s

end Sys2Proof.Machine
end

