-- ==== Sys2Proof/Machine/Sections.lean ====
section
/-! DEFINITION. Sections: states, commands, sleep and wake (R170 to R197, R37 to R39). -/

namespace Sys2Proof.Machine

/-! ## Faults of a section (R193) -/

/-- The section-level fault registers of the home instance; the mask holds the hold bit that the fault sets, if it sets one (R193,
R615). -/
def Stack.sectFault (s : Stack) (n mask : Nat) : Stack :=
  let i := (s.sect n).home
  let first := !(s.flag (SECT.FAULT_VALID i))
  let t := s.eventReg (SECT.FAULT_VALID i) (SECT.FAULT_LOST i) [(SECT.FAULT_SECTION i, n), (SECT.FAULT_CAUSE i, mask)]
  if first then t.raise (SECT.INT_FAULT i) else t

/-- Hold bits set on sections: Asleep and Live become Held at once, and a Held one's release ends; a Capturing or Testing section first
completes (R170, R172). -/
def Section.holdWith (bitNo : Nat) (x : Section) : Section :=
  let x := { x with hold := x.hold ||| 2 ^ bitNo }
  match x.state with
  | .asleep | .live | .held => { x with state := .held, seq := .idle }
  | _ => x

/-- The state that a Capturing or Testing section takes when its copy or re-initialisation completes (R150, R170). -/
def Section.after (back : SectState) (x : Section) : Section :=
  if x.hold = 0 then { x with state := back } else { x with state := .held }

/-! ## Sleep and wake (R38, R39) -/

/-- Sleep entry, step 1, of the Live ones among some sections (R38). -/
def Stack.sleepEntry (s : Stack) (l : List Nat) : Stack :=
  s.modSects l fun x => if x.state = .live then { x with seq := .sleep 1 } else x

/-- LIVE of a section written by a command: into both copies of its RUN, and with its RESET into both copies of every descendant's, whose
flip-flops take INIT where that asserts their reset (R76, R173). -/
def Stack.setRunLive (s : Stack) (n v : Nat) : Stack :=
  let x := s.sect n
  let reset := s.get (SECT.RUN_RESET x.home n)
  let t := (s.family n).foldl (fun t m =>
    let i := (t.sect m).home
    let t := t.putBoth (SECT.RUN_LIVE i m) v
    if m = n then t else t.putBoth (SECT.RUN_RESET i m) reset) s
  if reset = 1 then { t with fabric := t.fabric.resetFlipFlops x.tiles (t.livePlane n) } else t

/-- Wake, from its start, of the Asleep ones among some sections (R39). -/
def Stack.wakeEntry (s : Stack) (l : List Nat) : Stack :=
  s.modSects l fun x => if x.state = .asleep then { x with seq := .wake 0 } else x

/-- The BUSY bit of SECT.CMD_STATUS falls when the command of a section is complete (R191). -/
def Stack.cmdDone (s : Stack) (n : Nat) : Stack :=
  let x := s.sect n
  if x.cmdBusy then (s.setSect n { x with cmdBusy := false }).put (SECT.CMD_STATUS_BUSY x.home) 0 else s

/-- Hold bit `bitNo` set on those of some sections that can be held; the sleeps and wakes that this ends end their commands (R170, R172,
R191). -/
def Stack.holdSects (s : Stack) (bitNo : Nat) (l : List Nat) : Stack :=
  let l := l.filter fun n => [SectState.asleep, .live, .capturing, .testing, .held].contains (s.sect n).state
  let ended := l.filter fun n => (s.sect n).seq != .idle
  (ended.foldl Stack.cmdDone (s.modSects l (Section.holdWith bitNo))).drainBypass

/-- Sleep step 3: LCORE off, the section Asleep (R38). -/
def Stack.sleepDone (s : Stack) (n : Nat) : Stack :=
  (s.modSect n fun x => { x with state := .asleep, seq := .idle }).cmdDone n

/-- Wake step 4: hinges released, the section Live (R39). A Held section released to Live comes the same way (R170). -/
def Stack.wakeDone (s : Stack) (n : Nat) : Stack :=
  (s.modSect n fun x => { x with state := .live, seq := .idle }).cmdDone n

/-- Release of a Held section at a turn's application edge: with every hold bit clear it follows the live RUN.LIVE. A release to Live runs
the wake from step 2, and one to Asleep the sleep entry, whose steps 2 and 3 close the gates and switch LCORE off; the section is Held until the
last step. A release already running that way goes on (R170, R181). -/
def Stack.releaseSection (s : Stack) (n : Nat) : Stack :=
  let x := s.sect n
  if x.state = .held ∧ x.hold = 0 then
    match s.flag (SECT.RUN_LIVE x.home n), x.seq with
    | true, .wake _ => s
    | true, _ => s.setSect n { x with seq := .wake 1 }
    | false, .sleep _ => s
    | false, _ => s.setSect n { x with seq := .sleep 1 }
  else s

/-! ## Section commands (R177, R190, R191) -/

/-- Whether a turn is armed (R238). -/
def Stack.turnArmed (s : Stack) : Bool := s.flag TURN.STATUS_PENDING

/-- Whether the staged RUN of a section differs from its live copy (R177). -/
def Stack.runStagedDiffers (s : Stack) (n : Nat) : Bool :=
  let i := (s.sect n).home
  [SECT.RUN_LIVE i n, SECT.RUN_PLL_KEEP i n, SECT.RUN_RESET i n].any fun f => s.get f != s.get f.staged

/-- Whether the staged PAGE_SEL of a nest's root differs from its live copy (R177). -/
def Stack.selStagedDiffers (s : Stack) (n : Nat) : Bool :=
  let r := s.rootOf n
  let f := SECT.PAGE_SEL_PLANE (s.sect r).home r
  s.get f != s.get f.staged

/-- The result of a section command before it acts: 3 NO_SECTION, 1 STATE, 2 ARMED, 0 none (R177, R191). -/
def Stack.cmdRefusal (s : Stack) (i n : Nat) (permitted : Bool) : Nat :=
  if !s.homed i n then 3
  else if !permitted then 1
  else if s.turnArmed && (s.runStagedDiffers n || s.selStagedDiffers n) then 2
  else 0

/-- A command written to SECT.CMD of instance i: OP and SECTION are held; while BUSY it is ignored with OVERRUN; a refused command
changes nothing but RESULT; else RESULT is 0 and the effect follows (R177, R190, R191). -/
def Stack.sectCmd (s : Stack) (i n op : Nat) (permitted : Stack → Bool) (effect : Stack → Stack) : Stack :=
  if s.flag (SECT.CMD_STATUS_BUSY i) then s.raise (SECT.CMD_STATUS_OVERRUN i)
  else
    let t := (s.put (SECT.CMD_SECTION i) n).put (SECT.CMD_OP i) op
    let r := s.cmdRefusal i n (permitted s)
    let t := t.put (SECT.CMD_STATUS_RESULT i) r
    if r = 0 then effect t else t

/-- A command's effect that goes on: BUSY until its last step (R191). -/
def Stack.cmdStart (s : Stack) (i n : Nat) : Stack :=
  (s.modSect n fun x => { x with cmdBusy := true }).put (SECT.CMD_STATUS_BUSY i) 1

/-- Whether the section is in one of some states. -/
def Stack.stateIn (s : Stack) (n : Nat) (l : List SectState) : Bool := l.contains (s.sect n).state

/-- SLEEP: immediate sleep of a Live section and its Live descendants; LIVE cleared in both copies of RUN; a Capturing section
sleeps when its copy completes (R38, R173, R177). -/
def Stack.cmdSleep (i n : Nat) (s : Stack) : Stack :=
  s.sectCmd i n 1 (fun s => s.stateIn n [.live, .capturing] && (s.sect n).seq == .idle) fun s =>
    let fam := s.family n
    let s := (s.setRunLive n 0).cmdStart i n
    if (s.sect n).state = .capturing then s.modSect n fun x => { x with sleepPending := true }
    else (s.sleepEntry fam).drainBypass

/-- WAKE: immediate wake of an Asleep section and its Asleep descendants; LIVE set in both copies of RUN (R39, R173, R177). While
the sleep entry of the section has not finished, the request waits for its safe boundary (R40, R41). -/
def Stack.cmdWake (detour : Nat → Stack → Stack) (i n : Nat) (s : Stack) : Stack :=
  s.sectCmd i n 2 (fun s => s.stateIn n [.asleep] || (s.stateIn n [.live] && (s.sect n).seq != .idle)) fun s =>
    let fam := s.family n
    let s := (s.setRunLive n 1).cmdStart i n
    if (s.sect n).state = .live then { s with sys := { s.sys with reenables := s.sys.reenables ++ [.sectionSleep n] } }
    else fam.foldl (fun s m => detour m s) (s.wakeEntry fam)

/-- RESET_PULSE: the reset of the section and its descendants is asserted; their live flip-flops take INIT (R76, R147, R176). -/
def Stack.cmdResetPulse (i n : Nat) (s : Stack) : Stack :=
  s.sectCmd i n 3 (fun s => s.stateIn n [.live, .asleep, .held]) fun s =>
    let s := (s.modSects (s.family n) fun x => { x with resetPulse := true }).cmdStart i n
    { s with fabric := s.fabric.resetFlipFlops (s.sect n).tiles (s.livePlane n) }

/-- The reset pulse ends (R176). -/
def Stack.resetPulseEnd (n : Nat) (s : Stack) : Stack :=
  if (s.sect n).resetPulse then (s.modSects (s.family n) fun x => { x with resetPulse := false }).cmdDone n else s

/-- HOLD: the section and its descendants Held with FIRMWARE set; BUSY until a Capturing or Testing section has completed and is Held (R172,
R177, R191). -/
def Stack.cmdHold (i n : Nat) (s : Stack) : Stack :=
  s.sectCmd i n 4 (fun s => s.stateIn n [.asleep, .live, .capturing, .testing]) fun s =>
    let t := s.holdSects 4 (s.family n)
    if s.stateIn n [.capturing, .testing] then t.cmdStart i n else t

/-- CLEAR_HOLD: FIRMWARE cleared; the section is released at the next turn (R172, R177). -/
def Stack.cmdClearHold (i n : Nat) (s : Stack) : Stack :=
  s.sectCmd i n 5 (fun s => s.stateIn n [.held]) fun s =>
    s.modSects (s.family n) fun x => { x with hold := setBit x.hold 4 false }

/-- A section discarded: its tiles' slots lose VALID, and it and its descendants become Empty; a root's planes become Free (R170, R177). -/
def Stack.discard (s : Stack) (n : Nat) : Stack :=
  let x := s.sect n
  let s := if x.root then [0, 1, 2, 3].foldl (fun s p => s.setPlane n p {}) s else s
  let s := { s with fabric := s.fabric.clearSlots x.tiles }
  ((s.modSects (s.family n) fun x => { x with state := .empty, seq := .idle, detour := Option.none, avoids := [] }).syncDetours).refreshDoms

/-- DISCARD: the section and its descendants Empty; for a root every plane of the nest Free; VALID cleared for the tiles in every
slot (R170). A descendant in a state from which the table lists no such move refuses it. -/
def Stack.cmdDiscard (i n : Nat) (s : Stack) : Stack :=
  s.sectCmd i n 7 (fun s => s.stateIn n [.asleep, .held, .torn] &&
      (s.family n).all fun m => s.stateIn m [.asleep, .held, .torn, .empty]) fun s => s.discard n

/-- REMOVE: an Empty section whose descendants are all Empty ceases to exist with them (R170, R177). -/
def Stack.cmdRemove (i n : Nat) (s : Stack) : Stack :=
  s.sectCmd i n 8 (fun s => (s.family n).all fun m => s.stateIn m [.empty]) fun s =>
    ((s.family n).foldl (fun s m => s.setSect m {}) s).refreshDoms

/-- Codes 0x0 and 0x9 to 0xF of SECT.CMD do nothing but hold their fields (R177). -/
def Stack.cmdNone (i n op : Nat) (s : Stack) : Stack := s.sectCmd i n op (fun _ => true) id

/-- SECT_SLEEP (R177): The SLEEP command puts a Live section to sleep at once and clears LIVE in both copies of RUN. -/
def execSectSleep (k : Side) (i n : Nat) (s : State) : Host.Outcome State Fault Refusal := nextStack s k (Stack.cmdSleep i n)

/-- RESET_PULSE (R176): The RESET_PULSE command asserts the section's reset for four slowest-domain cycles. -/
def execResetPulse (k : Side) (i n : Nat) (s : State) : Host.Outcome State Fault Refusal := nextStack s k (Stack.cmdResetPulse i n)

/-- RESET_PULSE_END (R176): The reset pulse period ends, and the section's reset is released. -/
def execResetPulseEnd (k : Side) (n : Nat) (s : State) : Host.Outcome State Fault Refusal := nextStack s k (Stack.resetPulseEnd n)

/-- HOLD (R177): The HOLD command makes the section Held with the FIRMWARE bit set. -/
def execHold (k : Side) (i n : Nat) (s : State) : Host.Outcome State Fault Refusal := nextStack s k (Stack.cmdHold i n)

/-- CLEAR_HOLD (R177): The CLEAR_HOLD command clears the FIRMWARE bit, so the section may be released at the next turn. -/
def execClearHold (k : Side) (i n : Nat) (s : State) : Host.Outcome State Fault Refusal := nextStack s k (Stack.cmdClearHold i n)

/-- DISCARD (R170): The DISCARD command makes an Asleep, Held or Torn section and its descendants Empty. -/
def execDiscard (k : Side) (i n : Nat) (s : State) : Host.Outcome State Fault Refusal := nextStack s k (Stack.cmdDiscard i n)

/-- REMOVE (R177): The REMOVE command ends an Empty section and its descendants and frees their numbers. -/
def execRemove (k : Side) (i n : Nat) (s : State) : Host.Outcome State Fault Refusal := nextStack s k (Stack.cmdRemove i n)

/-- SECT_NONE (R177): A SECT.CMD of code 0x0, or of 0x9 to 0xF, does nothing. -/
def execSectNone (k : Side) (i n op : Nat) (s : State) : Host.Outcome State Fault Refusal := nextStack s k (Stack.cmdNone i n op)

/-! ## Hinge table (R184, R194) -/

/-- The bits of a hinge-table word that hold groups: none on the layer's east and north edges, no up groups in the lowest layer and no down
groups in the highest, whose words read 0 (R184). -/
def Stack.hingeWordMask (s : Stack) (i a : Nat) : Nat :=
  let t := a / 33
  match a % 33 / 8 with
  | 0 | 1 => if t % 40 = 39 then 0 else 2 ^ 32 - 1
  | 2 | 3 => if 1160 ≤ t then 0 else 2 ^ 32 - 1
  | _ => (if i = 0 then 0 else 0xFFF) + (if i + 1 < s.build.layers then 0xFFF000 else 0)

/-- A read of SECT.HINGE_DATA: word ADDR of the layer's table (0 beyond 39,599), and ADDR advances with AUTOINC (R194). -/
def Stack.hingeRead (i : Nat) (s : Stack) : Stack :=
  let a := s.get (SECT.HINGE_ADDR_ADDR i)
  let v := if a < 39600 then mapGet 0 s.fabric.hinges (i * 65536 + a) &&& s.hingeWordMask i a else 0
  let s := s.put (SECT.HINGE_DATA_DATA i) v
  if s.flag (SECT.HINGE_ADDR_AUTOINC i) then s.put (SECT.HINGE_ADDR_ADDR i) (a + 1) else s

/-- HINGE_DATA_READ (R194): A read of SECT.HINGE_DATA returns a hinge-table word and advances ADDR when AUTOINC is set. -/
def execHingeDataRead (k : Side) (i : Nat) (s : State) : Host.Outcome State Fault Refusal := nextStack s k (Stack.hingeRead i)

end Sys2Proof.Machine
end

