-- ==== Sys2Proof/Machine/ClockBase.lean ====
section
/-! DEFINITION. Clock sources, user PLLs, domain selections and raster positions (R484 to R490, R499). -/

namespace Sys2Proof.Machine

/-- Whether a clock source is running: its MON_RUN bit (R490, R503). -/
def Stack.sourceRunning (s : Stack) (n : Nat) : Bool := bit (s.get (CLK.MON_RUN_RUN (n / 32))) (n % 32)

/-- A source's MON_RUN bit written. -/
def Stack.setRunning (s : Stack) (n : Nat) (b : Bool) : Stack :=
  s.put (CLK.MON_RUN_RUN (n / 32)) (setBit (s.get (CLK.MON_RUN_RUN (n / 32))) (n % 32) b)

/-- A source's MON_DEAD bit set (R490). -/
def Stack.setDead (s : Stack) (n : Nat) : Stack :=
  s.put (CLK.MON_DEAD_DEAD (n / 32)) (setBit (s.get (CLK.MON_DEAD_DEAD (n / 32))) (n % 32) true)

/-- The multiplier of a user PLL as numerator and denominator: INT + NUM ÷ DEN (R484). -/
def pllRatio (int num den : Nat) : Nat × Nat := (int * den + num, den)

/-- Whether a user PLL's configuration can lock: EN, DEN not 0 and an output between 200 and 800 MHz (R484). -/
def pllValid (en : Bool) (int ref num den : Nat) : Bool :=
  let f := if ref = 1 then 125000000 else 25000000
  let r := pllRatio int num den
  en && den != 0 && decide (200000000 * r.2 ≤ f * r.1) && decide (f * r.1 ≤ 800000000 * r.2)

/-- Whether user PLL n's live configuration can lock (R484). -/
def Stack.pllConfigValid (s : Stack) (n : Nat) : Bool :=
  pllValid (s.flag (CLK.UPLLW0_EN n)) (s.get (CLK.UPLLW0_INT n)) (s.get (CLK.UPLLW0_REF n)) (s.get (CLK.UPLLW1_NUM n))
    (s.get (CLK.UPLLW1_DEN n))

/-- The user PLL that a selection of domain d names: SEL 1 to 4 of the domain's own layer; none for other values (R486). -/
def pllOf (d sel : Nat) : Option Nat := if 1 ≤ sel ∧ sel ≤ 4 ∧ 16 ≤ d then some (4 * ((d - 16) / 8) + sel - 1) else Option.none

/-- The user PLL that the connected selection of a domain names (R486, R488). -/
def Stack.domainPll (s : Stack) (d : Nat) : Option Nat := pllOf d (s.get (CLK.SRC_STAT_SEL d))

/-- Whether a source that a multiplexer waits for will give edges: it runs, or the device stopped it on purpose and starts it on need. -/
def Stack.pllGives (s : Stack) (n : Option Nat) : Bool :=
  match n with
  | some m => s.sourceRunning (0x20 + m) || s.clk.pllIdle.contains m
  | Option.none => true

/-- Whether an upper layer is on the raw feed (R15, R533). -/
def Stack.onRaw (s : Stack) (layer : Nat) : Bool := bit (s.get POWER.FEED_RAW) (layer - 2)

/-- A layer's bit of FEED.RAW written (R533). -/
def Stack.setRaw (s : Stack) (layer : Nat) (v : Bool) : Stack := s.put POWER.FEED_RAW (setBit (s.get POWER.FEED_RAW) (layer - 2) v)

/-- Whether a user domain has a clock: a PLL selected, connected, not hung and running, and its layer not on the raw feed (R16, R486, R489,
R490). -/
def Stack.domainRunning (s : Stack) (d : Nat) : Bool :=
  match s.domainPll d with
  | some n => s.sourceRunning (0x20 + n) && !s.flag (CLK.SRC_STAT_HUNG d) && !s.onRaw (logicLayer ((d - 16) / 8))
  | Option.none => false

/-- The selection and divider of a domain in a view of the registers (live or staged). -/
structure Selection where
  sel : Nat
  div : Nat
deriving DecidableEq, Repr

/-- The PLL settings that make two domains mesochronous: reference, multiplier and divider (R486). -/
def Stack.mesochronous (s : Stack) (view : Field → Nat) (a b : Nat) : Bool :=
  match pllOf a (view (CLK.SRC_SEL a)), pllOf b (view (CLK.SRC_SEL b)) with
  | some m, some n =>
    view (CLK.UPLLW0_REF m) == view (CLK.UPLLW0_REF n) &&
    (let p := pllRatio (view (CLK.UPLLW0_INT m)) (view (CLK.UPLLW1_NUM m)) (view (CLK.UPLLW1_DEN m))
     let q := pllRatio (view (CLK.UPLLW0_INT n)) (view (CLK.UPLLW1_NUM n)) (view (CLK.UPLLW1_DEN n))
     p.1 * q.2 == q.1 * p.2) &&
    view (CLK.SRC_DIV a) == view (CLK.SRC_DIV b) &&
    s.get (POWER.OPP_SCALE ((a - 16) / 8)) == s.get (POWER.OPP_SCALE ((b - 16) / 8))
  | _, _ => false

/-- Two domains whose edges keep R145: `d` selects the PLL output of turn domain `td` with a divider that divides its (R145). -/
def followsTurnDomain (view : Field → Nat) (td d : Nat) : Bool :=
  match pllOf td (view (CLK.SRC_SEL td)) with
  | Option.none => true
  | some n => pllOf d (view (CLK.SRC_SEL d)) == some n && (view (CLK.SRC_DIV td) + 1) % (view (CLK.SRC_DIV d) + 1) == 0

end Sys2Proof.Machine
end

