-- ==== Sys2Proof/Machine/TurnBase.lean ====
section
/-! DEFINITION. The turn stage: results, arming of device turns, pre-emption, new instants (R235 to R238, R243, R249, R250). -/

namespace Sys2Proof.Machine

/-- The stages of R238, as STAGE reports them: Idle, Checking, Pending, Applying. -/
def Stack.stage (s : Stack) : Nat := s.get TURN.STATUS_STAGE

/-- A firmware turn is armed (R233). -/
def Stack.firmwareArmed (s : Stack) : Bool := s.turnArmed && !s.flag TURN.STATUS_DEVICE

/-- The register word that a bit address lies in, by block and offset. -/
def wordOf (key : Nat) : Nat × Nat := (key / 0x80000, key % 0x80000 / 32 * 4)

/-- A register that a turn changes: its block number and live offset (R240). -/
abbrev Item := Nat × Nat

/-- Whether one item comes before another: lower block, then lower live offset (R240). -/
def Item.before (a b : Item) : Bool := decide (a.1 < b.1) || (a.1 == b.1 && decide (a.2 < b.2))

/-- An item put in its place of a list that is in the order of R240; an item already listed is not put in twice. -/
def insertItem (x : Item) : List Item → List Item
  | [] => [x]
  | y :: l => if x = y then y :: l else if x.before y then x :: y :: l else y :: insertItem x l

/-- Whether the staged copy of the register at a live offset differs from its live copy (R234). -/
def Stack.differs (s : Stack) (i : Item) : Bool :=
  (stagedFields i.1 i.2).any fun f => let g := f.field i.1 i.2; s.get g != s.get g.staged

/-- The turn set of a firmware turn: the staged registers whose copies differ, in the order of R240 (R233, R234). -/
def Stack.stagedItems (s : Stack) : List Item :=
  let words := s.regs.foldl (fun l e => let w := wordOf e.1; insertItem (w.1, w.2 % 0x8000) l) []
  words.filter s.differs

/-- ITEMS.COUNT of an armed firmware turn: a register whose copies a write of the device has made equal has dropped out (R233, R241). -/
def Stack.countItems (s : Stack) : Stack := if s.firmwareArmed then s.put TURN.ITEMS_COUNT s.stagedItems.length else s

/-- The stage returns to Idle (R238). -/
def Stack.turnIdle (s : Stack) : Stack :=
  let s := s.countItems
  { ((s.put TURN.STATUS_PENDING 0).put TURN.STATUS_STAGE 0).put TURN.STATUS_DEVICE 0 with
    turn := { s.turn with dev := Option.none, raster := Option.none, examined := false, mirrored := false } }

/-- The result of a numbered turn (R235, R251, R253). -/
def Stack.turnResult (s : Stack) (reason item : Nat) : Stack :=
  ((((s.put TURN.RESULT_REASON reason).put TURN.RESULT_ITEM item).put TURN.RESULT_SEQ_SEQ s.turn.num).put TURN.RESULT_SEQ_DEVICE
    (b2n s.turn.dev.isSome)).put TURN.RESULT_SEQ_REFUSED 0

/-- A numbered turn fails: RESULT written, FAILED raised, the stage Idle (R238). -/
def Stack.turnFail (s : Stack) (reason item : Nat) : Stack := ((s.turnResult reason item).raise TURN.INT_FAILED).turnIdle

/-- The number of items of a device turn: one plane selection, every section's RUN.LIVE that is 1, or one other item (R241, R249). -/
def Stack.deviceItems (s : Stack) (d : DevTurn) : Nat :=
  match d with
  | .stopSiesta | .stopDusk | .stopCritical => (s.sectionNumbers.filter fun n => s.flag (SECT.RUN_LIVE (s.sect n).home n)).length
  | .safeOutput => 0
  | _ => 1

/-- The raster on which R249 places a device turn; none for an immediate one. -/
def Stack.deviceRaster (s : Stack) (d : DevTurn) : Option Nat :=
  match d with
  | .repair r _ | .detour r _ => some (s.sect r).repairRaster
  | .degraded _ => Option.none
  | _ => some 0

/-- An accepted arm: PENDING set, the number taken, the stage Checking; a device turn's items are counted (R237, R238, R241). -/
def Stack.turnStart (s : Stack) (d : Option DevTurn) : Stack :=
  let n := s.get TURN.SEQ_NEXT
  let s := match d with
    | some e => s.put TURN.ITEMS_COUNT (s.deviceItems e)
    | Option.none => s
  let ran := d.any fun e => (s.deviceRaster e).any s.rasterRunning
  let s := { s with turn := { s.turn with num := n, dev := d, raster := Option.none, rasterRan := ran, examined := false } }
  (((s.put TURN.SEQ_NEXT (n + 1)).put TURN.STATUS_PENDING 1).put TURN.STATUS_STAGE 1).put TURN.STATUS_DEVICE (b2n d.isSome)

/-- Whether a device turn is marked "Pre-empts" (R249). -/
def DevTurn.preempts : DevTurn → Bool
  | .stopCritical | .safeOutput | .degraded _ | .switchOver => true
  | _ => false

/-- Whether a device turn may take the place of the armed turn now: the stage is not Applying, the new turn pre-empts, and the armed
one is a firmware turn or a device turn that does not pre-empt (R249). -/
def Stack.canPreempt (s : Stack) (d : DevTurn) : Bool :=
  d.preempts && s.turnArmed && s.stage != 3 &&
    (match s.turn.dev with
     | Option.none => true
     | some e => !e.preempts)

/-- The armed turn fails with PREEMPTED; a firmware turn raises PREEMPTED, a device turn waits to be armed again (R249). -/
def Stack.preempt (s : Stack) : Stack :=
  match s.turn.dev with
  | Option.none => (s.turnFail 0x0E 0).raise TURN.INT_PREEMPTED
  | some e => let t := s.turnFail 0x0E 0; { t with turn := { t.turn with waiting := e :: t.turn.waiting } }

/-- A device turn that has been made waits behind those made before it (R249). -/
def Stack.queueTurn (s : Stack) (d : DevTurn) : Stack := { s with turn := { s.turn with waiting := s.turn.waiting ++ [d] } }

/-- A device turn is made: it arms when the stage is Idle and no turn that it may not pre-empt waits, pre-empts where R249 lets it, and else
waits (R249). -/
def Stack.makeDevTurn (s : Stack) (d : DevTurn) : Stack :=
  if !s.turnArmed then
    if s.turn.waiting.all fun e => d.preempts && !e.preempts then s.turnStart (some d) else s.queueTurn d
  else if s.canPreempt d then s.preempt.turnStart (some d)
  else s.queueTurn d

/-- A waiting device turn arms: the first made, when the stage is Idle; or the first that may pre-empt the armed turn (R249). -/
def Stack.armWaiting (s : Stack) : Stack :=
  if !s.turnArmed then
    match s.turn.waiting with
    | [] => s
    | d :: t => ({ s with turn := { s.turn with waiting := t } } : Stack).turnStart (some d)
  else
    match s.turn.waiting.find? s.canPreempt with
    | some d => ({ s with turn := { s.turn with waiting := s.turn.waiting.erase d } } : Stack).preempt.turnStart (some d)
    | Option.none => s

/-- The fixed instant written to TURN.INSTANT (R238, R253). -/
def Stack.fixInstant (s : Stack) (t : Nat) : Stack :=
  { ((s.put TURN.INSTANT_NS_NS (t % 1000000000)).put TURN.INSTANT_S_S_LO (t / 1000000000)).put TURN.INSTANT_S_HI_S_HI
      (t / 1000000000 / 2 ^ 32) with turn := { s.turn with instant := t } }

/-- A raster stops or is reprogrammed while a turn placed on it is Pending: a firmware turn fails with RASTER (R243), a device turn
takes an instant 10 µs later (R250). -/
def Stack.rasterStopped (s : Stack) (n : Nat) : Stack :=
  if s.stage = 2 ∧ s.turn.raster = some n then
    match s.turn.dev with
    | Option.none => s.turnFail 3 0
    | some _ => (s.fixInstant (s.time + 10000))
  else s

/-- Device time is stepped: TIME_STEPS counts, TIME_STEP is raised, a Pending firmware turn fails with RASTER (R243) and a Pending
device turn takes a new instant (R250, R493). -/
def Stack.stepTime (s : Stack) (t : Nat) : Stack :=
  let s := ({ s with time := t } : Stack)
  let s := (s.bumpWrap CLK.TIME_STEPS_COUNT).raise CLK.INT_TIME_STEP
  if s.stage = 2 then
    match s.turn.dev with
    | Option.none => s.turnFail 3 0
    | some _ => s.fixInstant (s.time + 10000)
  else s

end Sys2Proof.Machine
end

