-- ==== Sys2Proof/Machine/ModeBase.lean ====
section
/-! DEFINITION. What a change of mode does to the DMA channels, the Lacing links and the filter engines (R280, R399, R454). -/

namespace Sys2Proof.Machine

/-- A Lacing link's own state. -/
def Stack.lace (s : Stack) (k : Nat) : Lace := mapGet {} s.laces k

/-- A Lacing link's own state replaced. -/
def Stack.setLace (s : Stack) (k : Nat) (x : Lace) : Stack := { s with laces := mapSet {} s.laces k x }

/-- Guaranteed flits of a link lost: counted in GQ_DROP (R447, R449, R452, R455). -/
def Stack.laceDrop (s : Stack) (k n : Nat) : Stack :=
  if n = 0 then s else (s.bump (LANE.LACE_ERR_GQ_DROP k) n).raise LANE.INT_GQ_DROP

/-- STATE of a link: 0 Down, 1 Training, 2 Up, 3 Retraining, 4 Failed (R447, R455). -/
def Stack.laceState (s : Stack) (k : Nat) : Nat := s.get (LANE.LACE_STAT_STATE k)

/-- A link's units and buffered flits are lost: the guaranteed flits among them are counted (R447). -/
def Stack.laceDiscard (s : Stack) (k : Nat) : Stack :=
  let x := s.lace k
  let lost := (x.replay.filter (·.guaranteed)).foldl (fun a u => a + u.flits.length) 0
  (s.laceDrop k lost).setLace k { x with
    replay := []
    resend := Option.none
    resends := 0
    unsent := 0
    stalled := [] }

/-- A link goes Down by a change of mode (R455). -/
def Stack.laceModeDown (s : Stack) (k : Nat) : Stack :=
  if s.laceState k = 0 then s
  else
    let t := if s.laceState k = 2 then s.raise LANE.INT_LINK_DOWN else s
    (t.put (LANE.LACE_STAT_STATE k) 0).laceDiscard k

/-- What lanes put out on their pads: a generator, or a loop, takes the place of the consumer's data (R440). -/
def Stack.padOutput (s : Stack) (lanes l : List Nat) : List Nat :=
  if lanes.any fun n => s.flag (LANE.TEST_GEN n) || s.get (LANE.TEST_LOOP n) != 0 then [] else l

/-- Links Down in Haven, receivers running (R454). -/
def Stack.linksDown (s : Stack) : Stack :=
  (List.range s.build.laces).foldl (fun t k => t.laceModeDown k) s

/-- Whether flows and Lacing guaranteed flits are sent: from release outputs, and not in safe state; in Workshop they run while the pins float
(R29, R60, R478). -/
def Stack.flowsRun (s : Stack) : Bool := (s.mode == .workshop && s.sys.outputs != .safe) || (s.sys.outputs == .live && s.modeIn [.dawn, .day, .dusk])

/-- Whether the Lacing transmitters drive their lanes: in Dawn, where links train and come Up, and wherever they are not in safe state or held
by the override of R33, which is electrical idle (R27, R33, R60, R454). -/
def Stack.laceDrives (s : Stack) : Bool := s.mode == .dawn || s.flowsRun

/-- STATE of a channel (R401). -/
def Stack.dmaState (s : Stack) (n : Nat) : Nat := s.get (DMA.STATE_STATE n)

/-- Every Running channel stopped as by STOP: Siesta entry, Dusk step 1, Haven (R399). -/
def Stack.dmaStopAll (s : Stack) : Stack :=
  (List.range 32).foldl (fun s n => if s.dmaState n = 1 then s.put (DMA.STATE_STATE n) 2 else s) s

/-- Running engines stop; their state and memories are kept (R280). -/
def Stack.enginesStop (s : Stack) : Stack :=
  { s with engines := s.engines.map fun e => if e.2.st = 2 then (e.1, { e.2 with st := 1 }) else e }

end Sys2Proof.Machine
end

