-- ==== Sys2Proof/Machine/ImageBase.lean ====
section
/-! DEFINITION. Binding images: their layout and decoding, and where a decoded folio is written (R198 to R210, R214 to R216, R616). -/

namespace Sys2Proof.Machine

/-! ## Bytes of an image -/

/-- The number that bytes spell, least significant first (R198). -/
def leNat : List Nat → Nat
  | [] => 0
  | b :: t => b + 256 * leNat t

/-- The `n`-byte number at an offset. -/
def leAt (l : List Nat) (o n : Nat) : Nat := leNat ((l.drop o).take n)

/-- 32-bit word `i`. -/
def wordAt (l : List Nat) (i : Nat) : Nat := leAt l (4 * i) 4

/-- The directory entry of an image number (R215). -/
def Stack.dirEntry (s : Stack) (n : Nat) : DirEntry := mapGet {} s.loader.dir n

/-- The bytes of a stored image, from its first block (R215). -/
def Stack.imageBytes (s : Stack) (n : Nat) : List Nat :=
  let e := s.dirEntry n
  (List.range e.len).map fun i => (mapGet 0 s.loader.image (e.first * 131072 + i)).toNat

/-- One entry of the chunk directory (R200). -/
structure Chunk where
  idx : Nat
  type : Nat
  off : Nat
  len : Nat
  crc : Nat
  tag : Nat
  reserved : Nat
deriving DecidableEq, Repr

/-- CHUNKS of the header (R199). -/
def imgCount (l : List Nat) : Nat := bits (wordAt l 3) 0 6

/-- The chunk directory (R198, R200). -/
def imgChunks (l : List Nat) : List Chunk :=
  (List.range (imgCount l)).map fun i =>
    let o := 0x40 + 32 * i
    ⟨i, leAt l o 2, leAt l (o + 4) 4, leAt l (o + 8) 4, leAt l (o + 12) 4, leAt l (o + 16) 16, leAt l (o + 2) 2⟩

/-- ENCRYPTED of the header (R199). -/
def imgEncrypted (l : List Nat) : Bool := bit (wordAt l 1) 4

/-- REBIND of the header (R199). -/
def imgRebind (l : List Nat) : Bool := bit (wordAt l 1) 5

/-- BINDING_SET of the header (R199). -/
def imgSet (l : List Nat) : Nat := bits (wordAt l 1) 16 16

/-- The stored payload of a chunk (R198). -/
def Chunk.stored (c : Chunk) (l : List Nat) : List Nat := (l.drop c.off).take c.len

/-- The IV of a chunk: the header IV, a little-endian field, with its low 32 bits replaced by the chunk's index (R202, log 25). -/
def Chunk.iv (c : Chunk) (l : List Nat) : Nat := leAt l 0x10 12 / 2 ^ 32 * 2 ^ 32 + c.idx

/-- The payload of a chunk, decrypted under a key in an encrypted image (R202). -/
def Chunk.payload (c : Chunk) (key : Nat) (l : List Nat) : List Nat :=
  if imgEncrypted l then gcmCrypt key (c.iv l) (c.stored l) else c.stored l

/-- Whether a chunk's tag authenticates its payload, or is 0 in an image that is not encrypted (R200, R202). -/
def Chunk.authentic (c : Chunk) (key : Nat) (l : List Nat) : Bool :=
  if imgEncrypted l then
    gcmTag key (c.iv l) (l.take 16 ++ (l.drop (0x40 + 32 * c.idx)).take 16) (c.stored l) == c.tag
  else c.tag == 0

/-- The payload of the first chunk of a type; empty when there is none. -/
def chunkOf (l : List Nat) (key type : Nat) : List Nat :=
  match (imgChunks l).find? (·.type == type) with
  | some c => c.payload key l
  | Option.none => []

/-! ## The chunks -/

/-- An entry of SECTIONS (R203). -/
structure SectEntry where
  number : Nat
  sect : Section
  pages : Nat
  livePlane : Nat
  planePage : List Nat
  ok : Bool
deriving DecidableEq, Repr

/-- The section that two descriptor words describe (R195). -/
def sectionOf (w0 w1 : Nat) : Section :=
  { col0 := bits w0 0 6, cols := bits w0 8 6, row0 := bits w0 16 5, rows := bits w0 24 5, layerLo := bits w1 0 4,
    layerCnt := bits w1 4 3, parent := bits w1 8 10, root := bit w1 18, turnDom := bits w1 20 12 }

/-- The entry of SECTIONS at an index; `ok` says that its reserved bits are 0, VALID is 1 and its sizes are in range. -/
def sectEntryAt (l : List Nat) (i : Nat) : SectEntry :=
  let w := fun j => wordAt l (8 * i + j)
  let x := sectionOf (w 0) (w 1)
  { number := bits (w 2) 0 10
    sect := { x with repairRaster := bits (w 5) 0 2, repairLine := bits (w 5) 2 16 }
    pages := bits (w 3) 0 16
    livePlane := bits (w 3) 16 2
    planePage := (List.range 4).map fun p => bits (w 4) (5 * p) 5
    ok := (w 0 &&& 0x60E0C0C0) == 0 && bit (w 0) 31 && (w 1 &&& 0x80080) == 0 && decide (w 2 < 2 ^ 10) && decide (w 3 < 2 ^ 18) &&
      decide (w 4 < 2 ^ 20) && decide (w 5 < 2 ^ 18) && w 6 == 0 && w 7 == 0 && decide (1 ≤ x.cols) && decide (1 ≤ x.rows) &&
      decide (1 ≤ x.layerCnt) && decide (x.layerCnt ≤ 4) }

/-- An entry of FOLIO_TABLE (R206). -/
structure FolioEntry where
  addr : Nat
  page : Nat
  rs : Bool
  memMode : Bool
  digest : Nat
  off : Nat
  ok : Bool
deriving DecidableEq, Repr

/-- The entry of a folio table at an index. -/
def folioEntryAt (l : List Nat) (i : Nat) : FolioEntry :=
  let a := wordAt l (4 * i); let v := wordAt l (4 * i + 1)
  { addr := a, page := bits v 0 4, rs := bit v 4, memMode := bit v 5, digest := wordAt l (4 * i + 2), off := wordAt l (4 * i + 3)
    ok := bits a 0 13 == 0 && decide (v < 64) && !(bit v 4 && bit v 5) }

/-- The tile of a folio entry (R616). -/
def FolioEntry.tile (e : FolioEntry) : Tile := (ofFolioAddr e.addr).1

/-- The gathering of a folio entry (R616). -/
def FolioEntry.gathering (e : FolioEntry) : Nat := (ofFolioAddr e.addr).2.1

/-- An entry of SUMMARY (R209). -/
structure SummaryEntry where
  page : Nat
  tile : Tile
  lower : Nat
  upper : Nat
  ew : List Nat
  ns : Nat
  groups : Nat
  ok : Bool
deriving DecidableEq, Repr

/-- The entry of a summary at an index. -/
def summaryEntryAt (l : List Nat) (i : Nat) : SummaryEntry :=
  let b := (l.drop (64 * i)).take 64
  let v := wordAt b 0
  { page := bits v 0 4, tile := ⟨bits v 4 4, bits v 8 11⟩, lower := leAt b 4 12, upper := leAt b 0x10 12
    ew := (b.drop 0x1C).take 16, ns := wordAt b 11, groups := leAt b 0x30 14
    ok := decide (v < 2 ^ 19) && decide (leAt b 0x30 14 < 2 ^ 108) && leAt b 0x3E 2 == 0 }

/-- The nine bits of bridge group j of a summary entry (R109, R209). -/
def SummaryEntry.group (e : SummaryEntry) (j : Nat) : Nat := bits e.groups (9 * j) 9

/-- An entry of HINGES (R210). -/
structure HingeEntry where
  layer : Nat
  word : Nat
  value : Nat
  ok : Bool
deriving DecidableEq, Repr

/-- The entry of HINGES at an index. -/
def hingeEntryAt (l : List Nat) (i : Nat) : HingeEntry :=
  let v := wordAt l (2 * i)
  ⟨bits v 0 4, bits v 16 16, wordAt l (2 * i + 1), bits v 4 12 == 0 && decide (bits v 16 16 < 39600) &&
    !(bits v 16 16 % 33 == 32 && bits (wordAt l (2 * i + 1)) 24 8 != 0)⟩

/-- The driving tile of group position `j` of a hinge-table word; none where the table's word lies on the layer's edge and no tile drives it, or
the layer below the lowest (R184, R210). -/
def hingeDriver (layer word j : Nat) : Option Tile :=
  let t := word / 33
  match word % 33 / 8 with
  | 0 | 2 => some ⟨layer, t⟩
  | 1 => if t % 40 = 39 then Option.none else some ⟨layer, t + 1⟩
  | 3 => if 1160 ≤ t then Option.none else some ⟨layer, t + 40⟩
  | _ => if 6 ≤ j then some ⟨layer + 2, t⟩ else if layer ≤ 2 then Option.none else some ⟨layer - 2, t⟩

/-- A detour variant (R214): its number, the tile boundaries avoided, its folio table, summary and records. -/
structure Detour where
  number : Nat
  avoid : List (Nat × Nat)
  table : List FolioEntry
  summary : List SummaryEntry
  records : List Nat
  ok : Bool
deriving DecidableEq, Repr

/-- The detour variant of a DETOUR payload (R214). -/
def detourOf (l : List Nat) : Detour :=
  let w0 := wordAt l 0; let n := bits w0 8 3; let f := wordAt l 5; let m := wordAt l 6
  let a := (List.range 4).map fun i => wordAt l (1 + i)
  let body := l.drop 28
  { number := bits w0 0 8
    avoid := (a.take n).map fun v => (bits v 0 4, bits v 4 11)
    table := (List.range f).map (folioEntryAt body)
    summary := (List.range m).map (summaryEntryAt (body.drop (16 * f)))
    records := body.drop (16 * f + 64 * m)
    ok := decide (w0 < 2 ^ 11) && decide (1 ≤ n) && decide (n ≤ 4) && a.all (fun v => v < 2 ^ 15) &&
      decide (28 + 16 * f + 64 * m ≤ l.length) }

/-- The entries of SECTIONS. -/
def imgSections (l : List Nat) (key : Nat) : List SectEntry :=
  let p := chunkOf l key 1
  (List.range (p.length / 32)).map (sectEntryAt p)

/-- The entries of FOLIO_TABLE. -/
def imgTable (l : List Nat) (key : Nat) : List FolioEntry :=
  let p := chunkOf l key 2
  (List.range (p.length / 16)).map (folioEntryAt p)

/-- The entries of SUMMARY. -/
def imgSummary (l : List Nat) (key : Nat) : List SummaryEntry :=
  let p := chunkOf l key 3
  (List.range (p.length / 64)).map (summaryEntryAt p)

/-- The entries of HINGES. -/
def imgHinges (l : List Nat) (key : Nat) : List HingeEntry :=
  let p := chunkOf l key 4
  (List.range (p.length / 8)).map (hingeEntryAt p)

/-- The entries of REGISTERS: block, live offset, value (R211). -/
def imgRegs (l : List Nat) (key : Nat) : List (Nat × Nat × Nat) :=
  let p := chunkOf l key 5
  (List.range (p.length / 8)).map fun i => (bits (wordAt p (2 * i)) 16 16, bits (wordAt p (2 * i)) 0 16, wordAt p (2 * i + 1))

/-- The detour variants. -/
def imgDetours (l : List Nat) (key : Nat) : List Detour :=
  ((imgChunks l).filter (·.type == 8)).map fun c => detourOf (c.payload key l)

/-! ## Records of FOLIOS (R208) -/

/-- The folio words that run tokens spell, or none when a reserved bit is set or a token is cut short (R208). -/
def runWords : Nat → List Nat → Option (List Nat)
  | _, [] => some []
  | 0, _ => Option.none
  | f + 1, t :: rest =>
    let n := bits t 0 11 + 1
    if bits t 11 4 != 0 then Option.none
    else if bit t 15 then (runWords f rest).map (List.replicate n 0 ++ ·)
    else if rest.length < n then Option.none
    else (runWords f (rest.drop n)).map (rest.take n ++ ·)

/-- A decoded folio: address, page and its 4,096 bytes. -/
structure Folio where
  addr : Nat
  page : Nat
  bytes : List Nat
deriving DecidableEq, Repr

/-- Whether a folio's bytes hold a cell in memory mode (R73). -/
def bytesMemMode (l : List Nat) : Bool := (List.range 128).any fun c => cellMode (l.getD (32 * c + 8) 0) == 3

/-- The record at an offset decoded against its table entry: the cause, 0 when it is good, the folio, and the offset after it
(R208, R221). -/
def decodeRecord (l : List Nat) (o : Nat) (e : FolioEntry) (done : List Folio) : Nat × Folio × Nat :=
  let v := leAt l (o + 4) 4
  let enc := bits v 4 2; let src := bits v 8 4; let size := bits v 16 16
  let p := (l.drop (o + 8)).take size
  let next := o + 8 + (size + 3) / 4 * 4
  let bad := fun c => (c, (⟨e.addr, e.page, []⟩ : Folio), next)
  if l.length < next then bad 1
  else if bits v 6 2 != 0 || bits v 12 4 != 0 || enc == 3 || (enc != 2 && src != 0) || (enc == 0 && size != 4096) || (enc == 2 && size != 0) ||
      bits (leAt l o 4) 0 13 != 0
  then bad 1
  else if leAt l o 4 != e.addr || bits v 0 4 != e.page || o != e.off then bad 0x10
  else
    let r : Option (List Nat) × Nat := match enc with
      | 0 => (some p, 0)
      | 1 =>
        match runWords (size / 2) ((List.range (size / 2)).map fun i => leAt p (2 * i) 2) with
        | some ws => if ws.length = 2048 ∧ size % 2 = 0 then (some (ws.flatMap fun w => [w % 256, w / 256]), 0) else (Option.none, 1)
        | Option.none => (Option.none, 1)
      | _ =>
        if src < e.page then ((done.find? fun f => f.addr == e.addr && f.page == src).map (·.bytes), 0x10) else (Option.none, 0x10)
    match r with
    | (Option.none, c) => bad c
    | (some b, _) =>
      if crc32c (digestBytes fun i => b.getD i 0) != e.digest || bytesMemMode b != e.memMode then (0x11, ⟨e.addr, e.page, b⟩, next)
      else (0, ⟨e.addr, e.page, b⟩, next)

/-- Every record of a payload decoded in the order of its table: the first cause with its address, and the folios before it (R208). Bytes
after the last entry's record are no record of an entry: FORMAT. -/
def decodeRecords (l : List Nat) (table : List FolioEntry) : Nat × Nat × List Folio :=
  let r := table.foldl (fun (acc : Nat × Nat × List Folio × Nat) e =>
    if acc.1 != 0 then acc
    else
      let d := decodeRecord l acc.2.2.2 e acc.2.2.1
      (d.1, e.addr, if d.1 = 0 then acc.2.2.1 ++ [d.2.1] else acc.2.2.1, d.2.2)) (0, 0, [], 0)
  (if r.1 = 0 ∧ r.2.2.2 ≠ l.length then 1 else r.1, r.2.1, r.2.2.1)

/-! ## Where folios come from and go to -/

/-- The key in a secret-zone entry (R423). -/
def Stack.zoneKey (s : Stack) (e : Nat) : Option Nat :=
  match mapGet 0 s.keys.zone e with
  | 0 => Option.none
  | k + 1 => some k

/-- The binding decryption key as a number; 0 when the zone holds none. -/
def Stack.bindingKey (s : Stack) : Nat := (s.zoneKey 0).getD 0

/-- Mark key of a state bank. -/
def bankMark (key : Nat) : Nat := 2 ^ 45 + key

/-- A folio's initial state in a slot or plane: the INIT bits of its bytes (R75, R77, R135). -/
def initOf (bytes : List Nat) : Nat := (initBits (writeBytesMem [] 0 (bytes.map (BitVec.ofNat 8))) 0).toNat

/-- A folio written to slot PAGE of the page store, with its state, header entry and digest (R135, R217). -/
def Stack.placeSlot (s : Stack) (root : Nat) (digest : Nat) (x : Folio) : Stack :=
  let t := (ofFolioAddr x.addr).1; let g := (ofFolioAddr x.addr).2.1; let q := x.page
  let f := { s.fabric with pageStore := writeBytesMem s.fabric.pageStore (slotFolio t g q) (x.bytes.map (BitVec.ofNat 8)) }
  let f := f.putPage (slotState t g q) 32 (initOf x.bytes)
  let f := (f.putPage (slotBase t.layer q + 0x4BA0000) 4 0x00015107).setSlot t q root true
  { s with
    fabric := f.putPage (slotDigest t g q) 4 digest
    health := mapClear (mapClear s.health (pageMark (slotFolio t g q)) 256) (pageMark (slotState t g q)) 2 }

/-- A folio written to a plane with INIT state and its golden digest (R207, R224). -/
def Stack.placePlane (s : Stack) (p digest : Nat) (x : Folio) : Stack :=
  let t := (ofFolioAddr x.addr).1; let g := (ofFolioAddr x.addr).2.1; let k := folioKey t g p
  { s with
    fabric := { s.fabric with
      planeMem := writeBytesMem s.fabric.planeMem (k * 4096) (x.bytes.map (BitVec.ofNat 8))
      banks := mapSet 0 s.fabric.banks k (BitVec.ofNat 256 (initOf x.bytes))
      golden := mapSet zeroDigest s.fabric.golden k digest }
    health := mapErase s.health (bankMark k) }

/-- Key of a stored folio's rewrite-safe flag (R206). -/
def safeKey (t : Tile) (g page : Nat) : Nat := (memIndex t.layer * 16 + page) * 32768 + 16 * t.tile + g

/-- The decoded folios of an image, with their table entries. -/
def Stack.imageFolios (s : Stack) (img : Nat) : List (FolioEntry × Folio) :=
  let l := s.imageBytes img; let key := s.bindingKey
  let table := imgTable l key
  table.zip (decodeRecords (chunkOf l key 9) table).2.2

/-- The decoded folios of a detour variant, with their table entries; none when a record of it is bad (R214). -/
def Detour.folios (d : Detour) : Option (List (FolioEntry × Folio)) :=
  let r := decodeRecords d.records d.table
  if r.1 = 0 then some (d.table.zip r.2.2) else Option.none

/-- The folios of the detour variant that a section uses; empty when it uses none (R127, R214). -/
def Stack.detourFolios (s : Stack) (n : Nat) : List (FolioEntry × Folio) :=
  match (s.sect n).detour with
  | some v =>
    (((imgDetours (s.imageBytes (s.sect n).image) s.bindingKey).find? (·.number == v)).bind Detour.folios).getD []
  | Option.none => []

/-- A folio of an image as a section has it: the variant's folio of the same address and page where the section uses a detour (R214). -/
def Stack.detoured (s : Stack) (m : Nat) (ex : FolioEntry × Folio) : FolioEntry × Folio :=
  ((s.detourFolios m).find? fun v => v.1.addr == ex.1.addr && v.1.page == ex.1.page).getD ex

/-- The folios of a page of a nest as its sections' images supply them: each tile from the image of its innermost section, with the detour
variant that the section uses over it (R214, R225). -/
def Stack.sourceFolios (s : Stack) (r page : Nat) : List (FolioEntry × Folio) :=
  let imgs := ((s.nest r).map fun n => (s.sect n).image).eraseDups
  imgs.flatMap fun img => (s.imageFolios img).filterMap fun ex =>
    match s.ownerOf ex.1.tile with
    | some m =>
      if ex.1.page = page ∧ s.rootOf m = r ∧ (s.sect m).image = img ∧ (s.sect m).state ≠ .empty then some (s.detoured m ex)
      else Option.none
    | Option.none => Option.none

end Sys2Proof.Machine
end

