-- ==== Sys2Proof/Machine/Recovery.lean ====
section
/-! DEFINITION. Fault recovery and escalation, and entry to Haven (R28, R43 to R48, R614). -/

namespace Sys2Proof.Machine

/-! ## Resources -/

/-- The level of a resource: 1 section, 2 layer, 3 stack, 4 device. -/
def Resource.level : Resource → Nat
  | .sect _ => 1
  | .engine _ _ => 1
  | .layer _ => 2
  | .stack => 3
  | .device => 4

/-- The time limit of a recovery in milliseconds (R44). -/
def Resource.limitMs : Resource → Nat
  | .sect _ => 50
  | .engine _ _ => 50
  | .layer _ => 200
  | _ => 1500

/-- A resource's parent: a section's layer, or the stack for a column section; a nested section counts as its outermost one; an engine's
layer (R45, R271). -/
def Stack.parentOf (s : Stack) : Resource → Resource
  | .sect n => let x := s.sect (s.rootOf n); if x.layerCnt = 1 then .layer x.layerLo else .stack
  | .engine k _ => .layer k
  | .layer _ => .stack
  | .stack => .device
  | .device => .device

/-- A nested section recovers as its outermost section does (R45). -/
def Stack.outermost (s : Stack) : Resource → Resource
  | .sect n => .sect (s.rootOf n)
  | r => r

/-- Whether `a` is `b` or one of its ancestors (R45). -/
def Stack.coversRes (s : Stack) (a b : Resource) : Bool :=
  a == b || a == s.parentOf b || a == s.parentOf (s.parentOf b) || a == s.parentOf (s.parentOf (s.parentOf b))

/-- RECOV.BUSY and RECOV.LEVEL follow the recoveries in progress (R43, R551). -/
def Stack.syncRecov (s : Stack) : Stack :=
  (s.put SYS.RECOV_BUSY (b2n !s.sys.recoveries.isEmpty)).put SYS.RECOV_LEVEL
    (s.sys.recoveries.foldl (fun m r => Nat.max m r.res.level) 0)

/-- The recoveries in progress replaced. -/
def Stack.setRecoveries (s : Stack) (l : List Recovery) : Stack :=
  ({ s with sys := { s.sys with recoveries := l } } : Stack).syncRecov

/-! ## Re-initialisation (R41, R614) -/

/-- Location of a tile's leaf memories (R358). -/
def leafBase (t : Tile) : Nat := 0x00C00000000 + 0x10000000 * t.layer + 0x4000 * t.tile

/-- The leaf memories of tiles filled with zero (R41, R614). -/
def Stack.clearLeaves (s : Stack) (ts : List Tile) : Stack :=
  { s with
    mem := ts.foldl (fun m t => mapClear m (leafBase t) 0x4000) s.mem
    health := ts.foldl (fun h t => mapClear h (leafBase t / 16) 0x400) s.health }

/-- Memory use of the stack: pooled when the record said so at Dawn step 5 (R21, R362). -/
def Stack.pooled (s : Stack) : Bool := s.flag STORE.INFO_USE

/-- The page of a plane of a nest re-staged over some tiles: from page store, or fetched from the colophon in pooled use. A capture image,
which neither holds, stays (R41, R614, log 22). -/
def Stack.restage (s : Stack) (ts : List Tile) (r p : Nat) : Stack :=
  let page := (s.plane r p).src
  if 16 ≤ page then s
  else if s.pooled then
    ((s.sourceFolios r page).filter fun ex => ts.contains ex.1.tile).foldl (fun s ex => s.placePlane p ex.1.digest ex.2) s
  else { s with fabric := overFolios s.fabric ts fun f t g => f.stageFolio t g page p }

/-- A section re-initialised: its live page re-staged over its tiles, flip-flops at INIT, leaf memories zero (R41, R614). -/
def Stack.reinitSection (n : Nat) (s : Stack) : Stack :=
  let ts := (s.sect n).tiles
  let p := s.livePlane n
  let s := s.restage ts (s.rootOf n) p
  ({ s with fabric := s.fabric.resetFlipFlops ts p } : Stack).clearLeaves ts

/-! ## The loader stops (R28, R170, R221, R222) -/

/-- Loading and Rebinding sections become Torn: their tiles' VALID bits are cleared in every slot (R170, R222). -/
def Stack.tear (s : Stack) (l : List Nat) : Stack :=
  let t := l.filter fun n => s.stateIn n [.loading, .rebinding]
  let s := { s with fabric := t.foldl (fun f n => f.clearSlots (s.sect n).tiles) s.fabric }
  (s.modSects t fun x => { x with state := .torn }).refreshDoms

/-- The loader's job ends with a cause; that of a default binding is kept for Dawn step 9 (R59, R221, R231). -/
def Stack.loadEnd (s : Stack) (cause : Nat) : Stack :=
  { ((s.put LOAD.STATUS_BUSY 0).put LOAD.STATUS_PHASE 0).put LOAD.STATUS_CAUSE cause with
    loader := { s.loader with job := 0, waitTurn := false, dawnCause := if s.loader.job = 6 then some cause else s.loader.dawnCause } }

/-- A fault or entry to Haven stops the load of some Loading or Rebinding sections: those of `l`, and all of the running job when it writes one
of them, are Torn, and the job ends with cause FAULT (R28, R170, R221). -/
def Stack.loadFault (s : Stack) (l : List Nat) : Stack :=
  let busy := s.sectionNumbers.filter fun n => s.stateIn n [.loading, .rebinding]
  let ofJob := fun n => s.loader.job != 0 && (s.sect n).image == s.loader.jobImage
  let hit := l.any fun n => busy.contains n && ofJob n
  let torn := busy.filter fun n => l.contains n || (hit && ofJob n)
  if torn.isEmpty then s
  else
    let s := s.tear torn
    if hit then ((s.loadEnd 0x16).put LOAD.STATUS_SECTION ((torn.filter ofJob).headD 0)).put LOAD.FAULT_ADDR_ADDR 0 else s

/-! ## Haven (R28) -/

/-- The user PLLs of a stack, by number. -/
def Build.plls (b : Build) : List Nat := List.range (4 * b.layers)

/-- User clock domains stopped: every user PLL idle (R28, R490, R502). -/
def Stack.stopUserClocks (s : Stack) : Stack :=
  let t := s.build.plls.foldl (fun s n => s.setRunning (0x20 + n) false) s
  { t with clk := { t.clk with pllIdle := s.build.plls } }

/-- A running test ends: its sections are re-initialised and return to Asleep (R40, R170, R586). -/
def Stack.finishTests (s : Stack) : Stack :=
  let ns := s.sectionNumbers.filter fun n => s.stateIn n [.testing]
  let s := ns.foldl (fun s n => (s.reinitSection n).modSect n (Section.after .asleep)) s
  ({ s with bist := {} } : Stack).put TEST.STATUS_BUSY 0

/-- A move completes: BUSY clears and MODE_DONE is raised (R29, R551). -/
def Stack.moveDone (s : Stack) : Stack := (s.put SYS.MODE_BUSY 0).raise SYS.INT_MODE_DONE

/-- Entry to Haven: sections Held with HAVEN, a Capturing one once its copy is complete, or Torn; user clocks stopped, engines and DMA
channels stopped, links Down, outputs in safe state, no recovery in progress (R28, R29, R47, R170, R280, R399, R454). -/
def Stack.enterHaven (s : Stack) : Stack :=
  let s := (s.loadFault s.sectionNumbers).finishTests
  let s := if s.loader.job = 0 then s else s.loadEnd 0x16
  let s := (((s.holdSects 5 s.sectionNumbers).stopUserClocks.setRecoveries []).enginesStop.dmaStopAll).linksDown
  let s := { s with
    mode := .haven
    sys := { s.sys with
      outputs := .safe, overrideUntilTurn := false, duskStep := 0, siestaWake := 0, siestaEntry := false, release := {},
      toWorkshop := false, duskWorkshop := false, reenables := [] } }
  (s.put SYS.DAWN_STEP 0).moveDone

/-! ## Recoveries (R43 to R48, R614) -/

/-- Sections with tiles in a layer. -/
def Stack.sectionsIn (s : Stack) (k : Nat) : List Nat := s.sectionNumbers.filter fun n => (s.sect n).layers.contains k

/-- Sections held for a recovery: Asleep and Live become Held, a Capturing or Testing section first completes, a Held one gains
the bit, Loading and Rebinding ones are torn (R172, R614). -/
def Stack.holdForRecovery (s : Stack) (l : List Nat) : Stack :=
  (s.loadFault l).holdSects 0 l

/-- Held sections re-initialised (R614 step 3). -/
def Stack.reinitHeld (s : Stack) (l : List Nat) : Stack :=
  (l.filter fun n => s.stateIn n [.held]).foldl (fun s n => s.reinitSection n) s

/-- A recovery of a resource starts: recorded, and for a layer its sections are held and re-initialised, for a stack the
safe-output device turn is made (R45, R249, R614). -/
def Stack.startRecovery (s : Stack) (r : Recovery) : Stack :=
  let s := (s.setRecoveries (s.sys.recoveries ++ [r])).raise SYS.INT_RECOV
  match r.res with
  | .stack => s.makeDevTurn .safeOutput
  | .device => s.enterHaven
  | _ => s

/-- How a fault on a resource is handled, by the recoveries in progress (R45, R47). -/
inductive FaultKind where
  | recorded
  | escalates (a : Recovery)
  | absorbed
  | starts
deriving DecidableEq, Repr

/-- R45's table, and R47 in Haven. -/
def Stack.faultKind (s : Stack) (b : Resource) : FaultKind :=
  if s.mode = .haven then .recorded
  else
    match s.sys.recoveries.find? fun r => s.coversRes b r.res with
    | some a => .escalates a
    | Option.none => if s.sys.recoveries.any fun r => s.coversRes r.res b then .absorbed else .starts

/-- An escalation to a level: the recoveries at or below it are abandoned, a layer's sections are held and re-initialised, a stack's
recovery starts, and at device level Haven is entered (R45). -/
def Stack.escalateTo (s : Stack) (p : Resource) (block cause : Nat) : Stack :=
  let s := s.setRecoveries (s.sys.recoveries.filter fun r => !s.coversRes p r.res)
  let s := match p with
    | .layer k => let l := s.sectionsIn k; (s.holdForRecovery l).reinitHeld l
    | _ => s
  s.startRecovery ⟨p, block, cause⟩

/-- A fault on a section that the loader is writing stops the load (R170, R221). -/
def Stack.faultLoads (s : Stack) (res : Resource) : Stack :=
  match res with
  | .sect n => s.loadFault [n]
  | _ => s

/-- A fault arrives on a resource (R45, R47, R48): recorded in Haven, escalated with one event that holds both faults, absorbed, or
the start of its own recovery. A fault on the device itself starts Haven. -/
def Stack.fault (s : Stack) (res : Resource) (block cause d1 d2 : Nat) : Stack :=
  let b := s.outermost res
  let s := s.faultLoads res
  match s.faultKind b with
  | .recorded => s.event { block := block, cause := cause, data1 := d1, data2 := d2 }
  | .escalates a =>
    let p := s.parentOf b
    (s.event { block := a.block, cause := a.cause, level := p.level, data0 := block + 0x10000 * cause, data1 := d1, data2 := d2 }).escalateTo
      p block cause
  | .absorbed => s.event { block := block, cause := cause, data1 := d1, data2 := d2 }
  | .starts =>
    (s.event { block := block, cause := cause, level := b.level, data1 := d1, data2 := d2 }).startRecovery ⟨b, block, cause⟩

/-- A recovery completes: its completion is written to the ledger, and RECOVERY clears in the sections of a layer or stack
(R43, R172, R614). -/
def Stack.recoveryComplete (res : Resource) (s : Stack) : Stack :=
  match s.sys.recoveries.find? fun r => r.res == res with
  | Option.none => s
  | some r =>
    let s := s.setRecoveries (s.sys.recoveries.filter fun q => q.res != res)
    let held := s.sys.recoveries.filter fun q => 2 ≤ q.res.level
    let ns := match res with
      | .layer k => s.sectionsIn k
      | .stack => s.sectionNumbers
      | _ => []
    let ns := ns.filter fun n => !(held.any fun q => match q.res with
      | .layer k => (s.sect n).layers.contains k
      | _ => true)
    (s.modSects ns fun x => { x with hold := setBit x.hold 0 false }).event
      { block := r.block, cause := r.cause, level := res.level, data1 := 1 }

/-- A recovery that has exceeded a limit in milliseconds: abandoned and escalated one level, with one event (R44, R48). -/
def Stack.recoveryLapse (ms : Nat) (res : Resource) (s : Stack) : Stack :=
  match s.sys.recoveries.find? fun r => r.res == res with
  | Option.none => s
  | some r =>
    let p := s.parentOf res
    let s := s.setRecoveries (s.sys.recoveries.filter fun q => q.res != res)
    (s.event { block := r.block, cause := r.cause, level := p.level, data0 := 0x00010000, data1 := ms }).escalateTo p r.block r.cause

/-- A recovery exceeds the limit of its level (R44). -/
def Stack.recoveryLimit (res : Resource) (s : Stack) : Stack := s.recoveryLapse res.limitMs res

/-! ## The package (R45, R573) -/

/-- An event of the Atlas pair: held in PAIR_EVT, SYS.INT.RECOV of recto raised, written to the ledger (R575). -/
def Stack.pairEvent (s : Stack) (cause : Nat) : Stack :=
  ((s.eventReg PINS.PAIR_EVT_VALID PINS.PAIR_EVT_LOST [(PINS.PAIR_EVT_CAUSE, cause)]).raise SYS.INT_RECOV).event
    { block := 0xD, cause := cause }

/-- The other stack of an Atlas. -/
def otherSide : Side → Side
  | .recto => .verso
  | .verso => .recto

/-- Whether the pair is in Mirror (R575): the live PAIR.MODE of recto. -/
def State.mirror (s : State) : Bool := s.build == .atlas && s.recto.flag PINS.PAIR_MODE

/-- The active stack of the pair (R575). -/
def State.active (s : State) : Side := if s.recto.flag PINS.PAIR_ACTIVE then .verso else .recto

/-- The synchrony bit of a stack as standby (R575). -/
def syncField : Side → Field
  | .recto => PINS.PAIR_STAT_SYNC_R
  | .verso => PINS.PAIR_STAT_SYNC_V

/-- Whether a stack is the standby in synchrony (R575, R580). -/
def State.inSync (s : State) (k : Side) : Bool :=
  s.mirror && k != s.active && s.recto.flag (syncField k) && s.recto.get (LANE.LACE_STAT_STATE 4) == 2

/-- The recovery of a stack that is in progress at stack level. -/
def Stack.stackRecovery (s : Stack) : Option Recovery := s.sys.recoveries.find? fun r => r.res == .stack

/-- Haven for the whole package (R45). -/
def State.packageHaven (s : State) : State := s.onBoth fun x => if x.mode = .haven then x else x.enterHaven

/-- A stack-level fault of one stack in Mirror (R581, R582): on the standby, it is out of synchrony; on the active stack with a standby
in synchrony, the switch-over turn of the standby; else Haven for the package, with one event that holds both faults while the window
is open. -/
def State.mirrorFault (s : State) (k : Side) (r : Recovery) : State :=
  if k ≠ s.active then s.onStack .recto fun t => t.put (syncField k) 0
  else if s.inSync (otherSide k) then s.putStack (otherSide k) ((s.stack (otherSide k)).makeDevTurn .switchOver)
  else
    let e : Event := match (s.stack (otherSide k)).stackRecovery with
      | some a => { block := a.block, cause := a.cause, level := 4, data0 := r.block + 0x10000 * r.cause }
      | Option.none => { block := r.block, cause := r.cause, level := 4 }
    (s.onStack .recto fun t => (t.event e).pairEvent 5).packageHaven

/-- An effect on one stack that may end in Haven, which is of the whole package (R45), or start a stack recovery, on which the pair
acts (R581). -/
def State.onStackFault (s : State) (k : Side) (f : Stack → Stack) : State :=
  let t := s.onStack k f
  if (t.stack k).mode = .haven ∧ (s.stack k).mode ≠ .haven then t.packageHaven
  else match (s.stack k).stackRecovery, (t.stack k).stackRecovery with
    | Option.none, some r => if t.mirror then t.mirrorFault k r else t
    | _, _ => t

/-- The next state of a command that may end in Haven. -/
def nextFault (s : State) (k : Side) (f : Stack → Stack) : Host.Outcome State Fault Refusal := .next (s.onStackFault k f)

/-- A stack-level fault of a block with a cause (R42's table, R45). -/
def execBaseRingFault (k : Side) (block cause : Nat) (s : State) : Host.Outcome State Fault Refusal :=
  nextFault s k fun t => t.fault .stack block cause 0 0

/-- The resource that a level and a number name: a section, a layer, the stack or the device. -/
def resourceOf (level id : Nat) : Resource :=
  match level with
  | 1 => .sect id
  | 2 => .layer id
  | 3 => .stack
  | _ => .device

/-- RECOVERY_COMPLETE (R43): A recovery completes, and its completion is written to the ledger. -/
def execRecoveryComplete (k : Side) (level id : Nat) (s : State) : Host.Outcome State Fault Refusal :=
  nextStack s k (Stack.recoveryComplete (resourceOf level id))

/-- RECOVERY_LIMIT (R44): A recovery exceeds its time limit and is abandoned and escalated one level. -/
def execRecoveryLimit (k : Side) (level id : Nat) (s : State) : Host.Outcome State Fault Refusal :=
  nextFault s k (Stack.recoveryLimit (resourceOf level id))

end Sys2Proof.Machine
end

