-- ==== Sys2Proof/Machine/Crypt.lean ====
section
/-! DEFINITION. The store engine: encrypted regions, counters, tags, quarantine, rekey, key commands (R402 to R425). The
counter-and-tag cache is written through at once: the rules give no replacement policy (log 24). -/

namespace Sys2Proof.Machine

/-! ## Places (R342, R343) -/

/-- Bytes of local store of a memory layer in interleaved use (R342). -/
def localBytes : Nat := 0x130000000

/-- Memory layer index of a store location (R343). -/
def Stack.storeLayer (s : Stack) (loc : Nat) : Nat :=
  if s.pooled then (if s.build = .octavo then bits loc 12 1 else bits loc 12 2) else loc / localBytes

/-! ## Regions (R402 to R405) -/

/-- Start of region k. -/
def Stack.regionBase (s : Stack) (k : Nat) : Nat := s.get (KEYS.REGIONW1_BASE k) * 0x200000

/-- Data bytes of region k. -/
def Stack.regionData (s : Stack) (k : Nat) : Nat := s.get (KEYS.REGIONW2_DATA k) * 0x200000

/-- Whether region k is VALID. -/
def Stack.regionValid (s : Stack) (k : Nat) : Bool := 1 ≤ k && k < 16 && s.flag (KEYS.REGIONW0_VALID k)

/-- Sizes of the upper levels of a tree over n items, level 1 first (R405). -/
def levelSizes : Nat → Nat → List Nat
  | 0, _ => []
  | f + 1, n => let m := (n + 7) / 8; m :: (if m ≤ 64 then [] else levelSizes f m)

/-- Upper levels of a region of D data bytes. -/
def upperLevels (d : Nat) : List Nat := levelSizes 10 (d / 4096)

/-- Bytes of a footprint before rounding (R405). -/
def footBytes (d : Nat) : Nat := d + d / 8 + 72 * (d / 4096) + 64 * (upperLevels d).foldl (· + ·) 0

/-- FOOT in 2 MiB units (R405). -/
def footUnits (d : Nat) : Nat := (footBytes d + 0x1FFFFF) / 0x200000

/-- Location of node i of level L; level 0 is the leaves (R405). -/
def nodeLoc (base d l i : Nat) : Nat :=
  if l = 0 then base + d + d / 8 + 64 * i
  else base + d + d / 8 + 72 * (d / 4096) + 64 * ((upperLevels d).take (l - 1)).foldl (· + ·) 0 + 64 * i

/-- Location of the tag of block b (R405). -/
def dataTagLoc (base d b : Nat) : Nat := base + d + 8 * b

/-- Location of the tag of leaf i (R405). -/
def leafTagLoc (base d i : Nat) : Nat := base + d + d / 8 + 64 * (d / 4096) + 8 * i

/-- The region whose footprint holds a location (R403). -/
def Stack.footprintOf (s : Stack) (loc : Nat) : Option Nat :=
  (List.range 16).find? fun k =>
    s.regionValid k && decide (s.regionBase k ≤ loc) && decide (loc < s.regionBase k + footUnits (s.regionData k) * 0x200000)

/-- How a store access with a KID and a location is taken (R403): plaintext, encrypted, or ERROR. -/
inductive StoreKind where
  | plain | encrypted | error
deriving DecidableEq, Repr

/-- R403's table. -/
def Stack.storeKind (s : Stack) (kid loc : Nat) : StoreKind :=
  if kid = 0 then (if (s.footprintOf loc).isSome then .error else .plain)
  else if s.regionValid kid && decide (s.regionBase kid ≤ loc) && decide (loc < s.regionBase kid + s.regionData kid) then .encrypted
  else .error

/-! ## Keys -/

/-- The key in a slot. -/
def Stack.slotKey (s : Stack) (n : Nat) : Option Nat :=
  match mapGet 0 s.keys.slots n with
  | 0 => Option.none
  | k + 1 => some k

/-- A slot filled or emptied. -/
def Stack.setSlot (s : Stack) (n : Nat) (k : Option Nat) : Stack :=
  { s with keys := { s.keys with slots := mapSet 0 s.keys.slots n (match k with
      | some v => v + 1
      | Option.none => 0) } }

/-- Whether region k is being rekeyed. -/
def Stack.rekeying (s : Stack) (k : Nat) : Bool := s.keys.rekey.any fun r => r.region == k

/-- The slot whose key a node of level L covers: the new slot once its subtree lies below the boundary (R417, R418). -/
def Stack.nodeSlot (s : Stack) (k l i : Nat) : Nat :=
  match s.keys.rekey with
  | some r => if r.region = k ∧ (i + 1) * 8 ^ l ≤ s.keys.boundLeaf then r.new.getD (s.get (KEYS.REGIONW0_KEY k)) else s.get (KEYS.REGIONW0_KEY k)
  | Option.none => s.get (KEYS.REGIONW0_KEY k)

/-- The key for a node. -/
def Stack.nodeKey (s : Stack) (k l i : Nat) : Nat := (s.slotKey (s.nodeSlot k l i)).getD 0

/-- Whether a node's subtree straddles the rekey boundary, so that it is pinned in the cache and not verified (R418). -/
def Stack.pinned (s : Stack) (k l i : Nat) : Bool :=
  s.rekeying k && decide (i * 8 ^ l < s.keys.boundLeaf) && decide (s.keys.boundLeaf < (i + 1) * 8 ^ l)

/-! ## Key stream and tags (R408, R409) -/

/-- The AES input block of the store engine (R408). -/
def storeInput (kid chunk minor ctr loc : Nat) : Nat :=
  kid % 16 * 2 ^ 123 + chunk % 8 * 2 ^ 120 + minor % 128 * 2 ^ 113 + ctr % 2 ^ 64 * 2 ^ 49 + loc / 64 % 2 ^ 38 * 2 ^ 11

/-- The four 128-bit chunks of a 512-bit value. -/
def chunks (v : Nat) : List Nat := (List.range 4).map fun c => bits v (128 * c) 128

/-- The value of four chunks. -/
def unchunks (l : List Nat) : Nat := (List.range 4).foldl (fun acc c => acc + l.getD c 0 * 2 ^ (128 * c)) 0

/-- A block's chunks combined with the key stream (R409). -/
def cryptBlock (key kid loc major minor v : Nat) : Nat :=
  unchunks ((List.range 4).map fun c => bits v (128 * c) 128 ^^^ aesEncrypt key (storeInput kid c minor major loc))

/-- The 64-bit tag of four chunks (R409). -/
def storeTag (key kid loc minor ctr v : Nat) : Nat :=
  (ghash (aesEncrypt key 0) (chunks v) ^^^ aesEncrypt key (storeInput kid 4 minor ctr loc)) % 2 ^ 64

/-- A little-endian number of n bytes of memory. -/
def Stack.memNat (s : Stack) (a n : Nat) : Nat := ofBytes (s.readBytes a n)

/-- A node or tag written back. The cache writes whole lines of 64 bytes (R411), so the codewords written are good again. -/
def Stack.putMem (s : Stack) (a n v : Nat) : Stack :=
  { s.writeBytes a (toBytes n v) with health := mapClear s.health (a / 16) ((n + 15) / 16) }

/-! ## Events and quarantine (R415, R425) -/

/-- KEYS.EVENT (R425). -/
def Stack.keysEvent (s : Stack) (region cause : Nat) : Stack :=
  let first := !s.flag KEYS.EVENT_VALID
  let t := s.eventReg KEYS.EVENT_VALID KEYS.EVENT_LOST [(KEYS.EVENT_REGION, region), (KEYS.EVENT_CAUSE, cause)]
  if first then t.raise KEYS.INT_EVENT else t

/-- Whether a block of a region is quarantined. -/
def Stack.quarantined (s : Stack) (k b : Nat) : Bool :=
  s.keys.quarWhole.contains k ||
    s.keys.quar.any fun q =>
      let loc := s.regionBase k + 64 * b
      q.region == k && decide (q.loc ≤ loc) && decide (loc < q.loc + 64 * q.blocks)

/-- REGION_STAT.QUAR of a region: whether quarantined ranges are present (R425). -/
def Stack.showQuar (s : Stack) (k : Nat) : Stack :=
  s.put (KEYS.REGION_STAT_QUAR k) (b2n (s.keys.quarWhole.contains k || s.keys.quar.any fun q => q.region == k))

/-- A range is quarantined; the sixty-fifth quarantines the whole region and sets OVERFLOW (R415). -/
def Stack.quarantine (s : Stack) (k level first blocks : Nat) : Stack :=
  let q : Quar := ⟨k, level, s.regionBase k + 64 * first, blocks⟩
  if s.keys.quar.contains q then s
  else
    let s := (s.raise KEYS.INT_QUAR).keysEvent k 2
    (if s.keys.quar.length < 64 then { s with keys := { s.keys with quar := s.keys.quar ++ [q] } }
     else { s.raise KEYS.QUAR_COUNT_OVERFLOW with keys := { s.keys with quarWhole := s.keys.quarWhole ++ [k] } }).showQuar k

/-- A codeword of a node or tag met by its checker: whether it is bad (R370, R415). -/
def Stack.meetMeta (s : Stack) (loc source : Nat) : Stack × Bool :=
  (s.meetCodeword (loc / 16) source (loc / 16 * 16), s.mark (loc / 16) == .uncorrectable || s.mark (loc / 16) == .poison)

/-- The four codewords of a 64-byte node met. -/
def Stack.meetNode (s : Stack) (loc : Nat) : Stack × Bool :=
  [0, 16, 32, 48].foldl (fun (r : Stack × Bool) o => let q := r.1.meetMeta (loc + o) 7; (q.1, r.2 || q.2)) (s, false)

/-! ## Walking the tree (R406, R407, R411, R416) -/

/-- The nodes over a leaf as fetched, level 1 first, with the leaf; or the place of a bad node: its level and index. -/
inductive Walk where
  | ok (leaf : Nat) (upper : List Nat)
  | bad (level i : Nat)
deriving DecidableEq, Repr

/-- The nodes from level `l` down to the leaf: a parent counter of 0 marks a child as never written (R407); any other node is read,
its checkers meet it, and its tag is verified unless it is pinned. -/
def Stack.walk (k leaf : Nat) : Nat → Nat → Stack → Stack × Walk
  | l, pc, s =>
    let base := s.regionBase k; let d := s.regionData k
    let i := leaf / 8 ^ l
    let loc := nodeLoc base d l i
    let m := if pc = 0 then (s, false) else s.meetNode loc
    let m := if pc = 0 ∨ l ≠ 0 then m else let q := m.1.meetMeta (leafTagLoc base d leaf) 0; (q.1, m.2 || q.2)
    let v := if pc = 0 then 0 else s.memNat loc 64
    let tag := if l = 0 then s.memNat (leafTagLoc base d leaf) 8 else bits v 448 64
    let body := if l = 0 then v else v % 2 ^ 448
    let good := pc == 0 || s.pinned k l i || storeTag (s.nodeKey k l i) k loc 0 pc body == tag
    if m.2 || !good then (m.1, .bad l i)
    else match l with
      | 0 => (m.1, .ok v [])
      | l' + 1 =>
        let r := m.1.walk k leaf l' (bits v (56 * (leaf / 8 ^ l' % 8)) 56)
        match r.2 with
        | .ok lf up => (r.1, .ok lf (up ++ [v]))
        | w => (r.1, w)

/-- The walk from the root (R405). -/
def Stack.fetch (s : Stack) (k leaf : Nat) : Stack × Walk :=
  let top := (upperLevels (s.regionData k)).length
  s.walk k leaf top (mapGet 0 s.keys.root (64 * k + leaf / 8 ^ top))

/-- A bad node quarantines the blocks beneath it (R415). -/
def Stack.quarantineNode (s : Stack) (k l i : Nat) : Stack := s.quarantine k (l + 1) (i * 64 * 8 ^ l) (64 * 8 ^ l)

/-- Major counter of a leaf (R406). -/
def leafMajor (v : Nat) : Nat := v % 2 ^ 64

/-- Minor counter of block j of a leaf (R406). -/
def leafMinor (v j : Nat) : Nat := bits v (64 + 7 * j) 7

/-- A leaf with the minor counter of block j replaced. -/
def setMinor (v j m : Nat) : Nat := v - leafMinor v j * 2 ^ (64 + 7 * j) + m % 128 * 2 ^ (64 + 7 * j)

/-- Counter c of an upper node increased by one; at its end, by a rekey, it starts again at 1. -/
def bumpCounter (v c : Nat) : Nat :=
  let old := bits v (56 * c) 56
  v - old * 2 ^ (56 * c) + (if old = 2 ^ 56 - 1 then 1 else old + 1) * 2 ^ (56 * c)

/-- Nodes written back from level `l` up: each takes the tag of its parent's new counter (R409, R411). `up` are the old nodes from
level `l` on; the answer is the counter that guards the node of level `l - 1`. -/
def Stack.writeUp (k leaf : Nat) : Nat → List Nat → Stack → Stack × Nat
  | l, [], s =>
    let c := 64 * k + leaf / 8 ^ (l - 1)
    let v := bumpCounter (mapGet 0 s.keys.root c) 0
    ({ s with keys := { s.keys with root := mapSet 0 s.keys.root c v } }, v)
  | l, v :: rest, s =>
    let i := leaf / 8 ^ l
    let r := s.writeUp k leaf (l + 1) rest
    let c := leaf / 8 ^ (l - 1) % 8
    let body := bumpCounter (v % 2 ^ 448) c
    let loc := nodeLoc (s.regionBase k) (s.regionData k) l i
    let tag := storeTag (r.1.nodeKey k l i) k loc 0 r.2 body
    (r.1.putMem loc 64 (body + tag * 2 ^ 448), bits body (56 * c) 56)

/-- A leaf and its ancestors written back (R411). -/
def Stack.writeLeaf (s : Stack) (k leaf v : Nat) (up : List Nat) : Stack :=
  let base := s.regionBase k; let d := s.regionData k
  let r := s.writeUp k leaf 1 up
  let loc := nodeLoc base d 0 leaf
  (r.1.putMem loc 64 v).putMem (leafTagLoc base d leaf) 8 (storeTag (r.1.nodeKey k 0 leaf) k loc 0 r.2 v)

/-- A data block and its tag written under counters (R409). -/
def Stack.putBlock (s : Stack) (k b major minor v : Nat) : Stack :=
  let base := s.regionBase k; let d := s.regionData k
  let loc := base + 64 * b
  let key := s.nodeKey k 0 (b / 64)
  let ct := cryptBlock key k loc major minor v
  let s := (s.putMem loc 64 ct).putMem (dataTagLoc base d b) 8 (storeTag key k loc minor major ct)
  { s with health := mapClear s.health (loc / 16) 4 }

/-! ## Reads and writes of a block (R403, R407, R410 to R416) -/

/-- The status of a marked codeword for a reader (R313, R372): 0, 3 POISON or 4 UNCORRECTABLE. -/
def Health.status : Health → Nat
  | .poison => 3
  | .uncorrectable => 4
  | _ => 0

/-- The first status that is not 0 of the codewords of a range, and the state after their checkers have met them (R370, R372). -/
def Stack.meetRange (s : Stack) (source loc n : Nat) : Stack × Nat :=
  (List.range n).foldl (fun (r : Stack × Nat) i =>
    let cw := loc / 16 + i
    (r.1.meetCodeword cw source (16 * cw), if r.2 = 0 then (s.mark cw).status else r.2)) (s, 0)

/-- A cache lookup is counted; whether it hits is free (R411, R425, log 24). -/
def Stack.lookup (s : Stack) : Stack :=
  let hit := s.freeNat % 2 == 1
  (if hit then s.draw.bumpWrap KEYS.HITS_COUNT else s.draw.bumpWrap KEYS.MISSES_COUNT)

/-- A block of an encrypted region read and decrypted: state, status, value (R403, R407, R409, R415, R416). -/
def Stack.readEnc (s : Stack) (k b : Nat) : Stack × Nat × Nat :=
  let base := s.regionBase k; let d := s.regionData k
  if s.quarantined k b then (s, 5, 0)
  else
    let r := s.lookup.fetch k (b / 64)
    match r.2 with
    | .bad l i => (r.1.quarantineNode k l i, 5, 0)
    | .ok leaf _ =>
      let major := leafMajor leaf; let minor := leafMinor leaf (b % 64)
      if major = 0 ∧ minor = 0 then (r.1, 0, 0)
      else
        let t := r.1.meetMeta (dataTagLoc base d b) 0
        if t.2 then (t.1.quarantine k 0 (b / 2 * 2) 2, 5, 0)
        else
          let loc := base + 64 * b
          let m := t.1.meetRange 0 loc 4
          if m.2 != 0 then (m.1, m.2, 0)
          else
            let key := m.1.nodeKey k 0 (b / 64)
            let ct := m.1.memNat loc 64
            if storeTag key k loc minor major ct = m.1.memNat (dataTagLoc base d b) 8 then
              (m.1, 0, cryptBlock key k loc major minor ct)
            else ((m.1.bump KEYS.INTEGRITY_COUNT).keysEvent k 1, 5, 0)

/-- The lowest slot that holds no key. -/
def Stack.freeSlot (s : Stack) : Option Nat := (List.range 32).find? fun n => (s.slotKey n).isNone

/-- A fresh random key (R423). -/
def Stack.randomKey (s : Stack) : Nat := (Config.randomKey s.freeCount).toNat

/-- The rekey engine starts on a request (R417, R420). -/
def Stack.rekeyStart (s : Stack) (r : Rekey) : Stack :=
  let t := { s with keys := { s.keys with rekey := some r, boundLeaf := 0 } }
  let base := s.regionBase r.region
  ((((t.put KEYS.REKEY_STATUS_BUSY 1).put KEYS.REKEY_STATUS_REGION r.region).put (KEYS.REGION_STAT_STATE r.region) 2).put
    KEYS.REKEY_BOUND_LO_LOC base).put KEYS.REKEY_BOUND_HI_LOC (base / 2 ^ 32)

/-- A rekey request is queued, and started when none runs (R420). -/
def Stack.rekeyQueue (s : Stack) (r : Rekey) : Stack :=
  match s.keys.rekey with
  | Option.none => s.rekeyStart r
  | some _ =>
    let t := { s with keys := { s.keys with rekeyQueue := s.keys.rekeyQueue ++ [r] } }
    (t.put (KEYS.REGION_STAT_STATE r.region) 3).put KEYS.REKEY_STATUS_QUEUED t.keys.rekeyQueue.length

/-- Whether a region is rekeying or queued. -/
def Stack.rekeyPending (s : Stack) (k : Nat) : Bool := s.rekeying k || s.keys.rekeyQueue.any fun r => r.region == k

/-- A counter ends: CEND, an event, and the region queued for rekey with a generated key, or NO_SLOT (R414, R420). -/
def Stack.counterEnd (s : Stack) (k : Nat) : Stack :=
  if s.flag (KEYS.REGION_STAT_CEND k) then s
  else
    let s := (s.raise (KEYS.REGION_STAT_CEND k)).keysEvent k 3
    if s.rekeyPending k then s
    else match s.freeSlot with
      | Option.none => s.keysEvent k 5
      | some n => ((s.setSlot n (some s.randomKey)).draw).rekeyQueue { region := k, new := some n }

/-- The counters over a leaf that have reached their end, each with its level and the child beneath it; with `major` the leaf's major counter
(R414). -/
def Stack.endsOver (s : Stack) (k leaf : Nat) (up : List Nat) (major : Bool) : List (Nat × Nat × Nat) :=
  (if major then [(k, 0, leaf)] else [])
  ++ (up.zipIdx.filterMap fun p =>
      if bits p.1 (56 * (leaf / 8 ^ p.2 % 8)) 56 = 2 ^ 56 - 1 then some (k, p.2, leaf / 8 ^ p.2) else Option.none)
  ++ (if mapGet 0 s.keys.root (64 * k + leaf / 8 ^ up.length) = 2 ^ 56 - 1 then [(k, up.length, leaf / 8 ^ up.length)] else [])

/-- Whether writes to a leaf are refused with COUNTER_END: a counter above it has ended, and no rekey boundary has passed it (R414). -/
def Stack.counterEnded (s : Stack) (k leaf : Nat) : Bool :=
  s.keys.ended.any (fun e => e.1 == k && e.2.2 == leaf / 8 ^ e.2.1) && !(s.rekeying k && decide (leaf < s.keys.boundLeaf))

/-- Whether writes to a leaf stall: it is being re-encrypted, or the rekey is on it (R412, R417). -/
def Stack.leafStalls (s : Stack) (k leaf : Nat) : Bool := s.keys.reenc.contains (k, leaf)

/-- The status that says that no answer is given yet. -/
def noAnswer : Nat := 16

/-- Bytes and enables merged into a block. -/
def mergeBlock (old : Nat) (data : List (Nat × Bool)) : Nat :=
  (List.range 64).foldl (fun acc i =>
    let p := data.getD i (0, false)
    acc + (if p.2 then p.1 % 256 else bits old (8 * i) 8) * 2 ^ (8 * i)) 0

/-- A write that meets a stall waits; a cursor flit waits in its store hub port's buffer of 64 KiB, and is discarded when that is full (R412,
R413). -/
def Stack.stallWrite (s : Stack) (w : StalledWrite) : Stack :=
  let port := fun (x : StalledWrite) => s.storeLayer (x.addr % 2 ^ 44)
  if w.cursor && decide (1024 ≤ (s.keys.stalled.filter fun x => x.cursor && port x == port w).length) then
    (s.bump RING.GQ_LOSS_NO_CURSOR).raise RING.INT_GQ_LOSS
  else { s with keys := { s.keys with stalled := s.keys.stalled ++ [w] } }

/-- A block of an encrypted region written (R410, R412, R414, R415): state and status. A write to a block at minor counter 127
starts the re-encryption of its leaf and stalls. -/
def Stack.writeEnc (s : Stack) (k b : Nat) (data : List (Nat × Bool)) (cursor : Bool) : Stack × Nat :=
  let leaf := b / 64
  let stall := fun (t : Stack) => t.stallWrite { addr := k * 2 ^ 44 + s.regionBase k + 64 * b, data := data, cursor := cursor }
  if s.quarantined k b then (if cursor then s.bump KEYS.QDROP_COUNT else s, 7)
  else if s.leafStalls k leaf then (stall s, noAnswer)
  else if s.counterEnded k leaf then (s, 6)
  else
    let r := s.lookup.fetch k leaf
    match r.2 with
    | .bad l i => let t := r.1.quarantineNode k l i; (if cursor then t.bump KEYS.QDROP_COUNT else t, 7)
    | .ok lf up =>
      let major := leafMajor lf; let minor := leafMinor lf (b % 64)
      let ends := r.1.endsOver k leaf up (minor == 127 && major == 2 ^ 64 - 1)
      if !ends.isEmpty && !(r.1.rekeying k && decide (leaf < r.1.keys.boundLeaf)) then
        ({ r.1 with keys := { r.1.keys with ended := (r.1.keys.ended ++ ends).eraseDups } }.counterEnd k, 6)
      else if minor = 127 then
        let t := stall r.1
        ({ t with keys := { t.keys with reenc := t.keys.reenc ++ [(k, leaf)] } }.bumpWrap KEYS.MINOR_END_COUNT, noAnswer)
      else
        let full := (List.range 64).all fun i => (data.getD i (0, false)).2
        let o := if full then (r.1, 0, 0) else r.1.readEnc k b
        if o.2.1 != 0 then (o.1, o.2.1)
        else
          let v := mergeBlock o.2.2 data
          let lf' := setMinor lf (b % 64) (minor + 1)
          (((o.1).writeLeaf k leaf lf' up).putBlock k b major (minor + 1) v, 0)

/-! ## Leaf re-encryption and rekey (R412, R417 to R420) -/

/-- The 64 blocks of a leaf read through the store engine, with their statuses (R412, R417). -/
def Stack.readLeaf (s : Stack) (k leaf : Nat) : Stack × List (Nat × Nat) :=
  (List.range 64).foldl (fun (r : Stack × List (Nat × Nat)) j =>
    let q := r.1.readEnc k (64 * leaf + j)
    (q.1, r.2 ++ [q.2])) (s, [])

/-- The 64 blocks of a leaf, as read, written under new counters: block j goes to minor counter `minorOf j` under the leaf's new major. A
block that could not be read holds the poison pattern then (log 120). -/
def Stack.recode (s : Stack) (vals : List (Nat × Nat)) (k leaf major : Nat) (minorOf : Nat → Nat) : Stack :=
  vals.zipIdx.foldl (fun s p =>
    let b := 64 * leaf + p.2
    if major = 0 ∧ minorOf p.2 = 0 then s
    else
      let t := s.putBlock k b major (minorOf p.2) p.1.2
      if p.1.1 = 0 then t else (List.range 4).foldl (fun t i => t.setMark ((s.regionBase k + 64 * b) / 16 + i) .poison) t) s

/-- A leaf value with a major counter and the minors of a function. -/
def makeLeaf (major : Nat) (minorOf : Nat → Nat) : Nat :=
  (List.range 64).foldl (fun acc j => acc + minorOf j % 128 * 2 ^ (64 + 7 * j)) (major % 2 ^ 64)

/-- A stalled write proceeds: the state, and its request with its status, if it has one to answer. One that stalls again keeps its request. -/
def Stack.unstall (k : Nat) (t : Stack) (w : StalledWrite) : Stack × List (Header × Nat) :=
  let r := t.writeEnc k ((w.addr % 2 ^ 44 - t.regionBase k) / 64) w.data w.cursor
  match w.req with
  | Option.none => (r.1, [])
  | some h =>
    if r.2 = noAnswer then
      ({ r.1 with keys := { r.1.keys with stalled := r.1.keys.stalled.map fun x => if x = { w with req := Option.none } then w else x } }, [(h, noAnswer)])
    else (r.1, [(h, r.2)])

/-- A leaf's re-encryption completes: major + 1, every minor 0, and the stalled writes to it proceed (R412): the requests among them, with
their statuses. -/
def Stack.reencryptDone (k leaf : Nat) (s : Stack) : Stack × List (Header × Nat) :=
  if !s.leafStalls k leaf then (s, [])
  else
    let s := { s with keys := { s.keys with reenc := s.keys.reenc.filter (· != (k, leaf)) } }
    let r := s.fetch k leaf
    let t := match r.2 with
      | .bad l i => r.1.quarantineNode k l i
      | .ok lf up =>
        let major := leafMajor lf + 1
        let q := r.1.readLeaf k leaf
        (q.1.writeLeaf k leaf (makeLeaf major fun _ => 0) up).recode q.2 k leaf major fun _ => 0
    let mine := fun (w : StalledWrite) => w.addr / 2 ^ 44 == k && (w.addr % 2 ^ 44 - t.regionBase k) / 4096 == leaf
    let t' := { t with keys := { t.keys with stalled := t.keys.stalled.filter fun w => !mine w } }
    (t.keys.stalled.filter mine).foldl (fun (a : Stack × List (Header × Nat)) w =>
      let u := a.1.unstall k w
      (u.1, a.2 ++ u.2)) (t', [])

/-- The nodes over a leaf above level l as they lie in memory. -/
def Stack.nodesAbove (s : Stack) (k leaf l : Nat) : List Nat :=
  (List.range ((upperLevels (s.regionData k)).length - l)).map fun j =>
    s.memNat (nodeLoc (s.regionBase k) (s.regionData k) (l + j + 1) (leaf / 8 ^ (l + j + 1))) 64

/-- The rekey engine re-encrypts the next leaf under the new key and moves the boundary (R417 to R419). A quarantined leaf is
skipped, or written as never written with CLEAR. The nodes above it, but for a bad one, are written back either way: one whose end the
boundary passes is tagged with the new key (R418). -/
def Stack.rekeyLeaf (s : Stack) : Stack :=
  match s.keys.rekey with
  | Option.none => s
  | some r =>
    let k := r.region; let leaf := s.keys.boundLeaf
    if s.regionData k / 4096 ≤ leaf ∨ !(s.mode == .day || s.mode == .workshop) then s
    else
      let w := s.fetch k leaf
      let bad := fun j => s.quarantined k (64 * leaf + j)
      let all := (List.range 64).all bad
      let bound := s.regionBase k + 4096 * (leaf + 1)
      let move := fun (t : Stack) =>
        let t := { t with keys := { t.keys with
          boundLeaf := leaf + 1
          quar := if r.clear then t.keys.quar.filter fun q => !(q.region == k && decide (q.loc + 64 * q.blocks ≤ bound) && decide (bound - 4096 < q.loc + 64 * q.blocks)) else t.keys.quar
          quarWhole := if r.clear ∧ s.regionData k / 4096 = leaf + 1 then t.keys.quarWhole.filter (· != k) else t.keys.quarWhole } }
        ((t.put KEYS.REKEY_BOUND_LO_LOC bound).put KEYS.REKEY_BOUND_HI_LOC (bound / 2 ^ 32)).showQuar k
      match w.2 with
      | .bad l i =>
        let over_ := s.nodesAbove k leaf l
        if r.clear then (move w.1).writeLeaf k leaf 0 (List.replicate l 0 ++ over_)
        else ((move w.1).writeUp k leaf (l + 1) over_).1.quarantineNode k l i
      | .ok lf up =>
        if all && !r.clear then ((move w.1).writeUp k leaf 1 up).1
        else
          let minorOf := fun j => if bad j || (leafMajor lf == 0 && leafMinor lf j == 0) then 0 else 1
          let q := w.1.readLeaf k leaf
          ((move q.1).writeLeaf k leaf (makeLeaf 0 minorOf) up).recode q.2 k leaf 0 minorOf

/-- A rekey completes: the new slot is written to both copies of REGION.KEY, the old slot is cleared, and the next request starts
(R420); in Haven and Siesta a rekey is paused (R424). -/
def Stack.rekeyComplete (s : Stack) : Stack :=
  match s.keys.rekey with
  | Option.none => s
  | some r =>
    let k := r.region
    if s.keys.boundLeaf < s.regionData k / 4096 ∨ !s.modeIn [.day, .workshop] then s
    else
      let old := s.get (KEYS.REGIONW0_KEY k)
      let s := (s.setSlot old Option.none).putBoth (KEYS.REGIONW0_KEY k) (r.new.getD old)
      let s := ((s.put (KEYS.REGION_STAT_STATE k) 1).put (KEYS.REGION_STAT_CEND k) 0).put KEYS.REKEY_STATUS_BUSY 0
      let s := (s.raise KEYS.INT_REKEY).keysEvent k 4
      let s := { s with keys := { s.keys with rekey := Option.none, boundLeaf := 0, ended := s.keys.ended.filter fun e => e.1 != k } }
      match s.keys.rekeyQueue with
      | [] => s
      | q :: t =>
        ({ s with keys := { s.keys with rekeyQueue := t } }.put KEYS.REKEY_STATUS_QUEUED t.length).rekeyStart q

/-- VALID of region k has changed from `was`: a region that ends loses its root and its tree, and one that begins is as never written
(R421). -/
def Stack.applyRegion (s : Stack) (k : Nat) (was : Bool) : Stack :=
  let now := s.flag (KEYS.REGIONW0_VALID k)
  if was = now then s
  else
    let s : Stack := { s with keys := { s.keys with
      root := mapClear s.keys.root (k * 64) 64
      quar := s.keys.quar.filter fun q => q.region != k
      quarWhole := s.keys.quarWhole.filter (· != k), ended := s.keys.ended.filter fun e => e.1 != k } }
    let s := ((s.put (KEYS.REGION_STAT_STATE k) (b2n now)).put (KEYS.REGION_STAT_QUAR k) 0).put (KEYS.REGION_STAT_CEND k) 0
    s.put (KEYS.REGION_FOOT_FOOT k) (if now then footUnits (s.regionData k) else 0)

/-! ## Key commands (R420, R423, R424) -/

/-- The live and staged link selections and regions that name a slot. -/
def Stack.slotNamed (s : Stack) (n : Nat) : Bool :=
  (List.range 16).any fun k =>
    k != 0 &&
    ((s.flag (KEYS.REGIONW0_VALID k) && s.get (KEYS.REGIONW0_KEY k) == n) ||
     (s.flag (KEYS.REGIONW0_VALID k).staged && s.get (KEYS.REGIONW0_KEY k).staged == n) ||
     (s.flag (KEYS.LINK_SEL_VALID k) && s.get (KEYS.LINK_SEL_SLOT k) == n) ||
     (s.flag (KEYS.LINK_SEL_VALID k).staged && s.get (KEYS.LINK_SEL_SLOT k).staged == n))

/-- Whether a slot is in use (R423). -/
def Stack.slotInUse (s : Stack) (n : Nat) : Bool :=
  s.slotNamed n || (s.keys.rekey.toList ++ s.keys.rekeyQueue).any (fun r => r.new == some n) || s.keys.previous.any fun p => p.2 == n

/-- A key command written with GO: the fields are held, and the first refusal of a list, lowest code first, is the RESULT; a
command outside Day and Workshop is refused with MODE whatever else would refuse it (log 119), but CLEAR also runs in Haven (R423, R424,
R425). -/
def Stack.keyCommand (s : Stack) (slot op entry : Nat) (refusals : List (Bool × Nat)) (effect : Stack → Stack) : Stack :=
  let t := ((s.put KEYS.KCMD_SLOT slot).put KEYS.KCMD_OP op).put KEYS.KCMD_ENTRY entry
  if !(s.modeIn [.day, .workshop] || (op == 5 && s.mode == .haven)) then t.put KEYS.KCMD_STATUS_RESULT 5
  else match refusals.find? (·.1) with
    | some r => t.put KEYS.KCMD_STATUS_RESULT r.2
    | Option.none => effect (t.put KEYS.KCMD_STATUS_RESULT 0)

/-- A secret-zone entry filled or emptied; there is none above 32 (R423, R425, log 119). -/
def Stack.setZone (s : Stack) (e : Nat) (k : Option Nat) : Stack :=
  if 33 ≤ e then s else { s with keys := { s.keys with zone := mapSet 0 s.keys.zone e (match k with
      | some v => v + 1
      | Option.none => 0) } }

/-- An unassigned OP does nothing but hold its fields (R425). -/
def Stack.kcmdNone (slot op entry : Nat) (s : Stack) : Stack := s.keyCommand slot op entry [] id

/-- GENERATE (R423). -/
def Stack.kcmdGenerate (slot entry : Nat) (s : Stack) : Stack :=
  s.keyCommand slot 1 entry [(s.slotInUse slot, 1)] fun t => (t.setSlot slot (some t.randomKey)).draw

/-- LOAD (R423). -/
def Stack.kcmdLoad (slot entry : Nat) (s : Stack) : Stack :=
  s.keyCommand slot 2 entry [(s.slotInUse slot, 1), ((s.zoneKey entry).isNone, 2)] fun t => t.setSlot slot (t.zoneKey entry)

/-- The key that the KWRAP words unwrap to (R423). -/
def Stack.kwrapKey (s : Stack) : Option Nat :=
  keyUnwrap Config.wrappingKey.toNat
    ((List.range 5).map fun j => s.get (KEYS.KWRAP_WORD (2 * j)) * 2 ^ 32 + s.get (KEYS.KWRAP_WORD (2 * j + 1)))

/-- UNWRAP (R423). -/
def Stack.kcmdUnwrap (slot entry : Nat) (s : Stack) : Stack :=
  s.keyCommand slot 3 entry [(s.slotInUse slot, 1), (s.kwrapKey.isNone, 4)] fun t => t.setSlot slot s.kwrapKey

/-- STORE (R423). -/
def Stack.kcmdStore (slot entry : Nat) (s : Stack) : Stack :=
  s.keyCommand slot 4 entry [((s.slotKey slot).isNone, 2), (!s.secretWindow, 3)] fun t => t.setZone entry (t.slotKey slot)

/-- CLEAR (R423). -/
def Stack.kcmdClear (slot entry : Nat) (s : Stack) : Stack :=
  s.keyCommand slot 5 entry [(s.slotInUse slot, 1)] fun t => t.setSlot slot Option.none

/-- ERASE (R423). -/
def Stack.kcmdErase (slot entry : Nat) (s : Stack) : Stack :=
  s.keyCommand slot 6 entry [(!s.secretWindow, 3)] fun t => t.setZone entry Option.none

/-- KEYS.REKEY_CTL.GO (R420, R425). -/
def Stack.rekeyRequest (region new : Nat) (clear : Bool) (s : Stack) : Stack :=
  let t := ((s.put KEYS.REKEY_CTL_REGION region).put KEYS.REKEY_CTL_NEW new).put KEYS.REKEY_CTL_CLEAR (b2n clear)
  let r :=
    if !s.modeIn [.day, .workshop] then 5
    else if !s.regionValid region then 1
    else if (s.slotKey new).isNone || s.slotInUse new then 2
    else if 15 ≤ s.keys.rekeyQueue.length || s.rekeyPending region then 3
    else 0
  let t := t.put KEYS.REKEY_STATUS_RESULT r
  if r = 0 then t.rekeyQueue { region := region, new := some new, clear := clear } else t

/-- The hold of a link's previous key slot ends (R422). -/
def Stack.previousKeyExpiry (a : Nat) (s : Stack) : Stack :=
  { s with keys := { s.keys with previous := s.keys.previous.filter fun p => p.1 != a } }

/-- KCMD_NONE (R423): A KEYS.KCMD with an unassigned OP does nothing. -/
def execKcmdNone (k : Side) (slot op entry : Nat) (s : State) : Host.Outcome State Fault Refusal :=
  nextStack s k (Stack.kcmdNone slot op entry)

/-- GENERATE (R423): The GENERATE command fills a key slot from the random generator. -/
def execGenerate (k : Side) (slot entry : Nat) (s : State) : Host.Outcome State Fault Refusal :=
  nextStack s k (Stack.kcmdGenerate slot entry)

/-- KEY_LOAD (R423): The LOAD command fills a key slot from a secret-zone entry. -/
def execKeyLoad (k : Side) (slot entry : Nat) (s : State) : Host.Outcome State Fault Refusal := nextStack s k (Stack.kcmdLoad slot entry)

/-- UNWRAP (R423): The UNWRAP command unwraps the KWRAP words into a key slot. -/
def execUnwrap (k : Side) (slot entry : Nat) (s : State) : Host.Outcome State Fault Refusal :=
  nextStack s k (Stack.kcmdUnwrap slot entry)

/-- KEY_STORE (R423): The STORE command writes a key slot to a secret-zone entry. -/
def execKeyStore (k : Side) (slot entry : Nat) (s : State) : Host.Outcome State Fault Refusal :=
  nextStack s k (Stack.kcmdStore slot entry)

/-- KEY_CLEAR (R423): The CLEAR command empties a key slot. -/
def execKeyClear (k : Side) (slot entry : Nat) (s : State) : Host.Outcome State Fault Refusal :=
  nextStack s k (Stack.kcmdClear slot entry)

/-- ERASE (R423): The ERASE command empties a secret-zone entry. -/
def execKeyErase (k : Side) (slot entry : Nat) (s : State) : Host.Outcome State Fault Refusal :=
  nextStack s k (Stack.kcmdErase slot entry)

/-- REKEY_REQUEST (R420): KEYS.REKEY_CTL.GO queues a rekey of a region into a new slot, or is refused. -/
def execRekeyRequest (k : Side) (region new : Nat) (clear : Bool) (s : State) : Host.Outcome State Fault Refusal :=
  nextStack s k (Stack.rekeyRequest region new clear)

/-- REKEY_LEAF (R417): The rekey engine re-encrypts one leaf under the new key and moves the boundary. -/
def execRekeyLeaf (k : Side) (s : State) : Host.Outcome State Fault Refusal := nextStack s k Stack.rekeyLeaf

/-- REKEY_COMPLETE (R420): A rekey completes; the new slot is written into REGION.KEY and the old slot is cleared. -/
def execRekeyComplete (k : Side) (s : State) : Host.Outcome State Fault Refusal := nextStack s k Stack.rekeyComplete

/-- PREVIOUS_KEY_HOLD_EXPIRY (R422): The 100 µs hold of a link's previous key slot ends. -/
def execPreviousKeyHoldExpiry (k : Side) (a : Nat) (s : State) : Host.Outcome State Fault Refusal :=
  nextStack s k (Stack.previousKeyExpiry a)

end Sys2Proof.Machine
end

