-- ==== Sys2Proof/Machine/Flags.lean ====
section
/-! DEFINITION. The flags and the arithmetic of the filter engines (R285, R290, R293 to R295, R298). -/

namespace Sys2Proof.Machine

/-- Bit positions of FLAGS (R285). -/
def flagZ : Nat := 0
def flagN : Nat := 1
def flagC : Nat := 2
def flagV : Nat := 3
def flagAV : Nat := 4
def flagOS : Nat := 5

/-- Z and N set from a 32-bit result, C and V where given (R285, R298). -/
def setFlags (f r : Nat) (c v : Option Bool) : Nat :=
  let f := setBit (setBit f flagZ (r % 2 ^ 32 == 0)) flagN (bit r 31)
  let f := match c with
    | some b => setBit f flagC b
    | Option.none => f
  match v with
  | some b => setBit f flagV b
  | Option.none => f

/-- MK, the mark of the last quad taken (R285, R292). -/
def setMk (f mark : Nat) : Nat := f % 64 + 64 * (mark % 4)

/-- A sticky flag (R285). -/
def sticky (f i : Nat) (b : Bool) : Nat := if b then setBit f i true else f

/-- Signed overflow of a 32-bit sum of two values given as integers. -/
def overflows32 (x : Int) : Bool := decide (x < -(2 ^ 31)) || decide (2 ^ 31 - 1 < x)

/-- Result and flags of the three-register operations (R298). -/
def aluResult (op : AluOp) (a b f : Nat) : Nat × Nat :=
  match op with
  | .add => let r := (a + b) % 2 ^ 32; (r, setFlags f r (some (decide (2 ^ 32 ≤ a + b))) (some (overflows32 (signed a 32 + signed b 32))))
  | .sub | .cmp =>
    let r := (a + 2 ^ 32 - b) % 2 ^ 32
    (r, setFlags f r (some (decide (b ≤ a))) (some (overflows32 (signed a 32 - signed b 32))))
  | .and => let r := a &&& b; (r, setFlags f r Option.none Option.none)
  | .or => let r := a ||| b; (r, setFlags f r Option.none Option.none)
  | .xor => let r := a ^^^ b; (r, setFlags f r Option.none Option.none)
  | .shl => let n := b % 32; let r := (a <<< n) % 2 ^ 32; (r, setFlags f r (some (n != 0 && bit a (32 - n))) Option.none)
  | .shr => let n := b % 32; let r := a >>> n; (r, setFlags f r (some (n != 0 && bit a (n - 1))) Option.none)
  | .asr =>
    let n := b % 32
    let r := wrapInt 32 ((signed a 32).fdiv (2 ^ n))
    (r, setFlags f r (some (n != 0 && bit a (n - 1))) Option.none)
  | .min => let r := if signed a 32 ≤ signed b 32 then a else b; (r, setFlags f r Option.none Option.none)
  | .max => let r := if signed a 32 ≤ signed b 32 then b else a; (r, setFlags f r Option.none Option.none)

/-- Whether COND of BR holds (R290). -/
def condHolds (cond f : Nat) : Bool :=
  let z := bit f flagZ; let n := bit f flagN; let c := bit f flagC; let v := bit f flagV
  let mk := bits f 6 2
  match cond with
  | 0x0 => true
  | 0x1 => z
  | 0x2 => !z
  | 0x3 => n
  | 0x4 => !n
  | 0x5 => c
  | 0x6 => !c
  | 0x7 => v
  | 0x8 => !z && n == v
  | 0x9 => z || n != v
  | 0xA => n != v
  | 0xB => n == v
  | 0xC => bit f flagAV
  | 0xD => bit f flagOS
  | 0xE => mk == 1 || mk == 2
  | _ => mk == 3

/-- A value clamped to a range, and whether that changed it. -/
def clampTo (lo hi x : Int) : Int × Bool := if x < lo then (lo, true) else if hi < x then (hi, true) else (x, false)

/-- Step 1 of R293: round to nearest, ties upward. -/
def roundShift (a : Int) (sh : Nat) : Int := if sh = 0 then a else (a + 2 ^ (sh - 1)).fdiv (2 ^ sh)

/-- A narrowing of an accumulator value to a sample word, and whether the clamp changed it (R293). -/
def narrowAcc (acc sh : Nat) (uns : Bool) : Nat × Bool :=
  let r := roundShift (signed acc 48) sh
  let c := if uns then clampTo 0 16383 r else clampTo (-8192) 8191 r
  (wrapInt 14 c.1, c.2)

/-- A 14-bit operand read as its sign bit says (R295). -/
def operand14 (v : Nat) (sgn : Bool) : Int := if sgn then signed v 14 else (bits v 0 14 : Int)

/-- The 48-bit accumulator after an exact sum, and whether it saturated (R295). -/
def clamp48 (x : Int) : Nat × Bool := let c := clampTo (-(2 ^ 47)) (2 ^ 47 - 1) x; (wrapInt 48 c.1, c.2)

/-- A product accumulated, subtracted or loaded (R295). -/
def accumulate (acc : Nat) (x y : Int) (neg clr : Bool) : Nat × Bool :=
  let p := if neg then -(x * y) else x * y
  if clr then clamp48 p else clamp48 (signed acc 48 + p)

/-- SHFA's shift by a signed value (R296). -/
def shiftAcc (acc sh : Nat) : Nat × Bool :=
  let n := signed sh 6
  if 0 ≤ n then clamp48 (signed acc 48 * 2 ^ n.toNat) else clamp48 ((signed acc 48).fdiv (2 ^ (-n).toNat))

/-- MOVAG's value: shifted, rounded or not, and clamped to the 32-bit signed range (R296). -/
def movagValue (acc sh : Nat) (rnd : Bool) : Nat × Bool :=
  let r := if rnd then roundShift (signed acc 48) sh else (signed acc 48).fdiv (2 ^ sh)
  let c := clampTo (-(2 ^ 31)) (2 ^ 31 - 1) r
  (wrapInt 32 c.1, c.2)

end Sys2Proof.Machine
end

