-- ==== Sys2Proof/Machine/Operands.lean ====
section
/-! DEFINITION. The operand forms of the filter engines: element addresses and their modification, quads, register pairs, and the
decoding of instruction words (R256, R257, R261, R283, R284, R286, R287). -/

namespace Sys2Proof.Machine

/-! ## Address modification (R261) -/

/-- The low `k` bits of a number in reverse order. -/
def reverseBits : Nat → Nat → Nat
  | 0, _ => 0
  | k + 1, v => (v % 2) * 2 ^ k + reverseBits k (v / 2)

/-- The exponent of a power of two, if the number is one of at most 2^12. -/
def log2Exact (n : Nat) : Option Nat := (List.range 13).find? fun k => n == 2 ^ k

/-- The address after use of An in a memory of `size` elements (R261). A STEP beyond LEN in circular mode, which the rule forbids,
gives a free place in the window (log 2). -/
def nextAddress (free size mode a step base len : Nat) : Nat :=
  let st := signed step 16
  let linear := (((a : Int) + st) % (size : Int)).toNat
  match mode with
  | 1 =>
    if len = 0 then linear
    else if len < st.natAbs then (base + free % len) % 8192
    else (base + (((a : Int) - base + st) % (len : Int)).toNat) % 8192
  | 2 =>
    match log2Exact len with
    | some k =>
      if base % len = 0 then
        base + reverseBits k ((reverseBits k (a % len) + reverseBits k (st % (len : Int)).toNat) % len)
      else linear
    | Option.none => linear
  | _ => linear

/-! ## Memories (R256, R257, R276) -/

/-- Device address of an engine's window (R276). -/
def feBase (i n : Nat) : Nat := 0x00E00000000 + 0x1000000 * logicLayer i + 0x10000 * n

/-- Window offset of a memory: X, Y, C (R256, R283). -/
def memOffset (mem : Nat) : Nat := if mem = 2 then 0x8000 else if mem = 1 then 0x4000 else 0

/-- Elements of a memory (R256). -/
def memSize (mem : Nat) : Nat := if mem = 2 then 4096 else 8192

/-- Location of an element: addresses wrap modulo the memory's size (R256). -/
def elemLoc (i n mem e : Nat) : Nat := feBase i n + memOffset mem + 2 * (e % memSize mem)

/-- An element: bits [15:14] are ignored (R257). -/
def Stack.readElem (s : Stack) (i n mem e : Nat) : Nat := ofBytes (s.readBytes (elemLoc i n mem e) 2) % 2 ^ 14

/-- The four elements of a quad; the two low address bits are ignored (R257). -/
def Stack.readQuad (s : Stack) (i n mem e : Nat) : List Nat :=
  (List.range 4).map fun h => s.readElem i n mem (4 * (e / 4) + h)

/-- A codeword's mark after a write narrower than it: the word is read first, and its checker meets what it holds (R95, R257, R370). -/
def Stack.narrowMark (s : Stack) (loc : Nat) : Stack :=
  (s.meetCodeword (loc / 16) 4 (loc / 16 * 16)).setMark (loc / 16) (s.mark (loc / 16)).afterPartial

/-- An element written, with bits [15:14] 0 (R257). -/
def Stack.writeElem (s : Stack) (i n mem e v : Nat) : Stack :=
  (s.writeBytes (elemLoc i n mem e) (toBytes 2 (v % 2 ^ 14))).narrowMark (elemLoc i n mem e)

/-- The four elements of a quad written (R257). -/
def Stack.writeQuad (s : Stack) (i n mem e : Nat) (q : List Nat) : Stack :=
  ((List.range 4).foldl (fun (s : Stack) h =>
    s.writeBytes (elemLoc i n mem (4 * (e / 4) + h)) (toBytes 2 (q.getD h 0 % 2 ^ 14))) s).narrowMark (elemLoc i n mem (4 * (e / 4)))

/-- An instruction word of P (R256). -/
def Stack.readInstr (s : Stack) (i n pc : Nat) : Nat := ofBytes (s.readBytes (feBase i n + 0xC000 + 4 * (pc % 4096)) 4)

/-! ## Quads in registers and ports (R102, R257, R284) -/

/-- The lanes of a quad packed into 56 bits (R102). -/
def packQuad (q : List Nat) : Nat := (List.range 4).foldl (fun acc h => acc + (q.getD h 0 % 2 ^ 14) * 2 ^ (14 * h)) 0

/-- The lanes of a 56-bit quad (R102). -/
def unpackQuad (v : Nat) : List Nat := (List.range 4).map fun h => bits v (14 * h) 14

/-- A bank's general register. -/
def FeBank.getG (b : FeBank) (r : Nat) : Nat := mapGet 0 b.g r

/-- A general register written. -/
def FeBank.setG (b : FeBank) (r v : Nat) : FeBank := { b with g := mapSet 0 b.g r (v % 2 ^ 32) }

/-- A pair read as a quad (R284). -/
def FeBank.pair (b : FeBank) (d : Nat) : List Nat :=
  [bits (b.getG d) 0 14, bits (b.getG d) 16 14, bits (b.getG (d + 1)) 0 14, bits (b.getG (d + 1)) 16 14]

/-- A quad written into a pair (R284). -/
def FeBank.setPair (b : FeBank) (d : Nat) (q : List Nat) : FeBank :=
  (b.setG d (q.getD 0 0 % 2 ^ 14 + 0x10000 * (q.getD 1 0 % 2 ^ 14))).setG (d + 1) (q.getD 2 0 % 2 ^ 14 + 0x10000 * (q.getD 3 0 % 2 ^ 14))

/-- A bank's accumulator. -/
def FeBank.getAcc (b : FeBank) (h : Nat) : Nat := mapGet 0 b.acc h

/-- An accumulator written. -/
def FeBank.setAcc (b : FeBank) (h v : Nat) : FeBank := { b with acc := mapSet 0 b.acc h (v % 2 ^ 48) }

/-- A bank's address register. -/
def FeBank.getA (b : FeBank) (n : Nat) : Nat := mapGet 0 b.a n

/-- The bank with An modified after use in memory `mem`, if U is 1 (R261, R283). -/
def FeBank.afterUse (b : FeBank) (free mem n : Nat) (u : Bool) : FeBank :=
  if u then
    let v := nextAddress free (memSize mem) (mapGet 0 b.mode n) (b.getA n) (mapGet 0 b.step n) (mapGet 0 b.base n) (mapGet 0 b.len n)
    { b with a := mapSet 0 b.a n v }
  else b

/-! ## Decoding (R283, R287, R304) -/

/-- Whether only bits of a mask are set in [25:0]: the rest is reserved (R283). -/
def onlyBits (w mask : Nat) : Bool := (w % 2 ^ 26) &&& (2 ^ 26 - 1 - mask) == 0

/-- Mask of bits [lo + n - 1 : lo]. -/
def maskOf (lo n : Nat) : Nat := (2 ^ n - 1) * 2 ^ lo

/-- SPR numbers that MFS may read (R286). -/
def sprRead (n : Nat) : Bool := n ≤ 9 || (16 ≤ n && n < 32)

/-- SPR numbers that MTS may write (R286). -/
def sprWrite (n : Nat) : Bool := n ≤ 3

/-- The field rules of R304: MEM 0b11, an odd pair register, a forbidden SPR, SH above 47, and what R296 to R299 require. -/
def FeOp.legal : FeOp → Bool
  | .mfs _ spr => sprRead spr
  | .mts _ spr => sprWrite spr
  | .pushq mem _ _ _ _ => mem != 3
  | .sendq mem _ _ _ _ => mem != 3
  | .inq d _ => d % 2 == 0
  | .outq sh _ _ _ _ => decide (sh ≤ 47)
  | .mace _ mem _ _ _ _ _ _ _ _ => decide (mem < 2)
  | .movag _ _ sh _ => decide (sh ≤ 47)
  | .staq mem _ _ sh _ _ => mem != 3 && decide (sh ≤ 47)
  | .alu .cmp d _ _ => d == 0
  | .seta _ src s imm => if src then imm == 0 else s == 0
  | .ld _ mem _ _ _ => mem != 3
  | .st _ mem _ _ => mem != 3
  | .ldq d mem _ _ => mem != 3 && d % 2 == 0
  | .stq r mem _ _ => mem != 3 && r % 2 == 0
  | _ => true

/-- An operation if its reserved bits are 0. -/
def given (ok : Bool) (o : FeOp) : Option FeOp := if ok then some o else Option.none

/-- The operations of R298 by major opcode. -/
def aluOf (op : Nat) : AluOp :=
  match op with
  | 0x28 => .add | 0x29 => .sub | 0x2A => .and | 0x2B => .or | 0x2C => .xor | 0x2D => .shl | 0x2E => .shr | 0x2F => .asr
  | 0x30 => .min | 0x31 => .max | _ => .cmp

/-- The instruction that a word spells; none for an unassigned opcode or a reserved bit set (R283, R287). -/
def feDecode (w : Nat) : Option FeOp :=
  let f := fun lo n => bits w lo n
  let t := fun i => bit w i
  match w / 2 ^ 26 % 64 with
  | 0x00 => given (onlyBits w 0) .nop
  | 0x01 => given (onlyBits w 0) .halt
  | 0x02 => given (onlyBits w 0) .signal
  | 0x03 => given (onlyBits w (maskOf 22 4 + maskOf 0 12)) (.br (f 22 4) (f 0 12))
  | 0x04 => given (onlyBits w (maskOf 0 12)) (.brl (f 0 12))
  | 0x05 => given (onlyBits w (maskOf 20 3)) (.jr (f 20 3))
  | 0x06 => given (onlyBits w (maskOf 20 6 + maskOf 0 16)) (.rep (f 20 6) (f 0 16))
  | 0x07 => given (onlyBits w (maskOf 20 6 + maskOf 17 3)) (.repr (f 20 6) (f 17 3))
  | 0x08 => given (onlyBits w 0) .reti
  | 0x09 => given (onlyBits w (maskOf 16 4)) (.waitm (f 18 2) (f 16 2))
  | 0x0A => given (onlyBits w (maskOf 23 3 + maskOf 0 5)) (.mfs (f 23 3) (f 0 5))
  | 0x0B => given (onlyBits w (maskOf 20 3 + maskOf 0 5)) (.mts (f 20 3) (f 0 5))
  | 0x10 => given (onlyBits w (maskOf 16 10)) (.pushq (f 24 2) (f 21 3) (t 20) (f 18 2) (f 16 2))
  | 0x11 => given (onlyBits w (maskOf 16 10)) (.sendq (f 24 2) (f 21 3) (t 20) (f 18 2) (f 16 2))
  | 0x12 => given (onlyBits w (maskOf 23 3 + maskOf 18 2)) (.inq (f 23 3) (f 18 2))
  | 0x13 => given (onlyBits w (maskOf 20 6 + maskOf 14 6)) (.outq (f 20 6) (f 18 2) (f 16 2) (t 15) (t 14))
  | 0x18 => given (onlyBits w (maskOf 12 14)) (.tap (f 23 3) (f 20 3) (t 19) (t 18) (t 17) (t 16) (t 15) (t 14) (t 13) (t 12))
  | 0x19 => given (onlyBits w (maskOf 18 8 + maskOf 16 1 + maskOf 12 3))
      (.macq (f 23 3) (f 20 3) (t 19) (t 18) (t 16) (t 14) (t 13) (t 12))
  | 0x1A => given (onlyBits w (maskOf 10 16))
      (.mace (f 24 2) (f 22 2) (f 19 3) (f 16 3) (t 15) (t 14) (t 13) (t 12) (t 11) (t 10))
  | 0x1B => given (onlyBits w (maskOf 22 4)) (.clra (f 22 4))
  | 0x1C => given (onlyBits w (maskOf 14 12)) (.movag (f 23 3) (f 21 2) (f 15 6) (t 14))
  | 0x1D => given (onlyBits w (maskOf 24 2 + maskOf 20 3)) (.movga (f 24 2) (f 20 3))
  | 0x1E => given (onlyBits w (maskOf 16 10)) (.shfa (f 22 4) (f 16 6))
  | 0x1F => given (onlyBits w (maskOf 12 14)) (.staq (f 24 2) (f 21 3) (t 20) (f 14 6) (t 13) (t 12))
  | 0x20 => given (onlyBits w (maskOf 24 2)) (.suma (f 24 2))
  | 0x33 => given (onlyBits w (maskOf 20 6 + maskOf 0 16)) (.addi (f 23 3) (f 20 3) (f 0 16))
  | 0x34 => given (onlyBits w (maskOf 23 3 + maskOf 0 16)) (.ldi (f 23 3) (f 0 16))
  | 0x35 => given (onlyBits w (maskOf 23 3 + maskOf 0 16)) (.lui (f 23 3) (f 0 16))
  | 0x38 => given (onlyBits w (maskOf 19 7 + maskOf 0 13)) (.seta (f 23 3) (t 22) (f 19 3) (f 0 13))
  | 0x39 => given (onlyBits w (maskOf 21 5 + maskOf 0 16)) (.setm (f 23 3) (f 21 2) (f 0 16))
  | 0x3A => given (onlyBits w (maskOf 23 3 + maskOf 0 13)) (.setbl (f 23 3) (f 0 13))
  | 0x3B => given (onlyBits w (maskOf 20 6)) (.movra (f 23 3) (f 20 3))
  | 0x3C => given (onlyBits w (maskOf 16 10)) (.ld (f 23 3) (f 21 2) (f 18 3) (t 17) (t 16))
  | 0x3D => given (onlyBits w (maskOf 17 9)) (.st (f 23 3) (f 21 2) (f 18 3) (t 17))
  | 0x3E => given (onlyBits w (maskOf 17 9)) (.ldq (f 23 3) (f 21 2) (f 18 3) (t 17))
  | 0x3F => given (onlyBits w (maskOf 17 9)) (.stq (f 23 3) (f 21 2) (f 18 3) (t 17))
  | op => if 0x28 ≤ op ∧ op ≤ 0x32 then given (onlyBits w (maskOf 17 9)) (.alu (aluOf op) (f 23 3) (f 20 3) (f 17 3)) else Option.none

end Sys2Proof.Machine
end

