-- ==== Sys2Proof/Machine/Fe.lean ====
section
/-! DEFINITION. The filter engines: the pipeline, traps, interrupts, stream ports, commands and external accesses (R254 to R282). -/

namespace Sys2Proof.Machine

/-! ## Engines -/

/-- Engine n of logic layer index i. -/
def Stack.engine (s : Stack) (i n : Nat) : Engine := mapGet {} s.engines (192 * i + n)

/-- An engine replaced. -/
def Stack.setEngine (s : Stack) (i n : Nat) (e : Engine) : Stack := { s with engines := mapSet {} s.engines (192 * i + n) e }

/-- An engine changed. -/
def Stack.modEngine (s : Stack) (i n : Nat) (f : Engine → Engine) : Stack := s.setEngine i n (f (s.engine i n))

/-- A bank of an engine: the shadow bank or the main bank. -/
def Engine.bank (e : Engine) (sh : Bool) : FeBank := if sh then e.shad else e.main

/-- A bank of an engine changed. -/
def Engine.modBank (e : Engine) (sh : Bool) (f : FeBank → FeBank) : Engine :=
  if sh then { e with shad := f e.shad } else { e with main := f e.main }

/-- A bank of an engine of a stack changed. -/
def Stack.modFeBank (s : Stack) (i n : Nat) (sh : Bool) (f : FeBank → FeBank) : Stack := s.modEngine i n fun e => e.modBank sh f

/-- A stream-port FIFO: 0 to 3 IN, 4 to 7 OUT. -/
def Engine.fifo (e : Engine) (p : Nat) : List Quad := mapGet [] e.fifos p

/-- A stream-port FIFO replaced. -/
def Engine.setFifo (e : Engine) (p : Nat) (l : List Quad) : Engine := { e with fifos := mapSet [] e.fifos p l }

/-- A threshold: values above 16 act as 16 (R286). -/
def feThreshold (v : Nat) : Nat := Nat.min v 16

/-- IP: the pending sources (R266). -/
def Engine.ip (e : Engine) : Nat :=
  b2n e.bell
  + (List.range 4).foldl (fun acc p => acc + (if feThreshold (bits e.thresh 0 5) ≤ (e.fifo p).length then 2 ^ (p + 1) else 0)) 0
  + (List.range 4).foldl (fun acc p => acc + (if feThreshold (bits e.thresh 8 5) ≤ 16 - (e.fifo (4 + p)).length then 2 ^ (p + 5) else 0)) 0

/-- Whether an interrupt is taken at the next boundary (R267): a source both pending and enabled, the global enable 1, the main
bank live. -/
def Engine.interrupts (e : Engine) : Bool := !e.shadow && bit e.ie 0 && (e.ip &&& (e.ie / 2)) != 0

/-- Entry to the shadow bank at an address, with nothing fetched: the main bank is frozen where it stands, and the first instruction is
fetched in the first cycle and issues in the second (R267, R270). Instructions of an earlier handler that were in flight at its RETI still
complete into the shadow bank (R268, log 116). -/
def Engine.enterShadow (e : Engine) (pc : Nat) : Engine :=
  let b := e.shad
  { e with
    shadow := true, ie := setBit e.ie 0 false
    shad := { b with pc := pc, f := Option.none } }

/-! ## Traps (R269, R270) -/

/-- Register block number of FE_nn. -/
def feBlock (i : Nat) : Nat := 0x50 + i

/-- A pending bit of an engine set in one of the six-word registers of R281. -/
def Stack.fePend (s : Stack) (f : Nat → Nat → Field) (i n : Nat) : Stack :=
  s.put (f i (n / 32)) (setBit (s.get (f i (n / 32))) (n % 32) true)

/-- The fault of an engine, a level-1 resource whose parent is its layer (R45, R271): its recovery is the trap itself, which raises
SYS.INT.RECOV and is complete once recorded; while a recovery of its layer or stack is in progress it is absorbed, and in Haven it is only
recorded (R47). FETCH and DATA traps go to the event log (R270). -/
def Stack.engineFault (s : Stack) (i n cause : Nat) : Stack :=
  let own := match s.faultKind (.engine (logicLayer i) n) with
    | .recorded => false
    | .absorbed => false
    | .escalates _ => true
    | .starts => true
  let t := if own then s.raise SYS.INT_RECOV else s
  if cause = 1 ∨ cause = 3 then t.event { block := feBlock i, cause := cause, level := b2n own, data0 := n } else t

/-- A trap: from the main bank it enters the shadow bank at 0x008 and records CAUSE and PC; in the shadow bank it sets DOUBLE and
the engine is Trapped; either is a fault of the engine (R270, R271). -/
def Stack.feTrap (s : Stack) (i n cause pc : Nat) : Stack :=
  let e := s.engine i n
  let s :=
    if e.shadow then (s.setEngine i n { e with st := 4 }).put (FE.TRAP_DOUBLE i n) 1
    else ((s.setEngine i n (e.enterShadow 0x008)).put (FE.TRAP_CAUSE i n) cause).put (FE.TRAP_PC i n) pc
  (s.fePend FE.TRAP_PEND_PEND i n).engineFault i n cause

/-! ## Memory errors (R269, R277, R370) -/

/-- Whether the codeword of a location is uncorrectable or holds the poison pattern. -/
def Stack.cwBad (s : Stack) (loc : Nat) : Bool := s.mark (loc / 16) == .uncorrectable || s.mark (loc / 16) == .poison

/-- The location read is met by its checker: an error is counted with the source of filter-engine memories (R370). -/
def Stack.feMeet (s : Stack) (loc : Nat) : Stack := s.meetCodeword (loc / 16) 4 (loc / 16 * 16)

/-! ## Which memories and ports an instruction uses -/

/-- The memories that an instruction reads in stage O, with the address it uses (R258). -/
def FeSlot.reads (x : FeSlot) : List (Nat × Nat) :=
  match x.op with
  | .sendq mem _ _ _ _ => [(mem, x.adr)]
  | .tap _ _ _ _ _ _ _ _ _ _ => [(1, x.adr), (2, x.adr2)]
  | .macq _ _ _ _ _ _ _ _ => [(0, x.adr), (1, x.adr2)]
  | .mace _ mem _ _ _ _ _ _ _ _ => [(mem, x.adr), (2, x.adr2)]
  | .ld _ mem _ _ _ => [(mem, x.adr)]
  | .ldq _ mem _ _ => [(mem, x.adr)]
  | _ => []

/-- The memory that an instruction writes in stage W (R301). -/
def FeOp.writesMem : FeOp → Option Nat
  | .pushq mem _ _ _ _ => some mem
  | .staq mem _ _ _ _ _ => some mem
  | .st _ mem _ _ => some mem
  | .stq _ mem _ _ => some mem
  | _ => Option.none

/-- The input port that an instruction reads in stage O (R291, R294). -/
def FeOp.inPort : FeOp → Option Nat
  | .pushq _ _ _ p _ => some p
  | .inq _ p => some p
  | .waitm p _ => some p
  | _ => Option.none

/-- The output port that an instruction writes in stage W (R291). -/
def FeOp.outPort : FeOp → Option Nat
  | .sendq _ _ _ p _ => some p
  | .outq _ p _ _ _ => some p
  | _ => Option.none

/-- Whether a head mark satisfies WAITM (R294). -/
def waitmOk (want mark : Nat) : Bool :=
  match want with
  | 0 => true
  | 1 => mark == 1 || mark == 2
  | 2 => mark == 2
  | _ => mark == 3

/-! ## Stage W -/

/-- Accumulators h of a list replaced by a function of their old value; AV is set where one saturated (R295). -/
def FeBank.accEach (b : FeBank) (hs : List Nat) (f : Nat → Nat → Nat × Bool) : FeBank :=
  hs.foldl (fun b h =>
    let r := f h (b.getAcc h)
    { b.setAcc h r.1 with flags := sticky b.flags flagAV r.2 }) b

/-- Accumulators of a list set to 0. -/
def FeBank.accClear (b : FeBank) (hs : List Nat) : FeBank := hs.foldl (fun b h => b.setAcc h 0) b

/-- The lanes whose MASK bit is set (R296). -/
def maskLanes (mask : Nat) : List Nat := [0, 1, 2, 3].filter (bit mask)

/-- The four accumulators, as stage O read them, narrowed to a quad; whether any was clamped (R293). -/
def narrowQuad (vals : List Nat) (sh : Nat) (uns : Bool) : List Nat × Bool :=
  let r := [0, 1, 2, 3].map fun h => narrowAcc (vals.getD h 0) sh uns
  (r.map (·.1), r.any (·.2))

/-- What stage W of an instruction writes into its own bank (R262, R300). -/
def FeBank.writeBack (b : FeBank) (x : FeSlot) : FeBank :=
  let v := fun k => x.vals.getD k 0
  match x.op with
  | .brl _ => b.setG 7 ((x.pc + 2) % 4096)
  | .mfs d _ => b.setG d (v 0)
  | .mts _ 0 => { b with flags := v 0 % 256 }
  | .pushq _ _ _ _ _ => { b with flags := setMk b.flags x.mark }
  | .waitm _ _ => { b with flags := setMk b.flags x.mark }
  | .inq d _ => { b.setPair d x.vals with flags := setMk b.flags x.mark }
  | .outq sh _ _ clr uns =>
    let b := { b with flags := sticky b.flags flagOS (narrowQuad x.vals sh uns).2 }
    if clr then b.accClear [0, 1, 2, 3] else b
  | .staq _ _ _ sh uns clr =>
    let b := { b with flags := sticky b.flags flagOS (narrowQuad x.vals sh uns).2 }
    if clr then b.accClear [0, 1, 2, 3] else b
  | .tap _ _ _ _ _ neg _ sy sc clr =>
    b.accEach [0, 1, 2, 3] fun h a => accumulate a (operand14 (v h) sy) (operand14 (v (4 + h)) sc) neg clr
  | .macq _ _ _ _ neg sx sy clr =>
    b.accEach [0, 1, 2, 3] fun h a => accumulate a (operand14 (v h) sx) (operand14 (v (4 + h)) sy) neg clr
  | .mace k _ _ _ _ _ neg s1 sc clr =>
    b.accEach [k] fun _ a => accumulate a (operand14 (v 0) s1) (operand14 (v 1) sc) neg clr
  | .clra mask => b.accClear (maskLanes mask)
  | .movag d _ sh rnd =>
    let r := movagValue (v 0) sh rnd
    { b.setG d r.1 with flags := sticky b.flags flagOS r.2 }
  | .movga k _ => b.setAcc k (wrapInt 48 (signed (v 0) 32))
  | .shfa mask sh => b.accEach (maskLanes mask) fun _ a => shiftAcc a sh
  | .suma k =>
    let r := clamp48 ([0, 1, 2, 3].foldl (fun t h => t + signed (b.getAcc h) 48) 0)
    { b.setAcc k r.1 with flags := sticky b.flags flagAV r.2 }
  | .alu op d _ _ =>
    let r := aluResult op (v 0) (v 1) b.flags
    let b := { b with flags := r.2 }
    if op = .cmp then b else b.setG d r.1
  | .addi d _ imm =>
    let r := aluResult .add (v 0) (wrapInt 32 (signed imm 16)) b.flags
    { b.setG d r.1 with flags := r.2 }
  | .ldi d imm => b.setG d (wrapInt 32 (signed imm 16))
  | .lui d imm => b.setG d (imm * 0x10000 + b.getG d % 0x10000)
  | .movra d _ => b.setG d x.adr
  | .ld d _ _ _ sg => b.setG d (if sg then wrapInt 32 (signed (v 0) 14) else v 0)
  | .ldq d _ _ _ => b.setPair d x.vals
  | _ => b

/-- Stage W of an instruction: its bank, its memory, its output port, and the special registers of the engine (R262, R286). -/
def Stack.feWrite (s : Stack) (i n : Nat) (sh : Bool) (x : FeSlot) : Stack :=
  let s := s.modFeBank i n sh fun b => b.writeBack x
  match x.op with
  | .signal => s.fePend FE.SIGNAL_PEND_PEND i n
  | .mts _ 1 => s.modEngine i n fun e => { e with ie := x.vals.getD 0 0 % 2 ^ 10 }
  | .mts _ 2 => s.modEngine i n fun e => if bit (x.vals.getD 0 0) 0 then { e with bell := false } else e
  | .mts _ 3 => s.modEngine i n fun e => { e with thresh := bits (x.vals.getD 0 0) 0 5 + 256 * bits (x.vals.getD 0 0) 8 5 }
  | .pushq mem _ _ _ _ => s.writeQuad i n mem x.adr x.vals
  | .sendq _ _ _ p mark => s.modEngine i n fun e => e.setFifo (4 + p) (e.fifo (4 + p) ++ [⟨packQuad x.vals, mark⟩])
  | .outq sh' p mark _ uns =>
    s.modEngine i n fun e => e.setFifo (4 + p) (e.fifo (4 + p) ++ [⟨packQuad (narrowQuad x.vals sh' uns).1, mark⟩])
  | .staq mem _ _ sh' uns _ => s.writeQuad i n mem x.adr (narrowQuad x.vals sh' uns).1
  | .st _ mem _ _ => s.writeElem i n mem x.adr (x.vals.getD 0 0)
  | .stq _ mem _ _ => s.writeQuad i n mem x.adr x.vals
  | _ => s

/-! ## Stage O -/

/-- A special register as MFS reads it (R286). -/
def Stack.feSpr (s : Stack) (i n : Nat) (sh : Bool) (spr : Nat) : Nat :=
  let e := s.engine i n
  let b := e.bank sh
  let depth := b.levels.length
  match spr with
  | 0 => b.flags
  | 1 => e.ie
  | 2 => e.ip
  | 3 => e.thresh
  | 4 => e.dbv
  | 5 => ((b.levels.reverse)[0]?.map (·.left)).getD 0
  | 6 => ((b.levels.reverse)[1]?.map (·.left)).getD 0
  | 7 => ((b.levels.reverse)[2]?.map (·.left)).getD 0
  | 8 => depth
  | 9 => n + 256 * logicLayer i
  | k =>
    if 24 ≤ k then mapGet 0 b.base (k - 24) + 0x10000 * mapGet 0 b.len (k - 24)
    else mapGet 0 b.mode (k - 16) + 0x10000 * mapGet 0 b.step (k - 16)

/-- What stage O reads: registers, accumulators, memories and the head of an input port (R262, R300). -/
def Stack.feOperands (s : Stack) (i n : Nat) (sh : Bool) (x : FeSlot) : FeSlot :=
  let e := s.engine i n
  let b := e.bank sh
  let accs := [0, 1, 2, 3].map b.getAcc
  let head := fun p => ((e.fifo p).head?).getD ⟨0, 0⟩
  match x.op with
  | .mfs _ spr => { x with vals := [s.feSpr i n sh spr] }
  | .mts s1 _ => { x with vals := [b.getG s1] }
  | .pushq _ _ _ p _ => { x with vals := unpackQuad (head p).data, mark := (head p).mark }
  | .inq _ p => { x with vals := unpackQuad (head p).data, mark := (head p).mark }
  | .waitm p _ => { x with mark := (head p).mark }
  | .sendq mem _ _ _ _ => { x with vals := s.readQuad i n mem x.adr }
  | .outq _ _ _ _ _ => { x with vals := accs }
  | .staq _ _ _ _ _ _ => { x with vals := accs }
  | .movag _ k _ _ => { x with vals := [b.getAcc k] }
  | .movga _ s1 => { x with vals := [b.getG s1] }
  | .tap _ _ _ _ mv _ cq _ _ _ =>
    let d := if mv then b.pair 6 else s.readQuad i n 1 x.adr
    let c := if cq then s.readQuad i n 2 x.adr2 else List.replicate 4 (s.readElem i n 2 x.adr2)
    { x with vals := d ++ c }
  | .macq _ _ _ _ _ _ _ _ => { x with vals := s.readQuad i n 0 x.adr ++ s.readQuad i n 1 x.adr2 }
  | .mace _ mem _ _ _ _ _ _ _ _ => { x with vals := [s.readElem i n mem x.adr, s.readElem i n 2 x.adr2] }
  | .alu _ _ s1 s2 => { x with vals := [b.getG s1, b.getG s2] }
  | .addi _ s1 _ => { x with vals := [b.getG s1] }
  | .ld _ mem _ _ _ => { x with vals := [s.readElem i n mem x.adr] }
  | .ldq _ mem _ _ => { x with vals := s.readQuad i n mem x.adr }
  | .st r _ _ _ => { x with vals := [b.getG r] }
  | .stq r _ _ _ => { x with vals := b.pair r }
  | _ => x

/-- What stage O itself changes: a quad taken from its port, and TAP's exchange with the delay line (R291, R297). -/
def Stack.feTake (s : Stack) (i n : Nat) (sh : Bool) (x : FeSlot) : Stack :=
  match x.op with
  | .pushq _ _ _ p _ => s.modEngine i n fun e => e.setFifo p ((e.fifo p).drop 1)
  | .inq _ p => s.modEngine i n fun e => e.setFifo p ((e.fifo p).drop 1)
  | .tap _ _ _ _ true _ _ _ _ _ =>
    let q := s.readQuad i n 1 x.adr
    let m := ((s.engine i n).bank sh).pair 6
    (s.writeQuad i n 1 x.adr m).modFeBank i n sh fun b => b.setPair 6 q
  | _ => s

/-! ## Stalls (R264, R292, R294) -/

/-- Whether a slot's output FIFO is full in stage W. -/
def Engine.outBlocked (e : Engine) (x : Option FeSlot) : Bool :=
  match x.bind fun y => y.op.outPort with
  | some p => decide (16 ≤ (e.fifo (4 + p)).length)
  | Option.none => false

/-- Whether a slot waits on its input FIFO in stage O: it is empty, or its head does not satisfy WAITM. -/
def Engine.inBlocked (e : Engine) (x : Option FeSlot) : Bool :=
  match x with
  | Option.none => false
  | some y =>
    match y.op, y.op.inPort with
    | .waitm _ want, some p =>
      match (e.fifo p).head? with
      | some q => !waitmOk want q.mark
      | Option.none => true
    | _, some p => (e.fifo p).isEmpty
    | _, Option.none => false

/-- The banks whose pipelines advance: the live one, and the shadow bank's last instructions after a return (R268). -/
def Engine.running (e : Engine) : List Bool := if e.shadow then [true] else [true, false]

/-- The stall of the next cycle: 2 output FIFO, 1 input FIFO, 0 none (R264, R282). -/
def Engine.stallNow (e : Engine) : Nat :=
  if e.running.any fun b => e.outBlocked (e.bank b).w then 2
  else if e.running.any fun b => e.inBlocked (e.bank b).o then 1
  else 0

/-- The head quad that does not satisfy WAITM is discarded, one per cycle (R294). -/
def Engine.discardHead (e : Engine) : Engine :=
  e.running.foldl (fun e b =>
    match (e.bank b).o with
    | some y =>
      match y.op with
      | .waitm p _ => if e.inBlocked (some y) then e.setFifo p ((e.fifo p).drop 1) else e
      | _ => e
    | Option.none => e) e

/-! ## Stage D (R262, R289, R302) -/

/-- Whether address `p` lies in a level's block, with addresses wrapping from 0xFFF to 0x000 (R287, R302). -/
def FeLevel.contains (l : FeLevel) (p : Nat) : Bool :=
  decide ((p + 4096 - l.start) % 4096 ≤ (l.last + 4096 - l.start) % 4096)

/-- A branch of any kind. -/
def FeOp.isBranch : FeOp → Bool
  | .br _ _ | .brl _ | .jr _ => true
  | _ => false

/-- Whether an instruction stands illegally by position (R301, R303). -/
def FeBank.badPlace (b : FeBank) (shadow : Bool) (x : FeSlot) : Bool :=
  let atEnd := b.levels.any fun l => l.last == x.pc || l.last == (x.pc + 1) % 4096
  let opens := match x.op with
    | .rep len _ => some len
    | .repr len _ => some len
    | _ => Option.none
  (b.slot && (x.op.isBranch || opens.isSome || x.op == .reti || x.op == .halt))
  || (atEnd && (x.op.isBranch || x.op == .halt))
  || (match opens, b.levels with
      | some len, l :: _ =>
        decide ((l.last + 4096 - l.start) % 4096 < (x.pc + 1 + len + 4096 - l.start) % 4096)
      | _, _ => false)
  || (x.op == .reti && !shadow)
  || (x.op == .halt && shadow)
  || (match b.e.bind fun y => y.op.writesMem with
      | some m => x.reads.any fun r => r.1 == m
      | Option.none => false)

/-- The end of a block: the innermost level runs again or closes, and the next outer level that ends there is tested (R302). -/
def loopEnd : List FeLevel → Nat → List FeLevel × Option Nat
  | [], _ => ([], Option.none)
  | l :: t, pc =>
    if l.last = pc then
      if l.left = 0 then loopEnd t pc else ({ l with left := l.left - 1, cached := true } :: t, some l.start)
    else (l :: t, Option.none)

/-- The levels that a taken branch leaves open: a level outside whose block the target lies closes with every level inside it
(R302). -/
def branchLevels : List FeLevel → Nat → List FeLevel
  | [], _ => []
  | l :: t, target =>
    let rest := branchLevels t target
    if l.contains target && rest.length == t.length then l :: rest else rest

/-- The next program address and levels after an instruction at `pc` has issued and is neither a branch nor a repeat (R302). -/
def FeBank.advancePc (b : FeBank) : FeBank :=
  match b.target with
  | some t => { b with pc := t, target := Option.none, slot := false, issued := 0, levels := branchLevels b.levels t, f := Option.none }
  | Option.none =>
    let r := loopEnd b.levels b.pc
    { b with pc := r.2.getD ((b.pc + 1) % 4096), slot := false, issued := 0, levels := r.1, f := Option.none }

/-- The slot that an instruction takes as it issues, with the addresses that stage D fixes (R263). -/
def FeBank.slotOf (b : FeBank) (op : FeOp) : FeSlot :=
  let x : FeSlot := { op := op, pc := b.pc }
  match op with
  | .pushq _ a _ _ _ | .sendq _ a _ _ _ | .staq _ a _ _ _ _ | .movra _ a | .ld _ _ a _ _ | .st _ _ a _ | .ldq _ _ a _
  | .stq _ _ a _ => { x with adr := b.getA a }
  | .tap ya ca _ _ _ _ _ _ _ _ => { x with adr := b.getA ya, adr2 := b.getA ca }
  | .macq xa ya _ _ _ _ _ _ => { x with adr := b.getA xa, adr2 := b.getA ya }
  | .mace _ _ a1 ac _ _ _ _ _ _ => { x with adr := b.getA a1, adr2 := b.getA ac }
  | _ => x

/-- The address registers and modifiers at the end of stage D (R261, R299). -/
def FeBank.decodeStage (b : FeBank) (free : Nat) (op : FeOp) : FeBank :=
  match op with
  | .pushq mem a u _ _ => b.afterUse free mem a u
  | .sendq mem a u _ _ => b.afterUse free mem a u
  | .staq mem a u _ _ _ => b.afterUse free mem a u
  | .ld _ mem a u _ => b.afterUse free mem a u
  | .st _ mem a u => b.afterUse free mem a u
  | .ldq _ mem a u => b.afterUse free mem a u
  | .stq _ mem a u => b.afterUse free mem a u
  | .tap ya ca uy uc _ _ _ _ _ _ => (b.afterUse free 1 ya uy).afterUse free 2 ca uc
  | .macq xa ya ux uy _ _ _ _ => (b.afterUse free 0 xa ux).afterUse free 1 ya uy
  | .mace _ mem a1 ac u1 uc _ _ _ _ => (b.afterUse free mem a1 u1).afterUse free 2 ac uc
  | .seta a src r imm => { b with a := mapSet 0 b.a a (if src then b.getG r % 2 ^ 13 else imm) }
  | .setm a mode step => { b with mode := mapSet 0 b.mode a mode, step := mapSet 0 b.step a step }
  | .setbl a len => { b with base := mapSet 0 b.base a (b.getA a), len := mapSet 0 b.len a len }
  | _ => b

/-- A repeat block opened, or skipped by a count of 0 (R289, R302). -/
def FeBank.openBlock (b : FeBank) (len count : Nat) : FeBank :=
  if count = 0 then { b with pc := (b.pc + len + 2) % 4096, f := Option.none }
  else
    let count := Nat.min count 65536
    { b with
      pc := (b.pc + 1) % 4096
      f := Option.none
      levels := { start := (b.pc + 1) % 4096, last := (b.pc + 1 + len) % 4096, left := count - 1 } :: b.levels }

/-- A branch decided in stage D: the next instruction stands in its delay slot (R263, R289). -/
def FeBank.branch (b : FeBank) (target : Option Nat) : FeBank :=
  { b with pc := (b.pc + 1) % 4096, slot := true, target := target, f := Option.none }

/-- What stage D of an instruction does to the program address, the levels and the banks (R268, R289, R302). -/
def Engine.issue (e : Engine) (free : Nat) (op : FeOp) : Engine :=
  let sh := e.shadow
  let b0 := e.bank sh
  let x := b0.slotOf op
  let b := { b0.decodeStage free op with o := some x }
  match op with
  | .br cond target => e.modBank sh fun _ => b.branch (if condHolds cond b.flags then some target else Option.none)
  | .brl target => e.modBank sh fun _ => b.branch (some target)
  | .jr s1 => e.modBank sh fun _ => b.branch (some (b.getG s1 % 4096))
  | .rep len count => e.modBank sh fun _ => b.openBlock len (count + 1)
  | .repr len s2 => e.modBank sh fun _ => b.openBlock len (b.getG s2)
  | .halt => e.modBank sh fun _ => { b with pc := (b.pc + 1) % 4096, halting := true, o := Option.none, f := Option.none }
  | .reti =>
    { (e.modBank sh fun _ => { b with pc := (b.pc + 1) % 4096, f := Option.none }) with shadow := false, ie := setBit e.ie 0 true }
  | .pushq _ _ _ _ cnt =>
    e.modBank sh fun _ => if b.issued < cnt then { b with issued := b.issued + 1 } else b.advancePc
  | _ => e.modBank sh fun _ => b.advancePc

/-! ## One engine cycle -/

/-- The instruction that would issue next and its trap cause, 0 for none: the one commanded, or the one fetched (R262, R269, R304).
`Option.none` when no instruction issues in this cycle: nothing has been fetched, or HALT has issued. -/
def Stack.feNext (s : Stack) (i n : Nat) (forced : Option FeOp) : Option (Option FeOp × Nat) :=
  let e := s.engine i n
  let b := e.bank e.shadow
  if b.halting then Option.none
  else match b.f with
  | Option.none => Option.none
  | some q =>
    let op := match forced with
      | some o => some o
      | Option.none => feDecode q.word
    if forced.isNone && q.bad then some (op, 1)
    else match op with
      | Option.none => some (Option.none, 2)
      | some o =>
        let x := b.slotOf o
        let deep := match o with
          | .rep _ _ | .repr _ _ => decide (3 ≤ b.levels.length)
          | _ => false
        if deep then some (op, 4)
        else if !o.legal || b.badPlace e.shadow x then some (op, 2)
        else some (op, 0)

/-- The first element that a read of an instruction meets: TAP's quads begin at a multiple of four (R257, R297). -/
def FeSlot.firstElem (x : FeSlot) (r : Nat × Nat) : Nat :=
  match x.op with
  | .tap _ _ _ _ _ _ cq _ _ _ => if r.1 = 2 ∧ cq = false then r.2 else 4 * (r.2 / 4)
  | _ => r.2

/-- Stage O of a bank's slot: its checkers meet the codewords read; a bad one is a DATA trap (R269, R305). -/
def Stack.feStageO (s : Stack) (i n : Nat) (sh : Bool) : Stack × Bool :=
  match ((s.engine i n).bank sh).o with
  | Option.none => (s, false)
  | some x =>
    let locs := x.reads.map fun r => elemLoc i n r.1 (x.firstElem r)
    let bad := locs.any s.cwBad
    let s := locs.foldl (fun s l => s.feMeet l) s
    if bad then (s, true)
    else
      let y := s.feOperands i n sh x
      ((s.feTake i n sh x).modFeBank i n sh fun b => { b with o := some y }, false)

/-- The pipeline of a bank moves on by one stage (R262). -/
def FeBank.shift (b : FeBank) : FeBank := { b with w := b.e, e := b.o, o := Option.none }

/-- Stage W of a bank's slot. -/
def Stack.feStageW (s : Stack) (i n : Nat) (sh : Bool) : Stack :=
  match ((s.engine i n).bank sh).w with
  | some x => (s.feWrite i n sh x).modFeBank i n sh fun b => { b with w := Option.none }
  | Option.none => s

/-- Stage F of the live bank: unless the engine is Trapped or an instruction already stands there, the one at PC is fetched, from P through its checker, or from the
loop cache in a later iteration of a block (R262, R265, R269, R370). -/
def Stack.feStageF (i n : Nat) (s : Stack) : Stack :=
  let e := s.engine i n
  let b := e.bank e.shadow
  if e.st == 4 || b.f.isSome then s
  else
    let loc := feBase i n + 0xC000 + 4 * b.pc
    let cached := b.levels.any (·.cached)
    let q : FeFetch := ⟨s.readInstr i n b.pc, !cached && s.cwBad loc⟩
    (if cached then s else s.feMeet loc).modFeBank i n e.shadow fun b => { b with f := some q }

/-- The engine is Halted once everything ahead of its HALT has completed, in both banks (R268, R289). -/
def Stack.feHaltCheck (s : Stack) (i n : Nat) : Stack :=
  let e := s.engine i n
  let b := e.main
  if b.halting && !e.shadow && b.o.isNone && b.e.isNone && b.w.isNone && e.shad.o.isNone && e.shad.e.isNone && e.shad.w.isNone then
    (s.setEngine i n { e with st := 3, main := { b with halting := false } }).fePend FE.HALT_PEND_PEND i n
  else s

/-- One cycle of an engine: an interrupt is taken at its boundary (R267), or the cycle is a stall (R264), or the instruction that
would issue traps (R269), or every stage does its work: W, then O, then D, then F (R262, R263). The cycle of an entry is the first after the
boundary, in which the handler's first instruction is fetched. `forced` is the instruction that issues. -/
def Stack.feCycle (i n : Nat) (forced : Option FeOp) (s : Stack) : Stack :=
  let e := s.engine i n
  if e.interrupts then (s.setEngine i n (e.enterShadow 0x004)).feStageF i n
  else if e.stallNow != 0 then
    (s.setEngine i n { e.discardHead with stall := e.stallNow }).bump (FE.STALLS_CYCLES i n)
  else
    match s.feNext i n forced with
    | some (_, c + 1) => (s.feTrap i n (c + 1) (e.bank e.shadow).pc).feStageF i n
    | next =>
      let s := s.setEngine i n { e with stall := 0 }
      let s := e.running.foldl (fun s b => s.feStageW i n b) s
      let r := e.running.foldl (fun (r : Stack × Option Nat) b =>
        match r.2 with
        | some _ => r
        | Option.none =>
          let q := r.1.feStageO i n b
          (q.1, if q.2 then (((r.1.engine i n).bank b).o.map (·.pc)) else Option.none)) (s, Option.none)
      match r.2 with
      | some pc => (r.1.feTrap i n 3 pc).feStageF i n
      | Option.none =>
        let s := e.running.foldl (fun s b => s.modFeBank i n b FeBank.shift) r.1
        let s := match next with
          | some (some op, 0) => (s.draw).modEngine i n fun e => e.issue s.freeNat op
          | _ => s
        (s.feHaltCheck i n).feStageF i n

/-- Whether the mode lets an engine run (R279, R280). -/
def Stack.feMode (s : Stack) : Bool := s.mode == .day || s.mode == .workshop

/-- An engine issues an instruction in its next cycle, if it is Running (R262). -/
def Stack.feIssue (i n : Nat) (op : FeOp) (s : Stack) : Stack :=
  if (s.engine i n).st = 2 ∧ s.feMode = true ∧ i < s.build.layers then s.feCycle i n (some op) else s

/-- A Running engine runs one cycle from its program (R262). -/
def Stack.feRun (i n : Nat) (s : Stack) : Stack :=
  if (s.engine i n).st = 2 ∧ s.feMode = true ∧ i < s.build.layers then s.feCycle i n Option.none else s

/-! ## Commands (R279, R281) -/

/-- A command written to FE.CMD with GO: the fields are held; while BUSY it is ignored with OVERRUN; a refused command changes
nothing but RESULT, lowest code first (R279, R281). -/
def Stack.feCmd (s : Stack) (i n op fill : Nat) (stateOk : Engine → Bool) (modeOk : Bool) (effect : Stack → Stack) : Stack :=
  if s.flag (FE.CMD_STATUS_BUSY i) then s.raise (FE.CMD_STATUS_OVERRUN i)
  else
    let t := ((s.put (FE.CMD_ENGINE i) n).put (FE.CMD_OP i) op).put (FE.CMD_FILL i) fill
    if 192 ≤ n then t.put (FE.CMD_STATUS_RESULT i) 2
    else if !stateOk (s.engine i n) then t.put (FE.CMD_STATUS_RESULT i) 1
    else if !modeOk then t.put (FE.CMD_STATUS_RESULT i) 3
    else effect (t.put (FE.CMD_STATUS_RESULT i) 0)

/-- None: nothing (R279). -/
def Stack.feNone (i n op fill : Nat) (s : Stack) : Stack := s.feCmd i n op fill (fun _ => true) true id

/-- START (R279). -/
def Stack.feStart (i n : Nat) (s : Stack) : Stack :=
  s.feCmd i n 1 0 (fun e => e.st == 0 || e.st == 1 || e.st == 3) s.feMode fun s =>
    s.modEngine i n fun e =>
      if e.st = 0 then { e with st := 2, main := { e.main with pc := s.get (FE.START_PC_PC i n), f := Option.none } } else { e with st := 2 }

/-- STOP: the pipeline is frozen (R279). -/
def Stack.feStop (i n : Nat) (s : Stack) : Stack :=
  s.feCmd i n 2 0 (fun e => e.st == 2) true fun s => s.modEngine i n fun e => { e with st := 1 }

/-- STEP: one cycle of a Stopped engine (R279). -/
def Stack.feStep (i n : Nat) (s : Stack) : Stack :=
  s.feCmd i n 3 0 (fun e => e.st == 1) true fun s => s.feCycle i n Option.none

/-- The state of RESET: banked state 0, IE, IP and DBV 0, FIFOs empty; THRESH stays (R278). -/
def Engine.cleared (e : Engine) : Engine := { thresh := e.thresh, filling := e.filling }

/-- An engine put in Reset: TRAP and STALLS cleared with it (R278, R282). -/
def Stack.feClear (s : Stack) (i n : Nat) : Stack :=
  ((((s.modEngine i n Engine.cleared).put (FE.TRAP_CAUSE i n) 0).put (FE.TRAP_PC i n) 0).put (FE.TRAP_DOUBLE i n) 0).put
    (FE.STALLS_CYCLES i n) 0

/-- RESET, with FILL the zero fill that keeps BUSY 1 (R279). -/
def Stack.feReset (i n : Nat) (fill : Bool) (s : Stack) : Stack :=
  s.feCmd i n 4 (b2n fill) (fun _ => true) true fun s =>
    let t := s.feClear i n
    if fill then (t.modEngine i n fun e => { e with filling := true }).put (FE.CMD_STATUS_BUSY i) 1 else t

/-- An engine's memories zero-filled with valid check bits (R256, R279). -/
def Stack.feZero (s : Stack) (i n : Nat) : Stack :=
  { s with mem := mapClear s.mem (feBase i n) 0x10000, health := mapClear s.health (feBase i n / 16) 0x1000 }

/-- The engine of a layer whose memories are being zero-filled. -/
def Stack.feFilling (s : Stack) (i : Nat) : Option Nat := (List.range 192).find? fun n => (s.engine i n).filling

/-- The zero fill that a RESET began completes, whatever FE.CMD names by then (R279). -/
def Stack.feFillDone (i : Nat) (s : Stack) : Stack :=
  match s.feFilling i with
  | some n => ((s.feZero i n).modEngine i n fun e => { e with filling := false }).put (FE.CMD_STATUS_BUSY i) 0
  | Option.none => s

/-- A write to DOORBELL: ignored in Reset (R282). -/
def Stack.feDoorbell (i n v : Nat) (s : Stack) : Stack :=
  if (s.engine i n).st = 0 then s
  else (s.put (FE.DOORBELL_VALUE i n) v).modEngine i n fun e => { e with dbv := v, bell := true }

/-- A write to PORT_CLK: ignored unless the engine is in Reset (R282). -/
def Stack.fePortClk (i n v : Nat) (s : Stack) : Stack :=
  if (s.engine i n).st != 0 then s
  else
    [FE.PORT_CLK_IN_DOM_0 i n, FE.PORT_CLK_IN_DOM_1 i n, FE.PORT_CLK_IN_DOM_2 i n, FE.PORT_CLK_IN_DOM_3 i n,
     FE.PORT_CLK_OUT_DOM_0 i n, FE.PORT_CLK_OUT_DOM_1 i n, FE.PORT_CLK_OUT_DOM_2 i n, FE.PORT_CLK_OUT_DOM_3 i n].foldl
      (fun (s : Stack) (f : Field) => s.put f (bits v (f.key % 32) 3)) s

/-- FE_NONE (R279): An FE.CMD with OP 0 or 5 to 15 does nothing. -/
def execFeNone (k : Side) (i n op : Nat) (fill : Bool) (s : State) : Host.Outcome State Fault Refusal :=
  nextStack s k (Stack.feNone i n op (b2n fill))

/-- FE_START (R279): The START command makes an engine Running from Reset, Stopped or Halted. -/
def execFeStart (k : Side) (i n : Nat) (s : State) : Host.Outcome State Fault Refusal := nextStack s k (Stack.feStart i n)

/-- FE_STOP (R279): The STOP command freezes a Running engine's pipeline within 3 engine cycles. -/
def execFeStop (k : Side) (i n : Nat) (s : State) : Host.Outcome State Fault Refusal := nextStack s k (Stack.feStop i n)

/-- FE_STEP (R279): The STEP command advances a Stopped engine by one cycle. -/
def execFeStep (k : Side) (i n : Nat) (s : State) : Host.Outcome State Fault Refusal := nextStack s k (Stack.feStep i n)

/-- FE_RESET (R279): The RESET command puts an engine in Reset, and zero-fills its memories with FILL. -/
def execFeReset (k : Side) (i n : Nat) (fill : Bool) (s : State) : Host.Outcome State Fault Refusal :=
  nextStack s k (Stack.feReset i n fill)

/-- FE_FILL_COMPLETE (R279): The zero fill of an engine's memories completes after 1,024 engine cycles, and BUSY clears. -/
def execFeFillComplete (k : Side) (i : Nat) (s : State) : Host.Outcome State Fault Refusal := nextStack s k (Stack.feFillDone i)

/-- FE_DOORBELL (R282): A write to FE.DOORBELL_nnn copies its value to DBV and makes DOORBELL pending. -/
def execFeDoorbell (k : Side) (i n v : Nat) (s : State) : Host.Outcome State Fault Refusal := nextStack s k (Stack.feDoorbell i n v)

/-- FE_PORT_CLK_WRITE (R282): A write to FE.PORT_CLK_nnn sets the stream-port domains, and is ignored unless the engine is in Reset. -/
def execFePortClkWrite (k : Side) (i n v : Nat) (s : State) : Host.Outcome State Fault Refusal := nextStack s k (Stack.fePortClk i n v)

/-! ## Interrupts, traps and stalls as events -/

/-- A Running engine takes its interrupt at a cycle boundary (R267). -/
def Stack.feInterrupt (i n : Nat) (s : Stack) : Stack :=
  let e := s.engine i n
  if e.st = 2 ∧ e.interrupts = true then s.setEngine i n (e.enterShadow 0x004) else s

/-- The address of the instruction that a trap concerns: for DATA that of the one in stage O of the live bank, else that of the one that
would issue (R269, R282). -/
def Engine.trapPc (e : Engine) (cause : Nat) : Nat :=
  let b := e.bank e.shadow
  if cause = 3 then ((b.o.map (·.pc)).getD b.pc) else b.pc

/-- A Running engine takes a trap of a cause (R269, R270). -/
def Stack.feTrapEvent (i n cause : Nat) (s : Stack) : Stack :=
  let e := s.engine i n
  if e.st = 2 then s.feTrap i n cause (e.trapPc cause) else s

/-- A stall ends when nothing blocks the pipeline any more (R264). -/
def Stack.feStallRelease (i n : Nat) (s : Stack) : Stack :=
  if (s.engine i n).stallNow = 0 then s.modEngine i n fun e => { e with stall := 0 } else s

/-- FE_INTERRUPT (R267): An engine takes an interrupt: it freezes the main bank and runs the shadow bank from 0x004. -/
def execFeInterrupt (k : Side) (i n : Nat) (s : State) : Host.Outcome State Fault Refusal := nextStack s k (Stack.feInterrupt i n)

/-- FE_TRAP (R270): An engine takes a FETCH, ILLEGAL, DATA or REPEAT trap, or becomes Trapped on a double trap. -/
def execFeTrap (k : Side) (i n cause : Nat) (s : State) : Host.Outcome State Fault Refusal :=
  nextStack s k (Stack.feTrapEvent i n cause)

/-- FE_STALL_RELEASE (R264): A stalled engine resumes when its input FIFO gains data, its output FIFO gains room, or an external access
ends. -/
def execFeStallRelease (k : Side) (i n : Nat) (s : State) : Host.Outcome State Fault Refusal :=
  nextStack s k (Stack.feStallRelease i n)

/-! ## External accesses (R276, R277) -/

/-- A program write, and any external access to P, invalidates the loop cache: later iterations fetch from P again (R265, R277). -/
def Engine.uncache (e : Engine) : Engine :=
  let f := fun (b : FeBank) => { b with levels := b.levels.map fun l => { l with cached := false } }
  { e with main := f e.main, shad := f e.shad }

/-- The window of a memory that an offset and a length fall in: X, Y, C, P (R256). -/
def feWindow (off len : Nat) : Bool :=
  len != 0 && len % 4 == 0 && off % 4 == 0 &&
    ((off < 0x4000 && decide (off + len ≤ 0x4000)) || (0x4000 ≤ off && off < 0x8000 && decide (off + len ≤ 0x8000)) ||
     (0x8000 ≤ off && off < 0xA000 && decide (off + len ≤ 0xA000)) || (0xC000 ≤ off && off < 0x10000 && decide (off + len ≤ 0x10000)))

/-- An access refused: ERROR, counted in EXT_ERR (R277). -/
def Stack.feRefuse (s : Stack) (i : Nat) : Stack :=
  { s.bump (FE.EXT_ERR_COUNT i) with answer := { status := 1, data := [] } }

/-- A read through the window (R277): performed, or ERROR on a refusal or a bad codeword. One of P while the engine is not Running
invalidates the loop cache; one while it is Running, which the table does not list, is performed and leaves it (log 116). -/
def Stack.feExtRead (s : Stack) (i n off len : Nat) : Stack :=
  if !feWindow off len then s.feRefuse i
  else
    let a := feBase i n + off
    let cws := (List.range ((off % 16 + len + 15) / 16)).map fun j => a / 16 * 16 + 16 * j
    let bad := cws.any s.cwBad
    let s := cws.foldl (fun s l => s.feMeet l) s
    let s := if 0xC000 ≤ off && (s.engine i n).st != 2 then s.modEngine i n Engine.uncache else s
    if bad then { s with answer := { status := 1, data := [] } }
    else { s with answer := { status := 0, data := (s.readBytes a len).map BitVec.toNat } }

/-- A write through the window (R277): a write to P while the engine is Running, or outside a memory, is refused. -/
def Stack.feExtWrite (s : Stack) (i n off : Nat) (data : List Nat) : Stack :=
  let len := data.length
  if !feWindow off len || (0xC000 ≤ off && (s.engine i n).st == 2) then s.feRefuse i
  else
    let a := feBase i n + off
    let cws := (List.range ((off % 16 + len + 15) / 16)).map fun j => a / 16 + j
    let s := cws.foldl (fun s c =>
      if a ≤ 16 * c && decide (16 * c + 16 ≤ a + len) then s.setMark c .ok else s.narrowMark (16 * c)) s
    let s := s.writeBytes a (data.map (BitVec.ofNat 8))
    let s := if 0xC000 ≤ off then s.modEngine i n Engine.uncache else s
    { s with answer := { status := 0, data := [] } }

/-- An access from the rings to an engine's memories, after a wait of at most 16 engine cycles; at the sixteenth it takes a cycle of
the engine, which stalls (R264, R276). A non-zero key identifier is refused (R277). -/
def Stack.feExternal (i n off kid : Nat) (write : Bool) (len : Nat) (data : List Nat) (stolen : Bool) (s : Stack) : Stack :=
  let s := if stolen && (s.engine i n).st == 2 then
      (s.modEngine i n fun e => { e with stall := 3 }).bump (FE.STALLS_CYCLES i n)
    else s
  if kid != 0 then s.feRefuse i
  else if write then s.feExtWrite i n off data
  else s.feExtRead i n off len

/-- FE_EXTERNAL_ACCESS (R276): A ring access to an engine's memories is performed after at most 16 cycles, or answered with an error. -/
def execFeExternalAccess (k : Side) (i n off kid : Nat) (write : Bool) (len : Nat) (data : List Nat) (stolen : Bool) (s : State) :
    Host.Outcome State Fault Refusal := nextStack s k (Stack.feExternal i n off kid write len data stolen)

/-! ## Stream ports (R87, R272 to R274) -/

/-- The tile that a port of an engine faces: ports 0 and 1 west, 2 and 3 east (R87). -/
def portTile (i n p : Nat) : Tile :=
  let f := n / 24; let e := n % 24
  ⟨logicLayer i, tileIndex (5 * (e / 4) + e % 4) (5 * f + 2 + (if p < 2 then 0 else 1))⟩

/-- The fabric domain of a port: 0 to 3 IN, 4 to 7 OUT (R273, R282). -/
def Stack.portDomain (s : Stack) (i n p : Nat) : Nat :=
  let f := match p with
    | 0 => FE.PORT_CLK_IN_DOM_0 i n
    | 1 => FE.PORT_CLK_IN_DOM_1 i n
    | 2 => FE.PORT_CLK_IN_DOM_2 i n
    | 3 => FE.PORT_CLK_IN_DOM_3 i n
    | 4 => FE.PORT_CLK_OUT_DOM_0 i n
    | 5 => FE.PORT_CLK_OUT_DOM_1 i n
    | 6 => FE.PORT_CLK_OUT_DOM_2 i n
    | _ => FE.PORT_CLK_OUT_DOM_3 i n
  16 + 8 * i + s.get f

/-- Whether a port sees the fabric: its facing tile belongs to a section whose hinges do not hold, its domain runs and is not in reset, and the
engine is not under test (R274, R491, R586). -/
def Stack.portOpen (s : Stack) (i n p : Nat) : Bool :=
  (match s.ownerOf (portTile i n (p % 4)) with
   | some m => !(s.sect m).hingesHold
   | Option.none => false) && s.domainRunning (s.portDomain i n p) &&
    !s.flag (CLK.DRST_RESET (s.portDomain i n p)) && !s.stopTested 0

/-- The fabric transfers a quad into an input FIFO that has an entry free (R272, R273). -/
def Stack.streamIn (i n p data mark : Nat) (s : Stack) : Stack :=
  let e := s.engine i n
  if e.st != 0 && (e.fifo p).length < 16 && s.portOpen i n p then
    s.setEngine i n (e.setFifo p (e.fifo p ++ [⟨data % 2 ^ 56, mark⟩]))
  else s

/-- An output FIFO transfers its oldest quad to the fabric (R272, R273). -/
def Stack.streamOut (i n p : Nat) (s : Stack) : Stack :=
  let e := s.engine i n
  match e.fifo (4 + p) with
  | [] => s
  | q :: t =>
    if e.st != 0 && s.portOpen i n (4 + p) then
      { s.setEngine i n (e.setFifo (4 + p) t) with answer := { status := 0, data := [q.data, q.mark] } }
    else s

/-- STREAM_PORT_INPUT (R273): The fabric transfers one quad into an engine's input FIFO. -/
def execStreamPortInput (k : Side) (i n p data mark : Nat) (s : State) : Host.Outcome State Fault Refusal :=
  nextStack s k (Stack.streamIn i n p data mark)

/-- STREAM_PORT_OUTPUT (R273): An engine's output FIFO transfers one quad to the fabric. -/
def execStreamPortOutput (k : Side) (i n p : Nat) (s : State) : Host.Outcome State Fault Refusal := nextStack s k (Stack.streamOut i n p)

end Sys2Proof.Machine
end

