-- ==== Sys2Proof/Machine/RingNet.lean ====
section
/-! DEFINITION. The ring network: its routers, the routes of packets, virtual channels and arbitration (R306 to R309, R314 to R316). Packets
move as time passes, whole, one link at a time (log 11). -/

namespace Sys2Proof.Machine

/-! ## Routers (R306, R308) -/

/-- Whether a router stop exists: hub index of the build, base stops 0 to 15 without those absent in the Octavo (R306, R308). -/
def Build.stopExists (b : Build) (hub stop : Nat) : Bool :=
  if hub = 0 then stop < 16 && !(b == .octavo && (stop == 4 || stop == 5 || stop == 12)) else decide (hub ≤ b.layers) && decide (stop < 32)

/-- The stops of a ring that exist, in ascending order. -/
def Build.stops (b : Build) (hub : Nat) : List Nat := (List.range 32).filter (b.stopExists hub)

/-- The stop downstream of a stop, or none for the hub (R306). -/
def Build.downstream (b : Build) (hub : Nat) (cw : Bool) (stop : Nat) : Option Nat :=
  if cw then (b.stops hub).find? (stop < ·) else (b.stops hub).reverse.find? (· < stop)

/-- The stop upstream of a stop, or none for the hub (R306). -/
def Build.upstream (b : Build) (hub : Nat) (cw : Bool) (stop : Nat) : Option Nat := b.downstream hub (!cw) stop

/-- The stop downstream of the hub on a dial or base ring (R306). -/
def Build.afterHub (b : Build) (hub : Nat) (cw : Bool) : Nat :=
  if cw then ((b.stops hub).head?).getD 0 else ((b.stops hub).getLast?).getD 0

/-- The last stop before the hub. -/
def Build.beforeHub (b : Build) (hub : Nat) (cw : Bool) : Nat := b.afterHub hub (!cw)

/-- The next hub of a spine ring and the slots of that link (R306, R310). -/
def Build.spineNext (b : Build) (ring hub : Nat) : Nat × Nat :=
  let top := b.layers
  let closing := if b = .octavo then 4 else 8
  if ring % 2 = 0 then (if hub = top then (0, closing) else (hub + 1, 2)) else (if hub = 0 then (top, closing) else (hub - 1, 2))

/-! ## Routes (R309) -/

/-- The routers of a dial or base ring in clockwise order, the hub last (R306). -/
def Build.ringOrder (b : Build) (hub : Nat) : List (Option Nat) := (b.stops hub).map some ++ [Option.none]

/-- The clockwise links from one router of a ring to another. -/
def Build.cwLinks (b : Build) (hub : Nat) (x y : Option Nat) : Nat :=
  let l := b.ringOrder hub
  (l.idxOf y + l.length - l.idxOf x) % l.length

/-- Whether the direction with fewer links is the counter-clockwise one; ties go clockwise (R309). -/
def Build.goesCcw (b : Build) (hub : Nat) (x y : Option Nat) : Bool := decide (b.cwLinks hub y x < b.cwLinks hub x y)

/-- The spine ring between two hubs: 2 × TAG[0], plus 1 where descending takes fewer hub-to-hub links; ties go ascending (R309). -/
def Build.spineFor (b : Build) (tag x y : Nat) : Nat :=
  let n := b.layers + 1
  2 * (tag % 2) + (if (x + n - y) % n < (y + n - x) % n then 1 else 0)

/-- The ring on which a packet leaves the router where it stands; none where the header names that router (R309). -/
def Packet.outRing (p : Packet) : Option Nat :=
  if p.hub = p.dhub ∧ p.at_ = p.dstop then Option.none
  else if p.hub = p.dhub then
    match p.ring with
    | some r => some (if 2 ≤ r then b2n p.ddir else r)
    | Option.none => some (b2n p.dir)
  else if p.at_.isNone then some (2 + p.spine)
  else some (b2n p.dir)

/-- The router at the end of a link: hub index and stop (R306). -/
def Build.linkEnd (b : Build) (hub : Nat) (x : Option Nat) (ring : Nat) : Nat × Option Nat :=
  if 2 ≤ ring then ((b.spineNext (ring - 2) hub).1, Option.none)
  else match x with
    | some st => (hub, b.downstream hub (ring == 0) st)
    | Option.none => (hub, some (b.afterHub hub (ring == 0)))

/-- Whether a link is its ring's dateline: the link into the hub of a dial or base ring, and the closing link of a spine ring (R306). -/
def Build.dateline (b : Build) (hub : Nat) (x : Option Nat) (ring : Nat) : Bool :=
  if 2 ≤ ring then (if ring % 2 = 0 then hub == b.layers else hub == 0)
  else x.isSome && (b.linkEnd hub x ring).2.isNone

/-- A packet after a link: VC0 on a ring that it enters, VC1 from that ring's dateline on; at a hub that it enters from a spine ring DDIR is
chosen (R309, R315). -/
def Packet.over (p : Packet) (b : Build) (ring : Nat) : Packet :=
  let e := b.linkEnd p.hub p.at_ ring
  let vc := if b.dateline p.hub p.at_ ring then 1 else if p.ring = some ring then p.vc else 0
  { p with
    hub := e.1, at_ := e.2, ring := some ring, vc := vc
    ddir := if 2 ≤ ring ∧ e.1 = p.dhub then b.goesCcw e.1 Option.none p.dstop else p.ddir }

/-! ## Buffers and arbitration (R314, R315) -/

/-- The flits of a packet: the header, and as many as LEN says (R311). -/
def Packet.flits (p : Packet) : Nat := 1 + p.head.len

/-- Whether a packet is a response (R311, R312). -/
def Packet.response (p : Packet) : Bool := decide (0x20 ≤ p.op)

/-- Whether two packets stand in one buffer of a router: the same input, class group and virtual channel, and at a hub the same ring to leave on
(R315). -/
def Packet.shares (p q : Packet) : Bool :=
  p.hub == q.hub && p.at_ == q.at_ && p.ring == q.ring && p.response == q.response && p.vc == q.vc && (p.at_.isSome || p.outRing == q.outRing)

/-- Whether the next router's buffer can take a whole packet: 17 flits at a stop, 34 at a hub (R315). `p` stands there already. -/
def Packet.fits (p : Packet) (others : List Packet) : Bool :=
  let used := (others.filter fun q => !q.arrived && p.shares q).foldl (fun n q => n + q.flits) 0
  decide (used + p.flits ≤ if p.at_.isSome then 17 else 34)

/-- The order of a packet's class: responses, then regulated, then best effort (R314). -/
def Packet.order (p : Packet) : Nat := if p.response then 0 else if p.head.cls = 1 then 1 else 2

/-- Whether one packet wins over another: by order, the earlier BIRTH, through traffic, VC1, then the lower source stop (R314). -/
def Packet.wins (epoch : Nat) (p q : Packet) : Bool :=
  let age := fun (x : Packet) => (epoch + 65536 - x.head.birth % 65536) % 65536
  let key := fun (x : Packet) => [x.order, 65536 - age x, b2n x.ring.isNone, 1 - x.vc, x.head.src % 32]
  decide (List.lex (key p) (key q) = true)

/-- A packet put in its place of a list that is in the order of arbitration. -/
def insertPacket (epoch : Nat) (p : Packet) : List Packet → List Packet
  | [] => [p]
  | q :: l => if p.wins epoch q then p :: q :: l else q :: insertPacket epoch p l

/-- A request that reaches a stop in bypass is neither accepted nor answered (R186). -/
def Stack.bypassDrops (s : Stack) (p : Packet) : Bool := !p.response && p.dstop.any fun st => s.stopBypassed p.dhub st

/-- One link's time: in the order of arbitration, each packet leaves the rings where its header names its router, or takes its link where no
other packet has taken that link and the next buffer has room (R309, R314, R315). -/
def Stack.movePackets (s : Stack) : Stack :=
  let epoch := s.get RING.EPOCH_COUNT
  let order := s.rings.packets.foldl (fun l p => insertPacket epoch p l) []
  let r := order.foldl (fun (acc : List Packet × List (Nat × Option Nat × Nat)) p =>
    if p.arrived then acc
    else match p.outRing with
      | Option.none => ((acc.1.erase p) ++ (if s.bypassDrops p then [] else [{ p with arrived := true }]), acc.2)
      | some ring =>
        let q := p.over s.build ring
        let link := (p.hub, p.at_, ring)
        if acc.2.contains link || !q.fits (acc.1.erase p) then acc else ((acc.1.erase p) ++ [q], link :: acc.2)) (s.rings.packets, [])
  { s with rings := { s.rings with packets := r.1 } }

/-! ## Packets of requests and responses (R311, R312) -/

/-- Whether a request takes a tag: WRITE_POSTED and MSG are not answered (R312, R328). -/
def takesTag (op : Nat) : Bool := op != 3 && op != 8

/-- A packet launched at a router, with DIR and SPINE written (R309). -/
def Stack.launch (s : Stack) (op : Nat) (h : Header) (hub : Nat) (stop : Option Nat) (dhub : Nat) (dstop : Option Nat) : Stack :=
  let target := if hub = dhub then dstop else Option.none
  let p : Packet := {
    op := op, head := h, dhub := dhub, dstop := dstop, hub := hub, at_ := stop
    dir := s.build.goesCcw hub stop target, spine := s.build.spineFor h.tag hub dhub }
  { s with rings := { s.rings with packets := s.rings.packets ++ [p] } }

/-- The opcode of the response to a request (R312). -/
def responseOp (op : Nat) : Nat := match op with
  | 1 => 0x20
  | 5 => 0x22
  | _ => 0x21

/-- A request is served at its target: its packet, where one has arrived, is taken from the rings, and a response packet with its tag and BIRTH
leaves the target's router for the initiator (R311, R312). -/
def Stack.serve (op : Nat) (h : Header) (f : Stack → Stack) (s : Stack) : Stack :=
  match s.rings.packets.find? fun p => p.arrived && p.op == op && p.head.src == h.src && p.head.tag == h.tag with
  | Option.none => f s
  | some p =>
    let t := f { s with rings := { s.rings with packets := s.rings.packets.erase p } }
    if !takesTag op || t.answer.status == noAnswer then t
    else
      let n := if op = 1 ∧ t.answer.status = 0 then h.rlen else 0
      t.launch (responseOp op) { h with src := 32 * p.dhub + p.dstop.getD 0, tag := h.tag, cls := 3, len := n, birth := p.head.birth }
        p.dhub p.dstop (h.src / 32) (some (h.src % 32))

/-- The packet of a response that its initiator receives leaves the rings (R330). -/
def Stack.received (n tag : Nat) (s : Stack) : Stack :=
  { s with rings := { s.rings with packets := s.rings.packets.filter fun p =>
      !(p.response && p.arrived && p.head.tag == tag && p.dhub == n / 32 && p.dstop == some (n % 32)) } }

end Sys2Proof.Machine
end

