-- ==== Sys2Proof/Machine/Memory.lean ====
section
/-! DEFINITION. Store, commons, leaf memories and their ports (R90 to R97, R339 to R363, R372, R387). -/

namespace Sys2Proof.Machine

/-! ## Places (R342, R343, R351) -/

/-- Usable store in bytes (R342, R362). -/
def Stack.usable (s : Stack) : Nat := s.get STORE.INFO_USABLE * 0x10000000

/-- Kinds of target of the location map (R340). -/
inductive Target where
  | store | commons | leaf | fabric | engine | regs | none
deriving DecidableEq, Repr

/-- R340's table. -/
def targetOf (loc : Nat) : Target :=
  if loc < 0x00800000000 then .store
  else if loc < 0x00804000000 then .commons
  else if loc < 0x00C00000000 then .none
  else if loc < 0x00D00000000 then .leaf
  else if loc < 0x00E00000000 then .fabric
  else if loc < 0x00F00000000 then .engine
  else if loc < 0x01000000000 then .regs
  else .none

/-! ## Injection (R387) -/

/-- Whether an armed injection waits for a full write of a codeword, of store or of commons as TARGET says (R387, R388). -/
def Stack.injects (s : Stack) (cw : Nat) : Bool :=
  s.flag CODE.INJECT_ARM && targetOf (16 * cw) == (if s.flag CODE.INJECT_TARGET then .commons else .store) && (s.get CODE.INJECT_LOC_LO_LOC + 2 ^ 32 * s.get CODE.INJECT_LOC_HI_LOC) / 16 == cw

/-- The symbols that an injection inverts: 36 and above name none (R388). -/
def Stack.injectSymbols (s : Stack) : List Nat :=
  ([s.get CODE.INJECT_SYM_A, s.get CODE.INJECT_SYM_B].filter (· < 36)).eraseDups

/-- The mark of a codeword whose listed symbols are inverted: one is correctable, two are uncorrectable (R366). -/
def marked (l : List Nat) : Health :=
  match l with
  | [] => .ok
  | [j] => .symbol j
  | _ => .uncorrectable

/-- The source code of R370 of a codeword of the location map: store 0, commons 2, leaf memory 3, filter-engine memory 4. -/
def codewordSource (cw : Nat) : Nat :=
  match targetOf (16 * cw) with
  | .commons => 2
  | .leaf => 3
  | .engine => 4
  | _ => 0

/-- A codeword's mark after a write of all or some of its bytes, poison carried or not; a write of some of them reads the codeword first, and
its checker meets what it holds (R95, R370, R373, R374, R387). -/
def Stack.markWrite (s : Stack) (cw : Nat) (full poison : Bool) : Stack :=
  if full && poison then s.setMark cw .poison
  else if full && s.injects cw then (s.setMark cw (marked s.injectSymbols)).put CODE.INJECT_ARM 0
  else if full then s.setMark cw .ok
  else (s.meetCodeword cw (codewordSource cw) (16 * cw)).setMark cw (s.mark cw).afterPartial

/-! ## Plain blocks -/

/-- Bytes of a location with the status of their codewords (R372): all the codewords are met. -/
def Stack.readPlain (s : Stack) (source loc n : Nat) : Stack × Nat × List Nat :=
  let r := s.meetRange source loc (n / 16)
  (r.1, r.2, if r.2 = 0 then (s.readBytes loc n).map BitVec.toNat else [])

/-- Bytes written under enables; bit i of `poison` says that codeword i of the data is poison (R346, R355, R373). -/
def Stack.writePlain (s : Stack) (loc : Nat) (data : List (Nat × Bool)) (poison : Nat) : Stack :=
  let s := { s with mem := writeEnabledMem s.mem loc (data.map fun p => (BitVec.ofNat 8 p.1, p.2)) }
  (List.range (data.length / 16)).foldl (fun s i =>
    let e := ((data.drop (16 * i)).take 16).map (·.2)
    if e.any id then s.markWrite (loc / 16 + i) (e.all id) (bit poison i) else s) s

/-! ## Store (R342 to R347, R402, R403) -/

/-- A store block of 64 bytes read: status and bytes. -/
def Stack.readStore (s : Stack) (kid loc : Nat) : Stack × Nat × List Nat :=
  match s.storeKind kid loc with
  | .error => (s, 1, [])
  | .plain => s.readPlain 0 loc 64
  | .encrypted =>
    let r := s.readEnc kid ((loc - s.regionBase kid) / 64)
    (r.1, r.2.1, if r.2.1 = 0 then (toBytes 64 r.2.2).map BitVec.toNat else [])

/-- A store block of 64 bytes written: status. -/
def Stack.writeStore (s : Stack) (kid loc : Nat) (data : List (Nat × Bool)) (poison : Nat) (cursor : Bool) : Stack × Nat :=
  match s.storeKind kid loc with
  | .error => (s, 1)
  | .plain => (s.writePlain loc data poison, 0)
  | .encrypted =>
    let r := s.writeEnc kid ((loc - s.regionBase kid) / 64) data cursor
    if r.2 = 0 ∧ poison ≠ 0 then
      ((List.range 4).foldl (fun t i => if bit poison i then t.setMark (loc / 16 + i) .poison else t) r.1, 0)
    else r

/-- Blocks read one after the other; the first status that is not OK ends the response with LEN 0 (R312, R372). -/
def readBlocks (f : Stack → Nat → Stack × Nat × List Nat) : Nat → Nat → Stack → Stack × Nat × List Nat
  | 0, _, s => (s, 0, [])
  | n + 1, loc, s =>
    let r := f s loc
    if r.2.1 != 0 then (r.1, r.2.1, [])
    else
      let q := readBlocks f n (loc + 64) r.1
      (q.1, q.2.1, if q.2.1 = 0 then r.2.2 ++ q.2.2 else [])

/-- Blocks written one after the other; the answer is the first status that is not OK. -/
def writeBlocks (f : Stack → Nat → List (Nat × Bool) → Nat → Stack × Nat) : List (List (Nat × Bool)) → Nat → Nat → Stack → Stack × Nat
  | [], _, _, s => (s, 0)
  | d :: t, loc, poison, s =>
    let r := f s loc d (poison % 16)
    let q := writeBlocks f t (loc + 64) (poison / 16) r.1
    (q.1, if r.2 = 0 then q.2 else r.2)

/-- The flits of a write under its byte enables: the first under BE_FIRST, the last under BE_LAST, the others whole; a single flit
under BE_FIRST (R312). -/
def writeFlits (data : List Nat) (beFirst beLast : Nat) : List (List (Nat × Bool)) :=
  let n := data.length / 64
  (List.range n).map fun f =>
    (List.range 64).map fun i =>
      (data.getD (64 * f + i) 0, if f = 0 then bit beFirst i else if f + 1 = n then bit beLast i else true)

/-! ## Commons (R353 to R357) -/

/-- The commons port of a location (R354). -/
def commonsPort (loc : Nat) : Nat := bits loc 10 2

/-- A rotated read (R357). -/
def Stack.readRotated (s : Stack) (loc : Nat) : Stack × Nat × List Nat :=
  let r := s.readPlain 2 (loc / 16 * 16) 16
  let k := loc % 16
  (r.1, r.2.1, if r.2.1 = 0 then r.2.2.drop k ++ r.2.2.take k ++ List.replicate 48 0 else [])

/-! ## Leaf windows (R358) -/

/-- The tile that a leaf-window location names. -/
def leafTile (loc : Nat) : Tile := ⟨bits loc 28 4, bits loc 14 14⟩

/-- The answer that R358 gives before the access: 0, ERROR or REFUSED. -/
def Stack.leafGate (s : Stack) (loc : Nat) : Nat :=
  let t := leafTile loc
  if 1200 ≤ t.tile || (s.build.logicIndex t.layer).isNone then 1
  else match s.ownerOf t with
    | Option.none => 0
    | some n => if s.stateIn n [.empty, .asleep, .held] then 0 else 7

/-- Whether a filter-engine location names an engine of the build (R254, R276). -/
def Stack.engineExists (s : Stack) (loc : Nat) : Bool :=
  (s.build.logicIndex (bits loc 24 4)).isSome && bits loc 28 4 == 0 && decide (bits loc 16 8 < 192)

/-! ## Requests at their targets (R312, R340, R341) -/

/-- Whether the writer's writes are ignored: a fabric or filter-engine stop before enable writes (R60). -/
def Stack.writesIgnored (s : Stack) (src : Nat) : Bool := !s.sys.writesEnabled && decide (32 ≤ src)

/-- An answer given. -/
def Stack.answered (s : Stack) (status : Nat) (data : List Nat) : Stack := { s with answer := { status := status, data := data } }

/-- The flit counts of a store channel or commons port. -/
def Stack.countFlits (s : Stack) (write : Bool) (loc n : Nat) : Stack :=
  match targetOf loc with
  | .store =>
    let i := s.storeLayer loc
    s.bumpWrap (if write then STORE.WR_FLITS i else STORE.RD_FLITS i) n
  | .commons =>
    let i := commonsPort loc
    s.bumpWrap (if write then COMN.WR_FLITS i else COMN.RD_FLITS i) n
  | _ => s

/-- Whether the design behind a fabric stop takes a request: the stop exists and is not in bypass (R88, R186, R359). -/
def Stack.fabricTakes (s : Stack) (loc : Nat) : Bool :=
  let layer := bits loc 28 4; let stop := bits loc 23 5
  stop % 4 != 0 && (s.build.logicIndex layer).isSome && !s.stopBypassed (layer / 2) stop

/-- A request handed to a design, which gives every answer (R359); a stop in bypass neither accepts nor answers (R186). -/
def Stack.toDesign (s : Stack) (h : Header) (data : List Nat) : Stack :=
  if s.fabricTakes (h.addr % 2 ^ 44) then s.answered noAnswer (h.addr :: data) else s.answered noAnswer []

/-- A READ at its target (R312, R340, R357, R358, R372). -/
def Stack.ringRead (h : Header) (s : Stack) : Stack :=
  let loc := h.addr % 2 ^ 44; let kid := h.addr / 2 ^ 44 % 16
  if h.reserved then s.answered 1 []
  else match targetOf loc with
    | .store =>
      if h.rot then s.answered 1 []
      else
        let r := readBlocks (fun t l => t.readStore kid l) h.rlen loc s
        (if r.2.1 = 1 then r.1 else r.1.countFlits false loc h.rlen).answered r.2.1 r.2.2
    | .commons =>
      if h.rot then
        if h.rlen = 1 then let r := s.readRotated loc; (r.1.countFlits false loc 1).answered r.2.1 r.2.2
        else (s.bump COMN.ROT_REFUSED).answered 1 []
      else
        let r := readBlocks (fun t l => t.readPlain 2 l 64) h.rlen loc s
        (r.1.countFlits false loc h.rlen).answered r.2.1 r.2.2
    | .leaf =>
      let g := s.leafGate loc
      if h.rot then s.answered 1 []
      else if g != 0 then s.answered g []
      else let r := readBlocks (fun t l => t.readPlain 3 l 64) h.rlen loc s; r.1.answered r.2.1 r.2.2
    | .engine =>
      if h.rot || !s.engineExists loc then s.answered 1 []
      else s.feExternal (bits loc 24 4 / 2 - 1) (bits loc 16 8) (loc % 0x10000) kid false (64 * h.rlen) [] false
    | .fabric => s.toDesign h []
    | _ => s.answered 1 []

/-- What a WRITE or WRITE_POSTED does at its target: state and status. Before enable writes a design's writes to store, commons and leaf memories
are ignored without an error (R60, R312, R340, R358, R373, R374). -/
def Stack.writeTarget (s : Stack) (h : Header) (data : List Nat) (poison : Nat) : Stack × Nat :=
  let loc := h.addr % 2 ^ 44; let kid := h.addr / 2 ^ 44 % 16
  let fl := writeFlits data h.beFirst h.beLast
  if h.reserved || h.rot && targetOf loc != .fabric then (if h.rot && targetOf loc == .commons then s.bump COMN.ROT_REFUSED else s, 1)
  else match targetOf loc with
    | .store =>
      if s.writesIgnored h.src then (s, 0)
      else let r := writeBlocks (fun t l d p => t.writeStore kid l d p false) fl loc poison s; (if r.2 = 1 then r.1 else r.1.countFlits true loc fl.length, r.2)
    | .commons =>
      if s.writesIgnored h.src then (s, 0)
      else let r := writeBlocks (fun t l d p => (t.writePlain l d p, 0)) fl loc poison s; (r.1.countFlits true loc fl.length, r.2)
    | .leaf =>
      let g := s.leafGate loc
      if g != 0 then (s, g)
      else if s.writesIgnored h.src then (s, 0)
      else writeBlocks (fun t l d p => (t.writePlain l d p, 0)) fl loc poison s
    | .engine =>
      if !s.engineExists loc then (s, 1)
      else
        let t := s.feExternal (bits loc 24 4 / 2 - 1) (bits loc 16 8) (loc % 0x10000) kid true 0 data false
        (t, t.answer.status)
    | .fabric => let t := s.toDesign h data; (t, noAnswer)
    | _ => (s, 1)

/-- The writes that have begun to stall since the list of them had length `n` belong to a request, which is answered once they are done
(R312, R412). -/
def Stack.stallFor (s : Stack) (n : Nat) (h : Header) : Stack :=
  { s with keys := { s.keys with stalled := s.keys.stalled.take n ++ (s.keys.stalled.drop n).map fun w => { w with req := some h } } }

/-- A WRITE (R312); one that stalls in the store engine is answered when the stall ends (R412). -/
def Stack.ringWrite (h : Header) (data : List Nat) (poison : Nat) (s : Stack) : Stack :=
  let r := s.writeTarget h data poison
  if r.2 = noAnswer ∧ targetOf (h.addr % 2 ^ 44) = .store then (r.1.stallFor s.keys.stalled.length h).answered noAnswer []
  else if r.2 = noAnswer ∧ targetOf (h.addr % 2 ^ 44) = .fabric then r.1 else r.1.answered r.2 []

/-- A WRITE_POSTED: performed with no answer; only store, commons and fabric stops accept it (R312, R340). -/
def Stack.ringPosted (h : Header) (data : List Nat) (poison : Nat) (s : Stack) : Stack :=
  match targetOf (h.addr % 2 ^ 44) with
  | .store | .commons | .fabric => ((s.writeTarget h data poison).1).answered noAnswer []
  | _ => s.answered noAnswer []

/-- The channel index of a stop (R321). -/
def chanKey (hub stop chan : Nat) : Nat := (hub * 32 + stop) * 32 + chan

/-- The base stop that serves a location: store hub ports 2 to 5, commons ports 6 to 9 (R340). -/
def Stack.portStop (s : Stack) (loc : Nat) : Nat := if targetOf loc = .store then 2 + s.storeLayer loc else 6 + commonsPort loc

/-- A CURSOR: the start address and the length in flits for a channel of a store or commons port (R321, R356). A fabric or engine stop, which
has channels but no cursors, answers UNSUPPORTED (R321), in bypass nothing (R186); a target without channels answers ERROR (R341, log 118), and so
do store and commons for ROT 1, which the commons counts (R357). -/
def Stack.ringCursor (h : Header) (s : Stack) : Stack :=
  let loc := h.addr % 2 ^ 44
  if h.reserved then s.answered 1 []
  else if h.rot then (if targetOf loc = .commons then s.bump COMN.ROT_REFUSED else s).answered 1 []
  else match targetOf loc with
    | .store | .commons =>
      let key := chanKey 0 (s.portStop loc) (h.data % 32)
      ({ s with rings := { s.rings with cursors := mapSet {} s.rings.cursors key ⟨h.addr, h.data / 256 % 2 ^ 24⟩ } } : Stack).answered 0 []
    | .fabric => if s.fabricTakes loc then s.answered 8 [] else s.answered noAnswer []
    | .engine => s.answered 8 []
    | _ => s.answered 1 []

/-- The header flit of a packet as a 512-bit number (R311). -/
def headerFlit (h : Header) (op status : Nat) : Nat :=
  bits h.src 0 5 * 2 ^ 12 + (h.src / 32) * 2 ^ 9 + h.cls % 4 * 2 ^ 18 + op % 64 * 2 ^ 24 +
  (h.tag % 1024 + h.len % 32 * 2 ^ 10 + b2n h.rot * 2 ^ 15 + h.keyattr % 16 * 2 ^ 16 + status % 16 * 2 ^ 20 + h.rlen % 32 * 2 ^ 25) * 2 ^ 32 +
  h.addr % 2 ^ 48 * 2 ^ 64 + h.birth % 2 ^ 16 * 2 ^ 112 + h.beFirst % 2 ^ 64 * 2 ^ 128 + h.beLast % 2 ^ 64 * 2 ^ 192 +
  h.data % 2 ^ 32 * 2 ^ 256

/-- The stalled request is answered: its first status that is not OK, or none while one of its blocks stalls again; the response packet leaves
the store hub port, where the request came over the rings, or waits for the link, where the Lacing stop issued it (R312, R330, R412, R450). -/
def Stack.answerStalled (s : Stack) (l : List (Header × Nat)) (h : Header) : Stack :=
  let mine := (l.filter fun x => x.1 == h).map (·.2)
  if mine.contains noAnswer then s
  else
    let status := (mine.find? (· != 0)).getD 0
    let t := s.answered status []
    let stop := s.portStop (h.addr % 2 ^ 44)
    let link := (List.range s.build.laces).find? fun k => (s.lace k).stalled.contains h
    if let some k := link then
      let x := s.lace k
      let rh : Header := { h with cls := 3, len := 0, rlen := 0, addr := 0, beFirst := 0, beLast := 0, data := 0 }
      t.setLace k { x with stalled := x.stalled.erase h, rsp := x.rsp ++ [[headerFlit rh 0x21 status]] }
    else if (mapGet {} s.rings.tags (1024 * h.src + h.tag)).st < 2 then t
    else t.launch 0x21 { h with src := stop, cls := 3, len := 0, birth := (mapGet {} s.rings.tags (1024 * h.src + h.tag)).birth } 0 (some stop)
      (h.src / 32) (some (h.src % 32))

/-- A leaf's re-encryption completes, the stalled writes proceed, and their requests are answered (R412). -/
def Stack.leafReencrypted (k leaf : Nat) (s : Stack) : Stack :=
  let r := s.reencryptDone k leaf
  ((r.2.map (·.1)).eraseDups).foldl (fun t h => t.answerStalled r.2 h) r.1

/-- LEAF_REENCRYPT_COMPLETE (R412): A leaf re-encryption completes, and stalled writes proceed. -/
def execLeafReencryptComplete (k : Side) (region leaf : Nat) (s : State) : Host.Outcome State Fault Refusal :=
  nextStack s k (Stack.leafReencrypted region leaf)

/-- READ (R312): A READ request is taken at its target and answered with READ_RESP, or with an error status. -/
def execRingRead (k : Side) (h : Header) (s : State) : Host.Outcome State Fault Refusal :=
  nextStack s k (Stack.serve 1 h (Stack.ringRead h))

/-- WRITE (R312): A WRITE request is performed at its target and answered with WRITE_ACK. -/
def execRingWrite (k : Side) (h : Header) (data : List Nat) (poison : Nat) (s : State) : Host.Outcome State Fault Refusal :=
  nextStack s k (Stack.serve 2 h (Stack.ringWrite h data poison))

/-- WRITE_POSTED (R312): A WRITE_POSTED request is performed at its target with no answer. -/
def execRingWritePosted (k : Side) (h : Header) (data : List Nat) (poison : Nat) (s : State) : Host.Outcome State Fault Refusal :=
  nextStack s k (Stack.serve 3 h (Stack.ringPosted h data poison))

/-- CURSOR (R321): A CURSOR request sets a receive channel's cursor at a store or commons port. -/
def execRingCursor (k : Side) (h : Header) (s : State) : Host.Outcome State Fault Refusal :=
  nextStack s k (Stack.serve 7 h (Stack.ringCursor h))

/-! ## Local store ports (R348 to R350) -/

/-- The responses that wait in a port. -/
def Stack.localPort (s : Stack) (i p : Nat) : List Answer := mapGet [] s.localPorts (16 * i + p)

/-- A port's responses replaced. -/
def Stack.setLocalPort (s : Stack) (i p : Nat) (l : List Answer) : Stack :=
  { s with localPorts := mapSet [] s.localPorts (16 * i + p) l }

/-- The refusal of R350: ERROR, REFUSED or 0. -/
def Stack.localRefusal (s : Stack) (i block : Nat) : Nat :=
  let loc := i * localBytes + 64 * block
  let base := s.get STORE.CARVE_BASE * 0x10000000
  if s.pooled || 79691776 ≤ block then 1
  else if (s.footprintOf loc).isSome || (decide (base ≤ loc) && decide (loc < base + s.get STORE.CARVE_SIZE * 0x10000000)) then 7
  else 0

/-- A request accepted by a local store port, unless 32 are outstanding or the build has no such layer (R10, R349): its response waits in order. A fabric write before
enable writes is ignored without an error (R60). -/
def Stack.localRequest (i p : Nat) (write : Bool) (block be : Nat) (data : List Nat) (s : Stack) : Stack :=
  if s.build.layers ≤ i ∨ 32 ≤ (s.localPort i p).length then s
  else
    let push := fun (t : Stack) (a : Answer) => t.setLocalPort i p (t.localPort i p ++ [a])
    let c := s.localRefusal i block
    let loc := i * localBytes + 64 * block
    if c != 0 then push ((s.bump (STORE.LOCAL_REFUSED i)).raise STORE.INT_LOCAL) ⟨c, if write then [] else List.replicate 64 0⟩
    else if write then
      if s.sys.writesEnabled then push (s.writePlain loc ((List.range 64).map fun b => (data.getD b 0, bit be b)) 0) ⟨0, []⟩
      else push s ⟨0, []⟩
    else
      let r := s.readPlain 0 loc 64
      push r.1 ⟨r.2.1, if r.2.1 = 0 then r.2.2 else List.replicate 64 0xFF⟩

/-- A port returns its oldest response (R349, R350). -/
def Stack.localResponse (i p : Nat) (s : Stack) : Stack :=
  match s.localPort i p with
  | [] => s
  | a :: t => { s.setLocalPort i p t with answer := a }

/-- LOCAL_STORE_REQUEST (R349): A local store port accepts a read or write request to its memory layer's local store. -/
def execLocalStoreRequest (k : Side) (i p : Nat) (write : Bool) (block be : Nat) (data : List Nat) (s : State) :
    Host.Outcome State Fault Refusal := nextStack s k (Stack.localRequest i p write block be data)

/-- LOCAL_STORE_RESPONSE (R350): A local store port returns a response in order, with a status. -/
def execLocalStoreResponse (k : Side) (i p : Nat) (s : State) : Host.Outcome State Fault Refusal :=
  nextStack s k (Stack.localResponse i p)

/-! ## Refresh (R344) -/

/-- A bank refresh of a memory layer falls due, and `made` refreshes are made in idle cycles; DEBT counts those not yet made (R344,
R362). -/
def Stack.refresh (m made : Nat) (s : Stack) : Stack :=
  s.put (STORE.REFRESH_DEBT m) (Nat.min (s.get (STORE.REFRESH_DEBT m) + 1 - made) 255)

/-- REFRESH (R344): A bank's refresh falls due and is scheduled at the rate that its temperature sets. -/
def execRefresh (k : Side) (m made : Nat) (s : State) : Host.Outcome State Fault Refusal := nextStack s k (Stack.refresh m made)

/-! ## Leaf-memory ports (R90 to R96) -/

/-- Width, depth and units per word of an aspect ratio; codes 0b101 to 0b111 act as 0b000 (R90). -/
def leafShape (ratio : Nat) : Nat × Nat × Nat :=
  match ratio with
  | 1 => (64, 512, 2)
  | 2 => (32, 1024, 4)
  | 3 => (16, 2048, 8)
  | 4 => (14, 2304, 9)
  | _ => (128, 256, 1)

/-- Location of word w of leaf memory m of a tile (R358). -/
def leafWord (t : Tile) (m w : Nat) : Nat := leafBase t + 0x1000 * m + 16 * w

/-- A port of a leaf memory, A for 0 and B for 1. -/
def Stack.leafPort (s : Stack) (t : Tile) (m port : Nat) : LeafPort := mapGet {} s.fabric.ports (portKey t m port)

/-- A port of a leaf memory replaced. -/
def Stack.setLeafPort (s : Stack) (t : Tile) (m port : Nat) (y : LeafPort) : Stack :=
  { s with fabric := { s.fabric with ports := mapSet {} s.fabric.ports (portKey t m port) y } }

/-- Whether a design's port has clock edges: the gates of its tile's section are open and its domain runs (R93, R169). -/
def Stack.leafClocked (s : Stack) (t : Tile) (m port : Nat) : Bool :=
  s.tileClocked t && s.domainRunning (userDomain t.layer (s.leafPort t m port).domain)

/-- What a port that reads `width` bits, unit `u` of the word at `w`, delivers: the data and its flags (R90, R96, R372). -/
def Stack.leafData (s : Stack) (w width u : Nat) : BitVec 131 :=
  let v := bits (ofBytes (s.readBytes w 16)) (width * u) width
  BitVec.ofNat 131 (match s.mark (w / 16) with
    | .ok => v
    | .symbol _ => v + 2 ^ 128
    | _ => 2 ^ width - 1 + 2 ^ 129)

/-- A design read on a port: its data and flags stand at the port, and the answer holds data, error, correctable and uncorrectable flag. An
address beyond the depth reads 0 with the error flag (R90, R91, R96, R372). -/
def Stack.leafPortRead (t : Tile) (m port a : Nat) (s : Stack) : Stack :=
  let y := s.leafPort t m port
  let sh := leafShape y.ratio
  if !s.leafClocked t m port then s
  else if sh.2.1 ≤ a then (s.setLeafPort t m port { y with data := BitVec.ofNat 131 (2 ^ 130), last := Option.none }).answered 0 [0, 1, 0, 0]
  else
    let w := leafWord t m (a / sh.2.2); let d := s.leafData w sh.1 (a % sh.2.2)
    let r := (s.meetCodeword (w / 16) 3 w).setLeafPort t m port { y with data := d, last := some { loc := w, unit := a % sh.2.2 } }
    r.answered (s.mark (w / 16)).status [bits d.toNat 0 128, 0, bits d.toNat 128 1, bits d.toNat 129 1]

/-- The read data of a port after a write at the same edge, on either port, to the word that it has just read: the new data (R94). -/
def Stack.leafReread (s : Stack) (t : Tile) (m w port : Nat) : Stack :=
  let y := s.leafPort t m port
  match y.last with
  | some x => if x.loc = w ∧ x.mask = 0 then s.setLeafPort t m port { y with data := s.leafData w (leafShape y.ratio).1 x.unit } else s
  | Option.none => s

/-- The bits of a word that a write on a port changes: those of its unit, but with port A's write at the same edge, which stands where the two
overlap, port B leaves A's bits (R94). -/
def Stack.leafMask (s : Stack) (t : Tile) (m port w : Nat) (same : Bool) (mask : BitVec 128) : BitVec 128 :=
  match (s.leafPort t m 0).last with
  | some x => if same && port == 1 && x.loc == w then mask &&& ~~~x.mask else mask
  | Option.none => mask

/-- A design write on a port (R90 to R92, R95): beyond the depth it is ignored, before enable writes it is ignored (R60). A write
narrower than 128 bits is a read-modify-write; sample mode writes bits [127:126] as 0. `same` says that it falls at the edge of the other
accesses that came just before, or within 300 ps of it: a read then returns the new data, and where both ports write, port A's bits stand
(R94). The answer holds the port's error flag. -/
def Stack.leafPortWrite (t : Tile) (m port a v : Nat) (same : Bool) (s : Stack) : Stack :=
  let y := s.leafPort t m port
  let sh := leafShape y.ratio
  if !s.leafClocked t m port || !s.sys.writesEnabled || sh.2.1 ≤ a then s
  else
    let w := leafWord t m (a / sh.2.2); let lo := sh.1 * (a % sh.2.2)
    let h := s.mark (w / 16)
    let mask := BitVec.ofNat 128 ((2 ^ sh.1 - 1) * 2 ^ lo)
    let keep := s.leafMask t m port w same mask
    let old := BitVec.ofNat 128 (ofBytes (s.readBytes w 16))
    let new := ((old &&& ~~~keep) ||| (BitVec.ofNat 128 (v * 2 ^ lo) &&& keep)).toNat
    let new := if y.ratio = 4 then new % 2 ^ 126 else new
    let full := sh.1 == 128
    let bad := !full && (h == .poison || h == .uncorrectable)
    let s := (s.writeBytes w (toBytes 16 new)).markWrite (w / 16) full false
    let s := if same then (s.leafReread t m w 0).leafReread t m w 1 else s
    let y := s.leafPort t m port
    let s := s.setLeafPort t m port
      { y with data := BitVec.ofNat 131 (bits y.data.toNat 0 130 + 2 ^ 130 * b2n bad), last := some { loc := w, mask := mask } }
    s.answered 0 [b2n bad]

/-- LEAF_PORT_READ (R93): A design read on a leaf-memory port returns data, or zero with the error flag for an address beyond the depth.
-/
def execLeafPortRead (k : Side) (layer tile m port a : Nat) (s : State) : Host.Outcome State Fault Refusal :=
  nextStack s k (Stack.leafPortRead ⟨layer, tile⟩ m port a)

/-- LEAF_PORT_WRITE (R95): A design write on a leaf-memory port, a read-modify-write when it is narrower than 128 bits. -/
def execLeafPortWrite (k : Side) (layer tile m : Nat) (e : PortEdge) (a v : Nat) (s : State) : Host.Outcome State Fault Refusal :=
  nextStack s k (Stack.leafPortWrite ⟨layer, tile⟩ m e.port a v e.same)

end Sys2Proof.Machine
end

