-- ==== Sys2Proof/Machine/Integrity.lean ====
section
/-! DEFINITION. Error logs, scrubbers, injection and vertical links (R370 to R388). -/

namespace Sys2Proof.Machine

/-! ## Error logs (R371, R388) -/

/-- An event entered in a log: a matching entry's count rises, else it takes the next empty entry; none when the log is full. -/
def logTake (e : ErrEvent) (epoch : Nat) : List LogEntry → Nat → Option (List LogEntry)
  | [], room => if room = 0 then Option.none else some [⟨e.source, e.loc, e.symbol, 1, epoch⟩]
  | x :: t, room =>
    if x.source = e.source ∧ x.loc = e.loc then some ({ x with count := Nat.min (x.count + 1) 0xFFFF } :: t)
    else (logTake e epoch t (room - 1)).map (x :: ·)

/-- The oldest event leaves the queue and enters its log; with no empty entry it sets the log's OVERFLOW (R371). -/
def Stack.errorLogEntry (s : Stack) : Stack :=
  match s.integ.queue with
  | [] => s
  | e :: q =>
    let s := { s with integ := { s.integ with queue := q } }
    let epoch := s.get RING.EPOCH_COUNT
    if e.ue then
      match logTake e epoch s.integ.ueLog 16 with
      | some l => { s with integ := { s.integ with ueLog := l } }
      | Option.none => s.raise CODE.LOG_STATUS_UE_OVERFLOW
    else
      match logTake e epoch s.integ.ceLog 16 with
      | some l => ({ s with integ := { s.integ with ceLog := l } } : Stack).raise CODE.INT_CE_NEW
      | Option.none => s.raise CODE.LOG_STATUS_CE_OVERFLOW

/-- LOG_CLEAR.CE (R388). -/
def Stack.logClearCe (s : Stack) : Stack := ({ s with integ := { s.integ with ceLog := [] } } : Stack).put CODE.LOG_STATUS_CE_OVERFLOW 0

/-- LOG_CLEAR.UE (R388). -/
def Stack.logClearUe (s : Stack) : Stack := ({ s with integ := { s.integ with ueLog := [] } } : Stack).put CODE.LOG_STATUS_UE_OVERFLOW 0

/-- CODE.INJECT written with ARM: accepted in Day and Workshop; it replaces a pending one (R387). -/
def Stack.injectArm (target symA symB : Nat) (s : Stack) : Stack :=
  let t := ((s.put CODE.INJECT_TARGET target).put CODE.INJECT_SYM_A symA).put CODE.INJECT_SYM_B symB
  if s.modeIn [.day, .workshop] then t.put CODE.INJECT_ARM 1 else t

/-- ERROR_LOG_ENTRY (R371): An error event leaves the 64-event queue and enters the correctable or uncorrectable log. -/
def execErrorLogEntry (k : Side) (s : State) : Host.Outcome State Fault Refusal := nextStack s k Stack.errorLogEntry

/-- LOG_CLEAR_CE (R388): LOG_CLEAR.CE empties the correctable log and clears CE_OVERFLOW. -/
def execLogClearCe (k : Side) (s : State) : Host.Outcome State Fault Refusal := nextStack s k Stack.logClearCe

/-- LOG_CLEAR_UE (R388): LOG_CLEAR.UE empties the uncorrectable log and clears UE_OVERFLOW. -/
def execLogClearUe (k : Side) (s : State) : Host.Outcome State Fault Refusal := nextStack s k Stack.logClearUe

/-- INJECT_ARM (R387): Arming CODE.INJECT makes the next full write of a codeword store it with symbols inverted. -/
def execInjectArm (k : Side) (target symA symB : Nat) (s : State) : Host.Outcome State Fault Refusal :=
  nextStack s k (Stack.injectArm target symA symB)

/-! ## Scrubbers (R376 to R378) -/

/-- Codewords of scrubber n: a memory layer of 6 GiB, or the commons (R377). -/
def scrubWords (n : Nat) : Nat := if n < 4 then 0x18000000 else 0x400000

/-- The mark key, source and reported location of codeword p of scrubber n (R342, R343, R370, R376). -/
def Stack.scrubPlace (s : Stack) (n p : Nat) : Nat × Nat × Nat :=
  if n = 4 then (0x00800000000 / 16 + p, 2, 0x00800000000 + 16 * p)
  else if s.pooled then
    let o := 16 * p
    let loc := o / 4096 * (if s.build = .octavo then 8192 else 16384) + n * 4096 + o % 4096
    (loc / 16, 0, loc)
  else if p < 0x5000000 then (pageMark (n * 0x80000000 + 16 * p), 1, n * 2 ^ 32 + 16 * p)
  else let loc := n * localBytes + 16 * (p - 0x5000000); (loc / 16, 0, loc)

/-- Whether scrubber n runs: enabled, present, and in a mode of R378. -/
def Stack.scrubRuns (s : Stack) (n : Nat) : Bool :=
  bit (s.get CODE.SCRUB_CTL_ENABLE) n && (n == 4 || decide (n < s.build.layers)) &&
    (s.modeIn [.day, .workshop, .haven] || (s.mode == .dusk && decide (s.sys.duskStep < 4)))

/-- A scrubber visits its next codeword: a correctable one is written back corrected, an uncorrectable one poisoned; at word 0 a lap
begins, and the lap before it, if there was a visit of word 0 before, ends (R372, R377, R378). -/
def Stack.scrubVisit (n : Nat) (s : Stack) : Stack :=
  if !s.scrubRuns n then s
  else
    let at_ := mapGet 0 s.integ.scrubPos n
    let p := at_ % scrubWords n
    let s := if p = 0 then
        let s := match at_, mapGet 0 s.integ.lapStart n with
          | _ + 1, t + 1 => s.put (CODE.LAP_MS n) ((s.clk.up - t) / 1000000)
          | _, _ => s
        { s with integ := { s.integ with lapStart := mapSet 0 s.integ.lapStart n (s.clk.up + 1), lapOver := mapSet false s.integ.lapOver n false } }
      else s
    let q := s.scrubPlace n p
    let s := match s.mark q.1 with
      | .ok => s
      | .symbol j => (s.errorEvent false q.2.1 q.2.2 j).setMark q.1 .ok
      | _ => ((s.errorEvent true q.2.1 q.2.2 0x3F).setMark q.1 .poison).raise CODE.INT_POISON
    { s with integ := { s.integ with scrubPos := mapSet 0 s.integ.scrubPos n (p + 1) } }

/-- The lap limit of scrubber n in milliseconds (R388). -/
def Stack.lapLimit (s : Stack) (n : Nat) : Nat := if n < 4 then s.get CODE.LAP_LIMIT_MEM else s.get CODE.LAP_LIMIT_COMN

/-- A lap exceeds its limit: LAP at the moment of excess, once a lap (R378). -/
def Stack.lapExceeded (n : Nat) (s : Stack) : Stack :=
  match mapGet 0 s.integ.lapStart n with
  | 0 => s
  | t + 1 =>
    if s.scrubRuns n && !mapGet false s.integ.lapOver n && decide (s.lapLimit n * 1000000 < s.clk.up - t) then
      ({ s with integ := { s.integ with lapOver := mapSet false s.integ.lapOver n true } } : Stack).raise CODE.INT_LAP
    else s

/-- SCRUB_VISIT (R377): A scrubber visits one codeword, writes back a correction or poisons an uncorrectable word. -/
def execScrubVisit (k : Side) (n : Nat) (s : State) : Host.Outcome State Fault Refusal := nextStack s k (Stack.scrubVisit n)

/-- LAP_LIMIT_EXCEEDED (R378): A scrubber lap exceeds its limit, and the LAP interrupt is set. -/
def execLapLimitExceeded (k : Side) (n : Nat) (s : State) : Host.Outcome State Fault Refusal := nextStack s k (Stack.lapExceeded n)

/-! ## Vertical links (R379 to R386) -/

/-- A link identifier (R380). -/
def linkId (kind unit boundary lane : Nat) : Nat := kind * 8192 + unit * 256 + boundary * 16 + lane

/-- The link identifiers of a build, ascending (R379, R380). -/
def Build.links (b : Build) : List Nat :=
  let n := b.layers
  let lanes := fun kind unit bd => (List.range 4).map fun l => linkId kind unit bd l
  let hops := fun ring => (List.range (n + 1)).flatMap fun h =>
    (if h = n then List.range (2 * n) else [2 * h, 2 * h + 1]).flatMap (lanes 0 (8 * ring + h))
  ((List.range 4).flatMap hops)
  ++ ((List.range n).flatMap fun m => (List.range 4).flatMap fun g => (List.range (2 * m + 3)).flatMap (lanes 1 (4 * m + g)))
  ++ ((List.range 25).flatMap fun g => (List.range n).flatMap fun m => lanes 2 g (2 * m + 2))
  ++ ((List.range 8).flatMap fun g => (List.range n).flatMap fun m => lanes 3 g (2 * m + 2))

/-- A link's record. -/
def Stack.vlink (s : Stack) (l : Nat) : VLink := mapGet {} s.integ.vlinks l

/-- A link's record replaced. -/
def Stack.setVlink (s : Stack) (l : Nat) (v : VLink) : Stack :=
  { s with integ := { s.integ with vlinks := mapSet {} s.integ.vlinks l v } }

/-- The repair map of the links written to the ledger (R386). -/
def Stack.writeLinkMap (s : Stack) : Stack :=
  let ids := s.build.links
  let words := ids.flatMap fun l =>
    let v := s.vlink l
    let sp := fun i => v.spares.getD i 0xFF
    [l + sp 0 * 2 ^ 16 + sp 1 * 2 ^ 24, sp 2 + sp 3 * 2 ^ 8 + sp 4 * 2 ^ 16 + sp 5 * 2 ^ 24,
     sp 6 + sp 7 * 2 ^ 8 + v.unspared * 2 ^ 16 + v.state * 2 ^ 24]
  s.deviceRecord 0x0023 (putWords [] 0 ((1 + ids.length * 65536) :: words))

/-- CODE.VLINK_EVENT (R388). -/
def Stack.vlinkEvent (s : Stack) (link action : Nat) : Stack :=
  let first := !s.flag CODE.VLINK_EVENT_VALID
  let t := s.eventReg CODE.VLINK_EVENT_VALID CODE.VLINK_EVENT_LOST [(CODE.VLINK_EVENT_LINK, link), (CODE.VLINK_EVENT_ACTION, action)]
  if first then t.raise CODE.INT_VLINK else t

/-- Lanes of a group that are retired: any of the four whose link is retired at some boundary of the connection (R385). `sel` says
which boundaries belong to it. -/
def Stack.retiredLanes (s : Stack) (kind unit : Nat) (sel : Nat → Bool) : Nat :=
  ((List.range 4).filter fun lane =>
    (List.range 16).any fun bd => sel bd && (s.vlink (linkId kind unit bd lane)).state == 2).length

/-- The variant of the variant store for a hop (R336). -/
def Stack.variantFor (s : Stack) (ring hop : Nat) : Option Variant := s.rings.variants.find? fun v => v.ring == ring && v.hop == hop

/-- A fault of a layer whose recovery is complete at once: the connection runs at its reduced rate and no section is held (R385). -/
def Stack.layerReduced (s : Stack) (layer cause link : Nat) : Stack :=
  (s.fault (.layer layer) 0x0006 cause link 0).recoveryComplete (.layer layer)

/-- Retired lanes of the group of a link: of its whole path for a spine hop or a store channel, at its boundary otherwise (R379, R385). -/
def Stack.groupRetired (s : Stack) (link : Nat) : Nat :=
  s.retiredLanes (link / 8192) (link / 256 % 32) (if 2 ≤ link / 8192 then (· == link / 16 % 16) else fun _ => true)

/-- RING.HOP_RETIRED of a hop: its retired lanes (R335, R336). -/
def Stack.showHop (s : Stack) (ring hop : Nat) : Stack :=
  let f := RING.HOP_RETIRED ring
  let v := s.get f
  let n := s.retiredLanes 0 (8 * ring + hop) fun _ => true
  s.put f (v - bits v (2 * hop) 2 * 2 ^ (2 * hop) + Nat.min n 3 * 2 ^ (2 * hop))

/-- A dead group becomes its fault: of the stack for a spine hop or a connection with no working group, else of the layer (R335, R385). -/
def Stack.deadGroup (s : Stack) (link : Nat) : Stack :=
  let kind := link / 8192; let unit := link / 256 % 32; let bd := link / 16 % 16
  match kind with
  | 0 => s.fault .stack 0x0003 2 link 0
  | 1 =>
    let m := unit / 4
    if (List.range 4).all fun g => 2 ≤ s.retiredLanes 1 (4 * m + g) fun _ => true then s.fault .stack 0x0006 3 link 0
    else s.layerReduced (logicLayer m) 3 link
  | _ =>
    let n := if kind = 2 then 25 else 8
    if (List.range n).all fun g => 2 ≤ s.retiredLanes kind g (· == bd) then s.fault .stack 0x0006 3 link 0
    else s.layerReduced bd 3 link

/-- A degraded hop with the base timetable live and a variant for it: the degraded-timetable device turn (R336). -/
def Stack.degradedTurn (s : Stack) (link : Nat) : Stack :=
  let unit := link / 256 % 32
  if link / 8192 = 0 ∧ s.get RING.TT_STATUS_VARIANT = 0 then
    match s.variantFor (unit / 8) (unit % 8) with
    | some v => s.makeDevTurn (.degraded v.num)
    | Option.none => s
  else s

/-- A link is retired: its lane's group is degraded or dead. In Dawn what follows waits for the move to Day (R335, R336, R384, R385). -/
def Stack.retireLink (s : Stack) (link : Nat) : Stack :=
  let kind := link / 8192; let unit := link / 256 % 32
  let before := s.groupRetired link
  let s := (s.setVlink link { s.vlink link with state := 2 }).vlinkEvent link 2
  let after := s.groupRetired link
  let dropped := if kind = 0 then (s.variantFor (unit / 8) (unit % 8)).elim 0 (fun v => v.dropped.length) else 0
  let s := s.event { block := 0x0006, cause := 2, data0 := link, data1 := dropped }
  let s := if 2 ≤ after ∧ before < 2 then s.vlinkEvent link 3 else s
  let s := if kind = 0 then (let t := s.showHop (unit / 8) (unit % 8); if before = 0 then t.raise RING.INT_DEGRADED else t) else s
  if s.mode = .dawn then s
  else if 2 ≤ after ∧ before < 2 then s.deadGroup link
  else if before = 0 then s.degradedTurn link
  else s

/-- What the groups found degraded or dead at Dawn cause at the move to Day (R336, R385, log 107). -/
def Stack.linksAtDay (s : Stack) : Stack :=
  let group := fun (l : Nat) => if 2 ≤ l / 8192 then l / 16 else l / 256
  let first := s.build.links.foldl (fun acc l =>
    if (s.vlink l).state = 2 ∧ !(acc.any fun m => group m == group l) then acc ++ [l] else acc) []
  first.foldl (fun s l => if 2 ≤ s.groupRetired l then s.deadGroup l else s.degradedTurn l) s

/-- A failed via with no free good spare leaves its symbol unspared: the link is degraded, or due to retire (R384). -/
def Stack.viaUnspared (s : Stack) (link via : Nat) : Stack :=
  let v := s.vlink link
  if v.state = 0 then
    ((s.setVlink link { v with state := 1, unspared := via / 4 }).vlinkEvent link 1).event { block := 0x0006, cause := 1, data0 := link }
  else if v.state = 1 ∧ v.unspared ≠ via / 4 ∧ !s.integ.retire.contains link then
    { s with integ := { s.integ with retire := s.integ.retire ++ [link] } }
  else s

/-- A via of a link fails: it takes a free good spare over two epoch boundaries, or leaves its symbol unspared (R383, R384). -/
def Stack.viaFails (s : Stack) (link via : Nat) : Stack :=
  let v := s.vlink link
  let v := { v with spares := v.spares.map fun x => if x == via then 0xFE else x }
  let taken := s.integ.remaps.filterMap fun r => if r.link = link then some r.spare else Option.none
  match (List.range 8).find? fun j => v.spares.getD j 0xFE == 0xFF && !taken.contains j with
  | some j => { s.setVlink link v with integ := { (s.setVlink link v).integ with remaps := s.integ.remaps ++ [⟨link, via, j, 2⟩] } }
  | Option.none => (s.setVlink link v).viaUnspared link via

/-- The test of a link's vias and spares at Dawn step 4, with the vias `bad` delivering a wrong bit: a failed spare is marked, and each via
that has failed and that no good spare serves takes a free good one, or leaves its symbol unspared (R382, R384). -/
def Stack.viaTest (s : Stack) (bad : Nat → Bool) (link : Nat) : Stack :=
  let v := s.vlink link
  let at_ := fun j => v.spares.getD j 0xFE
  let lost := (List.range 8).filterMap fun j => if bad (144 + j) && decide (at_ j < 144) then some (at_ j) else Option.none
  let spares := (List.range 8).map fun j => if bad (144 + j) then 0xFE else at_ j
  let need := (List.range 144).filter fun i => lost.contains i || (bad i && !spares.contains i)
  if need.isEmpty && spares == (List.range 8).map at_ then s
  else
    need.foldl (fun s i =>
      let v := s.vlink link
      match (List.range 8).find? fun j => v.spares.getD j 0xFE == 0xFF with
      | some j => s.setVlink link { v with spares := v.spares.set j i }
      | Option.none => s.viaUnspared link i) (s.setVlink link { v with spares := spares })

/-- Every vertical data link tested; what changed is written to the ledger (R382). -/
def Stack.testLinks (s : Stack) : Stack :=
  let t := s.build.links.foldl (fun t l => t.viaTest (Config.viaBad s.freeCount l) l) s.draw
  if t.integ.vlinks = s.integ.vlinks then t else t.writeLinkMap

/-- A symbol of a link is persistent: eight corrections within 1 ms, of which the vias in `mask` had at least four (R383). A retired
link carries nothing (R385), and in the unspared symbol the corrections count only on the link (R370). A link that degrades is written to the
ledger with the repair map, whose entries hold its state (R384, R386). -/
def Stack.persistentSymbol (link symbol mask : Nat) (s : Stack) : Stack :=
  let v := s.vlink link
  if !s.build.links.contains link || v.state == 2 then s
  else
    let own := v.state == 1 && v.unspared == symbol
    let s := s.setVlink link { v with ce := Nat.min (v.ce + 8) 0xFFFF }
    if own then s
    else
      let s := (List.range 8).foldl (fun s _ => s.errorEvent false 6 link symbol) s
      let t := ((List.range 4).filter (bit mask)).foldl (fun s b => s.viaFails link (4 * symbol + b)) s
      if (t.vlink link).state = v.state then t else t.writeLinkMap

/-- PERSISTENT_SYMBOL (R383): A link corrects eight errors in one symbol within 1 ms; its vias are failed and remapped, or the link
degrades or retires. -/
def execPersistentSymbol (k : Side) (link symbol mask : Nat) (s : State) : Host.Outcome State Fault Refusal :=
  nextFault s k (Stack.persistentSymbol link symbol mask)

/-- What an epoch boundary does for the links: remaps advance and complete, and links due are retired (R383, R384). -/
def Stack.linkEpoch (s : Stack) : Stack :=
  let done := s.integ.remaps.filter fun r => r.left ≤ 1
  let rest := (s.integ.remaps.filter fun r => !(r.left ≤ 1)).map fun r => { r with left := r.left - 1 }
  let due := s.integ.retire
  let s := { s with integ := { s.integ with remaps := rest, retire := [] } }
  let s := done.foldl (fun s r =>
    let v := s.vlink r.link
    (s.setVlink r.link { v with spares := v.spares.set r.spare r.via }).vlinkEvent r.link 0) s
  let s := if done.isEmpty then s else s.writeLinkMap
  let s := due.foldl Stack.retireLink s
  if due.isEmpty then s else s.writeLinkMap

end Sys2Proof.Machine
end

