-- ==== Sys2Proof/Machine/LaceBase.lean ====
section
/-! DEFINITION. Guaranteed queues, and the transmit buffers of the Lacing stop (R321, R322, R449). -/

namespace Sys2Proof.Machine

/-- Depth of a guaranteed queue by the live timetable (R322). -/
def Stack.queueDepth (s : Stack) (hub stop queue : Nat) : Nat :=
  mapGet 0 s.rings.live (2 ^ 25 + (hub * 32 + stop) * 32 + queue) % 1024

/-- The flits of a guaranteed queue, oldest first. -/
def Stack.queueFlits (s : Stack) (hub stop queue : Nat) : List Nat := mapGet [] s.rings.queues ((hub * 32 + stop) * 32 + queue)

/-- Whether a queue has room for n flits (R322). -/
def Stack.queueRoom (s : Stack) (hub stop queue n : Nat) : Bool :=
  decide ((s.queueFlits hub stop queue).length + n ≤ s.queueDepth hub stop queue)

/-- Flits added to a guaranteed queue. -/
def Stack.pushQueue (s : Stack) (hub stop queue : Nat) (l : List Nat) : Stack :=
  { s with rings := { s.rings with
      queues := mapSet [] s.rings.queues ((hub * 32 + stop) * 32 + queue) (s.queueFlits hub stop queue ++ l) } }

/-- A guaranteed flit ejected at the Lacing stop on a receive channel: sent on the link that CHMAP names, or lost (R449). -/
def Stack.laceEject (s : Stack) (chan flit : Nat) : Stack :=
  let k := s.get (LANE.CHMAP_LINK chan)
  if !s.flag (LANE.CHMAP_VALID chan) || decide (s.build.laces ≤ k) then (s.bump RING.GQ_LOSS_NO_CURSOR).raise RING.INT_GQ_LOSS
  else
    let x := s.lace k
    if 2048 ≤ x.guar.length then s.laceDrop k 1
    else s.setLace k { x with guar := x.guar ++ [(s.get (LANE.CHMAP_QUEUE chan), flit)] }

end Sys2Proof.Machine
end

