-- ==== Sys2Proof/Machine/Rings.lean ====
section
/-! DEFINITION. Rings: initiator interfaces, regulators, timetables and guaranteed flits (R306 to R338). -/

namespace Sys2Proof.Machine

/-! ## Initiator interfaces (R308, R327 to R330, R341) -/

/-- A tag of an interface. -/
def Stack.ringTag (s : Stack) (n tag : Nat) : RingTag := mapGet {} s.rings.tags (1024 * n + tag)

/-- A tag of an interface replaced. -/
def Stack.setTag (s : Stack) (n tag : Nat) (t : RingTag) : Stack :=
  { s with rings := { s.rings with tags := mapSet {} s.rings.tags (1024 * n + tag) t } }

/-- Whether a register block's destination exists: hub k for SECT and FE, base stop 15 for the others (R10, R308, R340). -/
def Build.regDestination (b : Build) (loc : Nat) : Bool :=
  let n := loc / 0x10000 % 0x10000
  if 0x40 ≤ n ∧ n < 0x44 then decide (n - 0x40 < b.layers)
  else if 0x50 ≤ n ∧ n < 0x54 then decide (n - 0x50 < b.layers)
  else true

/-- The requests that the interface answers itself with ERROR (R308, R341, R359). -/
def Stack.interfaceError (s : Stack) (op : Nat) (h : Header) : Bool :=
  let loc := h.addr % 2 ^ 44; let kid := h.addr / 2 ^ 44 % 16
  let tgt := targetOf loc
  let data := op == 1 || op == 2 || op == 3
  let n := if op = 1 then h.rlen else h.len
  tgt == .none || (tgt == .store && decide (s.usable ≤ loc))
  || (kid != 0 && tgt != .store && tgt != .fabric)
  || (kid == 1 && h.src != 0)
  || (data && loc % 64 != 0 && !(op == 1 && h.rot))
  || (data && decide (1024 < loc % 1024 / 64 * 64 + 64 * n))
  || (tgt == .leaf && (s.build.logicIndex (bits loc 28 4)).isNone)
  || (tgt == .engine && ((s.build.logicIndex (bits loc 24 4)).isNone || bits loc 28 4 != 0))
  || (tgt == .fabric && ((s.build.logicIndex (bits loc 28 4)).isNone || bits loc 23 5 % 4 == 0))
  || (tgt == .regs && !s.build.regDestination loc)

/-- BURST of a regulator in flits: values below 17 act as 17 (R327). -/
def Stack.burst (s : Stack) (r : Nat) : Nat := Nat.max (s.get (RING.REG_CFG_BURST r)) 17

/-- Whether a regulator lets a packet of n flits depart (R327); regulator 10 stands for none. -/
def Stack.tokensFor (s : Stack) (r n : Nat) : Bool :=
  10 ≤ r || s.get (RING.REG_CFG_RATE r) == 0 || decide (16 * n ≤ mapGet 0 s.rings.tokens r)

/-- The class of an initiator's requests: regulated, or best effort where it has no regulator or RATE 0 (R311, R327). -/
def Stack.classFor (s : Stack) (r : Nat) : Nat := if 10 ≤ r ∨ s.get (RING.REG_CFG_RATE r) = 0 then 2 else 1

/-- Tokens taken by a departing packet (R327). -/
def Stack.takeTokens (s : Stack) (r n : Nat) : Stack :=
  if 10 ≤ r ∨ s.get (RING.REG_CFG_RATE r) = 0 then s
  else { s with rings := { s.rings with tokens := mapSet 0 s.rings.tokens r (mapGet 0 s.rings.tokens r - 16 * n) } }

/-- The router that a request's device address names: hub index, and stop, or none for the hub itself; an MSG goes to HOSTIF (R87, R276, R308,
R312, R340, R359). -/
def Stack.destinationOf (s : Stack) (op addr : Nat) : Nat × Option Nat :=
  let loc := addr % 2 ^ 44
  if op = 8 then (0, some 0)
  else match targetOf loc with
    | .store | .commons => (0, some (s.portStop loc))
    | .leaf => (bits loc 28 4 / 2, Option.none)
    | .fabric => (bits loc 28 4 / 2, some (bits loc 23 5))
    | .engine => (bits loc 24 4 / 2, some (4 * (bits loc 16 8 / 24)))
    | .regs =>
      let n := loc / 0x10000 % 0x10000
      if 0x40 ≤ n ∧ n < 0x48 then (n - 0x40 + 1, Option.none)
      else if 0x50 ≤ n ∧ n < 0x58 then (n - 0x50 + 1, Option.none)
      else (0, some 15)
    | .none => (0, some 15)

/-- The microseconds of an interface's timer: 1 to 1,000; 0 acts as 16 (R329, R338). -/
def Stack.timeoutUs (s : Stack) (n : Nat) : Nat := let v := s.get (RING.TMO_US n); if v = 0 then 16 else Nat.min v 1000

/-- When the timer of a request expires: it started when the interface accepted the request, under the timeout value of that moment (R329). -/
def Stack.requestDue (s : Stack) (n tag : Nat) : Nat :=
  if (s.ringTag n tag).st = 0 then s.clk.up + 1000 * s.timeoutUs n else (s.ringTag n tag).due

/-- An interface takes a request of an opcode from its initiator (R308, R327 to R329, R341): answered ERROR at once; or injected when
its tag is free, its response space is free (`room`) and its regulator holds tokens; or it waits. -/
def Stack.inject (op : Nat) (h : Header) (reg : Nat) (room : Bool) (s : Stack) : Stack :=
  let t := s.ringTag h.src h.tag
  if takesTag op && 2 ≤ t.st then s
  else if s.interfaceError op h then (s.setTag h.src h.tag {}).answered 1 []
  else
    let n := 1 + h.len
    let epoch := s.get RING.EPOCH_COUNT % 65536
    let due := s.requestDue h.src h.tag
    if !(room || !takesTag op) then s.setTag h.src h.tag { t with st := 1, birth := epoch, due := due }
    else if !s.tokensFor reg n then
      let s := if t.waited then s else s.bump (RING.REG_STAT_WAITS reg)
      if takesTag op then s.setTag h.src h.tag { st := 1, birth := epoch, waited := true, due := due } else s
    else
      let d := s.destinationOf op h.addr
      let s := (s.takeTokens reg n).launch op { h with birth := epoch, cls := s.classFor reg } (h.src / 32) (some (h.src % 32)) d.1 d.2
      if takesTag op then s.setTag h.src h.tag { st := 2, birth := epoch, due := due } else s

/-- A response reaches its initiator, or is dropped as late; a late response frees a quarantined tag (R330). -/
def Stack.response (n tag status : Nat) (data : List Nat) (s : Stack) : Stack :=
  let t := s.ringTag n tag
  if t.st = 2 then (s.setTag n tag {}).answered status data
  else
    let s := if t.st = 3 then s.setTag n tag {} else s
    (s.bump (RING.ISTAT_LATE n)).raise RING.INT_LATE

/-- A request's timer expires (R329): device time, once it runs, is then that of the expiry (log 60); a remote window's request ends with
TIMEOUT (R450). -/
def Stack.requestTimeout (n tag : Nat) (s : Stack) : Stack :=
  let t := s.ringTag n tag
  let s := if t.st = 1 ∨ t.st = 2 then s.elapse t.due else s
  let rwin := fun (x : Stack) => if n = 13 ∧ (x.lace (tag % 5)).rwinTag = tag then (x.put (LANE.RWIN_STATUS_STATUS (tag % 5)) 2).put (LANE.RWIN_STATUS_BUSY (tag % 5)) 0
    else x
  if t.st = 1 then ((rwin (s.setTag n tag {})).bump (RING.ISTAT_TIMEOUTS n)).answered 2 []
  else if t.st = 2 then ((rwin (s.setTag n tag { t with st := 3 })).bump (RING.ISTAT_TIMEOUTS n)).answered 2 []
  else s

/-- Age of a BIRTH in epochs, modulo 65,536 (R316). -/
def Stack.age (s : Stack) (birth : Nat) : Nat := (s.get RING.EPOCH_COUNT + 65536 - birth % 65536) % 65536

/-- A quarantined tag whose request is 586 epochs old is free (R329). -/
def Stack.quarantineExpiry (n tag : Nat) (s : Stack) : Stack :=
  let t := s.ringTag n tag
  if t.st = 3 ∧ 586 ≤ s.age t.birth then s.setTag n tag {} else s

/-- A packet whose age reaches 586 epochs is discarded (R316). -/
def Stack.lifetimeDiscard (birth : Nat) (s : Stack) : Stack :=
  if 586 ≤ s.age birth then
    let gone := s.rings.packets.find? fun p => !p.arrived && p.head.birth == birth % 65536
    let s : Stack := { s with rings := { s.rings with packets := match gone with
      | some p => s.rings.packets.erase p
      | Option.none => s.rings.packets } }
    (s.bump RING.DISCARD_LIFETIME).raise RING.INT_DISCARD
  else s

/-- A request with an unassigned opcode: UNSUPPORTED, or dropped when it carries no tag expectation (R312). -/
def Stack.unassigned (posted : Bool) (s : Stack) : Stack := if posted then s.answered noAnswer [] else s.answered 8 []

/-- REQUEST_INJECT (R328): An initiator interface injects a request once its response space and tag are free. -/
def execRequestInject (k : Side) (op : Nat) (h : Header) (reg : Nat) (room : Bool) (s : State) : Host.Outcome State Fault Refusal :=
  nextStack s k (Stack.inject op h reg room)

/-- TAG_QUARANTINE_EXPIRY (R329): A quarantined tag whose request is 586 epochs old is freed. -/
def execTagQuarantineExpiry (k : Side) (n tag : Nat) (s : State) : Host.Outcome State Fault Refusal :=
  nextStack s k (Stack.quarantineExpiry n tag)

/-- PACKET_LIFETIME_DISCARD (R316): A router discards a packet whose age reaches 586 epochs. -/
def execPacketLifetimeDiscard (k : Side) (birth : Nat) (s : State) : Host.Outcome State Fault Refusal :=
  nextStack s k (Stack.lifetimeDiscard birth)

/-- UNASSIGNED_OPCODE (R312): A request with an unassigned opcode is answered UNSUPPORTED, or counted and dropped. -/
def execUnassignedOpcode (k : Side) (posted : Bool) (s : State) : Host.Outcome State Fault Refusal :=
  nextStack s k (Stack.unassigned posted)

/-! ## Timetables (R317 to R325) -/

/-- Keys of the three table spaces (R323). -/
def stopKey (hub router slot : Nat) : Nat := (hub * 64 + router) * 4096 + slot
def hubKey (hub slot : Nat) : Nat := 2 ^ 24 + hub * 4096 + slot
def queueKey (hub stop queue : Nat) : Nat := 2 ^ 25 + (hub * 32 + stop) * 32 + queue

/-- The router number of a stop on a ring (R323). -/
def routerOf (cw : Bool) (stop : Nat) : Nat := if cw then stop else 32 + stop

/-- A stop-table entry of a bank. -/
def ttStop (m : Sparse Nat) (hub : Nat) (cw : Bool) (stop slot : Nat) : Nat :=
  mapGet 0 m (stopKey hub (routerOf cw stop) (slot % 4096))

/-- A hub-table entry of a bank. -/
def ttHub (m : Sparse Nat) (hub slot : Nat) : Nat := mapGet 0 m (hubKey hub (slot % 4096))

/-- A stop's entry sends a guaranteed flit downstream: INJ, or U_RES and U_FWD (R318). -/
def ttDeparts (e : Nat) : Bool := bit e 2 || (bit e 0 && bit e 1)

/-- The source of output o of a hub entry (R319). -/
def ttSource (e o : Nat) : Nat := bits e (3 * o) 3

/-- The hub before a hub on a spine ring, and the slots of that link. -/
def Build.spinePrev (b : Build) (ring hub : Nat) : Nat × Nat :=
  let top := b.layers
  let closing := if b = .octavo then 4 else 8
  if ring % 2 = 0 then (if hub = 0 then (top, closing) else (hub - 1, 2)) else (if hub = top then (0, closing) else (hub + 1, 2))

/-- The hop number of the spine link that leaves a hub (R334). -/
def Build.hopOf (b : Build) (ring hub : Nat) : Nat :=
  let n := (b.spineNext ring hub).1
  if (hub = b.layers ∧ n = 0) ∨ (hub = 0 ∧ n = b.layers ∧ b.layers ≠ 1) then b.layers else Nat.min hub n

/-- Whether a hub input has a reserved arrival for departure slot t: the flit left the previous router early enough (R310, R319). -/
def ttArrives (b : Build) (m : Sparse Nat) (hub src t : Nat) : Bool :=
  let t := t + 4096 * 8
  match src with
  | 1 => ttDeparts (ttStop m hub true (b.beforeHub hub true) (t - 3))
  | 2 => ttDeparts (ttStop m hub false (b.beforeHub hub false) (t - 3))
  | n =>
    let ring := n - 3
    let p := b.spinePrev ring hub
    ttSource (ttHub m p.1 (t - 2 - p.2)) (2 + ring) != 0

/-- Whether some output of a hub names an input for departure slot t, and how many do. -/
def ttNamed (m : Sparse Nat) (hub src t : Nat) : Nat :=
  ((List.range 6).filter fun o => ttSource (ttHub m hub t) o == src).length

/-- DEPTH of a queue of a bank (R322). -/
def ttDepth (m : Sparse Nat) (hub stop queue : Nat) : Nat := mapGet 0 m (queueKey hub stop queue)

/-- Slots from an injection to its ejection: the flit is followed from the departure of a stop (`place` none) or a hub output
(R310, R317). -/
def ttLatency (b : Build) (m : Sparse Nat) : Nat → Nat → Option Nat → Bool → Nat → Nat → Nat
  | 0, _, _, _, _, acc => acc
  | f + 1, hub, stop, cw, t, acc =>
    let toHub := fun (h src t' acc' : Nat) =>
      match (List.range 6).find? fun o => ttSource (ttHub m h t') o == src with
      | Option.none => acc'
      | some 0 => ttLatency b m f h Option.none true t' acc'
      | some 1 => ttLatency b m f h Option.none false t' acc'
      | some o =>
        let n := b.spineNext (o - 2) h
        let t2 := t' + n.2 + 2
        match (List.range 6).find? fun o' => ttSource (ttHub m n.1 t2) o' == o + 1 with
        | some 0 => ttLatency b m f n.1 Option.none true t2 (acc' + n.2 + 2)
        | some 1 => ttLatency b m f n.1 Option.none false t2 (acc' + n.2 + 2)
        | _ => acc' + n.2 + 2
    let next := match stop with
      | Option.none => some (b.afterHub hub cw)
      | some x => b.downstream hub cw x
    match next with
    | some x =>
      let e := ttStop m hub cw x (t + 1)
      if bit e 0 && bit e 1 then ttLatency b m f hub (some x) cw (t + 1) (acc + 1) else acc + 1
    | Option.none => toHub hub (if cw then 1 else 2) (t + 3) (acc + 3)

/-- The cause that a stop-table entry gives, 0 for none, lowest first (R318, R324). `full` says that the layer's ring clock runs at
full scale, so that its dial rings may hold reservations (R307). -/
def ttStopCause (b : Build) (m : Sparse Nat) (full : Nat → Bool) (hub router slot e : Nat) : Nat :=
  let cw := decide (router < 32)
  let stop := router % 32
  let dep := ttDeparts e
  let downOk := match b.downstream hub cw stop with
    | some x => bit (ttStop m hub cw x (slot + 1)) 0
    | Option.none => ttNamed m hub (if cw then 1 else 2) (slot + 3) == 1
  let named := match b.downstream hub cw stop with
    | some _ => 1
    | Option.none => ttNamed m hub (if cw then 1 else 2) (slot + 3)
  let upDep := match b.upstream hub cw stop with
    | some x => ttDeparts (ttStop m hub cw x (slot + 4095))
    | Option.none => ttSource (ttHub m hub (slot + 4095)) (if cw then 0 else 1) != 0
  if bit e 2 && bit e 0 && bit e 1 then 1
  else if dep && !downOk && named == 1 then 2
  else if bit e 0 != upDep then 2
  else if dep && !downOk then 3
  else if bit e 2 && ttDepth m hub stop (bits e 3 5) == 0 then 4
  else if bit e 2 && decide (128 < ttLatency b m 400 hub (some stop) cw slot 0) then 6
  else if hub != 0 && (dep || bit e 0) && !full hub then 7
  else 0

/-- The cause that a hub-table entry gives, 0 for none (R319, R324, R335). -/
def ttHubCause (b : Build) (m : Sparse Nat) (retired : Nat → Nat → Nat) (hub slot e : Nat) : Nat :=
  let srcs := (List.range 6).map fun o => (o, ttSource e o)
  let used := srcs.filter fun p => p.2 != 0
  let dialOk := [0, 1].all fun o => ttSource e o == 0 || bit (ttStop m hub (o == 0) (b.afterHub hub (o == 0)) (slot + 1)) 0
  let spineOk := [2, 3, 4, 5].all fun o =>
    ttSource e o == 0 ||
      (let n := b.spineNext (o - 2) hub; ttNamed m n.1 (o + 1) (slot + n.2 + 2) == 1)
  if !dialOk then 2
  else if used.any (fun p => p.2 == 7) || used.any (fun p => p.2 != 7 && !ttArrives b m hub p.2 slot)
      || used.any (fun p => 1 < (used.filter fun q => q.2 == p.2).length) || !spineOk then 3
  else if slot % 4 = 3 ∧ [2, 3, 4, 5].any (fun o => ttSource e o != 0 && retired (o - 2) (b.hopOf (o - 2) hub) != 0) then 5
  else 0

/-- The cause that a queue descriptor gives: the stop's DEPTH values sum above 512 (R324). -/
def ttDepthCause (m : Sparse Nat) (hub stop : Nat) : Nat :=
  if 512 < (List.range 32).foldl (fun acc q => acc + ttDepth m hub stop q) 0 then 4 else 0

/-- The first inconsistency of a bank, in the order of its keys: cause, hub index, hub table, router, slot (R324). -/
def ttCheck (b : Build) (m : Sparse Nat) (full : Nat → Bool) (retired : Nat → Nat → Nat) : Option (Nat × Nat × Bool × Nat × Nat) :=
  m.findSome? fun p =>
    if p.1 < 2 ^ 24 then
      let hub := p.1 / 262144; let router := p.1 / 4096 % 64; let slot := p.1 % 4096
      let c := ttStopCause b m full hub router slot p.2
      if c = 0 then Option.none else some (c, hub, false, router, slot)
    else if p.1 < 2 ^ 25 then
      let hub := (p.1 - 2 ^ 24) / 4096; let slot := p.1 % 4096
      let c := ttHubCause b m retired hub slot p.2
      if c = 0 then Option.none else some (c, hub, true, 0, slot)
    else
      let x := p.1 - 2 ^ 25
      let c := ttDepthCause m (x / 1024) (x / 32 % 32)
      if c = 0 then Option.none else some (c, x / 1024, false, x / 32 % 32, 0)

/-- Whether layer index hub's ring clock runs at full scale (R307). -/
def Stack.fullScale (s : Stack) (hub : Nat) : Bool := s.get (POWER.OPP_SCALE (hub - 1)) == 64

/-- Retired links of a hop (R334, R338). -/
def Stack.hopRetired (s : Stack) (ring hop : Nat) : Nat := bits (s.get (RING.HOP_RETIRED ring)) (2 * hop) 2

/-- The check of the staged timetable; a failure is recorded in TT_FAULT (R324). -/
def Stack.checkTimetable (s : Stack) (m : Sparse Nat) : Stack × Bool :=
  match ttCheck s.build m s.fullScale s.hopRetired with
  | Option.none => (s, true)
  | some (c, hub, ht, router, slot) =>
    (((((s.put RING.TT_FAULT_SLOT slot).put RING.TT_FAULT_ROUTER router).put RING.TT_FAULT_HUB hub).put RING.TT_FAULT_HUBT (b2n ht)).put
      RING.TT_FAULT_CAUSE c, false)

/-- A variant over the base records (R337). -/
def withVariant (m : Sparse Nat) (v : Variant) : Sparse Nat := v.entries.foldl (fun m e => mapSet 0 m e.1 e.2) m

/-! ## The window (R323, R325) -/

/-- The table word at a window address (R323). -/
def Stack.ttWord (s : Stack) (m : Sparse Nat) (a : Nat) : Nat :=
  match a / 2 ^ 20 % 4 with
  | 0 =>
    let hub := bits a 17 3; let r := bits a 11 6; let w := bits a 0 11
    if s.build.stopExists hub (r % 32) then mapGet 0 m (stopKey hub r (2 * w)) + 65536 * mapGet 0 m (stopKey hub r (2 * w + 1)) else 0
  | 1 => if bits a 17 3 ≤ s.build.layers then mapGet 0 m (hubKey (bits a 17 3) (bits a 0 12)) else 0
  | 2 => if s.build.stopExists (bits a 17 3) (bits a 5 5) then mapGet 0 m (queueKey (bits a 17 3) (bits a 5 5) (bits a 0 5)) else 0
  | _ => 0

/-- Whether a window address names a table word that exists (R323). -/
def Build.ttExists (b : Build) (a : Nat) : Bool :=
  match a / 2 ^ 20 % 4 with
  | 0 => b.stopExists (bits a 17 3) (bits a 11 6 % 32)
  | 1 => decide (bits a 17 3 ≤ b.layers)
  | 2 => b.stopExists (bits a 17 3) (bits a 5 5)
  | _ => false

/-- A word of the live tables: while the boot timetable runs, whose slots R326 does not fix, a free value (log 58). -/
def Stack.ttLiveWord (s : Stack) (a : Nat) : Nat :=
  if !s.flag RING.TT_STATUS_BOOT then s.ttWord s.rings.live a
  else if s.build.ttExists a then (Config.bootWord (s.pooled : Bool) a).toNat
  else 0

/-- A table word written; reserved bits are dropped (R318, R319, R322, R323). -/
def ttWrite (b : Build) (m : Sparse Nat) (a v : Nat) : Sparse Nat :=
  match a / 2 ^ 20 % 4 with
  | 0 =>
    let hub := bits a 17 3; let r := bits a 11 6; let w := bits a 0 11
    if b.stopExists hub (r % 32) then mapSet 0 (mapSet 0 m (stopKey hub r (2 * w)) (bits v 0 13)) (stopKey hub r (2 * w + 1)) (bits v 16 13) else m
  | 1 => if bits a 17 3 ≤ b.layers then mapSet 0 m (hubKey (bits a 17 3) (bits a 0 12)) (bits v 0 18) else m
  | 2 => if b.stopExists (bits a 17 3) (bits a 5 5) then mapSet 0 m (queueKey (bits a 17 3) (bits a 5 5) (bits a 0 5)) (bits v 0 10) else m
  | _ => m

/-- ADDR advances with AUTOINC (R338). -/
def Stack.winAdvance (s : Stack) : Stack :=
  if s.flag RING.WIN_ADDR_AUTOINC then s.put RING.WIN_ADDR_ADDR (s.get RING.WIN_ADDR_ADDR + 1) else s

/-- An access to RING.WIN_DATA (R323, R325, R338). A write with LIVE 1 is ignored; while a firmware turn is armed it is ignored and
LOCKED_WRITE is set (R233); during the copy it waits. -/
def Stack.winData (write : Bool) (v : Nat) (s : Stack) : Stack :=
  let a := s.get RING.WIN_ADDR_ADDR
  let live := s.flag RING.WIN_ADDR_LIVE
  if write then
    let t :=
      if live then s
      else if s.firmwareArmed then s.raise TURN.STATUS_LOCKED_WRITE
      else if s.flag RING.TT_STATUS_COPY then { s with rings := { s.rings with waiting := s.rings.waiting ++ [(a, v)] } }
      else { s with rings := { s.rings with staged := ttWrite s.build s.rings.staged a v } }
    t.winAdvance
  else (s.answered 0 [if live then s.ttLiveWord a else s.ttWord s.rings.staged a]).winAdvance

/-- RING_WIN_DATA_ACCESS (R323): An access to RING.WIN_DATA reads or writes a timetable word and may advance ADDR; a write during a copy
waits. -/
def execRingWinDataAccess (k : Side) (write : Bool) (v : Nat) (s : State) : Host.Outcome State Fault Refusal :=
  nextStack s k (Stack.winData write v)

/-! ## Epochs (R317, R325, R327) -/

/-- Tokens that a regulator gains at an epoch boundary, in sixteenths: RATE, which the throttle factor of the base die lowers for the rekey
engine and the test controller (R327, R519). -/
def Stack.regulatorRate (s : Stack) (r : Nat) : Nat :=
  if r = 7 ∨ r = 8 then s.get (RING.REG_CFG_RATE r) * s.get (THERM.FACTOR_F 0) / 64 else s.get (RING.REG_CFG_RATE r)

/-- Every bucket gains RATE ÷ 16 tokens, up to BURST (R327). -/
def Stack.refill (s : Stack) : Stack :=
  (List.range 10).foldl (fun s r =>
    let v := Nat.min (mapGet 0 s.rings.tokens r + s.regulatorRate r) (16 * s.burst r)
    { s with rings := { s.rings with tokens := mapSet 0 s.rings.tokens r v } }) s

/-- The copy of the live bank ends, and the window writes that waited take effect (R325). -/
def Stack.copyDone (s : Stack) : Stack :=
  if s.flag RING.TT_STATUS_COPY then
    ({ s with rings := { s.rings with
        staged := s.rings.waiting.foldl (fun m w => ttWrite s.build m w.1 w.2) s.rings.staged
        waiting := [] } } : Stack).put RING.TT_STATUS_COPY 0
  else s

/-- The bank swap of a turn with a timetable item: the staged bank, or the variant of a degraded-timetable turn over the base,
becomes live in every router and is copied back (R325, R336). -/
def Stack.ttSwap (s : Stack) : Stack :=
  let vr := s.turn.ttVariant.bind fun n => s.rings.variants.find? fun v => v.num == n
  let bank := match vr with
    | some v => withVariant s.rings.live v
    | Option.none => s.rings.staged
  let s := { s with
    rings := { s.rings with live := bank, staged := bank }
    turn := { s.turn with ttPending := false, ttVariant := Option.none } }
  let s := match vr with
    | some v => s.put RING.TT_STATUS_VARIANT (v.num + 1)
    | Option.none => (s.put RING.TT_GEN_GEN (s.get RING.TT_GEN_GEN.staged)).put RING.TT_STATUS_VARIANT 0
  (s.put RING.TT_STATUS_BOOT 0).put RING.TT_STATUS_COPY 1

/-- The staged channel map of the Lacing stop becomes live (R245, R449). -/
def Stack.chmapSwap (s : Stack) : Stack :=
  (List.range 32).foldl (fun s c => [LANE.CHMAP_LINK c, LANE.CHMAP_QUEUE c, LANE.CHMAP_VALID c].foldl (fun s f => s.put f (s.get f.staged)) s)
    { s with turn := { s.turn with chmapPending := false } }

/-- Whether the ring clocks run: from Dawn step 2 on, but not in Siesta (R25, R317). -/
def Stack.ringsRun (s : Stack) : Bool :=
  !s.modeIn [.off, .vigil, .siesta] && !(s.mode == .dawn && decide (s.get SYS.DAWN_STEP < 2))

/-- An epoch ends (R317): the count advances, buckets fill, a copy ends, a pending timetable swaps, and the links' remaps and
retirements take place; none while the ring clocks stand. -/
def Stack.epochBoundary (s : Stack) : Stack :=
  if !s.ringsRun then s else
  let s := ((s.bumpWrap RING.EPOCH_COUNT).refill).copyDone
  let s := if s.turn.ttPending then s.ttSwap else s
  let s := if s.turn.chmapPending then s.chmapSwap else s
  s.linkEpoch

/-- EPOCH_BOUNDARY (R317): An epoch of 4,096 slots ends and the epoch count advances. -/
def execEpochBoundary (k : Side) (s : State) : Host.Outcome State Fault Refusal := nextFault s k Stack.epochBoundary

/-! ## Guaranteed flits (R321, R333, R335, R336) -/

/-- A flit is lost: counted in GQ_LOSS. -/
def Stack.gqLoss (s : Stack) (f : Field) : Stack := (s.bump f).raise RING.INT_GQ_LOSS

/-- A guaranteed flit of 64 bytes is ejected at a stop to a channel (R321). It comes from the head of queue `queue - 1`, or, with
`queue` 0, from a fabric or engine producer, whose writes are ignored before enable writes (R60, log 105). On its way it may have crossed hop `hop` of spine ring `ring` in slot `slot` (`ring` 4: none). -/
def Stack.guaranteedFlit (hub stop chan queue : Nat) (data : List Nat) (poison ring hop slot : Nat) (s : Stack) : Stack :=
  let q := mapGet [] s.rings.queues (queue - 1)
  if queue != 0 && q.isEmpty then s
  else
    let flit := if queue = 0 then data else (toBytes 64 (q.headD 0)).map BitVec.toNat
    let s := if queue = 0 then s else { s with rings := { s.rings with queues := mapSet [] s.rings.queues (queue - 1) (q.drop 1) } }
    if ring < 4 ∧ s.hopRetired ring hop ≠ 0 ∧ slot % 4 = 3 then s.gqLoss RING.GQ_LOSS_DEAD
    else if s.stopBypassed hub stop then (s.bump RING.DISCARD_BYPASS).raise RING.INT_DISCARD
    else if hub = 0 ∧ 2 ≤ stop ∧ stop ≤ 9 then
      let key := chanKey hub stop chan
      let c := mapGet {} s.rings.cursors key
      if c.left = 0 then s.gqLoss RING.GQ_LOSS_NO_CURSOR
      else
        let s := { s with rings := { s.rings with cursors := mapSet {} s.rings.cursors key ⟨c.addr + 64, c.left - 1⟩ } }
        if s.writesIgnored (if queue = 0 then 32 else (queue - 1) / 32) then s else
        let loc := c.addr % 2 ^ 44
        let w := flit.map fun b => (b, true)
        if targetOf loc = .store then ((s.writeStore (c.addr / 2 ^ 44) loc w poison true).1).countFlits true loc 1
        else if targetOf loc = .commons then (s.writePlain loc w poison).countFlits true loc 1
        else s
    else if hub = 0 ∧ stop = 13 then s.laceEject chan (ofBytes (flit.map (BitVec.ofNat 8)))
    else s.answered 0 (chan :: poison :: flit)

/-- GUARANTEED_FLIT (R321): A guaranteed flit is ejected to a receive channel and passed to its consumer, or discarded. -/
def execGuaranteedFlit (k : Side) (hub stop chan queue : Nat) (data : List Nat) (poison ring hop slot : Nat) (s : State) :
    Host.Outcome State Fault Refusal := nextStack s k (Stack.guaranteedFlit hub stop chan queue data poison ring hop slot)

end Sys2Proof.Machine
end

