-- ==== Sys2Proof/Machine/Image.lean ====
section
/-! DEFINITION. Binding images: the timetable chunk, and a tile's vector against its summary (R205, R209, R221, R337). -/

namespace Sys2Proof.Machine

/-! ## The TIMETABLE chunk (R337) -/

/-- Key and width of the entry at an index of a record's table (R323, R337). -/
def ttEntry (kind hub unit i : Nat) : Nat × Nat :=
  match kind with
  | 0 => (stopKey hub unit i, 13)
  | 1 => (hubKey hub i, 18)
  | _ => (queueKey hub (unit % 32) i, 10)

/-- The entries of a list of records, given as words: (key, value). The first number bounds the records. -/
def ttRecords : Nat → List Nat → List (Nat × Nat)
  | f + 1, w0 :: w1 :: t =>
    let kind := bits w0 0 2; let hub := bits w0 2 3; let unit := bits w0 5 6; let n := bits w0 16 16; let first := bits w1 0 12
    let len := if kind = 0 then (n + 1) / 2 else n
    let vals := if kind = 0 then (t.take len).flatMap fun v => [bits v 0 16, bits v 16 16] else t.take len
    (((vals.take n).zipIdx 0).map fun p => let e := ttEntry kind hub unit (first + p.2); (e.1, bits p.1 0 e.2)) ++
      ttRecords f (t.drop len)
  | _, _ => []

/-- The words of a byte list. -/
def wordsOf (l : List Nat) : List Nat := (List.range (l.length / 4)).map (wordAt l)

/-- The variants that follow the base records, given as words (R337). -/
def ttVariants : Nat → List Nat → List Variant
  | f + 1, w0 :: w1 :: t =>
    let d := bits w0 16 16; let n := w1 / 4
    ⟨bits w0 0 8, bits w0 8 2, bits w0 10 3,
      (t.take d).map (fun v => (bits v 0 3 * 32 + bits v 3 5) * 32 + bits v 8 5), ttRecords n ((t.drop d).take n)⟩ ::
      ttVariants f (t.drop (d + n))
  | _, _ => []

/-- The base entries of a TIMETABLE payload. -/
def ttBase (l : List Nat) : List (Nat × Nat) := let n := wordAt l 2 / 4; ttRecords n (((wordsOf l).drop 3).take n)

/-- The variants of a TIMETABLE payload. -/
def ttVars (l : List Nat) : List Variant := ttVariants (bits (wordAt l 1) 16 6) ((wordsOf l).drop (3 + wordAt l 2 / 4))

/-- Whether a list of words is a list of whole records of the kinds that R337 gives, each inside its table (R323, R337). The first number bounds
the records. -/
def ttRecordsOk : Nat → List Nat → Bool
  | _, [] => true
  | f + 1, w0 :: w1 :: t =>
    let kind := bits w0 0 2; let n := bits w0 16 16
    let len := if kind = 0 then (n + 1) / 2 else n
    decide (kind < 3) && bits w0 11 5 == 0 && decide (w1 < 2 ^ 12) && decide (len ≤ t.length) &&
      decide (w1 + n ≤ (if kind = 2 then 32 else 4096)) && ttRecordsOk f (t.drop len)
  | _, _ => false

/-- Whether the variants that follow the base records are whole, and nothing follows them (R337). -/
def ttVariantsOk : Nat → List Nat → Bool
  | 0, l => l.isEmpty
  | f + 1, w0 :: w1 :: t =>
    let d := bits w0 16 16; let n := w1 / 4
    w1 % 4 == 0 && bits w0 13 3 == 0 && decide (d + n ≤ t.length) && (t.take d).all (fun v => decide (v < 2 ^ 13)) &&
      ttRecordsOk n ((t.drop d).take n) && ttVariantsOk f (t.drop (d + n))
  | _, _ => false

/-- Whether a TIMETABLE payload is as R337 says, for a binding set. -/
def ttHeadOk (l : List Nat) (set : Nat) : Bool :=
  let w := wordsOf l; let n := wordAt l 2 / 4
  wordAt l 0 == 0x7AB1 + 0x10000 && bits (wordAt l 1) 0 16 == set && decide (wordAt l 1 < 2 ^ 22) && wordAt l 2 % 4 == 0 && l.length % 4 == 0 &&
  decide (12 + wordAt l 2 ≤ l.length) && ttRecordsOk n ((w.drop 3).take n) && ttVariantsOk (bits (wordAt l 1) 16 6) (w.drop (3 + n))

/-- Byte j of the tile vector that decoded folios give a tile in a page (R205). -/
def vectorByte (fs : List Folio) (page : Nat) (t : Tile) (j : Nat) : Nat :=
  match fs.find? fun f => f.page == page && f.addr == folioAddr t (j / 128) 0 with
  | some f => f.bytes.getD (32 * (j % 128) + 31) 0
  | Option.none => 0

/-- The long lines that the routing bits of a tile's folios in a page drive or read, as a summary has them: 16 bytes for the gathering rows,
and the word of the tile column (R104, R209). -/
def tileLines (fs : List Folio) (page : Nat) (t : Tile) : BitVec 160 :=
  (List.range 16).foldl (fun acc g =>
    match fs.find? fun f => f.page == page && f.addr == folioAddr t g 0 with
    | some f => acc ||| Config.longLines t.layer t.tile g (f.bytes.map (BitVec.ofNat 8))
    | Option.none => acc) 0

/-- The cause that a decoded folio of a tile gives against the tile's summary entry: SUMMARY where the part of the tile vector that gathering
0 holds differs or, once the tile's last folio is there, the long-line selections do; FORMAT when a reserved bit of the vector is set (R198,
R205, R209, R221). Which routing bits select a long line is fixed by the fabric database (R204, log 20). -/
def summaryCause (fs : List Folio) (e : SummaryEntry) (g : Nat) : Nat :=
  let v := leNat ((List.range 38).map (vectorByte fs e.page e.tile))
  let reserved := if g = 0 then 38 else 0
  if g = 0 ∧ (bits v 0 96 ≠ e.lower ∨ bits v 96 96 ≠ e.upper ∨ bits v 192 108 ≠ e.groups) then 0x12
  else if (g = 0 ∧ bits v 300 4 ≠ 0) ∨ (List.range (128 - reserved)).any (fun j => vectorByte fs e.page e.tile (128 * g + reserved + j) != 0) = true then 1
  else if g = 15 ∧ tileLines fs e.page e.tile ≠ BitVec.ofNat 160 (leNat e.ew + e.ns * 2 ^ 128) then 0x12
  else 0

end Sys2Proof.Machine
end

