-- ==== Sys2Proof/Machine/ImageCheck.lean ====
section
/-! DEFINITION. The Check phase of the loader: every cause of R221 marked "Check" (R164 to R168, R199 to R221). The causes are
looked for in the order MODE, NO_IMAGE, DIGEST, FORMAT of header and directory, KEY, AUTH, and then by code (log 26). -/

namespace Sys2Proof.Machine

/-- What a check finds: the cause, the section concerned, and the folio address or chunk index behind it (R221, R231). -/
abbrev Verdict := Option (Nat × Nat × Nat)

/-- A cause when a condition holds. -/
def causeIf (b : Bool) (cause sect addr : Nat) : Verdict := if b then some (cause, sect, addr) else Option.none

/-- The first verdict of a list that names a cause. -/
def firstCause (l : List Verdict) : Verdict := l.findSome? id

/-! ## Format (R198 to R201) -/

/-- Whether the header is as R199 says. -/
def headerOk (l : List Nat) : Bool :=
  let w1 := wordAt l 1; let n := imgCount l
  decide (64 ≤ l.length) && wordAt l 0 == 0xB1D0 + 0x10000 && decide (bits w1 0 2 < 2) && decide (bits w1 2 2 < 3) && bits w1 6 10 == 0 &&
  wordAt l 2 == l.length && decide (1 ≤ n) && decide (n ≤ 40) && bits (wordAt l 3) 6 10 == 0 && leAt l 0x1C 0x20 == 0 &&
  crc32c (l.take 0x3C) == wordAt l 15

/-- Whether the chunks appear as R201 says: control chunks, each at most once and the required ones once, then FOLIOS, then at most 32
DETOUR chunks. -/
def arrangementOk (types : List Nat) : Bool :=
  let control := types.takeWhile fun t => decide (1 ≤ t) && decide (t ≤ 7)
  let rest := types.drop control.length
  decide control.Nodup && [1, 2, 3].all control.contains && rest.head? == some 9 && (rest.drop 1).all (· == 8) && decide (rest.length ≤ 33)

/-- Whether the chunk directory is as R198 and R200 say. -/
def directoryOk (l : List Nat) : Bool :=
  let cs := imgChunks l
  decide (0x40 + 32 * cs.length ≤ l.length) && arrangementOk (cs.map (·.type)) &&
  cs.all (fun c => c.reserved == 0 && c.off % 4 == 0 && decide (c.off + c.len ≤ l.length) && (imgEncrypted l || c.tag == 0)) &&
  (List.range cs.length).all fun i =>
    let prev := match i with
      | 0 => 0x40 + 32 * cs.length
      | j + 1 => ((cs[j]?).map fun c => c.off + c.len).getD 0
    decide (prev ≤ ((cs[i]?).map (·.off)).getD 0)

/-- The first chunk whose stored payload fails its CRC. -/
def badCrc (l : List Nat) : Option Nat := ((imgChunks l).find? fun c => crc32c (c.stored l) != c.crc).map (·.idx)

/-- Whether the THERMAL payload is as R213 says. -/
def thermalOk (b : Build) (p : List Nat) : Bool :=
  let n := leAt p 0 2; let base := 2 + 2 * n * n
  n == b.top + 1 && decide (base ≤ p.length) && (p.length - base) % 8 == 0 &&
  (List.range ((p.length - base) / 8)).all fun i => bits (leAt p (base + 8 * i) 4) 10 6 == 0

/-- Whether a list of keys strictly rises. -/
def rising : List Nat → Bool
  | a :: b :: t => decide (a < b) && rising (b :: t)
  | _ => true

/-- The order of a folio table: page, then folio address (R206). -/
def FolioEntry.order (e : FolioEntry) : Nat := e.page * 2 ^ 32 + e.addr

/-- The order of a summary: page, then layer, then tile index (R209). -/
def SummaryEntry.order (e : SummaryEntry) : Nat := (e.page * 16 + e.tile.layer) * 2048 + e.tile.tile

/-- The entries whose pages the image supplies: the roots of a loading image, the rebound section of a rebinding one (R203, R219). -/
def pagedEntries (es : List SectEntry) (rebind : Bool) : List SectEntry :=
  if rebind then
    (es.filter fun e => e.sect.root || !(es.any fun p => p.number == e.sect.parent)).take 1
  else es.filter (·.sect.root)

/-- The paged entry whose extent holds a tile. -/
def pagedAt (ps : List SectEntry) (t : Tile) : Option SectEntry := ps.find? fun e => e.sect.holds t

/-- The number of folios that the image must hold. -/
def foliosWanted (ps : List SectEntry) : Nat :=
  ps.foldl (fun n e => n + ((List.range 16).filter (bit e.pages)).length * e.sect.tiles.length * 16) 0

/-- Whether a page is supplied for a tile. -/
def supplied (ps : List SectEntry) (t : Tile) (page : Nat) : Bool := (pagedAt ps t).any fun e => bit e.pages page

/-- Whether a section lies inside the build (R10, R163). -/
def Section.inBuild (x : Section) (b : Build) : Bool :=
  x.layers.all (fun k => (b.logicIndex k).isSome) && decide (x.col0 + x.cols ≤ 40) && decide (x.row0 + x.rows ≤ 30)

/-- Whether the control chunks are in the formats of R203 to R214. -/
def contentsOk (b : Build) (l : List Nat) (key : Nat) : Bool :=
  let es := imgSections l key; let ts := imgTable l key; let sm := imgSummary l key
  let ps := pagedEntries es (imgRebind l)
  let len := fun t => (chunkOf l key t).length
  len 1 % 32 == 0 && len 2 % 16 == 0 && len 3 % 64 == 0 && len 4 % 8 == 0 && len 5 % 8 == 0 &&
  ((imgChunks l).all fun c => c.type != 7 || thermalOk b (c.payload key l)) &&
  es.all (·.ok) && (imgRebind l || es.all fun e => e.sect.root || e.pages == 0) &&
  ts.all (·.ok) && rising (ts.map (·.order)) && sm.all (·.ok) && rising (sm.map (·.order)) &&
  (imgHinges l key).all (·.ok) && (imgDetours l key).all (fun d => d.ok && d.table.all (·.ok) && d.summary.all (·.ok) &&
    rising (d.table.map (·.order)) && rising (d.summary.map (·.order))) &&
  ((es.any fun e => !e.sect.inBuild b) ||
    (ts.filter fun e => (pagedAt ps e.tile).isSome).all (fun e => supplied ps e.tile e.page) &&
    (ts.filter fun e => (pagedAt ps e.tile).isSome).length == foliosWanted ps &&
    (sm.filter fun e => (pagedAt ps e.tile).isSome).all (fun e => supplied ps e.tile e.page) &&
    (sm.filter fun e => (pagedAt ps e.tile).isSome).length * 16 == foliosWanted ps)

/-! ## Sections (R164, R165, R219) -/

/-- Whether a rectangle and a layer range lie inside another's. -/
def Section.within (c p : Section) : Bool :=
  decide (p.col0 ≤ c.col0) && decide (c.col0 + c.cols ≤ p.col0 + p.cols) && decide (p.row0 ≤ c.row0) &&
  decide (c.row0 + c.rows ≤ p.row0 + p.rows) && c.layers.all p.layers.contains

/-- Whether two sections share a tile. -/
def Section.overlaps (a b : Section) : Bool :=
  decide (a.col0 < b.col0 + b.cols) && decide (b.col0 < a.col0 + a.cols) && decide (a.row0 < b.row0 + b.rows) &&
  decide (b.row0 < a.row0 + a.rows) && a.layers.any b.layers.contains

/-- The depth of an entry: 0 for a root, its parent's plus 1 otherwise; none when its parents do not lead to a root of the list. -/
def depthIn (es : List SectEntry) : Nat → SectEntry → Option Nat
  | 0, _ => Option.none
  | f + 1, e =>
    if e.sect.root then some 0
    else match es.find? (·.number == e.sect.parent) with
      | some p => (depthIn es f p).map (· + 1)
      | Option.none => Option.none

/-- Whether a section counts as the image's own in a restart: Torn, and of this image (R222). -/
def Stack.ownTorn (s : Stack) (op img n : Nat) : Bool := op == 3 && s.stateIn n [.torn] && (s.sect n).image == img

/-- The SECTION cause of a loading image (R164, R165, R219). -/
def Stack.loadSections (s : Stack) (op img : Nat) (es : List SectEntry) : Verdict :=
  firstCause (es.map fun e =>
    let parent := es.find? (·.number == e.sect.parent)
    causeIf
      (decide (1 < (es.filter fun f => f.number == e.number).length) || (!s.stateIn e.number [.none] && !s.ownTorn op img e.number) ||
        (depthIn es (es.length + 1) e).isNone ||
        (!e.sect.root && parent.all fun p => !e.sect.within p.sect) ||
        (!e.sect.root && es.any fun f => f.number != e.number && !f.sect.root && f.sect.parent == e.sect.parent && f.sect.overlaps e.sect))
      7 e.number 0)

/-- The SECTION cause of a rebinding image: its list must be a section and its descendants, with their numbers, parents and extents
(R187, R219). -/
def Stack.rebindSections (s : Stack) (es : List SectEntry) : Verdict :=
  let top := (pagedEntries es true).head?
  let fam := match top with
    | some e => s.family e.number
    | Option.none => []
  firstCause ((es.map fun e =>
      let x := s.sect e.number
      causeIf
        (decide (1 < (es.filter fun f => f.number == e.number).length) || !fam.contains e.number || x.root != e.sect.root ||
          (!x.root && x.parent != e.sect.parent) || x.col0 != e.sect.col0 || x.cols != e.sect.cols || x.row0 != e.sect.row0 ||
          x.rows != e.sect.rows || x.layerLo != e.sect.layerLo || x.layerCnt != e.sect.layerCnt)
        7 e.number 0) ++
    fam.map fun n => causeIf (!(es.any fun e => e.number == n)) 7 n 0)

/-- The innermost listed section that holds a tile. -/
def innerEntry (es : List SectEntry) (t : Tile) : Option Nat :=
  (es.foldl (fun (acc : Option SectEntry) e =>
    if e.sect.holds t then
      match acc with
      | some m => if e.sect.within m.sect then some e else acc
      | Option.none => some e
    else acc) Option.none).map (·.number)

/-- The number of the section concerned for a tile; 0 when no listed section holds it. -/
def sectOf (es : List SectEntry) (t : Tile) : Nat := (innerEntry es t).getD 0

/-- The EXTENT cause (R210, R219, R221, R616). -/
def Stack.extentCause (s : Stack) (op img : Nat) (l : List Nat) (key : Nat) (es : List SectEntry) : Verdict :=
  let ps := pagedEntries es (imgRebind l)
  let others := s.sectionNumbers.filter fun n => (s.sect n).root && !s.ownTorn op img n && !(es.any fun e => e.number == n)
  let outside := fun t => (pagedAt ps t).isNone
  firstCause ((es.map fun e => causeIf (!e.sect.inBuild s.build) 8 e.number 0) ++
    ((if imgRebind l then [] else es.filter (·.sect.root)).map fun e =>
      causeIf (others.any (fun n => (s.sect n).overlaps e.sect) ||
        es.any (fun f => f.sect.root && f.number != e.number && f.sect.overlaps e.sect)) 8 e.number 0) ++
    ((imgTable l key ++ (imgDetours l key).flatMap (·.table)).map fun e => causeIf (outside e.tile) 8 0 e.addr) ++
    ((imgSummary l key ++ (imgDetours l key).flatMap (·.summary)).map fun e => causeIf (outside e.tile) 8 0 (folioAddr e.tile 0 0)) ++
    (imgHinges l key).map fun h =>
      causeIf ((List.range (if h.word % 33 = 32 then 12 else 16)).any fun j =>
        bits h.value (2 * j) 2 != 0 && ((s.build.logicIndex h.layer).isNone || (hingeDriver h.layer h.word j).all outside)) 8 0
        (folioAddr ⟨h.layer, h.word / 33⟩ 0 0))

/-! ## Pages and slots (R219) -/

/-- The pages for which a nest holds VALID slots; in pooled use, which has no slots, the pages its planes hold (log 27). -/
def Stack.nestPages (s : Stack) (r : Nat) : List Nat :=
  if s.pooled then (List.range 16).filter fun q => [0, 1, 2, 3].any fun p => (s.plane r p).src == q
  else (List.range 16).filter fun q => (s.sect r).tiles.any fun t => s.fabric.slotHas t q r

/-- The PAGE_SET cause (R219, R221). -/
def Stack.pageSetCause (s : Stack) (op img : Nat) (es : List SectEntry) (rebind : Bool) : Verdict :=
  if rebind then
    firstCause ((pagedEntries es true).map fun e =>
      causeIf (!(e.sect.root && s.ownTorn op img e.number) &&
        (if s.pooled then (s.nestPages (s.rootOf e.number)).any fun q => !bit e.pages q
         else (List.range 16).any fun q => bit e.pages q != (s.nestPages (s.rootOf e.number)).contains q)) 0xA e.number 0)
  else
    firstCause ((pagedEntries es false).map fun e =>
      causeIf (e.planePage.any (fun v => v != 0x1F && (decide (16 ≤ v) || !bit e.pages v)) ||
        e.planePage.getD e.livePlane 0x1F == 0x1F) 0xA e.number 0)

/-- The SLOT cause: a slot tile of a root holds a page already (R219). -/
def Stack.slotCause (s : Stack) (es : List SectEntry) : Verdict :=
  firstCause ((pagedEntries es false).map fun e =>
    causeIf (!s.pooled && e.sect.tiles.any fun t => ((List.range 16).filter (bit e.pages)).any fun q =>
      bit (s.fabric.pageNat (slotEntry t q) 2) 15) 0xB e.number 0)

/-! ## Tracks, long lines and clocks -/

/-- The VTRACK_DIR cause: an enable of a logical track that enters the layer (R123). -/
def vtrackCause (es : List SectEntry) (sm : List SummaryEntry) : Verdict :=
  firstCause (sm.map fun e => causeIf (bits e.lower 0 48 != 0 || bits e.upper 48 48 != 0) 0xC (sectOf es e.tile) (folioAddr e.tile 0 0))

/-- The long lines that a summary entry uses: kind, layer, row or column, and line as one number (R168, R209). -/
def SummaryEntry.lines (e : SummaryEntry) : List Nat :=
  ((List.range 16).flatMap fun r => ((List.range 8).filter (bit (e.ew.getD r 0))).map fun b =>
    (e.tile.layer * 512 + (e.tile.tile / 40 * 16 + r)) * 64 + b) ++
  ((List.range 32).filter (bit e.ns)).map fun b => 2 ^ 24 + (e.tile.layer * 512 + e.tile.tile % 40) * 64 + b

/-- The long lines of resident sections outside the image's extent, with their owners, from the images that bound them (R168,
R221). -/
def Stack.residentLines (s : Stack) (es : List SectEntry) : List (Nat × Nat) :=
  let imgs := ((s.sectionNumbers.filter fun n => !(es.any fun e => e.number == n)).map fun n => (s.sect n).image).eraseDups
  imgs.flatMap fun img =>
    (imgSummary (s.imageBytes img) ((s.zoneKey 0).getD 0)).flatMap fun e =>
      match s.ownerOf e.tile with
      | some m => if (s.sect m).image = img ∧ (innerEntry es e.tile).isNone then e.lines.map fun n => (n, m) else []
      | Option.none => []

/-- The LONG_LINE cause (R168). -/
def Stack.longLineCause (s : Stack) (es : List SectEntry) (sm : List SummaryEntry) : Verdict :=
  let mine := sm.flatMap fun e => e.lines.map fun n => (n, sectOf es e.tile)
  let all := mine ++ s.residentLines es
  firstCause (mine.map fun u => causeIf (all.any fun v => v.1 == u.1 && v.2 != u.2) 0xD u.2 0)

/-- A view of the registers with the image's REGISTERS chunk over it (R110, R211). -/
def viewWith (regs : List (Nat × Nat × Nat)) (base : Field → Nat) (f : Field) : Nat :=
  match regs.reverse.find? fun r => wordKey r.1 r.2.1 == f.key / 32 * 32 with
  | some r => bits r.2.2 (f.key % 32) f.width
  | Option.none => base f

/-- The mesochronous bridge groups of a summary entry that fail the test of R110; SCLK names the source domain (log 28). -/
def Stack.clockBad (s : Stack) (view : Field → Nat) (e : SummaryEntry) : Bool :=
  (List.range 12).any fun j =>
    let g := e.group j
    let src := if j < 6 then e.tile.layer - 2 else e.tile.layer + 2
    bits g 0 2 == 1 && (s.build.logicIndex src).isSome &&
      !s.mesochronous view (16 + 8 * (e.tile.layer / 2 - 1) + bits g 2 3) (16 + 8 * (src / 2 - 1) + bits g 5 3)

/-- The CLOCK cause (R110, R221): judged on the live copies at Dawn and the staged copies otherwise, with the image's own values. -/
def Stack.clockCause (s : Stack) (dawn : Bool) (es : List SectEntry) (sm : List SummaryEntry) (regs : List (Nat × Nat × Nat)) : Verdict :=
  let view := viewWith regs fun f => s.get (if dawn then f else f.staged)
  firstCause (sm.map fun e => causeIf (s.clockBad view e) 0xE (sectOf es e.tile) (folioAddr e.tile 0 0))

/-- Whether a register may be named in a REGISTERS chunk: a staged register that the build has, of one of the five blocks (R4, R211). -/
def regNamed (b : Build) (r : Nat × Nat × Nat) : Bool :=
  decide (r.2.1 < 0x8000) && ((b.regRow r.1 r.2.1).any fun row => row.fields.any (·.ty == .st)) &&
    (r.1 == 0xD || r.1 == 3 || (0x20 ≤ r.1 && r.1 < 0x28) || r.1 == 0xA || r.1 == 8)

/-- The REG cause (R211, R212). -/
def Stack.regCause (s : Stack) (es : List SectEntry) (l : List Nat) (key : Nat) : Verdict :=
  let regs := imgRegs l key
  let others := s.sectionNumbers.filter fun n => !(es.any fun e => e.number == n)
  let tt := (imgChunks l).find? (·.type == 6)
  firstCause ((regs.map fun r => causeIf (!regNamed s.build r) 0xF 0 0) ++
    [match tt with
     | some c => causeIf (!ttHeadOk (c.payload key l) (imgSet l) ||
         others.any fun n => imgSet (s.imageBytes (s.sect n).image) != imgSet l) 0xF 0 c.idx
     | Option.none => Option.none])

/-! ## The whole check -/

/-- The STATE cause: a rebound section that is neither Asleep nor Held (R187, R221). -/
def Stack.stateCause (s : Stack) (op img : Nat) (es : List SectEntry) : Verdict :=
  firstCause (es.map fun e => causeIf (!s.stateIn e.number [.asleep, .held] && !s.ownTorn op img e.number) 9 e.number 0)

/-- The causes that lie in the contents of an image (R221). -/
def Stack.checkContents (s : Stack) (op img : Nat) (l : List Nat) (key : Nat) : Verdict :=
  let es := imgSections l key
  let sm := imgSummary l key
  let det := (imgDetours l key).flatMap (·.summary)
  let rebind := imgRebind l
  firstCause
    [causeIf (!contentsOk s.build l key) 1 0 0,
     causeIf (bits (wordAt l 1) 0 2 != (if s.build = .octavo then 0 else 1) ||
       (bits (wordAt l 1) 2 2 == 0 && s.pooled) || (bits (wordAt l 1) 2 2 == 1 && !s.pooled)) 6 0 0,
     causeIf ((op == 1 && rebind) || (op == 2 && !rebind) || (op == 6 && rebind)) 7 0 0,
     if rebind then s.rebindSections es else s.loadSections op img es,
     s.extentCause op img l key es,
     if rebind then s.stateCause op img es else Option.none,
     s.pageSetCause op img es rebind,
     if rebind then Option.none else s.slotCause es,
     vtrackCause es (sm ++ det),
     s.longLineCause es sm,
     s.clockCause (s.mode == .dawn) es (sm ++ det) (imgRegs l key),
     s.regCause es l key]

/-- The Check phase of an image: none when every check passes (R217, R221). The mode permits a load in Dawn step 9, Day and
Workshop (R220). -/
def Stack.checkImage (s : Stack) (op img digest : Nat) : Verdict :=
  let e := s.dirEntry img
  let l := s.imageBytes img
  let key := (s.zoneKey 0).getD 0
  if op != 6 && !(s.modeIn [.day, .workshop] || (s.mode == .dawn && s.get SYS.DAWN_STEP == 9)) then some (0x17, 0, 0)
  else if 1023 < img ∨ e.state ≠ 2 then some (3, 0, 0)
  else if digest != e.crc then some (2, 0, 0)
  else if !headerOk l || !directoryOk l then some (1, 0, 0)
  else if (badCrc l).isSome then some (1, 0, (badCrc l).getD 0)
  else if imgEncrypted l && (s.zoneKey 0).isNone then some (4, 0, 0)
  else
    match (imgChunks l).find? fun c => c.type != 9 && !c.authentic key l with
    | some c => some (5, 0, c.idx)
    | Option.none => s.checkContents op img l key

end Sys2Proof.Machine
end

