-- ==== Sys2Proof/Machine/Pages.lean ====
section
/-! DEFINITION. Page commands and capture (R136 to R162, R225's plane rules). -/

namespace Sys2Proof.Machine

/-- The code of a plane status (R131). -/
def PlaneStatus.code : PlaneStatus → Nat
  | .free => 0 | .staging => 1 | .staged => 2 | .live => 3 | .blocked => 4 | .evicting => 5 | .captured => 6

/-- The status of a plane as reported: the plane that PAGE_SEL names is Live once the nest has a live plane (R130, R131). -/
def Stack.planeStatus (s : Stack) (r p : Nat) : PlaneStatus := (s.plane r p).status

/-- The tiles that the nest's pages cover: those of its root, without those of an Empty child (R141, R170). -/
def Stack.pagedTiles (s : Stack) (r : Nat) : List Tile :=
  (s.sect r).tiles.filter fun t => (s.sect r).state == .empty || s.tileState t != .empty

/-- The folios that a command on a nest's page moves in the layer part where they are most: 16 for each tile that the pages cover (R137, R141,
R156). -/
def Stack.folioCount (s : Stack) (r : Nat) : Nat :=
  let ts := s.pagedTiles r
  (s.sect r).layers.foldl (fun m k => Nat.max m (16 * (ts.filter fun t => t.layer == k).length)) 0

/-- The refusal of a page command on a plane of a nest, lowest code first, 0 for none (R141). `op`: 0 stage, 1 evict, 2 free,
4 colophon fetch (R225; `supplied` says that the section's image supplies the page). -/
def Stack.pageRefusal (s : Stack) (n page p op : Nat) (supplied : Bool) : Nat :=
  let r := s.rootOf n
  let x := s.sect r
  let pl := s.plane r p
  let holds := fun slot => (s.pagedTiles r).all fun t => s.fabric.slotHas t slot r
  if pl.status = .live then 1
  else if s.turnArmed && s.get (SECT.PAGE_SEL_PLANE x.home r).staged == p then 2
  else if pl.status = .staging ∨ pl.status = .evicting ∨ pl.status = .captured then 3
  else if (s.nest r).any fun m => !(s.stateIn m [.empty, .live, .asleep, .held]) then 4
  else if (op = 0 ∧ !s.pooled ∧ !holds page) ∨ (op = 1 ∧ pl.src < 16 ∧ !s.pooled ∧ !holds pl.src) ∨ (op = 4 ∧ !supplied) then 5
  else if (op = 0 ∨ op = 1) ∧ s.pooled then 6
  else if op = 1 ∧ (pl.status = .blocked ∨ pl.status = .free) then 7
  else 0

/-- Whether two nests have tiles in one layer, and so share its page links (R136). -/
def Stack.sharesLayer (s : Stack) (a b : Nat) : Bool := (s.sect a).layers.any fun k => (s.sect b).layers.contains k

/-- Whether the page links of any layer of a nest serve a page command (R136). -/
def Stack.commandOnLinks (s : Stack) (r : Nat) : Bool := s.pages.jobs.any fun e => e.2.phase == 2 && s.sharesLayer e.2.root r

/-- Whether phase 4 of a load stages over the page links of any layer of a nest, in interleaved use (R136, R217). -/
def Stack.loadOnLinks (s : Stack) (r : Nat) : Bool :=
  !s.pooled && s.loader.job != 0 && s.get LOAD.STATUS_PHASE == 4 &&
    s.sectionNumbers.any fun n => [SectState.loading, .rebinding].contains (s.sect n).state && (s.sect n).image == s.loader.jobImage && s.sharesLayer n r

/-- Whether the page links of any layer of a nest serve another stage or eviction (R136). -/
def Stack.linksBusy (s : Stack) (r : Nat) : Bool := s.commandOnLinks r || s.loadOnLinks r

/-- Whether a command of a nest waits behind another: the links are busy, or a command written before it waits for one of them (R137). -/
def Stack.waitsBehind (s : Stack) (r order : Nat) : Bool :=
  s.linksBusy r || s.pages.jobs.any fun e => e.2.phase == 1 && decide (e.2.order < order) && s.sharesLayer e.2.root r

/-- The page command of an instance. -/
def Stack.job (s : Stack) (i : Nat) : PgJob := mapGet {} s.pages.jobs i

/-- The page command of an instance replaced. -/
def Stack.setJob (s : Stack) (i : Nat) (j : PgJob) : Stack := { s with pages := { s.pages with jobs := mapSet {} s.pages.jobs i j } }

/-- Step 1 of a stage or eviction: the plane's status is Staging or Evicting (R137, R138). -/
def Stack.pageStep1 (s : Stack) (i : Nat) (j : PgJob) : Stack :=
  let pl := s.plane j.root j.plane
  (s.setJob i { j with phase := 2 }).setPlane j.root j.plane
    (if j.op = 0 then { status := .staging, src := j.page, bad := false } else { pl with status := .evicting })

/-- A page command ends at an instance: BUSY cleared, RESULT written, PG_DONE set (R137, R615). -/
def Stack.pageEnd (s : Stack) (i result : Nat) : Stack :=
  (((s.setJob i {}).put (SECT.PG_STATUS_BUSY i) 0).put (SECT.PG_STATUS_RESULT i) result).raise (SECT.INT_PG_DONE i)

/-- The fields of PG_CMD written (R155). -/
def Stack.pgFields (s : Stack) (i n page p op : Nat) : Stack :=
  (((s.put (SECT.PG_CMD_SECTION i) n).put (SECT.PG_CMD_PAGE i) page).put (SECT.PG_CMD_PLANE i) p).put (SECT.PG_CMD_OP i) op

/-- A page command refused: RESULT says why, and the last command has moved no folio (R141, R156). -/
def Stack.pageRefuse (s : Stack) (i c : Nat) : Stack := (s.put (SECT.PG_STATUS_RESULT i) c).put (SECT.PG_STATUS_DONE i) 0

/-- Whether a section number names a section whose pages instance i serves (R141, R153). -/
def Stack.pageSection (s : Stack) (i n : Nat) : Bool := s.homed i (s.rootOf n) && (s.sect n).state != .none

/-- A stage or eviction written with GO: refused, waiting for the page links, or at step 1 (R137, R141). -/
def Stack.pageCommand (i n page p op : Nat) (s : Stack) : Stack :=
  if s.flag (SECT.PG_STATUS_BUSY i) then s.raise (SECT.PG_STATUS_OVERRUN i)
  else
    let t := s.pgFields i n page p op
    let r := s.rootOf n
    if !s.pageSection i n then t.pageRefuse i 9
    else
      let c := s.pageRefusal n page p op false
      if c != 0 then t.pageRefuse i c
      else
        let j : PgJob := { phase := 1, op := op, sect := n, root := r, page := if op = 1 then (s.plane r p).src else page, plane := p,
                           order := s.pages.order }
        let t := ((t.put (SECT.PG_STATUS_BUSY i) 1).put (SECT.PG_STATUS_RESULT i) 0).put (SECT.PG_STATUS_DONE i) 0
        let t := { t with pages := { t.pages with order := t.pages.order + 1 } }
        if s.waitsBehind r s.pages.order then t.setJob i j else t.pageStep1 i j

/-- A free: the plane is discarded and Free, in 0.2 µs (R139). -/
def Stack.pageFree (i n page p : Nat) (s : Stack) : Stack :=
  if s.flag (SECT.PG_STATUS_BUSY i) then s.raise (SECT.PG_STATUS_OVERRUN i)
  else
    let t := s.pgFields i n page p 2
    let r := s.rootOf n
    if !s.pageSection i n then t.pageRefuse i 9
    else
      let c := s.pageRefusal n page p 2 false
      if c != 0 then t.pageRefuse i c else ((t.setPlane r p {}).put (SECT.PG_STATUS_DONE i) 0).pageEnd i 0

/-- OP 0b11 acts as no operation: its fields are held (R155). -/
def Stack.pageNop (i n page p : Nat) (s : Stack) : Stack :=
  if s.flag (SECT.PG_STATUS_BUSY i) then s.raise (SECT.PG_STATUS_OVERRUN i) else s.pgFields i n page p 3

/-- The waiting command that was written first among those that wait no longer (R137). -/
def Stack.nextWaiting (s : Stack) : Option (Nat × PgJob) :=
  (s.pages.jobs.filter fun e => e.2.phase == 1 && !s.waitsBehind e.2.root e.2.order).foldl
    (fun acc e => match acc with
      | Option.none => some e
      | some b => if e.2.order < b.2.order then some e else some b) Option.none

/-- The page links become free: the first waiting command is rechecked and begins step 1, or is refused then (R137, R141). -/
def Stack.pageLinksFree (s : Stack) : Stack :=
  match s.nextWaiting with
  | Option.none => s
  | some (i, j) =>
    if !s.pageSection i j.sect then s.pageEnd i 9
    else
      let c := s.pageRefusal j.sect j.page j.plane j.op false
      if c != 0 then s.pageEnd i c else s.pageStep1 i j

/-- Whether every folio of some tiles in a plane matches its golden digest (R137, R207). -/
def Fabric.allOk (f : Fabric) (ts : List Tile) (p : Nat) : Bool := (folioKeys ts p).all f.folioOk

/-- A page-store range read: each bad codeword met is counted and poisoned (R142, R370, R372). Source 1, the location with the
memory layer index in [35:32]. -/
def Stack.meetPageRange (s : Stack) (a n : Nat) : Stack :=
  (mapRange s.health (pageMark a) (n / 16)).foldl (fun s e =>
    let b := (e.1 - 2 ^ 44) * 16
    s.meetCodeword e.1 1 (b / 0x80000000 * 2 ^ 32 + b % 0x80000000)) s

/-- Step 3 of a stage (R137, R142). -/
def Stack.stageDone (i : Nat) (j : PgJob) (s : Stack) : Stack :=
  let ts := s.pagedTiles j.root
  let bad := ts.any fun t => (List.range 16).any fun g =>
    markBad s.health (slotFolio t g j.page) 4096 || markBad s.health (slotState t g j.page) 32 || markBad s.health (slotDigest t g j.page) 16
  let s := { s with fabric := overFolios s.fabric ts fun f t g => f.stageFolio t g j.page j.plane }
  let s := ts.foldl (fun s t => (List.range 16).foldl (fun s g =>
    let s := (s.meetPageRange (slotFolio t g j.page) 4096).meetPageRange (slotState t g j.page) 32
    if g % 4 = 0 then s.meetPageRange (slotDigest t g j.page) 16 else s) s) s
  let ok := s.fabric.allOk ts j.plane
  let s := (s.setPlane j.root j.plane { status := if ok && !bad then .staged else .blocked, src := j.page, bad := !(ok && !bad) }).put
    (SECT.PG_STATUS_DONE i) (Nat.min (s.folioCount j.root) 0xFFFF)
  s.pageEnd i (if bad then 8 else if ok then 0 else 0xA)

/-- The marks of the slot words that an eviction writes whole clear: its state words, and those of a folio in memory mode (R138, R374). -/
def Stack.clearWritten (s : Stack) (t : Tile) (g page p : Nat) : Stack :=
  let h := mapClear s.health (pageMark (slotState t g page)) 2
  { s with health := if memModeOf s.fabric.planeMem (folioKey t g p * 4096) then mapClear h (pageMark (slotFolio t g page)) 256 else h }

/-- Step 3 of an eviction: state and memory-mode folios written back, the plane Free; an uncorrectable bank writes poison and
reports 8 (R138, R142). -/
def Stack.evictDone (i : Nat) (j : PgJob) (s : Stack) : Stack :=
  let ts := s.pagedTiles j.root
  let lost := fun g (t : Tile) => match s.mark (bankMark (folioKey t g j.plane)) with
    | .uncorrectable | .poison => true
    | _ => false
  let badKeys := ts.flatMap fun t => ((List.range 16).filter fun g => lost g t).map fun g => (t, g)
  let s := { s with fabric := overFolios s.fabric ts fun f t g => f.evictFolio t g j.page j.plane }
  let s := ts.foldl (fun s t => (List.range 16).foldl (fun s g => s.clearWritten t g j.page j.plane) s) s
  let s := badKeys.foldl (fun s e =>
    let a := pageMark (slotState e.1 e.2 j.page)
    ((s.setMark a .poison).setMark (a + 1) .poison).setMark (bankMark (folioKey e.1 e.2 j.plane)) .ok) s
  let s := (s.setPlane j.root j.plane {}).put (SECT.PG_STATUS_DONE i) (Nat.min (s.folioCount j.root) 0xFFFF)
  s.pageEnd i (if badKeys.isEmpty then 0 else 8)

/-- A running stage or eviction of an instance finishes (R137). -/
def Stack.pageComplete (i : Nat) (s : Stack) : Stack :=
  let j := s.job i
  if j.phase = 2 then (if j.op = 0 then s.stageDone i j else s.evictDone i j) else s

/-- STAGE (R137): The stage command of SECT.PG_CMD copies a stored page into a plane, or is refused under R141. -/
def execStage (k : Side) (i n page p : Nat) (s : State) : Host.Outcome State Fault Refusal :=
  nextStack s k (Stack.pageCommand i n page p 0)

/-- EVICT (R138): The evict command of SECT.PG_CMD writes a plane's state bank and memory-mode folios back to its page's slot. -/
def execEvict (k : Side) (i n page p : Nat) (s : State) : Host.Outcome State Fault Refusal :=
  nextStack s k (Stack.pageCommand i n page p 1)

/-- FREE (R139): The free command of SECT.PG_CMD discards a plane in 0.2 µs. -/
def execFree (k : Side) (i n page p : Nat) (s : State) : Host.Outcome State Fault Refusal := nextStack s k (Stack.pageFree i n page p)

/-- PG_CMD_NOP (R155): SECT.PG_CMD with OP 0b11 acts as no operation. -/
def execPgCmdNop (k : Side) (i n page p : Nat) (s : State) : Host.Outcome State Fault Refusal :=
  nextStack s k (Stack.pageNop i n page p)

/-- PAGE_LINKS_FREE (R137): The page links become free, and a waiting page command is rechecked and begins its step 1. -/
def execPageLinksFree (k : Side) (s : State) : Host.Outcome State Fault Refusal := nextStack s k Stack.pageLinksFree

/-- PAGE_COMMAND_COMPLETE (R137): A stage or eviction finishes; the plane becomes Staged, Blocked or Free, and RESULT and PG_DONE are set.
-/
def execPageCommandComplete (k : Side) (i : Nat) (s : State) : Host.Outcome State Fault Refusal :=
  nextStack s k (Stack.pageComplete i)

/-! ## Capture (R148 to R152) -/

/-- The lowest-numbered Free plane of a nest (R148, R230). -/
def Stack.freePlane (s : Stack) (r : Nat) : Option Nat := [0, 1, 2, 3].find? fun p => (s.plane r p).status == .free

/-- The cause for which a capture of section n is refused, lowest first, 0 for none; NO_SECTION alone (R151). -/
def Stack.capRefusal (s : Stack) (i n domain : Nat) (atPoint : Bool) (raster : Nat) (held : Bool) : Nat :=
  if !s.homed i n then 6
  else if (s.freePlane (s.rootOf n)).isNone then 1
  else if (s.sect n).state ≠ .live then 2
  else if !((s.sect n).doms.contains domain && s.domainRunning domain) then 3
  else if held then 4
  else if atPoint && !s.rasterRunning raster then 5
  else 0

/-- A capture refused: STATE Refused with its cause, CAP_DONE set (R151, R615). -/
def Stack.capRefuse (s : Stack) (i cause : Nat) : Stack :=
  ((s.put (SECT.CAP_STATUS_STATE i) 4).put (SECT.CAP_STATUS_CAUSE i) cause).raise (SECT.INT_CAP_DONE i)

/-- The capture of an instance. -/
def Stack.cap (s : Stack) (i : Nat) : CapJob := mapGet {} s.pages.caps i

/-- The capture of an instance replaced. -/
def Stack.setCap (s : Stack) (i : Nat) (j : CapJob) : Stack := { s with pages := { s.pages with caps := mapSet {} s.pages.caps i j } }

/-- CAP_STATUS.STATE of a capture that is not refused, so that CAUSE holds none (R161). -/
def Stack.capShow (s : Stack) (i st : Nat) : Stack := (s.put (SECT.CAP_STATUS_STATE i) st).put (SECT.CAP_STATUS_CAUSE i) 0

/-- SECT.CAP_CTL.GO: a capture of PG_CMD.SECTION is armed, or refused (R148, R151, R159). -/
def Stack.capture (i domain : Nat) (atPoint : Bool) (raster : Nat) (s : Stack) : Stack :=
  let t := ((s.put (SECT.CAP_CTL_DOMAIN i) domain).put (SECT.CAP_CTL_AT_POINT i) (b2n atPoint)).put (SECT.CAP_CTL_RASTER i) raster
  let n := s.get (SECT.PG_CMD_SECTION i)
  let c := s.capRefusal i n domain atPoint raster ((s.cap i).phase != 0)
  if c != 0 then t.capRefuse i c
  else
    let due := if atPoint then s.nextOccurrence raster (s.get (SECT.CAP_POINT_LINE i)) (s.get (SECT.CAP_POINT_SAMPLE i)) s.time else 0
    (t.setCap i { sect := n, domain := domain, due := due, phase := 1 }).capShow i 1

/-- The snapshot: the flip-flops of the section and its children are copied into the lowest Free plane's state bank, a full write (R374), and the
leaf memories are snapshot; the section is Capturing. A case of R151 that applies now refuses the capture (R149 to R151). -/
def Stack.captureNow (i : Nat) (s : Stack) : Stack :=
  let j := s.cap i
  let n := j.sect
  let r := s.rootOf n
  let c := s.capRefusal i n j.domain (s.flag (SECT.CAP_CTL_AT_POINT i)) (s.get (SECT.CAP_CTL_RASTER i)) false
  match s.freePlane r with
  | Option.none => (s.setCap i {}).capRefuse i c
  | some p =>
    if c != 0 then (s.setCap i {}).capRefuse i c
    else
      let lp := s.livePlane n
      let ts := (s.sect n).tiles
      let f := { s.fabric with
        banks := ts.foldl (fun b t => (List.range 16).foldl
          (fun b g => mapSet 0 b (folioKey t g p) (s.fabric.bank (folioKey t g lp))) b) s.fabric.banks
        capLeaf := ts.foldl (fun m t => mapCopy 0 m (i * 2 ^ 44 + leafBase t) s.mem (leafBase t) 0x4000) s.fabric.capLeaf }
      let h := (folioKeys ts p).foldl (fun h k => mapErase h (bankMark k)) s.health
      let s := ({ s with fabric := f, health := h } : Stack).setCap i { j with live := lp, plane := p, time := s.time, seq := s.get TURN.SEQ_LIVE, phase := 2 }
      let s := s.modSects (s.family n) fun x => if x.state = .live then { x with state := .capturing } else x
      let s := s.setPlane r p { status := .captured, src := 0x1E, bad := false }
      (s.capShow i 2).put (SECT.CAP_STATUS_PLANE i) p

/-- Whether the turn that is armed acts on a section: by its plane selection, or its own or an ancestor's RUN (R173, R233, R249). -/
def Stack.turnNames (s : Stack) (n : Nat) : Bool :=
  match s.turn.dev with
  | Option.none => s.selStagedDiffers n || (s.sectionNumbers.any fun m => s.ancestorOrSelf m n && s.runStagedDiffers m)
  | some (.repair r _) | some (.detour r _) => s.rootOf n == r
  | some .stopSiesta | some .stopDusk | some .stopCritical => true
  | some _ => false

/-- An edge of the capture's domain. With AT_POINT an edge before the raster position is not the capture edge, which the position's time,
fixed when the capture was armed, decides (R149, R160, log 31). After the last examination of a turn of the section the capture edge moves to
the application edge (R244). -/
def Stack.captureEdge (i : Nat) (s : Stack) : Stack :=
  let j := s.cap i
  if j.phase != 1 then s
  else if decide (s.time < j.due) && s.rasterRunning (s.get (SECT.CAP_CTL_RASTER i)) then s
  else if s.get TURN.STATUS_STAGE == 3 && s.turn.examined && s.turnNames j.sect then s.setCap i { j with phase := 5 }
  else s.captureNow i

/-- At the application edge of a turn, the captures whose edges have moved there record what R146 writes into the old plane's bank (R149,
R244). -/
def Stack.captureAtTurn (s : Stack) : Stack :=
  ((s.pages.caps.filter fun e => e.2.phase == 5).map (·.1)).foldl (fun s i => s.captureNow i) s

/-- The leaf-memory copy completes: the sections return to Live, where a waiting SLEEP begins, or to Held with a hold bit set, which ends a
command that waits for the copy; and the image is Ready (R150, R170, R177, R191, R615). -/
def Stack.captureCopied (i : Nat) (s : Stack) : Stack :=
  let j := s.cap i
  if j.phase != 2 && j.phase != 4 then s
  else
    let n := j.sect
    let fam := s.family n
    let s := s.modSects fam fun x => if x.state = .capturing then Section.after .live x else x
    let s := fam.foldl (fun s m =>
      let t := s.modSect m fun x => { x with sleepPending := false }
      if (s.sect m).state = .held then t.cmdDone m
      else if (s.sect m).sleepPending then t.sleepEntry (s.family m)
      else s) s
    let tiles := (s.sect n).tiles.length
    if j.phase = 4 then s.setCap i {}
    else (((s.setCap i { j with phase := 3 }).capShow i 3).put (SECT.CAP_LEN_LEN i) (8 + 4224 * tiles)).raise (SECT.INT_CAP_DONE i)

/-- SECT.CAP_CTL.RELEASE: the Captured plane becomes Free and STATE returns to Idle (R159). An armed capture is cancelled; a copy in progress
ends without an image (log 31). -/
def Stack.captureRelease (i : Nat) (s : Stack) : Stack :=
  let j := s.cap i
  let r := s.rootOf j.sect
  let t := if 2 ≤ j.phase ∧ (s.plane r j.plane).status = .captured then s.setPlane r j.plane {} else s
  (t.setCap i (if j.phase = 2 ∨ j.phase = 4 then { j with phase := 4 } else {})).capShow i 0

/-- Body word b of the capture image: 128 words of flip-flop state and 4,096 words of leaf memory for each tile (R152). -/
def Stack.capBody (s : Stack) (i b : Nat) : Nat :=
  let j := s.cap i
  let ts := (s.sect j.sect).tiles
  match ts[b / 4224]? with
  | Option.none => 0
  | some t =>
    let r := b % 4224
    if r < 128 then bits (s.fabric.bank (folioKey t (r / 8) j.plane)).toNat (32 * (r % 8)) 32
    else
      let q := r - 128
      let a := i * 2 ^ 44 + leafBase t + 0x1000 * (q / 1024) + 4 * (q % 1024)
      ofBytes ((List.range 4).map fun m => mapGet 0 s.fabric.capLeaf (a + m))

/-- Word w of the capture image (R152). -/
def Stack.capWord (s : Stack) (i w : Nat) : Nat :=
  let j := s.cap i
  let x := s.sect j.sect
  let tiles := x.tiles.length
  match w with
  | 0 => 0xC0A1 + 0x10000
  | 1 => j.sect + 1024 * j.domain + 65536 * j.live + 262144 * j.plane
  | 2 => j.time % 1000000000
  | 3 => j.time / 1000000000 % 2 ^ 32
  | 4 => j.time / 1000000000 / 2 ^ 32 % 2 ^ 16 + 65536 * j.seq
  | 5 => tiles
  | 6 => x.layers.foldl (fun m k => m + 2 ^ k) 0
  | 7 => crcWords ((List.range (4224 * tiles)).map (s.capBody i))
  | w + 8 => s.capBody i w

/-- A read of SECT.CAP_DATA: image word PTR, and PTR advances; 0 without advance when the image is not Ready or PTR is at its end;
EARLY is set when STATE is not Ready (R161, R162). -/
def Stack.capDataRead (i : Nat) (s : Stack) : Stack :=
  let p := s.get (SECT.CAP_PTR_PTR i)
  if s.get (SECT.CAP_STATUS_STATE i) != 3 then (s.raise (SECT.CAP_STATUS_EARLY i)).put (SECT.CAP_DATA_DATA i) 0
  else if s.get (SECT.CAP_LEN_LEN i) ≤ p then s.put (SECT.CAP_DATA_DATA i) 0
  else (s.put (SECT.CAP_DATA_DATA i) (s.capWord i p)).put (SECT.CAP_PTR_PTR i) (p + 1)

/-- CAPTURE (R148): SECT.CAP_CTL.GO arms a capture of a section, or the capture is refused under R151. -/
def execCapture (k : Side) (i domain : Nat) (atPoint : Bool) (raster : Nat) (s : State) : Host.Outcome State Fault Refusal :=
  nextStack s k (Stack.capture i domain atPoint raster)

/-- CAPTURE_RELEASE (R159): SECT.CAP_CTL.RELEASE frees the Captured plane, and the capture state returns to Idle. -/
def execCaptureRelease (k : Side) (i : Nat) (s : State) : Host.Outcome State Fault Refusal := nextStack s k (Stack.captureRelease i)

/-- CAPTURE_EDGE (R149): At the capture edge the flip-flops are snapshot into a Free plane, or the capture is refused, and the section is
Capturing. -/
def execCaptureEdge (k : Side) (i : Nat) (s : State) : Host.Outcome State Fault Refusal := nextStack s k (Stack.captureEdge i)

/-- CAPTURE_COPY_COMPLETE (R150): The leaf-memory copy of a capture completes; the section returns to its state and the image is Ready. -/
def execCaptureCopyComplete (k : Side) (i : Nat) (s : State) : Host.Outcome State Fault Refusal := nextStack s k (Stack.captureCopied i)

/-- CAP_DATA_READ (R162): A read of SECT.CAP_DATA returns the next image word and advances PTR, or returns 0 and sets EARLY. -/
def execCapDataRead (k : Side) (i : Nat) (s : State) : Host.Outcome State Fault Refusal := nextStack s k (Stack.capDataRead i)

end Sys2Proof.Machine
end

