-- ==== Sys2Proof/Machine/Loader.lean ====
section
/-! DEFINITION. The loader: loads, rebindings, fetches, uploads, the background checker and its repairs (R198 to R231). -/

namespace Sys2Proof.Machine

/-! ## Phases (R217) -/

/-- The sections of the running job: those of its image that are Loading or Rebinding. At Dawn the sections of earlier bindings are still
Loading (R59, R217). -/
def Stack.jobSections (s : Stack) : List Nat :=
  s.sectionNumbers.filter fun n => s.stateIn n [.loading, .rebinding] && (s.sect n).image == s.loader.jobImage

/-- The job stops with a cause: the sections that are Loading or Rebinding become Torn (R221, R222). -/
def Stack.loadStop (s : Stack) (cause sect addr : Nat) : Stack :=
  (((s.tear s.jobSections).loadEnd cause).put LOAD.STATUS_SECTION sect).put LOAD.FAULT_ADDR_ADDR addr

/-- A descriptor that the Define phase writes (R170, R195, R217). A rebound section keeps its hold bits and depth; a defined one has
RUN 0 in both copies. -/
def Stack.defineSection (s : Stack) (img : Nat) (es : List SectEntry) (hinges : List HingeEntry) (startLive : Bool) (e : SectEntry) : Stack :=
  let old := s.sect e.number
  let hb := ((hinges.head?).map (·.word)).getD 0
  if old.state = .asleep ∨ old.state = .held then
    s.setSect e.number { old with
      state := .rebinding, seq := .idle, image := img, hingeBase := hb, hingeCnt := hinges.length, turnDom := e.sect.turnDom
      detour := Option.none, avoids := [], repairRaster := e.sect.repairRaster, repairLine := e.sect.repairLine }
  else
    let depth := (depthIn es (es.length + 1) e).getD old.depth
    let t := s.setSect e.number { e.sect with
      state := .loading, image := img, depth := depth, hingeBase := hb, hingeCnt := hinges.length, startLive := startLive }
    if old.state = .torn then t
    else
      let i := e.sect.home
      [SECT.RUN_LIVE i e.number, SECT.RUN_PLL_KEEP i e.number, SECT.RUN_RESET i e.number].foldl (fun t f => t.putBoth f 0) t

/-- The fence of a job set to the extent of its image (R218). -/
def Stack.raiseFence (s : Stack) (img : Nat) : Stack :=
  { s with loader := { s.loader with fence := (imgSections (s.imageBytes img) s.bindingKey).map (·.sect) } }

/-- Whether the fence lets every descriptor of an image pass (R218). -/
def Stack.defineFenced (s : Stack) (img : Nat) : Bool :=
  (imgSections (s.imageBytes img) s.bindingKey).all fun e => s.loader.fence.any e.sect.within

/-- Phase 2: descriptors written (R217). -/
def Stack.phaseDefine (s : Stack) (img : Nat) (startLive : Bool) : Stack :=
  let l := s.imageBytes img; let key := s.bindingKey
  let es := imgSections l key
  (es.foldl (fun s e => s.defineSection img es (imgHinges l key) startLive e) s).syncDetours

/-- The root of the nest that an image's tile belongs to: a root of the image, or the nest of the rebound section. -/
def Stack.tileRoot (s : Stack) (t : Tile) : Nat :=
  match s.ownerOf t with
  | some n => s.rootOf n
  | Option.none => 0

/-- One decoded folio written where the use puts it: its slot, or, in pooled use, the planes that hold its page (R217, R219, R224).
`planes` says which planes of a nest hold a page. -/
def Stack.placeFolio (s : Stack) (planes : Nat → Nat → List Nat) (e : FolioEntry) (x : Folio) : Stack :=
  let r := s.tileRoot e.tile
  let s := { s with fabric := { s.fabric with rewriteSafe := mapSet false s.fabric.rewriteSafe (safeKey e.tile e.gathering e.page) e.rs } }
  if s.pooled then (planes r e.page).foldl (fun s p => s.placePlane p e.digest x) s else s.placeSlot r e.digest x

/-- The planes of a nest that take a page: PLANE_PAGE of a root that is defined, the planes that hold the page in a rebinding (R203,
R219). -/
def Stack.planesFor (s : Stack) (es : List SectEntry) (rebind : Bool) (r page : Nat) : List Nat :=
  [0, 1, 2, 3].filter fun p =>
    if rebind then (s.plane r p).src == page
    else ((es.find? (·.number == r)).map fun e => e.planePage.getD p 0x1F).getD 0x1F == page

/-- The groups of a hinge-table word that an image may write: those whose driving tile lies in its extent (R210). -/
def hingeMask (ps : List SectEntry) (h : HingeEntry) : Nat :=
  (List.range (if h.word % 33 = 32 then 12 else 16)).foldl (fun m j =>
    if ((hingeDriver h.layer h.word j).bind (pagedAt ps)).isSome then m + 3 * 2 ^ (2 * j) else m) 0

/-- A hinge-table word written under its mask (R184, R210). -/
def Stack.writeHinge (s : Stack) (ps : List SectEntry) (h : HingeEntry) : Stack :=
  let k := (h.layer / 2 - 1) * 65536 + h.word
  let m := hingeMask ps h
  let old := mapGet 0 s.fabric.hinges k
  { s with fabric := { s.fabric with hinges := mapSet 0 s.fabric.hinges k (old - (old &&& m) + (h.value &&& m)) } }

/-- Whether the fence of the running job holds a tile: the sections of the image that Check passed (R218). -/
def Stack.fenced (s : Stack) (t : Tile) : Bool := s.loader.fence.any (·.holds t)

/-- Whether the fence refuses an entry of HINGES: a mode is set for a group whose driving tile lies outside it (R210, R218). -/
def Stack.hingeRefused (s : Stack) (h : HingeEntry) : Bool :=
  (List.range (if h.word % 33 = 32 then 12 else 16)).any fun j =>
    bits h.value (2 * j) 2 != 0 && (hingeDriver h.layer h.word j).all fun t => !s.fenced t

/-- Whether some bytes of an image lie in blocks of the colophon die that read without an uncorrectable error (R221, log 101). -/
def Stack.readableAt (s : Stack) (img off n : Nat) : Bool :=
  let e := s.dirEntry img
  s.loader.unreadable.all fun b => decide (b < e.first + off / 131072) || decide (e.first + (off + n) / 131072 < b)

/-- Offset and length of a table entry's record in its image (R198, R208). -/
def recordSpan (l : List Nat) (key : Nat) (e : FolioEntry) : Nat × Nat :=
  let off := (((imgChunks l).find? (·.type == 9)).map (·.off)).getD 0
  (off + e.off, 8 + leAt (chunkOf l key 9) (e.off + 6) 2)

/-- The first entry of an image's folio table whose record the colophon die does not give: the read that fails now, or one in a block that
has failed before (R221, log 101). -/
def Stack.uncFolio (s : Stack) (img : Nat) (unc : Option Nat) : Option Nat :=
  let l := s.imageBytes img; let key := s.bindingKey
  let stuck := if s.loader.unreadable.isEmpty then Option.none else
    (imgTable l key).findIdx? fun e => let r := recordSpan l key e; !s.readableAt img r.1 r.2
  match unc, stuck with
  | some a, some b => some (Nat.min a b)
  | some a, Option.none => some a
  | Option.none, b => b

/-- The block of the record whose read fails is noted (log 101). -/
def Stack.noteUnreadable (s : Stack) (img : Nat) (unc : Option Nat) : Stack :=
  let l := s.imageBytes img; let key := s.bindingKey
  match unc.bind fun i => (imgTable l key)[i]? with
  | some e =>
    let b := (s.dirEntry img).first + (recordSpan l key e).1 / 131072
    { s with loader := { s.loader with unreadable := if s.loader.unreadable.contains b then s.loader.unreadable else s.loader.unreadable ++ [b] } }
  | Option.none => s

/-- What refuses a decoded folio in Copy, 0 for nothing: the fence, or its part of the tile vector and of the long-line selections against
the summary (R217, R218, R221). -/
def Stack.folioCause (s : Stack) (sm : List SummaryEntry) (fs : List Folio) (ex : FolioEntry × Folio) : Nat :=
  if !s.fenced ex.1.tile then 0x10
  else
    match sm.find? fun e => e.page == ex.1.page && e.tile == ex.1.tile with
    | some e => summaryCause fs e ex.1.gathering
    | Option.none => 0

/-- What Copy delivers: the folios before the first failure, and that failure's cause and address, 0 for none (R208, R217, R218, R221). The
tag of FOLIOS is tested before the first folio is written (log 26). -/
def Stack.copyPlan (s : Stack) (img : Nat) (unc : Option Nat) : List (FolioEntry × Folio) × Nat × Nat :=
  let l := s.imageBytes img; let key := s.bindingKey
  match (imgChunks l).find? fun c => c.type == 9 && !c.authentic key l with
  | some c => ([], 5, c.idx)
  | Option.none =>
    let table := imgTable l key; let sm := imgSummary l key
    let fs := decodeRecords (chunkOf l key 9) table
    let all := table.zip fs.2.2
    let lost := unc.bind fun i => if i ≤ all.length then table[i]? else Option.none
    let reached := match lost with
      | some _ => all.take (unc.getD 0)
      | Option.none => all
    let good := reached.takeWhile fun ex => s.folioCause sm fs.2.2 ex == 0
    match (reached.drop good.length).head?, lost with
    | some ex, _ => (good, s.folioCause sm fs.2.2 ex, ex.1.addr)
    | Option.none, some e => (good, 0x13, e.addr)
    | Option.none, Option.none => (good, fs.1, fs.2.1)

/-- Phase 3: folios, slot headers, digests and hinge modes written, and the cause and address that stop the job, 0 for none. PROGRESS counts
the folio bytes delivered (R217, R218, R231). -/
def Stack.phaseCopy (s : Stack) (img : Nat) (unc : Option Nat) : Stack × Nat × Nat :=
  let l := s.imageBytes img; let key := s.bindingKey
  let es := imgSections l key
  let c := s.copyPlan img (s.uncFolio img unc)
  let planes := s.planesFor es (imgRebind l)
  let s := c.1.foldl (fun s ex => s.placeFolio planes ex.1 ex.2) (s.noteUnreadable img unc)
  let s := s.put LOAD.PROGRESS_BYTES (c.1.length * 4096)
  let ps := pagedEntries es (imgRebind l)
  if c.2.1 != 0 then (s, c.2)
  else
    match (imgHinges l key).find? s.hingeRefused with
    | some h => (s, 0x10, folioAddr ⟨h.layer, h.word / 33⟩ 0 0)
    | Option.none => ((imgHinges l key).foldl (fun s h => s.writeHinge ps h) s, 0, 0)

/-- The planes of a defined root take their pages, and LIVE_PLANE is made live in both copies of PAGE_SEL (R170, R203, R217). -/
def Stack.setRootPlanes (s : Stack) (e : SectEntry) : Stack :=
  let r := e.number
  let s := (List.range 4).foldl (fun s p =>
    let q := e.planePage.getD p 0x1F
    s.setPlane r p (if q = 0x1F then {} else
      { status := if p = e.livePlane then .live else if s.fabric.allOk e.sect.tiles p then .staged else .blocked, src := q, bad := false })) s
  s.putBoth (SECT.PAGE_SEL_PLANE e.sect.home r) e.livePlane

/-- The (tiles, page, plane) copies that phase 4 makes: PLANE_PAGE of defined roots, and the planes that hold a supplied page in a
rebinding (R217, R219). -/
def Stack.stagePlan (s : Stack) (es : List SectEntry) (rebind : Bool) : List (List Tile × Nat × Nat) :=
  (pagedEntries es rebind).flatMap fun e =>
    let r := s.rootOf e.number
    (List.range 16).flatMap fun q =>
      if bit e.pages q then (s.planesFor es rebind r q).map fun p => (e.sect.tiles, q, p) else []

/-- The first word of a page-store slot that a stage cannot read: the address of its folio in the plane that takes it (R142, R221, R231). -/
def Stack.stageFault (s : Stack) (ts : List Tile) (page p : Nat) : Option Nat :=
  ts.findSome? fun t => (List.range 16).findSome? fun g =>
    if markBad s.health (slotFolio t g page) 4096 || markBad s.health (slotState t g page) 32 || markBad s.health (slotDigest t g page) 16 then
      some (folioAddr t g p)
    else Option.none

/-- Phase 4 in interleaved use: planes staged from the page store; the cause and address that stop the job, 0 for none: an uncorrectable slot
word, or a tile that the fence refuses (R137, R217, R218, R221). -/
def Stack.phaseStage (s : Stack) (img : Nat) : Stack × Nat × Nat :=
  let l := s.imageBytes img; let key := s.bindingKey
  let es := imgSections l key; let rebind := imgRebind l
  let plan := s.stagePlan es rebind
  match plan.findSome? fun c => s.stageFault c.1 c.2.1 c.2.2 with
  | some a => (s, 0x13, a)
  | Option.none =>
    match plan.findSome? fun c => (c.1.find? fun t => !s.fenced t).map fun t => folioAddr t 0 c.2.2 with
    | some a => (s, 0x10, a)
    | Option.none =>
      let f := plan.foldl (fun f c => overFolios f c.1 fun f t g => f.stageFolio t g c.2.1 c.2.2) s.fabric
      ({ s with fabric := f }, 0, 0)

/-- The planes of the image's roots take their statuses when they are written: at the end of phase 4, or of phase 3 in pooled use. -/
def Stack.planesWritten (s : Stack) (img : Nat) : Stack :=
  let l := s.imageBytes img
  let es := imgSections l s.bindingKey
  let s := if imgRebind l then s else (pagedEntries es false).foldl (fun s e => s.setRootPlanes e) s
  (((s.jobSections.map s.rootOf).eraseDups).foldl Stack.takeNest s).refreshDoms

/-- The timetable of a TIMETABLE payload written: base records in the live tables at Dawn and in the staged ones otherwise, the variants
in their store; none when a variant, or at Dawn the base that would become live unchecked, fails R324, or the store overflows (R212, R326,
R331, R337, log 58). -/
def Stack.writeTimetable (s : Stack) (p : List Nat) (dawn : Bool) : Option Stack :=
  let base := (ttBase p).foldl (fun m e => mapSet 0 m e.1 e.2) []
  let vars := ttVars p
  let retired := fun (v : Variant) ring hop => if ring = v.ring ∧ hop = v.hop then 1 else s.hopRetired ring hop
  if 524288 < p.length - 12 - wordAt p 2 ∨ (dawn && (ttCheck s.build base s.fullScale s.hopRetired).isSome) = true ∨ vars.any fun v => (ttCheck s.build (withVariant base v) s.fullScale (retired v)).isSome then Option.none
  else
    let set := bits (wordAt p 1) 0 16
    let s := { s with rings := { s.rings with variants := vars } }
    some (if dawn then
        ((({ s with rings := { s.rings with live := base } } : Stack).put RING.TT_GEN_GEN set).put RING.TT_STATUS_BOOT 0).put
          RING.TT_STATUS_VARIANT 0
      else ({ s with rings := { s.rings with staged := base } } : Stack).put RING.TT_GEN_GEN.staged set)

/-- The thermal model of a THERMAL payload installed (R213). -/
def Stack.writeThermal (s : Stack) (p : List Nat) : Stack :=
  let n := leAt p 0 2; let base := 2 + 2 * n * n
  { s with loader := { s.loader with
      thermalN := n
      thermal := (List.range (n * n)).foldl (fun m i => mapSet 0 m i (leAt p (2 + 2 * i) 2)) []
      thermalSect := (List.range ((p.length - base) / 8)).map fun i =>
        let w := leAt p (base + 8 * i) 4
        (bits w 0 10, bits w 16 16, leAt p (base + 8 * i + 4) 4) } }

/-- Phase 5: REGISTERS, TIMETABLE and THERMAL; none when a timetable variant fails (R217, R337). -/
def Stack.phaseRegisters (s : Stack) (img : Nat) (dawn : Bool) : Option Stack :=
  let l := s.imageBytes img; let key := s.bindingKey
  let s := (imgRegs l key).foldl (fun s r => if dawn then s.putLive r.1 r.2.1 r.2.2 else s.putStaged r.1 r.2.1 r.2.2) s
  let s := match (imgChunks l).find? (·.type == 7) with
    | some c => s.writeThermal (c.payload key l)
    | Option.none => s
  match (imgChunks l).find? (·.type == 6) with
  | some c => s.writeTimetable (c.payload key l) dawn
  | Option.none => some s

/-- After a rebinding has rewritten a nest's planes: those whose folios all match hold no mismatch any more, and a repair of the live page
that still waits for a Free plane has nothing left to repair (R172, R219, R229). -/
def Stack.repairsMet (s : Stack) : Stack :=
  ((s.jobSections.map s.rootOf).eraseDups).foldl (fun s r =>
    let s := [0, 1, 2, 3].foldl (fun s p =>
      if (s.plane r p).bad && s.fabric.allOk (s.pagedTiles r) p then s.setPlane r p { s.plane r p with bad := false } else s) s
    if (s.plane r (s.livePlane r)).bad then s
    else { s with loader := { s.loader with repairs := s.loader.repairs.filter (· != (r, 4)) } }) s

/-- The job completes: sections Asleep, hold bits of rebound ones cleared except HAVEN; at Dawn they stay Loading until the release
set/reset step (R170, R172, R217). -/
def Stack.loadFinish (s : Stack) (dawn : Bool) : Stack :=
  let s := if s.loader.job = 2 then s.repairsMet else s
  let s := if dawn then s else s.modSects s.jobSections fun x =>
    { x with state := .asleep, seq := .idle, hold := if x.state = .rebinding then x.hold &&& 32 else 0 }
  (if dawn then s else s.refreshDoms).loadEnd 0

/-- Phase 5 is entered; its work waits while a turn is armed (R217). -/
def Stack.enterRegisters (s : Stack) : Stack :=
  ({ s with loader := { s.loader with waitTurn := s.turnArmed } } : Stack).put LOAD.STATUS_PHASE 5

/-- What the live copies written at Dawn select takes effect: the domains take their sources, which give edges once they run, and a region
that begins is as never written (R59, R421, R486, R488, log 57). `old` is the state before the writes. -/
def Stack.registersTaken (s old : Stack) : Stack :=
  let s := ((List.range (8 * s.build.layers)).map (· + 16)).foldl (fun t d => (t.put (CLK.SRC_STAT_SEL d) (t.get (CLK.SRC_SEL d))).put (CLK.SRC_STAT_DIV d) (t.get (CLK.SRC_DIV d))) s
  (List.range 16).foldl (fun t k => if k = 0 then t else t.applyRegion k (old.flag (KEYS.REGIONW0_VALID k))) s

/-- The section concerned by a cause of Copy or Stage: the innermost section of the image that holds the folio of its address (R231). -/
def Stack.causeSection (s : Stack) (img cause addr : Nat) : Nat :=
  if cause = 5 then s.jobSections.headD 0 else sectOf (imgSections (s.imageBytes img) s.bindingKey) (ofFolioAddr addr).1

/-- Whether a repair whose clean page can be staged goes before any other job of the loader (R220). -/
def Stack.repairFirst (s : Stack) : Bool := s.loader.repairs.any fun q => q.2 == 4 && (s.freePlane q.1).isSome

/-- Whether another job of the loader goes before a load: a repair or a colophon fetch (R220). -/
def Stack.loadPaused (s : Stack) : Bool := s.flag LOAD.FETCH_STATUS_BUSY || s.repairFirst

/-- Whether the page links that phase 4 of the running job needs serve a page command (R136). -/
def Stack.stageLinksBusy (s : Stack) : Bool := !s.pooled && s.jobSections.any s.commandOnLinks

/-- A phase of the running job finishes its work, unless another job goes first or its page links are in use (R136, R217, R220, R221). `unc` is
the index of the folio whose colophon read was uncorrectable. -/
def Stack.loadPhase (unc : Option Nat) (s : Stack) : Stack :=
  let img := s.loader.jobImage; let op := s.loader.job; let dawn := s.mode == .dawn
  let stop := fun (t : Stack) (c : Nat × Nat) => t.loadStop c.1 (t.causeSection img c.1 c.2) c.2
  if s.loadPaused then s
  else match s.get LOAD.STATUS_PHASE with
  | 1 =>
    match s.checkImage op img s.loader.jobDigest with
    | some (c, n, a) => ((s.loadEnd c).put LOAD.STATUS_SECTION n).put LOAD.FAULT_ADDR_ADDR a
    | Option.none => if op = 5 then s.loadEnd 0 else (s.raiseFence img).put LOAD.STATUS_PHASE 2
  | 2 => if s.defineFenced img then (s.phaseDefine img s.loader.jobStartLive).put LOAD.STATUS_PHASE 3 else s.loadStop 0x10 0 0
  | 3 =>
    let r := s.phaseCopy img unc
    if r.2.1 != 0 then stop r.1 r.2
    else if s.pooled then (r.1.planesWritten img).enterRegisters
    else r.1.put LOAD.STATUS_PHASE 4
  | 4 =>
    if s.stageLinksBusy then s
    else
      let r := s.phaseStage img
      if r.2.1 != 0 then stop r.1 r.2 else (r.1.planesWritten img).enterRegisters
  | 5 =>
    if s.loader.waitTurn then s
    else match s.phaseRegisters img dawn with
    | some t => (if dawn then t.registersTaken s else t).loadFinish dawn
    | Option.none => s.loadStop 0xF (s.jobSections.headD 0) 0
  | _ => s

/-- The registers phase that waits goes on once no turn is armed (R217). -/
def Stack.loadRegistersPhase (s : Stack) : Stack :=
  if s.loader.waitTurn then { s with loader := { s.loader with waitTurn := s.turnArmed } } else s

/-! ## LOAD.CMD (R231) -/

/-- The fields of LOAD.CMD written. -/
def Stack.loadFields (s : Stack) (image op : Nat) : Stack := (s.put LOAD.CMD_IMAGE image).put LOAD.CMD_OP op

/-- A job of the loader begins at its Check phase (R217, R231). -/
def Stack.jobBegin (s : Stack) (op image digest : Nat) (startLive : Bool) : Stack :=
  let t := { s with loader := { s.loader with job := op, jobImage := image, jobDigest := digest, jobStartLive := startLive, waitTurn := false } }
  (((((t.put LOAD.STATUS_BUSY 1).put LOAD.STATUS_PHASE 1).put LOAD.STATUS_CAUSE 0).put LOAD.STATUS_SECTION 0).put
    LOAD.FAULT_ADDR_ADDR 0).put LOAD.PROGRESS_BYTES 0

/-- GO with an OP that starts a job: while BUSY it is ignored with OVERRUN (R231). -/
def Stack.loadStart (op image : Nat) (s : Stack) : Stack :=
  let t := s.loadFields image op
  if s.flag LOAD.STATUS_BUSY then t.raise LOAD.STATUS_OVERRUN else t.jobBegin op image (s.get LOAD.CMD_DIGEST_DIGEST) false

/-- OP 0 and 6 to 15: no operation; GO while BUSY is ignored with OVERRUN (R231). -/
def Stack.loadNone (op image : Nat) (s : Stack) : Stack :=
  let t := s.loadFields image op
  if s.flag LOAD.STATUS_BUSY then t.raise LOAD.STATUS_OVERRUN else t

/-- ABORT: the running job stops; from Define on its sections become Torn (R221, R231). -/
def Stack.loadAbort (image : Nat) (s : Stack) : Stack :=
  let t := s.loadFields image 4
  if s.flag LOAD.STATUS_BUSY then t.loadStop 0x15 (t.jobSections.headD 0) 0 else t

/-- LOAD_NONE (R231): A LOAD.CMD with OP 0 or 6 to 15 does nothing. -/
def execLoadNone (k : Side) (op image : Nat) (s : State) : Host.Outcome State Fault Refusal := nextStack s k (Stack.loadNone op image)

/-- LOAD (R217): The LOAD command runs a load of an image through Check, Define, Copy, Stage and Registers. -/
def execLoad (k : Side) (image : Nat) (s : State) : Host.Outcome State Fault Refusal := nextStack s k (Stack.loadStart 1 image)

/-- REBIND (R219): The REBIND command rebinds an Asleep or Held section and its descendants from a rebinding image. -/
def execRebind (k : Side) (image : Nat) (s : State) : Host.Outcome State Fault Refusal := nextStack s k (Stack.loadStart 2 image)

/-- RESTART (R222): The RESTART command reruns an image from phase 1, counting its Torn sections as its own. -/
def execRestart (k : Side) (image : Nat) (s : State) : Host.Outcome State Fault Refusal := nextStack s k (Stack.loadStart 3 image)

/-- ABORT (R221): The ABORT command stops the running loader job, and its sections become Torn. -/
def execLoadAbort (k : Side) (image : Nat) (s : State) : Host.Outcome State Fault Refusal := nextStack s k (Stack.loadAbort image)

/-- VERIFY (R231): The VERIFY command runs the Check phase of an image alone. -/
def execVerify (k : Side) (image : Nat) (s : State) : Host.Outcome State Fault Refusal := nextStack s k (Stack.loadStart 5 image)

/-- LOAD_PHASE_COMPLETE (R217): A loader phase finishes its work, and the next phase begins or the job ends with its cause. -/
def execLoadPhaseComplete (k : Side) (unc : Option Nat) (s : State) : Host.Outcome State Fault Refusal := nextStack s k (Stack.loadPhase unc)

/-- LOAD_REGISTERS_PHASE (R217): The loader's registers phase, which waited while a turn was armed, begins once the turn is Idle. -/
def execLoadRegistersPhase (k : Side) (s : State) : Host.Outcome State Fault Refusal := nextStack s k Stack.loadRegistersPhase

/-! ## Colophon fetches (R144, R225) -/

/-- Whether the image of a nest's root supplies a page (R225). -/
def Stack.imageSupplies (s : Stack) (r page : Nat) : Bool :=
  (imgSections (s.imageBytes (s.sect r).image) s.bindingKey).any fun e => e.number == r && bit e.pages page

/-- LOAD.FETCH with GO (R141, R225, R231). -/
def Stack.fetch' (n page p : Nat) (s : Stack) : Stack :=
  let t := ((s.put LOAD.FETCH_SECTION n).put LOAD.FETCH_PAGE page).put LOAD.FETCH_PLANE p
  if s.flag LOAD.FETCH_STATUS_BUSY then t.raise LOAD.FETCH_STATUS_OVERRUN
  else if s.stateIn n [.none] then t.put LOAD.FETCH_STATUS_RESULT 9
  else
    let r := s.rootOf n
    let c := s.pageRefusal n page p 4 (s.imageSupplies r page)
    if c != 0 then t.put LOAD.FETCH_STATUS_RESULT c
    else
      let t := { t with loader := { t.loader with fetchRoot := r, fetchPage := page, fetchPlane := p } }
      ((t.setPlane r p { status := .staging, src := page, bad := false }).put LOAD.FETCH_STATUS_BUSY 1).put LOAD.FETCH_STATUS_RESULT 0

/-- Whether a block that has failed holds part of a page of a nest (R142, R221, log 101). -/
def Stack.pageUnreadable (s : Stack) (r page : Nat) : Bool :=
  !s.loader.unreadable.isEmpty && (((s.nest r).map fun n => (s.sect n).image).eraseDups.any fun img =>
    let l := s.imageBytes img; let key := s.bindingKey
    (imgTable l key).any fun e => e.page == page && (let w := recordSpan l key e; !s.readableAt img w.1 w.2))

/-- A colophon fetch completes: configuration from the image and INIT state; the plane is Staged, or Blocked with 8 after an
uncorrectable colophon read and 0xA after a digest mismatch (R141, R144, R225). -/
def Stack.fetchDone (unc : Bool) (s : Stack) : Stack :=
  if s.flag LOAD.FETCH_STATUS_BUSY && !s.repairFirst then
    let r := s.loader.fetchRoot; let p := s.loader.fetchPlane; let page := s.loader.fetchPage
    let unc := unc || s.pageUnreadable r page
    let s := if unc then s else (s.sourceFolios r page).foldl (fun s ex => s.placePlane p ex.1.digest ex.2) s
    let ok := !unc && s.fabric.allOk (s.pagedTiles r) p
    let s := s.setPlane r p { status := if ok then .staged else .blocked, src := page, bad := !ok }
    (s.put LOAD.FETCH_STATUS_BUSY 0).put LOAD.FETCH_STATUS_RESULT (if unc then 8 else if ok then 0 else 0xA)
  else s

/-- COLOPHON_FETCH (R225): A LOAD.FETCH GO requests a colophon fetch of a page into a plane in pooled use, or is refused. -/
def execColophonFetch (k : Side) (n page p : Nat) (s : State) : Host.Outcome State Fault Refusal := nextStack s k (Stack.fetch' n page p)

/-- FETCH_COMPLETE (R225): A colophon fetch completes, and the plane becomes Staged or Blocked. -/
def execFetchComplete (k : Side) (unc : Bool) (s : State) : Host.Outcome State Fault Refusal := nextStack s k (Stack.fetchDone unc)

/-! ## Uploads (R215, R226, R227) -/

/-- A directory entry replaced. -/
def Stack.setDir (s : Stack) (n : Nat) (e : DirEntry) : Stack :=
  { s with loader := { s.loader with dir := mapSet {} s.loader.dir n e } }

/-- The blocks of a length in bytes. -/
def dirBlocks (len : Nat) : Nat := (len + 131071) / 131072

/-- Whether a block of the image area is free, for an upload of image `own` (R215). -/
def Stack.blockFree (s : Stack) (own b : Nat) : Bool :=
  decide (b < 65024) && s.loader.dir.all fun e => e.1 == own || e.2.state == 0 || !(e.2.first ≤ b && b < e.2.first + dirBlocks e.2.len)

/-- The first block of the lowest contiguous run of `n` free blocks: block 0 or the end of an entry (R227). -/
def Stack.freeRun (s : Stack) (own n : Nat) : Option Nat :=
  let starts := 0 :: (s.loader.dir.filter fun e => e.2.state != 0).map fun e => e.2.first + dirBlocks e.2.len
  let ok := starts.filter fun b => decide (b + n ≤ 65024) &&
    s.loader.dir.all fun e => e.1 == own || e.2.state == 0 || !(b < e.2.first + dirBlocks e.2.len && e.2.first < b + n)
  ok.foldl (fun acc b => match acc with
    | some a => some (Nat.min a b)
    | Option.none => some b) Option.none

/-- The fields of UP_CTL written. -/
def Stack.upFields (s : Stack) (image op : Nat) : Stack := (s.put LOAD.UP_CTL_IMAGE image).put LOAD.UP_CTL_OP op

/-- The open upload ends with a result: its buffer is emptied and its entry left VALID or set to FREE (R226, R227). -/
def Stack.uploadEnd (s : Stack) (entry : DirEntry) (result : Nat) : Stack :=
  let t := { s.setDir s.loader.upImage entry with
    loader := { (s.setDir s.loader.upImage entry).loader with
      upImage := 0, upCount := 0, upBuffer := [], upProgrammed := 0, upOverflow := false, upBusyOp := 0 } }
  (((t.put LOAD.UP_STATUS_OPEN 0).put LOAD.UP_STATUS_BUSY 0).put LOAD.UP_STATUS_RESULT result).put LOAD.UP_STATUS_SPACE 16384

/-- Open: refused with EXISTS unless the entry is FREE and no upload is open, and with SPACE when no run of blocks holds UP_LEN (R226,
R227, log 29). -/
def Stack.uploadOpen (image : Nat) (s : Stack) : Stack :=
  let t := s.upFields image 1
  if s.flag LOAD.UP_STATUS_BUSY then t
  else if 1023 < image ∨ (s.dirEntry image).state ≠ 0 ∨ s.flag LOAD.UP_STATUS_OPEN then t.put LOAD.UP_STATUS_RESULT 1
  else if !s.tempWindow then t.put LOAD.UP_STATUS_RESULT 3
  else
    match s.freeRun image (Nat.max 1 (dirBlocks (s.get LOAD.UP_LEN_LEN))) with
    | Option.none => t.put LOAD.UP_STATUS_RESULT 2
    | some b =>
      let t := t.setDir image { state := 1, first := b, len := s.get LOAD.UP_LEN_LEN }
      let t := { t with loader := { t.loader with
        upImage := image, upCount := 0, upBuffer := [], upProgrammed := 0, upOverflow := false
        unreadable := t.loader.unreadable.filter fun u => !(b ≤ u && u < b + dirBlocks (s.get LOAD.UP_LEN_LEN)) } }
      (t.put LOAD.UP_STATUS_OPEN 1).put LOAD.UP_STATUS_RESULT 0

/-- A write to UP_DATA: one word buffered, or dropped with OVERFLOW when SPACE is 0; with no upload open it is ignored (R226, R227). -/
def Stack.upData (v : Nat) (s : Stack) : Stack :=
  if !s.flag LOAD.UP_STATUS_OPEN then s
  else if s.get LOAD.UP_STATUS_SPACE = 0 then
    ({ s with loader := { s.loader with upOverflow := true } } : Stack).raise LOAD.UP_STATUS_OVERFLOW
  else
    ({ s with loader := { s.loader with upBuffer := s.loader.upBuffer ++ [v], upCount := s.loader.upCount + 1 } } : Stack).put
      LOAD.UP_STATUS_SPACE (s.get LOAD.UP_STATUS_SPACE - 1)

/-- Buffered words programmed into the image area; a word whose block belongs to another image is not written (R215, log 29). -/
def Stack.program (s : Stack) : Stack :=
  let e := s.dirEntry s.loader.upImage
  let s' := s.loader.upBuffer.foldl (fun (s : Stack) v =>
    let o := 4 * s.loader.upProgrammed
    let img := if s.blockFree s.loader.upImage (e.first + o / 131072) then
        writeBytesMem s.loader.image (e.first * 131072 + o) (toBytes 4 v)
      else s.loader.image
    { s with loader := { s.loader with image := img, upProgrammed := s.loader.upProgrammed + 1 } }) s
  let t := { s' with loader := { s'.loader with upBuffer := [] } }
  (t.setDir t.loader.upImage { e with len := Nat.max e.len (4 * t.loader.upProgrammed) }).put LOAD.UP_STATUS_SPACE 16384

/-- The loader programs what is buffered, or abandons the upload outside the temperature window (R226, R227, R524). -/
def Stack.colophonProgram (s : Stack) : Stack :=
  if !s.flag LOAD.UP_STATUS_OPEN then s
  else if !s.tempWindow then s.uploadEnd {} 3
  else s.program

/-- Commit: refused with STATE when no upload is open, else in progress (R226, R227). -/
def Stack.uploadCommit (image : Nat) (s : Stack) : Stack :=
  let t := s.upFields image 2
  if s.flag LOAD.UP_STATUS_BUSY then t
  else if !s.flag LOAD.UP_STATUS_OPEN then t.put LOAD.UP_STATUS_RESULT 8
  else ({ t with loader := { t.loader with upBusyOp := 2 } } : Stack).put LOAD.UP_STATUS_BUSY 1

/-- The result of a commit: OVERFLOW, then LENGTH, SPACE, DIGEST and FORMAT (R226, R227, log 29). -/
def Stack.commitResult (s : Stack) : Nat :=
  let e := s.dirEntry s.loader.upImage
  let len := s.get LOAD.UP_LEN_LEN
  let l := (List.range len).map fun i => (mapGet 0 s.loader.image (e.first * 131072 + i)).toNat
  if s.loader.upOverflow then 7
  else if len % 4 != 0 || 4 * s.loader.upCount != len then 4
  else if !(List.range (dirBlocks len)).all fun i => s.blockFree s.loader.upImage (e.first + i) then 2
  else if crc32c l != s.get LOAD.UP_DIGEST_DIGEST then 5
  else if l.length < 64 || wordAt l 0 != 0xB1D0 + 0x10000 || crc32c (l.take 0x3C) != wordAt l 15 then 6
  else 0

/-- A commit or delete in progress completes (R226, R227). -/
def Stack.uploadDone (s : Stack) : Stack :=
  if s.loader.upBusyOp = 4 then
    ((({ s with loader := { s.loader with upBusyOp := 0 } } : Stack).setDir s.loader.delImage {}).put LOAD.UP_STATUS_BUSY 0).put
      LOAD.UP_STATUS_RESULT 0
  else if s.loader.upBusyOp = 2 then
    let s := s.colophonProgram
    if !s.flag LOAD.UP_STATUS_OPEN then s
    else
      let r := s.commitResult
      if r = 0 then
        s.uploadEnd { state := 2, first := (s.dirEntry s.loader.upImage).first, len := s.get LOAD.UP_LEN_LEN, crc := s.get LOAD.UP_DIGEST_DIGEST } 0
      else s.uploadEnd {} r
  else s

/-- Abandon: the open entry becomes FREE; STATE with no upload open (R227). -/
def Stack.uploadAbandon (image : Nat) (s : Stack) : Stack :=
  let t := s.upFields image 3
  if s.flag LOAD.UP_STATUS_BUSY then t
  else if s.flag LOAD.UP_STATUS_OPEN then t.uploadEnd {} 0
  else t.put LOAD.UP_STATUS_RESULT 8

/-- Delete: refused with IN_USE while a section's DESC.IMAGE names the image, and with TEMP_WINDOW outside the window of directory
changes; else in progress (R227, R524). A delete of the image whose upload is open abandons it. -/
def Stack.uploadDelete (image : Nat) (s : Stack) : Stack :=
  let t := s.upFields image 4
  if s.flag LOAD.UP_STATUS_BUSY then t
  else if s.sectionNumbers.any fun n => (s.sect n).image == image then t.put LOAD.UP_STATUS_RESULT 9
  else if !s.tempWindow then t.put LOAD.UP_STATUS_RESULT 3
  else
    let t := if s.flag LOAD.UP_STATUS_OPEN && s.loader.upImage == image then t.uploadEnd {} 0 else t
    ({ t with loader := { t.loader with upBusyOp := 4, delImage := image } } : Stack).put LOAD.UP_STATUS_BUSY 1

/-- UPLOAD_OPEN (R226): The open command of LOAD.UP_CTL opens an upload into a FREE directory entry, or is refused. -/
def execUploadOpen (k : Side) (image : Nat) (s : State) : Host.Outcome State Fault Refusal := nextStack s k (Stack.uploadOpen image)

/-- UPLOAD_COMMIT (R226): The commit command of LOAD.UP_CTL checks the length, CRC and header, and the entry becomes VALID or FREE. -/
def execUploadCommit (k : Side) (image : Nat) (s : State) : Host.Outcome State Fault Refusal := nextStack s k (Stack.uploadCommit image)

/-- UPLOAD_ABANDON (R227): The abandon command of LOAD.UP_CTL sets the open entry to FREE. -/
def execUploadAbandon (k : Side) (image : Nat) (s : State) : Host.Outcome State Fault Refusal := nextStack s k (Stack.uploadAbandon image)

/-- UPLOAD_DELETE (R227): The delete command of LOAD.UP_CTL frees an image, or is refused with IN_USE. -/
def execUploadDelete (k : Side) (image : Nat) (s : State) : Host.Outcome State Fault Refusal := nextStack s k (Stack.uploadDelete image)

/-- UPLOAD_NONE (R231): A LOAD.UP_CTL with an unassigned OP does nothing. -/
def execUploadNone (k : Side) (image op : Nat) (s : State) : Host.Outcome State Fault Refusal :=
  nextStack s k fun t => t.upFields image op

/-- UP_DATA_WRITE (R226): A write to LOAD.UP_DATA buffers one image word, or drops it and sets OVERFLOW when SPACE is 0. -/
def execUpDataWrite (k : Side) (v : Nat) (s : State) : Host.Outcome State Fault Refusal := nextStack s k (Stack.upData v)

/-- COLOPHON_PROGRAM (R226): The loader programs buffered upload data into the colophon die, and abandons it if the temperature window is
left. -/
def execColophonProgram (k : Side) (s : State) : Host.Outcome State Fault Refusal := nextStack s k Stack.colophonProgram

/-- UPLOAD_COMMIT_DONE (R226): A commit or delete that was in progress completes, and UP_STATUS.BUSY clears. -/
def execUploadCommitDone (k : Side) (s : State) : Host.Outcome State Fault Refusal := nextStack s k Stack.uploadDone

/-! ## Background checking (R228 to R230) -/

/-- Whether the checkers read a folio: a Live or Staged plane, of a tile whose section exists and is not Empty, Torn or being written
(R228). -/
def Stack.checked (s : Stack) (t : Tile) (p : Nat) : Bool :=
  match s.ownerOf t with
  | some n =>
    let st := (s.plane (s.rootOf n) p).status
    (st == .live || st == .staged) && !s.stateIn n [.empty, .torn, .loading, .rebinding]
  | Option.none => false

/-- The folios that the checker of a logic layer reads in one lap. -/
def Stack.lapFolios (s : Stack) (layer : Nat) : Nat :=
  16 * ((List.range 1200).flatMap fun t => [0, 1, 2, 3].filter fun p => s.checked ⟨layer, t⟩ p).length

/-- One folio more in the lap of logic layer index i; the lap's time is reported when it ends (R228, R231). -/
def Stack.lapCount (s : Stack) (i : Nat) : Stack :=
  let n := mapGet 0 s.fabric.checkPos i + 1
  if s.lapFolios (logicLayer i) ≤ n then
    let t := s.put (LOAD.CHK_LAP_LAP i) (Nat.min ((s.clk.up - mapGet 0 s.fabric.checkPos (16 + i)) / 1000) 0xFFFFFF)
    { t with fabric := { t.fabric with checkPos := mapSet 0 (mapSet 0 t.fabric.checkPos i 0) (16 + i) s.clk.up } }
  else { s with fabric := { s.fabric with checkPos := mapSet 0 s.fabric.checkPos i n } }

/-- Whether the source of a page's folio is good: slot PAGE of the page store, or the image in pooled use (R229). -/
def Stack.sourceOk (s : Stack) (r : Nat) (t : Tile) (g page : Nat) : Bool :=
  if s.pooled then (s.sourceFolios r page).any fun ex => ex.1.addr == folioAddr t g 0
  else digestOf s.fabric.pageStore (slotFolio t g page) == s.fabric.pageNat (slotDigest t g page) 4 && !markBad s.health (slotFolio t g page) 4096

/-- The planes of a nest that the running load writes: those that take its pages, until they hold them (R157, R217, R219). -/
def Stack.loadPlanes (s : Stack) (r : Nat) : List Nat :=
  let phase := s.get LOAD.STATUS_PHASE
  if s.loader.job == 0 || phase < 2 || 4 < phase || !(s.jobSections.any fun n => s.rootOf n == r) then []
  else
    let l := s.imageBytes s.loader.jobImage; let es := imgSections l s.bindingKey
    [0, 1, 2, 3].filter fun p => (pagedEntries es (imgRebind l)).any fun e => s.rootOf e.number == r &&
      (List.range 16).any fun q => bit e.pages q && (s.planesFor es (imgRebind l) r q).contains p

/-- The record of a mismatch: CHK_EVENT, CHK_INFO with its action, the section's fault and its ledger event (R193, R229, R231). A check that a
fault of the section has asked for (`asked`) finds that fault's own upset: it is no second fault (R124, log 115). -/
def Stack.checkEvent (s : Stack) (asked : Bool) (n : Nat) (t : Tile) (g p action mask : Nat) : Stack :=
  let s := (s.put LOAD.CHK_EVENT_ADDR (folioAddr t g p)).eventReg LOAD.CHK_INFO_VALID LOAD.CHK_INFO_LOST
    [(LOAD.CHK_INFO_PLANE, p), (LOAD.CHK_INFO_ACTION, action), (LOAD.CHK_INFO_SECTION, n)]
  if asked then s else (s.sectFault n mask).fault (.sect n) 0x0002 action (folioAddr t g p) 0

/-- The section whose live folio cannot be repaired now is Held with DIGEST, and its recovery ends there (R172, R229). -/
def Stack.holdDigest (s : Stack) (n : Nat) : Stack :=
  (s.holdSects 1 (s.family n)).recoveryComplete (.sect (s.rootOf n))

/-- A plane marked as holding a mismatched folio. -/
def Stack.markPlane (s : Stack) (r p : Nat) (status : PlaneStatus) : Stack := s.setPlane r p { s.plane r p with status := status, bad := true }

/-- A repair noted: the nest and the Free plane that will take it, 4 while none is Free (R230). -/
def Stack.noteRepair (s : Stack) (r : Nat) : Stack :=
  if s.loader.repairs.any fun q => q.1 == r then s else { s with loader := { s.loader with repairs := s.loader.repairs ++ [(r, 4)] } }

/-- A folio mismatch handled by R229's table. -/
def Stack.mismatch (s : Stack) (asked : Bool) (n : Nat) (t : Tile) (g p : Nat) : Stack :=
  let r := s.rootOf n; let pl := s.plane r p
  let rs := mapGet false s.fabric.rewriteSafe (safeKey t g pl.src)
  let good := s.sourceOk r t g pl.src
  let rewrite := fun (s : Stack) => { s with loader := { s.loader with rewrites := s.loader.rewrites ++ [folioKey t g p] } }
  if pl.status = .staged then
    if good && rs then rewrite ((s.checkEvent asked n t g p 1 0).markPlane r p .blocked)
    else ((s.checkEvent asked n t g p 2 0).markPlane r p .blocked).recoveryComplete (.sect r)
  else if good && rs then rewrite ((s.checkEvent asked n t g p 0 0).markPlane r p .live)
  else if good && (s.freePlane r).isSome then ((s.checkEvent asked n t g p 3 0).markPlane r p .live).noteRepair r
  else
    let s := ((s.checkEvent asked n t g p 4 2).markPlane r p .live).holdDigest n
    if good then s.noteRepair r else s

/-- Whether a folio that the checkers read does not match its golden digest (R228). -/
def Stack.folioWrong (s : Stack) (t : Tile) (g p : Nat) : Bool := s.checked t p && !s.fabric.folioOk (folioKey t g p)

/-- One folio compared with its golden digest (R228, R229). The fault of a nested section is its outermost section's, as R45 has it. -/
def Stack.checkFolio (s : Stack) (asked : Bool) (t : Tile) (g p : Nat) : Stack :=
  match s.ownerOf t with
  | some n => if s.folioWrong t g p then s.mismatch asked (s.rootOf n) t g p else s
  | Option.none => s

/-- The checker of a layer reads one folio (R228). -/
def Stack.backgroundCheck (layer tile g p : Nat) (s : Stack) : Stack :=
  if s.flag LOAD.CHK_CTL_ENABLE && s.checked ⟨layer, tile⟩ p && !(s.loader.rewrites.contains (folioKey ⟨layer, tile⟩ g p)) then
    (s.lapCount (layer / 2 - 1)).checkFolio false ⟨layer, tile⟩ g p
  else s

/-- The tile, gathering and plane of a folio key. -/
def ofFolioKey (k : Nat) : Tile × Nat × Nat := (⟨k / 64 / 2048, k / 64 % 2048⟩, k / 4 % 16, k % 4)

/-- A folio's configuration rewritten from its source (R229). -/
def Stack.rewriteFolio (s : Stack) (r : Nat) (t : Tile) (g p : Nat) : Stack :=
  let page := (s.plane r p).src; let k := folioKey t g p
  if s.pooled then
    match (s.sourceFolios r page).find? fun ex => ex.1.addr == folioAddr t g 0 with
    | some ex => { s with fabric := { s.fabric with
        planeMem := writeBytesMem s.fabric.planeMem (k * 4096) (ex.2.bytes.map (BitVec.ofNat 8)) } }
    | Option.none => s
  else { s with fabric := { s.fabric with
      planeMem := mapCopy 0 s.fabric.planeMem (k * 4096) s.fabric.pageStore (slotFolio t g page) 4096 } }

/-- The oldest rewrite completes: the folio matches again, and a Blocked plane whose folios all match is Staged (R229). -/
def Stack.rewriteDone (s : Stack) : Stack :=
  match s.loader.rewrites with
  | [] => s
  | k :: rest =>
    let t := (ofFolioKey k).1; let g := (ofFolioKey k).2.1; let p := (ofFolioKey k).2.2
    let s := { s with loader := { s.loader with rewrites := rest } }
    let r := s.tileRoot t
    let s := s.rewriteFolio r t g p
    let pl := s.plane r p
    let s := if s.fabric.allOk (s.pagedTiles r) p then
        s.setPlane r p { pl with status := if pl.status = .blocked then .staged else pl.status, bad := false }
      else s
    s.recoveryComplete (.sect r)

/-- Cells in memory mode of a folio: bits [63:0] copied from the live plane (R230). -/
def copyMemMode (f : Fabric) (src dst : Nat) : Fabric :=
  (List.range 128).foldl (fun f c =>
    if cellMode (f.folioByte dst (32 * c + 8)) = 3 then
      { f with planeMem := mapCopy 0 f.planeMem (dst * 4096 + 32 * c) f.planeMem (src * 4096 + 32 * c) 8 }
    else f) f

/-- The live page staged into plane `p` from its source: its slots, or in pooled use the images (R127, R137, R230). -/
def Stack.stageLive (s : Stack) (r p : Nat) : Stack :=
  let page := (s.plane r (s.livePlane r)).src
  let s := if s.pooled then (s.sourceFolios r page).foldl (fun s ex => s.placePlane p ex.1.digest ex.2) s
    else { s with fabric := overFolios s.fabric (s.pagedTiles r) fun f t g => f.stageFolio t g page p }
  s.setPlane r p { status := .staged, src := page, bad := false }

/-- The memory-mode contents of a nest's live plane copied into plane `p` (R230). -/
def Stack.copyTables (s : Stack) (r p : Nat) : Stack :=
  { s with fabric := overFolios s.fabric (s.pagedTiles r) fun f t g => copyMemMode f (folioKey t g (s.livePlane r)) (folioKey t g p) }

/-- The live page staged clean into plane `p`: configuration from the source, memory-mode contents from the live plane (R230). -/
def Stack.stageClean (s : Stack) (r p : Nat) : Stack := (s.stageLive r p).copyTables r p

/-- The loader stages a clean page for the first repair that waits for a Free plane, and makes the repair turn (R230, R249). -/
def Stack.repairTurn (s : Stack) : Stack :=
  match s.loader.repairs.find? fun q => q.2 == 4 && (s.freePlane q.1).isSome && (s.pooled || !s.commandOnLinks q.1) with
  | Option.none => s
  | some q =>
    let p := (s.freePlane q.1).getD 0
    let s := { s with loader := { s.loader with repairs := s.loader.repairs.map fun x => if x == q then (q.1, p) else x } }
    (s.stageClean q.1 p).makeDevTurn (.repair q.1 p)

/-- BACKGROUND_CHECK (R228): A layer's checker reads one folio of a Live or Staged plane every 160 ns and compares it with its golden
digest. -/
def execBackgroundCheck (k : Side) (layer tile g p : Nat) (s : State) : Host.Outcome State Fault Refusal :=
  nextFault s k (Stack.backgroundCheck layer tile g p)

/-- FOLIO_REWRITE_COMPLETE (R229): The rewrite of a rewrite-safe folio from its source completes, and a Blocked staged plane becomes
Staged again. -/
def execFolioRewriteComplete (k : Side) (s : State) : Host.Outcome State Fault Refusal := nextStack s k Stack.rewriteDone

/-- REPAIR_TURN (R230): The loader stages a clean page into a Free plane and arms the repair device turn when no turn is armed. -/
def execRepairTurn (k : Side) (s : State) : Host.Outcome State Fault Refusal := nextStack s k Stack.repairTurn

end Sys2Proof.Machine
end

