-- ==== Sys2Proof/Machine/Clocks.lean ====
section
/-! DEFINITION. The commands of the clocks: dead sources, PLL locks, the house clock, device time, rasters and the frequency meter
(R484 to R503). -/

namespace Sys2Proof.Machine

/-! ## Sources (R487 to R490) -/

/-- A source is declared dead: MON_RUN cleared, MON_DEAD set, CLOCK_DEAD raised; an idle source is not monitored, so it is left as
it is (R490). -/
def Stack.clockDead (n : Nat) (s : Stack) : Stack :=
  if s.sourceRunning n then ((s.setRunning n false).setDead n).raise CLK.INT_CLOCK_DEAD else s

/-- Whether R175 keeps user PLL n stopped: in Day and Workshop, no Live or Capturing section uses a domain that selects it, no
section that uses one has PLL_KEEP set, and no wake needs it (R175). -/
def Stack.pllUnused (s : Stack) (n : Nat) : Bool :=
  (s.mode == .day || s.mode == .workshop) &&
  s.sectionNumbers.all fun m =>
    let x := s.sect m
    let uses := x.doms.any fun d => s.domainPll d == some n
    let waking := match x.seq with
      | .wake _ => true
      | _ => false
    !uses || (!(x.state == .live || x.state == .capturing) && !s.flag (SECT.RUN_PLL_KEEP x.home m) && !waking)

/-- A user PLL locks: it is running, no longer idle, and counts as having locked (R484, R487, R490). It locks only where its live
configuration can, clocks are kept, and R175 does not keep it stopped; one that a turn has reconfigured locks once in any case (R487). -/
def Stack.userPllLock (n : Nat) (s : Stack) : Stack :=
  if s.pllConfigValid n && (!s.pllUnused n || !s.clk.pllLocked.contains n) && decide (n < 4 * s.build.layers) && s.modeIn [.dawn, .day, .workshop] then
    let t := s.setRunning (0x20 + n) true
    { t with clk := { t.clk with
        pllLocked := if t.clk.pllLocked.contains n then t.clk.pllLocked else t.clk.pllLocked ++ [n]
        pllIdle := t.clk.pllIdle.filter (· != n)
        forced := t.clk.forced.filter fun d => t.domainPll d != some n } }
  else s

/-- A user PLL stops on purpose: idle, its MON_DEAD bit not set (R175, R490). -/
def Stack.pllStop (s : Stack) (n : Nat) : Stack :=
  let t := s.setRunning (0x20 + n) false
  { t with clk := { t.clk with pllIdle := if t.clk.pllIdle.contains n then t.clk.pllIdle else t.clk.pllIdle ++ [n] } }

/-- The rule of R175 acts: every running user PLL that nothing uses stops. -/
def Stack.pllPolicy (s : Stack) : Stack :=
  s.build.plls.foldl (fun s n => if s.sourceRunning (0x20 + n) && s.pllUnused n then s.pllStop n else s) s

/-- FORCE: with RESET 1 the live selection is connected without a wait and HUNG clears; with RESET 0 it is ignored and
FORCE_REFUSED is set. A domain forced onto a source without edges stays stopped, without a hang (R491). -/
def Stack.domainForce (d : Nat) (s : Stack) : Stack :=
  if s.flag (CLK.DRST_RESET d) then
    let dead := !s.pllGives (pllOf d (s.get (CLK.SRC_SEL d)))
    let rest := s.clk.forced.filter (· != d)
    let t : Stack := { s with clk := { s.clk with forced := if dead then d :: rest else rest } }
    (((t.put (CLK.SRC_STAT_SEL d) (s.get (CLK.SRC_SEL d))).put (CLK.SRC_STAT_DIV d) (s.get (CLK.SRC_DIV d))).put
      (CLK.SRC_STAT_SWITCHING d) 0).put (CLK.SRC_STAT_HUNG d) 0
  else s.raise (CLK.DRST_FORCE_REFUSED d)

/-- USER_PLL_LOCK (R487): A user PLL locks after start or reconfiguration and becomes running. -/
def execUserPllLock (k : Side) (n : Nat) (s : State) : Host.Outcome State Fault Refusal := nextStack s k (Stack.userPllLock n)

/-- DOMAIN_FORCE (R491): CLK.DRST.FORCE connects the live selection and clears a hang, or sets FORCE_REFUSED. -/
def execDomainForce (k : Side) (d : Nat) (s : State) : Host.Outcome State Fault Refusal := nextStack s k (Stack.domainForce d)

/-! ## The house clock (R493 to R497) -/

/-- The fields of a HOUSE_REF word, KIND, INDEX and RASTER; the other bits read 0 (R5, R494, log 100). -/
def houseFields (v : Nat) : Nat := bits v 0 13 + 2 ^ 20 * bits v 20 2

/-- KIND of the house reference; values 5 to 15 act as 0 (R494). -/
def Stack.houseKind (s : Stack) : Nat := let k := bits (s.get CLK.HOUSE_CTL_REF) 0 4; if k < 5 then k else 0

/-- INDEX of the house reference: media port, lane or pin (R494). -/
def Stack.houseIndex (s : Stack) : Nat := bits (s.get CLK.HOUSE_CTL_REF) 4 9

/-- RASTER of the house reference (R494). -/
def Stack.houseRaster (s : Stack) : Nat := bits (s.get CLK.HOUSE_CTL_REF) 20 2

/-- A signed value saturated to 32 bits, as HOUSE_OFS holds it (R503). -/
def sat32 (x : Int) : Nat := wrapInt 32 (if x > 2 ^ 31 - 1 then 2 ^ 31 - 1 else if x < -(2 ^ 31) then -(2 ^ 31) else x)

/-- The servo's frequency correction after a measurement: free within ±200 ppm, and, while LOCKED, within 0.1 ppm a second of what
it was (R495); the spec gives no value (log 2). -/
def Stack.servoFreq (s : Stack) : Stack :=
  let old := signed (s.get CLK.HOUSE_FREQ_FREQ) 32
  let lim : Int := 13107200
  let free : Int := (s.freeNat : Int)
  let new := if s.get CLK.HOUSE_STAT_STATE = 2 then
      let dt := s.clk.up - (match s.clk.lastRef with
        | some t => t
        | Option.none => s.clk.up)
      let r : Int := ((6553 * dt / 1000000000 : Nat) : Int)
      old + (free % (2 * r + 1)) - r
    else free % (2 * lim + 1) - lim
  s.draw.put CLK.HOUSE_FREQ_FREQ (wrapInt 32 (max (-lim) (min lim new)))

/-- Whether an offset exceeds SERVO.STEP, in microseconds (R496). -/
def Stack.beyondStep (s : Stack) (ofs : Int) : Bool := decide ((ofs.natAbs : Nat) > 1000 * s.get CLK.SERVO_STEP)

/-- Device time stepped by a signed number of nanoseconds; it is 48 bits of seconds (R493). -/
def Stack.stepBy (s : Stack) (d : Int) : Stack := s.stepTime (((s.time : Int) + d) % (2 ^ 48 * 1000000000)).toNat

/-- The house clock's reference appears: HOLDOVER becomes ACQUIRING (R495). -/
def Stack.acquire (s : Stack) : Stack :=
  if s.get CLK.HOUSE_STAT_STATE = 0 then
    { s.put CLK.HOUSE_STAT_STATE 1 with clk := { s.clk with within := 0, beyond := 0, lastRef := Option.none } }
  else s

/-- A measurement of the offset of device time acts on the house clock (R495 to R497): HOUSE_OFS takes it; in HOLDOVER the clock
becomes ACQUIRING; the first measurement in ACQUIRING beyond STEP, or the eighth consecutive one, steps device time by the negated
offset, else the servo slews; the sixteenth consecutive one within LOCK_NS locks. -/
def Stack.measure (s : Stack) (ofs : Int) : Stack :=
  let first := s.clk.lastRef.isNone
  let s : Stack := s.acquire
  let s := s.put CLK.HOUSE_OFS_NS (sat32 ofs)
  let b := if s.beyondStep ofs then s.clk.beyond + 1 else 0
  let w := if ofs.natAbs ≤ s.get CLK.SERVO_LOCK_NS then s.clk.within + 1 else 0
  let step := (first && s.beyondStep ofs) || decide (8 ≤ b)
  let s : Stack := { s with clk := { s.clk with beyond := if step then 0 else b, within := w } }
  let s : Stack := if step then s.stepBy (-ofs) else s.servoFreq
  let s : Stack := { s with clk := { s.clk with
      lastRef := some s.clk.up
      freqs := (s.get CLK.HOUSE_FREQ_FREQ :: s.clk.freqs).take 16 } }
  if s.get CLK.HOUSE_STAT_STATE = 1 ∧ 16 ≤ w then (s.put CLK.HOUSE_STAT_STATE 2).raise CLK.INT_HOUSE_LOCK else s

/-- The nearest frame start of a raster: the offset of device time from it (R497). -/
def Stack.frameOffset (s : Stack) (r : Nat) : Int :=
  let f := s.frameAt r s.time
  let a : Int := (s.time : Int) - (s.positionTime r f 1 0 : Int)
  let b : Int := (s.time : Int) - (s.positionTime r (f + 1) 1 0 : Int)
  if a.natAbs ≤ b.natAbs then a else b

/-- A frame start of the house reference, when its raster runs: a measurement (R497). -/
def Stack.frameMeasure (s : Stack) : Stack :=
  if s.rasterRunning s.houseRaster ∧ s.clk.started = true then s.measure (s.frameOffset s.houseRaster) else s

/-- PTP measurements accepted in the second of device time that ends now (R496). -/
def Stack.recentPtp (s : Stack) : List Nat := s.clk.accepted.filter fun t => decide (s.time < t + 1000000000) && decide (t ≤ s.time)

/-- PTP_CTL.GO (R496). -/
def Stack.ptpMeasurement (s : Stack) : Stack :=
  if s.houseKind ≠ 1 ∨ s.clk.started = false then s.raise CLK.PTP_CTL_IGNORED
  else if 128 ≤ s.recentPtp.length then s.raise CLK.PTP_CTL_OVERRUN
  else
    let ofs := signed (s.get CLK.PTP_OFS_LO_OFS + 2 ^ 32 * s.get CLK.PTP_OFS_HI_OFS) 64
    ({ s with clk := { s.clk with accepted := s.time :: s.recentPtp } } : Stack).measure ofs

/-- The frequency averaged over the last sixteen measurements, in the steps of HOUSE_FREQ, rounded down (R495, log 2). -/
def Stack.averageFreq (s : Stack) : Nat :=
  let l := s.clk.freqs
  if l = [] then s.get CLK.HOUSE_FREQ_FREQ
  else wrapInt 32 ((l.foldl (fun (a : Int) v => a + signed v 32) 0).fdiv (l.length : Int))

/-- The house clock goes to HOLDOVER from ACQUIRING or LOCKED: HOUSE_HOLDOVER raised, and device time goes on at the averaged frequency
(R495). -/
def Stack.holdover (s : Stack) : Stack :=
  if s.get CLK.HOUSE_STAT_STATE = 0 then s
  else
    let t := ((s.put CLK.HOUSE_STAT_STATE 0).raise CLK.INT_HOUSE_HOLDOVER).put CLK.HOUSE_FREQ_FREQ s.averageFreq
    { t with clk := { t.clk with within := 0, beyond := 0, lastRef := Option.none } }

/-- When a reference counts as lost: LOSS milliseconds, 0 acting as 3,000, after the last PTP measurement; two frame periods after the last GPIO
edge (R495, R503). -/
def Stack.lossDue (s : Stack) : Nat :=
  match s.clk.lastRef with
  | Option.none => s.clk.up
  | some t =>
    if s.houseKind = 1 then t + 1000000 * (let v := s.get CLK.SERVO2_LOSS; if v = 0 then 3000 else v)
    else if s.houseKind = 3 then t + 2 * (1000000000 * s.get (CLK.RAS_RATE_DEN s.houseRaster) / Nat.max 1 (s.get (CLK.RAS_RATE_NUM s.houseRaster)))
    else s.clk.up

/-- The reference is lost: the moment is then that of the loss (R495, log 60). -/
def Stack.referenceLoss (s : Stack) : Stack := if s.get CLK.HOUSE_STAT_STATE = 0 then s else (s.elapse s.lossDue).holdover

/-- A write to HOUSE_CTL: HOLDOVER, then the new reference is acquired; the bits that hold no field read 0 (R5, R494). -/
def Stack.houseCtl (v : Nat) (s : Stack) : Stack :=
  let t := s.holdover.put CLK.HOUSE_CTL_REF (houseFields v)
  { t with clk := { t.clk with within := 0, beyond := 0, lastRef := Option.none } }

/-- TIME_CTL.SET: device time steps to TIME_SET; refused while KIND is 1 and before device time has started (R497, log 121). -/
def Stack.timeSet (s : Stack) : Stack :=
  if s.houseKind = 1 ∨ s.clk.started = false then s.raise CLK.TIME_CTL_REFUSED
  else s.stepTime ((s.get CLK.TIME_SET_S_SET + 2 ^ 32 * s.get CLK.TIME_SET_S_HI_SET) * 1000000000 + s.get CLK.TIME_SET_NS_SET)

/-- PTP_MEASUREMENT (R496): PTP_CTL.GO submits a PTP offset that the house servo acts on, or ignores. -/
def execPtpMeasurement (k : Side) (s : State) : Host.Outcome State Fault Refusal := nextStack s k Stack.ptpMeasurement

/-- REFERENCE_LOSS (R495): No reference measurement or edge arrives for the loss time, and the house clock goes to HOLDOVER. -/
def execReferenceLoss (k : Side) (s : State) : Host.Outcome State Fault Refusal := nextStack s k Stack.referenceLoss

/-- HOUSE_CTL_WRITE (R494): A write to HOUSE_CTL moves the house clock to HOLDOVER and selects a new reference. -/
def execHouseCtlWrite (k : Side) (v : Nat) (s : State) : Host.Outcome State Fault Refusal := nextStack s k (Stack.houseCtl v)

/-- TIME_SET (R497): TIME_CTL.SET steps device time to TIME_SET, or is refused. -/
def execTimeSet (k : Side) (s : State) : Host.Outcome State Fault Refusal := nextStack s k Stack.timeSet

/-! ## Rasters (R499, R500) -/

/-- The checks of R500 on a raster's registers, and that device time has started. -/
def Stack.rasterOk (s : Stack) (n : Nat) : Bool :=
  let num := s.get (CLK.RAS_RATE_NUM n); let den := s.get (CLK.RAS_RATE_DEN n)
  den != 0 && decide (24000 * den ≤ 1001 * num) && decide (num ≤ 120 * den) && decide (1 ≤ s.get (CLK.RAS_GEOM_LINES n)) &&
  decide (1 ≤ s.get (CLK.RAS_GEOM_SAMPLES n)) && decide (s.get (CLK.RAS_OFS_NS n) * num < 1000000000 * den) && s.clk.started

/-- ENABLE 1 written: the raster runs, or BAD is set and ENABLE stays 0 (R500). -/
def Stack.rasterEnable (n : Nat) (s : Stack) : Stack :=
  if s.rasterRunning n then s
  else if s.rasterOk n then s.put (CLK.RAS_CTL_ENABLE n) 1
  else s.raise (CLK.RAS_CTL_BAD n)

/-- ENABLE cleared: the raster stops; a turn placed on it follows R243 or R250 (R500). -/
def Stack.rasterDisable (n : Nat) (s : Stack) : Stack :=
  if s.rasterRunning n then (s.put (CLK.RAS_CTL_ENABLE n) 0).rasterStopped n else s

/-- RASTER_ENABLE (R500): Writing RAS_CTL.ENABLE 1 starts a raster after checks, or sets BAD. -/
def execRasterEnable (k : Side) (n : Nat) (s : State) : Host.Outcome State Fault Refusal := nextStack s k (Stack.rasterEnable n)

/-- RASTER_DISABLE (R500): Clearing RAS_CTL.ENABLE stops a raster. -/
def execRasterDisable (k : Side) (n : Nat) (s : State) : Host.Outcome State Fault Refusal := nextStack s k (Stack.rasterDisable n)

/-! ## Frequency meter (R501) -/

/-- Whether the reference of the meter has edges: a monitored source by its MON_RUN bit, a user domain by its connected clock, a system domain
of the build wherever R502 has it run (R485, R501). -/
def Stack.meterRuns (s : Stack) (n : Nat) : Bool :=
  if n < 0x40 then s.sourceRunning n
  else if n < 0x50 ∧ s.mode = .siesta then n == 0x40 || n == 0x41 || n == 0x43 || n == 0x47
  else if n < 0x50 then (n < 0x47 || (n == 0x47 && s.clk.started) || (0x48 ≤ n && n < 0x48 + s.build.layers) || (0x4C ≤ n && n < 0x4C + s.build.layers))
  else decide (n < 0x50 + 8 * s.build.layers) && s.domainRunning (n - 0x40)

/-- FM_CTL.GO: TARGET and REF are held and a window starts; while BUSY the GO is ignored (R501). -/
def Stack.meterGo (target ref : Nat) (s : Stack) : Stack :=
  let t := (s.put CLK.FM_CTL_TARGET target).put CLK.FM_CTL_REF ref
  if s.flag CLK.FM_STAT_BUSY then t
  else { ((t.put CLK.FM_STAT_BUSY 1).put CLK.FM_STAT_OVF 0).put CLK.FM_STAT_DEAD 0 with clk := { t.clk with meterRef := ref % 128 } }

/-- The window ends with a count of edges: FM_RES takes it, or 0xFFFF_FFFF with OVF when it saturates; DEAD when the reference is
dead; FM_DONE set (R501). -/
def Stack.meterDone (edges : Nat) (s : Stack) : Stack :=
  if s.flag CLK.FM_STAT_BUSY then
    let sat := decide (2 ^ 32 - 1 ≤ edges)
    let t := (s.put CLK.FM_RES_COUNT (if sat then 0xFFFFFFFF else edges)).put CLK.FM_STAT_OVF (b2n sat)
    ((t.put CLK.FM_STAT_DEAD (b2n !(s.meterRuns s.clk.meterRef))).put CLK.FM_STAT_BUSY 0).raise CLK.INT_FM_DONE
  else s

/-- FREQUENCY_METER (R501): FM_CTL.GO starts a frequency-meter window. -/
def execFrequencyMeter (k : Side) (target ref : Nat) (s : State) : Host.Outcome State Fault Refusal :=
  nextStack s k (Stack.meterGo target ref)

/-- FREQUENCY_METER_DONE (R501): A frequency-meter window ends, and the count is written. -/
def execFrequencyMeterDone (k : Side) (edges : Nat) (s : State) : Host.Outcome State Fault Refusal :=
  nextStack s k (Stack.meterDone edges)

end Sys2Proof.Machine
end

