-- ==== Sys2Proof/Machine/Dma.lean ====
section
/-! DEFINITION. The DMA engine: lists, groups, reshaping and the channel states (R389 to R401). -/

namespace Sys2Proof.Machine

/-- A channel's own state. -/
def Stack.chan (s : Stack) (n : Nat) : DmaChan := mapGet {} s.dma n

/-- A channel's own state replaced. -/
def Stack.setChan (s : Stack) (n : Nat) (c : DmaChan) : Stack := { s with dma := mapSet {} s.dma n c }

/-- CUR of a channel as a device address (R401). -/
def Stack.dmaCur (s : Stack) (n : Nat) : Nat := s.get (DMA.CUR_LO_ADDR n) + 2 ^ 32 * s.get (DMA.CUR_HI_ADDR n)

/-- CUR of a channel written. -/
def Stack.setDmaCur (s : Stack) (n a : Nat) : Stack := (s.put (DMA.CUR_LO_ADDR n) a).put (DMA.CUR_HI_ADDR n) (a / 2 ^ 32)

/-- A bit of a PEND register set. -/
def Stack.pend (s : Stack) (f : Field) (n : Nat) : Stack := s.put f (setBit (s.get f) n true)

/-! ## Requests of the engine at base stop 10 (R308, R395) -/

/-- Whole blocks read: status and bytes; `ext` is the status of a request that its target does not answer itself (a timeout, or a design
behind a fabric stop, which gives `data`). -/
def Stack.dmaRead (s : Stack) (addr blocks ext : Nat) (data : List Nat) : Stack × Nat × List Nat :=
  let h : Header := { src := 10, tag := 0, rlen := blocks, addr := addr }
  if s.interfaceError 1 h then (s, 1, [])
  else if ext ≠ 0 then (s, ext, [])
  else
    let t := s.ringRead h
    let r := t.answer
    let t := { t with answer := s.answer }
    if r.status = noAnswer then (t, 0, data) else (t, r.status, r.data)

/-- Bytes written through whole blocks with byte enables: status (R395). -/
def Stack.dmaWrite (s : Stack) (addr : Nat) (bytes : List Nat) (ext : Nat) : Stack × Nat :=
  let lead := addr % 64
  let n := (lead + bytes.length + 63) / 64
  let en := fun a b => (2 ^ b - 1) / 2 ^ a * 2 ^ a
  let tail := (lead + bytes.length - 1) % 64 + 1
  let whole := List.replicate lead 0 ++ bytes ++ List.replicate (64 * n - lead - bytes.length) 0
  let first := if n = 1 then en lead tail else en lead 64
  let h : Header := { src := 10, tag := 0, len := n, addr := addr - lead, beFirst := first, beLast := en 0 tail }
  if s.interfaceError 2 h then (s, 1)
  else if ext ≠ 0 then (s, ext)
  else
    let r := s.writeTarget h whole 0
    let t := { r.1 with answer := s.answer }
    (t, if r.2 = noAnswer then 0 else r.2)

/-! ## Lists (R389 to R391) -/

/-- An entry from its 16 bytes (R390). -/
def dmaEntry (a : Nat) (b : List Nat) : DmaEntry :=
  let v := b.foldr (fun x acc => x + 256 * acc) 0
  ⟨a, bits v 0 48, bit v 48, bit v 49, bit v 50, bit v 51, bits v 52 4, bits v 64 24, bits v 88 8,
    bits v 56 8 != 0 || bits v 96 24 != 0⟩

/-- A group read from an address, at most `n` entries: the entries, or the first status that is not OK (R389, R397). -/
def Stack.readGroup (s : Stack) : Nat → Nat → Stack × Nat × List DmaEntry
  | 0, _ => (s, 0, [])
  | n + 1, a =>
    let r := s.dmaRead (a / 64 * 64) 1 0 []
    if r.2.1 ≠ 0 then (r.1, r.2.1, [])
    else
      let e := dmaEntry a ((r.2.2.drop (a % 64)).take 16)
      if e.last then (r.1, 0, [e])
      else
        let q := r.1.readGroup n (a + 16)
        (q.1, q.2.1, e :: q.2.2)

/-- The source entries of a group, or its destination entries, in list order. -/
def dmaSide (l : List DmaEntry) (dest : Bool) : List DmaEntry := l.filter fun e => e.dest == dest

/-- Total bytes of entries. -/
def dmaTotal (l : List DmaEntry) : Nat := (l.map (·.len)).foldl (· + ·) 0

/-- Bits of a sample in a PLANE container (R393). -/
def containerBits (c : Nat) : Nat := if c = 0 then 14 else if c = 1 then 10 else 12

/-- What a packed length must be a multiple of (R393). -/
def planeUnit (c : Nat) (full : Bool) : Nat :=
  if full then (if c = 0 then 192 else if c = 1 then 15 else 9) else (if c = 0 then 64 else if c = 1 then 20 else 12)

/-- Whether the three planes have the lengths of a packed stream (R393). -/
def planeLengths (packed : Nat) (full : Bool) : List Nat :=
  if full then [packed / 3, packed / 3, packed / 3] else [packed / 2, packed / 4, packed / 4]

/-- Whether entries suit an AUD operation: one side a single entry, the other N entries of L bytes, L a multiple of E (R391). -/
def audFits (one many : List DmaEntry) (param : Nat) : Bool :=
  let l := (many.head?.map (·.len)).getD 0
  one.length == 1 && decide (1 ≤ many.length) && decide (many.length ≤ 64) && many.all (fun e => e.len == l) &&
    l % (param % 8 + 1) == 0 && dmaTotal one == many.length * l && decide (param < 8)

/-- Whether entries suit a PLANE operation (R391, R393). -/
def planeFits (one three : List DmaEntry) (param : Nat) : Bool :=
  let full := bit param 2
  one.length == 1 && decide (param < 8) && decide (param % 4 < 3) && dmaTotal one % planeUnit (param % 4) full == 0 &&
    three.map (·.len) == planeLengths (dmaTotal one) full

/-- Whether entries suit a BIT operation (R391). -/
def bitFits (one many : List DmaEntry) (param : Nat) : Bool :=
  one.length == 1 && many.length == 14 && dmaTotal one % 128 == 0 && many.all (fun e => e.len == dmaTotal one * 9 / 128) && param == 0

/-- Whether a group is a LINK (R391). -/
def dmaLink (l : List DmaEntry) : Bool := (l.head?.map (·.op)).getD 0 == 0xF

/-- Whether a group keeps R389 to R393; otherwise it ends with FORMAT (R394). -/
def dmaFormat (l : List DmaEntry) : Bool :=
  match l with
  | [] => false
  | e :: _ =>
    let src := dmaSide l false; let dst := dmaSide l true
    (l.getLast?.map (·.last)).getD false && l.all (fun x => !x.reserved) &&
    (if e.op = 0xF then l.length == 1 && e.len == 0 && e.param == 0 && e.addr % 16 == 0
     else
      l.all (fun x => x.len != 0) &&
      (match e.op with
       | 0 => !src.isEmpty && !dst.isEmpty && dmaTotal src == dmaTotal dst && e.param == 0
       | 1 => audFits src dst e.param
       | 2 => audFits dst src e.param
       | 3 => planeFits src dst e.param
       | 4 => planeFits dst src e.param
       | 5 => bitFits src dst e.param
       | 6 => bitFits dst src e.param
       | _ => false))

/-- Whether the ranges of two entries overlap, judged on locations (R396). -/
def dmaOverlap (a b : DmaEntry) : Bool :=
  let x := a.addr % 2 ^ 44; let y := b.addr % 2 ^ 44
  decide (x < y + b.len) && decide (y < x + a.len)

/-- Whether two destination ranges of a list overlap. -/
def dmaSelfOverlap : List DmaEntry → Bool
  | [] => false
  | e :: t => t.any (dmaOverlap e) || dmaSelfOverlap t

/-- What R396 makes of a group: 0 no overlap, 1 or 2 an overlapping COPY in ascending or descending order, 3 BAD with OVERLAP. -/
def dmaOverlaps (l : List DmaEntry) : Nat :=
  let src := dmaSide l false; let dst := dmaSide l true
  let cross := src.any fun a => dst.any (dmaOverlap a)
  let copy := (l.head?.map (·.op)).getD 0 == 0
  match copy, src, dst with
  | true, [a], [b] => if cross then (if a.addr % 2 ^ 44 < b.addr % 2 ^ 44 then 2 else 1) else 0
  | true, _, _ => if cross then 3 else 0
  | false, _, _ => if cross || dmaSelfOverlap dst then 3 else 0

/-! ## Reshaping (R392) -/

/-- The bytes of the entries before an entry of one side: where its bytes begin in that side's stream. -/
def dmaBase (l : List DmaEntry) (i : Nat) : Nat := dmaTotal (l.take i)

/-- Byte and bit of bit b of sample x in a container (R102, R393). -/
def sampleBit (c x b : Nat) : Nat × Nat :=
  if c = 0 then let p := 14 * (x % 9) + b; (16 * (x / 9) + p / 8, p % 8)
  else let w := containerBits c; let p := w * x + (w - 1 - b); (p / 8, 7 - p % 8)

/-- Sample and bit that bit i of byte o of a container holds: none for a spare bit. -/
def bitSample (c o i : Nat) : Option (Nat × Nat) :=
  if c = 0 then
    let p := 8 * (o % 16) + i
    if 126 ≤ p then Option.none else some (9 * (o / 16) + p / 14, p % 14)
  else
    let w := containerBits c; let p := 8 * o + (7 - i)
    some (p / w, w - 1 - p % w)

/-- Stream index of sample m of plane d: Y 0, Cb 1, Cr 2 (R392). -/
def planeToStream (full : Bool) (d m : Nat) : Nat :=
  if full then (if d = 0 then 3 * m + 1 else if d = 1 then 3 * m else 3 * m + 2)
  else (if d = 0 then 2 * m + 1 else if d = 1 then 4 * m else 4 * m + 2)

/-- Plane and index of stream sample x. -/
def streamToPlane (full : Bool) (x : Nat) : Nat × Nat :=
  if full then (if x % 3 = 1 then 0 else if x % 3 = 0 then 1 else 2, x / 3)
  else if x % 2 = 1 then (0, x / 2) else (if x % 4 = 0 then 1 else 2, x / 4)

/-- Where bit i of byte o of destination d of a group comes from: a byte of the source stream and its bit; none is written as 0
(R391, R392). -/
def dmaSource (l : List DmaEntry) (d o i : Nat) : Option (Nat × Nat) :=
  let op := (l.head?.map (·.op)).getD 0; let param := (l.head?.map (·.param)).getD 0
  let src := dmaSide l false; let dst := dmaSide l true
  let e := param % 8 + 1; let c := param % 4; let full := bit param 2
  match op with
  | 1 => some ((dst.length * (o / e) + d) * e + o % e, i)
  | 2 => let q := o / e; some (dmaBase src (q % src.length) + q / src.length * e + o % e, i)
  | 3 => (bitSample c o i).map fun p => sampleBit c (planeToStream full d p.1) p.2
  | 4 => (bitSample c o i).map fun p =>
      let q := streamToPlane full p.1
      let r := sampleBit c q.2 p.2
      (dmaBase src q.1 + r.1, r.2)
  | 5 => some (sampleBit 0 (8 * o + i) d)
  | 6 => (bitSample 0 o i).map fun p => (dmaBase src p.2 + p.1 / 8, p.1 % 8)
  | _ => some (dmaBase dst d + o, i)

/-- A byte of a destination from the bytes read. -/
def dmaByte (c : DmaChan) (d o : Nat) : Nat :=
  (List.range 8).foldl (fun acc i =>
    match dmaSource c.entries d o i with
    | some (x, b) => acc + (if bit (mapGet 0 c.buf x) b then 2 ^ i else 0)
    | Option.none => acc) 0

/-! ## Requests of a group (R395) -/

/-- Pieces of an entry: its range is split at 1 KiB boundaries (R395). -/
def dmaPieces (e : DmaEntry) : Nat := if e.len = 0 then 0 else (e.addr + e.len - 1) / 1024 - e.addr / 1024 + 1

/-- Offset in the entry and length of a piece. -/
def dmaPiece (e : DmaEntry) (p : Nat) : Nat × Nat :=
  let lo := Nat.max e.addr (1024 * (e.addr / 1024 + p))
  let hi := Nat.min (e.addr + e.len) (1024 * (e.addr / 1024 + p + 1))
  (lo - e.addr, hi - lo)

/-- Key of a piece of an entry in the list of answered requests. -/
def pieceKey (i p : Nat) : Nat := 32768 * i + p

/-- Whether a piece has been answered. -/
def DmaChan.done (c : DmaChan) (i p : Nat) : Bool := mapGet false c.answered (pieceKey i p)

/-- Index of an entry among the entries of its side. -/
def dmaOrdinal (l : List DmaEntry) (i : Nat) : Nat := (dmaSide (l.take i) ((l.getD i (dmaEntry 0 [])).dest)).length

/-- Whether the byte at an offset of the source stream has been read. -/
def DmaChan.hasByte (c : DmaChan) (x : Nat) : Bool :=
  (List.range c.entries.length).any fun i =>
    let e := c.entries.getD i (dmaEntry 0 [])
    let b := dmaBase (dmaSide c.entries false) (dmaOrdinal c.entries i)
    !e.dest && decide (b ≤ x) && decide (x < b + e.len) && c.done i ((e.addr + (x - b)) / 1024 - e.addr / 1024)

/-- Whether the source bytes of a destination piece have all been read, and, in an overlapping COPY, the pieces before it in its order
have been written and the bytes that it overwrites have been read (R396). -/
def DmaChan.mayWrite (c : DmaChan) (i p : Nat) : Bool :=
  let e := c.entries.getD i (dmaEntry 0 [])
  let r := dmaPiece e p
  let d := dmaOrdinal c.entries i
  ((List.range r.2).all fun o => (List.range 8).all fun b =>
    match dmaSource c.entries d (r.1 + o) b with
    | some (x, _) => c.hasByte x
    | Option.none => true) &&
  (c.overlap == 0 ||
    (let src := (dmaSide c.entries false).headD e
     ((List.range (dmaPieces e)).all fun q => (if c.overlap = 1 then p ≤ q else q ≤ p) || c.done i q) &&
     ((List.range r.2).all fun o =>
       let a := e.addr % 2 ^ 44 + r.1 + o; let x := src.addr % 2 ^ 44
       if x ≤ a ∧ a < x + src.len then c.hasByte (a - x) else true)))

/-- Whether every request of a group has been answered. -/
def DmaChan.moved (c : DmaChan) : Bool :=
  (List.range c.entries.length).all fun i => (List.range (dmaPieces (c.entries.getD i (dmaEntry 0 [])))).all (c.done i)

/-- Whether an entry of the group has failed. -/
def DmaChan.failed (c : DmaChan) : Bool := !c.status.isEmpty

/-! ## Channel states (R397, R398) -/

/-- A channel goes Idle: DONE_PEND is set (R398, R400). -/
def Stack.dmaIdle (s : Stack) (n : Nat) : Stack := ((s.put (DMA.STATE_STATE n) 0).setChan n {}).pend DMA.DONE_PEND_PEND n

/-- A channel halts with a cause (R397, R398). -/
def Stack.dmaHalt (s : Stack) (n cause : Nat) : Stack :=
  ((s.put (DMA.STATE_STATE n) 4).put (DMA.STATE_CAUSE n) cause).pend DMA.HALT_PEND_PEND n

/-- STATUS bytes of entries written back: status of the first write that is not OK (R394, R397). -/
def Stack.dmaWriteBack (s : Stack) : List (DmaEntry × Nat) → Stack × Nat
  | [] => (s, 0)
  | (e, v) :: t =>
    let r := s.dmaWrite (e.at_ + 15) [v] 0
    if r.2 ≠ 0 then r else r.1.dmaWriteBack t

/-- A BAD, FORMAT or OVERLAP entry: the group counts as failed and ERR_PEND is set (R400, R401). -/
def Stack.dmaFailed (s : Stack) (n : Nat) : Stack := (s.bump (DMA.GROUPS_FAILED n)).pend DMA.ERR_PEND_PEND n

/-- The group after the current one, or Idle after a group with END (R398); a LINK names the next entry and its END is ignored
(R391). -/
def Stack.dmaNext (s : Stack) (n : Nat) (link : Option Nat) : Stack :=
  let c := s.chan n
  match link with
  | some a => (s.setDmaCur n a).setChan n { stopCmd := c.stopCmd }
  | Option.none =>
    if !dmaLink c.entries && c.entries.any (·.finish) then
      let t := s.dmaIdle n
      if c.stopCmd then t.put DMA.CMD_STATUS_BUSY 0 else t
    else (s.setDmaCur n c.next).setChan n { stopCmd := c.stopCmd }

/-- A Running channel has read the group at CUR and checks it (R389 to R391, R396, R397). -/
def Stack.dmaGroupRead (n : Nat) (s : Stack) : Stack :=
  let c := s.chan n
  if s.dmaState n ≠ 1 ∨ c.entries ≠ [] then s
  else
    let a := s.dmaCur n
    let r := s.readGroup 65 a
    let t := r.1
    if r.2.1 ≠ 0 then t.dmaHalt n 0x40
    else
      let l := r.2.2
      let lap := dmaOverlaps l
      let st := if !dmaFormat l then [(0, 0x20)]
        else if lap = 3 ∧ !dmaLink l then ((List.range l.length).filter fun i => !(l.getD i (dmaEntry 0 [])).dest).map fun i => (i, 0x21)
        else []
      t.setChan n { entries := l, next := (a + 16 * l.length) % 2 ^ 48, status := st, overlap := if lap = 3 then 0 else lap }

/-- Requests that a channel may hold in flight: OUTSTANDING, 0 and values above 32 acting as 32 (R395, R401). -/
def Stack.dmaLimit (s : Stack) (n : Nat) : Nat :=
  let v := s.get (DMA.LIMIT_OUTSTANDING n)
  if v = 0 ∨ 32 < v then 32 else v

/-- Whether a response to a channel can arrive: it is Running, or Stopping and not all that it may hold in flight has come. An overlapping
COPY still issues requests while Stopping (R395, R398). -/
def Stack.dmaAwaits (s : Stack) (n : Nat) : Bool :=
  s.dmaState n == 1 || (s.dmaState n == 2 && ((s.chan n).overlap != 0 || decide ((s.chan n).late < s.dmaLimit n)))

/-- A response to a data request of entry i arrives: piece p is read or written, or the entry is BAD (R395 to R397). -/
def Stack.dmaResponse (n i p ext : Nat) (data : List Nat) (s : Stack) : Stack :=
  let c := s.chan n
  let e := c.entries.getD i (dmaEntry 0 [])
  if !s.dmaAwaits n ∨ c.entries.length ≤ i ∨ c.failed ∨ dmaPieces e ≤ p ∨ c.done i p then s
  else
    let c := if s.dmaState n = 2 then { c with late := c.late + 1 } else c
    let q := dmaPiece e p
    let a := e.addr + q.1
    if e.dest then
      if !c.mayWrite i p then s
      else
        let d := dmaOrdinal c.entries i
        let r := s.dmaWrite a ((List.range q.2).map fun o => dmaByte c d (q.1 + o)) ext
        if r.2 = 0 then
          (r.1.bumpWrap (DMA.BYTES_COUNT n) q.2).setChan n { c with answered := mapSet false c.answered (pieceKey i p) true }
        else r.1.setChan n { c with status := [(i, 0x10 + r.2)] }
    else
      let r := s.dmaRead (a / 64 * 64) ((a % 64 + q.2 + 63) / 64) ext data
      if r.2.1 = 0 then
        let base := dmaBase (dmaSide c.entries false) (dmaOrdinal c.entries i) + q.1
        let got := (r.2.2.drop (a % 64)).take q.2
        r.1.setChan n { c with
          answered := mapSet false c.answered (pieceKey i p) true
          buf := putWords c.buf base got }
      else
        let t := r.1.setChan n { c with status := [(i, 0x10 + r.2.1)] }
        if (r.2.1 = 3 ∨ r.2.1 = 4) ∧ s.dmaState n = 1 then
          let w := t.dmaWriteBack [(e, 0x10 + r.2.1)]
          let t := (w.1.dmaFailed n).dmaHalt n (0x10 + r.2.1)
          if w.2 ≠ 0 then t.dmaHalt n 0x41 else t
        else t

/-- The statuses of a finished group: DONE, or the statuses of the failed entries with SKIPPED for the others (R394, R397). -/
def DmaChan.statuses (c : DmaChan) : List (DmaEntry × Nat) :=
  (List.range c.entries.length).map fun i =>
    (c.entries.getD i (dmaEntry 0 []), if c.failed then mapGet 0x22 c.status i else 0x01)

/-- A group's data has moved, or the group has failed: its STATUS bytes are written back, and the channel goes on (R389, R394, R397,
R398). A Stopping channel completes only an overlapping COPY. -/
def Stack.dmaGroupComplete (n : Nat) (s : Stack) : Stack :=
  let c := s.chan n
  let may := s.dmaState n = 1 ∨ (s.dmaState n = 2 ∧ c.overlap ≠ 0 ∧ !c.failed)
  if !may ∨ c.entries = [] ∨ (!c.failed ∧ !c.moved) then s
  else
    let w := s.dmaWriteBack c.statuses
    if w.2 ≠ 0 then (if c.failed then w.1.dmaFailed n else w.1).dmaHalt n 0x41
    else if c.failed then (w.1.dmaFailed n).dmaNext n Option.none
    else
      let t := w.1.bump (DMA.GROUPS_DONE n)
      let t := if c.entries.any (·.int) then t.pend DMA.DONE_PEND_PEND n else t
      t.dmaNext n (if dmaLink c.entries then c.entries.head?.map (·.addr) else Option.none)

/-- Every outstanding response of a Stopping channel has arrived: it is Stopped, and no STATUS byte of the group is written (R398). An
overlapping COPY first completes. -/
def Stack.dmaStopped (n : Nat) (s : Stack) : Stack :=
  let c := s.chan n
  if s.dmaState n ≠ 2 ∨ (c.overlap ≠ 0 ∧ !c.failed) then s
  else
    let t := (s.put (DMA.STATE_STATE n) 3).setChan n { c with stopCmd := false, status := [] }
    if c.stopCmd then t.put DMA.CMD_STATUS_BUSY 0 else t

/-! ## Commands (R398 to R400) -/

/-- A DMA command written with GO: while BUSY it sets OVERRUN and is ignored; the first refusal, lowest code first, is RESULT
(R400). -/
def Stack.dmaCommand (s : Stack) (n op : Nat) (refusals : List (Bool × Nat)) (effect : Stack → Stack) : Stack :=
  let t := (s.put DMA.CMD_CHANNEL n).put DMA.CMD_OP op
  if s.flag DMA.CMD_STATUS_BUSY then s.raise DMA.CMD_STATUS_OVERRUN
  else match refusals.find? (·.1) with
    | some r => t.put DMA.CMD_STATUS_RESULT r.2
    | Option.none => effect (t.put DMA.CMD_STATUS_RESULT 0)

/-- Whether a channel is Stopped or Halted. -/
def Stack.dmaAtRest (s : Stack) (n : Nat) : Bool := s.dmaState n == 3 || s.dmaState n == 4

/-- OP 0 or 6 to 15: nothing but the fields (R400). -/
def Stack.dmaNone (n op : Nat) (s : Stack) : Stack := s.dmaCommand n op [] id

/-- START: an Idle channel runs at LIST (R398 to R401). -/
def Stack.dmaStart (n : Nat) (s : Stack) : Stack :=
  s.dmaCommand n 1 [(s.dmaState n != 0, 1), (!s.modeIn [.day, .workshop], 2), (s.get (DMA.LIST_LO_ADDR n) % 16 != 0, 3)] fun t =>
    let t := (t.put (DMA.STATE_STATE n) 1).setDmaCur n (s.get (DMA.LIST_LO_ADDR n) + 2 ^ 32 * s.get (DMA.LIST_HI_ADDR n))
    (((t.put (DMA.BYTES_COUNT n) 0).put (DMA.GROUPS_DONE n) 0).put (DMA.GROUPS_FAILED n) 0).setChan n {}

/-- STOP: a Running channel is Stopping, BUSY until it is Stopped (R398, R400). -/
def Stack.dmaStop (n : Nat) (s : Stack) : Stack :=
  s.dmaCommand n 2 [(s.dmaState n != 1, 1)] fun t =>
    ((t.put (DMA.STATE_STATE n) 2).setChan n { t.chan n with stopCmd := true }).raise DMA.CMD_STATUS_BUSY

/-- RESUME: the group at CUR runs again from its start (R398, R399). -/
def Stack.dmaResume (n : Nat) (s : Stack) : Stack :=
  s.dmaCommand n 3 [(!s.dmaAtRest n, 1), (!s.modeIn [.day, .workshop], 2)] fun t => (t.put (DMA.STATE_STATE n) 1).setChan n {}

/-- SKIP: the group at CUR is marked SKIPPED, except for an entry already BAD, and the next follows (R398). A group that could not be
read is read again first. -/
def Stack.dmaSkip (n : Nat) (s : Stack) : Stack :=
  s.dmaCommand n 4 [(!s.dmaAtRest n, 1)] fun t =>
    let r := if (t.chan n).entries = [] then t.readGroup 65 (t.dmaCur n) else (t, 0, (t.chan n).entries)
    if r.2.1 ≠ 0 then r.1.dmaHalt n 0x40
    else
      let st := (t.chan n).status
      let bad := (List.range r.2.2.length).filter fun i => let v := mapGet 0 st i; !(0x11 ≤ v && v ≤ 0x19)
      let w := r.1.dmaWriteBack (bad.map fun i => (r.2.2.getD i (dmaEntry 0 []), 0x22))
      if w.2 ≠ 0 then w.1.dmaHalt n 0x41
      else
        let u := w.1.setChan n { entries := r.2.2, next := (t.dmaCur n + 16 * r.2.2.length) % 2 ^ 48 }
        (u.put (DMA.STATE_STATE n) 1).dmaNext n Option.none

/-- RESET: a Stopped or Halted channel is Idle, its counters kept (R398). -/
def Stack.dmaReset (n : Nat) (s : Stack) : Stack := s.dmaCommand n 5 [(!s.dmaAtRest n, 1)] fun t => t.dmaIdle n

/-- DMA_NONE (R400): A DMA.CMD with OP 0 or 6 to 15 does nothing. -/
def execDmaNone (k : Side) (n op : Nat) (s : State) : Host.Outcome State Fault Refusal := nextStack s k (Stack.dmaNone n op)

/-- DMA_START (R398): The START command makes an Idle channel Running at LIST. -/
def execDmaStart (k : Side) (n : Nat) (s : State) : Host.Outcome State Fault Refusal := nextStack s k (Stack.dmaStart n)

/-- DMA_STOP (R398): The STOP command makes a Running channel Stopping. -/
def execDmaStop (k : Side) (n : Nat) (s : State) : Host.Outcome State Fault Refusal := nextStack s k (Stack.dmaStop n)

/-- DMA_RESUME (R398): The RESUME command reruns the group at CUR of a Stopped or Halted channel. -/
def execDmaResume (k : Side) (n : Nat) (s : State) : Host.Outcome State Fault Refusal := nextStack s k (Stack.dmaResume n)

/-- DMA_SKIP (R398): The SKIP command marks the group at CUR SKIPPED and goes on with the next. -/
def execDmaSkip (k : Side) (n : Nat) (s : State) : Host.Outcome State Fault Refusal := nextStack s k (Stack.dmaSkip n)

/-- DMA_RESET (R398): The RESET command makes a Stopped or Halted channel Idle. -/
def execDmaReset (k : Side) (n : Nat) (s : State) : Host.Outcome State Fault Refusal := nextStack s k (Stack.dmaReset n)

/-- DMA_GROUP_READ (R389): A channel has read a whole group, checks it and starts its data requests. -/
def execDmaGroupRead (k : Side) (n : Nat) (s : State) : Host.Outcome State Fault Refusal := nextStack s k (Stack.dmaGroupRead n)

/-- DMA_DATA_RESPONSE (R397): A response to a channel's data request arrives and may mark entries BAD or halt the channel. -/
def execDmaDataResponse (k : Side) (n i p ext : Nat) (data : List Nat) (s : State) : Host.Outcome State Fault Refusal :=
  nextStack s k (Stack.dmaResponse n i p ext data)

/-- DMA_GROUP_COMPLETE (R389): A group's data has moved, and its status bytes are written back. -/
def execDmaGroupComplete (k : Side) (n : Nat) (s : State) : Host.Outcome State Fault Refusal := nextStack s k (Stack.dmaGroupComplete n)

/-- DMA_STOPPED (R398): Every outstanding response of a Stopping channel has arrived, and it is Stopped. -/
def execDmaStopped (k : Side) (n : Nat) (s : State) : Host.Outcome State Fault Refusal := nextStack s k (Stack.dmaStopped n)

end Sys2Proof.Machine
end

