-- ==== Sys2Proof/Machine/MediaBase.lean ====
section
/-! DEFINITION. Media ports: their lanes, modes and host transmit path (R457, R458, R462, R478). -/

namespace Sys2Proof.Machine

/-- A port's own state. -/
def Stack.mport (s : Stack) (q : Nat) : MPort := mapGet {} s.media.ports q

/-- A port's own state replaced. -/
def Stack.setMport (s : Stack) (q : Nat) (p : MPort) : Stack := { s with media := { s.media with ports := mapSet {} s.media.ports q p } }

/-- Lanes and rate code of a MODE; none for a mode that R458 does not list. -/
def portMode (m : Nat) : Option (Nat × Nat) :=
  match m with
  | 1 => some (1, 3)
  | 2 => some (1, 5)
  | 3 => some (1, 8)
  | 4 => some (4, 5)
  | 5 => some (2, 8)
  | 6 => some (1, 0xA)
  | 7 => some (4, 8)
  | 8 => some (2, 0xA)
  | 9 => some (4, 0xA)
  | _ => Option.none

/-- Whether a port's lanes carry FEC (R458). -/
def Stack.portFec (s : Stack) (q : Nat) : Bool :=
  match s.get (MPORT.CFG_MODE q) with
  | 1 => false
  | 2 | 4 => s.flag (MPORT.CFG_FEC q)
  | _ => true

/-- The lanes of a port's mode (R457, R458). -/
def Stack.portLanes (s : Stack) (q : Nat) : List Nat :=
  match portMode (s.get (MPORT.CFG_MODE q)) with
  | some (n, _) => (List.range n).map fun i => 4 * q + i
  | Option.none => []

/-- The base stop of a port (R308, R457). -/
def mediaStop (q : Nat) : Nat := if q < 4 then 11 else 12

/-- Bytes of a list of little-endian words. -/
def wordBytes (l : List Nat) : List Nat := l.flatMap fun w => [bits w 0 8, bits w 8 8, bits w 16 8, bits w 24 8]

/-- The host frame that waits goes out: its bytes are the output; a requested timestamp is recorded (R462, R463). -/
def Stack.hostSend (s : Stack) (q : Nat) : Stack :=
  let p := s.mport q
  let len := s.get (MPORT.HTX_CTL_LEN q)
  let body := wordBytes p.htx
  let frame := (body ++ List.replicate (len - body.length) 0).take len
  let t := (s.setMport q { p with htx := [] }).bump (MPORT.TX_FRAMES_COUNT q)
  let t := ((t.put (MPORT.HTX_STATUS_BUSY q) 0).put (MPORT.HTX_STATUS_SPACE q) 4096).answered 0 (s.padOutput (s.portLanes q) frame)
  if !s.flag (MPORT.HTX_CTL_TS_REQ q) then t
  else
    let t := (t.put (MPORT.HTX_TS_NS_TS q) (s.time % 1000000000)).put (MPORT.HTX_TS_S_TS q) s.seconds
    (t.put (MPORT.HTX_TS_S_HI_TS q) (s.seconds / 2 ^ 32)).raise (MPORT.INT_HTX_TS q)

/-- An SDI framer loses its lock when its lane leaves Ready; as the house reference it is lost (R434, R477, R479,
R495). -/
def Stack.syncSdi (s : Stack) (q n : Nat) : Stack :=
  if !s.flag (MPORT.SDI_STAT_LOCKED q n) ∨ s.get (LANE.STATUS_STAGE (4 * q + n)) = 8 then s
  else
    let t := ((s.put (MPORT.SDI_STAT_LOCKED q n) 0).put (MPORT.SDI_STAT_PID_VALID q n) 0).raise (MPORT.INT_SDI q)
    if t.houseKind = 2 ∧ t.houseIndex = 4 * q + n then t.holdover else t

/-- STATUS of a port follows its lanes: up when every lane of its mode is Ready; a host frame that waited for the link goes out
(R458, R462, R479). -/
def Stack.syncPort (s : Stack) (q : Nat) : Stack :=
  let l := s.portLanes q
  let up := s.flag (MPORT.CFG_ENABLE q) && !l.isEmpty && l.all fun n => s.get (LANE.CFG_USE n) == 1 && s.get (LANE.STATUS_STAGE n) == 8
  if up = s.flag (MPORT.STATUS_LINK q) then s
  else
    let t := ((s.put (MPORT.STATUS_LINK q) (b2n up)).put (MPORT.STATUS_ALIGN q) (b2n up)).put (MPORT.STATUS_FEC_LOCK q) (b2n (up && s.portFec q))
    if up then
      let t := t.raise (MPORT.INT_LINK_UP q)
      if t.flag (MPORT.HTX_STATUS_BUSY q) then t.hostSend q else t
    else t.raise (MPORT.INT_LINK_DOWN q)

/-- The ports and their SDI framers follow their lanes. -/
def Stack.syncPorts (s : Stack) : Stack :=
  (List.range s.build.mports).foldl (fun t q => (List.range 4).foldl (fun t n => t.syncSdi q n) (t.syncPort q)) s

end Sys2Proof.Machine
end

