-- ==== Sys2Proof/Machine/Lanes.lean ====
section
/-! DEFINITION. Serial lanes and Lacing links (R426 to R456). -/

namespace Sys2Proof.Machine

/-! ## Lanes (R426 to R434) -/

/-- A lane's own state. -/
def Stack.lane (s : Stack) (n : Nat) : Lane := mapGet {} s.lanes n

/-- A lane's own state replaced. -/
def Stack.setLane (s : Stack) (n : Nat) (x : Lane) : Stack := { s with lanes := mapSet {} s.lanes n x }

/-- USE of a lane: LANE_32 to LANE_47 always form LACE_04 (R426, R430). -/
def Stack.laneUse (s : Stack) (n : Nat) : Nat := if 32 ≤ n then 3 else s.get (LANE.CFG_USE n)

/-- LINK of a lane (R426, R456). -/
def Stack.laneLink (s : Stack) (n : Nat) : Nat := if 32 ≤ n then 4 else s.get (LANE.CFG_LINK n)

/-- Rate code of a lane (R426, R428). -/
def Stack.laneRate (s : Stack) (n : Nat) : Nat := if 32 ≤ n then 0xB else s.get (LANE.CFG_RATE n)

/-- STAGE of a lane (R431). -/
def Stack.laneStage (s : Stack) (n : Nat) : Nat := s.get (LANE.STATUS_STAGE n)

/-- Whether a rate code is an SDI rate (R428). -/
def sdiRate (code : Nat) : Bool := code == 1 || code == 2 || code == 4

/-- The lanes of the same quad that use the same PLL and run (R427). -/
def Stack.pllLanes (s : Stack) (n : Nat) : List Nat :=
  (List.range 4).map (fun i => n / 4 * 4 + i) |>.filter fun m =>
    m != n && s.get (LANE.CFG_REFSEL m) == s.get (LANE.CFG_REFSEL n) && 1 ≤ s.laneStage m && s.laneStage m ≤ 8

/-- Whether a lane's rate code, FRAC and PLL allow it to run (R427, R428). -/
def Stack.rateOk (s : Stack) (n : Nat) : Bool :=
  decide (s.laneRate n < 12) && (!s.flag (LANE.CFG_FRAC n) || sdiRate (s.laneRate n)) &&
    (s.pllLanes n).all fun m => s.laneRate m == s.laneRate n && s.get (LANE.CFG_FRAC m) == s.get (LANE.CFG_FRAC n)

/-- Whether a lane's reference clock is reported running (R434). -/
def Stack.refOk (s : Stack) (n : Nat) : Bool := bit (s.get (LANE.QSTAT_REF_OK (n / 4))) (s.get (LANE.CFG_REFSEL n))

/-- PLL_LOCK and RATE of the PLLs of a quad follow the lanes that use them (R427, R455). -/
def Stack.syncPlls (s : Stack) (q : Nat) : Stack :=
  let user := fun ab => ((List.range 4).map (fun i => 4 * q + i)).find? fun m =>
    s.get (LANE.CFG_REFSEL m) == ab && 1 ≤ s.laneStage m && s.laneStage m ≤ 8
  let lock := fun ab => if (user ab).isSome ∧ bit (s.get (LANE.QSTAT_REF_OK q)) ab then 2 ^ ab else 0
  let rate := fun ab => match user ab with
    | some m => s.laneRate m
    | Option.none => 0
  ((s.put (LANE.QSTAT_PLL_LOCK q) (lock 0 + lock 1)).put (LANE.QSTAT_RATE_A q) (rate 0)).put (LANE.QSTAT_RATE_B q) (rate 1)

/-- A lane's stage written; going back to an earlier stage loses what the later ones found (R431, R456). -/
def Stack.setStage (s : Stack) (n stage : Nat) : Stack :=
  let keep := if stage = 8 then 15 else if stage ≤ 1 ∨ stage = 9 then 0 else if stage = 2 then 1 else if stage = 3 then 3 else if stage = 4 then 7 else 15
  ((s.put (LANE.STATUS_STAGE n) stage).put (LANE.STATUS_SIGNAL n) (s.get (LANE.STATUS_SIGNAL n) &&& keep)).syncPlls (n / 4)

/-! ## Links (R441, R445 to R448) -/

/-- The member lanes of a link (R441). -/
def Stack.members (s : Stack) (k : Nat) : List Nat :=
  (List.range s.build.lanes).filter fun n => s.laneUse n == 3 && s.laneLink n == k

/-- Whether the members make a link: 1, 2, 4, 8 or 16 lanes of one rate (R441). -/
def Stack.widthOk (s : Stack) (k : Nat) : Bool :=
  let l := s.members k
  [1, 2, 4, 8, 16].contains l.length && l.all fun n => s.laneRate n == s.laneRate (l.headD 0)

/-- A link fails with a cause (R447). -/
def Stack.laceFail (s : Stack) (k cause : Nat) : Stack :=
  (((s.put (LANE.LACE_STAT_STATE k) 4).put (LANE.LACE_STAT_FAIL k) cause).raise LANE.INT_LINK_FAIL).laceDiscard k

/-- The stage after a stage, the skipped ones passed through (R431, R447). -/
def Stack.nextStage (s : Stack) (n stage : Nat) : Nat :=
  let use := s.laneUse n
  let skip := fun x =>
    if use = 2 then 3 ≤ x && x ≤ 7
    else if x = 3 then !s.flag (LANE.CFG_POL_AUTO n) || (use == 1 && !s.flag (LANE.CFG_TRAIN n))
    else if x = 7 then (use == 1 && !s.flag (LANE.CFG_TRAIN n)) || (use == 3 && (32 ≤ n || s.laceState (s.laneLink n) == 3))
    else false
  ((List.range 9).find? fun x => decide (stage < x) && !skip x).getD 8

/-- An Up link retrains: its lanes rerun stages 3 to 6 and 8; the fourth retrain within 1 s makes it fail (R447). -/
def Stack.laceRetrain (s : Stack) (k : Nat) : Stack :=
  if s.laceState k ≠ 2 then s
  else
    let x := s.lace k
    let l := x.retrains.filter (fun t => decide (s.clk.up < t + 1000000000)) ++ [s.clk.up]
    let t := (s.raise LANE.INT_LINK_DOWN).setLace k { x with retrains := l }
    if 4 ≤ l.length then t.laceFail k 0xC
    else
      let t := t.put (LANE.LACE_STAT_STATE k) 3
      (t.members k).foldl (fun t n => if t.laneStage n = 8 then (t.setStage n (t.nextStage n 2)).setLane n { t.lane n with run := 0 } else t) t

/-! ## Lanes and their links -/

/-- A lane has left Ready: its link retrains (R447). -/
def Stack.laneLeft (s : Stack) (n : Nat) : Stack := if s.laneUse n = 3 then s.laceRetrain (s.laneLink n) else s

/-- A lane goes to Failed with a cause; its training link fails with it (R433, R447). -/
def Stack.laneFailed (s : Stack) (n cause : Nat) : Stack :=
  let t := ((s.setStage n 9).put (LANE.STATUS_FAIL n) cause).raise LANE.INT_LANE_FAIL
  let t := (t.pend (LANE.FAIL_PEND_PEND (n / 32)) (n % 32)).setLane n {}
  if t.laneUse n = 3 ∧ (t.laceState (t.laneLink n) = 1 ∨ t.laceState (t.laneLink n) = 3) then t.laceFail (t.laneLink n) cause else t

/-- An attempt of a lane ends with a cause (R433). -/
def Stack.attemptEnds (s : Stack) (n cause : Nat) : Stack :=
  let t := (s.put (LANE.STATUS_FAIL n) cause).bump (LANE.STATUS_ATTEMPT n)
  let tries := if t.get (LANE.CFG_TRIES n) = 0 then 8 else t.get (LANE.CFG_TRIES n)
  if tries ≤ t.get (LANE.STATUS_ATTEMPT n) then t.laneFailed n cause else t.setLane n { t.lane n with waiting := true }

/-- Whether lanes may run in the mode; in Dawn they are off until step 6 (R454). -/
def Stack.lanesRun (s : Stack) : Bool :=
  s.modeIn [.day, .workshop, .haven] || (s.mode == .dawn && decide (6 ≤ s.get SYS.DAWN_STEP))

/-- A lane enters stage 1; it waits there while its reference clock is stopped (R431, R434). -/
def Stack.laneStage1 (s : Stack) (n : Nat) : Stack :=
  let t := s.setStage n 1
  if t.refOk n then t.setLane n {} else (t.put (LANE.STATUS_FAIL n) 0xA).setLane n { refWait := true }

/-- A lane's bring-up starts; a rate that its PLL cannot serve makes it fail at once (R427, R428, R431, R433). -/
def Stack.laneStart (s : Stack) (n : Nat) : Stack :=
  if !s.lanesRun || s.laneUse n == 0 then s
  else
    let t := (s.put (LANE.STATUS_ATTEMPT n) 0).put (LANE.STATUS_FAIL n) 0
    if !t.rateOk n then t.laneFailed n 9 else t.laneStage1 n

/-- A lane powers down (R41, R434). -/
def Stack.laneOff (s : Stack) (n : Nat) : Stack :=
  let t := s.setStage n 0
  (t.setLane n { downUntil := if s.laneStage n = 0 then (s.lane n).downUntil else s.clk.up + 2000 }).laneLeft n

/-- An enabled lane starts, or, while its power-down runs, is enabled at the safe boundary (R40, R41, R431). -/
def Stack.laneRise (s : Stack) (n : Nat) : Stack :=
  if s.clk.up < (s.lane n).downUntil then
    { s with sys := { s.sys with reenables := s.sys.reenables.filter (· != .lanePower n) ++ [.lanePower n] } }
  else s.laneStart n

/-- A Down link whose ENABLE is set and whose member lanes are all enabled starts to train; a member lane that is Failed makes it fail
(R441, R447, R454). -/
def Stack.lacePoll (s : Stack) (k : Nat) : Stack :=
  let l := s.members k
  if s.laceState k ≠ 0 ∨ !s.flag (LANE.LACE_CTL_ENABLE k) ∨ !(l.all fun n => s.flag (LANE.CFG_ENABLE n))
      ∨ !s.lanesRun ∨ s.mode = .haven then s
  else
    let t := (s.put (LANE.LACE_STAT_STATE k) 1).put (LANE.LACE_STAT_LANES k) l.length
    if !t.widthOk k then t.laceFail k 0xB
    else match l.find? fun n => t.laneStage n == 9 with
      | some n => t.laceFail k (t.get (LANE.STATUS_FAIL n))
      | Option.none => l.foldl (fun t n => if t.laneStage n = 0 then t.laneRise n else t) t

/-- ENABLE of a lane set (R431). -/
def Stack.laneEnabled (s : Stack) (n : Nat) : Stack :=
  let t := (s.put (LANE.CFG_ENABLE n) 1).laneRise n
  if t.laneUse n = 3 then t.lacePoll (t.laneLink n) else t

/-- A write of a lane's CFG with ENABLE 1: while ENABLE is 1 it changes nothing; the port of a lane with USE 1 sets its RATE and ENABLE
(R430, R456). -/
def Stack.laneEnable (n v : Nat) (s : Stack) : Stack :=
  if s.flag (LANE.CFG_ENABLE n) ∨ s.build.lanes ≤ n then s
  else
    let t := ((s.put (LANE.CFG_USE n) v).put (LANE.CFG_LINK n) (v / 4)).put (LANE.CFG_PAM4 n) (v / 2 ^ 9)
    let t := ((t.put (LANE.CFG_FRAC n) (v / 2 ^ 10)).put (LANE.CFG_REFSEL n) (v / 2 ^ 11)).put (LANE.CFG_TX_INV n) (v / 2 ^ 12)
    let t := ((t.put (LANE.CFG_RX_INV n) (v / 2 ^ 13)).put (LANE.CFG_POL_AUTO n) (v / 2 ^ 14)).put (LANE.CFG_TRAIN n) (v / 2 ^ 15)
    let t := t.put (LANE.CFG_TRIES n) (v / 2 ^ 16)
    if t.laneUse n = 1 then t else (t.put (LANE.CFG_RATE n) (v / 2 ^ 5)).laneEnabled n

/-- A write of a lane's CFG with ENABLE 0 while it is 1: the lane powers down (R434, R456). -/
def Stack.laneDisable (n : Nat) (s : Stack) : Stack :=
  if !s.flag (LANE.CFG_ENABLE n) ∨ s.laneUse n = 1 then s
  else
    let t := (s.put (LANE.CFG_ENABLE n) 0).laneOff n
    { t with sys := { t.sys with reenables := t.sys.reenables.filter (· != .lanePower n) } }

/-- Whether a Lacing lane's logical number fits: below the width, not another member's, and the far width is this end's (R437). -/
def Stack.orderOk (s : Stack) (n : Nat) : Bool :=
  let l := s.members (s.laneLink n)
  decide (s.get (LANE.STATUS_LANE_ID n) < l.length) && (s.lane n).farWidth == l.length &&
    l.all fun m => m == n || s.laneStage m < 6 || s.get (LANE.STATUS_LANE_ID m) != s.get (LANE.STATUS_LANE_ID n)

/-- A lane's stage is complete (R431, R432, R435 to R438): `inv` is the polarity that clause training has found, and the eye is
measured at entry to Ready (R456). -/
def Stack.stageComplete (n : Nat) (inv : Bool) (height width : Nat) (s : Stack) : Stack :=
  let st := s.laneStage n; let x := s.lane n
  if st = 0 ∨ 8 ≤ st ∨ x.waiting ∨ x.refWait then s
  else
    let lacing := s.laneUse n == 3
    let enter := fun (t : Stack) =>
      let nx := t.nextStage n st
      let t := t.setStage n nx
      if nx = 8 then (t.put (LANE.EYE_HEIGHT n) height).put (LANE.EYE_WIDTH n) width else t
    let found := fun (t : Stack) (i : Nat) (b : Bool) => t.put (LANE.STATUS_SIGNAL n) (setBit (t.get (LANE.STATUS_SIGNAL n)) i b)
    match st with
    | 1 => enter (found s 0 true)
    | 2 => enter (found s 1 true)
    | 3 => if lacing ∧ x.run < 16 then s else enter (found s 2 (if lacing then x.inverted else inv))
    | 4 => enter (found s 3 true)
    | 5 => if lacing ∧ !s.orderOk n then s.attemptEnds n 5 else enter s
    | 6 => enter s
    | _ =>
      if lacing ∧ x.farRole = some (s.flag (LANE.LACE_CTL_ROLE (s.laneLink n))) then s.attemptEnds n 8
      else if lacing ∧ x.readyRun < 64 then s
      else enter s

/-- A stage overruns its limit (R432, R433). -/
def Stack.stageOverrun (n : Nat) (s : Stack) : Stack :=
  let st := s.laneStage n; let x := s.lane n
  if st = 0 ∨ 8 ≤ st ∨ x.waiting ∨ x.refWait then s
  else s.attemptEnds n (if st = 7 ∧ s.laneUse n = 3 ∧ x.farRole = some (s.flag (LANE.LACE_CTL_ROLE (s.laneLink n))) then 8 else st)

/-- 100 µs after a failed attempt the lane restarts at stage 1 (R433). -/
def Stack.laneRestart (n : Nat) (s : Stack) : Stack :=
  if (s.lane n).waiting then (s.bump (LANE.ERRCNT_RESTARTS n)).laneStage1 n else s

/-- A Ready lane loses its signal for 1 µs (R434). -/
def Stack.lossOfSignal (n : Nat) (s : Stack) : Stack := if s.laneStage n = 8 then (s.laneStage1 n).laneLeft n else s

/-- Sixteen invalid sync headers within 64 blocks on a Ready Lacing lane (R434). -/
def Stack.syncErrors (n : Nat) (s : Stack) : Stack :=
  if s.laneStage n = 8 ∧ s.laneUse n = 3 then ((s.bump (LANE.ERRCNT_SYNC_ERR n) 16).setStage n (s.nextStage n 2) |>.setLane n {}).laneLeft n else s

/-- A reference clock of a quad gives no edges: its running lanes wait at stage 1 with cause REF (R434). -/
def Stack.refEnds (q ab : Nat) (s : Stack) : Stack :=
  let t := (s.put (LANE.QSTAT_REF_OK q) (setBit (s.get (LANE.QSTAT_REF_OK q)) ab false)).raise LANE.INT_REF
  (((List.range 4).map fun i => 4 * q + i).foldl (fun t n =>
    if 1 ≤ t.laneStage n ∧ t.laneStage n ≤ 8 ∧ t.get (LANE.CFG_REFSEL n) = ab then (t.laneStage1 n).laneLeft n else t) t).syncPlls q

/-- A reference clock of a quad stops; the clock monitor declares it dead (R434, R490). -/
def Stack.refStopped (q ab : Nat) (s : Stack) : Stack := (Stack.clockDead (8 + 2 * q + ab) s).refEnds q ab

/-- REF_EN of a reference input cleared: the source is idle, not dead (R455, R490). -/
def Stack.refIdle (q ab : Nat) (s : Stack) : Stack := (s.setRunning (8 + 2 * q + ab) false).refEnds q ab

/-- A source is declared dead; a quad's reference input with the effect on its lanes (R434, R490). -/
def Stack.sourceDead (n : Nat) (s : Stack) : Stack :=
  if 8 ≤ n ∧ n < 8 + s.build.lanes / 2 ∧ s.sourceRunning n then Stack.refStopped ((n - 8) / 2) ((n - 8) % 2) s else Stack.clockDead n s

/-- A reference clock of a quad runs, and is monitored: the lanes that waited for it go on (R434, R490). -/
def Stack.refRuns (q ab : Nat) (s : Stack) : Stack :=
  if !bit (s.get (LANE.QCTL_REF_EN q)) ab then s
  else
    let t := (s.setRunning (8 + 2 * q + ab) true).put (LANE.QSTAT_REF_OK q) (setBit (s.get (LANE.QSTAT_REF_OK q)) ab true)
    (((List.range 4).map fun i => 4 * q + i).foldl (fun t n =>
      if (t.lane n).refWait ∧ t.get (LANE.CFG_REFSEL n) = ab then t.setLane n {} else t) t).syncPlls q

/-! ## Tests of a lane (R440) -/

/-- Whether the lane test functions are accepted (R440). -/
def Stack.laneTests (s : Stack) : Bool := s.modeIn [.day, .workshop]

/-- A change of LOOP restarts the lane at stage 1 (R440). -/
def Stack.laneLoop (n v : Nat) (s : Stack) : Stack :=
  if !s.laneTests ∨ s.get (LANE.TEST_LOOP n) = v % 4 then s
  else
    let t := s.put (LANE.TEST_LOOP n) v
    if t.laneStage n = 0 ∨ t.laneStage n = 9 then t else (t.laneStage1 n).laneLeft n

/-- Whether a lane signals NRZ (R428). -/
def Stack.nrz (s : Stack) (n : Nat) : Bool :=
  let c := s.laneRate n
  decide (c < 6) || ((c == 6 || c == 7) && !s.flag (LANE.CFG_PAM4 n))

/-- PATTERN_BAD follows the generator: PRBS13Q at an NRZ rate (R440). -/
def Stack.prbsGenerator (n gen pattern : Nat) (s : Stack) : Stack :=
  if !s.laneTests then s
  else
    let t := (s.put (LANE.TEST_GEN n) gen).put (LANE.TEST_PATTERN n) pattern
    t.put (LANE.PRBS_STAT_LOCK n) (setBit (t.get (LANE.PRBS_STAT_LOCK n)) 1 (gen % 2 == 1 && pattern % 8 == 7 && t.nrz n))

/-- The checker is set, and then finds lock and bit errors (R440, R456). -/
def Stack.prbsChecker (n chk pattern : Nat) (lock : Bool) (errors : Nat) (s : Stack) : Stack :=
  if !s.laneTests then s
  else
    let rise := chk % 2 == 1 && !s.flag (LANE.TEST_CHK n)
    let t := (s.put (LANE.TEST_CHK n) chk).put (LANE.TEST_PATTERN n) pattern
    let t := if rise then t.put (LANE.PRBS_ERR_ERRORS n) 0 else t
    let t := t.put (LANE.PRBS_STAT_LOCK n) (setBit (t.get (LANE.PRBS_STAT_LOCK n)) 0 (chk % 2 == 1 && lock))
    if chk % 2 = 1 ∧ lock then t.bump (LANE.PRBS_ERR_ERRORS n) errors else t

/-- INJECT inverts one transmitted bit: the command's output (R440). -/
def Stack.laneInject (n : Nat) (s : Stack) : Stack := if s.laneTests ∧ s.laneStage n ≠ 0 then s.answered 0 [1] else s

/-! ## Training frames and markers (R435, R437, R438, R441) -/

/-- The tap of a lane's transmitter: PRE, MAIN, POST1, POST2 (R438). -/
def tapField (n i : Nat) : Field :=
  if i = 0 then LANE.TXEQ_PRE n else if i = 1 then LANE.TXEQ_MAIN n else if i = 2 then LANE.TXEQ_POST1 n else LANE.TXEQ_POST2 n

/-- The largest value of a tap (R438). -/
def tapMax (i : Nat) : Nat := if i = 1 then 63 else if i = 2 then 31 else 15

/-- Sum of a lane's taps (R438). -/
def Stack.tapSum (s : Stack) (n : Nat) : Nat := (List.range 4).foldl (fun a i => a + s.get (tapField n i)) 0

/-- A far request for one tap: answered updated, at minimum or at maximum while the response still reads not updated; hold returns the
response to not updated (R438). -/
def Stack.tapRequest (s : Stack) (n i req : Nat) : Stack :=
  let x := s.lane n
  let cur := bits x.st (2 * i) 2
  let respond := fun (t : Stack) r => t.setLane n { x with st := x.st - cur * 4 ^ i + r * 4 ^ i }
  let v := s.get (tapField n i)
  if req = 0 then respond s 0
  else if cur ≠ 0 ∨ req = 3 then s
  else if req = 1 then (if v = tapMax i ∨ 63 ≤ s.tapSum n then respond s 3 else respond (s.put (tapField n i) (v + 1)) 1)
  else if v = 0 then respond s 2
  else respond (s.put (tapField n i) (v - 1)) 1

/-- The preset taps loaded (R438). -/
def Stack.loadPreset (s : Stack) (n : Nat) : Stack :=
  let t := (s.put (LANE.TXEQ_PRE n) (s.get (LANE.TXPRESET_PRE n))).put (LANE.TXEQ_MAIN n) (s.get (LANE.TXPRESET_MAIN n))
  let t := (t.put (LANE.TXEQ_POST1 n) (s.get (LANE.TXPRESET_POST1 n))).put (LANE.TXEQ_POST2 n) (s.get (LANE.TXPRESET_POST2 n))
  t.setLane n { t.lane n with st := 0x55 }

/-- A training frame arrives on a Lacing lane in stages 3 to 7: `inv` says that its complement was seen, `f` is TRAIN_FIELDS (R435, R437,
R438). -/
def Stack.trainingFrame (n : Nat) (inv : Bool) (f : Nat) (s : Stack) : Stack :=
  let st := s.laneStage n
  if s.laneUse n ≠ 3 ∨ st < 3 ∨ 7 < st then s
  else
    let x := s.lane n
    let t := s.setLane n { x with
      inverted := inv
      run := if inv = x.inverted then x.run + 1 else 1
      farRole := some (bit f 38)
      farWidth := 2 ^ bits f 13 3
      readyRun := if bit f 37 then x.readyRun + 1 else 0 }
    let t := (t.put (LANE.STATUS_LANE_ID n) (bits f 8 5)).setLace (s.laneLink n) { t.lace (s.laneLink n) with farLastRx := bits f 39 12 }
    if st ≠ 7 then t
    else if bit f 28 ∧ (t.lane n).st = 0 then t.loadPreset n
    else if bit f 28 then t
    else (List.range 4).foldl (fun t i => t.tapRequest n i (bits f (20 + 2 * i) 2)) t

/-- A marker arrives on a Lacing lane: it gives the logical lane number and the far width, and is removed (R437, R441). -/
def Stack.laneMarker (n f : Nat) (s : Stack) : Stack :=
  if s.laneUse n ≠ 3 ∨ s.laneStage n < 5 ∨ 8 < s.laneStage n then s
  else (s.put (LANE.STATUS_LANE_ID n) (bits f 8 5)).setLane n { s.lane n with farWidth := 2 ^ bits f 13 3 }

/-! ## Units (R442, R443, R448, R452, R453) -/

/-- The header that a header flit spells, with the initiator interface that issues it (R311). -/
def headerOf (src v : Nat) : Header :=
  let reserved := bits v 62 2 != 0 || v / 2 ^ 288 != 0
  { src := src, tag := bits v 32 10, cls := bits v 18 2, len := bits v 42 5, rlen := bits v 57 5, rot := bit v 47, keyattr := bits v 48 4, addr := bits v 64 48, birth := bits v 112 16, beFirst := bits v 128 64, beLast := bits v 192 64, data := bits v 256 32, reserved := reserved }

/-- The key slot of a KEYATTR by the live link selection (R422). -/
def Stack.linkSlot (s : Stack) (a : Nat) : Option Nat :=
  if a ≠ 0 ∧ s.flag (KEYS.LINK_SEL_VALID a) then some (s.get (KEYS.LINK_SEL_SLOT a)) else Option.none

/-- The AES input block of the link engine (R408). -/
def linkInput (attr chunk flit ctr role : Nat) : Nat :=
  2 ^ 127 + attr % 16 * 2 ^ 123 + chunk % 8 * 2 ^ 120 + flit % 32 * 2 ^ 115 + ctr % 2 ^ 64 * 2 ^ 49 + role % 2 * 2 ^ 48

/-- A flit combined with the key stream at a position (R408, R453). -/
def cryptFlit (key attr ctr role pos v : Nat) : Nat :=
  unchunks ((List.range 4).map fun c => bits v (128 * c) 128 ^^^ aesEncrypt key (linkInput attr c pos ctr role))

/-- The flits of a unit encrypted or decrypted: the header flit of a packet is left as it is (R453). -/
def cryptFlits (key attr ctr role : Nat) (guaranteed : Bool) (l : List Nat) : List Nat :=
  (List.range l.length).map fun i =>
    let v := l.getD i 0
    let pos := if guaranteed then i + 1 else i
    if pos = 0 then v else cryptFlit key attr ctr role pos v

/-- The link tag over the flits as sent (R453). -/
def linkTag (key attr ctr role : Nat) (l : List Nat) : Nat :=
  (ghash (aesEncrypt key 0) (l.flatMap chunks) ^^^ aesEncrypt key (linkInput attr 4 0 ctr role)) % 2 ^ 64

/-- The TAG block of a plaintext unit (R443). -/
def unitCrc (l : List Nat) : Nat := crc32c (l.flatMap fun v => (toBytes 64 v).map BitVec.toNat)

/-- The sequence counter of a unit that this end sends (R422). -/
def Stack.sendCounter (s : Stack) (k count : Nat) : Nat :=
  s.get LEDGER.DAWNS_COUNT % 65536 * 2 ^ 48 + s.get (LANE.LACE_STAT_TRAINS k) * 2 ^ 32 + count % 2 ^ 32

/-- A unit as it goes onto the link: the START fields, the flits and the TAG (R441 to R443, R453). -/
def Stack.unitWire (s : Stack) (k : Nat) (u : LaceUnit) : List Nat :=
  let role := s.get (LANE.LACE_CTL_ROLE k)
  let ctr := s.sendCounter k u.count
  let key := (s.slotKey u.slot).getD 0
  let wire := if u.attr = 0 then u.flits else cryptFlits key u.attr ctr role u.guaranteed u.flits
  let tag := if u.attr = 0 then unitCrc wire else linkTag key u.attr ctr role wire
  [u.count % 4096, u.flits.length - 1, b2n u.guaranteed, u.queue, b2n (u.attr != 0), b2n u.kp, u.cls] ++ wire ++ [tag]

/-- Credits held for a class (R445). -/
def Lace.credit (x : Lace) (cls : Nat) : Nat := if cls = 0 then x.crReq else if cls = 1 then x.crRsp else x.crGuar

/-- Credits spent (R445). -/
def Lace.spend (x : Lace) (cls n : Nat) : Lace :=
  if cls = 0 then { x with crReq := x.crReq - n } else if cls = 1 then { x with crRsp := x.crRsp - n } else { x with crGuar := x.crGuar - n }

/-- Credits to return grow as flits leave the buffers (R445). -/
def Lace.owe (x : Lace) (cls n : Nat) : Lace :=
  if cls = 0 then { x with owedReq := x.owedReq + n } else if cls = 1 then { x with owedRsp := x.owedRsp + n }
  else { x with owedGuar := x.owedGuar + n }

/-- The next new unit of a class: its flits, and the link with them taken from what waits; up to n guaranteed flits of the first queue
(R442, R449). -/
def Lace.take (x : Lace) (cls n : Nat) : Option (List Nat × Nat × Lace) :=
  if cls = 0 then x.req.head?.map fun p => (p, 0, { x with req := x.req.drop 1 })
  else if cls = 1 then x.rsp.head?.map fun p => (p, 0, { x with rsp := x.rsp.drop 1 })
  else x.guar.head?.map fun q =>
    let mine := (x.guar.filter fun e => e.1 == q.1).take n
    let rest := x.guar.filter (fun e => e.1 != q.1) ++ (x.guar.filter fun e => e.1 == q.1).drop n
    (mine.map (·.2), q.1, { x with guar := rest })

/-- The effective KEYATTR of a unit (R452). -/
def Stack.effectiveAttr (s : Stack) (k cls : Nat) (flits : List Nat) : Nat :=
  if cls = 2 then s.get (LANE.LACE_KEY_GATTR k)
  else
    let a := (headerOf 13 (flits.headD 0)).keyattr
    if a ≠ 0 then a else s.get (LANE.LACE_KEY_ATTR k)

/-- Whether a unit of a KEYATTR can be encrypted now (R422). -/
def Stack.mayEncrypt (s : Stack) (k attr : Nat) : Bool :=
  attr == 0 || (!(s.lace k).encStop && ((s.linkSlot attr).bind s.slotKey).isSome)

/-- What a link's transmitters put out (R440). -/
def Stack.laceOutput (s : Stack) (k : Nat) (l : List Nat) : List Nat := s.padOutput (s.members k) l

/-- A sender sends a unit: the next one to resend, or a new one of a class when credits, the replay buffer and the key allow
(R422, R445, R446, R448). Nothing is sent in electrical idle, and no guaranteed flit before release outputs (R27, R33, R60). -/
def Stack.unitSend (k cls n : Nat) (s : Stack) : Stack :=
  let x := s.lace k
  if s.laceState k ≠ 2 ∨ !s.laceDrives then s
  else match x.resend with
    | some i =>
      let u := x.replay.getD i ⟨0, false, 0, 0, 0, 0, false, []⟩
      let fresh := x.replay.length ≤ i + x.unsent
      if (u.guaranteed ∧ !s.flowsRun) ∨ (fresh ∧ x.credit u.cls < u.flits.length) ∨ !s.mayEncrypt k u.attr then s
      else
        let y := if fresh then { x.spend u.cls u.flits.length with unsent := x.unsent - 1 } else x
        let t := if fresh then s else s.bump (LANE.LACE_CNT_RESENDS k)
        (t.setLace k { y with resend := if i + 1 < x.replay.length then some (i + 1) else Option.none }).answered 0 (s.laceOutput k (s.unitWire k u))
    | Option.none =>
      match x.take cls (Nat.min n 16) with
      | Option.none => s
      | some (flits, queue, y) =>
        let attr := s.effectiveAttr k cls flits
        let held := x.replay.foldl (fun a u => a + u.flits.length) 0
        if (cls = 2 ∧ !s.flowsRun) ∨ x.credit cls < flits.length ∨ 4096 < held + flits.length ∨ 1024 ≤ x.replay.length ∨ flits = [] ∨ !s.mayEncrypt k attr then s
        else if x.txCount + 1 = 2 ^ 32 then s.laceRetrain k
        else
          let slot := (s.linkSlot attr).getD 0
          let u : LaceUnit := ⟨x.txCount, cls == 2, cls, queue, attr, slot, x.kp, flits⟩
          let z := { y.spend cls flits.length with
            since := if x.replay = [] then s.clk.up else x.since
            txCount := x.txCount + 1
            replay := x.replay ++ [u] }
          (s.setLace k z).answered 0 (s.laceOutput k (s.unitWire k u))

/-! ## Credits and retry (R445 to R448) -/

/-- The CREDIT block that a receiver sends: ACK_SEQ, NAK and the credits; in electrical idle it sends none (R27, R441, R446). -/
def Stack.creditSend (k : Nat) (s : Stack) : Stack :=
  let x := s.lace k
  if s.laceState k = 0 ∨ s.laceState k = 4 ∨ !s.laceDrives ∨ !((s.members k).all fun n => s.laneStage n == 8) then s
  else
    let y := { x with
      owedReq := 0
      owedRsp := 0
      owedGuar := 0
      ackDue := false }
    (s.setLace k y).answered 0 (s.laceOutput k [(x.rxCount + 4095) % 4096, b2n x.discarding, x.owedReq, x.owedRsp, x.owedGuar])

/-- A NAK is repeated (R446). -/
def Stack.nakRepeat (k : Nat) (s : Stack) : Stack := if (s.lace k).discarding then s.creditSend k else s

/-- The unacknowledged units are to be sent again; the eighth time for one SEQ starts a retrain (R446). -/
def Stack.laceResend (s : Stack) (k : Nat) : Stack :=
  let x := s.lace k
  if x.replay = [] then s
  else
    let t := s.setLace k { x with
      resend := some 0
      since := s.clk.up
      resends := x.resends + 1 }
    if 8 ≤ x.resends + 1 then t.laceRetrain k else t

/-- Units up to the acknowledged SEQ leave the replay buffer (R446). -/
def Lace.acked (x : Lace) (ack : Nat) : Lace :=
  match x.replay.findIdx? fun u => u.count % 4096 == ack with
  | some i =>
    if x.replay.length ≤ i + x.unsent then x
    else
      let left := x.replay.drop (i + 1)
      { x with
        replay := left
        resends := 0
        resend := x.resend.bind fun j => if left = [] then Option.none else some (j - (i + 1)) }
  | Option.none => x

/-- A link becomes Up: both ends start with full credit and SEQ 0; after a retrain the units that the far end has not accepted are
renumbered, re-encrypted under the new training count and sent first (R445, R447, R448). -/
def Stack.laceUp (s : Stack) (k : Nat) : Stack :=
  let x := s.lace k
  let trains := s.get (LANE.LACE_STAT_TRAINS k)
  let t := ((s.put (LANE.LACE_STAT_STATE k) 2).raise LANE.INT_LINK_UP).bump (LANE.LACE_STAT_TRAINS k)
  let left := match x.replay.findIdx? fun u => u.count % 4096 == x.farLastRx with
    | some i => x.replay.drop (i + 1)
    | Option.none => x.replay
  let again := (List.range left.length).map fun i =>
    let u := left.getD i ⟨0, false, 0, 0, 0, 0, false, []⟩
    { u with
      count := i
      slot := (s.linkSlot u.attr).getD u.slot
      kp := x.kp }
  t.setLace k { x with
    replay := again
    unsent := again.length
    since := s.clk.up
    resend := if again = [] then Option.none else some 0
    resends := 0
    txCount := again.length
    rxCount := 0
    discarding := false
    ackDue := false
    crReq := 256
    crRsp := 256
    crGuar := 512
    owedReq := 0
    owedRsp := 0
    owedGuar := 0
    farLastRx := 4095
    encStop := x.encStop || trains == 0xFFFF }

/-- A CREDIT block arrives: it makes a trained link Up, or returns credits and acknowledges, or asks for a resend (R445 to R448). -/
def Stack.credit (k ack : Nat) (nak : Bool) (req rsp guar : Nat) (s : Stack) : Stack :=
  let x := s.lace k
  let st := s.laceState k
  if st = 1 ∨ st = 3 then
    if (s.members k).all (fun n => s.laneStage n == 8 && s.get (LANE.TEST_LOOP n) == 0) && x.rxGuar.isEmpty && s.modeIn [.dawn, .day, .workshop]
    then s.laceUp k else s
  else if st ≠ 2 then s
  else
    let y := ({ x with
      crReq := Nat.min 256 (x.crReq + req)
      crRsp := Nat.min 256 (x.crRsp + rsp)
      crGuar := Nat.min 512 (x.crGuar + guar) } : Lace).acked ack
    let y := if y.replay.length < x.replay.length then { y with since := s.clk.up } else y
    let t := s.setLace k y
    if nak then t.laceResend k else t

/-- When the resend timer of a link expires: LACE_TMO microseconds, 0 acting as 8, after it began (R446, R455). -/
def Stack.resendDue (s : Stack) (k : Nat) : Nat :=
  let us := s.get (LANE.LACE_TMO_US k)
  (s.lace k).since + 1000 * (if us = 0 then 8 else us)

/-- ACK_SEQ has not advanced for LACE_TMO: the moment is then that of the expiry, and every unacknowledged unit is resent
(R446, log 60). -/
def Stack.resendTimer (k : Nat) (s : Stack) : Stack :=
  if s.laceState k ≠ 2 ∨ (s.lace k).replay = [] then s
  else (s.elapse (s.resendDue k)).laceResend k

/-- A retrain is not Up within 25 ms (R447). -/
def Stack.retrainTimeout (k : Nat) (s : Stack) : Stack := if s.laceState k = 3 then s.laceFail k 0xC else s

/-- A write of LACE_CTL with ENABLE 1 (R447, R455). -/
def Stack.laceEnable (k : Nat) (s : Stack) : Stack := if s.build.laces ≤ k then s else (s.put (LANE.LACE_CTL_ENABLE k) 1).lacePoll k

/-- A write of LACE_CTL with ENABLE 0: the link is Down and its lanes powered down (R447, R455). -/
def Stack.laceDisable (k : Nat) (s : Stack) : Stack :=
  let t := s.put (LANE.LACE_CTL_ENABLE k) 0
  if t.laceState k = 0 then t
  else
    let x := t.lace k
    let t := if t.laceState k = 2 then t.raise LANE.INT_LINK_DOWN else t
    let t := ((t.put (LANE.LACE_STAT_STATE k) 0).laceDiscard k).laceDrop k x.rxGuar.length
    let t := t.setLace k { x with
      replay := []
      resend := Option.none
      unsent := 0
      resends := 0
      req := []
      rsp := []
      rxGuar := []
      discarding := false }
    (t.members k).foldl (fun t n => t.laneOff n) t

/-! ## Receiving (R444, R446, R449 to R453) -/

/-- Flits pass from the guaranteed buffer into their queues while these have room (R445, R449). -/
def Stack.drainGuar (k : Nat) : List (Nat × Nat) → Stack → Stack
  | [], s => s
  | (q, f) :: t, s =>
    if s.queueRoom 0 13 q 1 then
      drainGuar k t ((s.pushQueue 0 13 q [f]).setLace k ((s.lace k).owe 2 1))
    else drainGuar k t (s.setLace k { s.lace k with rxGuar := (s.lace k).rxGuar ++ [(q, f)] })

/-- The guaranteed buffer of a link drained. -/
def Stack.laceDrain (k : Nat) (s : Stack) : Stack :=
  let x := s.lace k
  Stack.drainGuar k x.rxGuar (s.setLace k { x with rxGuar := [] })

/-- Data flits as bytes. -/
def flitBytes (l : List Nat) : List Nat := l.flatMap fun v => (toBytes 64 v).map BitVec.toNat

/-- Bytes as flits. -/
def bytesFlits : Nat → List Nat → List Nat
  | 0, _ => []
  | n + 1, l => ofBytes ((l.take 64).map (BitVec.ofNat 8)) :: bytesFlits n (l.drop 64)

/-- A request from the link, at the Lacing stop: the packet that answers it, if one does now (R341, R450 to R452). -/
def Stack.laceServe (s : Stack) (k : Nat) (enc : Bool) (flits : List Nat) : Stack × Option (List Nat) :=
  let v := flits.headD 0
  let h := headerOf 13 v
  let op := bits v 24 6
  let data := flits.drop 1
  let back : Nat → List Nat → List Nat := fun status l =>
    let rh : Header := { h with
      cls := 3
      len := l.length
      rlen := 0
      addr := 0
      beFirst := 0
      beLast := 0
      data := 0 }
    headerFlit rh (if op = 1 then 0x20 else 0x21) status :: l
  if s.flag (LANE.LACE_KEY_REQUIRE k) && !enc then (s, some (back 1 []))
  else if !s.flag (LANE.LACE_CTL_REMOTE k) then (s, some (back 7 []))
  else if op ≠ 1 ∧ op ≠ 2 then (s, some (back 8 []))
  else if s.interfaceError op h then (s, some (back 1 []))
  else
    let t := if op = 1 then s.ringRead h else s.ringWrite h (flitBytes data) 0
    let r := t.answer
    let t := { t with answer := s.answer }
    if r.status = noAnswer then
      (if t.keys.stalled.any (·.req == some h) then t.setLace k { t.lace k with stalled := (t.lace k).stalled ++ [h] } else t, Option.none)
    else (t, some (back r.status (if op = 1 ∧ r.status = 0 then bytesFlits h.rlen r.data else [])))

/-- A response from the link reaches the remote window (R330, R450). -/
def Stack.rwinResponse (s : Stack) (k : Nat) (flits : List Nat) : Stack :=
  let v := flits.headD 0
  let tag := bits v 32 10
  let t := s.ringTag 13 tag
  if t.st = 2 ∧ (s.lace k).rwinTag = tag then
    let s := ((s.setTag 13 tag {}).put (LANE.RWIN_STATUS_STATUS k) (bits v 52 4)).put (LANE.RWIN_STATUS_BUSY k) 0
    if (s.lace k).rwinWrite ∨ bits v 52 4 ≠ 0 then s
    else s.put (LANE.RWIN_DATA_DATA k) (bits (flits.getD 1 0) (32 * (s.lace k).rwinWord) 32)
  else
    let s := if t.st = 3 then s.setTag 13 tag {} else s
    (s.bump (RING.ISTAT_LATE 13)).raise RING.INT_LATE

/-- The key that a received unit was encrypted under, by its key phase: the current slot, or the previous one while it is held
(R422, R453). -/
def Stack.receiveKey (s : Stack) (k attr : Nat) (kp : Bool) : Option Nat :=
  if kp = (s.lace k).kp then (s.linkSlot attr).bind s.slotKey
  else ((s.keys.previous.find? fun p => p.1 == attr).map (·.2)).bind s.slotKey

/-- A unit fails: NAK, and everything is discarded until the expected SEQ (R444, R446). -/
def Stack.unitFails (s : Stack) (k : Nat) : Stack :=
  (s.bump (LANE.LACE_CNT_NAKS k)).setLace k { s.lace k with discarding := true }

/-- A unit accepted: its flits are passed on (R445, R446, R449 to R452). -/
def Stack.unitAccept (s : Stack) (k : Nat) (guaranteed enc : Bool) (cls queue : Nat) (flits : List Nat) : Stack :=
  let x := s.lace k
  let s := s.setLace k { x with
    rxCount := x.rxCount + 1
    discarding := false
    ackDue := true }
  if guaranteed then
    if s.flag (LANE.LACE_KEY_REQUIRE k) && !enc then
      (s.laceDrop k flits.length).setLace k ((s.lace k).owe 2 flits.length)
    else
      Stack.laceDrain k (s.setLace k { s.lace k with rxGuar := (s.lace k).rxGuar ++ flits.map fun f => (queue, f) })
  else if cls = 0 then
    let r := s.laceServe k enc flits
    let y := (r.1.lace k).owe 0 flits.length
    r.1.setLace k (match r.2 with
      | some p => { y with rsp := y.rsp ++ [p] }
      | Option.none => y)
  else (s.rwinResponse k flits).setLace k (((s.rwinResponse k flits).lace k).owe 1 flits.length)

/-- A unit arrives on an Up link (R444, R446, R453). `ce` codewords were corrected; `broken` says that a codeword is uncorrectable or
that an invalid header or control block stood inside it; `far` is the upper half of the sender's sequence counter (R422). -/
def Stack.unitReceive (k seq : Nat) (guaranteed enc kp : Bool) (cls queue : Nat) (flits : List Nat) (tag ce : Nat) (broken : Bool)
    (far : Nat) (s : Stack) : Stack :=
  if s.laceState k ≠ 2 then s
  else
    let s := s.bump (LANE.LACE_ERR_CE k) ce
    let x := s.lace k
    let behind := (x.rxCount + 4096 - seq) % 4096
    if seq ≠ x.rxCount % 4096 then
      if x.discarding ∨ (behind ≤ 1024 ∧ behind ≤ x.rxCount) then s else s.unitFails k
    else
      let attr := s.effectiveAttr k (if guaranteed then 2 else cls) flits
      let key := s.receiveKey k attr kp
      let role := 1 - s.get (LANE.LACE_CTL_ROLE k)
      let ctr := far % 2 ^ 32 * 2 ^ 32 + x.rxCount % 2 ^ 32
      let tagOk := if enc then (match key with
          | some v => linkTag v attr ctr role flits == tag
          | Option.none => false)
        else unitCrc flits == tag
      let kindOk := if guaranteed then 1 ≤ flits.length && flits.length ≤ 16 else flits.length == 1 + (headerOf 13 (flits.headD 0)).len
      if broken ∨ !kindOk then s.unitFails k
      else if !tagOk then (if enc then s.bump KEYS.LINK_FAIL_COUNT else s).unitFails k
      else
        let plain := if enc then cryptFlits (key.getD 0) attr ctr role guaranteed flits else flits
        s.unitAccept k guaranteed enc cls queue plain

/-! ## The remote window (R450) -/

/-- GO of a remote window: a READ of the block that holds the word, or a WRITE of its four bytes, to the far device (R450). -/
def Stack.rwinGo (k : Nat) (write : Bool) (s : Stack) : Stack :=
  if s.build.laces ≤ k then s
  else
    let t := s.put (LANE.RWIN_CTL_WRITE k) (b2n write)
    if t.flag (LANE.RWIN_STATUS_BUSY k) then t.raise (LANE.RWIN_STATUS_OVERRUN k)
    else
      let tag := (((List.range 204).map fun j => k + 5 * j).find? fun g => (t.ringTag 13 g).st == 0).getD k
      let addr := t.get (LANE.RWIN_ADDR_LO_ADDR k) + 2 ^ 32 * t.get (LANE.RWIN_ADDR_HI_ADDR k)
      let w := addr / 4 % 16
      let n := if write then 1 else 0
      let h : Header := { src := 13, tag := tag, len := n, rlen := 1 - n, addr := addr / 64 * 64, beFirst := n * 0xF * 16 ^ w }
      let packet := headerFlit h (if write then 2 else 1) 0 :: (if write then [t.get (LANE.RWIN_DATA_DATA k) * 2 ^ (32 * w)] else [])
      let x := t.lace k
      let y := { x with
        rwinTag := tag
        rwinWrite := write
        rwinWord := w
        req := x.req ++ [packet] }
      ((t.put (LANE.RWIN_STATUS_BUSY k) 1).setTag 13 tag { st := 2, birth := t.get RING.EPOCH_COUNT % 65536, due := t.requestDue 13 tag }).setLace k y

/-! ## Modes (R454) -/

/-- Lanes powered down with their configuration kept: Siesta entry, Dusk step 4 (R454). -/
def Stack.lanesDown (s : Stack) : Stack :=
  let t := s.linksDown
  (List.range t.build.lanes).foldl (fun t n => if t.laneStage n = 0 then t else (t.setStage n 0).setLane n {}) t

/-- Lanes restarted from stage 1 at wake step 6 of Siesta, and links with them (R32, R454). -/
def Stack.lanesRestart (s : Stack) : Stack :=
  let t := (List.range s.build.lanes).foldl (fun t n => if t.flag (LANE.CFG_ENABLE n) then t.laneStart n else t) s
  (List.range t.build.laces).foldl (fun t k => t.lacePoll k) t

/-! ## Commands -/

/-- In the Atlas, a stack whose link 4 is not Up leaves the standby out of synchrony (R581). -/
def State.pairLink (s : State) : State :=
  if s.build = .atlas ∧ (s.recto.laceState 4 ≠ 2 ∨ s.verso.laceState 4 ≠ 2) then
    s.onStack .recto fun t => (t.put PINS.PAIR_STAT_SYNC_R 0).put PINS.PAIR_STAT_SYNC_V 0
  else s

/-- A marker on LACE_04 measures the other stack's device time for a house clock of KIND 4 (R494, R578). -/
def State.partnerTime (s : State) (k : Side) (n : Nat) : State :=
  let t := s.stack k; let o := s.stack (otherSide k)
  if s.build = .atlas ∧ t.houseKind = 4 ∧ (t.members 4).contains n = true ∧ t.laceState 4 = 2 ∧ o.laceState 4 = 2 ∧
      t.clk.started = true ∧ o.clk.started = true then
    s.putStack k (t.measure ((t.time : Int) - (o.time : Int)))
  else s

/-- The next state of a command that may move lanes: the media ports follow, and link 4 of the Atlas may leave Up. -/
def nextLink (s : State) (k : Side) (f : Stack → Stack) : Host.Outcome State Fault Refusal :=
  .next (s.onStack k fun t => (f t).syncPorts).pairLink

/-- LANE_ENABLE (R431): Setting LANE.CFG.ENABLE starts a lane's bring-up at stage 1. -/
def execLaneEnable (k : Side) (n v : Nat) (s : State) : Host.Outcome State Fault Refusal := nextLink s k (Stack.laneEnable n v)

/-- LANE_DISABLE (R434): Clearing LANE.CFG.ENABLE powers a lane down to Off. -/
def execLaneDisable (k : Side) (n : Nat) (s : State) : Host.Outcome State Fault Refusal := nextLink s k (Stack.laneDisable n)

/-- LANE_STAGE_COMPLETE (R432): A lane's bring-up stage completes, and the next stage or Ready follows. -/
def execLaneStageComplete (k : Side) (n : Nat) (inv : Bool) (height width : Nat) (s : State) : Host.Outcome State Fault Refusal :=
  nextLink s k (Stack.stageComplete n inv height width)

/-- LANE_STAGE_OVERRUN (R433): A bring-up stage overruns its limit; the attempt ends, or the lane goes to Failed. -/
def execLaneStageOverrun (k : Side) (n : Nat) (s : State) : Host.Outcome State Fault Refusal := nextLink s k (Stack.stageOverrun n)

/-- LANE_RESTART (R433): 100 µs after a failed attempt, the lane restarts at stage 1. -/
def execLaneRestart (k : Side) (n : Nat) (s : State) : Host.Outcome State Fault Refusal := nextLink s k (Stack.laneRestart n)

/-- LOSS_OF_SIGNAL (R434): A Ready lane loses signal for 1 µs and returns to stage 1. -/
def execLossOfSignal (k : Side) (n : Nat) (s : State) : Host.Outcome State Fault Refusal := nextLink s k (Stack.lossOfSignal n)

/-- SYNC_HEADER_ERRORS (R434): Sixteen invalid sync headers within 64 blocks return a Lacing lane to stage 3. -/
def execSyncHeaderErrors (k : Side) (n : Nat) (s : State) : Host.Outcome State Fault Refusal := nextLink s k (Stack.syncErrors n)

/-- REFERENCE_CLOCK_STOPPED (R434): A lane's reference clock stops, and the lane waits at stage 1 with cause REF. -/
def execReferenceClockStopped (k : Side) (q ab : Nat) (s : State) : Host.Outcome State Fault Refusal :=
  nextLink s k (Stack.refStopped q ab)

/-- REFERENCE_CLOCK_RUNS (R434): A lane reference clock that had stopped runs again, and the lane that waited at stage 1 goes on with its
bring-up. -/
def execReferenceClockRuns (k : Side) (q ab : Nat) (s : State) : Host.Outcome State Fault Refusal := nextLink s k (Stack.refRuns q ab)

/-- CLOCK_DEAD (R490): A monitored source has no edge for 4 vigil cycles, or a PLL loses lock, and is declared dead. -/
def execClockDead (k : Side) (n : Nat) (s : State) : Host.Outcome State Fault Refusal := nextLink s k (Stack.sourceDead n)

/-- LANE_LOOP (R440): A change of LANE.TEST.LOOP sets a loop and restarts the lane at stage 1. -/
def execLaneLoop (k : Side) (n v : Nat) (s : State) : Host.Outcome State Fault Refusal := nextLink s k (Stack.laneLoop n v)

/-- PRBS_GENERATOR (R440): TEST.GEN replaces the lane's transmit data with a PRBS pattern. -/
def execPrbsGenerator (k : Side) (n gen pattern : Nat) (s : State) : Host.Outcome State Fault Refusal :=
  nextStack s k (Stack.prbsGenerator n gen pattern)

/-- PRBS_CHECKER (R440): TEST.CHK compares the receive data with a pattern and counts errors. -/
def execPrbsChecker (k : Side) (n chk pattern : Nat) (lock : Bool) (errors : Nat) (s : State) : Host.Outcome State Fault Refusal :=
  nextStack s k (Stack.prbsChecker n chk pattern lock errors)

/-- LANE_INJECT (R440): TEST.INJECT inverts one transmitted bit. -/
def execLaneInject (k : Side) (n : Nat) (s : State) : Host.Outcome State Fault Refusal := nextStack s k (Stack.laneInject n)

/-- TRAINING_FRAME (R438): A Lacing training frame is received, and its polarity, lane and equalisation requests are acted on. -/
def execTrainingFrame (k : Side) (n : Nat) (inv : Bool) (f : Nat) (s : State) : Host.Outcome State Fault Refusal :=
  nextStack s k (Stack.trainingFrame n inv f)

/-- MARKER (R441): A Lacing marker block is received, checked and removed from the stream. -/
def execMarker (k : Side) (n f : Nat) (s : State) : Host.Outcome State Fault Refusal := nextStack s k (Stack.laneMarker n f)

/-- LACING_UNIT_RECEIVE (R444): A Lacing unit is received, checked, decrypted and accepted, or fails and is NAKed. -/
def execLacingUnitReceive (k : Side) (l seq : Nat) (guaranteed enc kp : Bool) (cls queue : Nat) (flits : List Nat) (tag ce : Nat)
    (broken : Bool) (far : Nat) (s : State) : Host.Outcome State Fault Refusal :=
  nextLink s k (Stack.unitReceive l seq guaranteed enc kp cls queue flits tag ce broken far)

/-- LACING_UNIT_SEND (R445): A Lacing sender sends a unit once it holds enough credits. -/
def execLacingUnitSend (k : Side) (l cls n : Nat) (s : State) : Host.Outcome State Fault Refusal := nextLink s k (Stack.unitSend l cls n)

/-- CREDIT (R446): A CREDIT block is received; it returns credits and acknowledges, or triggers a NAK resend. -/
def execCredit (k : Side) (l ack : Nat) (nak : Bool) (req rsp guar : Nat) (s : State) : Host.Outcome State Fault Refusal :=
  nextLink s k (Stack.credit l ack nak req rsp guar)

/-- CREDIT_SEND (R446): A receiver sends a CREDIT block with ACK_SEQ within 1 µs of an acceptance. -/
def execCreditSend (k : Side) (l : Nat) (s : State) : Host.Outcome State Fault Refusal := nextStack s k (Stack.creditSend l)

/-- NAK_REPEAT (R446): The NAK of a failed unit is repeated every 2 µs. -/
def execNakRepeat (k : Side) (l : Nat) (s : State) : Host.Outcome State Fault Refusal := nextStack s k (Stack.nakRepeat l)

/-- RESEND_TIMER (R446): ACK_SEQ has not advanced for LACE_TMO, and every unacknowledged unit is resent. -/
def execResendTimer (k : Side) (l : Nat) (s : State) : Host.Outcome State Fault Refusal := nextLink s k (Stack.resendTimer l)

/-- LACE_ENABLE (R447): Setting LACE_CTL.ENABLE moves a Lacing link from Down to Training. -/
def execLaceEnable (k : Side) (l : Nat) (s : State) : Host.Outcome State Fault Refusal := nextLink s k (Stack.laceEnable l)

/-- LACE_DISABLE (R447): Clearing LACE_CTL.ENABLE moves a Lacing link to Down. -/
def execLaceDisable (k : Side) (l : Nat) (s : State) : Host.Outcome State Fault Refusal := nextLink s k (Stack.laceDisable l)

/-- RETRAIN_TIMEOUT (R447): A retrain is not Up within 25 ms, and the link fails. -/
def execRetrainTimeout (k : Side) (l : Nat) (s : State) : Host.Outcome State Fault Refusal := nextLink s k (Stack.retrainTimeout l)

/-- RWIN_GO (R450): RWIN_CTL.GO sends a 4-byte read or write to the far device over Lacing. -/
def execRwinGo (k : Side) (l : Nat) (write : Bool) (s : State) : Host.Outcome State Fault Refusal := nextStack s k (Stack.rwinGo l write)

end Sys2Proof.Machine
end

