-- ==== Sys2Proof/Machine/Media.lean ====
section
/-! DEFINITION. Media ports: frames, flows, merging, transmission and SDI framers (R457 to R480). -/

namespace Sys2Proof.Machine

/-! ## Ports (R457, R458, R479) -/

/-- A write of a port's CFG with ENABLE 1: the port sets and enables its lanes, or stays down with FAIL (R458, R479). -/
def Stack.mportEnable (q v : Nat) (s : Stack) : Stack :=
  if s.flag (MPORT.CFG_ENABLE q) ∨ s.build.mports ≤ q then s
  else
    let t := ((s.put (MPORT.CFG_MODE q) v).put (MPORT.CFG_FEC q) (v / 16)).put (MPORT.CFG_HOST_UNMATCHED q) (v / 32)
    let t := t.put (MPORT.CFG_ENABLE q) 1
    match portMode (v % 16) with
    | Option.none => t.put (MPORT.STATUS_FAIL q) 1
    | some (_, rate) =>
      let l := t.portLanes q
      if !(l.all fun n => t.get (LANE.CFG_USE n) == 1) then t.put (MPORT.STATUS_FAIL q) 2
      else
        l.foldl (fun t n => ((t.put (LANE.CFG_RATE n) rate).put (LANE.CFG_PAM4 n) (b2n (decide (8 ≤ rate)))).laneEnabled n)
          (t.put (MPORT.STATUS_FAIL q) 0)

/-- A write of a port's CFG with ENABLE 0: the port and its lanes stop (R479). -/
def Stack.mportDisable (q : Nat) (s : Stack) : Stack :=
  if !s.flag (MPORT.CFG_ENABLE q) then s
  else
    let t := s.put (MPORT.CFG_ENABLE q) 0
    (t.portLanes q).foldl (fun t n => if t.get (LANE.CFG_USE n) = 1 then (t.put (LANE.CFG_ENABLE n) 0).laneOff n else t) t

/-! ## Flow tables (R464 to R466) -/

/-- A receive entry's live words. -/
def Stack.rxEntry (s : Stack) (q e : Nat) : List Nat :=
  [s.get (MPORT.RXENTW0_WORD q e), s.get (MPORT.RXENTW1_WORD q e), s.word (MPORT.RXENTW2 q e), s.word (MPORT.RXENTW3 q e)]

/-- VALID of a receive entry (R465). -/
def Stack.rxValid (s : Stack) (q e : Nat) : Bool := bit (s.word (MPORT.RXENTW2 q e)) 31

/-- The receive entry that a packet matches: the exact key, then the key with SRC_IP 0 (R465, R466). -/
def Stack.rxMatch (s : Stack) (q src dst port : Nat) : Option Nat :=
  let hit := fun ip e => s.rxValid q e && s.get (MPORT.RXENTW0_WORD q e) == ip && s.get (MPORT.RXENTW1_WORD q e) == dst &&
    s.word (MPORT.RXENTW2 q e) % 65536 == port
  match (List.range 512).find? (hit src) with
  | some e => some e
  | Option.none => (List.range 512).find? (hit 0)

/-- A receive flow. -/
def Stack.rxFlow (s : Stack) (f : Nat) : RxFlow := mapGet {} s.media.rx f

/-- A receive flow replaced. -/
def Stack.setRx (s : Stack) (f : Nat) (x : RxFlow) : Stack := { s with media := { s.media with rx := mapSet {} s.media.rx f x } }

/-- MERGE of a receive flow (R465). -/
def Stack.mergeOf (s : Stack) (f : Nat) : Nat := bits (s.word (MPORT.RXENTW3 (f / 1024) (f % 512))) 5 8

/-- The flow that assembles an entry's units: the first VALID entry of its merge unit, or itself (R472). -/
def Stack.leader (s : Stack) (f : Nat) : Nat :=
  let m := s.mergeOf f
  if m = 0 then f
  else
    let all := (List.range s.build.mports).flatMap fun q => (List.range 512).map fun e => 1024 * q + e
    (all.find? fun g => s.rxValid (g / 1024) (g % 512) && s.mergeOf g == m).getD f

/-! ## Parsing (R459, R460, R470, R471) -/

/-- A big-endian number of n bytes at an offset of a frame; bytes beyond the frame read 0. -/
def netNat (l : List Nat) (at_ n : Nat) : Nat := (List.range n).foldl (fun a i => a * 256 + l.getD (at_ + i) 0) 0

/-- Whether a frame carries one 802.1Q tag. -/
def tagged (l : List Nat) : Bool := netNat l 12 2 == 0x8100

/-- Offset of what follows a frame's EtherType. -/
def netOffset (l : List Nat) : Nat := if tagged l then 18 else 14

/-- EtherType of a frame, behind its tag. -/
def etherType (l : List Nat) : Nat := netNat l (netOffset l - 2) 2

/-- Whether the MAC discards a frame as bad: FCS, size, a second tag, or a pause frame (R458, R459). -/
def frameBad (l : List Nat) (fcsOk : Bool) : Bool :=
  !fcsOk || decide (l.length + 4 < 64) || decide (9216 < l.length + 4) || etherType l == 0x8100 || etherType l == 0x8808

/-- Whether an IPv4 frame is one that goes to the host path unparsed: a fragment or a header with options (R459). -/
def ipOdd (l : List Nat) : Bool :=
  let o := netOffset l
  l.getD o 0 != 0x45 || netNat l (o + 6) 2 % 0x4000 != 0

/-- Whether a frame is UDP over IPv4. -/
def isUdp (l : List Nat) : Bool := etherType l == 0x0800 && !ipOdd l && l.getD (netOffset l + 9) 0 == 17

/-- UDP destination port of a UDP frame. -/
def udpDst (l : List Nat) : Nat := netNat l (netOffset l + 22) 2

/-- Whether the MAC accepts a destination address (R459). -/
def Stack.macAccepts (s : Stack) (q : Nat) (l : List Nat) : Bool :=
  let mac := netNat l 0 6
  mac == s.get (MPORT.MAC_LO_MAC q) + 2 ^ 32 * s.get (MPORT.MAC_HI_MAC q) || mac == 2 ^ 48 - 1
  || ((List.range 512).any fun e => s.rxValid q e && mac == 0x01005E000000 + s.get (MPORT.RXENTW1_WORD q e) % 2 ^ 23)
  || ((List.range 16).any fun n => s.flag (MPORT.MFILTW1_VALID q n) &&
       mac == s.get (MPORT.MFILTW0_MAC_LO q n) + 2 ^ 32 * s.get (MPORT.MFILTW1_MAC_HI q n))

/-- The PTP message of a frame, if it is one (R460). -/
def ptpMessage (l : List Nat) : Option (List Nat) :=
  if etherType l = 0x88F7 then some (l.drop (netOffset l))
  else if isUdp l ∧ (udpDst l = 319 ∨ udpDst l = 320) then some (l.drop (netOffset l + 28))
  else Option.none

/-- Samples of `w` bits packed most significant bit first in bytes (R393, R470). -/
def unpackSamples (w : Nat) (l : List Nat) : List Nat :=
  (List.range (8 * l.length / w)).map fun x =>
    (List.range w).foldl (fun a i => let p := w * x + i; 2 * a + bits (l.getD (p / 8) 0) (7 - p % 8) 1) 0

/-! ## Units (R469) -/

/-- A unit's header codeword (R469). -/
def unitHeader (line : Nat) (sof prevInc : Bool) (port entry : Nat) (sdi : Bool) (ts seq : Nat) : Nat :=
  line % 2 ^ 16 + b2n sof * 2 ^ 16 + b2n prevInc * 2 ^ 17 + port % 8 * 2 ^ 18 + entry % 512 * 2 ^ 21 + b2n sdi * 2 ^ 30 +
  ts % 2 ^ 32 * 2 ^ 32 + seq % 2 ^ 32 * 2 ^ 64

/-- Sample words packed nine to a codeword. -/
def sampleWords : Nat → List Nat → List Nat
  | 0, _ => []
  | n + 1, l => packNine (l.take 9) :: sampleWords n (l.drop 9)

/-- Codewords packed four to a flit, the last flit padded with zeros (R469). -/
def packFlits : Nat → List Nat → List Nat
  | 0, _ => []
  | n + 1, l => unchunks (l.take 4) :: packFlits n (l.drop 4)

/-- A unit of samples: its header and its sample words (R102, R469). -/
def sampleUnit (header : Nat) (samples : List Nat) : List Nat :=
  let n := (samples.length + 8) / 9
  packFlits ((n + 4) / 4) (header :: sampleWords n samples)

/-- A unit of bytes, sixteen to a codeword (R471). -/
def byteUnit (header : Nat) (l : List Nat) : List Nat :=
  let n := (l.length + 15) / 16
  let words := (List.range n).map fun i => ofBytes (((l.drop (16 * i)).take 16).map (BitVec.ofNat 8))
  packFlits ((n + 4) / 4) (header :: words)

/-- A count of a flow that rises raises FLOW_LOSS (R479). -/
def Stack.flowLoss (s : Stack) (q n : Nat) : Stack := if n = 0 then s else s.raise (MPORT.INT_FLOW_LOSS q)

/-- Flits of a unit delivered to the receive buffer: what exceeds the flow's share or the buffer is discarded and counted (R473). -/
def Stack.deliver (s : Stack) (f queue : Nat) (flits : List Nat) : Stack :=
  let q := f / 1024
  let p := s.mport q
  let used := fun (l : List RxUnit) => l.foldl (fun a u => a + u.flits.length) 0
  let room := Nat.min (512 - used (p.buffer.filter fun u => u.flow == f)) (8192 - used p.buffer)
  let x := s.rxFlow f
  if x.skip then
    (s.setRx f { x with
      drop := satAdd 32 x.drop flits.length
      prevInc := true }).flowLoss q flits.length
  else
    let lost := flits.length - room
    let keep := flits.take room
    let t := if keep = [] then s else s.setMport q { p with buffer := p.buffer ++ [⟨f, queue, keep⟩] }
    (t.setRx f { x with
      drop := satAdd 32 x.drop lost
      prevInc := lost != 0 }).flowLoss q lost

/-! ## Video, audio and other payloads (R470, R471, R474) -/

/-- FORMAT of a flow: word 0 and word 1 (R480). -/
def Stack.format (s : Stack) (q n : Nat) : Nat × Nat := (s.word (MPORT.FMTW0 q n), s.word (MPORT.FMTW1 q n))

/-- Samples of a line of a video format (R470). -/
def lineSamples (fmt : Nat) : Nat := bits fmt 0 13 * (if bits fmt 13 2 = 1 then 3 else 2)

/-- Sample width of a video format. -/
def sampleWidth (fmt : Nat) : Nat := if bit fmt 15 then 12 else 10

/-- A frame starts on a flow with DEST 1: the port's interface injects a CURSOR for the next frame of its store ring, and the flits are held until
its answer; an error of the interface discards the frame (R328, R474). A frame of a flow with DEST 0 waits for no answer. -/
def Stack.startRing (s : Stack) (f : Nat) : Stack :=
  let q := f / 1024; let e := f % 512
  let w := s.word (MPORT.RXENTW3 q e)
  if !bit w 13 then
    let x := s.rxFlow f
    s.setRx f { x with
      hold := false
      skip := false }
  else
    let r := bits w 14 4
    let count := s.word (MPORT.SRINGW3 q r) % 65536
    let stride := s.get (MPORT.SRINGW2_WORD q r)
    let p := s.mport q
    let i := mapGet 0 p.rings r
    let base := s.get (MPORT.SRINGW0_WORD q r) + 2 ^ 32 * bits (s.word (MPORT.SRINGW1 q r)) 0 16
    let addr := base + (if count = 0 then 0 else i % count) * stride
    let n := mediaStop q
    let tag := ((List.range 1024).find? fun g => (s.ringTag n g).st == 0).getD 0
    let data := bits (s.word (MPORT.SRINGW1 q r)) 16 5 + stride / 64 * 256
    let t := Stack.inject 7 { src := n, tag := tag, addr := addr, data := data } 10 true (s.setMport q { p with rings := mapSet 0 p.rings r (i + 1) })
    let sent := (t.ringTag n tag).st != 0
    let t := t.setRx f { t.rxFlow f with
      hold := sent
      skip := !sent
      tag := tag }
    t.answered noAnswer [7, n, tag, addr, data]

/-- The line in progress of a flow is delivered, missing samples as 0 (R470). -/
def Stack.endLine (s : Stack) (f : Nat) : Stack :=
  let x := s.rxFlow f
  match x.row, x.ts with
  | some row, some ts =>
    let q := f / 1024; let e := f % 512
    let n := lineSamples (s.format q (bits (s.word (MPORT.RXENTW2 q e)) 20 4)).1
    let samples := (List.range n).map fun i => mapGet 0 x.samples i - 1
    let whole := decide (n ≤ x.samples.length)
    let hd := unitHeader row x.sof x.prevInc (x.origin / 1024) (x.origin % 512) false ts x.firstSeq
    let t := s.setRx f { x with
      row := Option.none
      samples := []
      sof := false
      prevInc := false }
    let t := t.deliver f (s.word (MPORT.RXENTW3 q e) % 32) (sampleUnit hd samples)
    t.setRx f { t.rxFlow f with prevInc := (t.rxFlow f).prevInc || !whole }
  | _, _ => s

/-- One row segment of a video packet: row, first sample and the samples (R470). -/
def Stack.rowSegment (s : Stack) (f origin ts seq row first : Nat) (samples : List Nat) : Stack :=
  let x := s.rxFlow f
  let s := if x.ts ≠ some ts ∨ x.row ≠ some row then s.endLine f else s
  let x := s.rxFlow f
  let newFrame := x.ts ≠ some ts
  let s := if newFrame then (s.setRx f { x with
      ts := some ts
      sof := true }).startRing f else s
  let x := s.rxFlow f
  let y := if x.row = some row then x else { x with
      row := some row
      firstSeq := seq
      origin := origin
      samples := [] }
  let put := (List.range samples.length).foldl (fun m i => mapSet 0 m (first + i) (samples.getD i 0 + 1)) y.samples
  let fmt := (s.format (f / 1024) (bits (s.word (MPORT.RXENTW2 (f / 1024) (f % 512))) 20 4)).1
  let kept := put.filter fun e => decide (e.1 < lineSamples fmt)
  let s := s.setRx f { y with samples := kept }
  if lineSamples fmt ≤ kept.length then s.endLine f else s

/-- The row headers of a video payload and their segments, at most three (R470). -/
def Stack.rowHeaders (s : Stack) (f origin ts seq fmt : Nat) (l : List Nat) : Nat → Nat → Nat → Stack
  | 0, _, _ => s
  | n + 1, at_, data =>
    let len := netNat l at_ 2
    let row := netNat l (at_ + 2) 2 % 32768
    let off := netNat l (at_ + 4) 2 % 32768
    let more := 32768 ≤ netNat l (at_ + 4) 2
    let smp := (unpackSamples (sampleWidth fmt) ((l.drop data).take len)).map (widen (sampleWidth fmt))
    let t := s.rowSegment f origin ts seq row (off * (if bits fmt 13 2 = 1 then 3 else 2)) smp
    if more then t.rowHeaders f origin ts seq fmt l n (at_ + 6) (data + len) else t

/-- Row headers of a video payload. -/
def rowCount (l : List Nat) : Nat := if netNat l 6 2 < 32768 then 1 else if netNat l 12 2 < 32768 then 2 else 3

/-- Audio samples of a payload as pairs of sample words (R101, R471). -/
def audioWords (width : Nat) (l : List Nat) : List Nat :=
  (unpackSamples width l).flatMap fun v => let p := audioPair width v; [p.1, p.2]

/-- The distance of sequence number n behind the newest, of `w` bits. -/
def seqBehind (w newest n : Nat) : Nat := (newest + 2 ^ w - n % 2 ^ w) % 2 ^ w

/-- The merger's view of a packet: 0 forwarded, 1 seen, 2 behind the window (R472). -/
def Merge.take (m : Merge) (w seq : Nat) : Merge × Nat :=
  match m.newest with
  | Option.none => ({ newest := some seq, seen := [seq] }, 0)
  | some top =>
    let d := seqBehind w top seq
    if 2 ^ (w - 1) ≤ d then
      ({ newest := some seq, seen := (m.seen.filter fun x => decide (seqBehind w seq x < 32768)) ++ [seq] }, 0)
    else if 32768 ≤ d then (m, 2)
    else if m.seen.contains seq then (m, 1)
    else ({ m with seen := m.seen ++ [seq] }, 0)

/-- A packet of a flow after the merge: its payload goes into units (R469 to R471). -/
def Stack.flowPayload (s : Stack) (own kind ts seq : Nat) (payload : List Nat) : Stack :=
  let f := s.leader own
  let q := f / 1024; let e := f % 512
  let queue := s.word (MPORT.RXENTW3 q e) % 32
  let fmt := s.format q (bits (s.word (MPORT.RXENTW2 q e)) 20 4)
  if kind = 0 then s.rowHeaders f own ts seq fmt.1 payload (rowCount payload) 2 (2 + 6 * rowCount payload)
  else
    let x := s.rxFlow f
    let gap := match x.lastSeq with
      | some l => decide ((l + 1) % 65536 ≠ seq % 65536)
      | Option.none => false
    let s := s.setRx f { x with
      lastSeq := some seq
      prevInc := false }
    let words := audioWords (if bit fmt.1 6 then 24 else 16) payload
    let hd := fun n => unitHeader n false (x.prevInc || gap) (own / 1024) (own % 512) false ts seq
    if kind = 1 then s.deliver f queue (sampleUnit (hd words.length) words)
    else s.deliver f queue (byteUnit (hd payload.length) payload)

/-- A UDP payload of a flow: its RTP header, the merge, and its payload (R470 to R472). -/
def Stack.flowPacket (s : Stack) (q e : Nat) (rtp : List Nat) : Stack :=
  let own := 1024 * q + e
  let kind := bits (s.word (MPORT.RXENTW2 q e)) 16 4
  let cc := rtp.getD 0 0 % 16
  let ext := if bit (rtp.getD 0 0) 4 then 4 + 4 * netNat rtp (14 + 4 * cc) 2 else 0
  let payload := rtp.drop (12 + 4 * cc + ext)
  let seq16 := netNat rtp 2 2
  let seq := if kind = 0 then netNat payload 0 2 * 65536 + seq16 else seq16
  let x := s.rxFlow own
  let s := s.setRx own { x with pkts := satAdd 32 x.pkts 1 }
  let m := s.mergeOf own
  let r := if m = 0 then ({}, 0) else (mapGet ({} : Merge) s.media.merges m).take (if kind = 0 then 32 else 16) seq
  let s := if m = 0 then s else { s with media := { s.media with merges := mapSet {} s.media.merges m r.1 } }
  let x := s.rxFlow own
  if r.2 = 1 then s.setRx own { x with dup := satAdd 32 x.dup 1 }
  else if r.2 = 2 then (s.setRx own { x with lost := satAdd 32 x.lost 1 }).flowLoss q 1
  else s.flowPayload own kind (netNat rtp 4 4) seq payload

/-! ## Received frames (R459 to R461) -/

/-- Words of a frame for the host, first byte in bits [7:0]. -/
def frameWords (l : List Nat) : List Nat := (List.range ((l.length + 3) / 4)).map fun i =>
  ofBytes (((l.drop (4 * i)).take 4).map (BitVec.ofNat 8))

/-- A frame for the host: four descriptor words and the frame, or discarded whole when the buffer lacks room (R461). -/
def Stack.hostFrame (s : Stack) (q : Nat) (l : List Nat) (event unmatched : Bool) : Stack :=
  let p := s.mport q
  let held := p.hrx.foldl (fun a w => a + w.length) 0
  let d0 := l.length % 16384 + b2n event * 65536 + b2n unmatched * 131072 + b2n (tagged l) * 262144
  let ts := if event then [s.time % 1000000000, s.seconds % 2 ^ 32, s.seconds / 2 ^ 32 % 65536] else [0, 0, 0]
  let words := d0 :: ts ++ frameWords l
  if 8192 < held + words.length then s.bump (MPORT.RX_HOST_DROP_COUNT q)
  else (s.setMport q { p with hrx := p.hrx ++ [words] }).raise (MPORT.INT_HRX q)

/-- A frame arrives on a port whose link is up: the first row of R460 that applies takes it. `ce` and `ue` FEC codewords of it were
corrected and uncorrectable (R458 to R461). -/
def Stack.frameReceive (q : Nat) (l : List Nat) (fcsOk : Bool) (ce ue : Nat) (s : Stack) : Stack :=
  if !s.flag (MPORT.STATUS_LINK q) then s
  else
    let s := (s.bump (MPORT.FEC_CE_COUNT q) ce).bump (MPORT.FEC_UE_COUNT q) ue
    if frameBad l fcsOk then s.bump (MPORT.RX_BAD_COUNT q)
    else if !s.macAccepts q l then s
    else
      let s := s.bump (MPORT.RX_FRAMES_COUNT q)
      let o := netOffset l
      match ptpMessage l with
      | some m => s.hostFrame q l (decide (m.getD 0 0 % 16 ≤ 3)) false
      | Option.none =>
        if etherType l = 0x0806 ∨ etherType l = 0x86DD ∨ (etherType l = 0x0800 ∧ (ipOdd l ∨ l.getD (o + 9) 0 = 1 ∨ l.getD (o + 9) 0 = 2)) then
          s.hostFrame q l false false
        else
          let hit := if isUdp l then s.rxMatch q (netNat l (o + 12) 4) (netNat l (o + 16) 4) (udpDst l) else Option.none
          match hit with
          | some e => s.flowPacket q e ((l.drop (o + 28)).take (netNat l (o + 24) 2 - 8))
          | Option.none =>
            if s.flag (MPORT.CFG_HOST_UNMATCHED q) then s.hostFrame q l false true else s.bump (MPORT.RX_UNMATCHED_COUNT q)

/-- The first unit of a flow in a buffer, and the buffer without it. -/
def takeUnit (f : Nat) : List RxUnit → Option (RxUnit × List RxUnit)
  | [] => Option.none
  | u :: t => if u.flow = f then some (u, t) else (takeUnit f t).map fun r => (r.1, u :: r.2)

/-- Flits of a flow's first unit enter its queue while the queue has room; units are not mixed in a queue (R469, R473, R474). -/
def Stack.bufferDrain (q e : Nat) (s : Stack) : Stack :=
  let f := 1024 * q + e
  let p := s.mport q
  match takeUnit f p.buffer with
  | Option.none => s
  | some (u, rest) =>
    let stop := mediaStop q
    let ok := 32 * stop + u.queue
    let owner := mapGet 0 s.media.owner ok
    if (s.rxFlow f).hold ∨ (owner ≠ 0 ∧ owner ≠ f + 1) then s
    else
      let room := s.queueDepth 0 stop u.queue - (s.queueFlits 0 stop u.queue).length
      let go := u.flits.take room
      let left := u.flits.drop room
      if go = [] then s
      else
        let t := (s.pushQueue 0 stop u.queue go).setMport q { p with
          buffer := if left = [] then rest else { u with flits := left } :: rest }
        { t with media := { t.media with owner := mapSet 0 t.media.owner ok (if left = [] then 0 else f + 1) } }

/-- The answer to a port's CURSOR: OK lets the frame's flits go; any other discards that frame (R474). -/
def Stack.cursorAnswer (n tag status : Nat) (s : Stack) : Stack :=
  if n ≠ 11 ∧ n ≠ 12 then s
  else match s.media.rx.find? fun e => e.2.hold && e.2.tag == tag && mediaStop (e.1 / 1024) == n with
    | Option.none => s
    | some (f, x) =>
      if status = 0 then s.setRx f { x with hold := false }
      else
        let p := s.mport (f / 1024)
        let gone := (p.buffer.filter fun u => u.flow == f).foldl (fun a u => a + u.flits.length) 0
        let t := s.setMport (f / 1024) { p with buffer := p.buffer.filter fun u => u.flow != f }
        (t.setRx f { x with
          hold := false
          skip := true
          prevInc := true
          drop := satAdd 32 x.drop gone }).flowLoss (f / 1024) gone

/-- An entry that changes while a line is in progress loses the rest of the line; its next header carries PREV_INC (R468). -/
def Stack.flowChanged (s : Stack) (f : Nat) : Stack :=
  let x := s.rxFlow f
  if x.row = Option.none then s
  else s.setRx f { x with
    row := Option.none
    samples := []
    prevInc := true }

/-! ## Host path (R461, R462) -/

/-- A read of HRX_DATA: the next word, 0 when none is held (R461). -/
def Stack.hrxRead (q : Nat) (s : Stack) : Stack :=
  let p := s.mport q
  match p.hrx with
  | [] => s.answered 0 [0]
  | w :: t =>
    let rest := w.drop 1
    (s.setMport q { p with hrx := if rest = [] then t else rest :: t }).answered 0 [w.headD 0]

/-- A write of HTX_DATA: one more word of the frame, ignored when no word is free (R462). -/
def Stack.htxWrite (q v : Nat) (s : Stack) : Stack :=
  let p := s.mport q
  if 4096 ≤ p.htx.length then s
  else (s.setMport q { p with htx := p.htx ++ [v % 2 ^ 32] }).put (MPORT.HTX_STATUS_SPACE q) (4095 - p.htx.length)

/-- GO of HTX_CTL: the frame is sent, or waits for the link; while BUSY the write sets OVERRUN and is ignored (R462, R479). -/
def Stack.htxGo (q len : Nat) (tsReq : Bool) (s : Stack) : Stack :=
  if s.flag (MPORT.HTX_STATUS_BUSY q) then s.raise (MPORT.HTX_STATUS_OVERRUN q)
  else
    let t := (s.put (MPORT.HTX_CTL_LEN q) len).put (MPORT.HTX_CTL_TS_REQ q) (b2n tsReq)
    if t.flag (MPORT.STATUS_LINK q) then t.hostSend q else t.put (MPORT.HTX_STATUS_BUSY q) 1

/-! ## Transmission (R475, R476, R478) -/

/-- A transmit entry's live words. -/
def Stack.txWord (s : Stack) (q e w : Nat) : Nat :=
  if w = 0 then s.get (MPORT.TXENTW0_WORD q e) else if w = 1 then s.get (MPORT.TXENTW1_WORD q e)
  else if w = 2 then s.get (MPORT.TXENTW2_WORD q e) else s.get (MPORT.TXENTW3_WORD q e)

/-- The VALID transmit entries of a stop with a channel: (port, entry). -/
def Stack.txEntries (s : Stack) (stop chan : Nat) : List (Nat × Nat) :=
  ((List.range s.build.mports).filter fun q => mediaStop q == stop).flatMap fun q =>
    ((List.range 512).filter fun e => bit (s.txWord q e 2) 31 && s.txWord q e 2 % 32 == chan).map fun e => (q, e)

/-- A transmit flow. -/
def Stack.txFlow (s : Stack) (q e : Nat) : TxFlow := mapGet {} s.media.tx (512 * q + e)

/-- A transmit flow replaced. -/
def Stack.setTx (s : Stack) (q e : Nat) (x : TxFlow) : Stack :=
  { s with media := { s.media with tx := mapSet {} s.media.tx (512 * q + e) x } }

/-- Sample words of a unit's flits, codeword 0 of the first flit being its header (R102, R469). -/
def unitSamples (flits : List Nat) : List Nat :=
  ((flits.flatMap chunks).drop 1).flatMap fun c => (List.range 9).map (sampleOf c)

/-- Bytes of a unit's flits after the header. -/
def unitBytes (flits : List Nat) : List Nat := ((flits.flatMap chunks).drop 1).flatMap fun c => (toBytes 16 c).map BitVec.toNat

/-- Samples of `w` bits packed into bytes, most significant bit first. -/
def packSamples (w : Nat) (l : List Nat) : List Nat :=
  (List.range ((w * l.length + 7) / 8)).map fun b =>
    (List.range 8).foldl (fun a i => let p := 8 * b + i; 2 * a + bits (l.getD (p / w) 0) (w - 1 - p % w) 1) 0

/-- Samples of a pixel group: 2 or 4 pixels (R475). -/
def groupSamples (fmt : Nat) : Nat := if bits fmt 13 2 = 1 then (if bit fmt 15 then 6 else 12) else 4

/-- The sizes, in pixel groups, of n packets as equal as they can be, the larger first (R475). -/
def packetSizes (groups n : Nat) : List Nat := (List.range n).map fun i => groups / n + (if i < groups % n then 1 else 0)

/-- Packets of a video line: offset in pixels and bytes (R475). -/
def linePackets (fmt : Nat) (samples : List Nat) : List (Nat × List Nat) :=
  let w := sampleWidth fmt; let g := groupSamples fmt
  let groups := (lineSamples fmt + g - 1) / g
  let n := Nat.max 1 (((lineSamples fmt * w + 7) / 8 + 1199) / 1200)
  let sizes := packetSizes groups n
  (List.range n).map fun i =>
    let first := g * ((sizes.take i).foldl (· + ·) 0)
    let part := (samples.drop first).take (g * sizes.getD i 0)
    (first / (if bits fmt 13 2 = 1 then 3 else 2), packSamples w (part.map (narrow w)))

/-- Frame period of a raster in nanoseconds, from one frame start to the next (R499). -/
def Stack.framePeriod (s : Stack) (r : Nat) : Nat :=
  let f := s.frameAt r s.time
  s.positionTime r (f + 1) 0 0 - s.positionTime r f 0 0

/-- A new frame on a transmit channel: its start and its RTP timestamp (R475, R476). -/
def Stack.txFrame (s : Stack) (c : TxChan) (raster : Nat) (fromHeader : Bool) (ts rate : Nat) : TxChan :=
  let t0 := if s.rasterRunning raster then s.positionTime raster (s.frameAt raster s.time) 0 0 else s.time
  { c with
    start := t0
    ts := if fromHeader then ts else t0 * rate / 1000000000 % 2 ^ 32
    next := 0 }

/-- A unit arrives from a transmit channel: it is narrowed and packed into packets for every entry of the channel, and handed to the SDI
framers of the channel (R475 to R477). -/
def Stack.transmitUnit (stop chan : Nat) (flits : List Nat) (s : Stack) : Stack :=
  let v := flits.headD 0
  let samples := unitSamples flits
  let feed := fun (s : Stack) (q n : Nat) =>
    if s.flag (MPORT.SDI_CTL_ENABLE q n) ∧ s.get (MPORT.SDI_CTL_CHAN q n) = chan then
      let p := s.mport q
      s.setMport q { p with sdi := mapSet [] p.sdi n (mapGet [] p.sdi n ++ [samples]) }
    else s
  let s := ((List.range s.build.mports).filter fun q => mediaStop q == stop).foldl (fun s q => (List.range 4).foldl (fun s n => feed s q n) s) s
  match s.txEntries stop chan with
  | [] => s
  | (q0, e0) :: _ =>
    if !s.flowsRun then s
    else
      let w2 := s.txWord q0 e0 2
      let kind := bits w2 5 4
      let fmt := s.format q0 (bits w2 9 4)
      let raster := bits w2 15 2
      let key := 32 * stop + chan
      let c := mapGet ({} : TxChan) s.media.chans key
      let sof := bit v 16 || kind != 0
      let c := if sof then s.txFrame c raster (bit w2 17) (bits v 32 32) (if kind = 1 then 48000 else 90000) else c
      let r := match c.seq with
        | some n => (s, n)
        | Option.none => (s.draw, s.freeNat)
      let s := r.1
      let line := bits v 0 16
      let height := bits fmt.1 16 13
      let size := if kind = 0 then lineSamples fmt.1 else 2 * (bits fmt.1 0 6 + 1) * (if bit fmt.1 7 then 6 else 48)
      let cut := kind ≤ 1 && (if kind = 0 then decide ((9 + size + 35) / 36 < flits.length) else decide (size < line))
      let parts : List (Nat × List Nat) :=
        if kind = 0 then linePackets fmt.1 (samples.take size)
        else if kind = 1 then
          let n := Nat.min line size / 2
          let width := if bit fmt.1 6 then 24 else 16
          [(0, packSamples width ((List.range n).map fun i => (samples.getD (2 * i) 0 * 2 ^ 14 + samples.getD (2 * i + 1) 0) / 2 ^ (28 - width)))]
        else if kind = 2 then [(0, (unitBytes flits).take line)]
        else []
      let npk := Nat.max 1 (parts.length * height)
      let period := s.framePeriod raster
      let total := Nat.max 1 (bits fmt.2 0 11)
      let pacing := bits w2 13 2
      let trs := if pacing = 1 then period / npk else period * height / total / npk
      let tro := if kind = 0 then bits fmt.2 16 5 * (period / total) else 0
      let packet := fun (i : Nat) =>
        let at_ := if kind = 0 then c.start + tro + (c.next + i) * trs - (if pacing = 2 then 4 * trs else 0) else s.time
        let p := parts.getD i (0, [])
        let marker := b2n (kind != 0 || (line + 1 == height && i + 1 == parts.length))
        TxPacket.mk at_ ([marker, (r.2 + i) % 2 ^ (if kind = 0 then 32 else 16), c.ts, line, p.1] ++ p.2)
      let packets := (List.range parts.length).map packet
      let c := { c with
        seq := some (r.2 + parts.length)
        next := c.next + parts.length }
      let s := { s with media := { s.media with chans := mapSet {} s.media.chans key c } }
      (s.txEntries stop chan).foldl (fun s p =>
        let x := s.txFlow p.1 p.2
        (s.setTx p.1 p.2 { x with
          packets := x.packets ++ packets
          drop := satAdd 32 x.drop (b2n cut) }).flowLoss p.1 (b2n cut)) s

/-- The fields of a flow packet as it is sent: destination and source MAC, tag, IP, UDP and RTP fields, then the payload (R475). -/
def Stack.packetOut (s : Stack) (q e : Nat) (p : TxPacket) : List Nat :=
  let dst := s.txWord q e 0
  let mac := if 0xE0 ≤ dst / 2 ^ 24 ∧ dst / 2 ^ 24 < 0xF0 then 0x01005E000000 + dst % 2 ^ 23
    else s.get (MPORT.NEXTHOP_LO_MAC q) + 2 ^ 32 * s.get (MPORT.NEXTHOP_HI_MAC q)
  let w2 := s.txWord q e 2
  let tag := if s.flag (MPORT.TXHDR_TAG q) then [1, s.get (MPORT.TXHDR_PCP q), s.get (MPORT.TXHDR_VID q)] else [0, 0, 0]
  [mac, s.get (MPORT.MAC_LO_MAC q) + 2 ^ 32 * s.get (MPORT.MAC_HI_MAC q)] ++ tag ++
  [bits w2 18 6, s.get (MPORT.TXHDR_TTL q), s.get (MPORT.IPV4_ADDR q), dst, bits (s.txWord q e 1) 16 16, bits (s.txWord q e 1) 0 16,
    bits w2 24 7, s.txWord q e 3] ++ p.fields

/-- The release time of a flow's next packet arrives: the packet is sent, or, when its data has not arrived, counted late and sent when
the data arrives (R476). -/
def Stack.packetRelease (q e : Nat) (s : Stack) : Stack :=
  let x := s.txFlow q e
  if !bit (s.txWord q e 2) 31 ∨ !s.flowsRun then s
  else match x.packets with
    | [] => (s.setTx q e { x with
        lost := satAdd 32 x.lost 1
        late := x.late + 1 }).flowLoss q 1
    | p :: t =>
      if x.late = 0 ∧ s.time < p.release then s
      else
        let s := s.setTx q e { x with
          packets := t
          late := x.late - 1
          pkts := satAdd 32 x.pkts 1 }
        if s.flag (MPORT.STATUS_LINK q) then (s.bump (MPORT.TX_FRAMES_COUNT q)).answered 0 (s.padOutput (s.portLanes q) (s.packetOut q e p)) else s

/-! ## SDI (R477) -/

/-- A write of SDI_CTL: ENABLE 1 starts the framer and sets its lane's rate, ENABLE 0 stops it; while ENABLE is 1 the other fields are
ignored (R477, R479). -/
def Stack.sdiEnable (q n v : Nat) (s : Stack) : Stack :=
  if s.build.mports ≤ q then s
  else if s.flag (MPORT.SDI_CTL_ENABLE q n) then
    if bit v 31 then s
    else
      let p := s.mport q
      let t := ((s.put (MPORT.SDI_CTL_ENABLE q n) 0).put (MPORT.SDI_STAT_LOCKED q n) 0).put (MPORT.SDI_STAT_PID_VALID q n) 0
      t.setMport q { p with sdi := mapSet [] p.sdi n [] }
  else
    let t := ((s.put (MPORT.SDI_CTL_RATE q n) v).put (MPORT.SDI_CTL_FRAC q n) (v / 4)).put (MPORT.SDI_CTL_RAW q n) (v / 8)
    let t := ((t.put (MPORT.SDI_CTL_QUEUE q n) (v / 16)).put (MPORT.SDI_CTL_ANC_QUEUE q n) (v / 2 ^ 9)).put (MPORT.SDI_CTL_CHAN q n) (v / 2 ^ 14)
    let t := (t.put (MPORT.SDI_CTL_RASTER q n) (v / 2 ^ 19)).put (MPORT.SDI_CTL_ENABLE q n) (v / 2 ^ 31)
    let lane := 4 * q + n
    if bit v 31 ∧ t.get (LANE.CFG_USE lane) = 2 ∧ !t.flag (LANE.CFG_ENABLE lane) ∧ v % 4 < 3 then
      (t.put (LANE.CFG_RATE lane) (if v % 4 = 0 then 1 else if v % 4 = 1 then 2 else 4)).put (LANE.CFG_FRAC lane) (v / 4)
    else t

/-- Whether an SDI framer works: enabled on a Ready lane with USE 2 (R430, R477). -/
def Stack.sdiRuns (s : Stack) (q n : Nat) : Bool :=
  s.flag (MPORT.SDI_CTL_ENABLE q n) && s.get (MPORT.SDI_CTL_RATE q n) != 3 && s.get (LANE.CFG_USE (4 * q + n)) == 2 &&
    s.laneStage (4 * q + n) == 8

/-- An SDI line arrives: its picture goes to QUEUE, its ancillary bytes to ANC_QUEUE, its identifier to SDI_PID; as the house
reference its lock and its frame start steer the house clock (R469, R477, R495, R497). The RTP
timestamp and the sequence number of its header are free values: SDI carries neither. -/
def Stack.sdiLine (q n row : Nat) (sof crcOk : Bool) (pid : Option Nat) (codes anc : List Nat) (s : Stack) : Stack :=
  if !s.sdiRuns q n then s
  else
    let f := 1024 * q + 512 + n
    let s := if s.flag (MPORT.SDI_STAT_LOCKED q n) then s else (s.put (MPORT.SDI_STAT_LOCKED q n) 1).raise (MPORT.INT_SDI q)
    let s := if s.houseKind = 2 ∧ s.houseIndex = 4 * q + n then (if sof then s.acquire.frameMeasure else s.acquire) else s
    let s := s.put (MPORT.SDI_STAT_RATE q n) (s.get (MPORT.SDI_CTL_RATE q n))
    let s := if crcOk then s else (s.bump (MPORT.SDI_ERR_CRC q n)).raise (MPORT.INT_SDI q)
    let s := match pid with
      | some v => (s.put (MPORT.SDI_PID_PID q n) v).put (MPORT.SDI_STAT_PID_VALID q n) 1
      | Option.none => s
    let ts := s.freeNat
    let s := s.draw
    let seq := s.freeNat
    let s := s.draw
    let prev := (s.rxFlow f).prevInc
    let s := if codes = [] then s
      else s.deliver f (s.get (MPORT.SDI_CTL_QUEUE q n)) (sampleUnit (unitHeader row sof prev q n true ts seq) (codes.map (widen 10)))
    if anc = [] then s
    else s.deliver f (s.get (MPORT.SDI_CTL_ANC_QUEUE q n)) (byteUnit (unitHeader anc.length false prev q n true ts seq) anc)

/-- A line falls due on an SDI framer's raster: its unit is sent, or black, counted late (R477, R478). `black` is the number of samples of
a line of the mapping. -/
def Stack.sdiTransmit (q n black : Nat) (s : Stack) : Stack :=
  if !s.sdiRuns q n ∨ !s.flowsRun then s
  else
    let p := s.mport q
    match mapGet [] p.sdi n with
    | u :: t =>
      (s.setMport q { p with sdi := mapSet [] p.sdi n t }).answered 0 (s.padOutput [4 * q + n] (s.get (MPORT.SDI_TXPID_PID q n) :: u.map (narrow 10)))
    | [] =>
      let line := (List.range black).map fun i => if i % 2 = 0 then 512 else 64
      ((s.bump (MPORT.SDI_ERR_LATE q n)).raise (MPORT.INT_SDI q)).answered 0 (s.padOutput [4 * q + n] (s.get (MPORT.SDI_TXPID_PID q n) :: line))

/-! ## Commands -/

/-- MPORT_ENABLE (R458): Setting MPORT.CFG.ENABLE starts a media port and its lanes, or leaves it down with FAIL. -/
def execMportEnable (k : Side) (q v : Nat) (s : State) : Host.Outcome State Fault Refusal := nextLink s k (Stack.mportEnable q v)

/-- MPORT_DISABLE (R479): Clearing MPORT.CFG.ENABLE stops a media port and its lanes. -/
def execMportDisable (k : Side) (q : Nat) (s : State) : Host.Outcome State Fault Refusal := nextLink s k (Stack.mportDisable q)

/-- FRAME_RECEIVE (R460): A received Ethernet frame goes to the host path or a flow, or is discarded. -/
def execFrameReceive (k : Side) (q : Nat) (frame : List Nat) (fcsOk : Bool) (ce ue : Nat) (s : State) : Host.Outcome State Fault Refusal :=
  nextStack s k (Stack.frameReceive q frame fcsOk ce ue)

/-- RECEIVE_BUFFER_DRAIN (R473): A flow's buffered flits enter its guaranteed queue when the queue has room. -/
def execReceiveBufferDrain (k : Side) (q e : Nat) (s : State) : Host.Outcome State Fault Refusal := nextStack s k (Stack.bufferDrain q e)

/-- HRX_DATA_READ (R461): A read of HRX_DATA takes the next host receive word. -/
def execHrxDataRead (k : Side) (q : Nat) (s : State) : Host.Outcome State Fault Refusal := nextStack s k (Stack.hrxRead q)

/-- HTX_DATA_WRITE (R462): A write of HTX_DATA adds a word to the host frame being built. -/
def execHtxDataWrite (k : Side) (q v : Nat) (s : State) : Host.Outcome State Fault Refusal := nextStack s k (Stack.htxWrite q v)

/-- HOST_FRAME_SEND (R462): HTX_CTL.GO sends a host frame, with a transmit timestamp if requested. -/
def execHostFrameSend (k : Side) (q len : Nat) (tsReq : Bool) (s : State) : Host.Outcome State Fault Refusal :=
  nextStack s k (Stack.htxGo q len tsReq)

/-- FLOW_PACKET_RELEASE (R476): The pacer's release time for a flow packet arrives, and the packet is sent, or counted late. -/
def execFlowPacketRelease (k : Side) (q e : Nat) (s : State) : Host.Outcome State Fault Refusal := nextStack s k (Stack.packetRelease q e)

/-- TRANSMIT_UNIT (R475): A unit arrives from a transmit channel and is narrowed and packed into packets. -/
def execTransmitUnit (k : Side) (stop chan : Nat) (flits : List Nat) (s : State) : Host.Outcome State Fault Refusal :=
  nextStack s k (Stack.transmitUnit stop chan flits)

/-- SDI_ENABLE (R477): SDI_CTL.ENABLE starts or stops an SDI framer on its lane. -/
def execSdiEnable (k : Side) (q n v : Nat) (s : State) : Host.Outcome State Fault Refusal := nextStack s k (Stack.sdiEnable q n v)

/-- SDI_LINE_RECEIVE (R477): An SDI line is received and its picture and ancillary data are delivered. -/
def execSdiLineReceive (k : Side) (q n row : Nat) (sof crcOk : Bool) (pid : Option Nat) (codes anc : List Nat) (s : State) :
    Host.Outcome State Fault Refusal := nextStack s k (Stack.sdiLine q n row sof crcOk pid codes anc)

/-- SDI_LINE_TRANSMIT (R477): An SDI line falls due on its raster and is sent, or sent as black if late. -/
def execSdiLineTransmit (k : Side) (q n black : Nat) (s : State) : Host.Outcome State Fault Refusal :=
  nextStack s k (Stack.sdiTransmit q n black)

end Sys2Proof.Machine
end

