-- ==== Sys2Proof/Machine/Pins.lean ====
section
/-! DEFINITION. Pins: functions, input signals and conflicts, the pin lock, timestamps and bank peripherals (R553 to R571). -/

namespace Sys2Proof.Machine

/-! ## Functions and signals (R553, R555) -/

/-- The bits of word w that name pins of the build (R570). -/
def Build.pinMask (b : Build) (w v : Nat) : Nat := if 32 * w < b.pins then v % 2 ^ 32 else 0

/-- The bank input signal that a function takes from position p: 0 MISO, 1 SCL, 2 SDA, 3 RX, 4 CTS_N, 5 LTC reader (R555). -/
def bankInput (func p : Nat) : Option Nat :=
  match func with
  | 2 => if p % 8 = 2 then some 0 else Option.none
  | 3 => some (1 + p % 2)
  | 4 => if p % 4 = 1 then some 3 else if p % 4 = 3 then some 4 else Option.none
  | 7 => some 5
  | _ => Option.none

/-- The idle level of a bank input signal (R558). -/
def idleLevel (sig : Nat) : Bool := 1 ≤ sig && sig ≤ 4

/-- The bank output or open-drain signal without fan-out that a function puts on position p: SPI signals by p mod 8, then SCL, SDA, TX
and RTS_N (R555). -/
def bankOutput (func p : Nat) : Option Nat :=
  match func with
  | 2 => if p % 8 = 2 then Option.none else some (p % 8)
  | 3 => some (8 + p % 2)
  | 4 => if p % 4 = 0 then some 10 else if p % 4 = 2 then some 11 else Option.none
  | _ => Option.none

/-- Whether a function takes an input signal from its pin (R555). -/
def takesInput (func p : Nat) : Bool := func == 1 || func == 5 || func == 9 || func == 11 || (bankInput func p).isSome

/-- Whether a function drives its pad without fan-out, given DIR (R555, R557). -/
def drivesAlone (func dir p : Nat) : Bool := (func == 0 && dir == 1) || func == 1 || func == 6 || (bankOutput func p).isSome

/-- The bank signal that a function selects at a pin of a stack in some view of the registers. -/
def pinSignal (sig : Nat → Nat → Option Nat) (view : Field → Nat) (n : Nat) : Option Nat := sig (view (PINS.PIN_FUNC n)) (n % 16)

/-- The pins of a bank that select a signal (R557, R558). -/
def selecting (sig : Nat → Nat → Option Nat) (view : Field → Nat) (b c : Nat) : List Nat :=
  ((List.range 16).map (16 * b + ·)).filter fun n => pinSignal sig view n == some c

/-- Whether another pin of its bank selects the signal that pin n selects. -/
def shared (sig : Nat → Nat → Option Nat) (view : Field → Nat) (n : Nat) : Bool :=
  match pinSignal sig view n with
  | some c => decide (2 ≤ (selecting sig view (n / 16) c).length)
  | Option.none => false

/-! ## The Atlas crossbar (R562, R563) -/

/-- The virtual pin that a physical pin's crossbar entry names, in a view of recto's registers: its stack and number (R562). -/
def xbarTarget (view : Field → Nat) (m : Nat) : Option (Side × Nat) :=
  if view (PINS.XBAR_VALID m) = 0 then Option.none
  else
    let active : Side := if view PINS.PAIR_ACTIVE = 1 then .verso else .recto
    let side : Side := match view (PINS.XBAR_SIDE m) with
      | 0 => .recto
      | 1 => .verso
      | 2 => active
      | _ => otherSide active
    some (side, view (PINS.XBAR_VPIN m))

/-- The physical pins that name a virtual pin: in the Octavo and Quarto the pin itself (R555, R562). -/
def State.padsOf (s : State) (k : Side) (n : Nat) : List Nat :=
  if s.build = .atlas then (List.range 192).filter fun m => xbarTarget s.recto.get m == some (k, n) else [n]

/-! ## Conflicts (R558, R563) -/

/-- Whether pin n of a stack is in conflict: an input signal that two pins select, or that two physical pins deliver to it. -/
def State.inConflict (s : State) (k : Side) (n : Nat) : Bool :=
  let v := (s.stack k).get
  shared bankInput v n || (takesInput (v (PINS.PIN_FUNC n)) (n % 16) && decide (2 ≤ (s.padsOf k n).length))

/-- Bits of a word of pins for which a test holds. -/
def pinWord (w : Nat) (p : Nat → Bool) : Nat := (List.range 32).foldl (fun v i => if p (32 * w + i) then v + 2 ^ i else v) 0

/-- CONFLICT bits set for a stack while conflicts last; a newly set one raises the event (R558). -/
def State.syncConflicts (s : State) (k : Side) : State :=
  (List.range 3).foldl (fun s w =>
    let t := s.stack k
    let old := t.get (PINS.CONFLICT_CONFLICT w)
    let new := old ||| pinWord w fun n => decide (n < s.build.pins) && s.inConflict k n
    if new = old then s else s.putStack k ((t.put (PINS.CONFLICT_CONFLICT w) new).raise PINS.INT_CONFLICT)) s

/-- The level of a bank input signal: the pad's when exactly one pin selects it and there is no conflict, else idle (R558). -/
def State.inputLevel (s : State) (k : Side) (b c : Nat) : Bool :=
  match selecting bankInput (s.stack k).get b c with
  | [n] => if s.inConflict k n ∨ (s.padsOf k n).isEmpty then idleLevel c else mapGet false (s.stack k).pins.levels n
  | _ => idleLevel c

/-- Whether a bank input signal reaches its peripheral from a pad (R558). -/
def State.inputWired (s : State) (k : Side) (b c : Nat) : Bool :=
  match selecting bankInput (s.stack k).get b c with
  | [n] => !s.inConflict k n && !(s.padsOf k n).isEmpty
  | _ => false

/-! ## The level of a pad (R559, R562, R564) -/

/-- The safe-state code of a physical pin in recto's device configuration record (R565). -/
def State.pinSafe (s : State) (m : Nat) : Nat := s.recto.pinSafe m

/-- The level of the pad behind virtual pin n of a stack: what the device drives there, else what the board brings (R559, R564). A virtual
pin without a pad reads 0 (R562). -/
def State.padLevel (s : State) (k : Side) (n : Nat) (free : Bool) : Bool :=
  let t := s.stack k
  let board := mapGet false t.pins.levels n
  match s.padsOf k n with
  | [] => false
  | m :: _ =>
    t.padValue s.recto.jtag.ir (mapGet 0 s.recto.jtag.boundary (if s.build = .atlas then m else n)) (s.pinSafe m) m board (t.pinDrive t.level n free)

/-- The pads that the crossbar gives a stack's virtual pins, as `Pins.pads` holds them (R562, R565, R591). -/
def State.padMap (s : State) (k : Side) : Sparse Nat :=
  if s.build = .atlas then (List.range s.build.pins).foldl (fun l n => match s.padsOf k n with
    | [] => l
    | m :: _ => mapSet 0 l n (1 + m + 256 * s.pinSafe m + 1024 * (if drivesPins s.recto.jtag.ir then mapGet 0 s.recto.jtag.boundary m else 0))) []
  else []

/-- Every stack's pins follow the crossbar (R562, R563). -/
def State.readPads (s : State) : State := s.onBoth fun t => { t with pins := { t.pins with pads := s.padMap t.side } }

/-! ## The open-drain outputs of the package (R569) -/

/-- TRIP_N: low from a hardware trip until the next Dawn (R522, R569). -/
def State.tripN (s : State) : Bool :=
  let p := fun (t : Stack) => t.power.trip == 0
  p s.recto && (s.build != .atlas || p s.verso)

/-- ALERT_N: low while the mode is Haven or while a stack's THERM CRITICAL bit is set (R569). -/
def State.alertN (s : State) : Bool :=
  let p := fun (t : Stack) => t.mode != .haven && !t.flag THERM.INT_CRITICAL
  p s.recto && (s.build != .atlas || p s.verso)

/-! ## Software GPIO and tallies (R555, R559, R570) -/

/-- Any write to the block but the awaited one disarms the key (R560). -/
def Stack.disarmKey (s : Stack) : Stack := s.put PINS.LOCK_STATUS_ARMED 0

/-- GPIO_OUT written (R559). -/
def Stack.gpioOut (w v : Nat) (s : Stack) : Stack := s.disarmKey.put (PINS.GPIO_OUT_OUT w) (s.build.pinMask w v)

/-- OUT_SET written (R570). -/
def Stack.outSet (w v : Nat) (s : Stack) : Stack := s.gpioOut w (s.get (PINS.GPIO_OUT_OUT w) ||| v)

/-- OUT_CLR written (R570). -/
def Stack.outClr (w v : Nat) (s : Stack) : Stack :=
  let o := s.get (PINS.GPIO_OUT_OUT w)
  s.gpioOut w (o - (o &&& v))

/-- CONFLICT bits cleared, and set again while the conflict lasts (R558). -/
def State.conflictClear (s : State) (k : Side) (w v : Nat) : State :=
  let c := s.onStack k fun t =>
    let o := t.get (PINS.CONFLICT_CONFLICT w)
    t.disarmKey.put (PINS.CONFLICT_CONFLICT w) (o - (o &&& v))
  if s.hasSide k then c.syncConflicts k else c

/-- A pad has stayed at one level for 1 ms: TALLY follows it on a pin with FUNC 5 (R555). -/
def Stack.tallyDebounce (n : Nat) (level : Bool) (s : Stack) : Stack :=
  if s.build.pins ≤ n then s
  else
    let t : Stack := { s with pins := { s.pins with levels := mapSet false s.pins.levels n level } }
    if t.get (PINS.PIN_FUNC n) = 5 then
      t.put (PINS.TALLY_TALLY (n / 32)) (setBit (t.get (PINS.TALLY_TALLY (n / 32))) (n % 32) level)
    else t

/-! ## The lock (R560, R561) -/

/-- LOCK_KEY written: 0x5A3C arms the key, a second key write or another value disarms it (R560). -/
def Stack.lockKey (v : Nat) (s : Stack) : Stack :=
  s.put PINS.LOCK_STATUS_ARMED (b2n (v % 0x10000 == 0x5A3C && !s.flag PINS.LOCK_STATUS_ARMED))

/-- A mask write while a turn is armed (R561). -/
def Stack.lockRefused (s : Stack) : Stack := (s.disarmKey.raise PINS.LOCK_STATUS_REFUSED).raise PINS.INT_LOCK_REFUSED

/-- The staged copy of a register made equal to its live copy. -/
def Stack.unstage (s : Stack) (block off : Nat) : Stack :=
  (stagedFields block off).foldl (fun s f => s.put (f.field block off).staged (s.get (f.field block off))) s

/-- LOCK_MASK written after the key: the named pins are locked (R560). -/
def Stack.lockMask (w m : Nat) (s : Stack) : Stack :=
  if s.turnArmed then s.lockRefused
  else if s.flag PINS.LOCK_STATUS_ARMED then
    let m := s.build.pinMask w m
    let t := (List.range 32).foldl (fun t i => if bit m i then t.unstage 0xD (0x1000 + 4 * (32 * w + i)) else t) s.disarmKey
    t.put (PINS.LOCKED_LOCKED w) (s.get (PINS.LOCKED_LOCKED w) ||| m)
  else s

/-- XLOCK_MASK written after the key: crossbar entries are locked, in recto of the Atlas only (R560). -/
def Stack.xlockMask (w m : Nat) (s : Stack) : Stack :=
  if s.build ≠ .atlas ∨ s.side = .verso then s.disarmKey
  else if s.turnArmed then s.lockRefused
  else if s.flag PINS.LOCK_STATUS_ARMED then
    let t := (List.range 32).foldl (fun t i => if bit m i then t.unstage 0xD (0x3000 + 4 * (32 * w + i)) else t) s.disarmKey
    t.put (PINS.XLOCKED_LOCKED w) (s.get (PINS.XLOCKED_LOCKED w) ||| m)
  else s

/-! ## Timestamps (R495, R497, R555, R570) -/

/-- Whether two edges lie one frame period of a raster apart: within 200 ppm, the servo's range, and 10 ns (log 40). -/
def Stack.oneFrame (s : Stack) (r t0 : Nat) : Bool :=
  let num := s.get (CLK.RAS_RATE_NUM r); let den := s.get (CLK.RAS_RATE_DEN r)
  let p := 1000000000 * den / Nat.max num 1
  let d := s.clk.up - t0
  decide (d ≤ p + p / 5000 + 10) && decide (p ≤ d + p / 5000 + 10)

/-- A frame pulse of the house reference: two edges one frame apart start the servo, a further one is a measurement (R495, R497). -/
def Stack.framePulse (s : Stack) : Stack :=
  let r := s.houseRaster
  let s := if s.get CLK.HOUSE_STAT_STATE ≠ 0 then s.frameMeasure
    else match s.pins.lastEdge with
      | some t => if s.oneFrame r t then s.acquire else s
      | Option.none => s
  { s with pins := { s.pins with lastEdge := some s.clk.up } }

/-- A rising edge on a pin with FUNC 9 or 11: timestamped, or lost when 16 entries are held; the house reference's steers the house
clock (R494, R555, R570). -/
def Stack.timestampEdge (n : Nat) (s : Stack) : Stack :=
  let f := s.get (PINS.PIN_FUNC n)
  if (f ≠ 9 ∧ f ≠ 11) ∨ s.clk.started = false then s
  else
    let t : Stack := if 16 ≤ s.pins.ts.length then s.raise PINS.INT_TS_LOST
      else ({ s with pins := { s.pins with ts := s.pins.ts ++ [(n, b2n (f == 11), s.time)] } } : Stack).raise PINS.INT_TS
    if f = 9 ∧ s.houseKind = 3 ∧ s.houseIndex = n then t.framePulse else t

/-- A read of TS_S_HI removes the head entry (R570). -/
def Stack.tsPop (s : Stack) : Stack :=
  match s.pins.ts with
  | [] => s.answered 0 [0]
  | e :: t => ({ s with pins := { s.pins with ts := t } } : Stack).answered 0 [e.2.2 / 1000000000 / 2 ^ 32 % 2 ^ 16]

/-! ## Bank peripherals (R571) -/

/-- A bank's peripherals. -/
def Stack.periph (s : Stack) (b : Nat) : Periph := mapGet {} s.pins.periph b

/-- A bank's peripherals replaced, with the UART levels. -/
def Stack.setPeriph (s : Stack) (b : Nat) (p : Periph) : Stack :=
  (({ s with pins := { s.pins with periph := mapSet {} s.pins.periph b p } } : Stack).put (PINS.STAT_TX_LEVEL b) p.tx.length).put
    (PINS.STAT_RX_LEVEL b) p.rx.length

/-- A W1C bit of STAT sets PERIPH (R571). -/
def Stack.periphEvent (s : Stack) (f : Field) : Stack := (s.raise f).raise PINS.INT_PERIPH

/-- SPI_DATA written: one byte goes out and the byte on MISO comes in; MISO reads 0 with no pad (R558, R571). -/
def Stack.spiWrite (wired : Bool) (b v rx : Nat) (s : Stack) : Stack :=
  let s := s.disarmKey
  if s.build.pinBanks ≤ b ∨ s.get (PINS.SPI_CFG_EN b) = 0 then s
  else (s.put (PINS.SPI_DATA_DATA b) (if wired then rx else 0)).answered 0 [v]

/-- I2C_CMD written with GO: one byte with start or stop. `ack` and `lost` say what the bus answers; an SDA with no pad reads 1
(R558, R571). -/
def Stack.i2cCommand (wired : Bool) (b v : Nat) (start stop read nack ack lost : Bool) (rx : Nat) (s : Stack) : Stack :=
  let s := ((((s.disarmKey.put (PINS.I2C_CMD_DATA b) v).put (PINS.I2C_CMD_START b) (b2n start)).put (PINS.I2C_CMD_STOP b) (b2n stop)).put
    (PINS.I2C_CMD_READ b) (b2n read)).put (PINS.I2C_CMD_NACK b) (b2n nack)
  if s.build.pinBanks ≤ b ∨ s.get (PINS.I2C_CFG_EN b) = 0 then s
  else if lost && wired then s.periphEvent (PINS.STAT_I2C_LOST b)
  else if read then s.put (PINS.STAT_I2C_RX b) (if wired then rx else 0xFF)
  else
    let t := s.answered 0 [v]
    if ack && wired then t else t.periphEvent (PINS.STAT_I2C_NACK b)

/-- UART_DATA written: a byte is queued; one that finds 16 is an overrun (R571). -/
def Stack.uartWrite (b v : Nat) (s : Stack) : Stack :=
  let s := s.disarmKey
  let p := s.periph b
  if s.build.pinBanks ≤ b then s
  else if 16 ≤ p.tx.length then s.periphEvent (PINS.STAT_OVERRUN b)
  else s.setPeriph b { p with tx := p.tx ++ [v] }

/-- UART_DATA read: takes a byte, with VALID 0 when empty (R571). -/
def Stack.uartRead (b : Nat) (s : Stack) : Stack :=
  let p := s.periph b
  match p.rx with
  | [] => ((s.put (PINS.UART_DATA_VALID b) 0).put (PINS.UART_DATA_DATA b) 0).answered 0 [0]
  | v :: t => (((s.setPeriph b { p with rx := t }).put (PINS.UART_DATA_VALID b) 1).put (PINS.UART_DATA_DATA b) v).answered 0 [256 + v]

/-- A byte arrives at a UART, or a framing error; a byte that finds 16 is an overrun (R571). -/
def Stack.uartReceive (wired : Bool) (b v : Nat) (bad : Bool) (s : Stack) : Stack :=
  let p := s.periph b
  if !wired ∨ s.get (PINS.UART_CFG_EN b) = 0 then s
  else if bad then s.periphEvent (PINS.STAT_FRAMING b)
  else if 16 ≤ p.rx.length then s.periphEvent (PINS.STAT_OVERRUN b)
  else s.setPeriph b { p with rx := p.rx ++ [v] }

/-- The UART sends its oldest byte, unless CTS_N holds it (R571). -/
def State.uartSend (s : State) (k : Side) (b : Nat) : State :=
  let t := s.stack k
  let p := t.periph b
  match p.tx with
  | [] => s
  | v :: rest =>
    if t.get (PINS.UART_CFG_EN b) = 0 ∨ (t.flag (PINS.UART_CFG_CTS_EN b) ∧ s.inputLevel k b 4 = true) then s
    else s.putStack k ((t.setPeriph b { p with tx := rest }).answered 0 [v])

/-- The LTC reader decodes a word (R571). -/
def Stack.ltcReceive (wired : Bool) (b w : Nat) (s : Stack) : Stack :=
  if !wired then s
  else (s.put (PINS.LTC_IN_TIME b) w).setPeriph b { s.periph b with ltcAt := some s.clk.up }

/-- Whether a word was read within two frames of the bank's raster rate, halved above 30 Hz (R571). -/
def Stack.ltcValid (s : Stack) (b : Nat) : Bool :=
  match (s.periph b).ltcAt with
  | Option.none => false
  | some t =>
    let r := s.get (PINS.LTC_CFG_RASTER b)
    let num := s.get (CLK.RAS_RATE_NUM r); let den := s.get (CLK.RAS_RATE_DEN r)
    let p := 1000000000 * den / Nat.max num 1
    decide (s.clk.up ≤ t + 2 * (if num > 30 * den then 2 * p else p))

/-! ## Commands -/

/-- GPIO_OUT_WRITE (R559): A write to GPIO_OUT reaches the pads at the second pin-clock edge. -/
def execGpioOutWrite (k : Side) (w v : Nat) (s : State) : Host.Outcome State Fault Refusal := nextStack s k (Stack.gpioOut w v)

/-- OUT_SET (R570): A write to OUT_SET sets the named GPIO_OUT bits. -/
def execOutSet (k : Side) (w v : Nat) (s : State) : Host.Outcome State Fault Refusal := nextStack s k (Stack.outSet w v)

/-- OUT_CLR (R570): A write to OUT_CLR clears the named GPIO_OUT bits. -/
def execOutClr (k : Side) (w v : Nat) (s : State) : Host.Outcome State Fault Refusal := nextStack s k (Stack.outClr w v)

/-- CONFLICT_CLEAR (R558): A W1C write to CONFLICT clears it, and it is set again while the conflict lasts. -/
def execConflictClear (k : Side) (w v : Nat) (s : State) : Host.Outcome State Fault Refusal := nextSide s k fun s => s.conflictClear k w v

/-- LOCK_KEY (R560): A write of 0x5A3C to LOCK_KEY arms the pin lock. -/
def execLockKey (k : Side) (v : Nat) (s : State) : Host.Outcome State Fault Refusal := nextStack s k (Stack.lockKey v)

/-- LOCK_MASK (R560): A LOCK_MASK write after the key locks pins until Dawn, or is refused while a turn is armed. -/
def execLockMask (k : Side) (w m : Nat) (s : State) : Host.Outcome State Fault Refusal := nextStack s k (Stack.lockMask w m)

/-- XLOCK_MASK (R560): An XLOCK_MASK write after the key locks Atlas crossbar entries until Dawn. -/
def execXlockMask (k : Side) (w m : Nat) (s : State) : Host.Outcome State Fault Refusal := nextStack s k (Stack.xlockMask w m)

/-- TIMESTAMP_EDGE (R555): A rising edge on a frame pulse or PPS input pin is timestamped into the queue and may steer the house clock. -/
def execTimestampEdge (k : Side) (n : Nat) (s : State) : Host.Outcome State Fault Refusal :=
  if (s.padsOf k n).isEmpty || s.inConflict k n then .next s else nextStack s k (Stack.timestampEdge n)

/-- TS_HEAD_POP (R570): A read of TS_S_HI removes the head timestamp entry. -/
def execTsHeadPop (k : Side) (s : State) : Host.Outcome State Fault Refusal := nextStack s k Stack.tsPop

/-- TALLY_DEBOUNCE (R555): A GPI tally pad stays at one level for 1 ms and updates TALLY. -/
def execTallyDebounce (k : Side) (n : Nat) (level : Bool) (s : State) : Host.Outcome State Fault Refusal :=
  if (s.padsOf k n).isEmpty || s.inConflict k n then .next s else nextStack s k (Stack.tallyDebounce n level)

/-- SPI_DATA_WRITE (R571): A write to SPI_DATA sends one byte on the bank's SPI controller. -/
def execSpiDataWrite (k : Side) (b v rx : Nat) (s : State) : Host.Outcome State Fault Refusal :=
  nextStack s k (Stack.spiWrite (s.inputWired k b 0) b v rx)

/-- I2C_COMMAND (R571): I2C_CMD.GO transfers one I²C byte with start or stop. -/
def execI2cCommand (k : Side) (b v : Nat) (start stop read nack ack lost : Bool) (rx : Nat) (s : State) :
    Host.Outcome State Fault Refusal :=
  nextStack s k (Stack.i2cCommand (s.inputWired k b 2) b v start stop read nack ack lost rx)

/-- UART_DATA_WRITE (R571): A write to UART_DATA queues a byte for transmission. -/
def execUartDataWrite (k : Side) (b v : Nat) (s : State) : Host.Outcome State Fault Refusal := nextStack s k (Stack.uartWrite b v)

/-- UART_DATA_READ (R571): A read of UART_DATA takes one received byte. -/
def execUartDataRead (k : Side) (b : Nat) (s : State) : Host.Outcome State Fault Refusal := nextStack s k (Stack.uartRead b)

/-- UART_BYTE_RECEIVE (R571): The bank UART receives a byte into its buffer, or records an error. -/
def execUartByteReceive (k : Side) (b v : Nat) (bad : Bool) (s : State) : Host.Outcome State Fault Refusal :=
  nextStack s k (Stack.uartReceive (s.inputWired k b 3) b v bad)

/-- LTC_WORD_RECEIVE (R571): The LTC reader decodes a timecode word into LTC_IN. -/
def execLtcWordReceive (k : Side) (b w : Nat) (s : State) : Host.Outcome State Fault Refusal :=
  nextStack s k (Stack.ltcReceive (s.inputWired k b 5) b w)

end Sys2Proof.Machine
end

