-- ==== Sys2Proof/Machine/Routing.lean ====
section
/-! DEFINITION. Vertical tracks in service: tests, remaps, contention, bridge phases, detours; and the wake and sleep of sections
(R38, R39, R117, R123 to R128, R177). -/

namespace Sys2Proof.Machine

/-! ## The repair map (R126 to R128) -/

/-- The spare that serves a logical track. -/
def Stack.spareOf (s : Stack) (b t track : Nat) : Option Nat := (List.range 6).find? fun i => s.vbyte b t i == track

/-- The lower and upper tiles of a tile boundary (R107). -/
def boundaryTiles (b t : Nat) : Tile × Tile := (⟨2 * (b + 1), t⟩, ⟨2 * (b + 2), t⟩)

/-- The tile at which a logical track of a tile boundary arrives: the upper one for an up track (R107). -/
def trackEnd (b t track : Nat) : Tile := if track < 48 then (boundaryTiles b t).2 else (boundaryTiles b t).1

/-- A logical track takes a free good spare, or counts as unspared, once (R126 to R128). -/
def Stack.assignSpare (s : Stack) (b t track : Nat) : Stack :=
  let key := bridgeKey (trackEnd b t track) track
  match (List.range 6).find? fun i => s.vbyte b t i == 0x7F with
  | some i => s.setVbyte b t i track
  | Option.none =>
    if s.integ.badTracks.contains key then s
    else
      let s : Stack := { s with integ := { s.integ with badTracks := s.integ.badTracks ++ [key] } }
      s.setVbyte b t 6 (s.vbyte b t 6 + 1)

/-- The physical track of a logical track (0 to 95) or a spare (96 + i) fails (R126). -/
def Stack.trackFails (s : Stack) (b t id : Nat) : Stack :=
  if id < 96 then
    match s.spareOf b t id with
    | some i => (s.setVbyte b t i 0xFF).assignSpare b t id
    | Option.none => s.assignSpare b t id
  else if id < 102 then s.setVbyte b t (id - 96) 0xFF
  else s

/-- The test of Dawn step 4 at one tile boundary: failed spares are marked first, and then each logical track whose wire or spare has failed is
remapped; those without a spare are counted anew (R125 to R128). -/
def Stack.dawnTracks (bad : Nat → Bool) (b t : Nat) (s : Stack) : Stack :=
  let served := (List.range 96).filter fun id => match s.spareOf b t id with
    | some i => bad (96 + i)
    | Option.none => bad id
  let s := (List.range 6).foldl (fun s i => if bad (96 + i) then s.setVbyte b t i 0xFF else s) s
  let s := s.setVbyte b t 6 (s.vbyte b t 6 / 128 * 128)
  served.foldl (fun s id => s.assignSpare b t id) s

/-- Dawn step 4 tests every physical track of every boundary, and writes the map when that changes it (R125, R126). -/
def Stack.testTracks (s : Stack) : Stack :=
  let s' := (List.range (s.build.layers - 1)).foldl (fun s' b => (List.range 1200).foldl (fun s' t =>
    Stack.dawnTracks (Config.trackBad s.freeCount b t) b t s') s') ({ s with integ := { s.integ with badTracks := [] } } : Stack)
  (if s'.integ.vtracks = s.integ.vtracks then s' else s'.writeTrackMap).draw

/-! ## Tile vectors of pages -/

/-- Bits [303:0] of a tile vector in a plane (R205). -/
def Stack.planeVec (s : Stack) (t : Tile) (p : Nat) : Nat := s.fabric.tileBits t p 0 304

/-- Bits [303:0] of a tile vector in a page-store slot (R205). -/
def Stack.slotVec (s : Stack) (t : Tile) (q : Nat) : Nat :=
  ofBytes ((List.range 38).map fun j => mapGet 0 s.fabric.pageStore (slotFolio t 0 q + 32 * j + 31))

/-- The tile vectors of every resident page of a tile: planes that hold a page, and VALID slots. -/
def Stack.vectors (s : Stack) (t : Tile) : List Nat :=
  let planes := match s.ownerOf t with
    | some n => ([0, 1, 2, 3].filter fun p => decide ((s.plane (s.rootOf n) p).src < 16)).map (s.planeVec t)
    | Option.none => []
  planes ++ ((List.range 16).filter fun q => bit (s.fabric.pageNat (slotEntry t q) 2) 15).map (s.slotVec t)

/-- Whether a vector enables a logical track at the boundary above or below its tile (R205). -/
def vecEnables (v : Nat) (above : Bool) (track : Nat) : Bool := bit v ((if above then 96 else 0) + track)

/-- Whether a vector uses the boundary above or below its tile: an enable, or a group that is not off (R109, R127, R205). -/
def vecUses (v : Nat) (above : Bool) : Bool :=
  bits v (if above then 96 else 0) 96 != 0 ||
    (List.range 6).any fun j => let m := bits v (192 + 9 * (if above then j + 6 else j)) 2; m == 1 || m == 2

/-- Whether both end sections are idle: Asleep, Testing, Empty or no section (R125). -/
def Stack.endsIdle (s : Stack) (b t : Nat) : Bool :=
  let ok := fun u => s.tileState u == .asleep || s.tileState u == .testing || s.tileState u == .empty
  ok (boundaryTiles b t).1 && ok (boundaryTiles b t).2

/-- Whether the test of a tile boundary reaches a track now (R125). -/
def Stack.tested (s : Stack) (b t id : Nat) : Bool :=
  if id < 96 then
    s.endsIdle b t ||
      (!((s.vectors (boundaryTiles b t).1).any fun v => vecEnables v true id) &&
       !((s.vectors (boundaryTiles b t).2).any fun v => vecEnables v false id))
  else s.vbyte b t (id - 96) == 0x7F

/-- The identifier of a block: CLASS, HUB, INDEX (R584). -/
def blockId (cls hub idx : Nat) : Nat := cls * 2 ^ 28 + hub * 2 ^ 24 + idx

/-- The test of one tile boundary in Day finds some tracks failed: those it reaches are remapped at once, and the map is written. In the wave of
a Dusk BIST that tests the fabric, a failure counts against the two tiles' blocks in the BIST record, and the track is remapped at the next
Dawn (R125, R126, R128, R588, log 115). -/
def Stack.trackTest (b t : Nat) (failed : List Nat) (s : Stack) : Stack :=
  if s.build.layers ≤ b + 1 ∨ 1200 ≤ t then s
  else if s.mode = .day then
    let l := failed.filter (s.tested b t)
    if l.isEmpty then s else (l.foldl (fun s id => s.trackFails b t id) s).writeTrackMap
  else if s.mode = .dusk ∧ s.bist.run = 1 ∧ s.get TEST.STATUS_WAVE = 3 ∧ failed.any (· < 102) = true ∧ !bit (s.get TEST.CFG_SKIP) 3 then
    let new := [blockId 3 (b + 1) t, blockId 3 (b + 2) t].filter fun id => !s.bist.failed.contains id
    { s with bist := { s.bist with failed := s.bist.failed ++ new } }
  else s

/-! ## Detours (R127, R214) -/

/-- The exhausted tile boundaries that a section's pages use, by physical layer number and tile (R127, R214). -/
def Stack.exhaustedUsed (s : Stack) (n : Nat) : List (Nat × Nat) :=
  (s.sect n).tiles.flatMap fun t =>
    let k := t.layer
    let vs := s.vectors t
    (if k + 2 ≤ 2 * s.build.layers && s.exhausted (k / 2 - 1) t.tile && vs.any (vecUses · true) then [(k, t.tile)] else []) ++
    (if 4 ≤ k && s.exhausted (k / 2 - 2) t.tile && vs.any (vecUses · false) then [(k - 2, t.tile)] else [])

/-- A variant of the section's binding that avoids some tile boundaries, and its folios in the section's nest (R127, R214). -/
def Stack.detourFor (s : Stack) (n : Nat) (l : List (Nat × Nat)) : Option (Detour × List (FolioEntry × Folio)) :=
  ((imgDetours (s.imageBytes (s.sect n).image) s.bindingKey).find? fun d => l.all d.avoid.contains).bind fun d =>
    d.folios.map fun fs => (d, fs.filter fun ex => s.tileRoot ex.1.tile == s.rootOf n)

/-- The sections of a section's nest that the same image supplies. -/
def Stack.bindingMates (s : Stack) (n : Nat) : List Nat := (s.nest (s.rootOf n)).filter fun m => (s.sect m).image == (s.sect n).image

/-- A variant's folios placed in every plane of a nest that holds their page, but for plane `keep` (R127). -/
def Stack.placeDetourPlanes (s : Stack) (r keep : Nat) (fs : List (FolioEntry × Folio)) : Stack :=
  fs.foldl (fun s ex =>
    ([0, 1, 2, 3].filter fun p => p != keep && (s.plane r p).src == ex.1.page).foldl (fun s p => s.placePlane p ex.1.digest ex.2) s) s

/-- A variant's folios placed in the page store, with their rewrite-safe flags, and in every plane that holds their page but for plane `keep`;
the sections of the binding in the nest use the variant from now on (R127, R128, R206, R214). -/
def Stack.placeDetour (s : Stack) (n keep : Nat) (d : Detour) (fs : List (FolioEntry × Folio)) : Stack :=
  let r := s.rootOf n
  let s := fs.foldl (fun s ex => s.placeFolio (fun _ page =>
    [0, 1, 2, 3].filter fun p => p != keep && (s.plane r p).src == page) ex.1 ex.2) s
  let s := if s.pooled then s else s.placeDetourPlanes r keep fs
  (((s.modSects (s.bindingMates n) fun x => { x with detour := some d.number, avoids := d.avoid }).syncDetours).takeNest r).refreshDoms

/-- The replacement of a nest's pages is complete: VTRACK of the binding's sections clears (R172). -/
def Stack.detourDone (s : Stack) (n : Nat) : Stack :=
  s.modSects (s.bindingMates n) fun x => { x with hold := setBit x.hold 2 false }

/-- A section and its descendants Held with VTRACK, their hinges holding; at Dawn the bit waits for the release (R127, R167, R172, R193). -/
def Stack.holdVtrack (s : Stack) (n : Nat) : Stack :=
  let fam := s.family n
  let s := s.modSects (fam.filter fun m => s.stateIn m [.loading]) fun x => { x with hold := setBit x.hold 2 true }
  let s := ((s.holdSects 2 fam).sectFault n 4).cmdDone n
  (s.fault (.sect n) (0x40 + (s.sect n).home) 4 0 0).recoveryComplete (.sect (s.rootOf n))

/-- Whether a section's nest has a plane for the replacement of its live page, where the variant changes that page (R127). -/
def Stack.detourRoom (s : Stack) (n : Nat) (fs : List (FolioEntry × Folio)) : Bool :=
  let r := s.rootOf n
  (fs.all fun ex => ex.1.page != (s.plane r (s.livePlane r)).src) || (s.freePlane r).isSome

/-- A variant replaces a section's pages after Dawn: those of the live plane by a plane staged anew and a detour turn (R127, R249). -/
def Stack.detourDay (s : Stack) (n : Nat) (d : Detour) (fs : List (FolioEntry × Folio)) : Stack :=
  let r := s.rootOf n; let lp := s.livePlane r; let page := (s.plane r lp).src
  if fs.all fun ex => ex.1.page != page then (s.placeDetour n 4 d fs).detourDone n
  else
    match s.freePlane r with
    | Option.none => s
    | some p => ((s.placeDetour n lp d fs).stageLive r p).makeDevTurn (.detour r p)

/-- Before a section becomes Live: the detour of its exhausted tile boundaries, or VTRACK. At Dawn the live plane, which does not run, is
replaced in place; later it is staged anew into a Free plane for a detour turn (R127, R249). -/
def Stack.detour (dawn : Bool) (n : Nat) (s : Stack) : Stack :=
  let l := s.exhaustedUsed n
  if l.isEmpty then s
  else
    match s.detourFor n l with
    | Option.none => s.holdVtrack n
    | some v =>
      if dawn then (s.placeDetour n 4 v.1 v.2).detourDone n
      else if s.detourRoom n v.2 then s.detourDay n v.1 v.2
      else s.holdVtrack n

/-- At the edge of a detour turn the plane that was live takes the variant's folios too, and the replacement is complete (R127, R172). -/
def Stack.detourTurned (s : Stack) (r old : Nat) : Stack :=
  ((s.nest r).filter fun n => (s.sect n).detour.isSome).foldl (fun s n =>
    (s.placeDetourPlanes r (s.livePlane r) ((s.detourFolios n).filter fun ex => ex.1.page == (s.plane r old).src && s.tileRoot ex.1.tile == r)).detourDone n) s

/-- Whether a detour turn of a nest is armed or waits: a wake of its sections waits for it (R127). -/
def Stack.detourPending (s : Stack) (r : Nat) : Bool :=
  (s.turn.waiting ++ s.turn.dev.toList).any fun d => match d with
    | .detour q _ => q == r
    | _ => false

/-- A nest with a section Held for VTRACK whose replacement has become possible, as a plane is Free now: the replacement begins (R127, R172,
log 115). -/
def Stack.detourRetry (s : Stack) : Option Stack :=
  (s.sectionNumbers.filter fun n => s.stateIn n [.held] && bit (s.sect n).hold 2 && !s.detourPending (s.rootOf n)).findSome? fun n =>
    let l := s.exhaustedUsed n
    match if l.isEmpty then Option.none else s.detourFor n l with
    | some v => if s.detourRoom n v.2 then some (s.detourDay n v.1 v.2) else Option.none
    | Option.none => Option.none

/-! ## Sleep and wake, step by step (R38, R39) -/

/-- Whether every user PLL that a section uses is running, and none of its layers is on the raw feed, where no section becomes Live (R16, R39
step 2). -/
def Stack.pllsReady (s : Stack) (n : Nat) : Bool :=
  (s.sect n).layers.all (fun k => !s.onRaw k) && (s.sect n).doms.all fun d => match s.domainPll d with
    | some m => s.sourceRunning (0x20 + m)
    | Option.none => true

/-- The next step of a section's sleep or wake, when its condition holds: the effect of time passing (R38, R39). Sleep step 2 comes by
CLOCK_GATE_CLOSE or GATE_TIMEOUT. -/
def Stack.sectStep (s : Stack) (n : Nat) : Option Stack :=
  let x := s.sect n
  match x.seq with
  | .sleep 2 => if s.sys.reenables.contains (.sectionSleep n) then Option.none else some (s.sleepDone n)
  | .wake 0 => if s.detourPending (s.rootOf n) then Option.none else some (s.setSect n { x with seq := .wake 1 })
  | .wake 1 => if s.pllsReady n then some (s.setSect n { x with seq := .wake 2 }) else Option.none
  | .wake 2 => some (s.setSect n { x with seq := .wake 3 })
  | .wake _ => some (s.wakeDone n)
  | _ => Option.none

/-- SECT_WAKE (R177): The WAKE command wakes an Asleep section at once and sets LIVE in both copies of RUN. -/
def execSectWake (k : Side) (i n : Nat) (s : State) : Host.Outcome State Fault Refusal :=
  nextFault s k (Stack.cmdWake (Stack.detour false) i n)

/-- VTRACK_PERIODIC_TEST (R125): Every 10 ms, the spare and unused vertical tracks of a tile boundary are tested. -/
def execVtrackPeriodicTest (k : Side) (b tile : Nat) (failed : List Nat) (s : State) : Host.Outcome State Fault Refusal :=
  nextStack s k (Stack.trackTest b tile failed)

/-! ## Two drivers on one track (R123, R124) -/

/-- An upset sets the wrong enable of a logical track whose right end drives it: the section whose live plane holds it has the fault
VTRACK_CONTENTION, the place is logged, and its folio is checked at once; where the folio proves good the recovery ends. A group whose MODE is
off enables no driver, so nothing is found (R109, R124, R193). DESIGN CHOICE: the event's cause 0 and its layout, boundary and tile in the
first data word and the track in the second (log 115). -/
def Stack.contention (b tile track : Nat) (s : Stack) : Stack :=
  let up := decide (track < 48)
  let lower := (boundaryTiles b tile).1; let upper := (boundaryTiles b tile).2
  let good := if up then lower else upper; let wrong := if up then upper else lower
  match s.ownerOf good, s.ownerOf wrong with
  | some m, some n =>
    let mode := bits (s.groupAt (trackEnd b tile track) track) 0 2
    if !bit (s.fabric.enables good (s.livePlane m) up) track || (mode != 1 && mode != 2) then s
    else
      let p := s.livePlane n
      let a := folioKey wrong 0 p * 4096 + 32 * ((if up then 0 else 12) + track / 8) + 31
      let v := (mapGet 0 s.fabric.planeMem a).toNat
      let s := { s with fabric := { s.fabric with
          planeMem := mapSet 0 s.fabric.planeMem a (BitVec.ofNat 8 (setBit v (track % 8) true)) } }
      let s := (s.sectFault n 0).fault (.sect n) (0x40 + (s.sect n).home) 0 (2 * (b + 1) + 16 * tile) track
      if s.folioWrong wrong 0 p then s.checkFolio true wrong 0 p else s.recoveryComplete (.sect (s.rootOf n))
  | _, _ => s

/-- VTRACK_CONTENTION (R124): Both drivers of a vertical track are found enabled; the lower driver wins and a section-level fault starts a
folio check. -/
def execVtrackContention (k : Side) (b tile track : Nat) (s : State) : Host.Outcome State Fault Refusal :=
  nextFault s k (Stack.contention b tile track)

/-! ## Bridge phase (R117) -/

/-- Key of a bridge group's capture phase: boundary, destination tile, group. -/
def phaseKey (b tile j : Nat) : Nat := b * 65536 + tile * 12 + j

/-- The destination tile of group `j` at a boundary (R109). -/
def groupTile (b tile j : Nat) : Tile := if j < 6 then (boundaryTiles b tile).2 else (boundaryTiles b tile).1

/-- The capture phase of group `j` of a destination tile. -/
def tilePhase (t : Tile) (j : Nat) : Nat := phaseKey (if j < 6 then t.layer / 2 - 2 else t.layer / 2 - 1) t.tile j

/-- What sets the clock of a user domain: its selection, and the PLL's registers (R486, R487). -/
def Stack.clockWords (s : Stack) (d : Nat) : List Nat :=
  [s.get (CLK.SRC_SEL d), s.get (CLK.SRC_DIV d)] ++ match pllOf d (s.get (CLK.SRC_SEL d)) with
    | some n => [n, s.get (CLK.UPLLW0_REF n), s.get (CLK.UPLLW0_INT n), s.get (CLK.UPLLW1_NUM n), s.get (CLK.UPLLW1_DEN n)]
    | Option.none => []

/-- Whether a turn has changed the settings or the clocks of a bridge group, which is mesochronous now (R117). `old` is the state before. -/
def Stack.regrouped (s old : Stack) (t : Tile) (j : Nat) : Bool :=
  let g := s.groupAt t (8 * j)
  let dst := userDomain t.layer (bits g 2 3)
  let src := userDomain (arrivalFrom t (8 * j)).layer (bits g 5 3)
  bits g 0 2 == 1 && (old.groupAt t (8 * j) != g || old.clockWords dst != s.clockWords dst || old.clockWords src != s.clockWords src)

/-- The bridge groups that a turn has changed take new capture phases, which calibration's measure, the PLLs' phases and the temperatures give:
free values (R117, log 108). -/
def Stack.takePhases (s old : Stack) : Stack :=
  let ts := s.sectionNumbers.flatMap fun n => if (s.sect n).configured then s.ownTiles n else []
  let l := ts.flatMap fun t => ((List.range 12).filter (s.regrouped old t)).map (tilePhase t)
  if l.isEmpty then s
  else ({ s with integ := { s.integ with
      phases := l.foldl (fun m k => mapSet 0 m k (Config.groupPhase s.freeCount k).toNat) s.integ.phases } } : Stack).draw

/-- A mesochronous group's capture phase follows temperature by one step of 2 ps, at most once a microsecond (R117). -/
def Stack.phaseTrack (b tile j : Nat) (up : Bool) (s : Stack) : Stack :=
  let t := groupTile b tile j; let k := phaseKey b tile j
  let last := mapGet 0 s.integ.phaseAt k
  let meso := match s.ownerOf t with
    | some n => bits (s.fabric.group t (s.livePlane n) j) 0 2 == 1
    | Option.none => false
  if meso && (last == 0 || last + 999 ≤ s.clk.up) then
    let v := signed (mapGet 0 s.integ.phases k) 16 + (if up then 1 else -1)
    { s with integ := { s.integ with
        phases := mapSet 0 s.integ.phases k (wrapInt 16 v)
        phaseAt := mapSet 0 s.integ.phaseAt k (s.clk.up + 1) } }
  else s

/-- BRIDGE_PHASE_TRACK (R117): The capture phase of a mesochronous group follows temperature in steps of at most 2 ps, at most once per
microsecond. -/
def execBridgePhaseTrack (k : Side) (b tile j : Nat) (up : Bool) (s : State) : Host.Outcome State Fault Refusal :=
  nextStack s k (Stack.phaseTrack b tile j up)

end Sys2Proof.Machine
end

