-- ==== Sys2Proof/Machine/Test.lean ====
section
/-! DEFINITION. Logic BIST, section tests and the test access port (R584 to R597). -/

namespace Sys2Proof.Machine

/-! ## Blocks and waves (R584, R588) -/

/-- The ring-router blocks of a hub index: its stops, and the hub as index 32 (R584). -/
def Build.routers (b : Build) (hub : Nat) : List Nat := (b.stops hub).map (blockId 1 hub ·)

/-- The logic layers of a build by hub index. -/
def Build.hubs (b : Build) : List Nat := (List.range b.layers).map (· + 1)

/-- Whether a tile is tested in wave 3: unassigned, or its section is Testing (R587, R596). -/
def Stack.tileTested (s : Stack) (t : Tile) : Bool :=
  match s.ownerOf t with
  | some n => s.stateIn n [.testing, .empty]
  | Option.none => true

/-- The blocks of class c in a wave, those that run and those that are skipped (R584, R588). The spine side of hub h is its block of
index 32, tested in wave 1; wave 3 tests the stops. -/
def Stack.waveBlocks (s : Stack) (wave : Nat) : List Nat :=
  let b := s.build
  match wave with
  | 1 => (List.range 16).map (blockId 0 0 ·) ++ b.routers 0 ++ [blockId 1 0 32] ++ b.hubs.map (blockId 1 · 32)
  | 2 => b.hubs.flatMap fun h => (List.range 192).map (blockId 2 h ·)
  | 3 => (b.hubs.flatMap b.routers) ++ b.hubs.flatMap fun h => (List.range 1200).map (blockId 3 h ·)
  | _ => []

/-- Whether a block of the running wave is tested: its class is not in TEST.CFG.SKIP, and a tile is not of a section that is left out
(R588, R596, R597). -/
def Stack.blockRuns (s : Stack) (id : Nat) : Bool :=
  !bit (s.get TEST.CFG_SKIP) (id / 2 ^ 28) && (id / 2 ^ 28 != 3 || s.tileTested ⟨2 * (id / 2 ^ 24 % 8), id % 2 ^ 16⟩)

/-- Blocks of the reduced BIST of Dawn: the loader, whose partition of the base die the spec does not number, base-ring routers, and hubs with
their spine sides (R69, log 50). -/
def Stack.reducedBlocks (s : Stack) : List Nat := blockId 0 0 Config.loaderPartition.toNat :: s.build.routers 0 ++ [blockId 1 0 32] ++ s.build.hubs.map (blockId 1 · 32)

/-- The blocks that run now. -/
def Stack.runningBlocks (s : Stack) : List Nat :=
  match s.bist.run with
  | 3 => s.reducedBlocks
  | 4 => if s.bist.retest.isEmpty then (s.waveBlocks (s.get TEST.STATUS_WAVE)) else s.bist.retest
  | _ => (s.waveBlocks (s.get TEST.STATUS_WAVE)).filter s.blockRuns

/-- Groups of a run: 512, or 64 for the 65,536 patterns of reduced BIST (R69, R588). -/
def Stack.groupLimit (s : Stack) : Nat := if s.bist.run = 3 then 64 else 512

/-! ## Re-initialisation (R586) -/

/-- Every filter engine Reset with its memories zero-filled (R279, R280, R586). -/
def Stack.enginesReset (s : Stack) : Stack :=
  let t := s.engines.foldl (fun t e => t.feClear (e.1 / 192) (e.1 % 192)) s
  { t with mem := mapClear t.mem 0x00E00000000 0x100000000, health := mapClear t.health 0x00E0000000 0x10000000 }

/-- Routers re-initialised: what they held is lost, and the live timetable banks are reloaded from their staged banks (R586). -/
def Stack.routersReset (s : Stack) : Stack :=
  { s with rings := { s.rings with live := s.rings.staged, queues := [], tags := [], packets := [] } }

/-- Those of some sections that are in Testing re-initialised over their own tiles, and Asleep again (R41, R170, R586). -/
def Stack.untest (s : Stack) (l : List Nat) : Stack :=
  (l.filter fun n => s.stateIn n [.testing]).foldl (fun s n => (s.reinitSection n).modSect n (Section.after .asleep)) s

/-- The blocks of a wave re-initialised (R586). Class 1 of a wave's routers counts as tested when that class is not skipped. -/
def Stack.waveReset (s : Stack) (wave : Nat) : Stack :=
  match wave with
  | 1 => if bit (s.get TEST.CFG_SKIP) 1 then s else s.routersReset
  | 2 => if bit (s.get TEST.CFG_SKIP) 2 then s else s.enginesReset
  | _ => s.untest s.sectionNumbers

/-! ## The record (R590) -/

/-- The BIST results record. -/
def Stack.bistRecord (s : Stack) (kind result : Nat) : Stack :=
  let b := s.bist
  let ids := (b.failed ++ List.replicate 64 0xFFFFFFFF).take 64
  let t := s.deviceRecord 0x0030 (putWords [] 0 ([1 + kind * 2 ^ 16 + result * 2 ^ 24, s.get LEDGER.DAWNS_COUNT, b.tested,
    Nat.min b.failed.length 0xFFFF + Nat.min b.skipped 0xFFFF * 2 ^ 16, 0] ++ ids))
  t.put TEST.STATUS_RESULT result

/-- A BIST ends: its record is written and the controller is free (R590, R597). -/
def Stack.bistEnd (s : Stack) (result : Nat) : Stack :=
  let kind := if s.bist.run = 3 then 1 else if s.bist.run = 4 then 2 else 0
  let t := (s.bistRecord kind result).raise TEST.INT_BIST_DONE
  let t := if s.bist.failed.isEmpty then t else t.raise TEST.INT_BIST_FAIL
  (({ t with bist := { sects := t.bist.sects } } : Stack).put TEST.STATUS_BUSY (b2n (!t.bist.sects.isEmpty))).put TEST.STATUS_WAVE 0

/-- RESULT of R590 of the blocks counted so far. -/
def Bist.result (b : Bist) : Nat := if !b.failed.isEmpty then 1 else if b.skipped != 0 then 2 else 0

/-- A wave begins: in wave 3 the Asleep sections become Testing, except, in pooled use, those with no Free plane (R587, R588, R596); the
blocks left out are counted. -/
def Stack.waveStart (s : Stack) (wave : Nat) : Stack :=
  let s := (s.put TEST.STATUS_WAVE wave).put TEST.STATUS_GROUPS 0
  let s := if wave != 3 || bit (s.get TEST.CFG_SKIP) 3 then s
    else s.modSects (s.sectionNumbers.filter fun n =>
      s.stateIn n [.asleep] && (s.sect n).seq == .idle && (!s.pooled || (s.freePlane (s.rootOf n)).isSome)) fun x => { x with state := .testing }
  let n := ((s.waveBlocks wave).filter fun id => !s.blockRuns id).length
  { s with bist := { s.bist with skipped := s.bist.skipped + n } }

/-- A BIST of three waves starts: 1 at Dusk, 2 by TEST.CTL (R588, R596). -/
def Stack.bistStart (s : Stack) (run : Nat) : Stack :=
  (({ s with bist := { run := run, sects := s.bist.sects } } : Stack).put TEST.STATUS_BUSY 1).waveStart 1

/-- A BIST of Dawn starts: 3 reduced, 4 the retest of the named blocks, or of the full waves when it names none (R68, R69, R590). -/
def Stack.bistDawn (s : Stack) (run : Nat) (retest : List Nat) : Stack :=
  let t : Stack := { s with bist := { run := run, retest := retest } }
  ((t.put TEST.STATUS_BUSY 1).put TEST.STATUS_WAVE 1).put TEST.STATUS_GROUPS 0

/-- A BIST is abandoned at a group boundary: its blocks are re-initialised, and the record says incomplete, or not run (R40, R521, R586,
R596). -/
def Stack.bistAbandon (s : Stack) : Stack :=
  let w := s.get TEST.STATUS_WAVE
  let cut := (s.runningBlocks).length + ((List.range 4).filter (w < ·)).foldl (fun a v => a + (s.waveBlocks v).length) 0
  let t := s.waveReset w
  let r := if s.bist.stop = 2 then 3 else if s.bist.failed.isEmpty ∨ s.bist.run = 2 then 2 else 1
  ({ t with bist := { t.bist with skipped := t.bist.skipped + cut } } : Stack).bistEnd r

/-- A group of 1,024 patterns ends with these blocks failing; at the last group the wave's blocks are re-initialised, and the next wave or
the end of the test follows (R585, R588). -/
def Stack.bistGroup (failed : List Nat) (s : Stack) : Stack :=
  if s.bist.run = 0 then s
  else
    let run := s.runningBlocks
    let new := (failed.filter fun id => run.contains id && !s.bist.failed.contains id).eraseDups
    let s := ({ s with bist := { s.bist with failed := s.bist.failed ++ new } } : Stack).bump TEST.STATUS_GROUPS
    if s.bist.stop ≠ 0 then s.bistAbandon
    else if s.get TEST.STATUS_GROUPS < s.groupLimit then s
    else
      let w := s.get TEST.STATUS_WAVE
      let s : Stack := { s with bist := { s.bist with tested := s.bist.tested + run.length } }
      let s := if s.bist.run = 3 ∨ !s.bist.retest.isEmpty then s.routersReset else s.waveReset w
      if s.bist.run = 3 ∨ !s.bist.retest.isEmpty ∨ w = 3 then s.bistEnd s.bist.result
      else s.waveStart (w + 1)

/-! ## TEST.CTL (R596, R597) -/

/-- TEST.CTL's fields written. -/
def Stack.testCtl (op : Nat) (s : Stack) : Stack := s.put TEST.CTL_OP op

/-- RUN: ignored outside Workshop, OVERRUN while the controller is busy (R596, R597). -/
def Stack.testRun (s : Stack) : Stack :=
  let t := s.testCtl 1
  if s.mode ≠ .workshop then t
  else if s.flag TEST.STATUS_BUSY then t.raise TEST.STATUS_OVERRUN
  else t.bistStart 2

/-- ABORT: the test that RUN started ends at its next group boundary (R596). -/
def Stack.testAbort (s : Stack) : Stack :=
  let t := s.testCtl 2
  if s.bist.run = 2 then { t with bist := { t.bist with stop := 1 } } else t

/-! ## A section test (R589) -/

/-- SECT_RES written (R597). -/
def Stack.sectRes (s : Stack) (n result failed : Nat) : Stack :=
  ((s.put TEST.SECT_RES_SECTION n).put TEST.SECT_RES_RESULT result).put TEST.SECT_RES_FAILED failed

/-- TEST, in Day: an Asleep section and its Asleep descendants become Testing; in pooled use with no Free plane the section is not run (R177,
R587, R589). Tests of other sections may run beside it (log 109). -/
def Stack.cmdTest (i n : Nat) (s : Stack) : Stack :=
  s.sectCmd i n 6 (fun s => s.mode == .day && s.stateIn n [.asleep] && (s.sect n).seq == .idle) fun s =>
    if s.pooled && (s.freePlane (s.rootOf n)).isNone then s.sectRes n 3 0
    else
      let s := (s.modSects ((s.family n).filter fun m => s.stateIn m [.asleep]) fun x => { x with state := .testing }).cmdStart i n
      ({ s with bist := { s.bist with sects := s.bist.sects ++ [n] } } : Stack).put TEST.STATUS_BUSY 1

/-- The oldest section test ends with some tiles failed: re-initialised, Asleep, reported, and a failure logged (R170, R589). -/
def Stack.testComplete (failed : Nat) (s : Stack) : Stack :=
  match s.bist.sects with
  | [] => s
  | n :: rest =>
    let s := (({ s with bist := { s.bist with sects := rest } } : Stack).untest (s.family n)).cmdDone n
    let s := s.put TEST.STATUS_BUSY (b2n (!rest.isEmpty || s.bist.run != 0))
    let s := s.sectRes n (if failed = 0 then 0 else 1) failed
    if failed = 0 then s else s.event { block := 0xF, cause := 0, data0 := n, data1 := failed }

/-! ## The test access port (R591 to R595) -/

/-- Whether the port answers: in every mode except Off (R591). -/
def State.portUp (s : State) : Bool := s.recto.mode != .off

/-- An instruction in the instruction register, in both stacks' views of the one port (R591). -/
def State.setIr (s : State) (ir : Nat) : State := s.onStack .recto fun t => { t with jtag := { t.jtag with ir := ir } }

/-- An instruction that acts as BYPASS: one bit, captured as 0 (R591). -/
def State.bypass (s : State) : State := if s.portUp then (s.setIr 0xFF).onStack .recto fun t => t.answered 0 [0] else s

/-- IDCODE's 32 bits (R592). -/
def State.idcode (s : State) : Nat :=
  let part := match s.build with
    | .octavo => 0x2200
    | .quarto => 0x4400
    | .atlas => 0x4401
  Config.revision % 16 * 2 ^ 28 + part * 2 ^ 12 + 0x2E9 * 2 + 1

/-- JTAG_STAT, and LOCK_STATUS, as a value (R592). -/
def Stack.lockStatus (s : Stack) : Nat :=
  s.get TEST.JTAG_STAT_OPEN + 2 * s.get TEST.JTAG_STAT_ERASING + 4 * s.get TEST.JTAG_STAT_REFUSED + 16 * s.get TEST.JTAG_STAT_CAUSE +
    256 * s.get TEST.JTAG_STAT_OPENS

/-- The level at each pin of the package, recto's first, as the boundary register captures it (R559, R591). -/
def State.padLevels (s : State) : List Nat :=
  let f := fun (k : Side) => (List.range s.build.pins).map fun n => b2n (s.padLevel k n (bit (s.stack k).freeNat (n % 32)))
  f .recto ++ (if s.build = .atlas then f .verso else [])

/-- Cells loaded into the boundary register: bit 0 level, bit 1 drive. -/
def State.loadBoundary (s : State) (cells : List Nat) : State :=
  s.onStack .recto fun t => { t with jtag := { t.jtag with boundary := putWords [] 0 cells } }

/-- An instruction that drives pins or lanes from the boundary register, which captures the pads' levels before it is loaded: in Workshop
only, else BYPASS (R564, R591). -/
def State.drive (s : State) (ir : Nat) (cells : List Nat) : State :=
  if s.recto.mode ≠ .workshop then s.bypass
  else ((s.setIr ir).onStack .recto fun t => t.answered 0 s.padLevels).loadBoundary cells

/-- An instruction that selects the bypass register and leaves the boundary register as it is: in Workshop only, else BYPASS (R591). -/
def State.driveHeld (s : State) (ir : Nat) : State :=
  if s.recto.mode ≠ .workshop then s.bypass else (s.setIr ir).onStack .recto fun t => t.answered 0 [0]

/-- An effect on every stack's copy of JTAG_STAT. -/
def State.onPort (s : State) (f : Stack → Stack) : State := s.onBoth f

/-- An opening refused (R594). -/
def Stack.unlockRefused (cause : Nat) (s : Stack) : Stack :=
  let t := ((s.put TEST.JTAG_STAT_REFUSED 1).put TEST.JTAG_STAT_CAUSE cause).raise TEST.INT_JTAG_REFUSED
  { t with jtag := { t.jtag with step := 0 } }

/-- UNLOCK with its 16-bit value (R591, R594). -/
def State.unlock (s : State) (v : Nat) : State :=
  if !s.portUp then s
  else
    let s := s.setIr 0x11
    if v ≠ 0x6B1D ∨ s.recto.flag TEST.JTAG_STAT_OPEN ∨ s.recto.jtag.step ≠ 0 then s
    else if s.recto.mode ≠ .workshop ∧ s.recto.mode ≠ .haven then s.onPort (Stack.unlockRefused 1)
    else if !s.recto.secretWindow || (s.build == .atlas && !s.verso.secretWindow) then s.onPort (Stack.unlockRefused 2)
    else s.onPort fun t =>
      let t := ((t.put TEST.JTAG_STAT_ERASING 1).put TEST.JTAG_STAT_REFUSED 0).put TEST.JTAG_STAT_CAUSE 0
      { t with jtag := { t.jtag with step := 1 } }

/-- Step 2 of an opening: slots 1 to 31 cleared, regions 2 to 15 and every link selection invalid in both copies, the rekey queue
emptied (R594). -/
def Stack.eraseKeys (s : Stack) : Stack :=
  let t := (List.range 31).foldl (fun t n => t.setSlot (n + 1) Option.none) s
  let t := (List.range 14).foldl (fun t k => t.putBoth (KEYS.REGIONW0_VALID (k + 2)) 0) t
  let t := (List.range 15).foldl (fun t k => t.putBoth (KEYS.LINK_SEL_VALID (k + 1)) 0) t
  { t with keys := { t.keys with rekeyQueue := [], rekey := Option.none } }

/-- Entries 0 to 32 of the secret zone erased (R594). -/
def Stack.eraseZone (s : Stack) : Stack := (List.range 33).foldl (fun t e => t.setZone e Option.none) s

/-- Whether the secret zone is empty (R594 step 4). -/
def Stack.zoneEmpty (s : Stack) : Bool := (List.range 33).all fun e => (s.zoneKey e).isNone

/-- The next step of an opening; it is refused with ERASE when the window is left during step 3 or an entry is not empty at step 4
(R594). -/
def State.unlockStep (s : State) : State :=
  let both := fun (p : Stack → Bool) => p s.recto && (s.build != .atlas || p s.verso)
  let goTo := fun (n : Nat) (s : State) => s.onPort fun t => { t with jtag := { t.jtag with step := n } }
  match s.recto.jtag.step with
  | 1 => goTo 2 (s.onPort Stack.eraseKeys)
  | 2 => if both Stack.secretWindow then goTo 3 (s.onPort Stack.eraseZone) else s.onPort (Stack.unlockRefused 3)
  | 3 => if both Stack.zoneEmpty then goTo 4 s else s.onPort (Stack.unlockRefused 3)
  | 4 => goTo 5 (s.onPort fun t =>
      (((t.event { block := 0xF, cause := 3 }).put TEST.JTAG_STAT_OPEN 1).put TEST.JTAG_STAT_ERASING 0).bump TEST.JTAG_STAT_OPENS)
  | 5 => goTo 0 (s.onPort fun t => t.raise TEST.INT_JTAG_OPEN)
  | _ => s

/-- RELOCK: in Workshop, a secret-zone write (R595, R597). -/
def Stack.relock (s : Stack) : Stack :=
  if s.mode ≠ .workshop then s.put TEST.JTAG_CTL_RESULT 1
  else if !s.secretWindow then s.put TEST.JTAG_CTL_RESULT 2
  else (s.put TEST.JTAG_CTL_RESULT 0).put TEST.JTAG_STAT_OPEN 0

/-! ## Commands -/

/-- TEST (R589): The TEST command makes an Asleep section Testing and tests its tiles with 64 BIST groups. -/
def execSectTest (k : Side) (i n : Nat) (s : State) : Host.Outcome State Fault Refusal := nextStack s k (Stack.cmdTest i n)

/-- SECTION_TEST_COMPLETE (R589): A section test ends; the section is re-initialised and returns to Asleep, and SECT_RES is written. -/
def execSectionTestComplete (k : Side) (failed : Nat) (s : State) : Host.Outcome State Fault Refusal :=
  nextStack s k (Stack.testComplete failed)

/-- TEST_NONE (R597): A TEST.CTL with OP 0 or 3 to 15 does nothing. -/
def execTestNone (k : Side) (op : Nat) (s : State) : Host.Outcome State Fault Refusal := nextStack s k (Stack.testCtl op)

/-- TEST_RUN (R596): The RUN command starts BIST in Workshop, or sets OVERRUN. -/
def execTestRun (k : Side) (s : State) : Host.Outcome State Fault Refusal := nextStack s k Stack.testRun

/-- TEST_ABORT (R596): The ABORT command ends the BIST at the next group boundary. -/
def execTestAbort (k : Side) (s : State) : Host.Outcome State Fault Refusal := nextStack s k Stack.testAbort

/-- BYPASS (R591): The JTAG BYPASS instruction. -/
def execJtagBypass (s : State) : Host.Outcome State Fault Refusal := .next s.bypass

/-- IDCODE (R592): The JTAG IDCODE instruction returns the device identity. -/
def execJtagIdcode (s : State) : Host.Outcome State Fault Refusal :=
  .next (if s.portUp then (s.setIr 0x02).onStack .recto fun t => t.answered 0 [s.idcode] else s)

/-- SAMPLE_PRELOAD (R591): The JTAG SAMPLE/PRELOAD instruction captures or loads the boundary register. -/
def execJtagSamplePreload (cells : List Nat) (s : State) : Host.Outcome State Fault Refusal :=
  .next (if s.portUp then ((s.setIr 0x01).onStack .recto fun t => t.answered 0 s.padLevels).loadBoundary cells else s)

/-- EXTEST (R591): The JTAG EXTEST instruction drives pins from the boundary register in Workshop. -/
def execJtagExtest (cells : List Nat) (s : State) : Host.Outcome State Fault Refusal := .next (s.drive 0x00 cells)

/-- CLAMP (R591): The JTAG CLAMP instruction in Workshop. -/
def execJtagClamp (s : State) : Host.Outcome State Fault Refusal :=
  .next (s.driveHeld 0x03)

/-- HIGHZ (R591): The JTAG HIGHZ instruction in Workshop. -/
def execJtagHighz (s : State) : Host.Outcome State Fault Refusal :=
  .next (s.driveHeld 0x04)

/-- EXTEST_PULSE (R591): The IEEE 1149.6 EXTEST_PULSE instruction on lanes in Workshop. -/
def execJtagExtestPulse (cells : List Nat) (s : State) : Host.Outcome State Fault Refusal := .next (s.drive 0x05 cells)

/-- EXTEST_TRAIN (R591): The IEEE 1149.6 EXTEST_TRAIN instruction on lanes in Workshop. -/
def execJtagExtestTrain (cells : List Nat) (s : State) : Host.Outcome State Fault Refusal := .next (s.drive 0x06 cells)

/-- LOCK_STATUS (R592): The JTAG LOCK_STATUS instruction returns the port's lock state. -/
def execJtagLockStatus (s : State) : Host.Outcome State Fault Refusal :=
  .next (if s.portUp then (s.setIr 0x10).onStack .recto fun t => t.answered 0 [t.lockStatus] else s)

/-- UNLOCK (R594): The JTAG UNLOCK instruction with its key erases the secrets and opens the port, or is refused. -/
def execJtagUnlock (v : Nat) (s : State) : Host.Outcome State Fault Refusal := .next (s.unlock v)
/-- RELOCK written on a stack (R595). -/
def State.relock' (s : State) (k : Side) : State :=
  if s.hasSide k ∧ (s.stack k).mode = .workshop ∧ (s.stack k).secretWindow = true then s.onPort Stack.relock else s.onStack k Stack.relock

/-- RELOCK (R595): TEST.JTAG_CTL.RELOCK locks the JTAG port again in Workshop. -/
def execJtagRelock (k : Side) (s : State) : Host.Outcome State Fault Refusal := nextSide s k fun s => s.relock' k

end Sys2Proof.Machine
end

