-- ==== Sys2Proof/Machine/Modes.lean ====
section
/-! DEFINITION. Modes: requests, Siesta, Dusk, Dawn with its failures and release steps, and the device configuration record (R25 to R42,
R52 to R70). -/

namespace Sys2Proof.Machine

/-- The code of a mode; Off has none (R25). -/
def Mode.code : Mode → Nat
  | .off => 0 | .vigil => 1 | .dawn => 2 | .day => 3 | .siesta => 4 | .workshop => 5 | .dusk => 6 | .haven => 7

/-- Whether every stack of the package has a property (R55). -/
def State.every (s : State) (p : Stack → Bool) : Bool := p s.recto && (s.build != .atlas || p s.verso)

/-- Whether some stack of the package has a property. -/
def State.anyStack (s : State) (p : Stack → Bool) : Bool := p s.recto || (s.build == .atlas && p s.verso)

/-- The mode of the package (R573). -/
def State.mode (s : State) : Mode := s.recto.mode

/-! ## The device configuration record (R66, R67) -/

/-- The defaults of R66 with BOOT_TARGET forced to Workshop (R67), by word. -/
def defaultRecord : Sparse Nat := [(0, 0x00010001), (2, 0xE4), (3, 0x000A000A), (4, 0x000A000A), (5, 0x00640003), (6, 8)]

/-- The record validated at Dawn step 4: the stored one when a bank is valid and its FORMAT is 1, else the defaults, which is logged. An
unlisted BOOT_TARGET is logged too. The event's DATA0 tells them apart (R66, R67, log 51). -/
def Stack.latchRecord (s : Stack) : Stack :=
  let set := fun (r : Sparse Nat) => ({ s with sys := { s.sys with record := r } } : Stack)
  match s.readBank 1 with
  | Option.none => (set defaultRecord).event { block := 0, cause := 0, data0 := 1 }
  | some i =>
    let b := (s.bank 1 i).body
    if bits (mapGet 0 b 0) 0 16 ≠ 1 then (set defaultRecord).event { block := 0, cause := 0, data0 := 1 }
    else if 1 < bits (mapGet 0 b 0) 16 8 then (set b).event { block := 0, cause := 0, data0 := 2 }
    else set b

/-- RELEASE_ORDER names each of the four codes exactly once (R64). -/
def orderValid (v : Nat) : Bool := [0, 1, 2, 3].all fun c => [0, 1, 2, 3].any fun i => bits v (2 * i) 2 == c

/-- The release order in force: the record's, or the default when it is invalid (R63, R64). -/
def Stack.releaseOrder (s : Stack) : Nat := let v := bits (s.cfg 2) 0 8; if orderValid v then v else 0xE4

/-- The delay after a release step, in microseconds (R63, R66). -/
def Stack.releaseDelay (s : Stack) (i : Nat) : Nat := bits (s.cfg (3 + i / 2)) (16 * (i % 2)) 16

/-! ## Power-down and the start of Dawn -/

/-- Registers of the vigil domain and of the colophon die, which a power-down keeps (R529, R551, R595). -/
def vigilFields : List Field :=
  [SYS.VIGIL_TIMER_SECONDS, LEDGER.PEND_HELD, LEDGER.PEND_DROPPED, TEST.JTAG_STAT_OPEN, TEST.JTAG_STAT_ERASING, TEST.JTAG_STAT_REFUSED,
   TEST.JTAG_STAT_CAUSE, TEST.JTAG_STAT_OPENS]

/-- The registers of R529, R551 and R595 carried over into a stack at reset. -/
def Stack.carry (t s : Stack) (l : List Field) : Stack := l.foldl (fun t f => t.put f (s.get f)) t

/-- Everything but the vigil domain and the colophon die powered down, or brought up anew (R34, R424, log 52). -/
def Stack.powerDown (s : Stack) (m : Mode) : Stack :=
  let t := Stack.initial s.side s.build
  ({ t with
    mode := m
    freeCount := s.freeCount
    ledger := { s.ledger with commit := [] }
    loader := { t.loader with dir := s.loader.dir, image := s.loader.image, readable := s.loader.readable }
    keys := { t.keys with zone := s.keys.zone }
    jtag := s.jtag
    pins := { t.pins with levels := s.pins.levels }
    sys := { t.sys with suppliesOut := s.sys.suppliesOut } } : Stack).carry s vigilFields

/-- Off: everything is lost but the colophon die (R25, R51, R215, R525, R595). -/
def Stack.brownOut (s : Stack) : Stack :=
  let t := Stack.initial s.side s.build
  ({ t with
    freeCount := s.freeCount
    ledger := { t.ledger with banks := s.ledger.banks }
    loader := { t.loader with dir := s.loader.dir, image := s.loader.image, readable := s.loader.readable }
    keys := { t.keys with zone := s.keys.zone }
    pins := { t.pins with levels := s.pins.levels }
    sys := { t.sys with suppliesOut := s.sys.suppliesOut } } : Stack).carry s [TEST.JTAG_STAT_OPEN, TEST.JTAG_STAT_OPENS]

/-- Dawn begins on every stack (R29, R52, R55). `work` says that its steps 1 to 8 run towards Workshop (R36). -/
def State.startDawn (s : State) (work : Bool) : State :=
  s.onBoth fun t =>
    let t := ((t.powerDown .dawn).put SYS.DAWN_STEP 1).put SYS.MODE_BUSY 1
    { t with sys := { t.sys with toWorkshop := work } }

/-! ## Dusk and Siesta (R26, R32 to R36, R42) -/

/-- A stop turn is armed or waits (R249). -/
def Stack.stopPending (s : Stack) : Bool :=
  (s.turn.dev.toList ++ s.turn.waiting).any fun d => d == .stopSiesta || d == .stopDusk || d == .stopCritical

/-- A firmware return to Day from Dusk has been requested (R42). -/
def Stack.returnAsked (s : Stack) : Bool := s.sys.reenables.contains .duskBist

/-- Every upper layer on the regulated feed, as Siesta and Dusk have them: hand-overs and retries in progress end (R15, R505, log 110). -/
def Stack.allRegulated (s : Stack) : Stack :=
  let t := (s.put POWER.FEED_RAW 0).put POWER.REG_STATUS_BUSY 0
  { t with power := { t.power with handovers := [], retries := [] } }

/-- Dusk begins: Running DMA channels stop and the stop turn is made (R29, R34, R35, R249, R399). -/
def State.startDusk (s : State) (critical : Bool) : State :=
  s.onBoth fun t =>
    let t := ({ t.dmaStopAll.allRegulated with
      mode := .dusk
      sys := { t.sys with duskStep := 1, duskCritical := critical, duskWorkshop := t.mode == .workshop } } : Stack).put SYS.MODE_BUSY 1
    t.makeDevTurn (if critical then .stopCritical else .stopDusk)

/-- Registers of a block at their reset values. -/
def Stack.resetBlock (s : Stack) (block : Nat) : Stack := { s with regs := mapClear s.regs (block * 0x80000) 0x80000 }

/-- Entry to Siesta after the stop turn: what is in motion is lost, the packets and lines that media ports hold in part among it; DMA channels
and filter engines are reset, lanes and links are Down, pins float, memories are in self-refresh; a hand-over in progress ends, and every layer
is on the regulated feed (R25, R26, R280, R399, R454, R478, R505). -/
def Stack.enterSiesta (s : Stack) : Stack :=
  let t : Stack := (s.lanesDown.enginesReset.allRegulated).resetBlock 7
  let t : Stack := { t with
    dma := []
    rings := { t.rings with queues := [], tags := [], packets := [] }
    localPorts := []
    laces := (t.laces.map fun e => (e.1, ({ kp := e.2.kp, encStop := e.2.encStop } : Lace))).filter fun e => e.2 != {}
    media := { t.media with
      ports := (t.media.ports.map fun e => (e.1, ({ rings := e.2.rings } : MPort))).filter fun e => e.2 != {}
      rx := (t.media.rx.map fun e =>
        (e.1, ({ pkts := e.2.pkts, lost := e.2.lost, dup := e.2.dup, drop := e.2.drop, lastSeq := e.2.lastSeq } : RxFlow))).filter fun e => e.2 != {}
      tx := (t.media.tx.map fun e => (e.1, { e.2 with packets := [] })).filter fun e => e.2 != {}
      chans := (t.media.chans.map fun e => (e.1, ({ seq := e.2.seq } : TxChan))).filter fun e => e.2 != {}
      owner := [] }
    sys := { t.sys with outputs := .float, overrideUntilTurn := false, siestaEntry := false }
    mode := .siesta }
  let t := (List.range t.build.layers).foldl (fun t n => t.put (STORE.REFRESH_SELF n) 1) t.stopUserClocks
  t.syncPorts.moveDone

/-- A wake from Siesta begins (R29, R32). -/
def State.startWake (s : State) : State := s.onBoth fun t => ({ t with sys := { t.sys with siestaWake := 1 } } : Stack).put SYS.MODE_BUSY 1

/-- New scrubber laps from word 0 (R32, R378). -/
def Stack.newLaps (s : Stack) : Stack :=
  let l := (List.range s.build.layers ++ [4]).map fun n => (n, s.clk.up + 1)
  { s with integ := { s.integ with scrubPos := [], lapOver := [], lapStart := l } }

/-- The user PLLs that run in Day after a wake: valid, and used or kept (R32, R175). -/
def Stack.wakePlls (s : Stack) : Stack :=
  s.build.plls.foldl (fun t n =>
    if t.pllConfigValid n && !({ t with mode := .day } : Stack).pllUnused n then
      let t := t.setRunning (0x20 + n) true
      { t with clk := { t.clk with
          pllLocked := if t.clk.pllLocked.contains n then t.clk.pllLocked else t.clk.pllLocked ++ [n]
          pllIdle := t.clk.pllIdle.filter (· != n) } }
    else t) s

/-- The next step of a wake from Siesta (R32). -/
def Stack.wakeStep (s : Stack) : Stack :=
  let n := s.sys.siestaWake
  let t : Stack := { s with sys := { s.sys with siestaWake := n + 1 } }
  match n with
  | 3 => ((List.range t.build.layers).foldl (fun t n => t.put (STORE.REFRESH_SELF n) 0) t).newLaps
  | 4 => t.wakePlls
  | 6 => { ({ t with mode := .day } : Stack).lanesRestart.syncPorts with mode := .siesta }
  | 7 => ({ t with mode := .day, sys := { t.sys with siestaWake := 0, overrideUntilTurn := true } } : Stack).moveDone
  | _ => t

/-- Back to Day from Dusk: outputs stay in safe state until the next turn that applies; a Dusk that did not reach step 3 records that its
BIST was not run (R33, R42, R590). -/
def State.returnToDay (s : State) : State :=
  s.onBoth fun t =>
    let t := if t.sys.duskStep < 3 then t.bistRecord 0 3 else t
    ({ t with
      mode := .day
      sys := { t.sys with duskStep := 0, duskCritical := false, duskWorkshop := false, overrideUntilTurn := true, reenables := t.sys.reenables.filter (· != .duskBist) }
      } : Stack).moveDone

/-- The wear record as the THERM block's counters give it: hours of each band, turns, and each logic layer's monitors (R530). -/
def Stack.wearBody (s : Stack) : Sparse Nat :=
  let old := s.recordBody 0x0040
  let hours := fun i => (mapGet 0 old (1 + i) * 3600000000000 + mapGet 0 s.therm.bands i) / 3600000000000
  let b := (List.range 55).foldl (fun b i => mapSet 0 b (1 + i) (hours i % 2 ^ 32)) (mapSet 0 old 0 1)
  let turns := (mapGet 0 old 56 + 2 ^ 32 * mapGet 0 old 57 + s.therm.turns) % 2 ^ 64
  let b := mapSet 0 (mapSet 0 b 56 (turns % 2 ^ 32)) 57 (turns / 2 ^ 32)
  (List.range 4).foldl (fun b k => mapSet 0 b (58 + k) (s.get (THERM.WEAR_BASE k) + 2 ^ 16 * s.get (THERM.WEAR_MARGIN k))) b

/-- The wear record written: at Dusk step 2, and every 24 h of Day (R527, R530). The part of an hour that is not counted yet is kept. -/
def Stack.wearRecord (s : Stack) : Stack :=
  let body := s.wearBody
  let bands := (s.therm.bands.map fun e => (e.1, e.2 % 3600000000000)).filter fun e => e.2 != 0
  ({ s with therm := { s.therm with turns := 0, bands := bands } } : Stack).deviceRecord 0x0040 body

/-- Dusk step 2: event log, wear counters and repair maps flushed (R34). -/
def Stack.duskFlush (s : Stack) : Stack := ((s.flushLedger).wearRecord.writeTrackMap).writeLinkMap

/-- An effect on every stack with Dusk at a new step. -/
def State.duskTo (s : State) (n : Nat) (f : Stack → Stack) : State :=
  s.onBoth fun t => let t := f t; { t with sys := { t.sys with duskStep := n } }

/-- The end of Dusk step 4: everything but the vigil domain is powered down, and the move that follows begins (R34 to R36, R42). -/
def State.duskEnd (s : State) : State :=
  let after := s.recto.get SYS.MODE_REQ_AFTER_DUSK
  if s.recto.sys.dawnAfterDusk then s.startDawn false
  else if s.recto.sys.duskCritical then s.onBoth fun t => t.powerDown .vigil
  else if after = 2 then s.startDawn false
  else if after = 5 then s.startDawn true
  else s.onBoth fun t => t.powerDown .vigil

/-- The next step of Dusk, when it does not wait (R34, R35, R42). -/
def State.duskTick (s : State) : Option State :=
  match s.recto.sys.duskStep with
  | 1 =>
    if s.anyStack Stack.stopPending then Option.none
    else if s.recto.returnAsked then some s.returnToDay
    else some (s.duskTo 2 id)
  | 2 =>
    let s := s.onBoth Stack.duskFlush
    if s.recto.sys.duskCritical then some (s.duskTo 4 fun t => t.bistRecord 0 3)
    else if s.recto.returnAsked then some s.returnToDay
    else some (s.duskTo 3 fun t => t.bistStart 1)
  | 3 =>
    if s.anyStack fun t => t.bist.run != 0 then Option.none
    else if s.recto.returnAsked && !s.recto.sys.duskCritical then some s.returnToDay
    else some (s.duskTo 4 Stack.enginesReset)
  | 4 => some s.duskEnd
  | _ => Option.none

/-! ## Dawn, step by step (R52 to R70) -/

/-- Entry to Workshop from Dawn: loads that are complete leave their sections Asleep (R29, R36, R60, R170, log 53). -/
def Stack.enterWorkshop (s : Stack) : Stack :=
  let busy := fun n => s.flag LOAD.STATUS_BUSY && (s.sect n).image == s.loader.jobImage
  let t := ({ s with mode := .workshop, sys := { s.sys with toWorkshop := false, setReset := true, writesEnabled := true } } : Stack).modSects
    (s.sectionNumbers.filter fun n => s.stateIn n [.loading] && !busy n) (Section.after .asleep)
  (t.refreshDoms.put SYS.DAWN_STEP 0).moveDone

/-- A Dawn failure: the cause is reported and logged with its step, and the package moves to Haven, or to Workshop for the causes of step 9
(R55, R70). -/
def State.dawnFail (s : State) (cause : Nat) : State :=
  let step := s.recto.get SYS.DAWN_STEP
  s.onBoth fun t =>
    let t := t.event { block := 0, cause := cause, data0 := step }
    (if cause = 0xB ∨ cause = 0xC then t.enterWorkshop else t.enterHaven).put SYS.DAWN_FAIL cause

/-- Dawn enters Workshop without a failure (R29, R36, R70). -/
def State.dawnWorkshop (s : State) : State := s.onBoth Stack.enterWorkshop

/-- Step 1: the supplies are confirmed, and the base die leaves the boot oscillator (R52). -/
def Stack.dawn1 (s : Stack) : Stack :=
  let t : Stack := { s with sys := { s.sys with bootClock := false } }
  ([0, 1, 2, 3].foldl (fun t n => t.setRunning n true) t).put POWER.SUPPLY_OK_OK 0x1FFF

/-- Step 2: the upper layers on the raw feed, and the boot timetable live (R52, R56, R326). -/
def Stack.dawn2 (s : Stack) : Stack :=
  (s.put POWER.FEED_RAW (if s.build = .octavo then 0x0F else 0xFF)).put RING.TT_STATUS_BOOT 1

/-- The vertical-track repair map of the ledger applied (R52, R128). -/
def Stack.readTracks (s : Stack) : Stack :=
  match s.readBank 0x0022 with
  | Option.none => s
  | some i =>
    let b := (s.bank 0x0022 i).body
    let n := if s.build = .octavo then 9600 else 28800
    let m := (List.range n).filterMap fun k =>
      let v := bits (mapGet 0 b (1 + k / 4)) (8 * (k % 4)) 8
      if v = (if k % 8 < 6 then 0x7F else 0) then Option.none else some (k, v)
    { s with integ := { s.integ with vtracks := m } }

/-- The vertical-link repair map of the ledger applied, with the hops that its retired links degrade (R52, R335, R386). -/
def Stack.readLinks (s : Stack) : Stack :=
  match s.readBank 0x0023 with
  | Option.none => s
  | some i =>
    let b := (s.bank 0x0023 i).body
    let t := s.build.links.zipIdx.foldl (fun t li =>
      let w := fun j => mapGet 0 b (1 + 3 * li.2 + j)
      t.setVlink li.1 { spares := [bits (w 0) 16 8, bits (w 0) 24 8, bits (w 1) 0 8, bits (w 1) 8 8, bits (w 1) 16 8, bits (w 1) 24 8,
        bits (w 2) 0 8, bits (w 2) 8 8], unspared := bits (w 2) 16 8, state := bits (w 2) 24 8, ce := 0 }) s
    (List.range 4).foldl (fun t ring => (List.range 8).foldl (fun t hop =>
      if t.retiredLanes 0 (8 * ring + hop) (fun _ => true) = 0 then t else t.showHop ring hop) t) t

/-- What step 4 does about BIST: 0 nothing, 3 reduced BIST, 4 the failed blocks again (R68). `before` is the Dawn count of the last Dawn. DESIGN
CHOICE (log 109): a Fail record that also carries an older Dawn count is retested, and reduced BIST does not run as well. -/
def Stack.bistDue (s : Stack) (before : Nat) : Nat :=
  let w := s.recordWord 0x0030 0
  let result := bits w 24 8
  let some := (s.readBank 0x0030).isSome
  if some && result == 1 then 4
  else if some && bits w 16 8 == 0 && result == 0 && s.recordWord 0x0030 1 == before then 0
  else if bit (s.cfg 1) 8 then 0 else 3

/-- Step 4: records are read, the Dawn is counted, repair maps are applied, vertical tracks and data links are tested, an unfinished erasure of keys and
uploads end, and BIST runs if it is due (R52, R66, R68, R215, R382, R386, R527, R594). -/
def Stack.dawn4 (s : Stack) : Stack :=
  let s := s.latchRecord
  let before := s.recordWord 0x0002 1
  let count := (before + 1) % 2 ^ 32
  let s := (s.deviceRecord 0x0002 (putWords [] 0 [1, count])).put LEDGER.DAWNS_COUNT count
  let s : Stack := { s with loader := { s.loader with dir := s.loader.dir.filter fun e => e.2.state != 1 } }
  let s := if s.flag TEST.JTAG_STAT_ERASING then
      ({ s.eraseZone with jtag := { s.jtag with step := 0 } } : Stack).put TEST.JTAG_STAT_ERASING 0
    else s
  let s := s.readTracks.testTracks.readLinks.testLinks
  let s : Stack := { s with sys := { s.sys with ledgerRead := true } }
  match s.bistDue before with
  | 0 => s
  | 3 => s.bistDawn 3 []
  | _ =>
    let n := bits (s.recordWord 0x0030 3) 0 16
    ({ s with sys := { s.sys with retest := true } } : Stack).bistDawn 4 (if n ≤ 64 then ((List.range n).map fun i => s.recordWord 0x0030 (5 + i)) else [])

/-- The blocks of a retest have passed: Dawn logs the recovery, whether or not the test's own record could be written. DESIGN CHOICE: the
event's block 0, cause 0 and DATA0 4 (R68, log 51). -/
def Stack.retestLogged (s : Stack) : Stack :=
  if s.sys.retest then ({ s with sys := { s.sys with retest := false } } : Stack).event { block := 0, cause := 0, data0 := 4 } else s

/-- Region 1 defined over the carve-out with a fresh key in slot 0: the largest DATA whose footprint fits (R351, R404). -/
def Stack.defineRegion1 (s : Stack) : Stack :=
  let units := s.get STORE.CARVE_SIZE * 128
  let d := ((List.range (units + 1)).reverse.find? fun d => footUnits (d * 0x200000) ≤ units).getD 0
  let t := (s.setSlot 0 (some s.randomKey)).draw
  let t := (((t.putBoth (KEYS.REGIONW0_VALID 1) 1).putBoth (KEYS.REGIONW0_KEY 1) 0).putBoth (KEYS.REGIONW1_BASE 1)
    (s.get STORE.CARVE_BASE * 128)).putBoth (KEYS.REGIONW2_DATA 1) d
  (t.put (KEYS.REGION_STAT_STATE 1) 1).put (KEYS.REGION_FOOT_FOOT 1) (footUnits (d * 0x200000))

/-- Step 5: memories filled with zero, the use and the carve-out taken from the record, region 1 defined, scrubber laps begun
(R21, R22, R52, R351, R352, R362, R378, R404). -/
def Stack.dawn5 (s : Stack) : Stack :=
  let use := bits (s.cfg 1) (if s.side = .recto then 0 else 1) 1
  let usable := if s.build = .octavo then (if use = 1 then 48 else 38) else if use = 1 then 96 else 76
  let size := bits (s.cfg 6) 0 6
  let bad := size == 0 || decide (40 < size) || decide (usable - 4 < size)
  let size := if s.side = .verso then 0 else if bad then 8 else size
  let s : Stack := { s with mem := [], health := [], fabric := { s.fabric with pageStore := [], rewriteSafe := [] } }
  let s := ((s.put STORE.INFO_USE use).put STORE.INFO_LAYERS s.build.layers).put STORE.INFO_USABLE usable
  let s := (s.put STORE.CARVE_SIZE size).put STORE.CARVE_BASE (usable - size)
  let s := if bad && s.side == .recto then (s.put STORE.CARVE_DEFAULTED 1).event { block := 4, cause := 0 } else s
  (if s.side = .recto then s.defineRegion1 else s).newLaps

/-- Step 7 begins with step 6: every upper layer waits for its hand-over, from layer 2 upward (R53, R506). -/
def Stack.startHandovers (s : Stack) : Stack :=
  { s with power := { s.power with handovers := (List.range (2 * s.build.layers)).map fun i => { layer := i + 2, regulate := true, who := 0 } } }

/-- The wear monitors measured: BASE is the first measurement, and a MARGIN of 10 % or less raises WEAR. The frequency is a free value
(R531, log 2). -/
def Stack.wearMonitor (s : Stack) (k : Nat) : Stack :=
  let f := s.freeNat % 2 ^ 16
  let old := bits (s.recordWord 0x0040 (58 + k)) 0 16
  let base := if old = 0 then f else old
  let margin := if base ≤ f then 1000 else 1000 - 20000 * (base - f) / base
  let s := (s.draw.put (THERM.WEAR_BASE k) base).put (THERM.WEAR_MARGIN k) margin
  if 100 < margin then s
  else
    (((s.eventReg THERM.EVENT_VALID THERM.EVENT_LOST [(THERM.EVENT_DIE, logicLayer k), (THERM.EVENT_CAUSE, 5)]).raise THERM.INT_WEAR).event
      { block := 0xB, cause := 5, data0 := logicLayer k, data1 := margin })

/-- A word of the calibration record: OFFSET is what the calibration measures, a free value, and the temperatures are those of the layers
below and above the boundary, in whole degrees rounded down (R117, R118, log 2, log 108). -/
def Stack.phaseWord (s : Stack) (b : Nat) : Nat :=
  s.freeNat % 2 ^ 16 + 2 ^ 16 * wrapInt 8 (s.decided (logicLayer b) / 8) + 2 ^ 24 * wrapInt 8 (s.decided (logicLayer (b + 1)) / 8)

/-- Bridge phases of some boundaries: one whose phase in the ledger passes its verification keeps it; every other one is calibrated in full
and its 48 words are written; none when a boundary cannot be calibrated. What verification and calibration find is a free value (R58, R70, R118,
log 54, log 106). -/
def Stack.verifyPhases (s : Stack) (l : List Nat) : Option Stack :=
  let stored := (s.readBank 0x0021).isSome && bits (s.recordWord 0x0021 0) 0 16 == 1
  let due := l.filter fun b => !(stored && Config.phaseVerified s.freeCount b)
  if due.any fun b => !Config.calibrates s.freeCount b then Option.none
  else if due.isEmpty then some s.draw
  else
    let body := if stored then s.recordBody 0x0021 else [(0, 1 + (s.build.layers - 1) * 2 ^ 16)]
    let r := due.foldl (fun (r : Stack × Sparse Nat) b =>
      (List.range 48).foldl (fun r i => (r.1.draw, mapSet 0 r.2 (1 + 48 * b + i) (r.1.phaseWord b))) r) (s.draw, body)
    some (r.1.deviceRecord 0x0021 r.2)

/-- Step 8: ring clocks lock, the house clock starts from 0 in holdover, bridges are calibrated and the wear monitors measured; none when
the calibration fails (R52, R58, R70, R493, R531). -/
def Stack.dawn8 (s : Stack) : Option Stack :=
  let s := (s.setRunning 4 true).put CLK.HOUSE_CTL_REF (houseFields (s.cfg 7))
  let s : Stack := { s with time := 0, clk := { s.clk with started := true } }
  (s.newLaps.verifyPhases (List.range (s.build.layers - 1))).map fun s =>
    let s := s.put POWER.SUPPLY_OK_OK 0x3FFF
    (List.range s.build.layers).foldl Stack.wearMonitor s

/-- The default bindings of a stack: image number, START_LIVE and digest of each entry that names it (R59, R66). -/
def Stack.bindings (s : Stack) : List (Nat × Bool × Nat) :=
  let n := Nat.min (bits (s.cfg 8) 0 6) 32
  (List.range n).filterMap fun i =>
    let w := s.cfg (32 + 2 * i)
    if bits w 16 2 = (match s.side with | .recto => 0 | .verso => 1) then some (bits w 0 16, bit w 24, s.cfg (33 + 2 * i)) else Option.none

/-- The next default binding begins its job: the loader's checks and phases, with live copies written (R59, R217, R221). -/
def Stack.startBinding (s : Stack) (b : Nat × Bool × Nat) : Stack :=
  let t := s.jobBegin 6 b.1 b.2.2 b.2.1
  { t with loader := { t.loader with dawnIndex := s.loader.dawnIndex + 1 } }

/-- Step 10 begins: an invalid RELEASE_ORDER is logged (R64), and the release steps start. `recovery` says that a stack recovery runs them
(R614). DESIGN CHOICE: the event's block 0, cause 0 and DATA0 3 (log 51). -/
def Stack.startRelease (s : Stack) (recovery : Bool) : Stack :=
  let t : Stack := { s with sys := { s.sys with release := { active := true, recovery := recovery } } }
  if orderValid (bits (s.cfg 2) 0 8) then t else t.event { block := 0, cause := 0, data0 := 3 }

/-- The lock conditions of LOCK_MASK; bit 0, the ring clocks, holds since step 8. The user PLLs are those of the domains that the sections of
default bindings use, and the ports those that valid flow entries use, which are not ready while they are not enabled (R62, R66). -/
def Stack.locksMet (s : Stack) : Bool :=
  let m := s.cfg 5
  let own := s.sectionNumbers.filter fun n => (s.bindings.any fun b => b.1 == (s.sect n).image) && !s.stateIn n [.empty, .torn]
  let plls := own.all fun n => (s.usedDomains n).all fun d =>
    match pllOf d (s.get (CLK.SRC_SEL d)) with
    | some p => s.sourceRunning (0x20 + p)
    | Option.none => true
  let ports := (List.range s.build.mports).all fun q =>
    !((List.range 512).any fun e => s.rxValid q e || bit (s.txWord q e 2) 31) ||
      (!(s.portLanes q).isEmpty && (s.portLanes q).all fun n => s.get (LANE.STATUS_STAGE n) == 8)
  (!bit m 1 || plls) && (!bit m 2 || s.get CLK.HOUSE_STAT_STATE == 2) && (!bit m 3 || ports)

/-- LOCK_TIMEOUT in milliseconds: 0 reads as 100 (R65, R66). -/
def Stack.lockTimeoutMs (s : Stack) : Nat := let v := bits (s.cfg 5) 16 16; if v = 0 then 100 else v

/-- Release set/reset at Dawn: sections leave Loading for Live, Asleep or Held (R62, R170). -/
def Stack.releaseSections (s : Stack) : Stack :=
  Stack.refreshDoms <| (s.sectionNumbers.filter fun n => s.stateIn n [.loading]).foldl (fun t n =>
    let x := t.sect n
    let t := t.putBoth (SECT.RUN_LIVE x.home n) (b2n x.startLive)
    t.modSect n (Section.after (if x.startLive then .live else .asleep))) s

/-- The release step in progress is complete, and its delay begins (R63). -/
def Stack.releaseDone (s : Stack) : Stack :=
  { s with sys := { s.sys with release := { s.sys.release with locks := false, delay := true } } }

/-- The next release step, when one is due (R62, R63, R614): wait for locks, release outputs, release set/reset, enable writes. In a recovery
the outputs wait for the next turn that applies, and the others take effect for each section as it leaves Held. -/
def Stack.releaseTick (s : Stack) : Option Stack :=
  let r := s.sys.release
  if !r.active || r.locks then Option.none
  else if r.delay then Option.none
  else
    some (match bits s.releaseOrder (2 * r.idx) 2 with
    | 0 => { s with sys := { s.sys with release := { r with locks := true } } }
    | 1 =>
      (if r.recovery then ({ s with sys := { s.sys with overrideUntilTurn := true } } : Stack)
        else { s with sys := { s.sys with outputs := .live } }).releaseDone
    | 2 => (if r.recovery then s else { s.releaseSections with sys := { s.sys with setReset := true } }).releaseDone
    | _ => ({ s with sys := { s.sys with writesEnabled := true } } : Stack).releaseDone)

/-- Every loop of LOCK_MASK reports lock: the wait ends (R62). -/
def Stack.locksReported (s : Stack) : Stack := if s.sys.release.locks && s.locksMet then s.releaseDone else s

/-- The delay after a release step ends: the next step begins, or the last one ends Dawn or the recovery (R63, R614). -/
def Stack.releaseDelayEnd (s : Stack) : Stack :=
  let r := s.sys.release
  if !r.active || !r.delay then s
  else if r.idx < 3 then { s with sys := { s.sys with release := { r with idx := r.idx + 1, delay := false } } }
  else
    let t : Stack := { s with sys := { s.sys with release := {} } }
    if r.recovery then t.recoveryComplete .stack else t

/-- Dawn ends when the release steps have ended on every stack; the link groups found dead or degraded have their effect now (R29, R55, R63,
R385). -/
def State.dawnDone (s : State) : State :=
  if s.mode = .dawn ∧ s.recto.get SYS.DAWN_STEP = 10 ∧ s.every (fun t => !t.sys.release.active) = true then
    let s := s.onBoth fun t => (({ t with mode := .day } : Stack).put SYS.DAWN_STEP 0).moveDone
    let s := s.onStackFault .recto Stack.linksAtDay
    if s.build = .atlas then s.onStackFault .verso Stack.linksAtDay else s
  else s

/-- The sections that will be Live leave no exhausted tile boundary behind them (R127). -/
def Stack.dawnDetours (s : Stack) : Stack :=
  (s.sectionNumbers.filter fun n => s.stateIn n [.loading] && (s.sect n).startLive).foldl (fun t n => t.detour true n) s

/-- The Torn sections of a binding that tore at Dawn with BIND_FAIL = 1 are discarded to Empty (R223). -/
def Stack.discardTorn (s : Stack) (img : Nat) : Stack :=
  (s.sectionNumbers.filter fun n => (s.sect n).image == img && s.stateIn n [.torn]).foldl Stack.discard s

/-- What a stack does next in step 9: it acts on the end of a binding's job, or begins the next one; none while a job runs or when all are
done. The flag says that a binding has failed and is not to be skipped (R59, R66, R70, R223). -/
def Stack.dawn9 (s : Stack) : Option (Stack × Bool) :=
  if s.flag LOAD.STATUS_BUSY then Option.none
  else
    match s.loader.dawnCause with
    | some c =>
      let skip := bit (s.cfg 1) 9
      let t : Stack := { s with loader := { s.loader with dawnCause := Option.none } }
      if c = 0 then some (t, false)
      else if skip then some (t.discardTorn s.loader.jobImage, false)
      else some (t, true)
    | Option.none => (s.bindings[s.loader.dawnIndex]?).map fun b => (s.startBinding b, false)

/-- Step 9 of the package: none while the loader of some stack works (R55, R59, R66, R70). DESIGN CHOICE (log 109): with BOOT_TARGET Workshop
and no default binding listed, Workshop is entered without a failure; where some are listed and none is in the colophon, cause 0x0B is reported
whatever BOOT_TARGET says. -/
def State.dawn9 (s : State) : Option State :=
  let found := fun (t : Stack) => t.bindings.any fun b => (t.dirEntry b.1).state == 2
  let boot := bits (s.recto.cfg 0) 16 8
  let none_ := s.every fun t => t.bindings.isEmpty
  let fresh := s.every fun t => t.loader.dawnIndex == 0
  if fresh && boot ≠ 0 && none_ then some s.dawnWorkshop
  else if fresh && !s.anyStack found then some (s.dawnFail 0xB)
  else
    match [Side.recto, Side.verso].findSome? fun k => if s.hasSide k then ((s.stack k).dawn9).map fun r => (k, r) else Option.none with
    | some (k, r) => let s := s.putStack k r.1; some (if r.2 then s.dawnFail 0xC else s)
    | Option.none =>
      if s.anyStack fun t => t.flag LOAD.STATUS_BUSY then Option.none
      else
        let s := ((s.onBoth Stack.dawnDetours).syncConflicts .recto).syncConflicts .verso
        some (if boot ≠ 0 then s.dawnWorkshop else s.onBoth fun t => (t.put SYS.DAWN_STEP 10).startRelease false)

/-- The steps of a stack complete, and the next one begins on every stack. -/
def State.dawnTo (s : State) (n : Nat) (f : Stack → Stack) : State := s.onBoth fun t => (f t).put SYS.DAWN_STEP n

/-- Step 8 on every stack: its failure is one of the package (R52, R55, R70). -/
def State.dawn8 (s : State) : State :=
  match s.recto.dawn8, (if s.build = .atlas then s.verso.dawn8 else some s.verso) with
  | some r, some v =>
    let s := { s with recto := r, verso := v }
    if s.recto.sys.toWorkshop then s.dawnWorkshop else s.dawnTo 9 id
  | _, _ => s.dawnFail 0xA

/-- The next step of Dawn, when it does not wait for an event (R52, R53, R55, R57). DESIGN CHOICE (log 109): while steps 6 and 7 run in parallel,
STEP reads 6 until UCIe has trained, and then 7. -/
def State.dawnTick (s : State) : Option State :=
  match s.recto.get SYS.DAWN_STEP with
  | 1 => if s.every (·.suppliesOk) then some (s.dawnTo 2 Stack.dawn1) else Option.none
  | 2 => some (s.dawnTo 3 Stack.dawn2)
  | 3 => some (if s.every fun t => t.selfTest t.build.links then s.dawnTo 4 Stack.draw else s.dawnFail 4)
  | 4 =>
    if s.anyStack fun t => !t.loader.readable then some (s.dawnFail 5)
    else if !s.every (·.sys.ledgerRead) then some (s.onBoth fun t => if t.sys.ledgerRead then t else t.dawn4)
    else if s.anyStack fun t => t.bist.run != 0 then Option.none
    else if s.anyStack fun t => t.get TEST.STATUS_RESULT == 1 then some (s.dawnFail 6)
    else some (s.dawnTo 5 Stack.retestLogged)
  | 5 => some (s.dawnTo 6 fun t => t.dawn5)
  | 6 =>
    if !s.recto.sys.hostReleased then
      some (s.onBoth fun t => ({ t with sys := { t.sys with hostReleased := true } } : Stack).startHandovers.lanesRestart)
    else some (s.dawnTo 7 fun t => t.put HOSTIF.UCIE_STAT_MODULES (if t.build = .atlas then 1 else 3))
  | 7 => if s.every fun t => t.get POWER.FEED_RAW == 0 then some (s.dawnTo 8 id) else Option.none
  | 8 => some s.dawn8
  | 9 => s.dawn9
  | _ => Option.none

/-- The release steps of some stack, in Dawn or in a recovery; a delay of 0 ends at once (R63, R614). -/
def State.releaseTick (s : State) : Option State :=
  [Side.recto, Side.verso].findSome? fun k =>
    if s.hasSide k then
      let t := s.stack k
      if t.sys.release.delay && t.releaseDelay t.sys.release.idx == 0 then some ((s.putStack k t.releaseDelayEnd).dawnDone)
      else t.releaseTick.map (s.putStack k ·)
    else Option.none

/-- The next internal step of the mode sequencer, when it has one. -/
def State.modeTick (s : State) : Option State :=
  match s.mode with
  | .dawn => (s.dawnTick).or s.releaseTick
  | .dusk => s.duskTick
  | .day =>
    if s.recto.sys.siestaEntry && !s.anyStack Stack.stopPending then some (s.onBoth Stack.enterSiesta) else s.releaseTick
  | .workshop => s.releaseTick
  | .siesta => if s.recto.sys.siestaWake = 0 then Option.none else some (s.onBoth Stack.wakeStep)
  | _ => Option.none

/-! ## Requests (R29, R30) -/

/-- A mode request refused: the mode is unchanged, and the cause is reported (R30). -/
def State.modeRefuse (s : State) (cause : Nat) : State :=
  s.onBoth fun t => ((t.put SYS.MODE_REFUSED 1).put SYS.MODE_REFUSE_CAUSE cause).raise SYS.INT_MODE_REFUSED

/-- What a permitted request asks for. -/
inductive Move where
  | wake | back | dawnLater | siesta | dusk | dawn | vigil
deriving DecidableEq, Repr

/-- R29's firmware moves from the mode in force; none where no such move exists. A Dusk of the critical temperature does not return to
Day, and one entered from Workshop only by the Dawn that a request in its step 4 becomes (R30, R35, R42, log 55). -/
def State.moveOf (s : State) (target : Mode) : Option Move :=
  match s.mode, target with
  | .siesta, .day => some .wake
  | .dusk, .day =>
    if s.recto.sys.duskCritical then Option.none
    else if 4 ≤ s.recto.sys.duskStep then some .dawnLater
    else if s.recto.sys.duskWorkshop then Option.none
    else some .back
  | .day, .siesta => some .siesta
  | .day, .dusk => some .dusk
  | .workshop, .dusk => some .dusk
  | .haven, .dawn => some .dawn
  | .haven, .vigil => some .vigil
  | _, _ => Option.none

/-- The cause of a refusal of a move of R29's table, 0 for none, lowest code first (R30). Dawn and Dusk are moves in progress, and the one
request that is queued is that of Day in Dusk (R42, log 55). -/
def State.moveRefusal (s : State) (m : Move) : Nat :=
  let queueable := (m == .back && !s.recto.returnAsked) || (m == .dawnLater && !s.recto.sys.dawnAfterDusk)
  if s.recto.flag SYS.MODE_BUSY && !queueable then 2
  else if (m == .siesta || m == .dusk) && s.anyStack Stack.turnArmed then 3
  else if s.anyStack fun t => t.sys.recoveries.any fun r => 3 ≤ r.res.level then 4
  else 0

/-- BUSY set while a move goes on (R29). -/
def Stack.moveBusy (s : Stack) : Stack := s.put SYS.MODE_BUSY 1

/-- A permitted move begins (R29, R32, R34, R42). -/
def State.move (s : State) : Move → State
  | .wake => s.startWake
  | .back => s.onBoth fun t =>
      ({ t with
        sys := { t.sys with reenables := t.sys.reenables ++ [.duskBist] }
        bist := if t.bist.run = 0 then t.bist else { t.bist with stop := 1 } } : Stack).moveBusy
  | .dawnLater => s.onBoth fun t => ({ t with sys := { t.sys with dawnAfterDusk := true } } : Stack)
  | .siesta => s.onBoth fun t => (({ t with sys := { t.sys with siestaEntry := true } } : Stack).moveBusy).makeDevTurn .stopSiesta
  | .dusk => s.startDusk false
  | .dawn => s.startDawn false
  | .vigil => s.onBoth fun t => t.powerDown .vigil

/-- The fields of a request held in recto's MODE_REQ (R29). -/
def State.holdRequest (s : State) (target : Mode) (after : Nat) : State :=
  s.onStack .recto fun t => (t.put SYS.MODE_REQ_TARGET target.code).put SYS.MODE_REQ_AFTER_DUSK after

/-- A write of SYS.MODE_REQ with a target: verso's instance ignores it; the fields are held, and the move begins or is refused
(R29, R30, R551, R573). -/
def State.modeReq (s : State) (k : Side) (target : Mode) (after : Nat) : State :=
  if k = .verso then s
  else
    let s := s.holdRequest target after
    match s.moveOf target with
    | Option.none => s.modeRefuse 1
    | some m => let c := s.moveRefusal m; if c = 0 then s.move m else s.modeRefuse c

/-- The WAKE ball: Dawn from Vigil when the supplies are within specification, or a wake from Siesta (R29). DESIGN CHOICE (log 109): a cause that
comes while a supply is outside specification is dropped, and is not remembered until the supplies return. -/
def State.wake (s : State) : State :=
  if s.mode = .vigil ∧ s.every (·.suppliesOk) = true then s.startDawn false
  else if s.mode = .siesta ∧ s.recto.sys.siestaWake = 0 then s.startWake
  else s

/-- The vigil wake timer expires (R29, R551). As with the WAKE ball, an expiry while a supply is outside specification is dropped (log 109). -/
def State.vigilTimer (s : State) : State :=
  if s.mode = .vigil ∧ s.recto.flag SYS.VIGIL_TIMER_SECONDS = true ∧ s.every (·.suppliesOk) = true then s.startDawn false else s

/-- A Dawn failure in a step in which it can occur. -/
def State.failIn (s : State) (steps : List Nat) (cause : Nat) : State :=
  if s.mode = .dawn ∧ steps.contains (s.recto.get SYS.DAWN_STEP) = true then s.dawnFail cause else s

/-- The wait for locks passes its timeout: Dawn fails, or the recovery escalates as R44 gives. DESIGN CHOICE (log 109): the event's DATA1 is then
LOCK_TIMEOUT, the limit that was exceeded (R48, R65, R614). -/
def State.lockTimeout (s : State) (k : Side) : State :=
  let t := s.stack k
  if !s.hasSide k || !t.sys.release.locks then s
  else if t.sys.release.recovery then s.onStackFault k fun t => ({ t with sys := { t.sys with release := {} } } : Stack).recoveryLapse t.lockTimeoutMs .stack
  else s.dawnFail 0xD

/-- The power-down of a layer's rails ends at its safe boundary: the hand-over to the raw feed is abandoned, the layer is on the regulated feed,
and the planes of its sections are re-staged over their tiles in it. Both feeds keep MARRAY at 0.75 V, so its memory layer needs no fill (R15,
R40, R41, R504). -/
def Stack.railBack (layer : Nat) (s : Stack) : Stack :=
  let t : Stack := { s with
    sys := { s.sys with reenables := s.sys.reenables.filter (· != .rail layer) }
    power := { s.power with handovers := s.power.handovers.filter fun h => h.layer != layer } }
  let t := ((t.setRaw layer false).put POWER.REG_STATUS_BUSY 0).put POWER.REG_STATUS_RESULT 0
  (t.sectionsIn layer).foldl (fun t n =>
    if (t.sect n).root then
      ([0, 1, 2, 3].filter fun p => (t.plane n p).status == .live || (t.plane n p).status == .staged).foldl (fun t p =>
        t.restage ((t.pagedTiles n).filter fun x => x.layer == layer) n p) t
    else t) t

/-- A queued re-enable reaches its safe boundary (R40 to R42): kind 0 the sleep of section n, with its gates closed; 1 the BIST of Dusk; 2 the
power-down of lane n; 3 the power-down of Dusk step 4; 4 the power-down of the rails of layer n. -/
def State.reenable (s : State) (k : Side) (kind n : Nat) : State :=
  let t := s.stack k
  if !s.hasSide k then s
  else match kind with
  | 0 =>
    if t.sys.reenables.contains (.sectionSleep n) && (t.sect n).seq == .sleep 2 then
      s.onStackFault k fun t =>
        let fam := (t.family n).filter fun m => (t.sect m).seq == .sleep 2
        let t := (t.modSects fam fun x => { x with state := .asleep, seq := .wake 0 })
        let t : Stack := { t with sys := { t.sys with reenables := t.sys.reenables.filter fun r => !fam.any fun m => r == .sectionSleep m } }
        fam.foldl (fun t m => t.detour false m) t
    else s
  | 1 =>
    if s.mode = .dusk ∧ t.sys.duskStep = 3 ∧ t.returnAsked = true then
      (s.onBoth fun t => if t.bist.run = 0 then t else t.bistAbandon).returnToDay
    else s
  | 2 =>
    if t.sys.reenables.contains (.lanePower n) then
      (s.onStack k fun t =>
        (({ t with sys := { t.sys with reenables := t.sys.reenables.filter (· != .lanePower n) } } : Stack).laneStart n).syncPorts).pairLink
    else s
  | 3 => if s.mode = .dusk ∧ t.sys.duskStep = 4 ∧ t.sys.dawnAfterDusk = true then s.duskEnd else s
  | _ => if t.sys.reenables.contains (.rail n) then s.onStack k (Stack.railBack n) else s

/-! ## Commands -/

/-- OFF_TO_VIGIL (R29): VCC_VIGIL rises above its brown-out threshold and the device enters Vigil. -/
def execOffToVigil (s : State) : Host.Outcome State Fault Refusal :=
  .next (if s.mode = .off then s.onBoth fun t => { t with mode := .vigil } else s)

/-- BROWN_OUT (R51): VCC_VIGIL falls below its brown-out threshold and resets the whole device to Off. -/
def execBrownOut (s : State) : Host.Outcome State Fault Refusal := .next (s.onBoth Stack.brownOut)

/-- WAKE (R29): The WAKE ball is asserted and starts Dawn from Vigil or a wake from Siesta. -/
def execWake (s : State) : Host.Outcome State Fault Refusal := .next s.wake

/-- VIGIL_WAKE_TIMER (R29): The vigil wake timer of SYS.VIGIL_TIMER expires and starts Dawn if every supply is within specification. -/
def execVigilWakeTimer (s : State) : Host.Outcome State Fault Refusal := .next s.vigilTimer

/-- MODE_REQ_DAY (R29): Firmware requests Day; this is a Siesta wake, or a return from Dusk steps 1 to 3 (R42), or a refusal. -/
def execModeReqDay (k : Side) (after : Nat) (s : State) : Host.Outcome State Fault Refusal := .next (s.modeReq k .day after)

/-- MODE_REQ_SIESTA (R29): Firmware requests Siesta from Day; a stop turn is made, or the request is refused (R30). -/
def execModeReqSiesta (k : Side) (after : Nat) (s : State) : Host.Outcome State Fault Refusal := .next (s.modeReq k .siesta after)

/-- MODE_REQ_DUSK (R29): Firmware requests Dusk from Day or Workshop, or the request is refused. -/
def execModeReqDusk (k : Side) (after : Nat) (s : State) : Host.Outcome State Fault Refusal := .next (s.modeReq k .dusk after)

/-- MODE_REQ_DAWN (R29): Firmware requests Dawn from Haven, or the request is refused. -/
def execModeReqDawn (k : Side) (after : Nat) (s : State) : Host.Outcome State Fault Refusal := .next (s.modeReq k .dawn after)

/-- MODE_REQ_VIGIL (R29): Firmware requests Vigil from Haven, or the request is refused. -/
def execModeReqVigil (k : Side) (after : Nat) (s : State) : Host.Outcome State Fault Refusal := .next (s.modeReq k .vigil after)

/-- MODE_REQ_WORKSHOP (R30): Firmware requests Workshop directly; no such move exists, and the request is refused. -/
def execModeReqWorkshop (k : Side) (after : Nat) (s : State) : Host.Outcome State Fault Refusal := .next (s.modeReq k .workshop after)

/-- MODE_REQ_HAVEN (R30): Firmware requests Haven directly; no such move exists, and the request is refused. -/
def execModeReqHaven (k : Side) (after : Nat) (s : State) : Host.Outcome State Fault Refusal := .next (s.modeReq k .haven after)

/-- TCXO_TIMEOUT (R70): No TCXO edges arrive within 2 ms of Dawn step 1, and Dawn fails to Haven. -/
def execTcxoTimeout (s : State) : Host.Outcome State Fault Refusal := .next (s.failIn [1] 1)

/-- SYSTEM_PLL_TIMEOUT (R70): The base system PLL has not locked within 1 ms of the TCXO edges, and Dawn fails. -/
def execSystemPllTimeout (s : State) : Host.Outcome State Fault Refusal := .next (s.failIn [1] 2)

/-- FILL_TIMEOUT (R70): The memory fill has not completed within 40 ms, and Dawn fails. -/
def execFillTimeout (s : State) : Host.Outcome State Fault Refusal := .next (s.failIn [5] 7)

/-- UCIE_TRAIN_TIMEOUT (R537): UCIe has not trained within 10 ms of host release, and Dawn fails with cause 0x08. -/
def execUcieTrainTimeout (s : State) : Host.Outcome State Fault Refusal := .next (s.failIn [6] 8)

/-- LAYER_PLL_TIMEOUT (R70): A layer PLL has not locked within 5 ms at Dawn step 8, and Dawn fails. -/
def execLayerPllTimeout (s : State) : Host.Outcome State Fault Refusal := .next (s.failIn [8] 0xA)

/-- RELEASE_DELAY_EXPIRY (R63): The delay after a release step, or after a recovery's release step, ends and the next release step begins.
-/
def execReleaseDelayExpiry (k : Side) (s : State) : Host.Outcome State Fault Refusal := nextSide s k fun s => (s.onStack k Stack.releaseDelayEnd).dawnDone

/-- LOCKS_REPORTED (R62): Every loop selected in LOCK_MASK reports lock, and the wait-for-locks step completes. -/
def execLocksReported (k : Side) (s : State) : Host.Outcome State Fault Refusal := nextStack s k Stack.locksReported

/-- LOCK_TIMEOUT (R65): The wait for locks exceeds LOCK_TIMEOUT, and Dawn fails or the recovery escalates. -/
def execLockTimeout (k : Side) (s : State) : Host.Outcome State Fault Refusal := nextSide s k fun s => s.lockTimeout k

/-- REENABLE_AT_SAFE_BOUNDARY (R40): A shutdown that a re-enable request has queued reaches its safe boundary, and it is abandoned,
re-initialised and enabled. -/
def execReenableAtSafeBoundary (k : Side) (kind n : Nat) (s : State) : Host.Outcome State Fault Refusal := nextSide s k fun s => s.reenable k kind n

/-- BIST_GROUP (R585): A group of 1,024 BIST patterns ends and its signature is compared. -/
def execBistGroup (k : Side) (failed : List Nat) (s : State) : Host.Outcome State Fault Refusal := nextStack s k (Stack.bistGroup failed)

end Sys2Proof.Machine
end

