-- ==== Sys2Proof/Machine/Atlas.lean ====
section
/-! DEFINITION. The Atlas pair in Mirror: snapshots, exchanges and the re-synchronisation window (R575 to R583). -/

namespace Sys2Proof.Machine

/-! ## Snapshots (R149, R580) -/

/-- The part of section n in a snapshot: the state banks of its live plane with `ff`, its leaf memories with `leaf` (R580). -/
def Stack.snapshot (s : Stack) (n : Nat) (ff leaf : Bool) : Snapshot :=
  let ts := (s.sect n).tiles; let p := s.livePlane n
  { sect := n
    banks := if ff then ts.flatMap fun t => (List.range 16).map fun g => (folioKey t g 0, s.fabric.bank (folioKey t g p)) else []
    leaves := if leaf then ts.map fun t => (leafBase t, mapRange s.mem (leafBase t) 0x4000) else [] }

/-- A part of a snapshot written over the live state bank and the leaf memories of its section, whose codewords are full writes; a section
that is not Live discards it (R374, R580). -/
def Stack.applySnapshot (s : Stack) (x : Snapshot) : Stack :=
  if !(s.stateIn x.sect [.live]) then s
  else
    let p := s.livePlane x.sect
    { s with
      fabric := { s.fabric with banks := x.banks.foldl (fun m b => mapSet 0 m (b.1 + p) b.2) s.fabric.banks }
      health := x.leaves.foldl (fun h l => mapClear h (l.1 / 16) 0x400) (x.banks.foldl (fun h b => mapErase h (bankMark (b.1 + p))) s.health)
      mem := x.leaves.foldl (fun m l => l.2.foldl (fun m c => mapSet 0 m c.1 c.2) (mapClear m l.1 0x4000)) s.mem }

/-- The snapshot that a stack takes by recto's mirror list: 512 bytes for each tile with FF, 16,384 for each with LEAF (R577, R580). -/
def State.takeExchange (s : State) (k : Side) : Exchange :=
  let t := s.stack k
  let l := (List.range 64).filterMap fun i =>
    if s.recto.flag (PINS.MIRROR_VALID i) then
      some (s.recto.get (PINS.MIRROR_SECTION i), s.recto.flag (PINS.MIRROR_FF i), s.recto.flag (PINS.MIRROR_LEAF i))
    else Option.none
  { taker := otherSide k
    bytes := l.foldl (fun a e => a + (t.sect e.1).tiles.length * (512 * b2n e.2.1 + 16384 * b2n e.2.2)) 0
    parts := l.map fun e => t.snapshot e.1 e.2.1 e.2.2 }

/-- A complete exchange applied by the stack that it was sent to (R580). -/
def State.applyExchange (s : State) (x : Exchange) : State := s.onStack x.taker fun t => x.parts.foldl Stack.applySnapshot t

/-! ## The pair (R575, R580 to R582) -/

/-- The exchange held for the pair replaced. -/
def State.setHeld (s : State) (x : Option Exchange) : State := s.onStack .recto fun t => { t with pair := { t.pair with held := x } }

/-- Neither stack is a standby in synchrony. -/
def State.loseSync (s : State) : State := s.onStack .recto fun t => (t.put PINS.PAIR_STAT_SYNC_R 0).put PINS.PAIR_STAT_SYNC_V 0

/-- The re-synchronisation window closes. -/
def State.closeWindow (s : State) : State :=
  s.onStack .recto fun t => { t.put PINS.PAIR_STAT_WINDOW 0 with pair := { t.pair with frames := 0 } }

/-- The standby at a frame start: a complete exchange is applied, puts it in synchrony unless its own stack recovers, and closes an open
window with RESYNC_DONE; an incomplete one is discarded with STALE (R580 to R582). -/
def State.standbyFrame (s : State) (complete : Bool) : State :=
  match s.recto.pair.held with
  | Option.none => s.loseSync
  | some x =>
    if x.taker = s.active then s.loseSync
    else if !complete || s.recto.laceState 4 != 2 then
      s.loseSync.onStack .recto (Stack.pairEvent · 3)
    else
      let s := s.applyExchange x
      let s := s.onStack .recto fun t => t.put PINS.EXCH_BYTES x.bytes
      if (s.stack x.taker).stackRecovery.isSome then s.loseSync
      else
        let s := s.onStack .recto fun t => t.put (syncField x.taker) 1
        if s.recto.flag PINS.PAIR_STAT_WINDOW then s.closeWindow.onStack .recto (Stack.pairEvent · 2) else s

/-- A frame start of raster 0 in Mirror: the standby applies what the last frame start sent, the active stack takes its snapshot, and an
open window counts the frame (R580, R582). `complete` says whether the last exchange arrived complete. -/
def State.mirrorExchange (complete : Bool) (s : State) : State :=
  if !s.mirror || !(s.stack s.active).rasterRunning 0 then s
  else
    let s := s.standbyFrame complete
    let s := s.setHeld (some (s.takeExchange s.active))
    if s.recto.flag PINS.PAIR_STAT_WINDOW then
      s.onStack .recto fun t => { t with pair := { t.pair with frames := t.pair.frames + 1 } }
    else s

/-- The window is still open after three frames: RESYNC_FAIL, and it closes (R582). -/
def State.resyncFail (s : State) : State :=
  if s.mirror && s.recto.flag PINS.PAIR_STAT_WINDOW && decide (3 ≤ s.recto.pair.frames) then
    s.closeWindow.onStack .recto (Stack.pairEvent · 4)
  else s

/-- LACE_04 leaves Up, or the pair leaves Mirror, where no exchange runs: the standby is out of synchrony, and an exchange on its way is
incomplete (R580, R581). -/
def State.mirrorLink (s : State) : Option State :=
  if (!s.mirror || s.recto.laceState 4 != 2) &&
      (s.recto.flag PINS.PAIR_STAT_SYNC_R || s.recto.flag PINS.PAIR_STAT_SYNC_V) then some s.loseSync else Option.none

/-- The switch-over turn of a stack applies: it first applies any complete exchange that it holds, then becomes active; the window opens
(R576, R581, R582). -/
def State.switchOver (s : State) (k : Side) : State :=
  if s.active = k then s
  else
    let s := match s.recto.pair.held with
      | some x => if x.taker = k then s.applyExchange x else s
      | Option.none => s
    let s := (s.setHeld Option.none).loseSync
    s.onStack .recto fun t =>
      let t := ((t.putBoth PINS.PAIR_ACTIVE (match k with | .recto => 0 | .verso => 1)).put PINS.PAIR_STAT_WINDOW 1).pairEvent 1
      { t with pair := { t.pair with frames := 0 } }

/-- MIRROR_EXCHANGE (R580): At a raster 0 frame start, the active stack snapshots mirrored sections and the standby applies the last
complete exchange. -/
def execMirrorExchange (complete : Bool) (s : State) : Host.Outcome State Fault Refusal := .next (s.mirrorExchange complete)

/-- RESYNC_FAIL (R582): The re-synchronisation window is still open after three frames, and RESYNC_FAIL is raised. -/
def execResyncFail (s : State) : Host.Outcome State Fault Refusal := .next s.resyncFail

end Sys2Proof.Machine
end

