-- ==== Sys2Proof/Machine/FeIsa.lean ====
section
/-! DEFINITION. The filter-engine instructions: an engine issues one in its next cycle (R289 to R299). What each stage then does
is said once, in Fe.lean (`Engine.issue`, `Stack.feOperands`, `FeBank.writeBack`, `Stack.feWrite`). -/

namespace Sys2Proof.Machine

/-- NOP (R289): The NOP instruction does nothing. -/
def execINop (k : Side) (i n : Nat) (s : State) : Host.Outcome State Fault Refusal :=
  nextStack s k (Stack.feIssue i n (.nop))

/-- HALT (R289): The HALT instruction stops issue; the engine is Halted and HALT_PEND is set. -/
def execIHalt (k : Side) (i n : Nat) (s : State) : Host.Outcome State Fault Refusal :=
  nextStack s k (Stack.feIssue i n (.halt))

/-- SIGNAL (R289): The SIGNAL instruction sets the engine's SIGNAL_PEND bit. -/
def execISignal (k : Side) (i n : Nat) (s : State) : Host.Outcome State Fault Refusal :=
  nextStack s k (Stack.feIssue i n (.signal))

/-- BR (R290): The BR instruction branches with one delay slot when COND holds. -/
def execIBr (k : Side) (i n : Nat) (cond target : Nat) (s : State) : Host.Outcome State Fault Refusal :=
  nextStack s k (Stack.feIssue i n (.br cond target))

/-- BRL (R289): The BRL instruction branches always and writes the return address to G7. -/
def execIBrl (k : Side) (i n : Nat) (target : Nat) (s : State) : Host.Outcome State Fault Refusal :=
  nextStack s k (Stack.feIssue i n (.brl target))

/-- JR (R289): The JR instruction branches to the address held in a general register. -/
def execIJr (k : Side) (i n : Nat) (s1 : Nat) (s : State) : Host.Outcome State Fault Refusal :=
  nextStack s k (Stack.feIssue i n (.jr s1))

/-- REP (R302): The REP instruction opens a repeat block with an immediate count. -/
def execIRep (k : Side) (i n : Nat) (len count : Nat) (s : State) : Host.Outcome State Fault Refusal :=
  nextStack s k (Stack.feIssue i n (.rep len count))

/-- REPR (R289): The REPR instruction opens a repeat block with a count from a register. -/
def execIRepr (k : Side) (i n : Nat) (len s2 : Nat) (s : State) : Host.Outcome State Fault Refusal :=
  nextStack s k (Stack.feIssue i n (.repr len s2))

/-- RETI (R268): The RETI instruction returns to the main bank and resumes its frozen pipeline. -/
def execIReti (k : Side) (i n : Nat) (s : State) : Host.Outcome State Fault Refusal :=
  nextStack s k (Stack.feIssue i n (.reti))

/-- WAITM (R294): The WAITM instruction discards head quads until one with the named mark arrives. -/
def execIWaitm (k : Side) (i n : Nat) (port mark : Nat) (s : State) : Host.Outcome State Fault Refusal :=
  nextStack s k (Stack.feIssue i n (.waitm port mark))

/-- MFS (R286): The MFS instruction reads a special register into a general register. -/
def execIMfs (k : Side) (i n : Nat) (d spr : Nat) (s : State) : Host.Outcome State Fault Refusal :=
  nextStack s k (Stack.feIssue i n (.mfs d spr))

/-- MTS (R286): The MTS instruction writes a general register into a special register. -/
def execIMts (k : Side) (i n : Nat) (s1 spr : Nat) (s : State) : Host.Outcome State Fault Refusal :=
  nextStack s k (Stack.feIssue i n (.mts s1 spr))

/-- PUSHQ (R291): The PUSHQ instruction stores CNT + 1 quads from an input port into memory. -/
def execIPushq (k : Side) (i n : Nat) (mem a : Nat) (u : Bool) (port cnt : Nat) (s : State) : Host.Outcome State Fault Refusal :=
  nextStack s k (Stack.feIssue i n (.pushq mem a u port cnt))

/-- SENDQ (R291): The SENDQ instruction offers a memory quad with a mark on an output port. -/
def execISendq (k : Side) (i n : Nat) (mem a : Nat) (u : Bool) (port mark : Nat) (s : State) : Host.Outcome State Fault Refusal :=
  nextStack s k (Stack.feIssue i n (.sendq mem a u port mark))

/-- INQ (R291): The INQ instruction takes one quad from an input port into a register pair. -/
def execIInq (k : Side) (i n : Nat) (d port : Nat) (s : State) : Host.Outcome State Fault Refusal :=
  nextStack s k (Stack.feIssue i n (.inq d port))

/-- OUTQ (R291): The OUTQ instruction narrows the accumulators into a quad and sends it on an output port. -/
def execIOutq (k : Side) (i n : Nat) (sh port mark : Nat) (clr uns : Bool) (s : State) : Host.Outcome State Fault Refusal :=
  nextStack s k (Stack.feIssue i n (.outq sh port mark clr uns))

/-- TAP (R297): The TAP instruction performs one four-lane filter tap, optionally moving the delay line. -/
def execITap (k : Side) (i n : Nat) (ya ca : Nat) (uy uc mv neg cq sy sc clr : Bool) (s : State) : Host.Outcome State Fault Refusal :=
  nextStack s k (Stack.feIssue i n (.tap ya ca uy uc mv neg cq sy sc clr))

/-- MACQ (R296): The MACQ instruction multiplies an X quad by a Y quad into the four accumulators. -/
def execIMacq (k : Side) (i n : Nat) (xa ya : Nat) (ux uy neg sx sy clr : Bool) (s : State) : Host.Outcome State Fault Refusal :=
  nextStack s k (Stack.feIssue i n (.macq xa ya ux uy neg sx sy clr))

/-- MACE (R296): The MACE instruction multiplies one element by a coefficient into one accumulator. -/
def execIMace (k : Side) (i n : Nat) (acc mem a1 ac : Nat) (u1 uc neg s1 sc clr : Bool) (s : State) : Host.Outcome State Fault Refusal :=
  nextStack s k (Stack.feIssue i n (.mace acc mem a1 ac u1 uc neg s1 sc clr))

/-- CLRA (R296): The CLRA instruction clears the accumulators selected by MASK. -/
def execIClra (k : Side) (i n : Nat) (mask : Nat) (s : State) : Host.Outcome State Fault Refusal :=
  nextStack s k (Stack.feIssue i n (.clra mask))

/-- MOVAG (R296): The MOVAG instruction moves a shifted and clamped accumulator into a general register. -/
def execIMovag (k : Side) (i n : Nat) (d acc sh : Nat) (rnd : Bool) (s : State) : Host.Outcome State Fault Refusal :=
  nextStack s k (Stack.feIssue i n (.movag d acc sh rnd))

/-- MOVGA (R296): The MOVGA instruction moves a sign-extended general register into an accumulator. -/
def execIMovga (k : Side) (i n : Nat) (acc s1 : Nat) (s : State) : Host.Outcome State Fault Refusal :=
  nextStack s k (Stack.feIssue i n (.movga acc s1))

/-- SHFA (R296): The SHFA instruction shifts the selected accumulators with saturation. -/
def execIShfa (k : Side) (i n : Nat) (mask sh : Nat) (s : State) : Host.Outcome State Fault Refusal :=
  nextStack s k (Stack.feIssue i n (.shfa mask sh))

/-- STAQ (R296): The STAQ instruction stores the narrowed accumulators as a quad in memory. -/
def execIStaq (k : Side) (i n : Nat) (mem a : Nat) (u : Bool) (sh : Nat) (uns clr : Bool) (s : State) : Host.Outcome State Fault Refusal :=
  nextStack s k (Stack.feIssue i n (.staq mem a u sh uns clr))

/-- SUMA (R296): The SUMA instruction sums the four accumulators into one, saturated. -/
def execISuma (k : Side) (i n : Nat) (acc : Nat) (s : State) : Host.Outcome State Fault Refusal :=
  nextStack s k (Stack.feIssue i n (.suma acc))

/-- ADD (R298): The ADD instruction adds two registers and sets Z, N, C and V. -/
def execIAdd (k : Side) (i n : Nat) (d s1 s2 : Nat) (s : State) : Host.Outcome State Fault Refusal :=
  nextStack s k (Stack.feIssue i n (.alu .add d s1 s2))

/-- SUB (R298): The SUB instruction subtracts two registers and sets Z, N, C and V. -/
def execISub (k : Side) (i n : Nat) (d s1 s2 : Nat) (s : State) : Host.Outcome State Fault Refusal :=
  nextStack s k (Stack.feIssue i n (.alu .sub d s1 s2))

/-- AND (R298): The AND instruction takes the bitwise and of two registers. -/
def execIAnd (k : Side) (i n : Nat) (d s1 s2 : Nat) (s : State) : Host.Outcome State Fault Refusal :=
  nextStack s k (Stack.feIssue i n (.alu .and d s1 s2))

/-- OR (R298): The OR instruction takes the bitwise or of two registers. -/
def execIOr (k : Side) (i n : Nat) (d s1 s2 : Nat) (s : State) : Host.Outcome State Fault Refusal :=
  nextStack s k (Stack.feIssue i n (.alu .or d s1 s2))

/-- XOR (R298): The XOR instruction takes the bitwise exclusive or of two registers. -/
def execIXor (k : Side) (i n : Nat) (d s1 s2 : Nat) (s : State) : Host.Outcome State Fault Refusal :=
  nextStack s k (Stack.feIssue i n (.alu .xor d s1 s2))

/-- SHL (R298): The SHL instruction shifts a register left. -/
def execIShl (k : Side) (i n : Nat) (d s1 s2 : Nat) (s : State) : Host.Outcome State Fault Refusal :=
  nextStack s k (Stack.feIssue i n (.alu .shl d s1 s2))

/-- SHR (R298): The SHR instruction shifts a register logically right. -/
def execIShr (k : Side) (i n : Nat) (d s1 s2 : Nat) (s : State) : Host.Outcome State Fault Refusal :=
  nextStack s k (Stack.feIssue i n (.alu .shr d s1 s2))

/-- ASR (R298): The ASR instruction shifts a register arithmetically right. -/
def execIAsr (k : Side) (i n : Nat) (d s1 s2 : Nat) (s : State) : Host.Outcome State Fault Refusal :=
  nextStack s k (Stack.feIssue i n (.alu .asr d s1 s2))

/-- MIN (R298): The MIN instruction takes the signed minimum of two registers. -/
def execIMin (k : Side) (i n : Nat) (d s1 s2 : Nat) (s : State) : Host.Outcome State Fault Refusal :=
  nextStack s k (Stack.feIssue i n (.alu .min d s1 s2))

/-- MAX (R298): The MAX instruction takes the signed maximum of two registers. -/
def execIMax (k : Side) (i n : Nat) (d s1 s2 : Nat) (s : State) : Host.Outcome State Fault Refusal :=
  nextStack s k (Stack.feIssue i n (.alu .max d s1 s2))

/-- CMP (R298): The CMP instruction compares two registers and sets the flags only. -/
def execICmp (k : Side) (i n : Nat) (s1 s2 : Nat) (s : State) : Host.Outcome State Fault Refusal :=
  nextStack s k (Stack.feIssue i n (.alu .cmp 0 s1 s2))

/-- ADDI (R298): The ADDI instruction adds a sign-extended immediate to a register. -/
def execIAddi (k : Side) (i n : Nat) (d s1 imm : Nat) (s : State) : Host.Outcome State Fault Refusal :=
  nextStack s k (Stack.feIssue i n (.addi d s1 imm))

/-- LDI (R298): The LDI instruction loads a sign-extended immediate into a register. -/
def execILdi (k : Side) (i n : Nat) (d imm : Nat) (s : State) : Host.Outcome State Fault Refusal :=
  nextStack s k (Stack.feIssue i n (.ldi d imm))

/-- LUI (R298): The LUI instruction loads an immediate into the upper half of a register. -/
def execILui (k : Side) (i n : Nat) (d imm : Nat) (s : State) : Host.Outcome State Fault Refusal :=
  nextStack s k (Stack.feIssue i n (.lui d imm))

/-- SETA (R299): The SETA instruction sets an address register from an immediate or a register. -/
def execISeta (k : Side) (i n : Nat) (a : Nat) (src : Bool) (r imm : Nat) (s : State) : Host.Outcome State Fault Refusal :=
  nextStack s k (Stack.feIssue i n (.seta a src r imm))

/-- SETM (R299): The SETM instruction sets an address register's mode and step. -/
def execISetm (k : Side) (i n : Nat) (a mode step : Nat) (s : State) : Host.Outcome State Fault Refusal :=
  nextStack s k (Stack.feIssue i n (.setm a mode step))

/-- SETBL (R299): The SETBL instruction sets an address register's base and length. -/
def execISetbl (k : Side) (i n : Nat) (a len : Nat) (s : State) : Host.Outcome State Fault Refusal :=
  nextStack s k (Stack.feIssue i n (.setbl a len))

/-- MOVRA (R299): The MOVRA instruction copies an address register into a general register. -/
def execIMovra (k : Side) (i n : Nat) (d a : Nat) (s : State) : Host.Outcome State Fault Refusal :=
  nextStack s k (Stack.feIssue i n (.movra d a))

/-- LD (R299): The LD instruction loads one element into a general register. -/
def execILd (k : Side) (i n : Nat) (d mem a : Nat) (u sg : Bool) (s : State) : Host.Outcome State Fault Refusal :=
  nextStack s k (Stack.feIssue i n (.ld d mem a u sg))

/-- ST (R299): The ST instruction stores the low 14 bits of a register as an element. -/
def execISt (k : Side) (i n : Nat) (r mem a : Nat) (u : Bool) (s : State) : Host.Outcome State Fault Refusal :=
  nextStack s k (Stack.feIssue i n (.st r mem a u))

/-- LDQ (R299): The LDQ instruction loads a quad into a register pair. -/
def execILdq (k : Side) (i n : Nat) (d mem a : Nat) (u : Bool) (s : State) : Host.Outcome State Fault Refusal :=
  nextStack s k (Stack.feIssue i n (.ldq d mem a u))

/-- STQ (R299): The STQ instruction stores a register pair as a quad. -/
def execIStq (k : Side) (i n : Nat) (r mem a : Nat) (u : Bool) (s : State) : Host.Outcome State Fault Refusal :=
  nextStack s k (Stack.feIssue i n (.stq r mem a u))

end Sys2Proof.Machine
end

