-- ==== Sys2Proof/Machine/Gates.lean ====
section
/-! DEFINITION. Domain resets and clock gates (R491, R492). -/

namespace Sys2Proof.Machine

/-- The flip-flops of a gathering that a domain clocks, by the clock that each selects of its quire's two (R74, R75). -/
def Stack.domainFlipFlops (s : Stack) (d : Nat) (t : Tile) (g : Nat) : BitVec 256 :=
  (List.range 256).foldl (fun acc i =>
    if s.quireDomain t (s.planeAt t) g (i / 16) (bits (s.cellBits t g (i / 2)) (74 + 12 * (i % 2)) 1) = some d then acc ||| BitVec.twoPow 256 i
    else acc) 0

/-- The flip-flops of a live plane that a domain clocks take INIT (R76, R491). -/
def Stack.resetDomainFlipFlops (s : Stack) (d : Nat) : Stack :=
  let layer := logicLayer ((d - 16) / 8)
  let banks := (List.range 1200).foldl (fun b i =>
    let t : Tile := ⟨layer, i⟩
    if s.configured t then
      (List.range 16).foldl (fun b g =>
        let p := s.planeAt t; let k := folioKey t g p; let m := s.domainFlipFlops d t g
        mapSet 0 b k ((mapGet 0 b k &&& ~~~m) ||| (initBits s.fabric.planeMem (k * 4096) &&& m))) b
    else b) s.fabric.banks
  { s with fabric := { s.fabric with banks := banks } }

/-- The stream-port FIFOs that a domain clocks are emptied (R491). -/
def Stack.emptyPorts (s : Stack) (d : Nat) : Stack :=
  { s with engines := s.engines.filterMap fun e =>
      let x : Engine := { e.2 with fifos := e.2.fifos.filter fun f => s.portDomain (e.1 / 192) (e.1 % 192) f.1 != d }
      if x = {} then Option.none else some (e.1, x) }

/-- The bridge registers of domains in reset cleared (R491). -/
def Stack.clearBridges (s : Stack) : Stack :=
  { s with fabric := { s.fabric with bridge := s.fabric.bridge.filterMap fun e =>
      let v := s.bridgeHeld ⟨e.1 / 128 / 2048, e.1 / 128 % 2048⟩ (e.1 % 128) e.2
      if v = 0 then Option.none else some (e.1, v) } }

/-- A write to DRST.RESET of user domain d: asserted, the domain's flip-flops take INIT, its bridge registers are cleared and its ports are
emptied; released, nothing else changes (R491). -/
def Stack.domainReset (d : Nat) (v : Bool) (s : Stack) : Stack :=
  let t := s.put (CLK.DRST_RESET d) (b2n v)
  if v then ((t.resetDomainFlipFlops d).clearBridges).emptyPorts d else t

/-- DOMAIN_RESET (R491): A write to CLK.DRST.RESET asserts or releases a user domain's reset. -/
def execDomainReset (k : Side) (d : Nat) (v : Bool) (s : State) : Host.Outcome State Fault Refusal := nextStack s k (Stack.domainReset d v)

/-- The ring interfaces of a section: its fabric stops (R88). -/
def Stack.sectInterfaces (s : Stack) (n : Nat) : List Nat :=
  (List.range s.build.layers).flatMap fun i => ((List.range 32).filter fun st => st % 4 != 0 &&
    s.ownerOf ⟨logicLayer i, tileIndex (stopRow st) (5 * (st / 4) + 2)⟩ == some n).map fun st => 32 * (i + 1) + st

/-- The base stop at which a register block's initiator stands (R308). -/
def blockInterface (block : Nat) : Nat :=
  match block with
  | 0x2 | 0x10 => 1
  | 0x7 => 10
  | 0x8 => 14
  | 0x9 => 13
  | 0xE => 0
  | _ => if 0x20 ≤ block ∧ block < 0x24 then 11 else if 0x24 ≤ block ∧ block < 0x28 then 12 else 15

/-- Whether an interface has no request outstanding (R492). -/
def Stack.busIdle (s : Stack) (n : Nat) : Bool := !(s.rings.tags.any fun e => e.1 / 1024 == n && (e.2.st == 1 || e.2.st == 2))

/-- The outstanding tags of an interface retired: later responses are late (R492). -/
def Stack.retireTags (s : Stack) (n : Nat) : Stack :=
  { s with rings := { s.rings with tags := s.rings.tags.filter fun e => !(e.1 / 1024 == n && (e.2.st == 1 || e.2.st == 2)) } }

/-- The clock gates of a section close once its interfaces are bus-idle: sleep step 2 (R38, R492). The gates of base-die blocks are
asked to close by no state of this model. -/
def Stack.gateClose (user : Bool) (id : Nat) (s : Stack) : Stack :=
  let x := s.sect id
  if user && x.seq == .sleep 1 && (s.sectInterfaces id).all s.busIdle then s.setSect id { x with seq := .sleep 2 } else s

/-- A gate request times out: the gate closes, outstanding tags are retired, requests not answered are answered ABORTED, and the event is
recorded; no recovery starts (R492, R503). -/
def Stack.gateTimeout (user : Bool) (id domain : Nat) (s : Stack) : Stack :=
  let x := s.sect id
  if user && x.seq != .sleep 1 then s
  else
    let s := if user then s.setSect id { x with seq := .sleep 2 } else s
    let s := (if user then s.sectInterfaces id else [blockInterface id]).foldl (fun s n => s.retireTags n) s
    let s := s.eventReg CLK.GATE_EVT_VALID CLK.GATE_EVT_LOST
      [(CLK.GATE_EVT_BLOCK, id), (CLK.GATE_EVT_USER, b2n user), (CLK.GATE_EVT_DOMAIN, domain)]
    let s := (s.raise CLK.INT_GATE_TIMEOUT).event { block := 0xA, cause := 5, data0 := id, data1 := b2n user, data2 := domain }
    { s with answer := { status := 9, data := [] } }

/-- CLOCK_GATE_CLOSE (R492): A clock gate closes once every block it feeds is bus-idle. -/
def execClockGateClose (k : Side) (user : Bool) (id : Nat) (s : State) : Host.Outcome State Fault Refusal :=
  nextStack s k (Stack.gateClose user id)

/-- GATE_TIMEOUT (R492): A gate request times out; the gate closes and outstanding requests are aborted. -/
def execGateTimeout (k : Side) (user : Bool) (id domain : Nat) (s : State) : Host.Outcome State Fault Refusal :=
  nextStack s k (Stack.gateTimeout user id domain)

end Sys2Proof.Machine
end

