-- ==== Sys2Proof/Machine/TurnCheck.lean ====
section
/-! DEFINITION. The turn set and the turn check (R234, R239 to R241, R467, R577). -/

namespace Sys2Proof.Machine

/-- A view of a stack's registers: what a field reads as in some configuration. -/
abbrev View := Field → Nat

/-- A failure of the check: the item charged and the reason (R239, R240). -/
abbrev Failure := Item × Nat

/-- The item of a plane selection (R154). -/
def Stack.selItem (s : Stack) (r : Nat) : Item := (0x40 + (s.sect r).home, 0x1000 + 4 * r)

/-- The turn set of the armed turn: a device turn's items lie in the device (R249). -/
def Stack.turnItems (s : Stack) : List Item :=
  match s.turn.dev with
  | Option.none => s.stagedItems
  | some (.repair r _) => [s.selItem r]
  | some (.detour r _) => [s.selItem r]
  | some _ => []

/-- The configuration that the armed turn would produce (R239). -/
def Stack.turnView (s : Stack) : View :=
  match s.turn.dev with
  | Option.none => fun f => s.get f.staged
  | some (.repair r p) => fun f => if f = SECT.PAGE_SEL_PLANE (s.sect r).home r then p else s.get f
  | some (.detour r p) => fun f => if f = SECT.PAGE_SEL_PLANE (s.sect r).home r then p else s.get f
  | some _ => s.get

/-- What the check of a stack's turn sees: the stack, the turn set, the configuration that the turn would produce, and the pin
functions and the crossbar of the package in the configurations of its two stacks (R557, R562). -/
structure TurnCase where
  s : Stack
  items : List Item
  view : View
  pins : Side → View
  xbar : View

/-- Whether a register is an item of the turn. -/
def TurnCase.has (c : TurnCase) (b off : Nat) : Bool := c.items.contains (b, off)

/-- A failure with a reason, if the condition holds. -/
def failIf (b : Bool) (i : Item) (reason : Nat) : List Failure := if b then [(i, reason)] else []

/-! ## Pins (R557) -/

/-- Whether two physical pins would map to one virtual pin whose function drives the pad without fan-out (R557, R562). -/
def TurnCase.twiceMapped (c : TurnCase) (k : Side) (n : Nat) : Bool :=
  c.s.build == .atlas && drivesAlone (c.pins k (PINS.PIN_FUNC n)) (c.pins k (PINS.PIN_DIR n)) (n % 16) &&
    decide (2 ≤ ((List.range 192).filter fun m => xbarTarget c.xbar m == some (k, n)).length)

/-- The Pins row for the function of pin n (R557). -/
def TurnCase.pinFails (c : TurnCase) (n : Nat) : Bool :=
  decide (14 ≤ c.view (PINS.PIN_FUNC n)) || shared bankOutput c.view n || c.twiceMapped c.s.side n

/-- The Pins row for the crossbar entry of physical pin m (R557). -/
def TurnCase.xbarFails (c : TurnCase) (m : Nat) : Bool :=
  (c.view (PINS.XBAR_VALID m) == 1 && decide (95 < c.view (PINS.XBAR_VPIN m))) ||
    (match xbarTarget c.xbar m with
     | some (k, n) => c.twiceMapped k n
     | Option.none => false)

/-! ## Slots (R324, R449) -/

/-- The Slots row for a channel map entry of the Lacing stop (R449). -/
def TurnCase.chmapFails (c : TurnCase) (n : Nat) : Bool :=
  c.view (LANE.CHMAP_VALID n) == 1 &&
    (!(decide (c.view (LANE.CHMAP_LINK n) < c.s.build.laces) && c.s.flag (LANE.LACE_CTL_ENABLE (c.view (LANE.CHMAP_LINK n)))) ||
     (List.range 32).any fun m => m != n && c.view (LANE.CHMAP_VALID m) == 1 && c.view (LANE.CHMAP_LINK m) == c.view (LANE.CHMAP_LINK n) &&
       c.view (LANE.CHMAP_QUEUE m) == c.view (LANE.CHMAP_QUEUE n))

/-! ## Pages and sections (R154, R169, R174) -/

/-- The Pages row: the plane named is not Staged (R154, R239). -/
def TurnCase.pageFails (c : TurnCase) (r : Nat) : Bool :=
  c.s.planeStatus r (c.view (SECT.PAGE_SEL_PLANE (c.s.sect r).home r)) != .staged

/-- RUN.LIVE of a section would change, to the value given. -/
def TurnCase.runChange (c : TurnCase) (n : Nat) : Option Nat :=
  let f := SECT.RUN_LIVE (c.s.sect n).home n
  if c.view f = c.s.get f then Option.none else some (c.view f)

/-- R174: LIVE of a section and of a descendant would change to different values; charged to both. -/
def TurnCase.runClash (c : TurnCase) (n : Nat) : Bool :=
  match c.runChange n with
  | Option.none => false
  | some v => c.s.sectionNumbers.any fun m =>
      m != n && (c.s.ancestorOrSelf n m || c.s.ancestorOrSelf m n) &&
        (match c.runChange m with
         | some w => w != v
         | Option.none => false)

/-- The Sections row for a plane selection: the root exists and every section of the nest permits the change (R169, R239). -/
def TurnCase.selFails (c : TurnCase) (i r : Nat) : Bool :=
  !c.s.homed i r || !((c.s.nest (c.s.rootOf r)).all fun n => (c.s.sect n).state.turnable)

/-- The Sections row for RUN: the section exists, it and its descendants permit the change, and R174 holds (R169, R173). -/
def TurnCase.runFails (c : TurnCase) (i n : Nat) : Bool :=
  !c.s.homed i n || !((c.s.family n).all fun m => (c.s.sect m).state.turnable) || c.runClash n

/-! ## Clocks (R110, R145, R239, R487) -/

/-- Whether a turn changes the configuration of user PLL n (R487). -/
def TurnCase.pllChanged (c : TurnCase) (n : Nat) : Bool := c.has 0xA (0x600 + 8 * n) || c.has 0xA (0x604 + 8 * n)

/-- Whether user PLL n counts as running for the check: reported running, or stopped by R175 with a valid configuration that locked
when it last ran; never when the turn changes it (R487). -/
def TurnCase.pllOk (c : TurnCase) (n : Nat) : Bool :=
  !c.pllChanged n &&
    (c.s.sourceRunning (0x20 + n) || (c.s.clk.pllIdle.contains n && c.s.pllConfigValid n && c.s.clk.pllLocked.contains n))

/-- The user PLL that a domain would select. -/
def TurnCase.pllOf (c : TurnCase) (d : Nat) : Option Nat := Machine.pllOf d (c.view (CLK.SRC_SEL d))

/-- Whether a domain would select a PLL that does not count as running (R239, R487). -/
def TurnCase.sourceFails (c : TurnCase) (d : Nat) : Bool :=
  match c.pllOf d with
  | some n => !c.pllOk n
  | Option.none => false

/-- Whether any domain selects user PLL n in its live or its staged copy while the turn changes the PLL (R487). -/
def TurnCase.pllSelected (c : TurnCase) (n : Nat) : Bool :=
  (List.range 8).any fun j =>
    let d := 16 + 8 * (n / 4) + j
    Machine.pllOf d (c.s.get (CLK.SRC_SEL d)) == some n || Machine.pllOf d (c.s.get (CLK.SRC_SEL d).staged) == some n

/-- The plane that a nest's root would have live. -/
def TurnCase.newPlane (c : TurnCase) (n : Nat) : Nat := let r := c.s.rootOf n; c.view (SECT.PAGE_SEL_PLANE (c.s.sect r).home r)

/-- Whether a section, with a plane live, would break R145 in a layer part whose domains include `d`; any layer part for none. -/
def TurnCase.domainRule (c : TurnCase) (n p : Nat) (d : Option Nat) : Bool :=
  (c.s.sect n).turnDoms.any fun td =>
    (c.s.domainsAt n p).any fun e =>
      (e - 16) / 8 == (td - 16) / 8 && (d.isNone || d == some e || d == some td) && !followsTurnDomain c.view td e

/-- The sections whose planes serve a configuration: those that are neither Empty, Torn, Loading nor Rebinding. -/
def Stack.placed (s : Stack) : List Nat :=
  s.sectionNumbers.filter fun n => !(s.stateIn n [.empty, .torn, .loading, .rebinding])

/-- Whether some section's live or new plane would break R145 through domain d (R145). -/
def TurnCase.breaksTurnDomain (c : TurnCase) (d : Nat) : Bool :=
  c.s.placed.any fun n => c.domainRule n (c.s.livePlane n) (some d) || c.domainRule n (c.newPlane n) (some d)

/-- The mesochronous groups of a section's tiles in a plane that fail R110, as (destination domain, source domain). -/
def TurnCase.badGroups (c : TurnCase) (n p : Nat) : List (Nat × Nat) :=
  (c.s.sect n).tiles.flatMap fun t => (List.range 12).filterMap fun j =>
    let g := c.s.fabric.group t p j
    let dst := userDomain t.layer (bits g 2 3)
    let src := userDomain (if j < 6 then t.layer - 2 else t.layer + 2) (bits g 5 3)
    if bits g 0 2 = 1 ∧ (c.s.build.logicIndex (if j < 6 then t.layer - 2 else t.layer + 2)).isSome ∧
        !c.s.mesochronous c.view dst src then some (dst, src) else Option.none

/-- The groups that fail R110 in every plane that is live, would be live or is Staged. -/
def TurnCase.allBadGroups (c : TurnCase) : List (Nat × Nat) :=
  c.s.placed.flatMap fun n =>
    ([0, 1, 2, 3].filter fun p =>
      p == c.newPlane n || p == c.s.livePlane n || c.s.planeStatus (c.s.rootOf n) p == .staged).flatMap (c.badGroups n)

/-- Whether the turn puts a section to sleep by an ancestor's RUN (R173). -/
def TurnCase.sleptAbove (c : TurnCase) (n : Nat) : Bool :=
  c.s.sectionNumbers.any fun m => m != n && c.s.ancestorOrSelf m n && c.runChange m == some 0

/-- Whether a section that is Live, and would stay so, would have a stopped turn domain (R145, R239). -/
def TurnCase.stoppedTurnDomain (c : TurnCase) (n : Nat) (d : Option Nat) : Bool :=
  c.s.stateIn n [.live] && !c.sleptAbove n && c.view (SECT.RUN_LIVE (c.s.sect n).home n) == 1 && c.s.flag (SECT.RUN_LIVE (c.s.sect n).home n) &&
    (c.s.sect n).turnDoms.any fun td => (d.isNone || d == some td) &&
      (match c.pllOf td with
       | some m => !c.pllOk m || c.s.flag (CLK.SRC_STAT_HUNG td)
       | Option.none => true)

/-- The Clocks row for the selection of domain d. -/
def TurnCase.srcFails (c : TurnCase) (d : Nat) : Bool :=
  c.sourceFails d || c.breaksTurnDomain d || (c.allBadGroups.any fun g => g.1 == d || g.2 == d) ||
    c.s.sectionNumbers.any fun n => c.stoppedTurnDomain n (some d)

/-- The Clocks row for user PLL n. -/
def TurnCase.upllFails (c : TurnCase) (n : Nat) : Bool :=
  c.pllSelected n || c.allBadGroups.any fun g => c.pllOf g.1 == some n || c.pllOf g.2 == some n

/-- The Clocks row for a plane selection. -/
def TurnCase.selClock (c : TurnCase) (r : Nat) : Bool :=
  let p := c.view (SECT.PAGE_SEL_PLANE (c.s.sect r).home r)
  (c.s.nest r).any fun n =>
    c.domainRule n p Option.none || c.domainRule n (c.s.livePlane n) Option.none || !(c.badGroups n p).isEmpty ||
      c.stoppedTurnDomain n Option.none

/-- The Clocks row for RUN of a section: a plane of it or of a descendant that is live or would be breaks R145, or a turn domain would be
stopped. -/
def TurnCase.runClock (c : TurnCase) (n : Nat) : Bool :=
  (c.s.family n).any fun m =>
    (c.s.placed.contains m && (c.domainRule m (c.s.livePlane m) Option.none || c.domainRule m (c.newPlane m) Option.none)) ||
      c.stoppedTurnDomain m Option.none

/-! ## Keys (R421, R467) -/

/-- Whether a region would be valid, and its base and footprint in units of 2 MiB (R403). -/
def TurnCase.regionValid (c : TurnCase) (k : Nat) : Bool := 1 ≤ k && k < 16 && c.view (KEYS.REGIONW0_VALID k) == 1
def TurnCase.regionEnd (c : TurnCase) (k : Nat) : Nat :=
  c.view (KEYS.REGIONW1_BASE k) + footUnits (c.view (KEYS.REGIONW2_DATA k) * 0x200000)

/-- Whether a region that would be valid would have a key: a rekeyed region keeps its slot (R421). -/
def TurnCase.regionKeyed (c : TurnCase) (k : Nat) : Bool :=
  c.regionValid k && (c.s.slotKey (c.view (KEYS.REGIONW0_KEY k))).isSome

/-- A region's footprint would overlap another's or pass the usable store (R421). -/
def TurnCase.footFails (c : TurnCase) (k : Nat) : Bool :=
  c.regionValid k &&
    (decide (c.s.usable < c.regionEnd k * 0x200000) ||
     (List.range 16).any fun j => j != k && c.regionValid j &&
       decide (c.view (KEYS.REGIONW1_BASE j) < c.regionEnd k) && decide (c.view (KEYS.REGIONW1_BASE k) < c.regionEnd j))

/-- A word assembled from its fields as the case sees them. -/
def TurnCase.viewWord (c : TurnCase) (l : List (Nat × Field)) : Nat := l.foldl (fun a p => a + c.view p.2 * 2 ^ p.1) 0

/-- The regions whose keys VALID store rings of port q would name (R467). -/
def TurnCase.ringKid (c : TurnCase) (q n : Nat) : Nat := bits (c.viewWord (MPORT.SRINGW1 q n)) 12 4
def TurnCase.ringValid (c : TurnCase) (q n : Nat) : Bool := bit (c.viewWord (MPORT.SRINGW1 q n)) 31
def TurnCase.ringKeyFails (c : TurnCase) (q n : Nat) : Bool :=
  c.ringValid q n && c.ringKid q n != 0 && !c.regionKeyed (c.ringKid q n)

/-- The Keys row for word w of region k (R421). -/
def TurnCase.regionFails (c : TurnCase) (k w : Nat) : Bool :=
  let was := c.s.flag (KEYS.REGIONW0_VALID k)
  let kept := was && c.regionValid k
  c.s.rekeyPending k || c.footFails k ||
    (match w with
     | 0 => (kept && c.view (KEYS.REGIONW0_KEY k) != c.s.get (KEYS.REGIONW0_KEY k)) || (c.regionValid k && !c.regionKeyed k) ||
        (List.range c.s.build.mports).any fun q => (List.range 16).any fun n => c.ringKid q n == k && c.ringKeyFails q n
     | _ => kept)

/-- Whether a link key identifier would have no key loaded; 0 is plaintext (R422). -/
def TurnCase.linkKeyless (c : TurnCase) (a : Nat) : Bool :=
  a != 0 && !(c.view (KEYS.LINK_SEL_VALID a) == 1 && (c.s.slotKey (c.view (KEYS.LINK_SEL_SLOT a))).isSome)

/-- The Keys row for LINK_SEL a: a slot with no key, or a link that names it once it has none (R421). -/
def TurnCase.linkSelFails (c : TurnCase) (a : Nat) : Bool :=
  (c.view (KEYS.LINK_SEL_VALID a) == 1 && c.linkKeyless a) ||
    (c.linkKeyless a && (List.range c.s.build.laces).any fun k =>
      c.view (LANE.LACE_KEY_ATTR k) == a || c.view (LANE.LACE_KEY_GATTR k) == a)

/-- The Keys row for LACE_KEY of a link. -/
def TurnCase.laceKeyFails (c : TurnCase) (k : Nat) : Bool :=
  c.linkKeyless (c.view (LANE.LACE_KEY_ATTR k)) || c.linkKeyless (c.view (LANE.LACE_KEY_GATTR k))

/-! ## Flows (R465 to R467, R475) -/

/-- A receive entry, by port and number, with what the Flows row reads of it. -/
structure RxEntry where
  q : Nat
  e : Nat
  src : Nat
  dst : Nat
  port : Nat
  kind : Nat
  format : Nat
  queue : Nat
  merge : Nat
  dest : Nat
  ring : Nat
deriving DecidableEq, Repr

/-- A transmit entry, by port and number, with what the Flows row reads of it. -/
structure TxEntry where
  q : Nat
  e : Nat
  dst : Nat
  port : Nat
  chan : Nat
  kind : Nat
  format : Nat
  pacing : Nat
  raster : Nat
deriving DecidableEq, Repr

/-- The receive entries that would be VALID (R465). -/
def TurnCase.rxEntries (c : TurnCase) : List RxEntry :=
  (List.range c.s.build.mports).flatMap fun q => (List.range 512).filterMap fun e =>
    let w2 := c.viewWord (MPORT.RXENTW2 q e); let w3 := c.viewWord (MPORT.RXENTW3 q e)
    if bit w2 31 then
      some { q := q, e := e, src := c.view (MPORT.RXENTW0_WORD q e), dst := c.view (MPORT.RXENTW1_WORD q e), port := w2 % 65536,
             kind := bits w2 16 4, format := bits w2 20 4, queue := bits w3 0 5, merge := bits w3 5 8, dest := bits w3 13 1,
             ring := bits w3 14 4 }
    else Option.none

/-- The transmit entries that would be VALID (R475). -/
def TurnCase.txEntries (c : TurnCase) : List TxEntry :=
  (List.range c.s.build.mports).flatMap fun q => (List.range 512).filterMap fun e =>
    let w1 := c.view (MPORT.TXENTW1_WORD q e); let w2 := c.view (MPORT.TXENTW2_WORD q e)
    if bit w2 31 then
      some { q := q, e := e, dst := c.view (MPORT.TXENTW0_WORD q e), port := w1 % 65536, chan := bits w2 0 5, kind := bits w2 5 4,
             format := bits w2 9 4, pacing := bits w2 13 2, raster := bits w2 15 2 }
    else Option.none

/-- The bytes that the index hashes: the port number and the match key in network byte order (R466). -/
def RxEntry.keyBytes (x : RxEntry) : List Nat :=
  [x.q, bits x.src 24 8, bits x.src 16 8, bits x.src 8 8, bits x.src 0 8, bits x.dst 24 8, bits x.dst 16 8, bits x.dst 8 8,
   bits x.dst 0 8, bits x.port 8 8, bits x.port 0 8]

/-- The two buckets of the index in which an entry may sit (R466). -/
def RxEntry.buckets (x : RxEntry) : List Nat := let h := crc32c x.keyBytes; [bits h 0 12, bits h 12 12]

/-- An entry placed in the index: in a bucket with a free place, or in one whose occupant can move to its own other bucket, to a depth
of `fuel` moves; the index is a list of (bucket, entry) (R466). -/
def placeEntry (bucketsOf : Nat → List Nat) : Nat → List (Nat × Nat) → List Nat → Nat → Option (List (Nat × Nat))
  | 0, _, _, _ => Option.none
  | fuel + 1, m, seen, x =>
    (bucketsOf x).foldl (fun acc b =>
      match acc with
      | some r => some r
      | Option.none =>
        let here := m.filter fun e => e.1 == b
        if here.length < 2 then some ((b, x) :: m)
        else if seen.contains b then Option.none
        else here.foldl (fun acc e =>
          match acc with
          | some r => some r
          | Option.none => (placeEntry bucketsOf fuel (m.erase e) (b :: seen) e.2).map fun m' => (b, x) :: m') Option.none) Option.none

/-- Whether the index can place every entry: all but 32 of them in buckets (R466, R467). -/
def indexPlaces (l : List RxEntry) : Bool :=
  let bs := fun i => match l[i]? with
    | some x => x.buckets
    | Option.none => []
  let r := (List.range l.length).foldl (fun (a : List (Nat × Nat) × Nat) i =>
    match placeEntry bs 64 a.1 [] i with
    | some m => (m, a.2)
    | Option.none => (a.1, a.2 + 1)) ([], 0)
  decide (r.2 ≤ 32)

/-- Whether a kind and its format are invalid: a KIND code above 3, an invalid SAMPLING, or a video or audio entry that names a format
of the other type (R465, R467, R480). -/
def TurnCase.formatFails (c : TurnCase) (q kind format : Nat) : Bool :=
  let audio := bit (c.viewWord (MPORT.FMTW1 q format)) 31
  decide (3 < kind) || (kind == 0 && (audio || decide (1 < bits (c.viewWord (MPORT.FMTW0 q format)) 13 2))) || (kind == 1 && !audio)

/-- Two entries that form a merge unit (R472). -/
def RxEntry.partner (x y : RxEntry) : Bool := x.merge != 0 && x.merge == y.merge

/-- The Flows row for a VALID receive entry among all of them (R467). -/
def TurnCase.rxFails (c : TurnCase) (l : List RxEntry) (x : RxEntry) : Bool :=
  let others := l.filter fun y => y != x
  let unit := others.filter x.partner
  (others.any fun y => y.q == x.q && y.src == x.src && y.dst == x.dst && y.port == x.port) ||
    c.formatFails x.q x.kind x.format ||
    (others.any fun y => mediaStop y.q == mediaStop x.q && y.queue == x.queue && (x.kind == 0 || y.kind == 0) && !x.partner y) ||
    decide (1 < unit.length) ||
    (unit.any fun y => y.kind != x.kind || y.format != x.format || y.queue != x.queue || y.dest != x.dest) ||
    (x.dest == 1 && !c.ringValid x.q x.ring)

/-- The Flows row for a VALID transmit entry among all of them (R467). -/
def TurnCase.txFails (c : TurnCase) (l : List TxEntry) (x : TxEntry) : Bool :=
  let others := l.filter fun y => y != x && mediaStop y.q == mediaStop x.q && y.chan == x.chan
  (others.any fun y => y.dst == x.dst && y.port == x.port) || c.formatFails x.q x.kind x.format || x.pacing == 3 ||
    others.any fun y => y.kind != x.kind || y.format != x.format || y.raster != x.raster || y.pacing != x.pacing

/-- First word of a receive or transmit entry, as an item. -/
def rxItem (q e : Nat) : Item := (0x20 + q, 0x4000 + 16 * e)
def txItem (q e : Nat) : Item := (0x20 + q, 0x6000 + 16 * e)

/-- Whether a word of an entry is an item. -/
def TurnCase.touched (c : TurnCase) (i : Item) : Bool := [0, 4, 8, 12].any fun w => c.has i.1 (i.2 + w)

/-- The words of a format or a ring that are items (R464). -/
def TurnCase.wordsTouched (c : TurnCase) (b off n : Nat) : List Item := ((List.range n).map fun w => (b, off + 4 * w)).filter c.items.contains

/-- Whether a turn changes a register of a media port. -/
def TurnCase.mediaItem (c : TurnCase) : Bool := c.items.any fun i => decide (0x20 ≤ i.1) && decide (i.1 < 0x28)

/-- The failures of the Flows row. An offending entry that the turn changes is charged at its first word; else the format or ring that
the turn changes under it is charged (R239, R467). -/
def TurnCase.flowFailures (c : TurnCase) : List Failure :=
  if !c.mediaItem then []
  else
    let rx := c.rxEntries; let tx := c.txEntries
    let allRx := decide (1024 < rx.length) || !indexPlaces rx
    let allTx := decide (1024 < tx.length)
    let under := fun q format ring => c.wordsTouched (0x20 + q) (0x400 + 8 * format) 2 ++ c.wordsTouched (0x20 + q) (0x600 + 16 * ring) 4
    (rx.flatMap fun x =>
      if c.touched (rxItem x.q x.e) then failIf (allRx || c.rxFails rx x) (rxItem x.q x.e) 0xB
      else if c.formatFails x.q x.kind x.format || (x.dest == 1 && !c.ringValid x.q x.ring) then
        (under x.q x.format x.ring).map fun i => (i, 0xB)
      else []) ++
    tx.flatMap fun x =>
      if c.touched (txItem x.q x.e) then failIf (allTx || c.txFails tx x) (txItem x.q x.e) 0xB
      else if c.formatFails x.q x.kind x.format then (c.wordsTouched (0x20 + x.q) (0x400 + 8 * x.format) 2).map fun i => (i, 0xB)
      else []

/-! ## The whole check -/

/-- The failures charged to one item, the Slots row of the timetable and the Flows and Active side rows left out (R239). -/
def TurnCase.itemFailures (c : TurnCase) (i : Item) : List Failure :=
  let b := i.1; let off := i.2
  if 0x40 ≤ b ∧ b < 0x48 then
    if 0x1000 ≤ off ∧ off < 0x2000 then
      let r := (off - 0x1000) / 4
      failIf (c.pageFails r) i 7 ++ failIf (c.selClock r) i 8 ++ failIf (c.selFails (b - 0x40) r) i 9
    else if 0x6000 ≤ off ∧ off < 0x7000 then
      let n := (off - 0x6000) / 4
      failIf (c.runClock n) i 8 ++ failIf (c.runFails (b - 0x40) n) i 9
    else []
  else if b = 0xA then
    if 0x400 ≤ off ∧ off < 0x600 then failIf (c.srcFails ((off - 0x400) / 4)) i 8
    else if 0x600 ≤ off ∧ off < 0x800 then failIf (c.upllFails ((off - 0x600) / 8)) i 8
    else []
  else if b = 8 then
    if 0x100 ≤ off ∧ off < 0x200 then failIf (c.regionFails ((off - 0x100) / 16) ((off - 0x100) % 16 / 4)) i 0xA
    else if 0x300 ≤ off ∧ off < 0x340 then failIf (c.linkSelFails ((off - 0x300) / 4)) i 0xA
    else []
  else if b = 9 then
    if 0x600 ≤ off ∧ off < 0x640 then failIf (c.laceKeyFails ((off - 0x600) / 4)) i 0xA
    else if 0x700 ≤ off ∧ off < 0x780 then
      let n := (off - 0x700) / 4
      failIf (c.chmapFails n) i 6 ++
        failIf (c.xbar PINS.PAIR_MODE == 1 && c.s.build == .atlas && c.view (LANE.CHMAP_VALID n) == 1 && c.view (LANE.CHMAP_LINK n) == 4 &&
          c.view (LANE.CHMAP_QUEUE n) == 31) i 0xC
    else []
  else if b = 0xD then
    if 0x1000 ≤ off ∧ off < 0x1180 then failIf (c.pinFails ((off - 0x1000) / 4)) i 5
    else if 0x3000 ≤ off ∧ off < 0x3300 then failIf (c.xbarFails ((off - 0x3000) / 4)) i 5
    else if off = 0x100 then
      failIf ((List.range 192).any fun m => decide (2 ≤ c.xbar (PINS.XBAR_SIDE m)) && c.xbarFails m) i 5
    else []
  else if 0x20 ≤ b ∧ b < 0x28 ∧ 0x600 ≤ off ∧ off < 0x700 then
    let n := (off - 0x600) / 16
    failIf ((off - 0x600) % 16 == 4 && c.ringKeyFails (b - 0x20) n) i 0xA
  else []

/-- The first failure: the lowest item, and the lowest reason among its failures (R240). -/
def firstFailure (l : List Failure) : Option Failure :=
  l.foldl (fun acc f =>
    match acc with
    | Option.none => some f
    | some g => if f.1.before g.1 ∨ (f.1 = g.1 ∧ f.2 < g.2) then some f else some g) Option.none

/-- Every failure of a turn but the timetable's (R239); `side` holds those of the Active side row. -/
def TurnCase.failures (c : TurnCase) (side : List Failure) : List Failure := c.items.flatMap c.itemFailures ++ c.flowFailures ++ side

/-- RESULT.ITEM of an item (R240): the field holds the block number in [31:18] and the offset divided by 4 in [17:5] of the register,
and the field itself begins at bit 5. -/
def Item.code (i : Item) : Nat := i.1 * 2 ^ 13 + i.2 / 4

/-! ## The case of an armed turn, and the Active side (R577, R579) -/

/-- What a stack's registers would read after the turns that are armed now: a turn mirrored on the other stack is seen as staged
(R579). -/
def Stack.peerView (t : Stack) : View := if t.turn.mirrored && t.turnArmed then t.turnView else t.get

/-- The case that the check of a stack's armed turn examines. -/
def State.turnCase (s : State) (k : Side) : TurnCase :=
  let t := s.stack k
  let own : Side → View := fun j => if j = k then t.turnView else (s.stack j).peerView
  { s := t, items := t.turnItems, view := t.turnView, pins := own, xbar := own .recto }

/-- The bytes of the exchange that the mirror list of a view needs: 512 for each tile with FF, 16,384 for each with LEAF (R577). -/
def State.mirrorBytes (s : State) (v : View) : Nat :=
  (List.range 64).foldl (fun n i =>
    if v (PINS.MIRROR_VALID i) = 1 then
      n + (s.recto.sect (v (PINS.MIRROR_SECTION i))).tiles.length * (512 * v (PINS.MIRROR_FF i) + 16384 * v (PINS.MIRROR_LEAF i))
    else n) 0

/-- Whether a mirror list entry names a section that exists in both stacks with one extent (R577). -/
def State.mirrorEntryOk (s : State) (v : View) (i : Nat) : Bool :=
  v (PINS.MIRROR_VALID i) == 0 ||
    (let n := v (PINS.MIRROR_SECTION i); let a := s.recto.sect n; let b := s.verso.sect n
     a.state != .none && b.state != .none && a.col0 == b.col0 && a.cols == b.cols && a.row0 == b.row0 && a.rows == b.rows &&
       a.layerLo == b.layerLo && a.layerCnt == b.layerCnt)

/-- Whether the configuration in which MODE is 1 breaks a row of R577 other than the mirror list's. -/
def State.pairFails (s : State) (v : View) : Bool :=
  let now := s.active; let next : Side := if v PINS.PAIR_ACTIVE = 1 then .verso else .recto
  let standby := s.stack (otherSide next)
  let w := s.verso.peerView
  s.recto.pooled != s.verso.pooled || v RING.TT_GEN_GEN != w RING.TT_GEN_GEN ||
    s.recto.laceState 4 != 2 || !(standby.houseKind == 4 && standby.get CLK.HOUSE_STAT_STATE == 2) ||
    ((List.range 32).any fun c => [v, w].any fun u =>
      u (LANE.CHMAP_VALID c) == 1 && u (LANE.CHMAP_LINK c) == 4 && u (LANE.CHMAP_QUEUE c) == 31) ||
    (next != now && !s.inSync next) || s.anyStack fun t => t.stackRecovery.isSome

/-- The failure of a TT_GEN item that would leave the stacks' live TT_GEN different while MODE would be 1 (R577). -/
def State.genFailures (s : State) (k : Side) : List Failure :=
  let c := s.turnCase k
  failIf (s.build == .atlas && c.has 3 0x100 && c.xbar PINS.PAIR_MODE == 1 &&
    c.view RING.TT_GEN_GEN != (s.stack (otherSide k)).peerView RING.TT_GEN_GEN) (3, 0x100) 0xC

/-- The failures of the Active side row (R575, R577). -/
def State.sideFailures (s : State) (k : Side) : List Failure :=
  let c := s.turnCase k
  s.genFailures k ++ if s.build ≠ .atlas ∨ k ≠ .recto ∨ c.view PINS.PAIR_MODE = 0 then []
  else
    let big := decide (4 * 2 ^ 20 < s.mirrorBytes c.view)
    let bad := (List.range 64).any fun i => !s.mirrorEntryOk c.view i
    c.items.flatMap fun i =>
      if i = (0xD, 0x100) then failIf (big || bad || s.pairFails c.view) i 0xC
      else if i.1 = 0xD ∧ 0x200 ≤ i.2 ∧ i.2 < 0x300 then failIf (big || !s.mirrorEntryOk c.view ((i.2 - 0x200) / 4)) i 0xC
      else []

end Sys2Proof.Machine
end

