-- ==== Sys2Proof/Machine/Power.lean ====
section
/-! DEFINITION. Feeds, operating points, supplies, temperature and the ledger's commands (R504 to R535, R120, R122). -/

namespace Sys2Proof.Machine

/-! ## Feeds (R505 to R507, R533) -/

/-- Whether a physical layer number names an upper layer of the build (R8, R10). -/
def Build.upperLayer (b : Build) (layer : Nat) : Bool := 2 ≤ layer && layer ≤ b.top

/-- A hand-over asked for. -/
def Stack.handover (s : Stack) (layer : Nat) (regulate : Bool) (who : Nat) : Stack :=
  { s with power := { s.power with handovers := s.power.handovers ++ [{ layer := layer, regulate := regulate, who := who }] } }

/-- A regulator is noted as suspect, and SUSPECT is raised (R507, R533). -/
def Stack.noteSuspect (s : Stack) (layer : Nat) : Stack :=
  ({ s with power := { s.power with suspects := if s.power.suspects.contains layer then s.power.suspects else s.power.suspects ++ [layer] } }
    : Stack).raise POWER.INT_SUSPECT

/-- The logic layer whose sections a layer's rails feed: a memory layer's belong to the pair below it (R9, R13). -/
def pairedLogic (layer : Nat) : Nat := layer - layer % 2

/-- A suspect regulator in service: in Haven the layer moves to the raw feed; elsewhere a layer-level fault holds the layer's sections
and the layer is handed to the raw feed (R505, R507). -/
def Stack.regulatorFault (s : Stack) (layer : Nat) : Stack :=
  let s := s.noteSuspect layer
  if s.mode = .haven then if s.onRaw layer then s else s.handover layer false 1
  else
    let s := s.fault (.layer layer) 0xC 0 0 0
    let s := if s.mode = .haven then s else s.holdForRecovery (s.sectionsIn (pairedLogic layer))
    if s.onRaw layer then { s with power := { s.power with retries := s.power.retries ++ [layer] } } else s.handover layer false 1

/-- Whether step 7 of Dawn is in progress: from the release of the host, in parallel with step 6 (R53). -/
def State.handingOver (s : State) : Bool :=
  s.mode == .dawn && s.recto.sys.hostReleased && (s.recto.get SYS.DAWN_STEP == 6 || s.recto.get SYS.DAWN_STEP == 7)

/-- A regulator becomes suspect (R507): at Dawn step 7 Dawn fails with the layer on the raw feed. Where R507 gives no outcome, in Siesta, in
Dusk and in the other steps of Dawn, the suspicion alone is noted, since R505 allows no raw feed there (log 110). -/
def State.regulatorSuspect (k : Side) (layer : Nat) (s : State) : State :=
  let t := s.stack k
  if !(s.build.upperLayer layer) || t.modeIn [.off, .vigil] then s
  else if s.handingOver then
    ((s.onStack k fun t => (t.noteSuspect layer).setRaw layer true).onBoth fun t =>
      { t with power := { t.power with handovers := [] } }).dawnFail 9
  else if t.modeIn [.dawn, .siesta, .dusk] then s.onStack k fun t => t.noteSuspect layer
  else s.onStackFault k fun t => t.regulatorFault layer

/-- 20 ms after a regulator fault, one hand-over back is tried (R507). -/
def Stack.handBackRetry (layer : Nat) (s : Stack) : Stack :=
  if s.power.retries.contains layer && s.onRaw layer && s.mode != .haven then
    ({ s with power := { s.power with retries := s.power.retries.filter (· != layer) } } : Stack).handover layer true 1
  else s

/-- A hand-over in service has ended, as asked for: the fault's hand-over to the raw feed waits for its retry; the retry ends suspicion, and
the recovery re-initialises the layer's sections and completes (R507, R614). -/
def Stack.handoverDone (s : Stack) (h : Handover) : Stack :=
  let s := s.setRaw h.layer (!h.regulate)
  if h.who = 2 then (s.put POWER.REG_STATUS_BUSY 0).put POWER.REG_STATUS_RESULT 0
  else if h.who = 1 ∧ !h.regulate then
    if s.mode = .haven then s else { s with power := { s.power with retries := s.power.retries ++ [h.layer] } }
  else if h.who = 1 then
    let s : Stack := { s with power := { s.power with suspects := s.power.suspects.filter (· != h.layer) } }
    (s.reinitHeld (s.sectionsIn (pairedLogic h.layer))).recoveryComplete (.layer h.layer)
  else s

/-- A hand-over that missed step 1 or step 4: the regulator is suspect and the layer stays on the raw feed. A command's ends with SUSPECT;
the retry of R507 leaves its recovery to the limit of R44 (R507, R533). -/
def Stack.handoverFailed (s : Stack) (h : Handover) : Stack :=
  let s := s.setRaw h.layer true
  if h.who = 2 then ((s.put POWER.REG_STATUS_BUSY 0).put POWER.REG_STATUS_RESULT 2).regulatorFault h.layer
  else s.noteSuspect h.layer

/-- A hand-over of a layer completes or has failed (R506, R507). At Dawn only the first that waits runs, and one to the raw feed that a REGULATE
has overtaken is abandoned at its safe boundary (R40, R506). -/
def State.handoverComplete (k : Side) (layer : Nat) (ok : Bool) (s : State) : State :=
  let t := s.stack k
  match t.power.handovers.find? fun h => h.layer == layer with
  | Option.none => s
  | some h =>
    if h.who = 0 ∧ (s.handingOver = false ∨ t.power.handovers.head? ≠ some h) then s
    else if !h.regulate ∧ t.sys.reenables.contains (.rail layer) = true then s
    else
      let s := s.onStack k fun t => { t with power := { t.power with handovers := t.power.handovers.erase h } }
      if ok then s.onStack k fun t => t.handoverDone h
      else if h.who = 0 then s.regulatorSuspect k layer
      else s.onStackFault k fun t => t.handoverFailed h

/-- Whether a user domain of a layer runs, or a section of it serves or is on its way to or from serving (R16, R533). -/
def Stack.layerClocked (s : Stack) (layer : Nat) : Bool :=
  layer % 2 == 0 && ((List.range 8).any (fun j => s.domainRunning (8 + 4 * layer + j)) ||
    (s.sectionsIn layer).any fun n => (s.sect n).state.serving || (s.sect n).seq != .idle)

/-- REG_CMD with GO (R533): refused with MODE, SUSPECT or CLOCKS, lowest code first; a layer already on the feed is done; else the hand-over
begins. A REGULATE while the same layer's hand-over to the raw feed runs is queued for the safe boundary of that rail power-down (R40, R41).
DESIGN CHOICE (log 111): a LAYER that the build does not have, or 0 or 1, changes nothing but the fields. -/
def Stack.regCmd (layer op : Nat) (s : Stack) : Stack :=
  if s.flag POWER.REG_STATUS_BUSY then
    if op = 1 ∧ (s.power.handovers.any fun h => h.layer == layer && !h.regulate && h.who == 2) = true then
      { s with sys := { s.sys with reenables := if s.sys.reenables.contains (.rail layer) then s.sys.reenables else s.sys.reenables ++ [.rail layer] } }
    else s
  else
    let t := (s.put POWER.REG_CMD_LAYER layer).put POWER.REG_CMD_OP op
    if !(s.build.upperLayer layer) then t
    else if !(s.modeIn [.workshop, .haven]) then t.put POWER.REG_STATUS_RESULT 1
    else if op = 1 ∧ s.power.suspects.contains layer = true then t.put POWER.REG_STATUS_RESULT 2
    else if op = 2 ∧ s.layerClocked layer = true then t.put POWER.REG_STATUS_RESULT 3
    else if s.onRaw layer = (op = 2 : Bool) then t.put POWER.REG_STATUS_RESULT 0
    else ((t.put POWER.REG_STATUS_RESULT 0).put POWER.REG_STATUS_BUSY 1).handover layer (op == 1) 2

/-! ## Operating points (R508 to R510) -/

/-- Whether the tables of a bank reserve a slot on a layer's dial rings (R307, R319). -/
def dialReserved (m : Sparse Nat) (hub : Nat) : Bool :=
  m.any fun e =>
    (decide (e.1 < 2 ^ 24) && e.1 / 262144 == hub && (ttDeparts e.2 || bit e.2 0)) ||
    (decide (2 ^ 24 ≤ e.1) && decide (e.1 < 2 ^ 25) && (e.1 - 2 ^ 24) / 4096 == hub && (ttSource e.2 0 != 0 || ttSource e.2 1 != 0))

/-- Whether a mesochronous group of a live or staged plane joins a layer to a neighbour whose scale differs from the one asked for
(R121, R509). -/
def Stack.mesoBreaks (s : Stack) (layer scale : Nat) : Bool :=
  s.placed.any fun n => ([0, 1, 2, 3].filter fun p => p == s.livePlane n || s.planeStatus (s.rootOf n) p == .staged).any fun p =>
    (s.sect n).tiles.any fun t => (List.range 12).any fun j =>
      let other := if j < 6 then t.layer - 2 else t.layer + 2
      bits (s.fabric.group t p j) 0 2 == 1 && (s.build.logicIndex other).isSome &&
        ((t.layer == layer && s.get (POWER.OPP_SCALE (other / 2 - 1)) != scale) ||
         (other == layer && s.get (POWER.OPP_SCALE (t.layer / 2 - 1)) != scale))

/-- The neighbouring logic layers of a logic layer, by index. -/
def Stack.logicNeighbours (s : Stack) (layer : Nat) : List Nat :=
  ([layer - 2, layer + 2].filter fun k => (s.build.logicIndex k).isSome && k != layer).map fun k => k / 2 - 1

/-- The result of a request for an operating point: the lowest code among its cases (R509). DESIGN CHOICE (log 111): a LAYER that is no logic
layer of the build is answered with RANGE. -/
def Stack.oppResult (s : Stack) (layer scale volt : Nat) : Nat :=
  let nb := s.logicNeighbours layer
  if (s.build.logicIndex layer).isNone ∨ scale < 32 ∨ 64 < scale ∨ 850 < volt ∨ volt * 64 < 450 * 64 + 300 * scale then 1
  else if nb.any fun i => decide (s.get (POWER.OPP_VOLT i) + 50 < volt) || decide (volt + 50 < s.get (POWER.OPP_VOLT i)) then 2
  else if nb.any fun i => decide (scale * 100 < 85 * s.get (POWER.OPP_SCALE i)) || decide (s.get (POWER.OPP_SCALE i) * 100 < 85 * scale) then 3
  else if s.mesoBreaks layer scale then 4
  else if scale < 64 ∧ (dialReserved s.rings.live (layer / 2) || dialReserved s.rings.staged (layer / 2)) = true then 5
  else if s.power.opps.any fun p => p.1 == layer / 2 - 1 then 6
  else if s.onRaw layer then 7
  else 0

/-- OPP_REQ with GO (R509): refused with its cause, or accepted. -/
def Stack.oppRequest (layer scale volt : Nat) (s : Stack) : Stack :=
  let t := ((s.put POWER.OPP_REQ_LAYER layer).put POWER.OPP_REQ_SCALE scale).put POWER.OPP_REQ_VOLT volt
  let r := s.oppResult layer scale volt
  let t := t.put POWER.OPP_STATUS_RESULT r
  if r = 0 then
    ({ t with power := { t.power with opps := t.power.opps ++ [(layer / 2 - 1, scale, volt)] } } : Stack).put POWER.OPP_STATUS_BUSY 1
  else t

/-- The ramp and the change of scale of an accepted point are complete (R510). -/
def Stack.oppApplied (layer : Nat) (s : Stack) : Stack :=
  match s.power.opps.find? fun p => p.1 == layer / 2 - 1 && layer % 2 == 0 with
  | Option.none => s
  | some p =>
    let rest := s.power.opps.erase p
    let t : Stack := { s with power := { s.power with opps := rest } }
    (((t.put (POWER.OPP_SCALE p.1) p.2.1).put (POWER.OPP_VOLT p.1) p.2.2).put POWER.OPP_STATUS_BUSY (b2n (!rest.isEmpty))).raise
      POWER.INT_OPP_DONE

/-! ## Supplies (R50, R511) -/

/-- A supply leaves its limits for 1 µs, or returns within them: its bit of SUPPLY_OK, and for an excursion SUPPLY_EVT, SUPPLY and a ledger
event, in every mode in which the monitors are powered (R50, R511). -/
def Stack.supply (n : Nat) (ok : Bool) (s : Stack) : Stack :=
  let rest := s.sys.suppliesOut.filter (· != n)
  let t : Stack := { s with sys := { s.sys with suppliesOut := if 12 ≤ n then s.sys.suppliesOut else if ok then rest else rest ++ [n] } }
  if s.mode = .off then t
  else
    let t := t.put POWER.SUPPLY_OK_OK (setBit (s.get POWER.SUPPLY_OK_OK) n ok)
    if ok then t
    else
      ((t.put POWER.SUPPLY_EVT_EVT (setBit (t.get POWER.SUPPLY_EVT_EVT) n true)).raise POWER.INT_SUPPLY).event
        { block := 0xC, cause := 0, data0 := n }

/-- A supply excursion of the device; at Dawn it is failure 0x03 (R70, R511). -/
def State.supplyExcursion (k : Side) (n : Nat) (ok : Bool) (s : State) : State :=
  let s := s.onStack k (Stack.supply n ok)
  if s.mode = .dawn ∧ !ok then s.dawnFail 3 else s

/-! ## Temperatures (R512 to R524) -/

/-- A THERM event: held in EVENT, recorded in the ledger (R534). -/
def Stack.thermEvent (s : Stack) (die cause d1 d2 : Nat) : Stack :=
  (s.eventReg THERM.EVENT_VALID THERM.EVENT_LOST [(THERM.EVENT_DIE, die), (THERM.EVENT_CAUSE, cause)]).event
    { block := 0xB, cause := cause, data0 := die, data1 := d1, data2 := d2 }

/-- One sensor's sample: a reading, or none; a sensor fails on three missing readings or one outside −40 to 150 °C (R514). -/
def Stack.sensorSample (s : Stack) (die n : Nat) (r : Option Nat) : Stack :=
  let miss := match r with
    | some _ => 0
    | Option.none => Nat.min (mapGet 0 s.therm.missing n + 1) 3
  let bad := match r with
    | some v => decide (signed v 12 < -320) || decide (1200 < signed v 12)
    | Option.none => miss == 3
  let t : Stack := { s with therm := { s.therm with
    sensors := match r with
      | some v => mapSet 0 s.therm.sensors n v
      | Option.none => s.therm.sensors
    missing := mapSet 0 s.therm.missing n miss } }
  if bad && !s.therm.failed.contains n then
    ({ t with therm := { t.therm with failed := t.therm.failed ++ [n] } } : Stack).thermEvent die 4 n 0
  else t

/-- The highest of some readings. -/
def highest : List Int → Option Int
  | [] => Option.none
  | x :: l => some (l.foldl (fun a b => if a < b then b else a) x)

/-- The measured value of a die: none when its sensors have all failed (R514). -/
def Stack.measured (s : Stack) (die : Nat) : Option Int := highest (s.readings die)

/-- E of a layer, when a model is installed (R515). -/
def Stack.estimate (s : Stack) (die : Nat) : Option Int :=
  if s.flag (THERM.MODEL_VALID die) then some (signed (s.get (THERM.MODEL_EST die)) 12) else Option.none

/-- The greater of two values, either of which may be absent. -/
def maxOf (a b : Option Int) : Option Int :=
  match a, b with
  | some x, some y => some (if x < y then y else x)
  | some x, Option.none => some x
  | Option.none, y => y

/-- Whether a condition of R516 holds for a layer now: more than 6 °C below its estimate, below both neighbours, or without a sensor
(R514, R516). -/
def Stack.doubtful (s : Stack) (d : Nat) : Bool :=
  match s.measured d with
  | Option.none => true
  | some m =>
    let inner := 2 ≤ d && d < s.build.top
    inner &&
      ((match s.estimate d with
        | some e => decide (m + 48 < e)
        | Option.none => false) ||
       (match s.measured (d - 1), s.measured (d + 1) with
        | some a, some b => decide (m < a) && decide (m < b)
        | _, _ => false))

/-- The decided value that R516 gives a suspect die, from the decided value below and the measured value above it; the last decided value
where nothing gives one. -/
def Stack.suspectValue (s : Stack) (d : Nat) : Int :=
  let below := if 1 ≤ d ∧ d ≤ s.build.top then some (s.decided (d - 1)) else Option.none
  let above := if d < s.build.top then s.measured (d + 1) else Option.none
  let near := (maxOf below above).map (· + 8 * (s.get THERM.CFG_MARGIN : Int))
  (maxOf (s.estimate d) near).getD (s.decided d)

/-- Whether a die is suspect after a sample, given that it was: suspicion ends when no condition has held for 10 s (R516). -/
def Stack.suspicion (s : Stack) (d : Nat) : Stack :=
  let was := s.flag (THERM.DIE_SUSPECT d)
  let doubt := s.doubtful d
  let since := mapGet 0 s.therm.clearSince d
  let next := if doubt || !was then 0 else if since = 0 then s.clk.up + 1 else since
  let now := doubt || (was && !(next != 0 && decide (10000000000 ≤ s.clk.up + 1 - next)))
  let t : Stack := { s with therm := { s.therm with clearSince := mapSet 0 s.therm.clearSince d (if now then next else 0) } }
  let v := if now then t.suspectValue d else (t.measured d).getD 0
  let t := (t.put (THERM.DIE_SUSPECT d) (b2n now)).put (THERM.DIE_DECIDED d) (wrapInt 12 v)
  let t := t.put (THERM.DIE_NO_SENSOR d) (b2n (t.measured d).isNone)
  if now = was then t
  else
    (t.raise THERM.INT_SUSPECT).thermEvent d 1 (wrapInt 16 ((t.measured d).getD 0) + 2 ^ 16 * wrapInt 16 ((t.estimate d).getD 0))
      (wrapInt 16 v)

/-- The dies of a stack: its layers, and the host die (R512). -/
def Stack.dies (s : Stack) : List Nat := List.range (s.build.top + 1) ++ (if s.side = .recto then [10] else [])

/-- The throttle threshold in 0.125 °C (R519, R534). -/
def Stack.throttleAt (s : Stack) : Int := 8 * (80 + (Nat.min (s.get THERM.CFG_THROTTLE) 20 : Int))

/-- The throttle factor of a decided value, in 1/64, rounded down, at least 25 % (R519, log 121). -/
def Stack.factor (s : Stack) (v : Int) : Nat :=
  let exceed := (v - s.throttleAt).toNat * s.get THERM.CFG_SLOPE
  if 1200 ≤ exceed then 16 else 64 * (1600 - exceed) / 1600

/-- The sampling rate that a decided value sets: a faster one at once, a slower one when clear by 1 °C (R513). -/
def Stack.sampleRate (s : Stack) (old : Nat) (v : Int) : Nat :=
  let at_ := fun (m : Int) => if 816 - m ≤ v then 2 else if s.throttleAt - 120 - m ≤ v then 1 else 0
  Nat.max (at_ 0) (Nat.min old (at_ 8))

/-- Factor and sampling rate of a die recomputed; a factor that leaves 100 % raises THROTTLING (R513, R519). -/
def Stack.throttle (s : Stack) (d : Nat) : Stack :=
  let f := s.factor (s.decided d)
  let t := (s.put (THERM.FACTOR_F d) f).put (THERM.DIE_RATE d) (s.sampleRate (s.get (THERM.DIE_RATE d)) (s.decided d))
  if f < 64 ∧ s.get (THERM.FACTOR_F d) = 64 then t.raise THERM.INT_THROTTLING else t

/-- The band of R530 of a decided value: below 70 °C, to 85, to 95, to 105, above. -/
def bandOf (v : Int) : Nat := if v < 560 then 0 else if v < 680 then 1 else if v < 760 then 2 else if v < 840 then 3 else 4

/-- The time since a die's last sample counted in the band of its decided value (R530). -/
def Stack.countBand (s : Stack) (d : Nat) : Stack :=
  let last := mapGet 0 s.therm.lastAt d
  let i := 5 * d + bandOf (s.decided d)
  { s with therm := { s.therm with
    lastAt := mapSet 0 s.therm.lastAt d (s.clk.up + 1)
    bands := if last = 0 then s.therm.bands else mapSet 0 s.therm.bands i (mapGet 0 s.therm.bands i + (s.clk.up + 1 - last)) } }

/-- A die's sample added to the last 64 (R522). -/
def Stack.addHistory (s : Stack) (d : Nat) : Stack :=
  { s with therm := { s.therm with
    history := mapSet [] s.therm.history d (((s.clk.up, s.get (THERM.DIE_DECIDED d)) :: mapGet [] s.therm.history d).take 64) } }

/-- The rise over 70 ms that a straight line fitted by least squares to a die's last 64 samples gives, times the denominator of the fit, and
that denominator (R522). -/
def Stack.rise (s : Stack) (d : Nat) : Int × Int :=
  let h := (mapGet [] s.therm.history d).map fun e => ((e.1 : Int) - (s.clk.up : Int), signed e.2 12)
  let n : Int := h.length
  let sx := (h.map (·.1)).foldl (· + ·) 0
  let sy := (h.map (·.2)).foldl (· + ·) 0
  let sxy := (h.map fun e => e.1 * e.2).foldl (· + ·) 0
  let sxx := (h.map fun e => e.1 * e.1).foldl (· + ·) 0
  (70000000 * (n * sxy - sx * sy), n * sxx - sx * sx)

/-- Whether the trip acts by a die: a reading or the decided value at 112 °C, or at 102 °C with a rise that reaches 112 °C in 70 ms (R522). -/
def Stack.trips (s : Stack) (d : Nat) : Bool :=
  let v := s.decided d
  (s.readings d).any (fun r => decide (896 ≤ r)) || decide (896 ≤ v) ||
    (decide (816 ≤ v) &&
      (let r := s.rise d
       decide (0 < r.2) && decide ((896 - v) * r.2 ≤ r.1)))

/-! ## Neighbours too far apart (R120, R122) -/

/-- The sections on the hotter side of a hinge of a layer, or with `both` on either side, for each pair of sensor blocks that differ by more
than `limit` (R122, R512). -/
def Stack.hotSections (s : Stack) (both : Bool) (layer : Nat) (limit : Int) : List Nat :=
  let base := 24 * (layer / 2 - 1)
  let t := fun r c => signed (mapGet 0 s.therm.sensors (base + 4 * r + c)) 12
  let ok := fun r c => !s.therm.failed.contains (base + 4 * r + c)
  let hot := fun (r c r' c' : Nat) (edge : List (Tile × Tile)) =>
    let a := t r c; let b := t r' c'
    if !(ok r c && ok r' c') then []
    else
      edge.flatMap fun e =>
        let x := s.ownerOf e.1; let y := s.ownerOf e.2
        let far := if limit < a - b then [x] else if limit < b - a then [y] else []
        if x = y ∨ far.isEmpty then [] else (if both then [x, y] else far).filterMap id
  ((List.range 6).flatMap fun r => (List.range 4).flatMap fun c =>
    (if c < 3 then hot r c r (c + 1) ((List.range 5).map fun i =>
      (⟨layer, tileIndex (5 * r + i) (10 * c + 9)⟩, ⟨layer, tileIndex (5 * r + i) (10 * c + 10)⟩)) else []) ++
    (if r < 5 then hot r c (r + 1) c ((List.range 10).map fun i =>
      (⟨layer, tileIndex (5 * r + 4) (10 * c + i)⟩, ⟨layer, tileIndex (5 * r + 5) (10 * c + i)⟩)) else [])).eraseDups

/-- The hotter layers of neighbouring logic layers whose decided values differ by more than `limit`, or with `both` the two of each pair
(R122). -/
def Stack.hotLayers (s : Stack) (both : Bool) (limit : Int) : List Nat :=
  ((List.range (s.build.layers - 1)).flatMap fun i =>
    let a := 2 * i + 2; let b := 2 * i + 4
    let far := if limit < s.decided a - s.decided b then [a] else if limit < s.decided b - s.decided a then [b] else []
    if both && !far.isEmpty then [a, b] else far).eraseDups

/-- Sections held with NEIGHBOUR_TEMP, with their descendants (R122, R167, R172). -/
def Stack.holdTemp (s : Stack) (l : List Nat) : Stack := s.holdSects 3 (l.flatMap s.family).eraseDups

/-- A timer of `coolSince`: it runs while a thing that is held is cool. -/
def Stack.coolTimer (s : Stack) (i : Nat) (held cool : Bool) : Stack :=
  let v := mapGet 0 s.therm.coolSince i
  { s with therm := { s.therm with
    coolSince := mapSet 0 s.therm.coolSince i (if held && cool then (if v = 0 then s.clk.up + 1 else v) else 0) } }

/-- Whether a timer of `coolSince` has run for 10 ms. -/
def Stack.cooled (s : Stack) (i : Nat) : Bool := let v := mapGet 0 s.therm.coolSince i; v != 0 && decide (10000000 ≤ s.clk.up + 1 - v)

/-- The boundaries between logic layers that a layer has, by index (R118). -/
def Stack.boundariesOf (s : Stack) (layer : Nat) : List Nat :=
  (List.range (s.build.layers - 1)).filter fun b => logicLayer b == layer || logicLayer (b + 1) == layer

/-- NEIGHBOUR_TEMP of layers: a fault and held sections; once the difference to every neighbour, whichever is hotter, has stayed below 20 °C
for 10 ms and the boundary's phase is verified, or calibrated anew, the recovery completes (R58, R122). -/
def Stack.layerTemps (s : Stack) : Stack :=
  let held := fun (s : Stack) k => s.sys.recoveries.any fun r => r.res == .layer k && r.block == 0xB
  let s := (s.hotLayers false 200).foldl (fun s k =>
    if held s k then s
    else
      let s := s.fault (.layer k) 0xB 0 0 0
      if s.mode = .haven then s else (s.holdForRecovery (s.sectionsIn k)).holdTemp (s.sectionsIn k)) s
  let warm := s.hotLayers true 159
  (List.range s.build.layers).foldl (fun s i =>
    let k := 2 * i + 2
    let s := s.coolTimer k (held s k) (!warm.contains k)
    if s.cooled k then
      match s.verifyPhases (s.boundariesOf k) with
      | some s =>
        let s := s.modSects (s.sectionsIn k) fun x => { x with hold := setBit x.hold 3 false }
        (s.recoveryComplete (.layer k)).coolTimer k false false
      | Option.none => s.draw
    else s) s

/-- NEIGHBOUR_TEMP of the sections at a layer's hinges: the hotter one is Held, with its descendants, which completes its recovery; it is
releasable once the difference at its hinges, whichever side is hotter, has stayed below 20 °C for 10 ms (R46, R122, R167, R193). -/
def Stack.sectionTemps (s : Stack) (layer : Nat) : Stack :=
  let held := fun (s : Stack) n => bit (s.sect n).hold 3
  let s := (s.hotSections false layer 200).foldl (fun s n =>
    if held s n || !(s.stateIn n [.asleep, .live, .capturing, .testing, .held]) then s
    else
      let s := ((s.holdTemp [n]).sectFault n 8).fault (.sect n) (0x40 + (s.sect n).home) 8 0 0
      s.recoveryComplete (.sect (s.rootOf n))) s
  let warm := s.hotSections true layer 159
  let layerHeld := fun (s : Stack) n => s.sys.recoveries.any fun r => r.block == 0xB && match r.res with
    | .layer k => (s.sect n).layers.contains k
    | _ => false
  ((s.sectionsIn layer).filter fun n => held s n && !layerHeld s n).foldl (fun s n =>
    let s := s.coolTimer (16 + n) true ((s.nest (s.rootOf n)).all fun m => !warm.contains m)
    if s.cooled (16 + n) then (s.modSect n fun x => { x with hold := setBit x.hold 3 false }).coolTimer (16 + n) false false
    else s) s

/-! ## One sample (R513, R521 to R523) -/

/-- The refresh interval of a memory layer by its decided temperature; a move to the 8 ms rate raises HOT (R344, R362). In Siesta the
layer keeps the 32 ms interval. -/
def Stack.refreshRate (s : Stack) (d : Nat) : Stack :=
  let n := (d - 3) / 2
  let v := s.decided d
  let rate := if s.mode = .siesta ∨ v ≤ 680 then 0 else if v ≤ 760 then 1 else 2
  let t := s.put (STORE.REFRESH_RATE n) rate
  if rate = 2 ∧ s.get (STORE.REFRESH_RATE n) < 2 then t.raise STORE.INT_HOT else t

/-- The memory layers of a build (R8). -/
def Build.memoryLayers (b : Build) : List Nat := (List.range b.layers).map (2 * · + 3)

/-- A die sampled: its sensors, the decided values of every die, its factor and rate, and what R122 makes of them (R513 to R519). -/
def Stack.sampleDie (d : Nat) (l : List (Option Nat)) (s : Stack) : Stack :=
  let r := s.build.sensors d
  let s := (List.range r.2).foldl (fun s i => s.sensorSample d (r.1 + i) (l.getD i Option.none)) s
  let s := s.countBand d
  let s := s.put (THERM.DIE_MEASURED d) (wrapInt 12 ((s.measured d).getD 0))
  let s := s.dies.foldl Stack.suspicion s
  let s := s.dies.foldl Stack.throttle (s.addHistory d)
  let s := s.build.memoryLayers.foldl Stack.refreshRate s
  let s := s.layerTemps
  if d % 2 = 0 ∧ (s.build.logicIndex d).isSome then s.sectionTemps d else s

/-- The upper layers unpowered by a trip: planes, state banks, leaf memories, filter engines, store and page store are lost, and only the base
die's commons are kept (R31, R522, R523, log 112). -/
def Stack.tripPower (s : Stack) (n : Nat) : Stack :=
  let t := s.enginesReset
  { t.put POWER.FEED_RAW 0 with
    mem := t.mem.filter fun c => targetOf c.1 == .commons
    health := t.health.filter fun e => decide (e.1 < 2 ^ 44) && targetOf (16 * e.1) == .commons
    fabric := { t.fabric with
      planeMem := [], banks := [], golden := [], pageStore := [], rewriteSafe := [], capLeaf := [], bridge := [], latched := [], ports := [] }
    pages := { t.pages with planes := [], jobs := [], caps := [] }
    power := { t.power with trip := n, handovers := [], retries := [] } }

/-- The hardware trip of a stack: both feeds disconnected, the device to Haven; a second one leaves the layers unpowered (R522, R523). -/
def State.trip (s : State) (k : Side) (d : Nat) : State :=
  let t := s.stack k
  match t.power.trip with
  | 0 => (s.onStack k fun t => (t.tripPower 1).thermEvent d 3 0 0).packageHaven
  | 2 => (s.onStack k fun t => (t.tripPower 3).thermEvent d 3 0 0).packageHaven
  | _ => s

/-- What the critical temperature does in each mode (R521). -/
def State.critical (s : State) : State :=
  match s.mode with
  | .dawn => s.dawnFail 0xE
  | .day => s.startDusk true
  | .dusk => s.onBoth fun t =>
      { t with
        sys := { t.sys with duskCritical := true, dawnAfterDusk := false, reenables := t.sys.reenables.filter (· != .duskBist) }
        bist := { t.bist with stop := if t.bist.run = 0 then t.bist.stop else 2 } }
  | _ => s

/-- Whether a die has reached the critical threshold, 105 °C (R521). -/
def Stack.isCritical (s : Stack) : Bool := s.dies.any fun d => decide (840 ≤ s.decided d)

/-- A die's sensors are sampled: the temperatures that the device acts on, CRITICAL and the trip (R513 to R523). -/
def State.temperatureSample (k : Side) (d : Nat) (l : List (Option Nat)) (s : State) : State :=
  let t := s.stack k
  if t.modeIn [.off, .vigil] || !(t.dies.contains d) then s
  else
    let new := fun (u : Stack) => (u.dies.filter fun e => decide (840 ≤ u.decided e) && decide (t.decided e < 840))
    let s := s.onStackFault k (Stack.sampleDie d l)
    let s := s.onStack k fun u => (new u).foldl (fun u e => (u.raise THERM.INT_CRITICAL).thermEvent e 2 0 0) u
    let u := s.stack k
    match u.dies.find? u.trips with
    | some e => s.trip k e
    | Option.none => if u.isCritical then s.critical else s

/-- Power of a layer in units of 1/256,000 W: the sections' IDLE and COEF × activity, shared equally among a column section's layers; the
measured milliwatts of another layer (R213, R515). -/
def Stack.layerPower (s : Stack) (activity : List (Nat × Nat)) (powers : List Nat) (j : Nat) : Nat :=
  if 2 ≤ j ∧ j % 2 = 0 then
    s.loader.thermalSect.foldl (fun a e =>
      let x := s.sect e.1
      if x.layers.contains j then
        let act := ((activity.find? fun p => p.1 == e.1).map (·.2)).getD 0
        a + (e.2.1 * 1000 + e.2.2 * act * 256) / Nat.max 1 x.layerCnt
      else a) 0
  else powers.getD j 0 * 256

/-- Every 125 µs the estimates of the installed model: T of the top memory layer plus the differences of the matrix times the powers
(R515). -/
def Stack.thermalUpdate (activity : List (Nat × Nat)) (powers : List Nat) (s : Stack) : Stack :=
  let n := s.loader.thermalN
  if n = 0 ∨ n ≠ s.build.top + 1 ∨ s.modeIn [.off, .vigil] = true then s
  else
    let top := s.build.top
    let m := fun (i j : Nat) => Int.ofNat (mapGet 0 s.loader.thermal (i * n + j))
    (List.range n).foldl (fun t i =>
      let sum : Int := (List.range n).foldl (fun a j => a + (m i j - m top j) * (s.layerPower activity powers j : Int)) 0
      let e := (s.measured top).getD 0 + (8 * sum).fdiv 262144000
      (t.put (THERM.MODEL_EST i) (wrapInt 12 e)).put (THERM.MODEL_VALID i) 1) s

/-- 10 ms after a trip the upper layers are raised on the raw feed, their clocks stopped (R523). -/
def Stack.tripRestore (s : Stack) : Stack :=
  if s.power.trip = 1 then
    { s.put POWER.FEED_RAW (if s.build = .octavo then 0x0F else 0xFF) with power := { s.power with trip := 2 } }
  else s

/-! ## Ledger commands (R524, R529, R535) -/

/-- Every 100 ms the abandoned device records are retried (R524). -/
def Stack.ledgerRetry (s : Stack) : Stack :=
  if s.ledger.retry.isEmpty || !s.tempWindow then s
  else
    let l := s.ledger.retry
    let t : Stack := { s with ledger := { s.ledger with retry := [] } }
    l.foldl (fun t r => if r.1 = 0x0050 then t.flushLedger else t.writeRecord r.1 r.2) t

/-- LEDGER.CMD FLUSH (R529, R535): outside the temperature window the write is abandoned and retried (R524). -/
def Stack.ledgerFlush (s : Stack) : Stack :=
  let t := s.put LEDGER.CMD_OP 2
  if s.modeIn [.off, .vigil] then s
  else t.flushLedger.put LEDGER.STATUS_RESULT (if s.tempWindow then 0 else 1)

/-- 10 s after the oldest pending event (R529). -/
def Stack.flushTimer (s : Stack) : Stack := s.flushLedger

/-- LEDGER.CMD COMMIT: the tests of R535 in their order, then the configuration record is written. -/
def Stack.ledgerCommit (s : Stack) : Stack :=
  let t := s.put LEDGER.CMD_OP 1
  let r := if s.mode ≠ .workshop then 3 else if s.get LEDGER.SEL_TYPE ≠ 1 then 2 else if s.get LEDGER.WIN_ADDR_WORD * 4 ≠ 384 then 4
    else if !s.tempWindow then 1 else 0
  let t := t.put LEDGER.STATUS_RESULT r
  if r = 0 then t.writeRecord 1 s.ledger.commit else t

/-- An access to LEDGER.WIN_DATA: a read gives a word of the bank read, a write fills the commit buffer of 384 bytes; WORD advances with
AUTOINC (R535). -/
def Stack.ledgerWin (write : Bool) (v : Nat) (s : Stack) : Stack :=
  let w := s.get LEDGER.WIN_ADDR_WORD
  let t : Stack := if write then
      if w < 96 then { s with ledger := { s.ledger with commit := mapSet 0 s.ledger.commit w v } } else s
    else s.answered 0 [mapGet 0 (s.recordBody (s.get LEDGER.SEL_TYPE)) w]
  if s.flag LEDGER.WIN_ADDR_AUTOINC then t.put LEDGER.WIN_ADDR_WORD (w + 1) else t

/-- Every 24 h of Day the wear record is written (R527). -/
def Stack.wearDay (s : Stack) : Stack := if s.mode = .day then s.wearRecord else s

/-- OPP_REQUEST (R509): POWER.OPP_REQ.GO requests an operating point, or the request is refused. -/
def execOppRequest (k : Side) (layer scale volt : Nat) (s : State) : Host.Outcome State Fault Refusal :=
  nextStack s k (Stack.oppRequest layer scale volt)

/-- OPP_APPLIED (R510): The voltage ramp and scale change of an operating point complete. -/
def execOppApplied (k : Side) (layer : Nat) (s : State) : Host.Outcome State Fault Refusal := nextStack s k (Stack.oppApplied layer)

/-- REGULATOR_SUSPECT (R507): A regulator becomes suspect, and a layer fault puts the layer on the raw feed. -/
def execRegulatorSuspect (k : Side) (layer : Nat) (s : State) : Host.Outcome State Fault Refusal := nextSide s k fun s => s.regulatorSuspect k layer

/-- HAND_BACK_RETRY (R507): 20 ms after a regulator fault, one hand-over back to regulation is tried. -/
def execHandBackRetry (k : Side) (layer : Nat) (s : State) : Host.Outcome State Fault Refusal := nextStack s k (Stack.handBackRetry layer)

/-- REGULATE (R533): The REG_CMD REGULATE operation hands a layer to its regulators in Workshop or Haven. -/
def execRegRegulate (k : Side) (layer : Nat) (s : State) : Host.Outcome State Fault Refusal := nextStack s k (Stack.regCmd layer 1)

/-- RAW (R533): The REG_CMD RAW operation hands a layer to the raw feed in Workshop or Haven. -/
def execRegRaw (k : Side) (layer : Nat) (s : State) : Host.Outcome State Fault Refusal := nextStack s k (Stack.regCmd layer 2)

/-- HANDOVER_COMPLETE (R506): A hand-over between feeds completes, or is found to have failed. -/
def execHandoverComplete (k : Side) (layer : Nat) (ok : Bool) (s : State) : Host.Outcome State Fault Refusal :=
  nextSide s k fun s => s.handoverComplete k layer ok

/-- SUPPLY_EXCURSION (R511): A monitored supply leaves its limits for 1 µs, and the excursion is reported. -/
def execSupplyExcursion (k : Side) (supply : Nat) (ok : Bool) (s : State) : Host.Outcome State Fault Refusal :=
  nextSide s k fun s => s.supplyExcursion k supply ok

/-- TEMPERATURE_SAMPLE (R513): A die's sensors are sampled and its decided temperature and throttle factor are recomputed. -/
def execTemperatureSample (k : Side) (die : Nat) (readings : List (Option Nat)) (s : State) : Host.Outcome State Fault Refusal :=
  nextSide s k (State.temperatureSample k die readings)

/-- THERMAL_MODEL_UPDATE (R515): Every 125 µs, the layer powers and estimates of the thermal model are computed. -/
def execThermalModelUpdate (k : Side) (activity : List (Nat × Nat)) (powers : List Nat) (s : State) : Host.Outcome State Fault Refusal :=
  nextStack s k (Stack.thermalUpdate activity powers)

/-- TRIP_POWER_RESTORE (R523): 10 ms after a trip, the upper layers are raised on the raw feed with clocks stopped. -/
def execTripPowerRestore (k : Side) (s : State) : Host.Outcome State Fault Refusal := nextStack s k Stack.tripRestore

/-- LEDGER_RETRY (R524): Every 100 ms, a device ledger write abandoned for temperature is retried. -/
def execLedgerRetry (k : Side) (s : State) : Host.Outcome State Fault Refusal := nextStack s k Stack.ledgerRetry

/-- LEDGER_FLUSH (R529): The FLUSH command writes the pending events to the ledger. -/
def execLedgerFlush (k : Side) (s : State) : Host.Outcome State Fault Refusal := nextStack s k Stack.ledgerFlush

/-- LEDGER_FLUSH_TIMER (R529): 10 s after the oldest pending event, the pending buffer is flushed. -/
def execLedgerFlushTimer (k : Side) (s : State) : Host.Outcome State Fault Refusal := nextStack s k Stack.flushTimer

/-- LEDGER_COMMIT (R535): The COMMIT command writes the device configuration record, or fails a test. -/
def execLedgerCommit (k : Side) (s : State) : Host.Outcome State Fault Refusal := nextStack s k Stack.ledgerCommit

/-- LEDGER_WIN_DATA_ACCESS (R535): An access to LEDGER.WIN_DATA reads the record or fills the commit buffer, advancing WORD. -/
def execLedgerWinDataAccess (k : Side) (write : Bool) (v : Nat) (s : State) : Host.Outcome State Fault Refusal :=
  nextStack s k (Stack.ledgerWin write v)

/-- WEAR_RECORD (R527): Every 24 h of Day, the wear record is written. -/
def execWearRecord (k : Side) (s : State) : Host.Outcome State Fault Refusal := nextStack s k Stack.wearDay

end Sys2Proof.Machine
end

