-- ==== Sys2Proof/Machine/Turns.lean ====
section
/-! DEFINITION. Turns: arming, checking, the last examination, application and cancelling, of firmware and of the device (R232 to R253,
R579). -/

namespace Sys2Proof.Machine

/-! ## Arming (R235 to R237, R579) -/

/-- A refused arm: RESULT describes an arm without a number (R235). -/
def Stack.armRefuse (s : Stack) (reason : Nat) : Stack :=
  (((s.put TURN.RESULT_REASON reason).put TURN.RESULT_ITEM 0).put TURN.RESULT_SEQ_REFUSED 1).raise TURN.INT_FAILED

/-- The first reason to refuse an arm, if any: MODE, LOADER, RASTER, and SIDE for the standby stack in Mirror (R235, R579). -/
def State.armReason (s : State) (k : Side) : Nat :=
  let t := s.stack k
  if !(t.modeIn [.day, .workshop]) then 1
  else if t.get LOAD.STATUS_PHASE = 5 then 2
  else if t.get TURN.POINT_WHEN ≠ 0 ∧ !(t.rasterRunning (t.get TURN.POINT_RASTER)) then 3
  else if s.mirror ∧ (k ≠ s.active ∨ (s.stack (otherSide k)).turnArmed) then 0xC
  else 0

/-- A firmware turn armed: the turn set is fixed and counted (R235, R237, R241). -/
def Stack.armFirmware (s : Stack) : Stack := let t := s.turnStart Option.none; t.put TURN.ITEMS_COUNT t.stagedItems.length

/-- The turn point of one stack written into another (R579). -/
def Stack.copyPoint (t s : Stack) : Stack :=
  [TURN.POINT_RASTER, TURN.POINT_WHEN, TURN.POINT_POS_LINE, TURN.POINT_POS_SAMPLE, TURN.POINT_FRAME_FRAME].foldl
    (fun t f => t.put f (s.get f)) t

/-- Marks a turn as one of a pair (R579). -/
def Stack.pairTurn (s : Stack) : Stack := { s with turn := { s.turn with mirrored := true } }

/-- TURN.ARM.GO: while a turn is armed ARM_REFUSED is set; a broken condition refuses the arm; else the turn is armed, in Mirror on both
stacks with one number (R235 to R237, R579). -/
def State.arm (k : Side) (s : State) : State :=
  let t := s.stack k
  if t.turnArmed then s.putStack k (t.raise TURN.STATUS_ARM_REFUSED)
  else if s.armReason k ≠ 0 then s.putStack k (t.armRefuse (s.armReason k))
  else if s.mirror then
    let u := ((s.stack (otherSide k)).copyPoint t).put TURN.SEQ_NEXT (t.get TURN.SEQ_NEXT)
    (s.putStack k t.armFirmware.pairTurn).putStack (otherSide k) u.armFirmware.pairTurn
  else s.putStack k t.armFirmware

/-- A mirrored turn that has failed on one stack fails on the other with SIDE (R579). -/
def State.pairFailed (s : State) (k : Side) : State :=
  let t := s.stack (otherSide k)
  if t.turn.mirrored && t.firmwareArmed && t.stage != 3 then s.putStack (otherSide k) (t.turnFail 0xC 0) else s

/-- An effect on the armed turn of a stack; if it ends a mirrored turn before it applies, the other stack's ends with SIDE (R579). -/
def State.onTurn (s : State) (k : Side) (f : Stack → Stack) : State :=
  let t := s.onStack k f
  if (s.stack k).turn.mirrored && !(t.stack k).turn.mirrored && (s.stack k).stage != 3 then t.pairFailed k else t

/-- TURN.ARM.CANCEL of a firmware turn (R248). -/
def Stack.cancel (s : Stack) : Stack :=
  if s.firmwareArmed && (s.stage == 1 || (s.stage == 2 && decide (s.time + 10000 < s.turn.instant))) then s.turnFail 0x0D 0 else s

/-! ## The check (R239 to R243, R250) -/

/-- Instant of a position on a raster for a device turn: its next occurrence at least 10 µs ahead, or 10 µs ahead where the raster does not
run, did not run when the turn was armed, or has no such position (R250). -/
def Stack.deviceInstant (s : Stack) (r line sample : Nat) : Stack :=
  if s.turn.rasterRan && s.rasterRunning r && s.positionExists r line sample then
    ({ s with turn := { s.turn with raster := some r } } : Stack).fixInstant (s.nextOccurrence r line sample (s.time + 10000))
  else s.fixInstant (s.time + 10000)

/-- The instant of a device turn fixed (R249, R250). -/
def Stack.fixDevice (s : Stack) (d : DevTurn) : Stack :=
  match d with
  | .repair r _ => s.deviceInstant (s.sect r).repairRaster (s.sect r).repairLine 0
  | .detour r _ => s.deviceInstant (s.sect r).repairRaster (s.sect r).repairLine 0
  | .degraded _ => s.fixInstant (s.time + 10000)
  | _ => s.deviceInstant 0 1 0

/-- The instant of a firmware turn, or the reason of its failure: RASTER or TOO_LATE (R242). -/
def Stack.firmwareInstant (s : Stack) : Nat ⊕ Nat :=
  let r := s.get TURN.POINT_RASTER; let line := s.get TURN.POINT_POS_LINE; let sample := s.get TURN.POINT_POS_SAMPLE
  if s.get TURN.POINT_WHEN = 0 then .inl (s.time + 10000)
  else if !(s.rasterRunning r) || !(s.positionExists r line sample) then .inr 3
  else if s.get TURN.POINT_WHEN = 2 then
    let d := (s.get TURN.POINT_FRAME_FRAME + (2 ^ 32 - s.rasterFrame r)) % 2 ^ 32
    let t := s.positionTime r (s.frameAt r s.time + Int.ofNat d) line sample
    if 2 ^ 31 ≤ d ∨ t < s.time + 10000 then .inr 4 else .inl t
  else .inl (s.nextOccurrence r line sample (s.time + 10000))

/-- The failures of the timetable: the staged tables, when the turn changes TT_GEN, with the first inconsistency in TT_FAULT (R324). -/
def Stack.slotCheck (s : Stack) : Stack × List Failure :=
  if s.turnItems.contains (3, 0x100) then
    let r := s.checkTimetable s.rings.staged
    (r.1, failIf (!r.2) (3, 0x100) 6)
  else (s, [])

/-- A repair that fails its check or its last examination: ACTION 5, and the clean plane is freed (R230, R249). -/
def Stack.deviceFailed (s : Stack) (d : DevTurn) : Stack :=
  match d with
  | .repair r p =>
    let s := if (s.planeStatus r p) = .staged then s.setPlane r p {} else s
    let s := s.eventReg LOAD.CHK_INFO_VALID LOAD.CHK_INFO_LOST
      [(LOAD.CHK_INFO_PLANE, p), (LOAD.CHK_INFO_ACTION, 5), (LOAD.CHK_INFO_SECTION, r)]
    { s with loader := { s.loader with repairs := s.loader.repairs.filter (·.1 != r) } }
  | _ => s

/-- The armed turn fails, with what its kind adds (R238, R249). -/
def Stack.failTurn (s : Stack) (reason item : Nat) : Stack :=
  match s.turn.dev with
  | Option.none => s.turnFail reason item
  | some d => (s.turnFail reason item).deviceFailed d

/-- The stage becomes Pending (R238). -/
def Stack.pendingTurn (s : Stack) : Stack := s.put TURN.STATUS_STAGE 2

/-- The check of a stack's armed turn completes, given its failures: a failure that concerns no item comes first, then the first item's
(R239, R240, R242, R249, R250). -/
def Stack.checkDone (s : Stack) (l : List Failure) : Stack :=
  match s.turn.dev with
  | some d =>
    match firstFailure l with
    | some f => s.failTurn f.2 (Item.code f.1)
    | Option.none => (s.fixDevice d).pendingTurn
  | Option.none =>
    match s.firmwareInstant with
    | .inr reason => s.failTurn reason 0
    | .inl t =>
      match firstFailure l with
      | some f => s.failTurn f.2 (Item.code f.1)
      | Option.none =>
        let r : Option Nat := if s.get TURN.POINT_WHEN = 0 then Option.none else some (s.get TURN.POINT_RASTER)
        (({ s with turn := { s.turn with raster := r } } : Stack).fixInstant t).pendingTurn

/-- The failures of a stack's armed turn, and the stack with TT_FAULT as the check leaves it. Device turns but repairs and detours have no
check (R249). -/
def State.examine (s : State) (k : Side) : Stack × List Failure :=
  let c := s.turnCase k
  let r := (s.stack k).slotCheck
  (r.1, c.failures (r.2 ++ s.sideFailures k))

/-- The turn check of a stack completes; of a mirrored pair the two checks are completed together, and the standby takes the instant of
the active stack (R238 to R242, R579). -/
def State.checkComplete (k : Side) (s : State) : State :=
  let t := s.stack k
  if t.stage ≠ 1 then s
  else if t.turn.mirrored then
    let a := s.active; let b := otherSide a
    let ea := s.examine a; let eb := s.examine b
    let ta := ea.1.checkDone ea.2
    if !ta.turnArmed then (s.putStack a ta).pairFailed a
    else
      match firstFailure eb.2 with
      | some f => ((s.putStack a (ea.1.turnFail 0xC 0)).putStack b (eb.1.turnFail f.2 (Item.code f.1)))
      | Option.none =>
        let tb := (({ eb.1 with turn := { eb.1.turn with raster := ta.turn.raster } } : Stack).fixInstant ta.turn.instant).pendingTurn
        (s.putStack a ta).putStack b tb
  else
    let e := s.examine k
    s.putStack k (e.1.checkDone e.2)

/-! ## The last examination (R244) -/

/-- The reasons that the last examination can give: PAGE, CLOCK, SECTION and KEY (R244). -/
def lastReason (r : Nat) : Bool := 7 ≤ r && r ≤ 0xA

/-- The failures that the last examination of a stack's turn finds (R244). -/
def State.lastFailures (s : State) (k : Side) : List Failure :=
  ((s.turnCase k).items.flatMap (s.turnCase k).itemFailures).filter fun f => lastReason f.2

/-- The stage becomes Applying, with the turn examined (R238, R244). -/
def Stack.applyingTurn (s : Stack) : Stack := let s := s.countItems; { s.put TURN.STATUS_STAGE 3 with turn := { s.turn with examined := true } }

/-- The last examination, 20 ns before the instant; of a mirrored pair both examinations are made together (R244, R579). -/
def State.lastExamination (k : Side) (s : State) : State :=
  let t := s.stack k
  if t.stage ≠ 2 then s
  else
    let s := s.putStack k (t.reach (t.turn.instant - 20))
    if t.turn.mirrored then
      let b := otherSide k
      if !((s.stack b).turn.mirrored && (s.stack b).stage == 2) then s.onStack k fun t => t.turnFail 0xC 0
      else
        match firstFailure (s.lastFailures k), firstFailure (s.lastFailures b) with
        | Option.none, Option.none => (s.onStack k Stack.applyingTurn).onStack b Stack.applyingTurn
        | some f, Option.none => (s.onStack k fun t => t.turnFail f.2 (Item.code f.1)).onStack b fun t => t.turnFail 0xC 0
        | Option.none, some g => (s.onStack k fun t => t.turnFail 0xC 0).onStack b fun t => t.turnFail g.2 (Item.code g.1)
        | some f, some g => (s.onStack k fun t => t.turnFail f.2 (Item.code f.1)).onStack b fun t => t.turnFail g.2 (Item.code g.1)
    else
      match firstFailure (s.lastFailures k) with
      | some f => s.onStack k fun t => t.failTurn f.2 (Item.code f.1)
      | Option.none => s.onStack k Stack.applyingTurn

/-! ## Application: pages (R146) -/

/-- The flip-flops of a gathering that two planes share, or every one of them at a repair edge (R146, R230). -/
def Fabric.shared (f : Fabric) (all : Bool) (old new : Nat) : BitVec 256 :=
  if all then BitVec.allOnes 256
  else sharedBits f.planeMem (old * 4096) &&& sharedBits f.planeMem (new * 4096)

/-- A nest turns to a plane: shared flip-flops are in both banks, the old plane is Staged, or Blocked if it holds a folio that failed its
digest, and the new one is Live; a good plane ends DIGEST. Leaf-memory ports and bridge registers follow R146 and R119, and flip-flops whose
reset is asserted stand at INIT in the new live bank too (R76, R119, R146, R147, R172, R229). -/
def Stack.turnPage (s : Stack) (r new : Nat) (all : Bool) : Stack :=
  let was := s
  let old := s.livePlane r
  let banks := (s.pagedTiles r).foldl (fun b t => (List.range 16).foldl (fun b g =>
    let ko := folioKey t g old; let kn := folioKey t g new
    let m := s.fabric.shared all ko kn
    mapSet 0 b kn ((s.fabric.bank kn &&& ~~~m) ||| (s.fabric.bank ko &&& m))) b) s.fabric.banks
  let po := s.plane r old
  let s : Stack := { s with fabric := { s.fabric with banks := banks } }
  let s := (s.setPlane r old { po with status := if po.bad then .blocked else .staged }).setPlane r new { s.plane r new with status := .live }
  let s := s.putBoth (SECT.PAGE_SEL_PLANE (s.sect r).home r) new
  let s := if (s.plane r new).bad then s else s.modSects (s.nest r) fun x => { x with hold := setBit x.hold 1 false }
  ((s.takeNest r).takeBridges was (s.pagedTiles r)).refreshDoms

/-- What a turn of a plane selection does to a repair of the nest: its own turn frees the old plane and completes the recovery; another turn
that makes a different plane live drops it, and the clean plane is freed (R230). -/
def Stack.repairAfter (s : Stack) (r old new : Nat) : Stack :=
  match s.loader.repairs.find? fun q => q.1 == r with
  | Option.none => s
  | some q =>
    let s : Stack := { s with loader := { s.loader with repairs := s.loader.repairs.filter (·.1 != r) } }
    let s : Stack := { s with turn := { s.turn with waiting := s.turn.waiting.filter fun d => d != .repair r q.2 } }
    if q.2 = new then (s.setPlane r old {}).recoveryComplete (.sect r)
    else if q.2 < 4 then (s.setPlane r q.2 {}).recoveryComplete (.sect r)
    else s.recoveryComplete (.sect r)

/-- A plane selection applies (R146, R230, R245). -/
def Stack.applyPage (s : Stack) (r new : Nat) (all : Bool) : Stack :=
  let old := s.livePlane r
  if new = old then s else (s.turnPage r new all).repairAfter r old new

/-! ## Application: RUN (R38, R39, R173, R176) -/

/-- A section and its Asleep descendants wake by a turn; a sleep entry in progress is waited out (R39, R41, R127). -/
def Stack.turnWake (s : Stack) (n : Nat) : Stack :=
  let fam := s.family n
  let sleeping := fam.filter fun m => s.stateIn m [.live] && (s.sect m).seq != .idle
  let s : Stack := { s with sys := { s.sys with reenables := s.sys.reenables ++ sleeping.map .sectionSleep } }
  fam.foldl (fun s m => if s.stateIn m [.asleep] then s.detour false m else s) (s.wakeEntry fam)

/-- A section and its Live descendants go to sleep by a turn; a wake in progress ends, and one whose capture edge is this edge sleeps when its
copy completes (R38, R149, R177). -/
def Stack.turnSleep (s : Stack) (n : Nat) : Stack :=
  let fam := s.family n
  ((s.modSects fam fun x => match x.state with
    | .asleep => { x with seq := .idle }
    | .capturing => { x with sleepPending := true }
    | _ => x).sleepEntry fam).drainBypass

/-- RUN of a section applies: LIVE and RESET reach every descendant in both copies, a change of LIVE is a sleep or a wake, and RESET set
asserts the reset (R38, R39, R147, R173, R176). -/
def Stack.applyRun (s : Stack) (i n : Nat) : Stack :=
  let live := s.get (SECT.RUN_LIVE i n).staged; let reset := s.get (SECT.RUN_RESET i n).staged
  let fam := s.family n
  let moves := fam.any fun m => s.get (SECT.RUN_LIVE (s.sect m).home m) != live
  let resets := fam.any fun m => s.get (SECT.RUN_RESET (s.sect m).home m) != reset
  let s := s.put (SECT.RUN_PLL_KEEP i n) (s.get (SECT.RUN_PLL_KEEP i n).staged)
  let s := s.setRunLive n live
  let s := fam.foldl (fun s m => s.putBoth (SECT.RUN_RESET (s.sect m).home m) reset) s
  let s := if reset = 1 ∧ resets then { s with fabric := s.fabric.resetFlipFlops (s.sect n).tiles (s.livePlane n) } else s
  if !moves then s else if live = 1 then s.turnWake n else s.turnSleep n

/-- Every Held section whose hold bits are all clear is released; one that would be Live first meets R127 (R170). -/
def Stack.releaseHeld (s : Stack) : Stack :=
  (s.sectionNumbers.filter fun n => s.stateIn n [.held] && (s.sect n).hold == 0).foldl (fun s n =>
    let s := s.releaseSection n
    if (s.sect n).seq = .wake 1 then
      let s := s.detour false n
      if s.detourPending (s.rootOf n) && (s.sect n).seq == .wake 1 then s.modSect n fun x => { x with seq := .wake 0 } else s
    else s) s

/-! ## Application: clocks (R487 to R489) -/

/-- The selection of domain d applies: the multiplexer switches, or hangs when the old or the new clock has stopped; a hang lasts through
later turns, and a forced domain stays stopped without one until a running source is selected (R488, R489, R491). -/
def Stack.applySource (s : Stack) (d : Nat) : Stack :=
  let old := s.domainPll d; let new := pllOf d (s.get (CLK.SRC_SEL d).staged)
  let s := (s.put (CLK.SRC_SEL d) (s.get (CLK.SRC_SEL d).staged)).put (CLK.SRC_DIV d) (s.get (CLK.SRC_DIV d).staged)
  let connected := (s.put (CLK.SRC_STAT_SEL d) (s.get (CLK.SRC_SEL d))).put (CLK.SRC_STAT_DIV d) (s.get (CLK.SRC_DIV d))
  if s.flag (CLK.SRC_STAT_HUNG d) then s
  else if s.clk.forced.contains d then
    if s.pllGives new then { connected with clk := { s.clk with forced := s.clk.forced.filter (· != d) } } else connected
  else if s.pllGives old && s.pllGives new then connected
  else ((s.put (CLK.SRC_STAT_HUNG d) 1).put (CLK.SRC_STAT_SWITCHING d) 1).raise CLK.INT_HUNG

/-- The configuration of user PLL n applies: it is idle until it locks again (R487, R490). -/
def Stack.applyPll (s : Stack) (n : Nat) : Stack :=
  let s := s.setRunning (0x20 + n) false
  { s with clk := { s.clk with
      pllLocked := s.clk.pllLocked.filter (· != n)
      pllIdle := if s.clk.pllIdle.contains n then s.clk.pllIdle else s.clk.pllIdle ++ [n] } }

/-! ## Application: keys (R421, R422, R453) -/

/-- The link key of KEYATTR a has changed from slot `old`: the previous slot is kept, and the links that use it change their key phase
(R422, R453). -/
def Stack.applyLinkKey (s : Stack) (a : Nat) (valid : Bool) (old : Nat) : Stack :=
  let s : Stack := if valid then
      { s with keys := { s.keys with previous := (s.keys.previous.filter fun e => e.1 != a) ++ [(a, old)] } }
    else s
  (List.range s.build.laces).foldl (fun s k =>
    if s.get (LANE.LACE_KEY_ATTR k) = a ∨ s.get (LANE.LACE_KEY_GATTR k) = a then
      let x := s.lace k
      s.setLace k { x with kp := !x.kp, encStop := false }
    else s) s

/-! ## Application of a turn set (R234, R245) -/

/-- The live copies of a register take its staged copies (R234). -/
def Stack.copyItem (s : Stack) (i : Item) : Stack :=
  (stagedFields i.1 i.2).foldl (fun s f => let g := f.field i.1 i.2; s.put g (s.get g.staged)) s

/-- A receive entry changes: a line in progress is given up if QUEUE, FORMAT, KIND or VALID changes (R468). -/
def Stack.entryChanged (s t : Stack) (q e : Nat) : Stack :=
  let w2 := fun (x : Stack) => x.word (MPORT.RXENTW2 q e); let w3 := fun (x : Stack) => x.word (MPORT.RXENTW3 q e)
  if bits (w2 s) 16 16 ≠ bits (w2 t) 16 16 ∨ bits (w3 s) 0 5 ≠ bits (w3 t) 0 5 then t.flowChanged (1024 * q + e) else t

/-- A store ring that a turn changes starts anew (R474). -/
def Stack.ringChanged (s : Stack) (q n : Nat) : Stack := s.setMport q { s.mport q with rings := mapErase (s.mport q).rings n }

/-- One item of a firmware turn applies (R234, R245): timetables and channel maps wait for their epoch boundary. -/
def Stack.applyItem (s : Stack) (i : Item) : Stack :=
  let b := i.1; let off := i.2
  if 0x40 ≤ b ∧ b < 0x48 then
    if off < 0x2000 then
      let r := (off - 0x1000) / 4
      s.applyPage r (s.get (SECT.PAGE_SEL_PLANE (b - 0x40) r).staged) false
    else s.applyRun (b - 0x40) ((off - 0x6000) / 4)
  else if b = 3 then { s with turn := { s.turn with ttPending := true, ttVariant := Option.none } }
  else if b = 9 ∧ 0x700 ≤ off then { s with turn := { s.turn with chmapPending := true } }
  else if b = 0xA ∧ off < 0x600 then s.applySource ((off - 0x400) / 4)
  else if b = 0xA then (s.copyItem i).applyPll ((off - 0x600) / 8)
  else if b = 8 ∧ off < 0x200 then
    let k := (off - 0x100) / 16
    let was := s.flag (KEYS.REGIONW0_VALID k)
    let t := [0, 4, 8].foldl (fun t w => t.copyItem (8, 0x100 + 16 * k + w)) s
    t.applyRegion k was
  else if b = 8 then
    let a := (off - 0x300) / 4
    (s.copyItem i).applyLinkKey a (s.flag (KEYS.LINK_SEL_VALID a)) (s.get (KEYS.LINK_SEL_SLOT a))
  else if 0x20 ≤ b ∧ b < 0x28 then
    let t := s.copyItem i
    if 0x4000 ≤ off ∧ off < 0x6000 then s.entryChanged t (b - 0x20) ((off - 0x4000) / 16)
    else if 0x600 ≤ off ∧ off < 0x700 then t.ringChanged (b - 0x20) ((off - 0x600) / 16)
    else t
  else s.copyItem i

/-- The override of R33 ends at the first turn that applies: outputs take their live functions; in Workshop pins float again (R33, R614). -/
def Stack.endOverride (s : Stack) : Stack :=
  if s.sys.overrideUntilTurn then
    { s with sys := { s.sys with overrideUntilTurn := false, outputs := if s.mode = .workshop then .float else .live } }
  else s

/-- Outputs to safe state; pins that float in a Dusk from Workshop stay so, but those of Workshop itself take the safe state of a recovery (R27,
R29, R249, R614). -/
def Stack.safeOutputs (s : Stack) : Stack :=
  { s with sys := { s.sys with outputs := if s.sys.outputs = .float ∧ s.mode ≠ .workshop then .float else .safe, overrideUntilTurn := false } }

/-- A stop turn: RUN.LIVE of every section 0 in both copies, the sections Asleep, outputs safe (R29, R34, R249). -/
def Stack.applyStop (s : Stack) : Stack :=
  let s := s.sectionNumbers.foldl (fun s n => s.putBoth (SECT.RUN_LIVE (s.sect n).home n) 0) s
  let s := (s.modSects s.sectionNumbers fun x =>
    match x.state with
    | .live => { x with state := .asleep, seq := .idle }
    | .asleep => { x with seq := .idle }
    | .capturing => { x with sleepPending := true }
    | _ => x).drainBypass
  (s.sectionNumbers.foldl Stack.cmdDone s).safeOutputs.enginesStop

/-- The safe-output turn of a stack recovery: steps 1 to 4 of R614 begin. -/
def Stack.applySafe (s : Stack) : Stack :=
  let s := s.safeOutputs
  if s.stackRecovery.isNone || s.mode == .haven then s
  else
    let s := ((List.range s.build.layers).foldl (fun s i => s.captureCopied i) s).finishTests
    ((s.holdForRecovery s.sectionNumbers).reinitHeld s.sectionNumbers).startRelease true

/-- A device turn applies: memory-mode contents are copied up to the repair edge (R230), and a detour turn completes its replacement (R127). -/
def Stack.applyDevice (s : Stack) (d : DevTurn) : Stack :=
  match d with
  | .repair r p => (s.copyTables r p).applyPage r p true
  | .detour r p => (s.applyPage r p false).detourTurned r (s.livePlane r)
  | .stopSiesta | .stopDusk | .stopCritical => s.applyStop
  | .safeOutput => s.applySafe
  | .degraded v => { s with turn := { s.turn with ttPending := true, ttVariant := some v } }
  | .switchOver => s

/-- Every item of the armed turn applies, Held sections whose hold bits are clear are released, and the override of R33 ends; captures whose edge
has moved here are taken first, and bridge groups take their phases last (R33, R117, R149, R170, R234, R244, R245). -/
def Stack.applyTurn (s : Stack) : Stack :=
  let l := s.turnItems; let was := s
  let s := ({ s with turn := { s.turn with examined := false } } : Stack).captureAtTurn
  (match s.turn.dev with
  | Option.none => ((l.foldl Stack.applyItem s).releaseHeld).endOverride
  | some d => ((s.endOverride).applyDevice d).releaseHeld).takePhases was

/-- The turn instant of a stack's armed turn: its items apply, pins and their conflicts follow, and a switch-over changes the active
stack (R245 to R247, R558, R576). -/
def State.turnApply (k : Side) (s : State) : State :=
  let t := s.stack k
  if t.stage ≠ 3 ∨ !t.turn.examined then s
  else
    let sw := t.turn.dev == some .switchOver
    let s := s.onStackFault k fun t => (t.reach t.turn.instant).applyTurn
    let s := if sw then s.switchOver k else s
    let s := if !s.mirror then s.loseSync.closeWindow.setHeld Option.none else s
    (s.syncConflicts .recto).syncConflicts .verso

/-! ## The end of a turn (R237, R238, R252) -/

/-- The last item has applied: SEQ.LIVE, RESULT and the counts are written, APPLIED is raised, the stage is Idle (R237, R238, R252). -/
def Stack.turnApplied (s : Stack) : Stack :=
  if s.stage ≠ 3 ∨ s.turn.examined ∨ s.turn.ttPending ∨ s.turn.chmapPending then s
  else
    let t := ((((s.turnResult 0 0).put TURN.SEQ_LIVE s.turn.num).bumpWrap TURN.COUNT_APPLIED).raise TURN.INT_APPLIED).turnIdle
    { t with
      turn := { t.turn with thisSecond := t.turn.thisSecond + 1 }
      therm := { t.therm with turns := t.therm.turns + 1 } }

/-- A whole second of device time ends: LAST_S takes its turns, and RATE is set above 120 (R252). -/
def Stack.turnSecond (s : Stack) : Stack :=
  let n := s.turn.thisSecond
  let t := s.put TURN.RATE_LAST_S (Nat.min n 255)
  let t := if 120 < n then t.put TURN.STATUS_RATE 1 else t
  { t with turn := { t.turn with thisSecond := 0 } }

/-- ARM (R235): TURN.ARM.GO arms a turn, fixes the turn set and numbers it, or refuses the arm. -/
def execArm (k : Side) (s : State) : Host.Outcome State Fault Refusal := nextSide s k (State.arm k)

/-- CANCEL (R248): TURN.ARM.CANCEL fails a firmware turn with CANCELLED unless it lies within 10 µs of its instant. -/
def execCancel (k : Side) (s : State) : Host.Outcome State Fault Refusal := nextSide s k fun s => s.onTurn k Stack.cancel

/-- TURN_CHECK_COMPLETE (R241): The turn check completes; the turn becomes Pending with its instant fixed, or fails with a reason. -/
def execTurnCheckComplete (k : Side) (s : State) : Host.Outcome State Fault Refusal := nextSide s k fun s => s.checkComplete k

/-- LAST_EXAMINATION (R244): 20 ns before the turn instant, the turn's conditions are examined a last time and the turn applies or fails.
-/
def execLastExamination (k : Side) (s : State) : Host.Outcome State Fault Refusal := nextSide s k fun s => s.lastExamination k

/-- TURN_APPLY (R245): At the turn instant, each item applies at its own edge and the turn is Applying. -/
def execTurnApply (k : Side) (s : State) : Host.Outcome State Fault Refusal := nextSide s k fun s => s.turnApply k

/-- TURN_APPLIED (R238): The last item of a turn has applied; SEQ.LIVE is written and the turn returns to Idle. -/
def execTurnApplied (k : Side) (s : State) : Host.Outcome State Fault Refusal := nextStack s k Stack.turnApplied

/-- DEVICE_TURN_ARM (R249): A waiting device turn arms when the stage is Idle, or pre-empts an armed turn. -/
def execDeviceTurnArm (k : Side) (s : State) : Host.Outcome State Fault Refusal := nextSide s k fun s => s.onTurn k Stack.armWaiting

/-- TURN_RATE_SECOND (R252): A whole second of device time ends; the turns applied are counted and RATE is set above 120. -/
def execTurnRateSecond (k : Side) (s : State) : Host.Outcome State Fault Refusal := nextStack s k Stack.turnSecond

end Sys2Proof.Machine
end

