-- ==== Sys2Proof/Machine/RegRead.lean ====
section
/-! DEFINITION. What a read of each register returns: stored fields by their types, and the registers that report other state (R4 to R6). -/

namespace Sys2Proof.Machine

/-- Whether a listed register belongs to something that the stack lacks, so that it reads 0 and ignores writes (R4, log 61). -/
def Stack.regAbsent (s : Stack) (block off : Nat) : Bool :=
  let b := s.build
  let pair := b == .atlas && s.side == .recto
  let beyond := fun (lo hi stride n : Nat) => lo ≤ off && decide (off < hi) && decide (n ≤ (off - lo) / stride)
  match block with
  | 0x2 => beyond 0x54 0x64 4 b.layers
  | 0x3 => beyond 0x1000 0x1280 128 (b.layers + 1) || beyond 0x1400 0x1680 128 (b.layers + 1)
  | 0x4 => beyond 0x10 0x20 4 b.layers || beyond 0x20 0x40 8 b.layers || beyond 0x40 0x50 4 b.layers
  | 0x6 => beyond 0x100 0x110 4 b.layers
  | 0xA => beyond 0x440 0x4C0 32 b.layers || beyond 0x1040 0x10C0 32 b.layers || beyond 0x1140 0x11C0 32 b.layers ||
      beyond 0x600 0x680 32 b.layers
  | 0xB =>
    let die := fun (lo n : Nat) => lo ≤ off && decide (off < lo + 4 * n) && !(s.dies.contains ((off - lo) / 4))
    die 0 11 || die 0x40 11 || die 0xA0 11 || beyond 0xE0 0xF0 4 b.layers
  | 0xC => beyond 0x10 0x20 4 b.layers || beyond 0x100 0x140 16 b.layers
  | 0xD =>
    beyond 0x1000 0x1180 4 b.pins || beyond 0x4000 0x4180 64 b.pinBanks || beyond 0xA0 0xB8 4 (if off < 0xB0 then b.pinBanks else 6) ||
      (!pair && ((0xD0 ≤ off && off < 0xE8) || (0x120 ≤ off && off < 0x138) || (0x100 ≤ off && off < 0x110) ||
        (0x200 ≤ off && off < 0x300) || (0x3000 ≤ off && off < 0x3300)))
  | _ => false

/-! ## Pieces of a word -/

/-- A register word from values and the lowest bits of their fields. -/
def packed (l : List (Nat × Nat)) : Nat := l.foldl (fun a p => a + p.2 * 2 ^ p.1) 0

/-- A word with bit i set where a test holds. -/
def maskWord (p : Nat → Bool) : Nat := (List.range 32).foldl (fun a i => if p i then a + 2 ^ i else a) 0

/-- The stored fields of a register: a WO field reads 0 (R6). -/
def Stack.storedWord (s : Stack) (block off : Nat) (staged : Bool) (r : RegRow) : Nat :=
  packed (r.fields.map fun f =>
    let g := f.field block off
    (f.lo, if staged then (if f.ty = .st then s.get g.staged else 0) else if f.ty = .wo then 0 else s.get g))

/-! ## Sections and pages (R157, R158, R191 to R197) -/

/-- PLANE_STAT and PLANE_SRC of the selected section (R157, R158). -/
def Stack.planeRegs (s : Stack) (i : Nat) : Nat × Nat :=
  let n := s.get (SECT.PG_CMD_SECTION i)
  let r := s.rootOf n
  if !(s.homed i n) && !(s.homed i r) then (0xFFFF, 0x1F1F1F1F)
  else
    let empty := (s.sect r).state == .empty
    let writing := s.loadPlanes r
    let st := fun p => if empty then PlaneStatus.free else if writing.contains p then .staging else (s.plane r p).status
    let ps := List.range 4
    (packed (ps.map fun p => (4 * p, (st p).code)) + packed [(16, if empty then 0 else s.livePlane r)] +
        packed (ps.map fun p => (18 + p, b2n (st p == .free))) + packed (ps.map fun p => (22 + p, b2n (st p == .staged))),
      packed (ps.map fun p => (8 * p, if empty then 0x1F else (s.plane r p).src)))

/-- One word of DESC (R195). -/
def Section.descWord (x : Section) (w : Nat) : Nat :=
  if x.state = .none then 0
  else match w with
    | 0 => packed [(0, x.col0), (8, x.cols), (16, x.row0), (24, x.rows), (31, 1)]
    | 1 => packed [(0, x.layerLo), (4, x.layerCnt), (8, x.parent), (18, b2n x.root), (20, x.turnDom)]
    | 2 => packed [(0, x.image), (16, x.depth)]
    | _ => packed [(0, x.hingeBase), (16, x.hingeCnt)]

/-- STATE of a section (R197). -/
def Stack.stateWord (s : Stack) (n : Nat) : Nat :=
  let x := s.sect n
  if x.state = .none then 0
  else
    packed [(0, x.state.code), (4, b2n ((s.family n).any fun m => m != n && (s.sect m).state != x.state)),
      (5, b2n (s.flag (SECT.RUN_RESET (x.home) n) || x.resetPulse)), (6, b2n x.bypass), (7, b2n x.hingesHold), (8, x.hold)]

/-- Registers of SECT_ii that report other state (R157, R158, R192, R195, R197). A register of a section homed elsewhere reads 0. -/
def Stack.sectRead (s : Stack) (i off : Nat) : Option Nat :=
  if off = 0x408 then some (s.planeRegs i).1
  else if off = 0x40C then some (s.planeRegs i).2
  else if off = 8 then some (packed [(0, (s.sectionNumbers.filter (s.homed i ·)).length), (16, 1024 - s.sectionNumbers.length)])
  else if off = 0x14 then
    let a := s.get (SECT.HINGE_ADDR_ADDR i)
    some (if a < 39600 then mapGet 0 s.fabric.hinges (i * 65536 + a) else 0)
  else if 0x2000 ≤ off ∧ off < 0x6000 then
    let n := (off - 0x2000) / 16
    some (if s.homed i n then (s.sect n).descWord (off / 4 % 4) else 0)
  else if 0x7000 ≤ off ∧ off < 0x8000 then
    let n := (off - 0x7000) / 4
    some (if s.homed i n then s.stateWord n else 0)
  else Option.none

/-- The register that PAGE_SEL_nnnn or RUN_nnnn of an instance stands for, live offset: PAGE_SEL of a non-root section is its root's, and
none for a section not homed there (R154, R166, R196). -/
def Stack.sectTarget (s : Stack) (i off : Nat) : Option Nat :=
  if 0x1000 ≤ off ∧ off < 0x2000 then
    let n := (off - 0x1000) / 4
    let r := s.rootOf n
    if (s.sect n).state = .none ∨ s.homed i r = false then Option.none else some (0x1000 + 4 * r)
  else if 0x6000 ≤ off ∧ off < 0x7000 then
    if s.homed i ((off - 0x6000) / 4) then some off else Option.none
  else some off

/-! ## Blocks of the base die -/

/-- SYS registers that report other state (R551). -/
def Stack.sysRead (s : Stack) (off : Nat) : Option Nat :=
  let code : Mode → Nat
    | .off => 0 | .vigil => 1 | .dawn => 2 | .day => 3 | .siesta => 4 | .workshop => 5 | .dusk => 6 | .haven => 7
  match off with
  | 0 => some (packed [(0, match s.build with | .octavo => 0 | .quarto => 1 | .atlas => 2), (2, b2n (s.side == .verso)),
      (8, Config.revision % 256)])
  | 4 => some (packed [(0, code s.mode), (4, s.get SYS.MODE_BUSY), (5, s.get SYS.MODE_REFUSED), (8, s.get SYS.MODE_REFUSE_CAUSE)])
  | _ => Option.none

/-- TURN.ITEMS: the size of the armed firmware turn's set as it is now (R233, R241). -/
def Stack.turnRead (s : Stack) (off : Nat) : Option Nat := if off = 0x2C then some (s.countItems.get TURN.ITEMS_COUNT) else Option.none

/-- LOAD registers that report the colophon directory (R215, R231). -/
def Stack.loadRead (s : Stack) (off : Nat) : Option Nat :=
  let e := s.dirEntry (s.get LOAD.DIR_SEL_IMAGE)
  match off with
  | 0x74 => some (packed [(0, e.state), (16, e.first)])
  | 0x78 => some e.len
  | 0x7C => some e.crc
  | 0x80 => some (65024 - s.loader.dir.foldl (fun a p => if p.2.state = 0 then a else a + dirBlocks p.2.len) 0)
  | _ => Option.none

/-- RING registers that report other state: the slot, the tokens, the window (R323, R327, R338). -/
def Stack.ringRead' (s : Stack) (off : Nat) : Option Nat :=
  if off = 4 then some (s.clk.up * 2 % 4096)
  else if off = 0x204 then some (if s.flag RING.WIN_ADDR_LIVE then s.ttLiveWord (s.get RING.WIN_ADDR_ADDR) else s.ttWord s.rings.staged (s.get RING.WIN_ADDR_ADDR))
  else if 0x300 ≤ off ∧ off < 0x350 ∧ off % 8 = 4 then
    let r := (off - 0x300) / 8
    some (packed [(0, Nat.min (mapGet 0 s.rings.tokens r / 16) 65535), (16, s.get (RING.REG_STAT_WAITS r))])
  else Option.none

/-- CODE registers that report the error logs and the vertical links (R371, R386, R388). -/
def Stack.codeRead (s : Stack) (off : Nat) : Option Nat :=
  let l := if s.flag CODE.LOG_SEL_UE then s.integ.ueLog else s.integ.ceLog
  let e := l[s.get CODE.LOG_SEL_ENTRY]?
  let of := fun (f : LogEntry → Nat) => some ((e.map f).getD 0)
  let link := s.get CODE.VLINK_SEL_LINK
  let v := s.vlink link
  let count := fun n => ((s.integ.vlinks.filter fun p => p.2.state == n).length)
  match off with
  | 0x84 => some (packed [(0, s.integ.ceLog.length), (5, s.get CODE.LOG_STATUS_CE_OVERFLOW), (8, s.integ.ueLog.length),
      (13, s.get CODE.LOG_STATUS_UE_OVERFLOW), (14, s.get CODE.LOG_STATUS_DROPPED)])
  | 0x90 => of fun e => packed [(0, e.source), (4, e.symbol), (16, e.count)]
  | 0x94 => of fun e => e.loc % 2 ^ 32
  | 0x98 => of fun e => e.loc / 2 ^ 32 % 2 ^ 16
  | 0x9C => of fun e => e.first % 2 ^ 32
  | 0x204 =>
    some (if s.build.links.contains link then
        packed [(0, v.state), (2, (v.spares.filter (· == 0xFF)).length), (6, if v.unspared = 0xFF then 0x3F else v.unspared), (16, v.ce)]
      else packed [(0, 3), (6, 0x3F)])
  | 0x208 => some (packed [(0, count 1), (16, count 2)])
  | _ => Option.none

/-- KEYS registers that report slots, entries and quarantined ranges (R415, R423, R425). -/
def Stack.keysRead (s : Stack) (off : Nat) : Option Nat :=
  let q := s.keys.quar[s.get KEYS.QUAR_SEL_ENTRY]?
  let of := fun (f : Quar → Nat) => some ((q.map f).getD 0)
  match off with
  | 0x40 => some (maskWord fun n => (s.slotKey n).isSome)
  | 0x44 => some (maskWord s.slotInUse)
  | 0x48 => some (b2n (s.zoneKey 0).isSome)
  | 0x4C => some (maskWord fun n => (s.zoneKey (n + 1)).isSome)
  | 0x504 => of fun q => packed [(0, q.region), (4, q.level), (31, 1)]
  | 0x508 => of fun q => q.loc % 2 ^ 32
  | 0x50C => of fun q => q.loc / 2 ^ 32 % 2 ^ 12
  | 0x510 => of fun q => q.blocks
  | 0x514 => some (packed [(0, s.keys.quar.length), (8, s.get KEYS.QUAR_COUNT_OVERFLOW)])
  | _ => Option.none

/-- CLK registers that report time and rasters (R493, R499, R503). -/
def Stack.clkRead (s : Stack) (off : Nat) : Option Nat :=
  if off = 0x30 then some (s.time % 1000000000)
  else if off = 0x34 then some (s.clk.latched % 2 ^ 32)
  else if off = 0x38 then some (s.clk.latched / 2 ^ 32 % 2 ^ 16)
  else if 0x2000 ≤ off ∧ off < 0x2080 ∧ off % 32 = 0x10 then some (s.rasterFrame ((off - 0x2000) / 32))
  else if 0x2000 ≤ off ∧ off < 0x2080 ∧ off % 32 = 0x14 then
    let p := s.rasterPos ((off - 0x2000) / 32)
    some (packed [(0, p.1), (16, p.2)])
  else Option.none

/-- The reading of the selected sensor (R512, R514, R534). -/
def Stack.thermRead (s : Stack) (off : Nat) : Option Nat :=
  let n := s.get THERM.SENS_SEL_SENSOR
  if off = 0x84 then some (packed [(0, mapGet 0 s.therm.sensors n % 4096), (31, b2n (s.therm.failed.contains n))]) else Option.none

/-- POWER.RAIL: the measured voltage and current, which the spec does not state: a free value (R533, log 2). -/
def Stack.powerRead (s : Stack) (off : Nat) : Option Nat :=
  if 0x100 ≤ off ∧ off < 0x140 then some (packed [(0, s.freeNat % 4096), (16, s.freeNat / 4096 % 4096)]) else Option.none

/-- COMN.CONFLICT: how often bank accesses waited, which no command's effect depends on: a free value (R354, R363, log 33). -/
def Stack.comnRead (s : Stack) (off : Nat) : Option Nat := if off = 0x30 then some s.freeNat else Option.none

/-- LEDGER registers that report the addressed record (R526, R535). -/
def Stack.ledgerRead (s : Stack) (off : Nat) : Option Nat :=
  let t := s.get LEDGER.SEL_TYPE
  let b := s.readBank t
  match off with
  | 4 => some (packed [(0, b2n ((s.bank t 0).valid s.build t)), (1, b2n ((s.bank t 1).valid s.build t)), (2, b.getD 0)])
  | 8 => some ((b.map fun i => (s.bank t i).seq).getD 0)
  | 0xC => some ((b.map fun i => (s.bank t i).length).getD 0)
  | 0x14 => some (mapGet 0 (s.recordBody t) (s.get LEDGER.WIN_ADDR_WORD))
  | _ => Option.none

/-- Lanes and links of the build (R426, R455). -/
def Stack.laneRead (s : Stack) (off : Nat) : Option Nat :=
  if off = 0 then some (packed [(0, s.build.lanes), (8, s.build.laces)]) else Option.none

/-- MPORT registers that report flow counters and the host receive buffer (R461, R479). -/
def Stack.mportRead (s : Stack) (q off : Nat) : Option Nat :=
  let e := s.get (MPORT.FSEL_ENTRY q)
  let tx := s.flag (MPORT.FSEL_TX q)
  let r := s.rxFlow (1024 * q + e); let t := s.txFlow q e
  let words := (s.mport q).hrx.foldl (fun a f => a + f.length) 0
  match off with
  | 0x44 => some (if tx then t.pkts else r.pkts)
  | 0x48 => some (if tx then t.lost else r.lost)
  | 0x4C => some (if tx then 0 else r.dup)
  | 0x50 => some (if tx then t.drop else r.drop)
  | 0x100 => some (packed [(0, Nat.min words 8191), (16, b2n (words != 0))])
  | 0x104 => some (((s.mport q).hrx.headD []).headD 0)
  | _ => Option.none

/-- FE registers that report an engine (R278, R282). -/
def Stack.feRead (s : Stack) (i off : Nat) : Option Nat :=
  if 0x1000 ≤ off ∧ off < 0x2800 then
    let e := s.engine i ((off - 0x1000) / 32)
    let b := e.bank e.shadow
    let level := fun k => packed ((List.range 4).map fun p => (8 * p, (e.fifo (k + p)).length))
    match off % 32 with
    | 0 => some (packed [(0, e.st), (3, b2n e.shadow), (4, b.levels.length % 4), (6, e.stall % 4), (8, b.pc % 4096)])
    | 0x14 => some (level 0)
    | 0x18 => some (level 4)
    | _ => Option.none
  else Option.none

/-! ## Pins (R559, R562, R564, R565, R570) -/

/-- PINS registers that report other state (R553, R559, R570, R571, R575). -/
def State.pinsRead (s : State) (k : Side) (off : Nat) : Option Nat :=
  let t := s.stack k
  let word := fun (base : Nat) (p : Nat → Bool) =>
    some (maskWord fun i => decide (8 * (off - base) + i < t.build.pins) && p (8 * (off - base) + i))
  let head := t.pins.ts.headD (0, 0, 0)
  let held := t.pins.ts != []
  if off = 0 then some (packed [(0, t.build.pins), (8, t.build.pinBanks)])
  else if 0x40 ≤ off ∧ off < 0x4C then word 0x40 fun n => s.padLevel k n (bit t.freeNat (n % 32))
  else if 0x50 ≤ off ∧ off < 0x5C then
    word 0x50 fun n => t.get (PINS.PIN_FUNC n) == 5 && bit (t.get (PINS.TALLY_TALLY (n / 32))) (n % 32)
  else if 0xA0 ≤ off ∧ off < 0xB8 ∧ off < 0xB0 then some (packed [(0, t.freeNat % 4), (2, bits (t.get POWER.SUPPLY_OK_OK) (6 + (off - 0xA0) / 4) 1)])
  else if off = 0xB0 then some (packed [(0, if held then head.1 else 0), (8, head.2.1), (16, t.pins.ts.length)])
  else if off = 0xB4 then some (head.2.2 % 1000000000)
  else if off = 0xB8 then some (head.2.2 / 1000000000 % 2 ^ 32)
  else if off = 0xBC then some (head.2.2 / 1000000000 / 2 ^ 32 % 2 ^ 16)
  else if off = 0x104 then
    some (packed [(0, t.get PINS.PAIR_MODE), (1, t.get PINS.PAIR_ACTIVE), (2, t.get PINS.PAIR_STAT_SYNC_R * t.get PINS.PAIR_ACTIVE),
      (3, t.get PINS.PAIR_STAT_SYNC_V * (1 - t.get PINS.PAIR_ACTIVE)),
      (4, t.get PINS.PAIR_STAT_WINDOW), (5, b2n (t.laceState 4 == 2))])
  else if 0x4000 ≤ off ∧ off < 0x4180 ∧ off % 64 = 0x14 then
    match (t.periph ((off - 0x4000) / 64)).rx with
    | [] => some 0
    | v :: _ => some (256 + v)
  else Option.none

/-! ## Any register -/

/-- A register that reports other state than stored fields. -/
def State.derivedWord (s : State) (k : Side) (block off : Nat) : Option Nat :=
  let t := s.stack k
  if block < 0x20 then
    match block with
    | 0x0 => t.sysRead off
    | 0x1 => t.turnRead off
    | 0x2 => t.loadRead off
    | 0x3 => t.ringRead' off
    | 0x5 => t.comnRead off
    | 0x6 => t.codeRead off
    | 0x8 => t.keysRead off
    | 0x9 => t.laneRead off
    | 0xA => t.clkRead off
    | 0xB => t.thermRead off
    | 0xC => t.powerRead off
    | 0xD => s.pinsRead k off
    | 0x10 => t.ledgerRead off
    | _ => Option.none
  else if block < 0x40 then t.mportRead (block - 0x20) off
  else if block < 0x50 then t.sectRead (block - 0x40) off
  else t.feRead (block - 0x50) off

/-- The word at an offset of a block, live or staged; none where no register stands, which is answered ERROR (R4, R6). -/
def State.regWord (s : State) (k : Side) (block off : Nat) : Option Nat :=
  let t := s.stack k
  match t.build.regRow block off with
  | Option.none => Option.none
  | some r =>
    let o := liveOffset off
    if t.regAbsent block o.1 then some 0
    else
      let sect := 0x40 ≤ block && block < 0x50
      match (if sect then t.sectTarget (block - 0x40) o.1 else some o.1) with
      | Option.none => some 0
      | some lo =>
        if o.2 then some (t.storedWord block lo true r)
        else match s.derivedWord k block lo with
          | some v => some v
          | Option.none =>
            let v := t.storedWord block lo false r
            if block = 0xD ∧ 0x4000 ≤ lo ∧ lo < 0x4180 ∧ lo % 64 = 0x24 then
              some (v + packed [(16, b2n (t.ltcValid ((lo - 0x4000) / 64)))])
            else some v

end Sys2Proof.Machine
end

