-- ==== Sys2Proof/Machine/Host.lean ====
section
/-! DEFINITION. The host interface: host accesses, register windows, the fence and the message vectors (R536 to R549). -/

namespace Sys2Proof.Machine

/-! ## Writes by type (R6) -/

/-- A write to the live register at an offset by its fields' types: RW fields take the value, W1C bits written 1 clear, all others ignore
the write (R6). -/
def Stack.plainWrite (s : Stack) (block off v : Nat) : Stack :=
  match regAt block off with
  | Option.none => s
  | some r => r.fields.foldl (fun s f =>
      let g := f.field block off
      match f.ty with
      | .rw => s.put g (bits v f.lo f.width)
      | .w1c => s.put g (s.get g - (s.get g &&& bits v f.lo f.width))
      | _ => s) s

/-! ## Message vectors (R548, R549) -/

/-- Whether an interrupt line is high: an INT bit with its INT_EN bit (R193, R338, R551). -/
def Stack.intLine (s : Stack) (block int en : Nat) : Bool :=
  let word := fun (off : Nat) => match regAt block off with
    | some r => s.storedWord block off false r
    | Option.none => 0
  (word int &&& word en : Nat) != 0

/-- The line of a source of R548's table, by the vector of the only stack or recto. COMN has no interrupt. -/
def Stack.sourceLine (s : Stack) (v : Nat) : Bool :=
  match v with
  | 0 => s.intLine 0x0 0x20 0x24
  | 1 => s.intLine 0x1 0x38 0x3C
  | 2 => s.flag LOAD.CHK_INFO_VALID
  | 3 => s.intLine 0x3 0x50 0x54
  | 4 => s.intLine 0x4 0x50 0x54
  | 6 => s.intLine 0x6 0x400 0x404
  | 7 => bit (s.get DMA.INT_EN_EN) 0 && s.flag DMA.DONE_PEND_PEND
  | 8 => bit (s.get DMA.INT_EN_EN) 1 && s.flag DMA.ERR_PEND_PEND
  | 9 => bit (s.get DMA.INT_EN_EN) 2 && s.flag DMA.HALT_PEND_PEND
  | 10 => s.intLine 0x8 0x700 0x704
  | 11 => s.intLine 0x9 0x10 0x14
  | 12 => s.intLine 0xA 0x3100 0x3104
  | 13 => s.intLine 0xB 0x110 0x114
  | 14 => s.intLine 0xC 0x300 0x304
  | 15 => s.intLine 0xF 0x30 0x34
  | 16 => s.intLine 0xE 0x230 0x234
  | _ =>
    if 20 ≤ v ∧ v < 20 + s.build.layers then s.intLine (0x40 + (v - 20)) 0x18 0x1C
    else if 24 ≤ v ∧ v < 24 + 3 * s.build.layers then
      let i := (v - 24) / 3
      let pend := fun (f : Nat → Field) => (List.range 6).any fun w => s.flag (f w)
      match (v - 24) % 3 with
      | 0 => s.flag (FE.INT_EN_TRAP i) && pend (FE.TRAP_PEND_PEND i)
      | 1 => s.flag (FE.INT_EN_SIGNAL i) && pend (FE.SIGNAL_PEND_PEND i)
      | _ => s.flag (FE.INT_EN_HALT i) && pend (FE.HALT_PEND_PEND i)
    else if 40 ≤ v ∧ v < 40 + s.build.mports then s.intLine (0x20 + (v - 40)) 0xA00 0xA04
    else false

/-- The line that a vector of this stack's HOSTIF serves: vector v + 64 serves verso's source of vector v (R548, log 62). -/
def Stack.vectorLine (s : Stack) (v : Nat) : Bool :=
  match s.side with
  | .recto => v < 64 && s.sourceLine v
  | .verso => 64 ≤ v && v < 128 && s.sourceLine (v - 64)

/-- Whether a vector is pending. -/
def Stack.vecPending (s : Stack) (v : Nat) : Bool := bit (s.get (HOSTIF.VEC_PEND_PEND (v / 32))) (v % 32)

/-- The pending bit of a vector replaced. -/
def Stack.setVec (s : Stack) (v : Nat) (b : Bool) : Stack :=
  s.put (HOSTIF.VEC_PEND_PEND (v / 32)) (setBit (s.get (HOSTIF.VEC_PEND_PEND (v / 32))) (v % 32) b)

/-- Whether the link to the host die carries traffic (R539). -/
def Stack.linkUp (s : Stack) : Bool := s.get HOSTIF.UCIE_STAT_MODULES != 0

/-- A pending vector's message goes to its core when the vector is enabled and the link is up; else it waits (R539, R549). -/
def Stack.vecSend (s : Stack) (v : Nat) : Stack :=
  if s.flag (HOSTIF.VEC_CFG_EN v) && s.linkUp then
    ({ s with hostif := { s.hostif with unsent := s.hostif.unsent.filter (· != v) } } : Stack).answered 0 [v, s.get (HOSTIF.VEC_CFG_CORE v)]
  else if s.hostif.unsent.contains v then s
  else { s with hostif := { s.hostif with unsent := s.hostif.unsent ++ [v] } }

/-- A source raises its vector; a vector that is pending already absorbs it (R549). -/
def Stack.vecRaise (s : Stack) (v : Nat) : Stack := if s.vecPending v then s else (s.setVec v true).vecSend v

/-- The line of a block has risen (R549). -/
def Stack.lineRise (v : Nat) (s : Stack) : Stack := if s.vectorLine v then s.vecRaise v else s

/-- VEC_EOI written: the vector is no longer pending, and its message is sent again while its line is high (R549). -/
def Stack.vecEoi (v : Nat) (s : Stack) : Stack :=
  if s.vecPending v then
    let t : Stack := { s.setVec v false with hostif := { s.hostif with unsent := s.hostif.unsent.filter (· != v) } }
    t.lineRise v
  else s

/-- VEC_CFG written: a pending vector whose message waits is sent when EN is set (R549). -/
def Stack.vecCfg (v w : Nat) (s : Stack) : Stack :=
  let t := ((s.put (HOSTIF.VEC_CFG_EN v) w).put (HOSTIF.VEC_CFG_CORE v) (w / 2)).put (HOSTIF.VEC_CFG_WAKE v) (w / 8)
  if t.hostif.unsent.contains v then t.vecSend v else t

/-- An MSG packet at HOSTIF: its vector is raised, or the message is dropped and counted (R548). -/
def Stack.message (h : Header) (s : Stack) : Stack :=
  let v := h.data % 256
  if v < 128 then (s.bump HOSTIF.MSG_DROP_COUNT).raise HOSTIF.INT_MSG_DROP else s.vecRaise v

/-- Whether a vector with WAKE 1 is pending (R549). -/
def Stack.wakePending (s : Stack) : Bool := (List.range 256).any fun v => s.vecPending v && s.flag (HOSTIF.VEC_CFG_WAKE v)

/-! ## Completion and failure (R542, R546) -/

/-- Whether an access writes. -/
def HostReq.isWrite (r : HostReq) : Bool :=
  match r.kind with
  | .writeBack | .store | .regStore => true
  | .other => r.data != []
  | _ => false

/-- KIND of ERR_STATUS (R552). -/
def HostReq.errKind (r : HostReq) : Nat :=
  if r.window then 2 else if r.kind == .fetch then 3 else b2n r.isWrite

/-- A failure recorded: the first since VALID was cleared, and LOST after it (R542, R552). -/
def Stack.hostFail (s : Stack) (r : HostReq) (status : Nat) : Stack :=
  (s.eventReg HOSTIF.ERR_STATUS_VALID HOSTIF.ERR_STATUS_LOST
    [(HOSTIF.ERR_STATUS_STATUS, status), (HOSTIF.ERR_STATUS_KIND, r.errKind), (HOSTIF.ERR_STATUS_CORE, r.core),
     (HOSTIF.ERR_ADDR_LO_ADDR, r.addr), (HOSTIF.ERR_ADDR_HI_ADDR, r.addr / 2 ^ 32)]).raise HOSTIF.INT_ERR

/-- A fence read returns (R546). -/
def Stack.fenceReturn (s : Stack) (f : Fence) : Stack :=
  let n := Nat.min f.failed 65535
  ((s.put HOSTIF.FENCE_STATUS f.status).put HOSTIF.FENCE_FAILED n).answered 0 [f.status + 65536 * n]

/-- The oldest fences that wait for nothing return. -/
def fencesReady : List Fence → Stack → List Fence × Stack
  | [], s => ([], s)
  | f :: l, s => if f.wait = [] then fencesReady l (s.fenceReturn f) else (f :: l, s)

/-- A write has ended with a status: a failure counts in the fences that wait for it, or for the next fence (R546). -/
def Stack.writeEnded (s : Stack) (tag : Option Nat) (status : Nat) : Stack :=
  let mine := fun (f : Fence) => tag.any f.wait.contains
  let covered := s.hostif.fences.any mine
  let upd := fun (f : Fence) => if mine f then
      { f with
        wait := f.wait.filter fun g => some g != tag
        status := if f.status = 0 then status else f.status
        failed := f.failed + b2n (status != 0) }
    else f
  let t : Stack :=
    if covered ∨ status = 0 then s
    else { s with hostif := { s.hostif with
      fenceStatus := if s.hostif.fenceStatus = 0 then status else s.hostif.fenceStatus
      fenceFailed := s.hostif.fenceFailed + 1 } }
  let r := fencesReady (s.hostif.fences.map upd) t
  { r.2 with hostif := { r.2.hostif with fences := r.1 } }

/-- Bytes that an access takes from the 64-byte block or the register word that answers it, as a little-endian number; a line as its
bytes. -/
def HostReq.value (r : HostReq) (data : List Nat) : List Nat :=
  match r.kind with
  | .lineFill | .fetch => data
  | .regLoad => [data.headD 0]
  | _ => [ofBytes (((data.drop (r.addr % 64)).take r.size).map (BitVec.ofNat 8))]

/-- An access ends with a status and data: a failure is recorded; a failed load, fill or fetch aborts its core, a failed window read
returns 0 (R542, R545). -/
def Stack.hostDone (s : Stack) (tag : Option Nat) (r : HostReq) (status : Nat) (data : List Nat) : Stack :=
  let t := if status = 0 then s else s.hostFail r status
  if r.isWrite then (t.answered status []).writeEnded tag status
  else if status = 0 then t.answered 0 (r.value data)
  else if r.window then t.answered 0 [0]
  else t.answered status []

/-! ## Issue (R540, R541, R543) -/

/-- The register block that a location names. -/
def blockOf (loc : Nat) : Nat := loc / 0x10000 % 0x10000

/-- Whether a location lies in HOSTIF's own registers. -/
def ownLoc (loc : Nat) : Bool := targetOf loc == .regs && blockOf loc == 0xE

/-- An access to register space is a register access, whatever the kind of its row (R541). -/
def HostReq.normal (r : HostReq) : HostReq :=
  if targetOf (r.addr % 2 ^ 44) = .regs ∧ r.size = 4 then
    match r.kind with
    | .load => { r with kind := .regLoad }
    | .store => { r with kind := .regStore }
    | _ => r
  else r

/-- Whether HOSTIF accepts an access: its kind, size, alignment and target (R4, R541). -/
def HostReq.accepted (r : HostReq) : Bool :=
  let loc := r.addr % 2 ^ 44; let kid := r.addr / 2 ^ 44 % 16
  let t := targetOf loc
  match r.kind with
  | .lineFill | .writeBack | .fetch => r.addr % 64 == 0 && (t == .store || (t == .commons && kid == 0))
  | .load | .store => (r.size == 1 || r.size == 2 || r.size == 4 || r.size == 8) && r.addr % r.size == 0 && t != .regs
  | .regLoad | .regStore => r.size == 4 && r.addr % 4 == 0 && t == .regs
  | .other => false

/-- Whether the host die can reach HOSTIF: from step 6 of Dawn until step 4 of Dusk (R536, R543). -/
def Stack.hostRuns (s : Stack) : Bool :=
  s.sys.hostReleased && !(s.modeIn [.off, .vigil]) && !(s.mode == .dusk && 4 ≤ s.sys.duskStep)

/-- Whether the mode serves an access: in Siesta SYS and HOSTIF only, in Haven no store after a trip (R543). -/
def Stack.hostServes (s : Stack) (r : HostReq) : Bool :=
  let loc := r.addr % 2 ^ 44
  match s.mode with
  | .siesta => targetOf loc == .regs && (blockOf loc == 0 || blockOf loc == 0xE)
  | .haven => !(targetOf loc == .store && s.power.trip != 0)
  | _ => true

/-- The ring request of an access: a READ of the enclosing 64-byte block, a WRITE with byte enables, or a register access (R541). -/
def HostReq.header (r : HostReq) (tag : Nat) : Nat × Header :=
  let h : Header := { src := 0, tag := tag, addr := r.addr / 64 * 64 }
  match r.kind with
  | .regLoad => (5, { h with addr := r.addr })
  | .regStore => (6, { h with addr := r.addr, data := ofBytes (r.data.map (BitVec.ofNat 8)) })
  | .writeBack | .store => (2, { h with len := 1, rlen := 0, beFirst := (2 ^ r.size - 1) * 2 ^ (r.addr % 64) })
  | _ => (1, h)

/-- An access sent on the rings under the lowest free tag of interface 0, regulator 00 (R328, R540); with no tag free it waits. A request
that the interface answers itself ends at once (R308, R341). -/
def Stack.hostSend' (s : Stack) (r : HostReq) : Stack :=
  match (List.range 1024).find? fun g => (s.ringTag 0 g).st == 0 with
  | Option.none => ({ s with hostif := { s.hostif with waiting := s.hostif.waiting ++ [r] } } : Stack).answered noAnswer []
  | some g =>
    let p := r.header g
    if s.interfaceError p.1 p.2 then s.hostDone Option.none r 1 []
    else
      let t := Stack.inject p.1 p.2 0 true s
      ({ t with hostif := { t.hostif with out := mapSet [] t.hostif.out g [r] } } : Stack).answered noAnswer []

/-- An access that HOSTIF has accepted from the link: served, or answered ERROR (R541, R543). -/
def Stack.hostIssue (s : Stack) (r : HostReq) : Stack :=
  if r.accepted && s.hostServes r then s.hostSend' r else s.hostDone Option.none r 1 []

/-! ## Windows and the fence (R544 to R546) -/

/-- The device address of a window. -/
def Stack.winAddr (s : Stack) (n : Nat) : Nat :=
  (s.get (HOSTIF.WIN_ADDR_LO_ADDR n) + 2 ^ 32 * s.get (HOSTIF.WIN_ADDR_HI_ADDR n)) / 4 * 4

/-- The address advanced by 4 after an access, with AUTOINC (R544). -/
def Stack.winNext (s : Stack) (n : Nat) : Stack :=
  if s.flag (HOSTIF.WIN_ADDR_HI_AUTOINC n) then
    let a := s.winAddr n + 4
    (s.put (HOSTIF.WIN_ADDR_LO_ADDR n) a).put (HOSTIF.WIN_ADDR_HI_ADDR n) (a / 2 ^ 32)
  else s

/-- The collected writes of a window sent as one WRITE (R545). -/
def Stack.winFlush (s : Stack) (n : Nat) : Stack :=
  match mapGet [] s.hostif.windows n with
  | [] => s
  | (a, v) :: l =>
    let bytes := ((a, v) :: l).map fun p => p.2 - 1
    let r : HostReq := { kind := .store, core := mapGet 0 s.hostif.cores n, size := bytes.length, addr := a, data := bytes, window := true }
    let t : Stack := { s with hostif := { s.hostif with windows := mapSet [] s.hostif.windows n [] } }
    if t.hostServes r then t.hostSend' r else t.hostDone Option.none r 1 []

/-- A write to WIN_ADDR_LO_n or WIN_ADDR_HI_n: the collected writes go out, and the window moves (R545). -/
def Stack.winMove (n : Nat) (hi : Bool) (v : Nat) (s : Stack) : Stack :=
  let t := s.winFlush n
  if hi then (t.put (HOSTIF.WIN_ADDR_HI_ADDR n) v).put (HOSTIF.WIN_ADDR_HI_AUTOINC n) (v / 2 ^ 31)
  else t.put (HOSTIF.WIN_ADDR_LO_ADDR n) v

/-- Four bytes of a word, lowest first. -/
def wordList (v : Nat) : List Nat := [bits v 0 8, bits v 8 8, bits v 16 8, bits v 24 8]

/-- A 4-byte access, to register space or not. -/
def wordReq (core : Nat) (write reg : Bool) (addr v : Nat) : HostReq :=
  let kind : HostKind := match write, reg with
    | true, true => .regStore
    | true, false => .store
    | false, true => .regLoad
    | false, false => .load
  { kind := kind, core := core, size := 4, addr := addr, data := if write then wordList v else [] }

/-- An access to WIN_DATA_n: an access at the window's address, or a write collected with its neighbours (R544, R545). `acc` performs an
access. -/
def Stack.winAccess (acc : HostReq → Stack → Stack) (core n : Nat) (write : Bool) (v : Nat) (s : Stack) : Stack :=
  let a := s.winAddr n
  let reg := targetOf (a % 2 ^ 44) == .regs
  if write && s.flag (HOSTIF.WIN_ADDR_HI_AUTOINC n) && !reg then
    let held := mapGet [] s.hostif.windows n
    let new := ((wordList v).zipIdx).foldl (fun m p => mapInsert (a + p.2) (p.1 + 1) m) held
    let t : Stack := { s with hostif := { s.hostif with
      windows := mapSet [] s.hostif.windows n new
      cores := mapSet 0 s.hostif.cores n core } }
    let t := (t.winNext n).answered 0 []
    if t.winAddr n % 64 = 0 then t.winFlush n else t
  else
    acc { wordReq core write reg a v with window := true } ((s.winFlush n).winNext n)

/-- A read of FENCE: every window is sent, and the read returns when every write accepted before it has ended (R546). -/
def Stack.fence (s : Stack) : Stack :=
  let t := [0, 1, 2, 3].foldl Stack.winFlush s
  let wait := (t.hostif.out.filter fun e => e.2.any HostReq.isWrite).map (·.1)
  let f : Fence := { wait := wait, status := t.hostif.fenceStatus, failed := t.hostif.fenceFailed }
  let t : Stack := { t with hostif := { t.hostif with fenceStatus := 0, fenceFailed := 0 } }
  if wait = [] ∧ t.hostif.fences = [] then t.fenceReturn f
  else ({ t with hostif := { t.hostif with fences := t.hostif.fences ++ [f] } } : Stack).answered noAnswer []

/-! ## HOSTIF's own registers (R541, R552) -/

/-- A read of one of HOSTIF's registers by the host. -/
def Stack.ownRead (acc : HostReq → Stack → Stack) (r : HostReq) (s : Stack) : Stack :=
  let off := r.addr % 0x10000
  if off < 0x40 ∧ off % 16 = 8 then s.winAccess acc r.core (off / 16) false 0
  else if off = 0x100 then s.fence
  else match s.build.regRow 0xE off with
    | Option.none => s.hostDone Option.none r 1 []
    | some row => s.answered 0 [s.storedWord 0xE off false row]

/-- A write to one of HOSTIF's registers by the host. -/
def Stack.ownWrite (acc : HostReq → Stack → Stack) (r : HostReq) (v : Nat) (s : Stack) : Stack :=
  let off := r.addr % 0x10000
  let s := s.answered 0 []
  if off < 0x40 ∧ off % 16 = 8 then s.winAccess acc r.core (off / 16) true v
  else if off < 0x40 ∧ off % 16 < 8 ∧ off % 4 = 0 then s.winMove (off / 16) (off % 16 == 4) v
  else if off = 0x220 then s.vecEoi (v % 256)
  else if 0x1000 ≤ off ∧ off < 0x1400 ∧ off % 4 = 0 then s.vecCfg ((off - 0x1000) / 4) v
  else match s.build.regRow 0xE off with
    | Option.none => s.hostDone Option.none r 1 []
    | some _ => s.plainWrite 0xE off v

/-- A host access. While the link is down it waits in the host die (R539); HOSTIF serves its own registers, without the rings (R541).
`fuel` bounds a chain of windows that name windows (log 63). -/
def Stack.hostAccess : Nat → HostReq → Stack → Stack
  | 0, r, s => s.hostDone Option.none r 1 []
  | fuel + 1, r0, s =>
    let r := r0.normal
    if !s.hostRuns then s
    else if !s.linkUp || s.hostif.waiting != [] then
      ({ s with hostif := { s.hostif with waiting := s.hostif.waiting ++ [r] } } : Stack).answered noAnswer []
    else if ownLoc (r.addr % 2 ^ 44) && r.accepted then
      if r.kind = .regLoad then s.ownRead (Stack.hostAccess fuel) r
      else s.ownWrite (Stack.hostAccess fuel) r (ofBytes (r.data.map (BitVec.ofNat 8)))
    else s.hostIssue r

/-- A host access of the commands: windows may name windows three deep. -/
def Stack.hostDo (r : HostReq) (s : Stack) : Stack := s.hostAccess 4 r

/-- The accesses that wait in the host die, performed in order. -/
def Stack.hostWaiting (s : Stack) : Stack :=
  s.hostif.waiting.foldl (fun t r => t.hostDo r) { s with hostif := { s.hostif with waiting := [] } }

/-- A response or a timeout reaches HOSTIF (R542). A tag that it frees lets an access that waits go out. -/
def Stack.hostDeliver (tag status : Nat) (data : List Nat) (s : Stack) : Stack :=
  match mapGet [] s.hostif.out tag with
  | [] => s
  | r :: _ =>
    let t := ({ s with hostif := { s.hostif with out := mapSet [] s.hostif.out tag [] } } : Stack).hostDone (some tag) r status data
    if t.linkUp then t.hostWaiting else t

/-! ## UCIe (R538, R539, R574) -/

/-- A module comes up or goes down. -/
def Stack.setModule (s : Stack) (m : Nat) (up : Bool) : Stack :=
  s.put HOSTIF.UCIE_STAT_MODULES (setBit (s.get HOSTIF.UCIE_STAT_MODULES) m up)

/-- The modules of a stack: two in the Octavo and Quarto, one of an Atlas stack (R538). -/
def Build.modules (b : Build) : Nat := if b = .atlas then 1 else 2

/-- A module fails to train or retrain: the link runs on the other one, and DEGRADED is raised (R539). -/
def Stack.moduleDown (m : Nat) (s : Stack) : Stack :=
  if bit (s.get HOSTIF.UCIE_STAT_MODULES) m then
    let t := s.setModule m false
    if t.linkUp then t.raise HOSTIF.INT_DEGRADED else t
  else s

/-- A module is up again: accesses that waited are performed, and pending interrupts go out (R539). -/
def Stack.moduleUp (m rate : Nat) (s : Stack) : Stack :=
  if s.build.modules ≤ m ∨ s.hostRuns = false ∨ (s.mode = .dawn ∧ s.get SYS.DAWN_STEP < 7) then s
  else
    let t := (s.setModule m true).put HOSTIF.UCIE_STAT_RATE rate
    (t.hostif.unsent.foldl (fun t v => t.vecSend v) t).hostWaiting

/-! ## Commands -/

/-- The host access of a row of R541. -/
def hostRow (s : State) (k : Side) (r : HostReq) : Host.Outcome State Fault Refusal := nextStack s k (Stack.hostDo r)

/-- HOST_LINE_FILL (R541): A cacheable host line fill becomes a one-flit READ. -/
def execHostLineFill (k : Side) (core addr : Nat) (s : State) : Host.Outcome State Fault Refusal :=
  hostRow s k { kind := .lineFill, core := core, size := 64, addr := addr, data := [] }

/-- HOST_WRITE_BACK (R541): A host line write-back becomes a one-flit WRITE. -/
def execHostWriteBack (k : Side) (core addr : Nat) (data : List Nat) (s : State) : Host.Outcome State Fault Refusal :=
  hostRow s k { kind := .writeBack, core := core, size := 64, addr := addr, data := data }

/-- HOST_UNCACHED_LOAD (R541): An uncached host load becomes a block READ. -/
def execHostUncachedLoad (k : Side) (core size addr : Nat) (s : State) : Host.Outcome State Fault Refusal :=
  hostRow s k { kind := .load, core := core, size := size, addr := addr, data := [] }

/-- HOST_UNCACHED_STORE (R541): An uncached host store becomes a WRITE with byte enables. -/
def execHostUncachedStore (k : Side) (core addr : Nat) (data : List Nat) (s : State) : Host.Outcome State Fault Refusal :=
  hostRow s k { kind := .store, core := core, size := data.length, addr := addr, data := data }

/-- HOST_REGISTER_ACCESS (R541): A 4-byte host access to register space becomes REG_READ or REG_WRITE. -/
def execHostRegisterAccess (k : Side) (core : Nat) (write : Bool) (addr v : Nat) (s : State) : Host.Outcome State Fault Refusal :=
  hostRow s k (wordReq core write true addr v)

/-- HOST_INSTRUCTION_FETCH (R541): A host instruction fetch becomes a READ; a failure is a synchronous abort. -/
def execHostInstructionFetch (k : Side) (core addr : Nat) (s : State) : Host.Outcome State Fault Refusal :=
  hostRow s k { kind := .fetch, core := core, size := 64, addr := addr, data := [] }

/-- HOST_UNSUPPORTED_ACCESS (R541): A host access of a kind that HOSTIF does not list is answered ERROR. -/
def execHostUnsupportedAccess (k : Side) (core size addr : Nat) (data : List Nat) (s : State) : Host.Outcome State Fault Refusal :=
  hostRow s k { kind := .other, core := core, size := size, addr := addr, data := data }

/-- Device address of a register of HOSTIF (R360). -/
def ownAddr (off : Nat) : Nat := 0x00F000E0000 + off

/-- WIN_DATA_ACCESS (R544): An access to a HOSTIF window issues an access at the window address, or collects it. -/
def execWinDataAccess (k : Side) (core n : Nat) (write : Bool) (v : Nat) (s : State) : Host.Outcome State Fault Refusal :=
  execHostRegisterAccess k core write (ownAddr (16 * n + 8)) v s

/-- WIN_ADDR_WRITE (R545): A write to HOSTIF.WIN_ADDR_LO_n or WIN_ADDR_HI_n sends the window's collected writes as one WRITE and moves the
window. -/
def execWinAddrWrite (k : Side) (core n : Nat) (hi : Bool) (v : Nat) (s : State) : Host.Outcome State Fault Refusal :=
  execHostRegisterAccess k core true (ownAddr (16 * n + 4 * b2n hi)) v s

/-- WINDOW_COLLECT_TIMEOUT (R545): 1 µs passes without a window write, and the collected block is sent. -/
def execWindowCollectTimeout (k : Side) (n : Nat) (s : State) : Host.Outcome State Fault Refusal := nextStack s k fun t => t.winFlush n

/-- FENCE (R546): A read of HOSTIF.FENCE returns once every earlier host write is acknowledged or failed. -/
def execFence (k : Side) (core : Nat) (s : State) : Host.Outcome State Fault Refusal := execHostRegisterAccess k core false (ownAddr 0x100) 0 s

/-- VEC_EOI (R549): A write to VEC_EOI ends a pending vector, and it is resent if its line is still high. -/
def execVecEoi (k : Side) (core v : Nat) (s : State) : Host.Outcome State Fault Refusal :=
  execHostRegisterAccess k core true (ownAddr 0x220) v s

/-- VEC_CFG_WRITE (R549): A write to VEC_CFG that sets EN sends a pending vector's message. -/
def execVecCfgWrite (k : Side) (core v w : Nat) (s : State) : Host.Outcome State Fault Refusal :=
  execHostRegisterAccess k core true (ownAddr (0x1000 + 4 * v)) w s

/-- VECTOR_LINE_RISE (R549): A block's interrupt line rises and a message vector goes to its core. -/
def execVectorLineRise (k : Side) (v : Nat) (s : State) : Host.Outcome State Fault Refusal := nextStack s k (Stack.lineRise v)

/-- MSG (R548): An MSG packet at HOSTIF raises a message vector from 128 to 255, or is dropped. -/
def execRingMsg (k : Side) (h : Header) (s : State) : Host.Outcome State Fault Refusal :=
  nextStack s k (Stack.serve 8 h (Stack.message h))

/-- FLIT_REPLAY (R539): A UCIe flit fails its CRC and is replayed. -/
def execFlitReplay (k : Side) (s : State) : Host.Outcome State Fault Refusal := nextStack s k fun t => t.bump HOSTIF.UCIE_STAT_RETRIES

/-- UCIE_MODULE_DOWN (R539): A UCIe module fails, and the link runs at half bandwidth. -/
def execUcieModuleDown (k : Side) (m : Nat) (s : State) : Host.Outcome State Fault Refusal := nextStack s k (Stack.moduleDown m)

/-- UCIE_LINK_RETRAINED (R539): A retraining UCIe link, or a failed module, comes back up, so held host requests and pending interrupts
flow again. -/
def execUcieLinkRetrained (k : Side) (m rate : Nat) (s : State) : Host.Outcome State Fault Refusal := nextStack s k (Stack.moduleUp m rate)

/-- Every stack's link has been down for 10 ms: a device-level fault (R539, R574). -/
def execUcieLinkLost (s : State) : Host.Outcome State Fault Refusal :=
  if s.recto.linkUp ∨ s.recto.hostRuns = false ∨ (s.build = .atlas ∧ s.verso.linkUp) then .next s
  else nextFault s .recto fun t => t.fault .device 0xE 0 0 0

/-- The module of one Atlas stack has been down for 10 ms: a stack-level fault of that stack (R574). -/
def execStackUnreachable (k : Side) (s : State) : Host.Outcome State Fault Refusal :=
  if s.build ≠ .atlas ∨ (s.stack k).linkUp ∨ (s.stack k).hostRuns = false ∨ (s.stack (otherSide k)).linkUp = false then .next s
  else nextFault s k fun t => t.fault .stack 0xE 0 0 0

/-- A wake interrupt starts the wake from Siesta (R29, R549). -/
def execWakeInterrupt (s : State) : Host.Outcome State Fault Refusal :=
  .next (if s.recto.mode = .siesta ∧ s.recto.sys.siestaWake = 0 ∧ (s.recto.wakePending ∨ (s.build = .atlas ∧ s.verso.wakePending)) then
      s.startWake else s)

/-! ## Responses at every interface (R330, R593) -/

/-- A response, or a timeout with status 2, that ends the port's debug access in flight (R593). -/
def State.dbgEnd (s : State) (k : Side) (n tag status : Nat) (data : List Nat) : State :=
  if n ≠ 15 ∨ s.recto.jtag.dbgOut ≠ some (k, tag) then s
  else
    let j := s.recto.jtag
    let v := if status ≠ 0 then 0
      else if targetOf (j.dbgAddr % 2 ^ 44) = .regs then data.headD 0
      else ofBytes (((data.drop (j.dbgAddr % 64)).take 4).map (BitVec.ofNat 8))
    s.onStack .recto fun t => { t with jtag := { t.jtag with
      dbgOut := Option.none
      dbgDone := true
      dbgStatus := status
      dbgData := v } }

/-- A response reaches its initiator, or is dropped as late: the port of a CURSOR, HOSTIF, or the debug port (R330, R474, R542, R593). -/
def State.respond (s : State) (k : Side) (n tag status : Nat) (data : List Nat) (ack : Bool) : State :=
  let live := ((s.stack k).ringTag n tag).st == 2
  let t := s.onStack k fun t =>
    let t := t.received n tag
    let t := Stack.response n tag status data (if live && ack then t.cursorAnswer n tag status else t)
    if live && n == 0 then t.hostDeliver tag status data else t
  if live then t.dbgEnd k n tag status data else t

/-- READ_RESP (R330): A READ_RESP reaches its initiator, or is dropped as late. -/
def execRingReadResp (k : Side) (n tag status : Nat) (data : List Nat) (s : State) : Host.Outcome State Fault Refusal :=
  nextSide s k fun s => s.respond k n tag status data false

/-- REG_RESP (R330): A REG_RESP reaches its initiator, or is dropped as late. -/
def execRingRegResp (k : Side) (n tag status data : Nat) (s : State) : Host.Outcome State Fault Refusal :=
  nextSide s k fun s => s.respond k n tag status [data] false

/-- WRITE_ACK (R330): A WRITE_ACK reaches its initiator, or is dropped as late. -/
def execRingWriteAck (k : Side) (n tag status : Nat) (s : State) : Host.Outcome State Fault Refusal :=
  nextSide s k fun s => s.respond k n tag status [] true

/-- A request's timer expires: its initiator receives TIMEOUT (R329, R332). -/
def State.timeout (s : State) (k : Side) (n tag : Nat) : State :=
  let st := ((s.stack k).ringTag n tag).st
  let live := st == 1 || st == 2
  let t := s.onStack k fun t =>
    let t := Stack.requestTimeout n tag (if live then t.cursorAnswer n tag 2 else t)
    if live && n == 0 then t.hostDeliver tag 2 [] else t
  if live then t.dbgEnd k n tag 2 [] else t

/-- REQUEST_TIMEOUT (R329): A request's timer expires; it is withdrawn or answered TIMEOUT, and its tag is quarantined. -/
def execRequestTimeout (k : Side) (n tag : Nat) (s : State) : Host.Outcome State Fault Refusal := nextSide s k fun s => s.timeout k n tag

/-! ## The debug port (R593) -/

/-- DBG_ACCESS: the register captured is the result of the access before, and the port issues one 4-byte access from base stop 15 under
regulator 09. The access outstanding is finished first (log 64). On a locked port, or outside Workshop and Haven, it acts as BYPASS. -/
def State.debugAccess (s : State) (k : Side) (addr : Nat) (write : Bool) (v : Nat) : State :=
  if !s.portUp then s
  else if !s.recto.flag TEST.JTAG_STAT_OPEN ∨ s.recto.modeIn [.workshop, .haven] = false then s.bypass
  else
    let s := s.setIr 0x20
    let j := s.recto.jtag
    let s := s.onStack .recto fun t => t.answered 0 [j.dbgStatus, j.dbgData, b2n j.dbgDone]
    let k : Side := if s.build = .atlas then k else .recto
    let done := fun (s : State) (status : Nat) =>
      s.onStack .recto fun t => { t with jtag := { t.jtag with dbgStatus := status, dbgData := 0, dbgDone := true, dbgOut := Option.none } }
    if !j.dbgDone then s
    else
      let reg := targetOf (addr % 2 ^ 44) == .regs
      let r := wordReq 0 write reg addr v
      let t := s.stack k
      match (List.range 1024).find? fun g => (t.ringTag 15 g).st == 0 with
      | Option.none => s
      | some g =>
        let p := r.header g
        let h := { p.2 with src := 15 }
        if !r.accepted || t.interfaceError p.1 h then done s 1
        else
          let a := t.answer
          let s := s.putStack k { Stack.inject p.1 h 9 true t with answer := a }
          s.onStack .recto fun t => { t with jtag := { t.jtag with dbgDone := false, dbgOut := some (k, g), dbgAddr := addr } }

/-- DBG_ACCESS (R593): The JTAG DBG_ACCESS instruction issues one 4-byte access from base stop 15 on an open port. -/
def execJtagDbgAccess (k : Side) (addr : Nat) (write : Bool) (v : Nat) (s : State) : Host.Outcome State Fault Refusal :=
  .next (s.debugAccess k addr write v)

end Sys2Proof.Machine
end

