-- ==== Sys2Proof/Machine/Registers.lean ====
section
/-! DEFINITION. Register accesses: reads with their effects, and writes, which start what the commands of a register start (R4 to R6, R312). -/

namespace Sys2Proof.Machine

/-! ## Reads (R6, R312) -/

/-- What a read of a register does beside returning its value: read pointers and queues advance, TIME_NS latches the seconds, and a measured
value is drawn (R152, R194, R323, R461, R503, R535, R570, R571). -/
def Stack.readEffect (s : Stack) (block off : Nat) : Stack :=
  if block = 0x3 ∧ off = 0x204 then s.winData false 0
  else if block = 0x10 ∧ off = 0x14 then s.ledgerWin false 0
  else if block = 0xA ∧ off = 0x30 then { s with clk := { s.clk with latched := s.seconds } }
  else if (block = 5 ∧ off = 0x30) ∨ (block = 0xC ∧ 0x100 ≤ off ∧ off < 0x140) then s.draw
  else if block = 0xD then
    if off = 0xBC then s.tsPop
    else if (0x40 ≤ off ∧ off < 0x4C) ∨ (0xA0 ≤ off ∧ off < 0xB0) then s.draw
    else if 0x4000 ≤ off ∧ off < 0x4180 ∧ off % 64 = 0x14 then s.uartRead ((off - 0x4000) / 64)
    else s
  else if 0x20 ≤ block ∧ block < 0x28 ∧ off = 0x104 then s.hrxRead (block - 0x20)
  else if 0x40 ≤ block ∧ block < 0x44 ∧ off = 0x14 then s.hingeRead (block - 0x40)
  else s

/-- A read of a register: its value is the answer; an offset that holds no register is answered ERROR (R4). A read of CAP_DATA returns the
word that it takes (R152). -/
def State.accessRead (s : State) (k : Side) (block off : Nat) : State :=
  let s := if 0x40 ≤ block ∧ block < 0x44 ∧ off = 0x420 ∧ ((s.stack k).build.regRow block off).isSome = true then
      s.onStack k (Stack.capDataRead (block - 0x40))
    else s
  match s.regWord k block off with
  | Option.none => s.onStack k fun t => t.answered 1 []
  | some v => s.onStack k fun t => (t.readEffect block off).answered 0 [v]

/-! ## Writes: the layer blocks (R137, R148, R177, R277, R281) -/

/-- GO of a command register. -/
def go (v : Nat) : Bool := bit v 31

/-- SECT registers written. -/
def State.sectWrite (s : State) (k : Side) (i off v : Nat) : State :=
  let n := bits v 0 10
  let on := fun f => s.onStack k f
  if off = 0 ∧ go v then
    match bits v 16 4 with
    | 1 => on (Stack.cmdSleep i n)
    | 2 => s.onStackFault k (Stack.cmdWake (Stack.detour false) i n)
    | 3 => on (Stack.cmdResetPulse i n)
    | 4 => on (Stack.cmdHold i n)
    | 5 => on (Stack.cmdClearHold i n)
    | 6 => on (Stack.cmdTest i n)
    | 7 => on (Stack.cmdDiscard i n)
    | 8 => on (Stack.cmdRemove i n)
    | op => on (Stack.cmdNone i n op)
  else if off = 0x400 ∧ go v then
    let page := bits v 10 4; let p := bits v 14 2
    match bits v 16 2 with
    | 0 => on (Stack.pageCommand i n page p 0)
    | 1 => on (Stack.pageCommand i n page p 1)
    | 2 => on (Stack.pageFree i n page p)
    | _ => on (Stack.pageNop i n page p)
  else if off = 0x410 then
    let t := on fun t => (if bit v 30 then t.captureRelease i else t).plainWrite (0x40 + i) off v
    if go v then t.onStack k (Stack.capture i (bits v 0 6) (bit v 6) (bits v 7 2)) else t
  else on fun t => t.plainWrite (0x40 + i) off v

/-- FE registers written. -/
def Stack.feWrite' (s : Stack) (i off v : Nat) : Stack :=
  let n := bits v 0 8
  if off = 0 ∧ go v then
    let t := match bits v 8 4 with
      | 1 => s.feStart i n
      | 2 => s.feStop i n
      | 3 => s.feStep i n
      | 4 => s.feReset i n (bit v 12)
      | op => s.feNone i n op (bits v 12 1)
    if s.flag (FE.CMD_STATUS_BUSY i) then t else t.put (FE.CMD_FILL i) (bits v 12 1)
  else if 0x1000 ≤ off ∧ off < 0x2800 ∧ off % 32 = 0xC then s.feDoorbell i ((off - 0x1000) / 32) v
  else if 0x1000 ≤ off ∧ off < 0x2800 ∧ off % 32 = 0x10 then s.fePortClk i ((off - 0x1000) / 32) v
  else s.plainWrite (0x50 + i) off v

/-! ## Writes: the base die -/

/-- MODE_REQ written: TARGET 0 requests nothing; a code that names no mode is refused as a move that R29 does not list (R29, R30, R551).
Verso's ignores writes (R573). -/
def State.modeReqWrite (s : State) (k : Side) (v : Nat) : State :=
  let after := bits v 4 4
  match bits v 0 4 with
  | 0 => if k = .verso then s else s.onStack k fun t => t.plainWrite 0 8 v
  | 1 => s.modeReq k .vigil after
  | 2 => s.modeReq k .dawn after
  | 3 => s.modeReq k .day after
  | 4 => s.modeReq k .siesta after
  | 5 => s.modeReq k .workshop after
  | 6 => s.modeReq k .dusk after
  | 7 => s.modeReq k .haven after
  | _ => if k = .verso then s else (s.onStack k fun t => t.plainWrite 0 8 v).modeRefuse 1

/-- LOAD registers written (R231). -/
def Stack.loadWrite (s : Stack) (off v : Nat) : Stack :=
  let image := bits v 0 16
  if off = 0 ∧ go v then
    match bits v 16 4 with
    | 1 => s.loadStart 1 image
    | 2 => s.loadStart 2 image
    | 3 => s.loadStart 3 image
    | 4 => s.loadAbort image
    | 5 => s.loadStart 5 image
    | op => s.loadNone op image
  else if off = 0x20 ∧ go v then s.fetch' (bits v 0 10) (bits v 10 4) (bits v 14 2)
  else if off = 0x30 ∧ go v then
    match bits v 16 3 with
    | 1 => s.uploadOpen image
    | 2 => s.uploadCommit image
    | 3 => s.uploadAbandon image
    | 4 => s.uploadDelete image
    | op => s.upFields image op
  else if off = 0x3C then s.upData v
  else s.plainWrite 2 off v

/-- CODE registers written (R387, R388). -/
def Stack.codeWrite (s : Stack) (off v : Nat) : Stack :=
  if off = 0x88 then
    let t := if bit v 0 then s.logClearCe else s
    if bit v 1 then t.logClearUe else t
  else if off = 0x300 ∧ bit v 31 then s.injectArm (bits v 0 1) (bits v 1 6) (bits v 7 6)
  else s.plainWrite 6 off v

/-- DMA registers written (R397). -/
def Stack.dmaRegWrite (s : Stack) (off v : Nat) : Stack :=
  let n := bits v 0 5
  if off = 0 ∧ go v then
    match bits v 8 4 with
    | 1 => s.dmaStart n
    | 2 => s.dmaStop n
    | 3 => s.dmaResume n
    | 4 => s.dmaSkip n
    | 5 => s.dmaReset n
    | op => s.dmaNone n op
  else s.plainWrite 7 off v

/-- KEYS registers written (R419, R423). -/
def Stack.keysWrite (s : Stack) (off v : Nat) : Stack :=
  let slot := bits v 0 5; let entry := bits v 16 6
  if off = 0 ∧ go v then
    match bits v 8 4 with
    | 1 => s.kcmdGenerate slot entry
    | 2 => s.kcmdLoad slot entry
    | 3 => s.kcmdUnwrap slot entry
    | 4 => s.kcmdStore slot entry
    | 5 => s.kcmdClear slot entry
    | 6 => s.kcmdErase slot entry
    | op => s.kcmdNone slot op entry
  else if 0x10 ≤ off ∧ off < 0x38 then s.put (KEYS.KWRAP_WORD ((off - 0x10) / 4)) v
  else if off = 0x400 ∧ go v then s.rekeyRequest (bits v 0 4) (bits v 8 5) (bit v 16)
  else s.plainWrite 8 off v

/-- The TEST register of a lane written. The checker's lock and count come from the far end: free values (R440, log 2). -/
def Stack.laneTestWrite (s : Stack) (n v : Nat) : Stack :=
  let t := s.laneLoop n v
  let t := t.prbsGenerator n (bits v 8 1) (bits v 4 3)
  let t := (t.prbsChecker n (bits v 9 1) (bits v 4 3) (bit t.freeNat 31) (t.freeNat % 2 ^ 31)).draw
  if bit v 10 then t.laneInject n else t

/-- LANE registers written (R432, R434, R440, R450, R455). -/
def Stack.laneWrite (s : Stack) (off v : Nat) : Stack :=
  if 0x1000 ≤ off ∧ off < 0x1C00 then
    let n := (off - 0x1000) / 64
    match off % 64 with
    | 0 => if bit v 31 then s.laneEnable n v
      else if s.flag (LANE.CFG_ENABLE n) then s.laneDisable n
      else if s.laneUse n = 1 ∨ bits v 0 2 = 1 then
        let rate := s.get (LANE.CFG_RATE n)
        (s.plainWrite 9 off v).put (LANE.CFG_RATE n) rate
      else s.plainWrite 9 off v
    | 8 => if s.laneStage n = 7 then s else s.plainWrite 9 off v
    | 0x10 => s.laneTestWrite n v
    | _ => s.plainWrite 9 off v
  else if 0x400 ≤ off ∧ off < 0x540 ∧ off % 64 = 0 then
    let l := (off - 0x400) / 64
    let was := s.flag (LANE.LACE_CTL_ENABLE l)
    let t := (s.plainWrite 9 off v).put (LANE.LACE_CTL_ENABLE l) (b2n was)
    if was = bit v 0 then t else if bit v 0 then t.laceEnable l else t.laceDisable l
  else if 0x400 ≤ off ∧ off < 0x540 ∧ off % 64 = 0x20 ∧ go v then s.rwinGo ((off - 0x400) / 64) (bit v 0)
  else if 0x100 ≤ off ∧ off < 0x160 ∧ off % 8 = 0 then
    let q := (off - 0x100) / 8
    let old := s.get (LANE.QCTL_REF_EN q)
    let t := s.plainWrite 9 off v
    [0, 1].foldl (fun t ab => if bit old ab && !bit v ab then t.refIdle q ab else t) t
  else s.plainWrite 9 off v

/-- MPORT registers written (R458, R462, R477, R479). -/
def Stack.mportWrite (s : Stack) (q off v : Nat) : Stack :=
  if off = 0 then
    if bit v 31 then s.mportEnable q v
    else if s.flag (MPORT.CFG_ENABLE q) then s.mportDisable q
    else s.plainWrite (0x20 + q) off v
  else if off = 0x108 ∧ go v then s.htxGo q (bits v 0 14) (bit v 16)
  else if off = 0x10C then s.htxWrite q v
  else if 0x800 ≤ off ∧ off < 0x840 ∧ off % 16 = 0 then s.sdiEnable q ((off - 0x800) / 16) v
  else s.plainWrite (0x20 + q) off v

/-- CLK registers written (R491, R494 to R501, R503). -/
def Stack.clkWrite (s : Stack) (off v : Nat) : Stack :=
  let t := s.plainWrite 0xA off v
  if off = 0 then s.houseCtl v
  else if off = 0x20 then if go v then t.ptpMeasurement else t
  else if off = 0x4C then if bit v 0 then t.timeSet else t
  else if 0x1140 ≤ off ∧ off < 0x11C0 then
    let d := (off - 0x1100) / 4
    let was := s.flag (CLK.DRST_RESET d)
    let t := if was = bit v 0 then t else t.domainReset d (bit v 0)
    if bit v 1 then t.domainForce d else t
  else if 0x2000 ≤ off ∧ off < 0x2080 then
    let n := (off - 0x2000) / 32
    if off % 32 = 0 then
      let t := t.put (CLK.RAS_CTL_ENABLE n) (s.get (CLK.RAS_CTL_ENABLE n))
      if bit v 0 then t.rasterEnable n else t.rasterDisable n
    else if s.rasterRunning n then s else t
  else if off = 0x3000 ∧ go v then s.meterGo (bits v 0 7) (bits v 8 7)
  else t

/-- POWER registers written (R508, R533). -/
def Stack.powerWrite (s : Stack) (off v : Nat) : Stack :=
  if off = 4 ∧ go v then s.oppRequest (bits v 0 4) (bits v 4 7) (bits v 16 10)
  else if off = 0x20 ∧ go v then s.regCmd (bits v 0 4) (bits v 4 2)
  else s.plainWrite 0xC off v

/-- LEDGER registers written (R535). -/
def Stack.ledgerWrite (s : Stack) (off v : Nat) : Stack :=
  if off = 0x14 then s.ledgerWin true v
  else if off = 0x18 ∧ go v then
    match bits v 0 4 with
    | 1 => s.ledgerCommit
    | 2 => s.ledgerFlush
    | _ => s.plainWrite 0x10 off v
  else s.plainWrite 0x10 off v

/-- PINS registers written (R558 to R561, R570, R571). Any write but the awaited one disarms the key. What a serial peripheral receives comes
from the board: free values (log 2). -/
def State.pinsWrite (s : State) (k : Side) (off v : Nat) : State :=
  let on := fun f => s.onStack k f
  let w := fun (base : Nat) => (off - base) / 4
  if 0x10 ≤ off ∧ off < 0x1C then on (Stack.gpioOut (w 0x10) v)
  else if 0x20 ≤ off ∧ off < 0x2C then on (Stack.outSet (w 0x20) v)
  else if 0x30 ≤ off ∧ off < 0x3C then on (Stack.outClr (w 0x30) v)
  else if 0x60 ≤ off ∧ off < 0x6C then s.conflictClear k (w 0x60) v
  else if off = 0x80 then on (Stack.lockKey v)
  else if 0x84 ≤ off ∧ off < 0x90 then on (Stack.lockMask (w 0x84) v)
  else if 0xD0 ≤ off ∧ off < 0xE8 then on (Stack.xlockMask (w 0xD0) v)
  else if 0x4000 ≤ off ∧ off < 0x4180 then
    let b := (off - 0x4000) / 64
    match off % 64 with
    | 4 => on fun t => (Stack.spiWrite (s.inputWired k b 0) b (bits v 0 8) (t.freeNat % 256) t).draw
    | 0xC => if go v then
        on fun t => (Stack.i2cCommand (s.inputWired k b 2) b (bits v 0 8) (bit v 8) (bit v 9) (bit v 10) (bit v 11) (bit t.freeNat 8)
          (bit t.freeNat 9) (t.freeNat % 256) t).draw
      else on fun t => t.disarmKey.plainWrite 0xD off v
    | 0x14 => on (Stack.uartWrite b (bits v 0 8))
    | _ => on fun t => t.disarmKey.plainWrite 0xD off v
  else on fun t => t.disarmKey.plainWrite 0xD off v

/-- TEST registers written (R592, R595, R596). -/
def State.testWrite (s : State) (k : Side) (off v : Nat) : State :=
  if off = 0 ∧ go v then
    s.onStack k fun t => match bits v 0 4 with
      | 1 => t.testRun
      | 2 => t.testAbort
      | op => t.testCtl op
  else if off = 0x24 ∧ bit v 0 then s.relock' k
  else s.onStack k fun t => t.plainWrite 0xF off v

/-- TURN registers written (R233, R248). CANCEL acts before GO. -/
def State.turnWrite (s : State) (k : Side) (off v : Nat) : State :=
  if off = 0 then
    let t := if bit v 30 then s.onTurn k Stack.cancel else s
    if go v then t.arm k else t
  else s.onStack k fun t => t.plainWrite 1 off v

/-- HOSTIF registers written through the register interface. -/
def Stack.hostifWrite (s : Stack) (off v : Nat) : Stack := s.ownWrite Stack.hostDo (wordReq 0 true true (ownAddr off) v) v

/-- The live register at an offset of a block written. -/
def State.liveWrite (s : State) (k : Side) (block off v : Nat) : State :=
  let on := fun f => s.onStack k f
  let link := fun (f : Stack → Stack) => (s.onStack k fun t => (f t).syncPorts).pairLink
  if block < 0x20 then
    match block with
    | 0x0 => if off = 8 then s.modeReqWrite k v else on fun t => t.plainWrite 0 off v
    | 0x1 => s.turnWrite k off v
    | 0x2 => on fun t => t.loadWrite off v
    | 0x3 => if off = 0x204 then on (Stack.winData true v) else on fun t => t.plainWrite 3 off v
    | 0x6 => on fun t => t.codeWrite off v
    | 0x7 => on fun t => t.dmaRegWrite off v
    | 0x8 => on fun t => t.keysWrite off v
    | 0x9 => link fun t => t.laneWrite off v
    | 0xA => on fun t => t.clkWrite off v
    | 0xC => on fun t => t.powerWrite off v
    | 0xD => s.pinsWrite k off v
    | 0xE => on fun t => t.hostifWrite off v
    | 0xF => s.testWrite k off v
    | 0x10 => on fun t => t.ledgerWrite off v
    | _ => on fun t => t.plainWrite block off v
  else if block < 0x40 then link fun t => t.mportWrite (block - 0x20) off v
  else if block < 0x50 then s.sectWrite k (block - 0x40) off v
  else on fun t => t.feWrite' (block - 0x50) off v

/-! ## Staged copies (R6, R233) -/

/-- A write to the staged copy of a register, by its live offset: ignored, with LOCKED_WRITE, while a firmware turn is armed. Region 1 is
read-only to firmware (R404); a register of a section homed elsewhere ignores it (R154, R196); any write to PINS disarms the key (R560). -/
def Stack.stagedWrite (block off v : Nat) (s : Stack) : Stack :=
  let s := if block = 0xD then s.disarmKey else s
  if s.regAbsent block off || (stagedFields block off).isEmpty then s
  else if s.firmwareArmed then s.raise TURN.STATUS_LOCKED_WRITE
  else if block = 8 ∧ 0x110 ≤ off ∧ off < 0x120 then s
  else
    match (if 0x40 ≤ block ∧ block < 0x50 then s.sectTarget (block - 0x40) off else some off) with
    | Option.none => s
    | some o => s.putStaged block o v

/-- A write to the register at an offset of a block: an offset that holds no register is answered ERROR and changes nothing (R4). The copies
of a staged register in force change only at a turn. -/
def State.accessWrite (s : State) (k : Side) (block off v : Nat) : State :=
  let t := s.stack k
  match t.build.regRow block off with
  | Option.none => s.onStack k fun t => t.answered 1 []
  | some _ =>
    let o := liveOffset off
    let s := if o.2 then s.onStack k (Stack.stagedWrite block o.1 v)
      else if t.regAbsent block off then s.onStack k fun t => if block = 0xD then t.disarmKey else t
      else s.liveWrite k block off v
    s.onStack k fun t => t.answered 0 []

/-! ## Commands -/

/-- A write of `size` bytes through the register interface: only an aligned 32-bit write reaches a register (R4). -/
def execRegisterWrite (k : Side) (block off size v : Nat) (s : State) : Host.Outcome State Fault Refusal :=
  nextSide s k fun s => if size = 4 ∧ off % 4 = 0 then s.accessWrite k block off v else s.onStack k fun t => t.answered 1 []

/-- STAGED_COPY_WRITE (R233): A write to the staged copy of a staged register; it is ignored, and LOCKED_WRITE is set, while a firmware
turn is armed. -/
def execStagedCopyWrite (k : Side) (block off v : Nat) (s : State) : Host.Outcome State Fault Refusal :=
  nextSide s k fun s => s.accessWrite k block (0x8000 + off) v

/-- The block and offset that a register request names; HOSTIF's registers are not on the rings (R360, R541). -/
def regPlace (h : Header) : Option (Nat × Nat) :=
  let loc := h.addr % 2 ^ 44
  if h.reserved ∨ h.rot ∨ targetOf loc ≠ .regs ∨ h.addr / 2 ^ 44 % 16 ≠ 0 ∨ blockOf loc = 0xE then Option.none else some (blockOf loc, loc % 0x10000)

/-- A register request is served: its arrived packet leaves the rings and a response packet with the answer follows (R311, R312). -/
def State.serveReg (s : State) (k : Side) (op : Nat) (h : Header) (f : State → State) : State :=
  let t := f s
  t.putStack k (Stack.serve op h (fun u => { u with answer := (t.stack k).answer }) (t.stack k))

/-- A REG_READ at its target (R312). -/
def execRingRegRead (k : Side) (h : Header) (s : State) : Host.Outcome State Fault Refusal :=
  nextSide s k fun s => s.serveReg k 5 h fun s => match regPlace h with
    | Option.none => s.onStack k fun t => t.answered 1 []
    | some p => s.accessRead k p.1 p.2

/-- A REG_WRITE at its target (R312). -/
def execRingRegWrite (k : Side) (h : Header) (s : State) : Host.Outcome State Fault Refusal :=
  nextSide s k fun s => s.serveReg k 6 h fun s => match regPlace h with
    | Option.none => s.onStack k fun t => t.answered 1 []
    | some p => s.accessWrite k p.1 p.2 (h.data % 2 ^ 32)

end Sys2Proof.Machine
end

