-- ==== Sys2Proof/Machine/Dispatch.lean ====
section
/-! DEFINITION. One arm for each command: a direct call of its meaning. -/

namespace Sys2Proof.Machine

/-- The effect of a command on everything but the queue. -/
def exec (i : Instr) (s : State) : Host.Outcome State Fault Refusal :=
  match i with
  | .registerWrite k block off size v => Sys2Proof.Machine.execRegisterWrite k block off size v s
  | .stagedCopyWrite k block off v => Sys2Proof.Machine.execStagedCopyWrite k block off v s
  | .offToVigil => Sys2Proof.Machine.execOffToVigil s
  | .brownOut => Sys2Proof.Machine.execBrownOut s
  | .wake => Sys2Proof.Machine.execWake s
  | .vigilWakeTimer => Sys2Proof.Machine.execVigilWakeTimer s
  | .modeReqDay k after => Sys2Proof.Machine.execModeReqDay k after s
  | .modeReqSiesta k after => Sys2Proof.Machine.execModeReqSiesta k after s
  | .modeReqDusk k after => Sys2Proof.Machine.execModeReqDusk k after s
  | .modeReqDawn k after => Sys2Proof.Machine.execModeReqDawn k after s
  | .modeReqVigil k after => Sys2Proof.Machine.execModeReqVigil k after s
  | .modeReqWorkshop k after => Sys2Proof.Machine.execModeReqWorkshop k after s
  | .modeReqHaven k after => Sys2Proof.Machine.execModeReqHaven k after s
  | .tcxoTimeout => Sys2Proof.Machine.execTcxoTimeout s
  | .systemPllTimeout => Sys2Proof.Machine.execSystemPllTimeout s
  | .fillTimeout => Sys2Proof.Machine.execFillTimeout s
  | .ucieTrainTimeout => Sys2Proof.Machine.execUcieTrainTimeout s
  | .layerPllTimeout => Sys2Proof.Machine.execLayerPllTimeout s
  | .releaseDelayExpiry k => Sys2Proof.Machine.execReleaseDelayExpiry k s
  | .locksReported k => Sys2Proof.Machine.execLocksReported k s
  | .lockTimeout k => Sys2Proof.Machine.execLockTimeout k s
  | .reenableAtSafeBoundary k kind n => Sys2Proof.Machine.execReenableAtSafeBoundary k kind n s
  | .baseRingFault k block cause => Sys2Proof.Machine.execBaseRingFault k block cause s
  | .recoveryLimit k level id => Sys2Proof.Machine.execRecoveryLimit k level id s
  | .recoveryComplete k level id => Sys2Proof.Machine.execRecoveryComplete k level id s
  | .leafPortRead k layer tile m port a => Sys2Proof.Machine.execLeafPortRead k layer tile m port a s
  | .leafPortWrite k layer tile m e a v => Sys2Proof.Machine.execLeafPortWrite k layer tile m e a v s
  | .vtrackPeriodicTest k b tile failed => Sys2Proof.Machine.execVtrackPeriodicTest k b tile failed s
  | .vtrackContention k b tile track => Sys2Proof.Machine.execVtrackContention k b tile track s
  | .bridgePhaseTrack k b tile j up => Sys2Proof.Machine.execBridgePhaseTrack k b tile j up s
  | .stage k ix n page p => Sys2Proof.Machine.execStage k ix n page p s
  | .evict k ix n page p => Sys2Proof.Machine.execEvict k ix n page p s
  | .free k ix n page p => Sys2Proof.Machine.execFree k ix n page p s
  | .pgCmdNop k ix n page p => Sys2Proof.Machine.execPgCmdNop k ix n page p s
  | .pageLinksFree k => Sys2Proof.Machine.execPageLinksFree k s
  | .pageCommandComplete k ix => Sys2Proof.Machine.execPageCommandComplete k ix s
  | .capture k ix domain atPoint raster => Sys2Proof.Machine.execCapture k ix domain atPoint raster s
  | .captureRelease k ix => Sys2Proof.Machine.execCaptureRelease k ix s
  | .captureEdge k ix => Sys2Proof.Machine.execCaptureEdge k ix s
  | .captureCopyComplete k ix => Sys2Proof.Machine.execCaptureCopyComplete k ix s
  | .capDataRead k ix => Sys2Proof.Machine.execCapDataRead k ix s
  | .hingeDataRead k ix => Sys2Proof.Machine.execHingeDataRead k ix s
  | .sectNone k ix n op => Sys2Proof.Machine.execSectNone k ix n op s
  | .sectSleep k ix n => Sys2Proof.Machine.execSectSleep k ix n s
  | .sectWake k ix n => Sys2Proof.Machine.execSectWake k ix n s
  | .resetPulse k ix n => Sys2Proof.Machine.execResetPulse k ix n s
  | .resetPulseEnd k n => Sys2Proof.Machine.execResetPulseEnd k n s
  | .hold k ix n => Sys2Proof.Machine.execHold k ix n s
  | .clearHold k ix n => Sys2Proof.Machine.execClearHold k ix n s
  | .sectTest k ix n => Sys2Proof.Machine.execSectTest k ix n s
  | .sectionTestComplete k failed => Sys2Proof.Machine.execSectionTestComplete k failed s
  | .discard k ix n => Sys2Proof.Machine.execDiscard k ix n s
  | .remove k ix n => Sys2Proof.Machine.execRemove k ix n s
  | .loadNone k op image => Sys2Proof.Machine.execLoadNone k op image s
  | .load k image => Sys2Proof.Machine.execLoad k image s
  | .rebind k image => Sys2Proof.Machine.execRebind k image s
  | .restart k image => Sys2Proof.Machine.execRestart k image s
  | .loadAbort k image => Sys2Proof.Machine.execLoadAbort k image s
  | .verify k image => Sys2Proof.Machine.execVerify k image s
  | .loadPhaseComplete k unc => Sys2Proof.Machine.execLoadPhaseComplete k unc s
  | .loadRegistersPhase k => Sys2Proof.Machine.execLoadRegistersPhase k s
  | .colophonFetch k n page p => Sys2Proof.Machine.execColophonFetch k n page p s
  | .fetchComplete k unc => Sys2Proof.Machine.execFetchComplete k unc s
  | .uploadOpen k image => Sys2Proof.Machine.execUploadOpen k image s
  | .uploadCommit k image => Sys2Proof.Machine.execUploadCommit k image s
  | .uploadAbandon k image => Sys2Proof.Machine.execUploadAbandon k image s
  | .uploadDelete k image => Sys2Proof.Machine.execUploadDelete k image s
  | .uploadNone k image op => Sys2Proof.Machine.execUploadNone k image op s
  | .upDataWrite k v => Sys2Proof.Machine.execUpDataWrite k v s
  | .colophonProgram k => Sys2Proof.Machine.execColophonProgram k s
  | .uploadCommitDone k => Sys2Proof.Machine.execUploadCommitDone k s
  | .backgroundCheck k layer tile g p => Sys2Proof.Machine.execBackgroundCheck k layer tile g p s
  | .folioRewriteComplete k => Sys2Proof.Machine.execFolioRewriteComplete k s
  | .repairTurn k => Sys2Proof.Machine.execRepairTurn k s
  | .arm k => Sys2Proof.Machine.execArm k s
  | .cancel k => Sys2Proof.Machine.execCancel k s
  | .turnCheckComplete k => Sys2Proof.Machine.execTurnCheckComplete k s
  | .lastExamination k => Sys2Proof.Machine.execLastExamination k s
  | .turnApply k => Sys2Proof.Machine.execTurnApply k s
  | .turnApplied k => Sys2Proof.Machine.execTurnApplied k s
  | .deviceTurnArm k => Sys2Proof.Machine.execDeviceTurnArm k s
  | .turnRateSecond k => Sys2Proof.Machine.execTurnRateSecond k s
  | .feNone k ix n op fill => Sys2Proof.Machine.execFeNone k ix n op fill s
  | .feStart k ix n => Sys2Proof.Machine.execFeStart k ix n s
  | .feStop k ix n => Sys2Proof.Machine.execFeStop k ix n s
  | .feStep k ix n => Sys2Proof.Machine.execFeStep k ix n s
  | .feReset k ix n fill => Sys2Proof.Machine.execFeReset k ix n fill s
  | .feFillComplete k ix => Sys2Proof.Machine.execFeFillComplete k ix s
  | .feDoorbell k ix n v => Sys2Proof.Machine.execFeDoorbell k ix n v s
  | .fePortClkWrite k ix n v => Sys2Proof.Machine.execFePortClkWrite k ix n v s
  | .feInterrupt k ix n => Sys2Proof.Machine.execFeInterrupt k ix n s
  | .feTrap k ix n cause => Sys2Proof.Machine.execFeTrap k ix n cause s
  | .feStallRelease k ix n => Sys2Proof.Machine.execFeStallRelease k ix n s
  | .feExternalAccess k ix n off kid write len data stolen => Sys2Proof.Machine.execFeExternalAccess k ix n off kid write len data stolen s
  | .streamPortInput k ix n p data mark => Sys2Proof.Machine.execStreamPortInput k ix n p data mark s
  | .streamPortOutput k ix n p => Sys2Proof.Machine.execStreamPortOutput k ix n p s
  | .iNop k ix n => Sys2Proof.Machine.execINop k ix n s
  | .iHalt k ix n => Sys2Proof.Machine.execIHalt k ix n s
  | .iSignal k ix n => Sys2Proof.Machine.execISignal k ix n s
  | .iBr k ix n cond target => Sys2Proof.Machine.execIBr k ix n cond target s
  | .iBrl k ix n target => Sys2Proof.Machine.execIBrl k ix n target s
  | .iJr k ix n s1 => Sys2Proof.Machine.execIJr k ix n s1 s
  | .iRep k ix n len count => Sys2Proof.Machine.execIRep k ix n len count s
  | .iRepr k ix n len s2 => Sys2Proof.Machine.execIRepr k ix n len s2 s
  | .iReti k ix n => Sys2Proof.Machine.execIReti k ix n s
  | .iWaitm k ix n port mark => Sys2Proof.Machine.execIWaitm k ix n port mark s
  | .iMfs k ix n d spr => Sys2Proof.Machine.execIMfs k ix n d spr s
  | .iMts k ix n s1 spr => Sys2Proof.Machine.execIMts k ix n s1 spr s
  | .iPushq k ix n mem a u port cnt => Sys2Proof.Machine.execIPushq k ix n mem a u port cnt s
  | .iSendq k ix n mem a u port mark => Sys2Proof.Machine.execISendq k ix n mem a u port mark s
  | .iInq k ix n d port => Sys2Proof.Machine.execIInq k ix n d port s
  | .iOutq k ix n sh port mark clr uns => Sys2Proof.Machine.execIOutq k ix n sh port mark clr uns s
  | .iTap k ix n ya ca uy uc mv neg cq sy sc clr => Sys2Proof.Machine.execITap k ix n ya ca uy uc mv neg cq sy sc clr s
  | .iMacq k ix n xa ya ux uy neg sx sy clr => Sys2Proof.Machine.execIMacq k ix n xa ya ux uy neg sx sy clr s
  | .iMace k ix n acc mem a1 ac u1 uc neg s1 sc clr => Sys2Proof.Machine.execIMace k ix n acc mem a1 ac u1 uc neg s1 sc clr s
  | .iClra k ix n mask => Sys2Proof.Machine.execIClra k ix n mask s
  | .iMovag k ix n d acc sh rnd => Sys2Proof.Machine.execIMovag k ix n d acc sh rnd s
  | .iMovga k ix n acc s1 => Sys2Proof.Machine.execIMovga k ix n acc s1 s
  | .iShfa k ix n mask sh => Sys2Proof.Machine.execIShfa k ix n mask sh s
  | .iStaq k ix n mem a u sh uns clr => Sys2Proof.Machine.execIStaq k ix n mem a u sh uns clr s
  | .iSuma k ix n acc => Sys2Proof.Machine.execISuma k ix n acc s
  | .iAdd k ix n d s1 s2 => Sys2Proof.Machine.execIAdd k ix n d s1 s2 s
  | .iSub k ix n d s1 s2 => Sys2Proof.Machine.execISub k ix n d s1 s2 s
  | .iAnd k ix n d s1 s2 => Sys2Proof.Machine.execIAnd k ix n d s1 s2 s
  | .iOr k ix n d s1 s2 => Sys2Proof.Machine.execIOr k ix n d s1 s2 s
  | .iXor k ix n d s1 s2 => Sys2Proof.Machine.execIXor k ix n d s1 s2 s
  | .iShl k ix n d s1 s2 => Sys2Proof.Machine.execIShl k ix n d s1 s2 s
  | .iShr k ix n d s1 s2 => Sys2Proof.Machine.execIShr k ix n d s1 s2 s
  | .iAsr k ix n d s1 s2 => Sys2Proof.Machine.execIAsr k ix n d s1 s2 s
  | .iMin k ix n d s1 s2 => Sys2Proof.Machine.execIMin k ix n d s1 s2 s
  | .iMax k ix n d s1 s2 => Sys2Proof.Machine.execIMax k ix n d s1 s2 s
  | .iCmp k ix n s1 s2 => Sys2Proof.Machine.execICmp k ix n s1 s2 s
  | .iAddi k ix n d s1 imm => Sys2Proof.Machine.execIAddi k ix n d s1 imm s
  | .iLdi k ix n d imm => Sys2Proof.Machine.execILdi k ix n d imm s
  | .iLui k ix n d imm => Sys2Proof.Machine.execILui k ix n d imm s
  | .iSeta k ix n a src r imm => Sys2Proof.Machine.execISeta k ix n a src r imm s
  | .iSetm k ix n a mode step => Sys2Proof.Machine.execISetm k ix n a mode step s
  | .iSetbl k ix n a len => Sys2Proof.Machine.execISetbl k ix n a len s
  | .iMovra k ix n d a => Sys2Proof.Machine.execIMovra k ix n d a s
  | .iLd k ix n d mem a u sg => Sys2Proof.Machine.execILd k ix n d mem a u sg s
  | .iSt k ix n r mem a u => Sys2Proof.Machine.execISt k ix n r mem a u s
  | .iLdq k ix n d mem a u => Sys2Proof.Machine.execILdq k ix n d mem a u s
  | .iStq k ix n r mem a u => Sys2Proof.Machine.execIStq k ix n r mem a u s
  | .ringRead k h => Sys2Proof.Machine.execRingRead k h s
  | .ringWrite k h data poison => Sys2Proof.Machine.execRingWrite k h data poison s
  | .ringWritePosted k h data poison => Sys2Proof.Machine.execRingWritePosted k h data poison s
  | .ringRegRead k h => Sys2Proof.Machine.execRingRegRead k h s
  | .ringRegWrite k h => Sys2Proof.Machine.execRingRegWrite k h s
  | .ringCursor k h => Sys2Proof.Machine.execRingCursor k h s
  | .ringMsg k h => Sys2Proof.Machine.execRingMsg k h s
  | .unassignedOpcode k posted => Sys2Proof.Machine.execUnassignedOpcode k posted s
  | .ringReadResp k n tag status data => Sys2Proof.Machine.execRingReadResp k n tag status data s
  | .ringWriteAck k n tag status => Sys2Proof.Machine.execRingWriteAck k n tag status s
  | .ringRegResp k n tag status data => Sys2Proof.Machine.execRingRegResp k n tag status data s
  | .requestInject k op h reg room => Sys2Proof.Machine.execRequestInject k op h reg room s
  | .requestTimeout k n tag => Sys2Proof.Machine.execRequestTimeout k n tag s
  | .tagQuarantineExpiry k n tag => Sys2Proof.Machine.execTagQuarantineExpiry k n tag s
  | .packetLifetimeDiscard k birth => Sys2Proof.Machine.execPacketLifetimeDiscard k birth s
  | .epochBoundary k => Sys2Proof.Machine.execEpochBoundary k s
  | .guaranteedFlit k hub stop chan queue data poison ring hop slot => Sys2Proof.Machine.execGuaranteedFlit k hub stop chan queue data poison ring hop slot s
  | .ringWinDataAccess k write v => Sys2Proof.Machine.execRingWinDataAccess k write v s
  | .localStoreRequest k ix p write block be data => Sys2Proof.Machine.execLocalStoreRequest k ix p write block be data s
  | .localStoreResponse k ix p => Sys2Proof.Machine.execLocalStoreResponse k ix p s
  | .refresh k m made => Sys2Proof.Machine.execRefresh k m made s
  | .errorLogEntry k => Sys2Proof.Machine.execErrorLogEntry k s
  | .scrubVisit k n => Sys2Proof.Machine.execScrubVisit k n s
  | .lapLimitExceeded k n => Sys2Proof.Machine.execLapLimitExceeded k n s
  | .persistentSymbol k link symbol mask => Sys2Proof.Machine.execPersistentSymbol k link symbol mask s
  | .injectArm k target symA symB => Sys2Proof.Machine.execInjectArm k target symA symB s
  | .logClearCe k => Sys2Proof.Machine.execLogClearCe k s
  | .logClearUe k => Sys2Proof.Machine.execLogClearUe k s
  | .dmaNone k n op => Sys2Proof.Machine.execDmaNone k n op s
  | .dmaStart k n => Sys2Proof.Machine.execDmaStart k n s
  | .dmaStop k n => Sys2Proof.Machine.execDmaStop k n s
  | .dmaResume k n => Sys2Proof.Machine.execDmaResume k n s
  | .dmaSkip k n => Sys2Proof.Machine.execDmaSkip k n s
  | .dmaReset k n => Sys2Proof.Machine.execDmaReset k n s
  | .dmaGroupRead k n => Sys2Proof.Machine.execDmaGroupRead k n s
  | .dmaDataResponse k n ix p ext data => Sys2Proof.Machine.execDmaDataResponse k n ix p ext data s
  | .dmaGroupComplete k n => Sys2Proof.Machine.execDmaGroupComplete k n s
  | .dmaStopped k n => Sys2Proof.Machine.execDmaStopped k n s
  | .leafReencryptComplete k region leaf => Sys2Proof.Machine.execLeafReencryptComplete k region leaf s
  | .rekeyRequest k region new clear => Sys2Proof.Machine.execRekeyRequest k region new clear s
  | .rekeyLeaf k => Sys2Proof.Machine.execRekeyLeaf k s
  | .rekeyComplete k => Sys2Proof.Machine.execRekeyComplete k s
  | .kcmdNone k slot op entry => Sys2Proof.Machine.execKcmdNone k slot op entry s
  | .generate k slot entry => Sys2Proof.Machine.execGenerate k slot entry s
  | .keyLoad k slot entry => Sys2Proof.Machine.execKeyLoad k slot entry s
  | .unwrap k slot entry => Sys2Proof.Machine.execUnwrap k slot entry s
  | .keyStore k slot entry => Sys2Proof.Machine.execKeyStore k slot entry s
  | .keyClear k slot entry => Sys2Proof.Machine.execKeyClear k slot entry s
  | .keyErase k slot entry => Sys2Proof.Machine.execKeyErase k slot entry s
  | .previousKeyHoldExpiry k a => Sys2Proof.Machine.execPreviousKeyHoldExpiry k a s
  | .laneEnable k n v => Sys2Proof.Machine.execLaneEnable k n v s
  | .laneDisable k n => Sys2Proof.Machine.execLaneDisable k n s
  | .laneStageComplete k n inv height width => Sys2Proof.Machine.execLaneStageComplete k n inv height width s
  | .laneStageOverrun k n => Sys2Proof.Machine.execLaneStageOverrun k n s
  | .laneRestart k n => Sys2Proof.Machine.execLaneRestart k n s
  | .lossOfSignal k n => Sys2Proof.Machine.execLossOfSignal k n s
  | .syncHeaderErrors k n => Sys2Proof.Machine.execSyncHeaderErrors k n s
  | .referenceClockStopped k q ab => Sys2Proof.Machine.execReferenceClockStopped k q ab s
  | .laneLoop k n v => Sys2Proof.Machine.execLaneLoop k n v s
  | .prbsGenerator k n gen pattern => Sys2Proof.Machine.execPrbsGenerator k n gen pattern s
  | .prbsChecker k n chk pattern lock errors => Sys2Proof.Machine.execPrbsChecker k n chk pattern lock errors s
  | .laneInject k n => Sys2Proof.Machine.execLaneInject k n s
  | .trainingFrame k n inv f => Sys2Proof.Machine.execTrainingFrame k n inv f s
  | .marker k n f => Sys2Proof.Machine.execMarker k n f s
  | .lacingUnitReceive k l seq guaranteed enc kp cls queue flits tag ce broken far => Sys2Proof.Machine.execLacingUnitReceive k l seq guaranteed enc kp cls queue flits tag ce broken far s
  | .lacingUnitSend k l cls n => Sys2Proof.Machine.execLacingUnitSend k l cls n s
  | .credit k l ack nak req rsp guar => Sys2Proof.Machine.execCredit k l ack nak req rsp guar s
  | .creditSend k l => Sys2Proof.Machine.execCreditSend k l s
  | .nakRepeat k l => Sys2Proof.Machine.execNakRepeat k l s
  | .resendTimer k l => Sys2Proof.Machine.execResendTimer k l s
  | .laceEnable k l => Sys2Proof.Machine.execLaceEnable k l s
  | .laceDisable k l => Sys2Proof.Machine.execLaceDisable k l s
  | .retrainTimeout k l => Sys2Proof.Machine.execRetrainTimeout k l s
  | .rwinGo k l write => Sys2Proof.Machine.execRwinGo k l write s
  | .mportEnable k q v => Sys2Proof.Machine.execMportEnable k q v s
  | .mportDisable k q => Sys2Proof.Machine.execMportDisable k q s
  | .frameReceive k q frame fcsOk ce ue => Sys2Proof.Machine.execFrameReceive k q frame fcsOk ce ue s
  | .receiveBufferDrain k q e => Sys2Proof.Machine.execReceiveBufferDrain k q e s
  | .hrxDataRead k q => Sys2Proof.Machine.execHrxDataRead k q s
  | .htxDataWrite k q v => Sys2Proof.Machine.execHtxDataWrite k q v s
  | .hostFrameSend k q len tsReq => Sys2Proof.Machine.execHostFrameSend k q len tsReq s
  | .flowPacketRelease k q e => Sys2Proof.Machine.execFlowPacketRelease k q e s
  | .transmitUnit k stop chan flits => Sys2Proof.Machine.execTransmitUnit k stop chan flits s
  | .sdiEnable k q n v => Sys2Proof.Machine.execSdiEnable k q n v s
  | .sdiLineReceive k q n row sof crcOk pid codes anc => Sys2Proof.Machine.execSdiLineReceive k q n row sof crcOk pid codes anc s
  | .sdiLineTransmit k q n black => Sys2Proof.Machine.execSdiLineTransmit k q n black s
  | .clockDead k n => Sys2Proof.Machine.execClockDead k n s
  | .userPllLock k n => Sys2Proof.Machine.execUserPllLock k n s
  | .domainReset k d v => Sys2Proof.Machine.execDomainReset k d v s
  | .domainForce k d => Sys2Proof.Machine.execDomainForce k d s
  | .clockGateClose k user id => Sys2Proof.Machine.execClockGateClose k user id s
  | .gateTimeout k user id domain => Sys2Proof.Machine.execGateTimeout k user id domain s
  | .ptpMeasurement k => Sys2Proof.Machine.execPtpMeasurement k s
  | .referenceLoss k => Sys2Proof.Machine.execReferenceLoss k s
  | .houseCtlWrite k v => Sys2Proof.Machine.execHouseCtlWrite k v s
  | .timeSet k => Sys2Proof.Machine.execTimeSet k s
  | .rasterEnable k n => Sys2Proof.Machine.execRasterEnable k n s
  | .rasterDisable k n => Sys2Proof.Machine.execRasterDisable k n s
  | .frequencyMeter k target ref => Sys2Proof.Machine.execFrequencyMeter k target ref s
  | .frequencyMeterDone k edges => Sys2Proof.Machine.execFrequencyMeterDone k edges s
  | .oppRequest k layer scale volt => Sys2Proof.Machine.execOppRequest k layer scale volt s
  | .oppApplied k layer => Sys2Proof.Machine.execOppApplied k layer s
  | .regulatorSuspect k layer => Sys2Proof.Machine.execRegulatorSuspect k layer s
  | .handBackRetry k layer => Sys2Proof.Machine.execHandBackRetry k layer s
  | .regRegulate k layer => Sys2Proof.Machine.execRegRegulate k layer s
  | .regRaw k layer => Sys2Proof.Machine.execRegRaw k layer s
  | .handoverComplete k layer ok => Sys2Proof.Machine.execHandoverComplete k layer ok s
  | .supplyExcursion k supply ok => Sys2Proof.Machine.execSupplyExcursion k supply ok s
  | .temperatureSample k die readings => Sys2Proof.Machine.execTemperatureSample k die readings s
  | .thermalModelUpdate k activity powers => Sys2Proof.Machine.execThermalModelUpdate k activity powers s
  | .tripPowerRestore k => Sys2Proof.Machine.execTripPowerRestore k s
  | .ledgerRetry k => Sys2Proof.Machine.execLedgerRetry k s
  | .ledgerFlush k => Sys2Proof.Machine.execLedgerFlush k s
  | .ledgerFlushTimer k => Sys2Proof.Machine.execLedgerFlushTimer k s
  | .ledgerCommit k => Sys2Proof.Machine.execLedgerCommit k s
  | .ledgerWinDataAccess k write v => Sys2Proof.Machine.execLedgerWinDataAccess k write v s
  | .wearRecord k => Sys2Proof.Machine.execWearRecord k s
  | .hostLineFill k core addr => Sys2Proof.Machine.execHostLineFill k core addr s
  | .hostWriteBack k core addr data => Sys2Proof.Machine.execHostWriteBack k core addr data s
  | .hostUncachedLoad k core size addr => Sys2Proof.Machine.execHostUncachedLoad k core size addr s
  | .hostUncachedStore k core addr data => Sys2Proof.Machine.execHostUncachedStore k core addr data s
  | .hostRegisterAccess k core write addr v => Sys2Proof.Machine.execHostRegisterAccess k core write addr v s
  | .hostInstructionFetch k core addr => Sys2Proof.Machine.execHostInstructionFetch k core addr s
  | .hostUnsupportedAccess k core size addr data => Sys2Proof.Machine.execHostUnsupportedAccess k core size addr data s
  | .flitReplay k => Sys2Proof.Machine.execFlitReplay k s
  | .ucieModuleDown k m => Sys2Proof.Machine.execUcieModuleDown k m s
  | .ucieLinkLost => Sys2Proof.Machine.execUcieLinkLost s
  | .winDataAccess k core n write v => Sys2Proof.Machine.execWinDataAccess k core n write v s
  | .windowCollectTimeout k n => Sys2Proof.Machine.execWindowCollectTimeout k n s
  | .fence k core => Sys2Proof.Machine.execFence k core s
  | .vecEoi k core v => Sys2Proof.Machine.execVecEoi k core v s
  | .vectorLineRise k v => Sys2Proof.Machine.execVectorLineRise k v s
  | .vecCfgWrite k core v w => Sys2Proof.Machine.execVecCfgWrite k core v w s
  | .wakeInterrupt => Sys2Proof.Machine.execWakeInterrupt s
  | .gpioOutWrite k w v => Sys2Proof.Machine.execGpioOutWrite k w v s
  | .outSet k w v => Sys2Proof.Machine.execOutSet k w v s
  | .outClr k w v => Sys2Proof.Machine.execOutClr k w v s
  | .conflictClear k w v => Sys2Proof.Machine.execConflictClear k w v s
  | .lockKey k v => Sys2Proof.Machine.execLockKey k v s
  | .lockMask k w m => Sys2Proof.Machine.execLockMask k w m s
  | .xlockMask k w m => Sys2Proof.Machine.execXlockMask k w m s
  | .timestampEdge k n => Sys2Proof.Machine.execTimestampEdge k n s
  | .tsHeadPop k => Sys2Proof.Machine.execTsHeadPop k s
  | .tallyDebounce k n level => Sys2Proof.Machine.execTallyDebounce k n level s
  | .spiDataWrite k b v rx => Sys2Proof.Machine.execSpiDataWrite k b v rx s
  | .i2cCommand k b v start stop read nack ack lost rx => Sys2Proof.Machine.execI2cCommand k b v start stop read nack ack lost rx s
  | .uartDataWrite k b v => Sys2Proof.Machine.execUartDataWrite k b v s
  | .uartDataRead k b => Sys2Proof.Machine.execUartDataRead k b s
  | .uartByteReceive k b v bad => Sys2Proof.Machine.execUartByteReceive k b v bad s
  | .ltcWordReceive k b w => Sys2Proof.Machine.execLtcWordReceive k b w s
  | .mirrorExchange complete => Sys2Proof.Machine.execMirrorExchange complete s
  | .resyncFail => Sys2Proof.Machine.execResyncFail s
  | .testNone k op => Sys2Proof.Machine.execTestNone k op s
  | .testRun k => Sys2Proof.Machine.execTestRun k s
  | .testAbort k => Sys2Proof.Machine.execTestAbort k s
  | .bistGroup k failed => Sys2Proof.Machine.execBistGroup k failed s
  | .jtagBypass => Sys2Proof.Machine.execJtagBypass s
  | .jtagIdcode => Sys2Proof.Machine.execJtagIdcode s
  | .jtagSamplePreload cells => Sys2Proof.Machine.execJtagSamplePreload cells s
  | .jtagExtest cells => Sys2Proof.Machine.execJtagExtest cells s
  | .jtagClamp => Sys2Proof.Machine.execJtagClamp s
  | .jtagHighz => Sys2Proof.Machine.execJtagHighz s
  | .jtagExtestPulse cells => Sys2Proof.Machine.execJtagExtestPulse cells s
  | .jtagExtestTrain cells => Sys2Proof.Machine.execJtagExtestTrain cells s
  | .jtagLockStatus => Sys2Proof.Machine.execJtagLockStatus s
  | .jtagUnlock v => Sys2Proof.Machine.execJtagUnlock v s
  | .jtagDbgAccess k addr write v => Sys2Proof.Machine.execJtagDbgAccess k addr write v s
  | .jtagRelock k => Sys2Proof.Machine.execJtagRelock k s
  | .referenceClockRuns k q ab => Sys2Proof.Machine.execReferenceClockRuns k q ab s
  | .ucieLinkRetrained k m rate => Sys2Proof.Machine.execUcieLinkRetrained k m rate s
  | .stackUnreachable k => Sys2Proof.Machine.execStackUnreachable k s
  | .winAddrWrite k core n hi v => Sys2Proof.Machine.execWinAddrWrite k core n hi v s

end Sys2Proof.Machine
end

