-- ==== Sys2Proof/Machine/Tick.lean ====
section
/-! DEFINITION. What the block does by itself while no command waits: the next internal effect that has no row in the opcode table, else the
passage of time (log 71). -/

namespace Sys2Proof.Machine

/-- The first of a list of candidates that gives a state. -/
def firstSome (l : List (Option State)) : Option State := l.findSome? id

/-- An effect of one stack, when it is due. -/
def State.due (s : State) (k : Side) (b : Bool) (f : Stack → Stack) : Option State :=
  if b && s.hasSide k then some (s.onStack k f) else Option.none

/-- The effects of one stack that are due: steps of sleeping and waking sections (R38, R39), detours that have become
possible (R127), the policy of user PLLs (R175), queues of bypassed stops (R186), guaranteed flits received over Lacing (R449), bytes that a UART sends (R571), and host accesses that waited for a tag. -/
def State.stackTick (s : State) (k : Side) : Option State :=
  let t := s.stack k
  let sect := t.sectionNumbers.findSome? fun n => t.sectStep n
  let full := t.rings.queues.any fun e => t.stopBypassed (e.1 / 1024) (e.1 / 32 % 32)
  let idle := t.build.plls.any fun n => t.sourceRunning (0x20 + n) && t.pllUnused n
  let sends := fun b => let p := t.periph b
    p.tx != [] && t.flag (PINS.UART_CFG_EN b) && !(t.flag (PINS.UART_CFG_CTS_EN b) && s.inputLevel k b 4)
  firstSome [
    if s.hasSide k then sect.map (s.putStack k) else Option.none,
    if s.hasSide k then t.detourRetry.map (s.putStack k) else Option.none,
    s.due k idle Stack.pllPolicy,
    s.due k full Stack.drainBypass,
    (List.range t.build.laces).findSome? fun l => s.due k ((t.lace l).rxGuar != []) (Stack.laceDrain l),
    (List.range t.build.pinBanks).findSome? fun b => if s.hasSide k && sends b then some (s.uartSend k b) else Option.none,
    s.due k (t.linkUp && t.hostif.waiting != [] && (List.range 1024).any fun g => (t.ringTag 0 g).st == 0) Stack.hostWaiting]

/-- The cycles of an engine of layer index i in one period of the house clock, 8 ns: half the ring clock of the layer, which is 2.0 GHz at
full scale (R255, R508). -/
def Stack.feCycles (s : Stack) (i : Nat) : Nat := 8 * s.get (POWER.OPP_SCALE i) / 64

/-- One nanosecond of the user clocks, while a section's gates are open: each running domain has an edge in it or not, as a free value has it
(R71 to R76, R111, R114, log 104). -/
def Stack.userClocks (t : Stack) : Stack :=
  if t.sections.any fun e => e.2.clocked then (t.fabricEdge fun d => t.domainRunning d && Config.clockEdge t.freeCount d).draw else t

/-- Device time advances by 8 ns plus the servo's fractional correction (R493). -/
def Stack.houseEdge (s : Stack) : Stack :=
  let sum := (s.clk.frac : Int) + signed (s.get CLK.HOUSE_FREQ_FREQ) 32
  { s with time := (s.time + 8 + sum.fdiv 8192000000).toNat, clk := { s.clk with frac := (sum.fmod 8192000000).toNat } }

/-- One period of the house clock: device time advances where it has started, every Running engine runs, and so do the designs of the
sections whose clock gates are open; a domain in reset keeps its stream-port FIFOs empty (R255, R491, R493, log 104). -/
def Stack.pass (s : Stack) : Stack :=
  let t := s.engines.foldl (fun t e =>
    let i := e.1 / 192
    (List.range (t.feCycles i)).foldl (fun t _ => t.feRun i (e.1 % 192)) t) s
  let t := (List.range 8).foldl (fun t _ => t.userClocks) t
  let t := if t.rings.packets.all (·.arrived) then t else t.movePackets
  let t := ((List.range (8 * t.build.layers)).map (16 + ·)).foldl (fun t d => if t.flag (CLK.DRST_RESET d) then t.emptyPorts d else t) t
  let t : Stack := { t with clk := { t.clk with up := t.clk.up + 8 } }
  if t.clk.started then t.houseEdge else t

/-- The next internal effect: moves of the mode sequencer, steps of an opening of the port (R594), the state of the pair (R582), those of a
stack; else time passes. -/
def State.tick (s : State) : State :=
  let found := firstSome [
    s.modeTick,
    if s.recto.jtag.step != 0 then some s.unlockStep else Option.none,
    s.mirrorLink,
    s.stackTick .recto,
    s.stackTick .verso]
  found.getD (s.readPads.onBoth Stack.pass)

end Sys2Proof.Machine
end

