-- ==== Sys2Proof/Safety.lean ====
section
/-! DEFINITION. What a safe state and a safe run are, in the terms that claims use. -/

namespace Sys2Proof.Machine

/-- In a build with one stack, the stack that it lacks is as reset left it (R1, R2). -/
def State.AbsentUntouched (s : State) : Prop := s.build ≠ .atlas → s.verso = Stack.initial .verso s.build

/-- Both stacks are of the package's build, and each knows its side (R1, R2). -/
def State.OneBuild (s : State) : Prop :=
  s.recto.build = s.build ∧ s.verso.build = s.build ∧ s.recto.side = .recto ∧ s.verso.side = .verso

/-- The byte memories of a stack are in canonical form: addresses strictly rising, no entry equal to what an unlisted address reads as. -/
def Stack.MemoryWf (s : Stack) : Prop :=
  Memory.wf s.mem = true ∧ Memory.wf s.fabric.planeMem = true ∧ Memory.wf s.fabric.pageStore = true ∧ Memory.wf s.loader.image = true

/-- What no command touches: the build, the queue of waiting commands, and, in a build with one stack, the stack that it lacks (R1, R2). -/
def State.KeepsPackage (s t : State) : Prop := t.build = s.build ∧ t.pending = s.pending ∧ (s.build ≠ .atlas → t.verso = s.verso)

/-- The parts of a stack beside its register fields. -/
inductive Part where
  | mode | time | freeCount | mem | health | sys | ledger | sections | fabric | pages | loader | turn | integ | clk | engines | answer
  | keys | rings | localPorts | dma | lanes | laces | media | pins | hostif | bist | jtag | power | therm | pair
deriving DecidableEq, Repr

/-- A part of two stacks is the same. -/
def Stack.Same (s t : Stack) : Part → Prop
  | .mode => t.mode = s.mode
  | .time => t.time = s.time
  | .freeCount => t.freeCount = s.freeCount
  | .mem => t.mem = s.mem
  | .health => t.health = s.health
  | .sys => t.sys = s.sys
  | .ledger => t.ledger = s.ledger
  | .sections => t.sections = s.sections
  | .fabric => t.fabric = s.fabric
  | .pages => t.pages = s.pages
  | .loader => t.loader = s.loader
  | .turn => t.turn = s.turn
  | .integ => t.integ = s.integ
  | .clk => t.clk = s.clk
  | .engines => t.engines = s.engines
  | .answer => t.answer = s.answer
  | .keys => t.keys = s.keys
  | .rings => t.rings = s.rings
  | .localPorts => t.localPorts = s.localPorts
  | .dma => t.dma = s.dma
  | .lanes => t.lanes = s.lanes
  | .laces => t.laces = s.laces
  | .media => t.media = s.media
  | .pins => t.pins = s.pins
  | .hostif => t.hostif = s.hostif
  | .bist => t.bist = s.bist
  | .jtag => t.jtag = s.jtag
  | .power => t.power = s.power
  | .therm => t.therm = s.therm
  | .pair => t.pair = s.pair

/-- The frame of an effect on a stack: beside the parts and the register fields that are listed, nothing differs. -/
def Stack.OnlyChanges (s : Stack) (parts : List Part) (fields : List Field) (t : Stack) : Prop :=
  t.side = s.side ∧ t.build = s.build ∧ (∀ p, p ∉ parts → s.Same t p) ∧ ∀ f : Field, (∀ g ∈ fields, g.key ≠ f.key) → t.get f = s.get f

/-- The frame of a command's effect on one stack: the build, the queue and the other stack are as they were, and of this stack only
what is listed may differ. -/
def State.OnlyChanges (s : State) (k : Side) (parts : List Part) (fields : List Field) (t : State) : Prop :=
  t.build = s.build ∧ t.pending = s.pending ∧ (∀ j, j ≠ k → t.stack j = s.stack j) ∧ (s.stack k).OnlyChanges parts fields (t.stack k)

/-- A command completes on a stack: exec answers a next state, only the listed parts and register fields of that stack may differ in it,
and the stack is then as `post` says. -/
def Completes (c : Instr) (s : State) (k : Side) (parts : List Part) (fields : List Field) (post : Stack → Prop) : Prop :=
  ∃ t, exec c s = .next t ∧ s.OnlyChanges k parts fields t ∧ post (t.stack k)

/-- Register fields written one after the other. -/
def Stack.writes (s : Stack) (l : List (Field × Nat)) : Stack := l.foldl (fun s p => s.put p.1 p.2) s

/-- A command of SECT.CMD of instance i on section n that the state of the section permits is taken: no command is in progress, the section
is homed there, and no armed turn would change its RUN or its PAGE_SEL (R177, R191). -/
abbrev Stack.takesCommand (s : Stack) (i n : Nat) : Prop :=
  s.flag (SECT.CMD_STATUS_BUSY i) = false ∧ s.homed i n = true ∧
    (s.turnArmed = true → s.runStagedDiffers n = false ∧ s.selStagedDiffers n = false)

/-- The fields that a write of a section's RUN reaches: LIVE and RESET, each in both copies (R173, R196). -/
def Stack.runFields (s : Stack) (m : Nat) : List Field :=
  [SECT.RUN_LIVE (s.sect m).home m, (SECT.RUN_LIVE (s.sect m).home m).staged, SECT.RUN_RESET (s.sect m).home m,
    (SECT.RUN_RESET (s.sect m).home m).staged]

/-- No packet on the rings carries a request: of its opcode, source and tag none has arrived that is still to be served (R311, R312). -/
abbrev Stack.uncarried (s : Stack) (op : Nat) (h : Header) : Prop :=
  (s.rings.packets.find? fun p => p.arrived && p.op == op && p.head.src == h.src && p.head.tag == h.tag) = Option.none

/-! ## Filter engines -/

/-- What of a bank is its banked state, without the program address, the repeat levels and the pipeline (R260). -/
def FeBank.visible (b : FeBank) : FeBank :=
  { a := b.a, mode := b.mode, step := b.step, base := b.base, len := b.len, g := b.g, acc := b.acc, flags := b.flags }

/-- What of an engine its program and its ports see, without the program address, the repeat levels, the pipeline and the stall. -/
def Engine.visible (e : Engine) : Engine := { e with main := e.main.visible, shad := e.shad.visible, stall := 0 }

/-- An engine with its live bank changed (R260). -/
def Engine.live (f : FeBank → FeBank) (e : Engine) : Engine := e.modBank e.shadow f

/-- The live bank after a three-register operation with result r, carry c and overflow v, where it sets them (R285, R298). -/
def FeBank.alu (d s1 s2 : Nat) (r : Nat → Nat → Nat) (c v : Nat → Nat → Option Bool) (b : FeBank) : FeBank :=
  { b.setG d (r (b.getG s1) (b.getG s2)) with
    flags := setFlags b.flags (r (b.getG s1) (b.getG s2)) (c (b.getG s1) (b.getG s2)) (v (b.getG s1) (b.getG s2)) }

/-- Engine n of Logic layer i issues in its next cycle, and nothing stands ahead in its pipeline: it is Running in a mode that lets it run,
it takes no interrupt, every stage of a bank that advances is empty but stage F of the live bank, and its program memory has no error
(R262, R263, R267, R279). -/
abbrev Stack.feReady (s : Stack) (i n : Nat) : Prop :=
  (s.engine i n).st = 2 ∧ s.feMode = true ∧ i < s.build.layers ∧ (s.engine i n).interrupts = false ∧
  (∀ b ∈ (s.engine i n).running, ((s.engine i n).bank b).o = Option.none ∧ ((s.engine i n).bank b).e = Option.none ∧
    ((s.engine i n).bank b).w = Option.none) ∧
  ((s.engine i n).bank (s.engine i n).shadow).f.isSome = true ∧ ((s.engine i n).bank (s.engine i n).shadow).halting = false ∧
  ∀ p, s.mark ((feBase i n + 0xC000 + 4 * p) / 16) = .ok

/-- The codeword that holds an element of an engine's memory, and its quad, has no error (R257, R366). -/
abbrev Stack.feClean (s : Stack) (i n mem a : Nat) : Prop :=
  s.mark (elemLoc i n mem a / 16) = .ok ∧ s.mark (elemLoc i n mem (4 * (a / 4)) / 16) = .ok

/-- An element of an engine's memory holds a value, and no other byte of memory differs (R257). -/
def Stack.ElemStored (s : Stack) (i n mem a v : Nat) (t : Stack) : Prop :=
  t.readElem i n mem a = v % 2 ^ 14 ∧ ∀ p, p ≠ elemLoc i n mem a → p ≠ elemLoc i n mem a + 1 → t.readByte p = s.readByte p

/-- A quad of an engine's memory holds four values, and no other byte of memory differs (R257). -/
def Stack.QuadStored (s : Stack) (i n mem a : Nat) (q : List Nat) (t : Stack) : Prop :=
  (∀ h < 4, t.readElem i n mem (4 * (a / 4) + h) = q.getD h 0 % 2 ^ 14) ∧
    ∀ p, (∀ h < 4, p ≠ elemLoc i n mem (4 * (a / 4) + h) ∧ p ≠ elemLoc i n mem (4 * (a / 4) + h) + 1) → t.readByte p = s.readByte p

/-- An instruction issued by an engine runs through: exec answers a next state for it and for each of the three NOP instructions issued
after it, which bring it through stages O, E and W (R262). Of the stack only the listed parts and register fields, the engine, and the count
of free values differ then; every other engine is as it was, and this one is as `eff` makes it, the pipeline and program address apart. -/
def FeRuns (c : Instr) (s : State) (k : Side) (i n : Nat) (parts : List Part) (fields : List Field) (eff : Engine → Engine)
    (post : Stack → Prop) : Prop :=
  ∃ t1 t2 t3 t, exec c s = .next t1 ∧ exec (.iNop k i n) t1 = .next t2 ∧ exec (.iNop k i n) t2 = .next t3 ∧
    exec (.iNop k i n) t3 = .next t ∧ s.OnlyChanges k (.engines :: .freeCount :: parts) fields t ∧
    (∀ j m, 192 * j + m ≠ 192 * i + n → (t.stack k).engine j m = (s.stack k).engine j m) ∧
    ((t.stack k).engine i n).visible = (eff ((s.stack k).engine i n)).visible ∧ post (t.stack k)

/-- A machine that k steps leave running: no fault and no refusal. -/
def Runs : Nat → State → Prop
  | 0, _ => True
  | k + 1, s => ∃ t, step s = .next t ∧ Runs k t

end Sys2Proof.Machine
end

