-- ==== Sys2Proof/Certificates/Slice0/Obligations.lean ====
section
/-! DEFINITION. The statements for the provers. -/

open Sys2Proof Sys2Proof.Machine

/-- For every command and state, step of the state with the command at the front of its queue is exec of the command on the state whose queue is the rest. -/
def Obligations.StepRunsTheCommandInFront : Prop :=
  ∀ (c : Instr) (s : State), step { s with pending := c :: s.pending } = exec c s

/-- A register write whose size is not 4 bytes or whose offset is not a multiple of 4, and an aligned 32-bit write, ring register read or ring register write at an offset that the block's table does not list, live or staged, is answered with status ERROR (code 1) and no data, and nothing but the answer latch differs. A register access is addressed to a stack that the build has. -/
def Obligations.MalformedRegisterAccessIsAnsweredError : Prop :=
  (∀ (s : State) (k : Side) (block off size v : Nat), s.hasSide k = true → (size ≠ 4 ∨ off % 4 ≠ 0) →
    exec (.registerWrite k block off size v) s = .next (s.setStack k { s.stack k with answer := { status := 1, data := [] } })) ∧
  (∀ (s : State) (k : Side) (block off v : Nat), s.hasSide k = true → (s.stack k).build.regRow block off = none →
    exec (.registerWrite k block off 4 v) s = .next (s.setStack k { s.stack k with answer := { status := 1, data := [] } })) ∧
  (∀ (s : State) (k : Side) (h : Header), s.hasSide k = true →
    (s.stack k).build.regRow (blockOf (h.addr % 2 ^ 44)) (h.addr % 2 ^ 44 % 0x10000) = none →
    ((s.stack k).uncarried 5 h → exec (.ringRegRead k h) s = .next (s.setStack k { s.stack k with answer := { status := 1, data := [] } })) ∧
    ((s.stack k).uncarried 6 h → exec (.ringRegWrite k h) s = .next (s.setStack k { s.stack k with answer := { status := 1, data := [] } })))

/-- R6: fields by type. Registers of THERM and STORE start nothing when written. -/
def Obligations.RegisterFieldsTakeWritesByType : Prop :=
  ∀ (s : State) (k : Side) (block off v : Nat) (r : RegRow), s.hasSide k = true → (block = 0xB ∨ block = 4) → off < 0x8000 → v < 2 ^ 32 →
    (s.stack k).build.regRow block off = some r → (s.stack k).regAbsent block off = false →
    ∃ t, exec (.registerWrite k block off 4 v) s = .next t ∧
      ((s.stack k).uncarried 6 { src := 0, tag := 0, addr := 0xF00000000 + 0x10000 * block + off, data := v } →
        exec (.ringRegWrite k { src := 0, tag := 0, addr := 0xF00000000 + 0x10000 * block + off, data := v }) s = .next t) ∧
      (t.stack k).answer = { status := 0, data := [] } ∧
      (∀ f ∈ r.fields, (t.stack k).get (f.field block off) =
        match f.ty with
        | .rw => bits v f.lo f.width
        | .w1c => ((s.stack k).get (f.field block off) - ((s.stack k).get (f.field block off) &&& bits v f.lo f.width)) % 2 ^ f.width
        | _ => (s.stack k).get (f.field block off)) ∧
      s.OnlyChanges k [.answer] (r.fields.map fun f => f.field block off) t

/-- A write to the staged copy of a staged register of the CLK or RING block that exists in the build is answered OK. While a firmware turn is armed nothing but TURN.STATUS.LOCKED_WRITE, which is set, and the answer differs. Otherwise each staged field takes its bits of the value in its staged copy, and nothing else differs: the live copies are as before. -/
def Obligations.StagedCopiesTakeWritesUnlessATurnIsArmed : Prop :=
  ∀ (s : State) (k : Side) (block off v : Nat) (r : RegRow), s.hasSide k = true → (block = 0xA ∨ block = 3) → off < 0x8000 →
    (s.stack k).build.regRow block (0x8000 + off) = some r → (s.stack k).regAbsent block off = false →
    ∃ t, exec (.stagedCopyWrite k block off v) s = .next t ∧ (t.stack k).answer = { status := 0, data := [] } ∧
      ((s.stack k).firmwareArmed = true → (t.stack k).get TURN.STATUS_LOCKED_WRITE = 1 ∧
        s.OnlyChanges k [.answer] [TURN.STATUS_LOCKED_WRITE] t) ∧
      ((s.stack k).firmwareArmed = false →
        (∀ f ∈ stagedFields block off, (t.stack k).get (f.field block off).staged = bits v f.lo f.width) ∧
        s.OnlyChanges k [.answer] ((stagedFields block off).map fun f => (f.field block off).staged) t)

/-- In Off, OFF_TO_VIGIL puts every stack in Vigil and changes nothing else. BROWN_OUT in any state leaves every stack in Off, its byte memory and its sections lost and the registers at reset but JTAG_STAT.OPEN and OPENS, the ledger banks, the page store image and the secret zone of the colophon die kept. In Vigil with every supply within specification, WAKE and, with its timer set, VIGIL_WAKE_TIMER begin Dawn at step 1 with MODE.BUSY set. In Siesta with no wake in progress, WAKE begins the wake at step 1 of R32 and nothing but the wake's step and MODE.BUSY changes. -/
def Obligations.PowerUpAndWakeComplete : Prop :=
  (∀ s : State, s.recto.mode = .off → exec .offToVigil s = .next (s.onBoth fun t => { t with mode := .vigil })) ∧
  (∀ s : State, ∃ t, exec .brownOut s = .next t ∧ s.KeepsPackage t ∧ ∀ k, s.hasSide k = true →
    (t.stack k).mode = .off ∧ (t.stack k).mem = [] ∧ (t.stack k).sections = [] ∧ (t.stack k).health = [] ∧
    (t.stack k).ledger.banks = (s.stack k).ledger.banks ∧ (t.stack k).ledger.pend = [] ∧
    (t.stack k).loader.image = (s.stack k).loader.image ∧ (t.stack k).keys.zone = (s.stack k).keys.zone ∧
    (∀ f : Field, f.key ≠ TEST.JTAG_STAT_OPEN.key → f.key ≠ TEST.JTAG_STAT_OPENS.key → (t.stack k).get f = f.reset)) ∧
  (∀ s : State, s.recto.mode = .vigil → (∀ k, s.hasSide k = true → (s.stack k).suppliesOk = true) →
    ∃ t, exec .wake s = .next t ∧ s.KeepsPackage t ∧ ∀ k, s.hasSide k = true →
      (t.stack k).mode = .dawn ∧ (t.stack k).get SYS.DAWN_STEP = 1 ∧ (t.stack k).get SYS.MODE_BUSY = 1 ∧
      (t.stack k).ledger.banks = (s.stack k).ledger.banks ∧ (t.stack k).loader.image = (s.stack k).loader.image) ∧
  (∀ s : State, s.recto.mode = .siesta → s.recto.sys.siestaWake = 0 →
    exec .wake s = .next (s.onBoth fun t => ({ t with sys := { t.sys with siestaWake := 1 } } : Stack).put SYS.MODE_BUSY 1)) ∧
  (∀ s : State, s.recto.mode = .vigil → s.recto.flag SYS.VIGIL_TIMER_SECONDS = true →
    (∀ k, s.hasSide k = true → (s.stack k).suppliesOk = true) →
    ∃ t, exec .vigilWakeTimer s = .next t ∧ s.KeepsPackage t ∧ ∀ k, s.hasSide k = true →
      (t.stack k).mode = .dawn ∧ (t.stack k).get SYS.DAWN_STEP = 1 ∧ (t.stack k).get SYS.MODE_BUSY = 1 ∧
      (t.stack k).ledger.banks = (s.stack k).ledger.banks ∧ (t.stack k).loader.image = (s.stack k).loader.image)

/-- R29, R30, R32, R34, R42: a permitted request begins its move. That a Dusk in progress keeps BUSY set and queues the one request for Day is log 55. -/
def Obligations.RequestedMovesBegin : Prop :=
  (∀ (s : State) (a : Nat), s.recto.mode = .siesta → s.recto.flag SYS.MODE_BUSY = false →
    (∀ k, s.hasSide k = true → ∀ r ∈ (s.stack k).sys.recoveries, r.res.level < 3) →
    ∃ t, exec (.modeReqDay .recto a) s = .next t ∧ s.KeepsPackage t ∧ t.recto.get SYS.MODE_REQ_TARGET = 3 ∧
      ∀ k, s.hasSide k = true → (t.stack k).sys = { (s.stack k).sys with siestaWake := 1 } ∧ (t.stack k).get SYS.MODE_BUSY = 1 ∧
        (s.stack k).OnlyChanges [.sys] [SYS.MODE_BUSY, SYS.MODE_REQ_TARGET, SYS.MODE_REQ_AFTER_DUSK] (t.stack k)) ∧
  (∀ (s : State) (a : Nat), s.recto.mode = .dusk → s.recto.sys.duskStep < 4 → s.recto.sys.duskCritical = false →
    s.recto.sys.duskWorkshop = false → Shutdown.duskBist ∉ s.recto.sys.reenables →
    (∀ k, s.hasSide k = true → ∀ r ∈ (s.stack k).sys.recoveries, r.res.level < 3) →
    ∃ t, exec (.modeReqDay .recto a) s = .next t ∧ s.KeepsPackage t ∧ t.recto.get SYS.MODE_REQ_TARGET = 3 ∧
      ∀ k, s.hasSide k = true → Shutdown.duskBist ∈ (t.stack k).sys.reenables ∧ (t.stack k).get SYS.MODE_BUSY = 1 ∧
        (s.stack k).OnlyChanges [.sys, .bist] [SYS.MODE_BUSY, SYS.MODE_REQ_TARGET, SYS.MODE_REQ_AFTER_DUSK] (t.stack k)) ∧
  (∀ (s : State) (a : Nat), s.recto.mode = .day → s.recto.flag SYS.MODE_BUSY = false →
    (∀ k, s.hasSide k = true → (s.stack k).flag TURN.STATUS_PENDING = false ∧ (s.stack k).turn.waiting = [] ∧ ∀ r ∈ (s.stack k).sys.recoveries, r.res.level < 3) →
    ∃ t, exec (.modeReqSiesta .recto a) s = .next t ∧ s.KeepsPackage t ∧ t.recto.get SYS.MODE_REQ_TARGET = 4 ∧
      ∀ k, s.hasSide k = true → (t.stack k).sys = { (s.stack k).sys with siestaEntry := true } ∧ (t.stack k).get SYS.MODE_BUSY = 1 ∧
        (t.stack k).turn.dev = some .stopSiesta ∧ (t.stack k).get TURN.STATUS_PENDING = 1 ∧
        (s.stack k).OnlyChanges [.sys, .turn] [SYS.MODE_BUSY, SYS.MODE_REQ_TARGET, SYS.MODE_REQ_AFTER_DUSK, TURN.ITEMS_COUNT,
          TURN.SEQ_NEXT, TURN.STATUS_PENDING, TURN.STATUS_STAGE, TURN.STATUS_DEVICE] (t.stack k)) ∧
  (∀ (s : State) (a : Nat), (s.recto.mode = .day ∨ s.recto.mode = .workshop) → s.recto.flag SYS.MODE_BUSY = false →
    (∀ k, s.hasSide k = true → (s.stack k).flag TURN.STATUS_PENDING = false ∧ (s.stack k).turn.waiting = [] ∧ ∀ r ∈ (s.stack k).sys.recoveries, r.res.level < 3) →
    ∃ t, exec (.modeReqDusk .recto a) s = .next t ∧ s.KeepsPackage t ∧ t.recto.get SYS.MODE_REQ_TARGET = 6 ∧
      ∀ k, s.hasSide k = true → (t.stack k).mode = .dusk ∧ (t.stack k).sys.duskStep = 1 ∧ (t.stack k).sys.duskCritical = false ∧
        (t.stack k).get SYS.MODE_BUSY = 1 ∧ (t.stack k).turn.dev = some .stopDusk ∧ (t.stack k).get TURN.STATUS_PENDING = 1 ∧
        ∀ n < 32, (t.stack k).get (DMA.STATE_STATE n) = if (s.stack k).get (DMA.STATE_STATE n) = 1 then 2 else (s.stack k).get (DMA.STATE_STATE n)) ∧
  (∀ (s : State) (a : Nat), s.recto.mode = .haven → s.recto.flag SYS.MODE_BUSY = false →
    (∀ k, s.hasSide k = true → ∀ r ∈ (s.stack k).sys.recoveries, r.res.level < 3) →
    ∃ t, exec (.modeReqDawn .recto a) s = .next t ∧ s.KeepsPackage t ∧ ∀ k, s.hasSide k = true →
      (t.stack k).mode = .dawn ∧ (t.stack k).get SYS.DAWN_STEP = 1 ∧ (t.stack k).get SYS.MODE_BUSY = 1 ∧
      (t.stack k).ledger.banks = (s.stack k).ledger.banks) ∧
  (∀ (s : State) (a : Nat), s.recto.mode = .haven → s.recto.flag SYS.MODE_BUSY = false →
    (∀ k, s.hasSide k = true → ∀ r ∈ (s.stack k).sys.recoveries, r.res.level < 3) →
    ∃ t, exec (.modeReqVigil .recto a) s = .next t ∧ s.KeepsPackage t ∧ ∀ k, s.hasSide k = true →
      (t.stack k).mode = .vigil ∧ (t.stack k).mem = [] ∧ (t.stack k).sections = [] ∧
      (t.stack k).ledger.banks = (s.stack k).ledger.banks ∧ (t.stack k).ledger.pend = (s.stack k).ledger.pend)

/-- A write of recto's SYS.MODE_REQ that asks for Workshop or Haven, in any mode, or for Day in Day, Workshop or Haven, or for Siesta outside Day, or for Dusk in Siesta, Dusk or Haven, or for Dawn or Vigil outside Haven, is refused: every stack reports MODE.REFUSED = 1 with MODE.REFUSE_CAUSE = 1 and raises INT.MODE_REFUSED, and nothing but these fields and the held request differs; the mode is the same. -/
def Obligations.ForbiddenMovesAreRefused : Prop :=
  ∀ (s : State) (a : Nat) (c : Instr),
    (c = .modeReqWorkshop .recto a ∨ c = .modeReqHaven .recto a ∨
      (c = .modeReqDay .recto a ∧ s.recto.mode ∈ [.day, .workshop, .haven]) ∨
      (c = .modeReqSiesta .recto a ∧ s.recto.mode ≠ .day) ∨
      (c = .modeReqDusk .recto a ∧ s.recto.mode ∈ [.siesta, .dusk, .haven]) ∨
      (c = .modeReqDawn .recto a ∧ s.recto.mode ≠ .haven) ∨
      (c = .modeReqVigil .recto a ∧ s.recto.mode ≠ .haven)) →
    ∃ t, exec c s = .next t ∧ s.KeepsPackage t ∧ ∀ k, s.hasSide k = true →
      (t.stack k).get SYS.MODE_REFUSED = 1 ∧ (t.stack k).get SYS.MODE_REFUSE_CAUSE = 1 ∧ (t.stack k).get SYS.INT_MODE_REFUSED = 1 ∧
      (t.stack k).mode = (s.stack k).mode ∧
      (s.stack k).OnlyChanges [] [SYS.MODE_REFUSED, SYS.MODE_REFUSE_CAUSE, SYS.INT_MODE_REFUSED, SYS.MODE_REQ_TARGET,
        SYS.MODE_REQ_AFTER_DUSK] (t.stack k)

/-- SYS.MODE_REQ acts from recto's instance alone: each of the seven mode requests addressed to verso answers the same state. -/
def Obligations.VersoIgnoresModeRequests : Prop :=
  ∀ (s : State) (a : Nat),
    exec (.modeReqDay .verso a) s = .next s ∧ exec (.modeReqSiesta .verso a) s = .next s ∧ exec (.modeReqDusk .verso a) s = .next s ∧
    exec (.modeReqDawn .verso a) s = .next s ∧ exec (.modeReqVigil .verso a) s = .next s ∧
    exec (.modeReqWorkshop .verso a) s = .next s ∧ exec (.modeReqHaven .verso a) s = .next s

/-- In Dawn, TCXO_TIMEOUT and SYSTEM_PLL_TIMEOUT at step 1, FILL_TIMEOUT at step 5, UCIE_TRAIN_TIMEOUT at step 6, LAYER_PLL_TIMEOUT at step 8, and LOCK_TIMEOUT while a stack waits for locks at Dawn, move every stack of the package to Haven, with DAWN_FAIL holding 1, 2, 7, 8, 0xA and 0xD in turn, DAWN.STEP 0, MODE.BUSY 0, INT.MODE_DONE raised and every output in safe state; no section stays Asleep, Live or Capturing. That INT.MODE_DONE also reports this move, and that every output of the override state changes at once, is the model's reading (log 72). -/
def Obligations.DawnFailuresEnterHaven : Prop :=
  ∀ (s : State) (c : Instr) (cause : Nat),
    ((s.recto.mode = .dawn ∧ ((c = .tcxoTimeout ∧ s.recto.get SYS.DAWN_STEP = 1 ∧ cause = 1) ∨
      (c = .systemPllTimeout ∧ s.recto.get SYS.DAWN_STEP = 1 ∧ cause = 2) ∨ (c = .fillTimeout ∧ s.recto.get SYS.DAWN_STEP = 5 ∧ cause = 7) ∨
      (c = .ucieTrainTimeout ∧ s.recto.get SYS.DAWN_STEP = 6 ∧ cause = 8) ∨
      (c = .layerPllTimeout ∧ s.recto.get SYS.DAWN_STEP = 8 ∧ cause = 0xA))) ∨
      (∃ j, c = .lockTimeout j ∧ s.hasSide j = true ∧ (s.stack j).sys.release.locks = true ∧
        (s.stack j).sys.release.recovery = false ∧ cause = 0xD)) →
    ∃ t, exec c s = .next t ∧ s.KeepsPackage t ∧ ∀ k, s.hasSide k = true →
      (t.stack k).mode = .haven ∧ (t.stack k).get SYS.DAWN_FAIL = cause ∧ (t.stack k).get SYS.DAWN_STEP = 0 ∧
      (t.stack k).get SYS.MODE_BUSY = 0 ∧ (t.stack k).get SYS.INT_MODE_DONE = 1 ∧ (t.stack k).sys.outputs = .safe

/-- While a release step's delay runs before the last step, RELEASE_DELAY_EXPIRY moves to the next release step and changes nothing else; after the last step of Dawn in a build of one stack none of whose vertical data links is retired it ends Dawn in Day. While a stack waits for locks and the loops of LOCK_MASK report lock, LOCKS_REPORTED ends the wait and starts the step's delay. With a return to Day queued in Dusk step 3, the boundary of kind 1 returns the package to Day, outputs overridden until the next turn that applies. -/
def Obligations.ReleaseStepsAndReenablesComplete : Prop :=
  (∀ (s : State) (k : Side), s.hasSide k = true → (s.stack k).sys.release.active = true → (s.stack k).sys.release.delay = true →
    (s.stack k).sys.release.idx < 3 →
    exec (.releaseDelayExpiry k) s = .next (s.setStack k { s.stack k with
      sys := { (s.stack k).sys with release := { (s.stack k).sys.release with idx := (s.stack k).sys.release.idx + 1, delay := false } } })) ∧
  (∀ s : State, s.build ≠ .atlas → s.recto.mode = .dawn → s.recto.get SYS.DAWN_STEP = 10 → s.recto.sys.release.active = true →
    s.recto.sys.release.delay = true → s.recto.sys.release.idx = 3 → s.recto.sys.release.recovery = false →
    (∀ l ∈ s.recto.build.links, (s.recto.vlink l).state ≠ 2) →
    ∃ t, exec (.releaseDelayExpiry .recto) s = .next t ∧ t.recto.mode = .day ∧ t.recto.sys = { s.recto.sys with release := {} } ∧
      t.recto.get SYS.DAWN_STEP = 0 ∧ t.recto.get SYS.MODE_BUSY = 0 ∧ t.recto.get SYS.INT_MODE_DONE = 1 ∧
      s.OnlyChanges .recto [.mode, .sys] [SYS.DAWN_STEP, SYS.MODE_BUSY, SYS.INT_MODE_DONE] t) ∧
  (∀ (s : State) (k : Side), s.hasSide k = true → (s.stack k).sys.release.locks = true → (s.stack k).locksMet = true →
    exec (.locksReported k) s = .next (s.setStack k { s.stack k with
      sys := { (s.stack k).sys with release := { (s.stack k).sys.release with locks := false, delay := true } } })) ∧
  (∀ (s : State) (k : Side) (n : Nat), s.hasSide k = true → s.recto.mode = .dusk → (s.stack k).sys.duskStep = 3 →
    Shutdown.duskBist ∈ (s.stack k).sys.reenables →
    ∃ t, exec (.reenableAtSafeBoundary k 1 n) s = .next t ∧ s.KeepsPackage t ∧ ∀ j, s.hasSide j = true →
      (t.stack j).mode = .day ∧ (t.stack j).sys.duskStep = 0 ∧ (t.stack j).sys.overrideUntilTurn = true ∧
      Shutdown.duskBist ∉ (t.stack j).sys.reenables ∧ (t.stack j).get SYS.MODE_BUSY = 0 ∧ (t.stack j).get SYS.INT_MODE_DONE = 1)

/-- Outside Haven and the mirrored pair, with no recovery in progress, no turn armed and no device turn waiting, a stack-level fault of a block records its event, starts the recovery of the stack with RECOV.BUSY, RECOV.LEVEL 3 and INT.RECOV, and makes the safe-output turn. When a stack recovery is the only one in progress, RECOVERY_COMPLETE ends it, clears the RECOVERY hold bit of every section and records the completion; RECOVERY_LIMIT escalates it to the device: every stack of the package enters Haven with no recovery in progress. -/
def Obligations.RecoveriesStartCompleteAndEscalate : Prop :=
  (∀ (s : State) (k : Side) (block cause : Nat), s.hasSide k = true → (s.stack k).mode ≠ .haven → (s.stack k).sys.recoveries = [] →
    s.recto.flag PINS.PAIR_MODE = false → (s.stack k).turnArmed = false → (s.stack k).turn.waiting = [] →
    Completes (.baseRingFault k block cause) s k [.sys, .ledger, .turn]
      [SYS.RECOV_BUSY, SYS.RECOV_LEVEL, SYS.INT_RECOV, LEDGER.PEND_HELD, LEDGER.PEND_DROPPED, TURN.ITEMS_COUNT, TURN.SEQ_NEXT,
        TURN.STATUS_PENDING, TURN.STATUS_STAGE, TURN.STATUS_DEVICE] fun t =>
      t.sys.recoveries = [⟨.stack, block, cause⟩] ∧ t.get SYS.RECOV_BUSY = 1 ∧ t.get SYS.RECOV_LEVEL = 3 ∧ t.get SYS.INT_RECOV = 1 ∧
      t.turn.dev = some .safeOutput ∧ t.ledger = ((s.stack k).event { block := block, cause := cause, level := 3 }).ledger) ∧
  (∀ (s : State) (k : Side) (id block cause : Nat), s.hasSide k = true → (s.stack k).sys.recoveries = [⟨.stack, block, cause⟩] →
    Completes (.recoveryComplete k 3 id) s k [.sys, .ledger, .sections]
      [SYS.RECOV_BUSY, SYS.RECOV_LEVEL, LEDGER.PEND_HELD, LEDGER.PEND_DROPPED] fun t =>
      t.sys.recoveries = [] ∧ t.get SYS.RECOV_BUSY = 0 ∧ t.get SYS.RECOV_LEVEL = 0 ∧
      t.sections = ((s.stack k).modSects (s.stack k).sectionNumbers fun x => { x with hold := setBit x.hold 0 false }).sections) ∧
  (∀ (s : State) (k : Side) (id block cause : Nat), s.hasSide k = true → (∀ j, s.hasSide j = true → (s.stack j).mode ≠ .haven) →
    (s.stack k).sys.recoveries = [⟨.stack, block, cause⟩] →
    ∃ t, exec (.recoveryLimit k 3 id) s = .next t ∧ s.KeepsPackage t ∧ ∀ j, s.hasSide j = true →
      (t.stack j).mode = .haven ∧ (t.stack j).sys.recoveries = [] ∧ (t.stack j).sys.outputs = .safe ∧ (t.stack j).get SYS.MODE_BUSY = 0)

/-- A design read on a clocked leaf-memory port beyond the depth of the port's aspect ratio answers zero with the error flag; below it, with a codeword that is clean, the unit addressed stands at the port and is answered; neither changes anything but the answer and the port. A design write below the depth, after enable writes, stores the unit into its 16-byte word (bits 127 and 126 zero in sample mode; of a write on port B at the edge of a write on port A only the bits that port A leaves) and no byte outside the word differs. In Day a logical track found failed at a boundary whose ends are idle takes the first free spare, and the repair map is written. A mesochronous group's capture phase moves one step up or down when a microsecond has passed since its last step. -/
def Obligations.FabricAccessesComplete : Prop :=
  (∀ (s : State) (k : Side) (layer tile m port a : Nat), s.hasSide k = true → (s.stack k).leafClocked ⟨layer, tile⟩ m port = true →
    (leafShape ((s.stack k).leafPort ⟨layer, tile⟩ m port).ratio).2.1 ≤ a →
    Completes (.leafPortRead k layer tile m port a) s k [.answer, .fabric] [] fun t => t.answer = { status := 0, data := [0, 1, 0, 0] }) ∧
  (∀ (s : State) (k : Side) (layer tile m port a : Nat), s.hasSide k = true → (s.stack k).leafClocked ⟨layer, tile⟩ m port = true →
    let sh := leafShape ((s.stack k).leafPort ⟨layer, tile⟩ m port).ratio
    a < sh.2.1 → (s.stack k).mark (leafWord ⟨layer, tile⟩ m (a / sh.2.2) / 16) = .ok →
    Completes (.leafPortRead k layer tile m port a) s k [.answer, .fabric] [] fun t =>
      t.answer.status = 0 ∧ t.answer.data.drop 1 = [0, 0, 0] ∧
      (t.leafPort ⟨layer, tile⟩ m port).data =
        BitVec.ofNat 131 (bits (ofBytes ((s.stack k).readBytes (leafWord ⟨layer, tile⟩ m (a / sh.2.2)) 16)) (sh.1 * (a % sh.2.2)) sh.1) ∧
      t.answer.data.head? = some (bits (t.leafPort ⟨layer, tile⟩ m port).data.toNat 0 128)) ∧
  (∀ (s : State) (k : Side) (layer tile m port a v : Nat) (same : Bool), s.hasSide k = true → (s.stack k).leafClocked ⟨layer, tile⟩ m port = true →
    (s.stack k).sys.writesEnabled = true → (s.stack k).flag CODE.INJECT_ARM = false →
    let y := (s.stack k).leafPort ⟨layer, tile⟩ m port
    let sh := leafShape y.ratio
    let w := leafWord ⟨layer, tile⟩ m (a / sh.2.2)
    let lo := sh.1 * (a % sh.2.2)
    let mask := BitVec.ofNat 128 ((2 ^ sh.1 - 1) * 2 ^ lo)
    let keep := (s.stack k).leafMask ⟨layer, tile⟩ m port w same mask
    let old := BitVec.ofNat 128 (ofBytes ((s.stack k).readBytes w 16))
    let new := ((old &&& ~~~keep) ||| (BitVec.ofNat 128 (v * 2 ^ lo) &&& keep)).toNat
    a < sh.2.1 → (s.stack k).mark (w / 16) = .ok →
    Completes (.leafPortWrite k layer tile m ⟨port, same⟩ a v) s k [.mem, .health, .answer, .fabric] [] fun t =>
      t.readBytes w 16 = toBytes 16 (if y.ratio = 4 then new % 2 ^ 126 else new) ∧ t.answer = { status := 0, data := [0] } ∧
      (same = false → keep = mask) ∧ ∀ b, (b < w ∨ w + 16 ≤ b) → t.readByte b = (s.stack k).readByte b) ∧
  (∀ (s : State) (k : Side) (b tile id : Nat), s.hasSide k = true → b + 1 < (s.stack k).build.layers → tile < 1200 → id < 96 →
    (s.stack k).mode = .day →
    (s.stack k).endsIdle b tile = true → (s.stack k).spareOf b tile id = none → (s.stack k).vbyte b tile 0 = 0x7F →
    Completes (.vtrackPeriodicTest k b tile [id]) s k [.integ, .ledger] [] fun t => t.vbyte b tile 0 = id ∧
      ∀ b' t' i, (b' * 1200 + t') * 8 + i ≠ (b * 1200 + tile) * 8 → t.vbyte b' t' i = (s.stack k).vbyte b' t' i) ∧
  (∀ (s : State) (k : Side) (b tile j n : Nat) (up : Bool), s.hasSide k = true → (s.stack k).ownerOf (groupTile b tile j) = some n →
    bits ((s.stack k).fabric.group (groupTile b tile j) ((s.stack k).livePlane n) j) 0 2 = 1 →
    mapGet 0 (s.stack k).integ.phaseAt (phaseKey b tile j) + 999 ≤ (s.stack k).clk.up →
    Completes (.bridgePhaseTrack k b tile j up) s k [.integ] [] fun t =>
      mapGet 0 t.integ.phases (phaseKey b tile j) =
        wrapInt 16 (signed (mapGet 0 (s.stack k).integ.phases (phaseKey b tile j)) 16 + (if up then 1 else -1)) ∧
      mapGet 0 t.integ.phaseAt (phaseKey b tile j) = (s.stack k).clk.up + 1)

/-- For a command that instance i takes on section n (no command in progress, the section homed there, no armed turn that changes its RUN or PAGE_SEL): SLEEP of a Live idle section writes RUN.LIVE 0 into both copies for it and its descendants, and into both copies of the descendants' RUN.RESET the section's own, and begins the sleep entry of the Live ones; WAKE of an Asleep section with no tile boundary exhausted writes RUN.LIVE 1 and RESET the same way and begins the wake of the Asleep ones; where RESET is not 1 neither touches the fabric; RESET_PULSE asserts the reset of the family; HOLD sets FIRMWARE in the Asleep, Live, Capturing, Testing and Held members, makes the Asleep and Live ones Held, ends the commands of those that were going to sleep or waking, and is BUSY where the section captures or is tested; CLEAR_HOLD clears FIRMWARE; DISCARD makes the family Empty, without domains or detours; REMOVE ends it; codes 0 and 9 to 15 hold their fields and do nothing else. Only the fields and parts named in each clause differ, and sections outside the family are as they were (DISCARD and REMOVE may change the domains that they use). RESET_PULSE_END ends the reset of the family. RUN and the free registers that a clause does not name are unchanged. -/
def Obligations.SectionCommandsComplete : Prop :=
  (∀ (s : State) (k : Side) (i n op : Nat), s.hasSide k = true → (s.stack k).takesCommand i n →
    Completes (.sectNone k i n op) s k [] [SECT.CMD_SECTION i, SECT.CMD_OP i, SECT.CMD_STATUS_RESULT i] fun t =>
      t.get (SECT.CMD_SECTION i) = n % 1024 ∧ t.get (SECT.CMD_OP i) = op % 16 ∧ t.get (SECT.CMD_STATUS_RESULT i) = 0) ∧
  (∀ (s : State) (k : Side) (i n : Nat), s.hasSide k = true → n < 1024 → (s.stack k).takesCommand i n → ((s.stack k).sect n).state = .live →
    ((s.stack k).sect n).seq = .idle →
    Completes (.sectSleep k i n) s k [.sections, .rings, .fabric] ([SECT.CMD_SECTION i, SECT.CMD_OP i, SECT.CMD_STATUS_RESULT i, SECT.CMD_STATUS_BUSY i,
        RING.DISCARD_BYPASS, RING.INT_DISCARD] ++ ((s.stack k).family n).flatMap (s.stack k).runFields) fun t =>
      (∀ m ∈ (s.stack k).family n, ((s.stack k).sect m).state = .live → (t.sect m).seq = .sleep 1) ∧
      (∀ m, (t.sect m).state = ((s.stack k).sect m).state) ∧
      (∀ m, m ∉ (s.stack k).family n → m ≠ n → t.sect m = (s.stack k).sect m) ∧
      (∀ m ∈ (s.stack k).family n, m < 1024 → t.get (SECT.RUN_LIVE ((s.stack k).sect m).home m) = 0 ∧
        t.get (SECT.RUN_LIVE ((s.stack k).sect m).home m).staged = 0 ∧
        (m ≠ n → t.get (SECT.RUN_RESET ((s.stack k).sect m).home m) = (s.stack k).get (SECT.RUN_RESET ((s.stack k).sect n).home n) % 2 ∧
          t.get (SECT.RUN_RESET ((s.stack k).sect m).home m).staged = (s.stack k).get (SECT.RUN_RESET ((s.stack k).sect n).home n) % 2)) ∧
      ((s.stack k).get (SECT.RUN_RESET ((s.stack k).sect n).home n) ≠ 1 → t.fabric = (s.stack k).fabric)) ∧
  (∀ (s : State) (k : Side) (i n : Nat), s.hasSide k = true → n < 1024 → (s.stack k).takesCommand i n → ((s.stack k).sect n).state = .asleep →
    (∀ b t, (s.stack k).exhausted b t = false) →
    Completes (.sectWake k i n) s k [.sections, .fabric] ([SECT.CMD_SECTION i, SECT.CMD_OP i, SECT.CMD_STATUS_RESULT i, SECT.CMD_STATUS_BUSY i] ++
        ((s.stack k).family n).flatMap (s.stack k).runFields) fun t =>
      (∀ m ∈ (s.stack k).family n, ((s.stack k).sect m).state = .asleep → (t.sect m).seq = .wake 0) ∧
      (∀ m, (t.sect m).state = ((s.stack k).sect m).state) ∧
      (∀ m, m ∉ (s.stack k).family n → m ≠ n → t.sect m = (s.stack k).sect m) ∧
      (∀ m ∈ (s.stack k).family n, m < 1024 → t.get (SECT.RUN_LIVE ((s.stack k).sect m).home m) = 1 ∧
        t.get (SECT.RUN_LIVE ((s.stack k).sect m).home m).staged = 1 ∧
        (m ≠ n → t.get (SECT.RUN_RESET ((s.stack k).sect m).home m) = (s.stack k).get (SECT.RUN_RESET ((s.stack k).sect n).home n) % 2 ∧
          t.get (SECT.RUN_RESET ((s.stack k).sect m).home m).staged = (s.stack k).get (SECT.RUN_RESET ((s.stack k).sect n).home n) % 2)) ∧
      ((s.stack k).get (SECT.RUN_RESET ((s.stack k).sect n).home n) ≠ 1 → t.fabric = (s.stack k).fabric)) ∧
  (∀ (s : State) (k : Side) (i n : Nat), s.hasSide k = true → (s.stack k).takesCommand i n →
    ((s.stack k).sect n).state ∈ [.live, .asleep, .held] →
    Completes (.resetPulse k i n) s k [.sections, .fabric]
      [SECT.CMD_SECTION i, SECT.CMD_OP i, SECT.CMD_STATUS_RESULT i, SECT.CMD_STATUS_BUSY i] fun t =>
      (∀ m ∈ (s.stack k).family n, (t.sect m).resetPulse = true) ∧ (∀ m, (t.sect m).state = ((s.stack k).sect m).state) ∧
      t.fabric = (s.stack k).fabric.resetFlipFlops ((s.stack k).sect n).tiles (t.livePlane n)) ∧
  (∀ (s : State) (k : Side) (n : Nat), s.hasSide k = true → ((s.stack k).sect n).resetPulse = true → ((s.stack k).sect n).cmdBusy = false →
    Completes (.resetPulseEnd k n) s k [.sections] [] fun t =>
      (∀ m ∈ (s.stack k).family n, (t.sect m).resetPulse = false) ∧ (∀ m, (t.sect m).state = ((s.stack k).sect m).state)) ∧
  (∀ (s : State) (k : Side) (i n : Nat), s.hasSide k = true → (s.stack k).takesCommand i n →
    ((s.stack k).sect n).state ∈ [.asleep, .live, .capturing, .testing] →
    Completes (.hold k i n) s k [.sections, .rings]
      ([SECT.CMD_SECTION i, SECT.CMD_OP i, SECT.CMD_STATUS_RESULT i, RING.DISCARD_BYPASS, RING.INT_DISCARD, SECT.CMD_STATUS_BUSY i] ++
        ((s.stack k).family n).map fun m => SECT.CMD_STATUS_BUSY ((s.stack k).sect m).home) fun t =>
      (∀ m ∈ (s.stack k).family n, ((s.stack k).sect m).state ∈ [.asleep, .live] → (t.sect m).state = .held) ∧
      (∀ m ∈ (s.stack k).family n, ((s.stack k).sect m).state ∈ [.asleep, .live, .capturing, .testing, .held] → bit (t.sect m).hold 4 = true) ∧
      (∀ m, m ∉ (s.stack k).family n → m ≠ n → t.sect m = (s.stack k).sect m) ∧
      (((s.stack k).sect n).state ∈ [.capturing, .testing] → t.get (SECT.CMD_STATUS_BUSY i) = 1)) ∧
  (∀ (s : State) (k : Side) (i n : Nat), s.hasSide k = true → (s.stack k).takesCommand i n → ((s.stack k).sect n).state = .held →
    Completes (.clearHold k i n) s k [.sections] [SECT.CMD_SECTION i, SECT.CMD_OP i, SECT.CMD_STATUS_RESULT i] fun t =>
      (∀ m ∈ (s.stack k).family n, bit (t.sect m).hold 4 = false) ∧ (∀ m, (t.sect m).state = ((s.stack k).sect m).state) ∧
      (∀ m, m ∉ (s.stack k).family n → t.sect m = (s.stack k).sect m)) ∧
  (∀ (s : State) (k : Side) (i n : Nat), s.hasSide k = true → (s.stack k).takesCommand i n →
    ((s.stack k).sect n).state ∈ [.asleep, .held, .torn] →
    (∀ m ∈ (s.stack k).family n, ((s.stack k).sect m).state ∈ [.asleep, .held, .torn, .empty]) →
    Completes (.discard k i n) s k [.sections, .pages, .fabric, .integ, .ledger] [SECT.CMD_SECTION i, SECT.CMD_OP i, SECT.CMD_STATUS_RESULT i] fun t =>
      (∀ m ∈ (s.stack k).family n, (t.sect m).state = .empty ∧ (t.sect m).doms = [] ∧ (t.sect m).detour = Option.none) ∧
      (∀ m, m ∉ (s.stack k).family n → t.sect m = { (s.stack k).sect m with doms := (t.sect m).doms }) ∧
      (((s.stack k).sect n).root = true → ∀ p < 4, t.plane n p = {})) ∧
  (∀ (s : State) (k : Side) (i n : Nat), s.hasSide k = true → (s.stack k).takesCommand i n →
    (∀ m ∈ (s.stack k).family n, ((s.stack k).sect m).state = .empty) →
    Completes (.remove k i n) s k [.sections] [SECT.CMD_SECTION i, SECT.CMD_OP i, SECT.CMD_STATUS_RESULT i] fun t =>
      (∀ m ∈ (s.stack k).family n, t.sect m = {}) ∧
      (∀ m, m ∉ (s.stack k).family n → t.sect m = { (s.stack k).sect m with doms := (t.sect m).doms }))

/-- For a command of SECT.PG_CMD on instance i with none in progress, homed there and not refused by R141: STAGE makes the plane Staging with the page, EVICT makes it Evicting, each with BUSY 1, RESULT 0 and DONE 0, when the page links of its layers are free and no earlier command waits for them; FREE makes the plane Free at once and sets PG_DONE; OP 0b11 holds its fields. When the page links become free, the first waiting command that is not refused begins. When a running STAGE finishes, its plane is Staged or Blocked, with the page as its source; when a running EVICT finishes, its plane is Free; BUSY is then 0 and PG_DONE set. Only the registers and parts named differ. -/
def Obligations.PageCommandsComplete : Prop :=
  (∀ (s : State) (k : Side) (i n page p : Nat), s.hasSide k = true → (s.stack k).flag (SECT.PG_STATUS_BUSY i) = false →
    exec (.pgCmdNop k i n page p) s = .next (s.setStack k ((s.stack k).writes
      [(SECT.PG_CMD_SECTION i, n), (SECT.PG_CMD_PAGE i, page), (SECT.PG_CMD_PLANE i, p), (SECT.PG_CMD_OP i, 3)]))) ∧
  (∀ (s : State) (k : Side) (i n page p : Nat), s.hasSide k = true → (s.stack k).flag (SECT.PG_STATUS_BUSY i) = false →
    (s.stack k).homed i ((s.stack k).rootOf n) = true → ((s.stack k).sect n).state ≠ .none → (s.stack k).pageRefusal n page p 2 false = 0 →
    Completes (.free k i n page p) s k [.pages] [SECT.PG_CMD_SECTION i, SECT.PG_CMD_PAGE i, SECT.PG_CMD_PLANE i, SECT.PG_CMD_OP i,
        SECT.PG_STATUS_BUSY i, SECT.PG_STATUS_RESULT i, SECT.PG_STATUS_DONE i, SECT.INT_PG_DONE i] fun t =>
      t.plane ((s.stack k).rootOf n) p = {} ∧ t.get (SECT.PG_STATUS_BUSY i) = 0 ∧ t.get (SECT.PG_STATUS_RESULT i) = 0 ∧
      t.get (SECT.INT_PG_DONE i) = 1 ∧ (∀ r q, 4 * r + q ≠ 4 * (s.stack k).rootOf n + p → t.plane r q = (s.stack k).plane r q)) ∧
  (∀ (s : State) (k : Side) (i n page p : Nat), s.hasSide k = true → (s.stack k).flag (SECT.PG_STATUS_BUSY i) = false →
    (s.stack k).homed i ((s.stack k).rootOf n) = true → ((s.stack k).sect n).state ≠ .none →
    (s.stack k).waitsBehind ((s.stack k).rootOf n) (s.stack k).pages.order = false →
    ((s.stack k).pageRefusal n page p 0 false = 0 →
      Completes (.stage k i n page p) s k [.pages] [SECT.PG_CMD_SECTION i, SECT.PG_CMD_PAGE i, SECT.PG_CMD_PLANE i, SECT.PG_CMD_OP i,
          SECT.PG_STATUS_BUSY i, SECT.PG_STATUS_RESULT i, SECT.PG_STATUS_DONE i] fun t =>
        t.plane ((s.stack k).rootOf n) p = { status := .staging, src := page, bad := false } ∧ t.get (SECT.PG_STATUS_BUSY i) = 1 ∧
        t.get (SECT.PG_STATUS_RESULT i) = 0 ∧ t.get (SECT.PG_STATUS_DONE i) = 0) ∧
    ((s.stack k).pageRefusal n page p 1 false = 0 →
      Completes (.evict k i n page p) s k [.pages] [SECT.PG_CMD_SECTION i, SECT.PG_CMD_PAGE i, SECT.PG_CMD_PLANE i, SECT.PG_CMD_OP i,
          SECT.PG_STATUS_BUSY i, SECT.PG_STATUS_RESULT i, SECT.PG_STATUS_DONE i] fun t =>
        t.plane ((s.stack k).rootOf n) p = { (s.stack k).plane ((s.stack k).rootOf n) p with status := .evicting } ∧
        t.get (SECT.PG_STATUS_BUSY i) = 1 ∧ t.get (SECT.PG_STATUS_RESULT i) = 0 ∧ t.get (SECT.PG_STATUS_DONE i) = 0)) ∧
  (∀ (s : State) (k : Side) (i : Nat) (j : PgJob), s.hasSide k = true → (s.stack k).nextWaiting = some (i, j) →
    (s.stack k).pageSection i j.sect = true → (s.stack k).pageRefusal j.sect j.page j.plane j.op false = 0 →
    Completes (.pageLinksFree k) s k [.pages] [] fun t => t.job i = { j with phase := 2 } ∧
      t.plane j.root j.plane = if j.op = 0 then { status := .staging, src := j.page, bad := false }
        else { (s.stack k).plane j.root j.plane with status := .evicting }) ∧
  (∀ (s : State) (k : Side) (i : Nat), s.hasSide k = true → ((s.stack k).job i).phase = 2 →
    ∃ t, exec (.pageCommandComplete k i) s = .next t ∧ s.KeepsPackage t ∧
      (t.stack k).get (SECT.PG_STATUS_BUSY i) = 0 ∧ (t.stack k).get (SECT.INT_PG_DONE i) = 1 ∧ (t.stack k).job i = {} ∧
      (((s.stack k).job i).op = 0 →
        ((t.stack k).plane ((s.stack k).job i).root ((s.stack k).job i).plane).status ∈ [.staged, .blocked] ∧
        ((t.stack k).plane ((s.stack k).job i).root ((s.stack k).job i).plane).src = ((s.stack k).job i).page) ∧
      (((s.stack k).job i).op ≠ 0 → (t.stack k).plane ((s.stack k).job i).root ((s.stack k).job i).plane = {}))

/-- CAP_CTL.GO of a capture that R151 does not refuse arms it (STATE 1, CAUSE 0), and a refused one reports STATE 4, its cause and CAP_DONE. At its edge (for AT_POINT, from the time of its raster position on; no armed turn that acts on the section) an armed capture that R151 does not refuse then takes the lowest Free plane, which becomes Captured with source 0x1E, the Live sections of its family become Capturing (STATE 2), and no codeword mark changes but those of the banks written. When the copy completes no section of the family stays Capturing, the commands that wait for it on sections now Held end, STATE is 3, LEN is 8 words and 4224 for each tile, and CAP_DONE is set. A read of CAP_DATA below LEN returns the image word and advances PTR; before Ready it returns 0 and sets EARLY. RELEASE returns STATE to 0 and frees the Captured plane. A read of HINGE_DATA returns the table's word (0 beyond word 39,599, and for the groups of the layer's edges) and advances ADDR with AUTOINC. -/
def Obligations.CapturesComplete : Prop :=
  (∀ (s : State) (k : Side) (i d : Nat) (a : Bool) (r : Nat), s.hasSide k = true →
    let n := (s.stack k).get (SECT.PG_CMD_SECTION i)
    let c := (s.stack k).capRefusal i n d a r (((s.stack k).cap i).phase != 0)
    let due := if a then (s.stack k).nextOccurrence r ((s.stack k).get (SECT.CAP_POINT_LINE i)) ((s.stack k).get (SECT.CAP_POINT_SAMPLE i)) (s.stack k).time
      else 0
    Completes (.capture k i d a r) s k [.pages] [SECT.CAP_CTL_DOMAIN i, SECT.CAP_CTL_AT_POINT i, SECT.CAP_CTL_RASTER i,
        SECT.CAP_STATUS_STATE i, SECT.CAP_STATUS_CAUSE i, SECT.INT_CAP_DONE i] fun t =>
      (c = 0 → t.get (SECT.CAP_STATUS_STATE i) = 1 ∧ t.get (SECT.CAP_STATUS_CAUSE i) = 0 ∧ t.cap i = { sect := n, domain := d, due := due, phase := 1 } ∧
        t.get (SECT.INT_CAP_DONE i) = (s.stack k).get (SECT.INT_CAP_DONE i)) ∧
      (c ≠ 0 → t.get (SECT.CAP_STATUS_STATE i) = 4 ∧ t.get (SECT.CAP_STATUS_CAUSE i) = c ∧ t.get (SECT.INT_CAP_DONE i) = 1 ∧
        t.pages = (s.stack k).pages)) ∧
  (∀ (s : State) (k : Side) (i p : Nat), s.hasSide k = true → ((s.stack k).cap i).phase = 1 →
    (s.stack k).freePlane ((s.stack k).rootOf ((s.stack k).cap i).sect) = some p →
    (s.stack k).capRefusal i ((s.stack k).cap i).sect ((s.stack k).cap i).domain ((s.stack k).flag (SECT.CAP_CTL_AT_POINT i))
      ((s.stack k).get (SECT.CAP_CTL_RASTER i)) false = 0 →
    ((s.stack k).cap i).due ≤ (s.stack k).time → (s.stack k).turnNames ((s.stack k).cap i).sect = false →
    Completes (.captureEdge k i) s k [.pages, .fabric, .sections, .health]
        [SECT.CAP_STATUS_STATE i, SECT.CAP_STATUS_CAUSE i, SECT.CAP_STATUS_PLANE i] fun t =>
      t.plane ((s.stack k).rootOf ((s.stack k).cap i).sect) p = { status := .captured, src := 0x1E, bad := false } ∧
      t.get (SECT.CAP_STATUS_STATE i) = 2 ∧ t.get (SECT.CAP_STATUS_PLANE i) = p % 4 ∧ (t.cap i).phase = 2 ∧ (t.cap i).plane = p ∧
      (∀ m ∈ (s.stack k).family ((s.stack k).cap i).sect, ((s.stack k).sect m).state = .live → (t.sect m).state = .capturing) ∧
      (∀ m, m ∉ (s.stack k).family ((s.stack k).cap i).sect → t.sect m = (s.stack k).sect m) ∧
      (∀ cw, cw ∉ (folioKeys ((s.stack k).sect ((s.stack k).cap i).sect).tiles p).map bankMark → t.mark cw = (s.stack k).mark cw)) ∧
  (∀ (s : State) (k : Side) (i : Nat), s.hasSide k = true → ((s.stack k).cap i).phase = 2 →
    Completes (.captureCopyComplete k i) s k [.pages, .sections] ([SECT.CAP_STATUS_STATE i, SECT.CAP_STATUS_CAUSE i, SECT.CAP_LEN_LEN i,
        SECT.INT_CAP_DONE i] ++ ((s.stack k).family ((s.stack k).cap i).sect).map fun m => SECT.CMD_STATUS_BUSY ((s.stack k).sect m).home) fun t =>
      t.get (SECT.CAP_STATUS_STATE i) = 3 ∧ t.get (SECT.INT_CAP_DONE i) = 1 ∧ (t.cap i).phase = 3 ∧
      t.get (SECT.CAP_LEN_LEN i) = (8 + 4224 * ((s.stack k).sect ((s.stack k).cap i).sect).tiles.length) % 2 ^ 24 ∧
      ∀ m ∈ (s.stack k).family ((s.stack k).cap i).sect, (t.sect m).state ≠ .capturing) ∧
  (∀ (s : State) (k : Side) (i : Nat), s.hasSide k = true →
    Completes (.captureRelease k i) s k [.pages] [SECT.CAP_STATUS_STATE i, SECT.CAP_STATUS_CAUSE i] fun t =>
      t.get (SECT.CAP_STATUS_STATE i) = 0 ∧ t.get (SECT.CAP_STATUS_CAUSE i) = 0 ∧
      (((s.stack k).cap i).phase = 3 → t.cap i = {} ∧
        (((s.stack k).plane ((s.stack k).rootOf ((s.stack k).cap i).sect) ((s.stack k).cap i).plane).status = .captured →
          t.plane ((s.stack k).rootOf ((s.stack k).cap i).sect) ((s.stack k).cap i).plane = {}))) ∧
  (∀ (s : State) (k : Side) (i : Nat), s.hasSide k = true →
    ((s.stack k).get (SECT.CAP_STATUS_STATE i) = 3 → (s.stack k).get (SECT.CAP_PTR_PTR i) < (s.stack k).get (SECT.CAP_LEN_LEN i) →
      exec (.capDataRead k i) s = .next (s.setStack k ((s.stack k).writes
        [(SECT.CAP_DATA_DATA i, (s.stack k).capWord i ((s.stack k).get (SECT.CAP_PTR_PTR i))),
         (SECT.CAP_PTR_PTR i, (s.stack k).get (SECT.CAP_PTR_PTR i) + 1)]))) ∧
    ((s.stack k).get (SECT.CAP_STATUS_STATE i) ≠ 3 →
      exec (.capDataRead k i) s = .next (s.setStack k ((s.stack k).writes [(SECT.CAP_STATUS_EARLY i, 1), (SECT.CAP_DATA_DATA i, 0)])))) ∧
  (∀ (s : State) (k : Side) (i : Nat), s.hasSide k = true →
    let a := (s.stack k).get (SECT.HINGE_ADDR_ADDR i)
    Completes (.hingeDataRead k i) s k [] [SECT.HINGE_DATA_DATA i, SECT.HINGE_ADDR_ADDR i] fun t =>
      t.get (SECT.HINGE_DATA_DATA i) = (if a < 39600 then mapGet 0 (s.stack k).fabric.hinges (i * 65536 + a) &&& (s.stack k).hingeWordMask i a else 0) % 2 ^ 32 ∧
      t.get (SECT.HINGE_ADDR_ADDR i) = if (s.stack k).flag (SECT.HINGE_ADDR_AUTOINC i) then (a + 1) % 2 ^ 16 else a)

/-- Issued by an engine with nothing ahead of it and followed by three NOPs, ADD, SUB, AND, OR, XOR, SHL, SHR, ASR, MIN and MAX write Gd with the 32-bit result of Gs1 and Gs2 and set Z and N from it; ADD and SUB set C and V (SUB: C when there is no borrow), the shifts set C to the last bit shifted out, 0 for a shift by 0, and take the low 5 bits of Gs2. CMP sets the flags of SUB and writes no register. ADDI adds a sign-extended immediate with ADD's flags; LDI loads a sign-extended immediate and LUI an upper half, both without flags. Every other register of both banks, every other engine, memory and every register field are as before. -/
def Obligations.EngineArithmeticCompletes : Prop :=
  ∀ (s : State) (k : Side) (i n d s1 s2 imm : Nat), s.hasSide k = true → (s.stack k).feReady i n →
    let runs := fun (c : Instr) (f : FeBank → FeBank) => FeRuns c s k i n [] [] (Engine.live f) fun _ => True
    let none2 := fun (_ _ : Nat) => (none : Option Bool)
    let sub := fun (a b : Nat) => (a + 2 ^ 32 - b) % 2 ^ 32
    let noBorrow := fun (a b : Nat) => some (decide (b ≤ a))
    let subOver := fun (a b : Nat) => some (overflows32 (signed a 32 - signed b 32))
    let rightOut := fun (a b : Nat) => some (b % 32 != 0 && bit a (b % 32 - 1))
    runs (.iAdd k i n d s1 s2) (FeBank.alu d s1 s2 (fun a b => (a + b) % 2 ^ 32) (fun a b => some (decide (2 ^ 32 ≤ a + b)))
      (fun a b => some (overflows32 (signed a 32 + signed b 32)))) ∧
    runs (.iSub k i n d s1 s2) (FeBank.alu d s1 s2 sub noBorrow subOver) ∧
    runs (.iAnd k i n d s1 s2) (FeBank.alu d s1 s2 (fun a b => a &&& b) none2 none2) ∧
    runs (.iOr k i n d s1 s2) (FeBank.alu d s1 s2 (fun a b => a ||| b) none2 none2) ∧
    runs (.iXor k i n d s1 s2) (FeBank.alu d s1 s2 (fun a b => a ^^^ b) none2 none2) ∧
    runs (.iShl k i n d s1 s2) (FeBank.alu d s1 s2 (fun a b => (a <<< (b % 32)) % 2 ^ 32)
      (fun a b => some (b % 32 != 0 && bit a (32 - b % 32))) none2) ∧
    runs (.iShr k i n d s1 s2) (FeBank.alu d s1 s2 (fun a b => a >>> (b % 32)) rightOut none2) ∧
    runs (.iAsr k i n d s1 s2) (FeBank.alu d s1 s2 (fun a b => wrapInt 32 ((signed a 32).fdiv (2 ^ (b % 32)))) rightOut none2) ∧
    runs (.iMin k i n d s1 s2) (FeBank.alu d s1 s2 (fun a b => if signed a 32 ≤ signed b 32 then a else b) none2 none2) ∧
    runs (.iMax k i n d s1 s2) (FeBank.alu d s1 s2 (fun a b => if signed a 32 ≤ signed b 32 then b else a) none2 none2) ∧
    runs (.iCmp k i n s1 s2) (fun b =>
      let x := b.getG s1; let y := b.getG s2
      { b with flags := setFlags b.flags (sub x y) (noBorrow x y) (subOver x y) }) ∧
    runs (.iAddi k i n d s1 imm) (fun b =>
      let x := b.getG s1; let y := wrapInt 32 (signed imm 16); let r := (x + y) % 2 ^ 32
      let f := setFlags b.flags r (some (decide (2 ^ 32 ≤ x + y))) (some (overflows32 (signed x 32 + signed y 32)))
      { b.setG d r with flags := f }) ∧
    runs (.iLdi k i n d imm) (fun b => b.setG d (wrapInt 32 (signed imm 16))) ∧
    runs (.iLui k i n d imm) (fun b => b.setG d (imm * 0x10000 + b.getG d % 0x10000))

/-- Issued by an engine with nothing ahead of it and followed by three NOPs: MACQ adds the four products of an X quad and a Y quad to the four accumulators, MACE one product of an X or Y element and a C element to one (NEG subtracts, CLR replaces, sums saturate at 48 bits and set AV, the signs as given, the address registers modified after use); CLRA clears the accumulators of MASK; MOVAG writes Gd with an accumulator shifted, rounded on request and clamped to 32 bits, setting OS on a clamp; MOVGA sign-extends a register into an accumulator; SHFA shifts the accumulators of MASK with saturation; SUMA writes one accumulator with the saturated sum of all four; STAQ stores the narrowed accumulators as a quad, sets OS on a clamp and with CLR clears them. Nothing else of the engine, no other engine and no other byte of memory changes. -/
def Obligations.EngineAccumulatorInstructionsComplete : Prop :=
  ∀ (s : State) (k : Side) (i n : Nat) (sh : Bool), s.hasSide k = true → (s.stack k).feReady i n → ((s.stack k).engine i n).shadow = sh →
    let u := s.stack k
    let b := (u.engine i n).bank sh
    let runs := fun (c : Instr) (f : FeBank → FeBank) => FeRuns c s k i n [] [] (Engine.live f) fun _ => True
    (∀ (xa ya : Nat) (ux uy neg sx sy clr : Bool), u.feClean i n 0 (b.getA xa) → u.feClean i n 1 (b.getA ya) →
      runs (.iMacq k i n xa ya ux uy neg sx sy clr) fun b => ((b.afterUse u.freeNat 0 xa ux).afterUse u.freeNat 1 ya uy).accEach [0, 1, 2, 3]
        fun h a => accumulate a (operand14 (u.readElem i n 0 (4 * (b.getA xa / 4) + h)) sx)
          (operand14 (u.readElem i n 1 (4 * (b.getA ya / 4) + h)) sy) neg clr) ∧
    (∀ (acc mem a1 ac : Nat) (u1 uc neg s1 sc clr : Bool), mem < 2 → u.feClean i n mem (b.getA a1) → u.feClean i n 2 (b.getA ac) →
      runs (.iMace k i n acc mem a1 ac u1 uc neg s1 sc clr) fun b => ((b.afterUse u.freeNat mem a1 u1).afterUse u.freeNat 2 ac uc).accEach [acc]
        fun _ a => accumulate a (operand14 (u.readElem i n mem (b.getA a1)) s1) (operand14 (u.readElem i n 2 (b.getA ac)) sc) neg clr) ∧
    (∀ mask, runs (.iClra k i n mask) fun b => b.accClear (maskLanes mask)) ∧
    (∀ (d acc m : Nat) (rnd : Bool), m ≤ 47 →
      runs (.iMovag k i n d acc m rnd) fun b =>
        let r := movagValue (b.getAcc acc) m rnd
        { b.setG d r.1 with flags := sticky b.flags flagOS r.2 }) ∧
    (∀ acc s1, runs (.iMovga k i n acc s1) fun b => b.setAcc acc (wrapInt 48 (signed (b.getG s1) 32))) ∧
    (∀ mask m, runs (.iShfa k i n mask m) fun b => b.accEach (maskLanes mask) fun _ a => shiftAcc a m) ∧
    (∀ acc, runs (.iSuma k i n acc) fun b =>
      let r := clamp48 (signed (b.getAcc 0) 48 + signed (b.getAcc 1) 48 + signed (b.getAcc 2) 48 + signed (b.getAcc 3) 48)
      { b.setAcc acc r.1 with flags := sticky b.flags flagAV r.2 }) ∧
    (∀ (mem a m : Nat) (v uns clr : Bool), mem ≠ 3 → m ≤ 47 →
      let q := [0, 1, 2, 3].map fun h => narrowAcc (b.getAcc h) m uns
      FeRuns (.iStaq k i n mem a v m uns clr) s k i n [.mem, .health, .integ] [CODE.UE_CNT_COUNT 4, CODE.CE_CNT_COUNT 4, CODE.INT_UE, CODE.LOG_STATUS_DROPPED]
        (Engine.live fun b =>
          let c := { b.afterUse u.freeNat mem a v with flags := sticky b.flags flagOS (q.any fun r => r.2) }
          if clr then c.accClear [0, 1, 2, 3] else c)
        fun t => u.QuadStored i n mem (b.getA a) (q.map fun r => r.1) t)

/-- Issued by an engine with nothing ahead of it and followed by three NOPs: SETA sets An from its immediate or from the low 13 bits of a register, SETM its mode and step, SETBL its base to An's value and its length; MOVRA copies An to Gd; LD and LDQ load an element (sign-extended or not) or a quad, ST and STQ store the low 14 bits of a register or a pair as elements, each at An, which is modified after use when U is set. TAP multiplies a Y quad, or with MV the pair G6:G7, by a C quad or a C element into the four accumulators, and with MV exchanges the quad and the pair. Every other byte of memory, every other register and every other engine is as before. -/
def Obligations.EngineAddressAndMemoryInstructionsComplete : Prop :=
  ∀ (s : State) (k : Side) (i n : Nat) (sh : Bool), s.hasSide k = true → (s.stack k).feReady i n → ((s.stack k).engine i n).shadow = sh →
    let u := s.stack k
    let b := (u.engine i n).bank sh
    let runs := fun (c : Instr) (f : FeBank → FeBank) => FeRuns c s k i n [] [] (Engine.live f) fun _ => True
    let errs := [CODE.UE_CNT_COUNT 4, CODE.CE_CNT_COUNT 4, CODE.INT_UE, CODE.LOG_STATUS_DROPPED]
    (∀ a r, runs (.iSeta k i n a true r 0) fun b => { b with a := mapSet 0 b.a a (b.getG r % 2 ^ 13) }) ∧
    (∀ a imm, runs (.iSeta k i n a false 0 imm) fun b => { b with a := mapSet 0 b.a a imm }) ∧
    (∀ a m st, runs (.iSetm k i n a m st) fun b => { b with mode := mapSet 0 b.mode a m, step := mapSet 0 b.step a st }) ∧
    (∀ a len, runs (.iSetbl k i n a len) fun b => { b with base := mapSet 0 b.base a (b.getA a), len := mapSet 0 b.len a len }) ∧
    (∀ d a, runs (.iMovra k i n d a) fun b => b.setG d (b.getA a)) ∧
    (∀ (d mem a : Nat) (v sg : Bool), mem ≠ 3 → u.feClean i n mem (b.getA a) →
      let w := u.readElem i n mem (b.getA a)
      runs (.iLd k i n d mem a v sg) fun b => (b.afterUse u.freeNat mem a v).setG d (if sg then wrapInt 32 (signed w 14) else w)) ∧
    (∀ (d mem a : Nat) (v : Bool), mem ≠ 3 → d % 2 = 0 → u.feClean i n mem (b.getA a) →
      runs (.iLdq k i n d mem a v) fun b => (b.afterUse u.freeNat mem a v).setPair d (u.readQuad i n mem (b.getA a))) ∧
    (∀ (r mem a : Nat) (v : Bool), mem ≠ 3 →
      FeRuns (.iSt k i n r mem a v) s k i n [.mem, .health, .integ] errs (Engine.live fun b => b.afterUse u.freeNat mem a v)
        fun t => u.ElemStored i n mem (b.getA a) (b.getG r) t) ∧
    (∀ (r mem a : Nat) (v : Bool), mem ≠ 3 → r % 2 = 0 →
      FeRuns (.iStq k i n r mem a v) s k i n [.mem, .health, .integ] errs (Engine.live fun b => b.afterUse u.freeNat mem a v)
        fun t => u.QuadStored i n mem (b.getA a) (b.pair r) t) ∧
    (∀ (ya ca : Nat) (uy uc mv neg cq sy sc clr : Bool), u.feClean i n 1 (b.getA ya) → u.feClean i n 2 (b.getA ca) →
      let quad := u.readQuad i n 1 (b.getA ya)
      let d := if mv then b.pair 6 else quad
      let c := fun h => if cq then u.readElem i n 2 (4 * (b.getA ca / 4) + h) else u.readElem i n 2 (b.getA ca)
      FeRuns (.iTap k i n ya ca uy uc mv neg cq sy sc clr) s k i n (if mv then [.mem, .health, .integ] else []) (if mv then errs else [])
        (Engine.live fun b =>
          let e := (b.afterUse u.freeNat 1 ya uy).afterUse u.freeNat 2 ca uc
          let f := if mv then e.setPair 6 quad else e
          f.accEach [0, 1, 2, 3] fun h a => accumulate a (operand14 (d.getD h 0) sy) (operand14 (c h) sc) neg clr)
        fun t => mv = true → u.QuadStored i n 1 (b.getA ya) (b.pair 6) t)

/-- Issued by an engine with nothing ahead of it and followed by three NOPs: INQ takes the head quad of an input FIFO that is not empty into a pair and MK (while no interrupt can be taken), PUSHQ (one issue of it) stores it at An, WAITM with a head whose mark satisfies it sets MK and leaves the quad; SENDQ and OUTQ, with room in the output FIFO, append a memory quad or the narrowed accumulators with their mark (OUTQ sets OS on a clamp and with CLR clears the accumulators); MFS reads FLAGS, IE, IP, THRESH, DBV, the engine's number, and each address register's mode, step, base and length, and with no repeat block open 0 for LC0 to LC2 and DEPTH; MTS writes FLAGS, IE, THRESH, and clears DOORBELL with a 1 in bit 0 of IP; SIGNAL sets the engine's pending bit. Everything else is as before. -/
def Obligations.EnginePortAndSpecialRegisterInstructionsComplete : Prop :=
  ∀ (s : State) (k : Side) (i n : Nat) (sh : Bool), s.hasSide k = true → (s.stack k).feReady i n → ((s.stack k).engine i n).shadow = sh →
    let u := s.stack k
    let e := u.engine i n
    let b := e.bank sh
    let errs := [CODE.UE_CNT_COUNT 4, CODE.CE_CNT_COUNT 4, CODE.INT_UE, CODE.LOG_STATUS_DROPPED]
    (∀ (d p : Nat) (q : Quad) (rest : List Quad), d % 2 = 0 → e.fifo p = q :: rest → sh = true ∨ bit e.ie 0 = false →
      FeRuns (.iInq k i n d p) s k i n [] []
        (fun e => Engine.live (fun b => { b.setPair d (unpackQuad q.data) with flags := setMk b.flags q.mark }) (e.setFifo p rest)) fun _ => True) ∧
    (∀ (mem a p cnt : Nat) (v : Bool) (q : Quad) (rest : List Quad), mem ≠ 3 → e.fifo p = q :: rest → sh = true ∨ bit e.ie 0 = false →
      FeRuns (.iPushq k i n mem a v p cnt) s k i n [.mem, .health, .integ] errs
        (fun e => Engine.live (fun b => { b.afterUse u.freeNat mem a v with flags := setMk b.flags q.mark }) (e.setFifo p rest))
        fun t => u.QuadStored i n mem (b.getA a) (unpackQuad q.data) t) ∧
    (∀ (p want : Nat) (q : Quad) (rest : List Quad), e.fifo p = q :: rest → waitmOk want q.mark = true →
      FeRuns (.iWaitm k i n p want) s k i n [] [] (Engine.live fun b => { b with flags := setMk b.flags q.mark }) fun _ => True) ∧
    (∀ (mem a p mark : Nat) (v : Bool), mem ≠ 3 → u.feClean i n mem (b.getA a) → (e.fifo (4 + p)).length < 16 →
      FeRuns (.iSendq k i n mem a v p mark) s k i n [] []
        (fun e => Engine.live (fun b => b.afterUse u.freeNat mem a v)
          (e.setFifo (4 + p) (e.fifo (4 + p) ++ [⟨packQuad (u.readQuad i n mem (b.getA a)), mark⟩]))) fun _ => True) ∧
    (∀ (m p mark : Nat) (clr uns : Bool), m ≤ 47 → (e.fifo (4 + p)).length < 16 →
      let q := [0, 1, 2, 3].map fun h => narrowAcc (b.getAcc h) m uns
      FeRuns (.iOutq k i n m p mark clr uns) s k i n [] []
        (fun e => Engine.live (fun b =>
            let c := { b with flags := sticky b.flags flagOS (q.any fun r => r.2) }
            if clr then c.accClear [0, 1, 2, 3] else c)
          (e.setFifo (4 + p) (e.fifo (4 + p) ++ [⟨packQuad (q.map fun r => r.1), mark⟩]))) fun _ => True) ∧
    (∀ (d spr v : Nat),
      ((spr = 0 ∧ v = b.flags) ∨ (spr = 1 ∧ v = e.ie) ∨ (spr = 2 ∧ v = e.ip) ∨ (spr = 3 ∧ v = e.thresh) ∨ (spr = 4 ∧ v = e.dbv) ∨
       (5 ≤ spr ∧ spr ≤ 8 ∧ b.levels = [] ∧ v = 0) ∨ (spr = 9 ∧ v = n + 256 * logicLayer i) ∨
       (16 ≤ spr ∧ spr < 24 ∧ v = mapGet 0 b.mode (spr - 16) + 0x10000 * mapGet 0 b.step (spr - 16)) ∨
       (24 ≤ spr ∧ spr < 32 ∧ v = mapGet 0 b.base (spr - 24) + 0x10000 * mapGet 0 b.len (spr - 24))) →
      FeRuns (.iMfs k i n d spr) s k i n [] [] (Engine.live fun b => b.setG d v) fun _ => True) ∧
    (∀ r, FeRuns (.iMts k i n r 0) s k i n [] [] (Engine.live fun b => { b with flags := b.getG r % 256 }) fun _ => True) ∧
    (∀ r, FeRuns (.iMts k i n r 1) s k i n [] [] (fun e => { e with ie := b.getG r % 2 ^ 10 }) fun _ => True) ∧
    (∀ r, FeRuns (.iMts k i n r 2) s k i n [] [] (fun e => { e with bell := e.bell && !bit (b.getG r) 0 }) fun _ => True) ∧
    (∀ r, FeRuns (.iMts k i n r 3) s k i n [] []
      (fun e => { e with thresh := bits (b.getG r) 0 5 + 256 * bits (b.getG r) 8 5 }) fun _ => True) ∧
    FeRuns (.iSignal k i n) s k i n [] [FE.SIGNAL_PEND_PEND i (n / 32)] id
      fun t => t.get (FE.SIGNAL_PEND_PEND i (n / 32)) = setBit (u.get (FE.SIGNAL_PEND_PEND i (n / 32))) (n % 32) true % 2 ^ 32

/-- Issued by an engine with nothing ahead of it, at a place where it may stand: NOP goes on to the next address, or out of a delay slot to its branch's target; BR, BRL and JR make the next instruction their delay slot and, when COND holds (BR), set the target; BRL, run through, leaves its address plus 2 in G7; REP and REPR open a repeat block of LEN + 1 instructions with COUNT, or the register's value less 1, repetitions left, REPR with a count of 0 skips it; HALT makes the engine Halted and sets its pending bit; RETI makes the main bank live again and sets the global interrupt enable. Nothing that a program sees changes beside, and no other engine does. -/
def Obligations.EngineControlInstructionsComplete : Prop :=
  ∀ (s : State) (k : Side) (i n : Nat) (sh : Bool), s.hasSide k = true → (s.stack k).feReady i n → ((s.stack k).engine i n).shadow = sh →
    let u := s.stack k
    let e := u.engine i n
    let b := e.bank sh
    let next := (b.pc + 1) % 4096
    let steps := fun (c : Instr) (p : FeBank → Prop) => Completes c s k [.engines, .freeCount] [] fun t =>
      (∀ j m, 192 * j + m ≠ 192 * i + n → t.engine j m = u.engine j m) ∧ (t.engine i n).visible = e.visible ∧ p ((t.engine i n).bank sh)
    let atEnd := b.levels.any fun l => l.last == b.pc || l.last == next
    let fits := fun len : Nat => ∀ l, b.levels.head? = some l → (b.pc + 1 + len + 4096 - l.start) % 4096 ≤ (l.last + 4096 - l.start) % 4096
    steps (.iNop k i n) (fun c => (b.levels = [] → c.pc = b.target.getD next) ∧ c.slot = false) ∧
    (b.slot = false → atEnd = false →
      (∀ cond target, steps (.iBr k i n cond target) fun c =>
        c.pc = next ∧ c.slot = true ∧ c.target = if condHolds cond b.flags then some target else none) ∧
      (∀ target, steps (.iBrl k i n target) fun c => c.pc = next ∧ c.slot = true ∧ c.target = some target) ∧
      (∀ target, FeRuns (.iBrl k i n target) s k i n [] [] (Engine.live fun b => b.setG 7 ((b.pc + 2) % 4096)) fun _ => True) ∧
      (∀ r, steps (.iJr k i n r) fun c => c.pc = next ∧ c.slot = true ∧ c.target = some (b.getG r % 4096)) ∧
      (sh = false →
        Completes (.iHalt k i n) s k [.engines, .freeCount] [FE.HALT_PEND_PEND i (n / 32)] fun t =>
          (∀ j m, 192 * j + m ≠ 192 * i + n → t.engine j m = u.engine j m) ∧ (t.engine i n).visible = { e.visible with st := 3 } ∧
          (t.engine i n).main.pc = next ∧
          t.get (FE.HALT_PEND_PEND i (n / 32)) = setBit (u.get (FE.HALT_PEND_PEND i (n / 32))) (n % 32) true % 2 ^ 32)) ∧
    (b.slot = false → b.levels.length < 3 →
      (∀ len count, count < 65536 → fits len → steps (.iRep k i n len count) fun c =>
        c.pc = next ∧ c.levels = { start := next, last := (b.pc + 1 + len) % 4096, left := count } :: b.levels) ∧
      (∀ len r, fits len →
        (b.getG r = 0 → steps (.iRepr k i n len r) fun c => c.pc = (b.pc + len + 2) % 4096 ∧ c.levels = b.levels) ∧
        (0 < b.getG r → b.getG r ≤ 65536 → steps (.iRepr k i n len r) fun c =>
          c.pc = next ∧ c.levels = { start := next, last := (b.pc + 1 + len) % 4096, left := b.getG r - 1 } :: b.levels))) ∧
    (b.slot = false → sh = true → e.main.halting = false →
      Completes (.iReti k i n) s k [.engines, .freeCount] [] fun t =>
        (∀ j m, 192 * j + m ≠ 192 * i + n → t.engine j m = u.engine j m) ∧
        (t.engine i n).visible = { e.visible with shadow := false, ie := setBit e.ie 0 true } ∧ (t.engine i n).shad.pc = next)

/-- Written while the fill of an earlier command is in progress (BUSY), every FE.CMD command only sets OVERRUN. Otherwise ENGINE, OP, FILL and RESULT 0 are written and: an operation that names no command does nothing; START makes an engine in Reset, Stopped or Halted Running in Day or the Workshop, from START_PC if it was in Reset; STOP makes a Running engine Stopped; STEP runs one cycle of a Stopped one; RESET puts any engine in Reset with everything but THRESH cleared, TRAP and STALLS cleared, and with FILL marks its memories as being filled and sets BUSY. A fill that completes leaves every byte of the memories of the engine so marked 0, every other byte as before, and BUSY 0. DOORBELL is kept with its value and made pending, and ignored in Reset; PORT_CLK sets the eight domains in Reset and is ignored otherwise. -/
def Obligations.EngineCommandsComplete : Prop :=
  ∀ (s : State) (k : Side) (i n : Nat), s.hasSide k = true →
    let u := s.stack k
    let e := u.engine i n
    let held := fun op fill => [(FE.CMD_ENGINE i, n), (FE.CMD_OP i, op), (FE.CMD_FILL i, fill), (FE.CMD_STATUS_RESULT i, 0)]
    let names := [FE.CMD_ENGINE i, FE.CMD_OP i, FE.CMD_FILL i, FE.CMD_STATUS_RESULT i]
    let others := fun t : Stack => ∀ j m, 192 * j + m ≠ 192 * i + n → t.engine j m = u.engine j m
    (u.flag (FE.CMD_STATUS_BUSY i) = true → ∀ c, (∃ op fill, c = .feNone k i n op fill) ∨ c = .feStart k i n ∨ c = .feStop k i n ∨
        c = .feStep k i n ∨ (∃ fill, c = .feReset k i n fill) → exec c s = .next (s.setStack k (u.raise (FE.CMD_STATUS_OVERRUN i)))) ∧
    (u.flag (FE.CMD_STATUS_BUSY i) = false → n < 192 →
      (∀ op fill, exec (.feNone k i n op fill) s = .next (s.setStack k (u.writes (held op (b2n fill))))) ∧
      (e.st = 0 ∨ e.st = 1 ∨ e.st = 3 → u.mode = .day ∨ u.mode = .workshop →
        Completes (.feStart k i n) s k [.engines] names fun t => others t ∧ t.get (FE.CMD_STATUS_RESULT i) = 0 ∧
          (e.st ≠ 0 → t.engine i n = { e with st := 2 }) ∧
          (e.st = 0 → t.engine i n = { e with st := 2, main := { e.main with pc := u.get (FE.START_PC_PC i n), f := Option.none } })) ∧
      (e.st = 2 → Completes (.feStop k i n) s k [.engines] names fun t =>
        others t ∧ t.get (FE.CMD_STATUS_RESULT i) = 0 ∧ t.engine i n = { e with st := 1 }) ∧
      (e.st = 1 → exec (.feStep k i n) s = .next (s.setStack k ((u.writes (held 3 0)).feCycle i n none))) ∧
      (∀ fill, Completes (.feReset k i n fill) s k [.engines]
          (names ++ [FE.TRAP_CAUSE i n, FE.TRAP_PC i n, FE.TRAP_DOUBLE i n, FE.STALLS_CYCLES i n, FE.CMD_STATUS_BUSY i]) fun t =>
        others t ∧ t.engine i n = { thresh := e.thresh, filling := fill || e.filling } ∧ t.get (FE.TRAP_CAUSE i n) = 0 ∧ t.get (FE.TRAP_PC i n) = 0 ∧
          t.get (FE.TRAP_DOUBLE i n) = 0 ∧ t.get (FE.STALLS_CYCLES i n) = 0 ∧ t.flag (FE.CMD_STATUS_BUSY i) = fill)) ∧
    (u.feFilling i = some n →
      let base := feBase i n
      Completes (.feFillComplete k i) s k [.mem, .health, .engines] [FE.CMD_STATUS_BUSY i] fun t => t.flag (FE.CMD_STATUS_BUSY i) = false ∧
        others t ∧ t.engine i n = { e with filling := false } ∧
        ∀ a, t.readByte a = if base ≤ a ∧ a < base + 0x10000 then 0 else u.readByte a) ∧
    (∀ v, (e.st = 0 → exec (.feDoorbell k i n v) s = .next s) ∧
      (e.st ≠ 0 → Completes (.feDoorbell k i n v) s k [.engines] [FE.DOORBELL_VALUE i n] fun t =>
        others t ∧ t.engine i n = { e with dbv := v, bell := true } ∧ t.get (FE.DOORBELL_VALUE i n) = v % 2 ^ 32) ∧
      (e.st ≠ 0 → exec (.fePortClkWrite k i n v) s = .next s) ∧
      (e.st = 0 → exec (.fePortClkWrite k i n v) s = .next (s.setStack k (u.writes
        [(FE.PORT_CLK_IN_DOM_0 i n, bits v 0 3), (FE.PORT_CLK_IN_DOM_1 i n, bits v 3 3), (FE.PORT_CLK_IN_DOM_2 i n, bits v 6 3),
         (FE.PORT_CLK_IN_DOM_3 i n, bits v 9 3), (FE.PORT_CLK_OUT_DOM_0 i n, bits v 12 3), (FE.PORT_CLK_OUT_DOM_1 i n, bits v 15 3),
         (FE.PORT_CLK_OUT_DOM_2 i n, bits v 18 3), (FE.PORT_CLK_OUT_DOM_3 i n, bits v 21 3)]))))

/-- A Running engine with a source pending and enabled takes its interrupt: the shadow bank is live from 0x004 and the global enable is 0. A trap of a Running engine from its main bank makes the shadow bank live from 0x008 and records CAUSE and PC, for DATA that of the instruction in stage O; in the shadow bank it makes the engine Trapped and sets DOUBLE; either sets the pending bit. A stall ends when nothing blocks. An external access with a key identifier is refused: ERROR, counted; a write to X, Y or C is performed byte for byte, a read of codewords without error answers the bytes (one of P, of an engine that is not Running, invalidates the loop cache). A port whose tile's hinges are released and whose domain runs passes a quad to an input FIFO with room, or the oldest quad of an output FIFO to the fabric. -/
def Obligations.EngineEventsComplete : Prop :=
  ∀ (s : State) (k : Side) (i n : Nat), s.hasSide k = true →
    let u := s.stack k
    let e := u.engine i n
    let others := fun t : Stack => ∀ j m, 192 * j + m ≠ 192 * i + n → t.engine j m = u.engine j m
    let pend := fun t : Stack => t.get (FE.TRAP_PEND_PEND i (n / 32)) = setBit (u.get (FE.TRAP_PEND_PEND i (n / 32))) (n % 32) true % 2 ^ 32
    let enter := fun pc => { e with shadow := true, ie := setBit e.ie 0 false, shad := { e.shad with pc := pc, f := Option.none } }
    (e.st = 2 → e.shadow = false → bit e.ie 0 = true → (e.ip &&& (e.ie / 2)) ≠ 0 →
      Completes (.feInterrupt k i n) s k [.engines] [] fun t => others t ∧ t.engine i n = enter 0x004) ∧
    (∀ cause, e.st = 2 → e.shadow = false →
      Completes (.feTrap k i n cause) s k [.engines, .ledger] [FE.TRAP_CAUSE i n, FE.TRAP_PC i n, FE.TRAP_PEND_PEND i (n / 32),
          SYS.INT_RECOV, LEDGER.PEND_HELD, LEDGER.PEND_DROPPED] fun t =>
        others t ∧ pend t ∧ t.engine i n = enter 0x008 ∧ t.get (FE.TRAP_CAUSE i n) = cause % 2 ^ (FE.TRAP_CAUSE i n).width ∧
        t.get (FE.TRAP_PC i n) = (if cause = 3 then (e.main.o.map FeSlot.pc).getD e.main.pc else e.main.pc) % 2 ^ (FE.TRAP_PC i n).width) ∧
    (∀ cause, e.st = 2 → e.shadow = true →
      Completes (.feTrap k i n cause) s k [.engines, .ledger] [FE.TRAP_DOUBLE i n, FE.TRAP_PEND_PEND i (n / 32), SYS.INT_RECOV,
          LEDGER.PEND_HELD, LEDGER.PEND_DROPPED] fun t => others t ∧ pend t ∧ t.engine i n = { e with st := 4 } ∧ t.get (FE.TRAP_DOUBLE i n) = 1) ∧
    (e.stallNow = 0 → Completes (.feStallRelease k i n) s k [.engines] [] fun t => others t ∧ t.engine i n = { e with stall := 0 }) ∧
    (∀ (off kid len : Nat) (write : Bool) (data : List Nat), kid ≠ 0 →
      exec (.feExternalAccess k i n off kid write len data false) s =
        .next (s.setStack k { u.bump (FE.EXT_ERR_COUNT i) with answer := { status := 1, data := [] } })) ∧
    (∀ (off : Nat) (data : List Nat), feWindow off data.length = true → off < 0xC000 →
      Completes (.feExternalAccess k i n off 0 true data.length data false) s k [.mem, .health, .integ, .answer]
          [CODE.UE_CNT_COUNT 4, CODE.CE_CNT_COUNT 4, CODE.INT_UE, CODE.LOG_STATUS_DROPPED] fun t => t.answer = { status := 0, data := [] } ∧
        ∀ a, t.readByte a = if feBase i n + off ≤ a ∧ a < feBase i n + off + data.length
          then BitVec.ofNat 8 (data.getD (a - (feBase i n + off)) 0) else u.readByte a) ∧
    (∀ (off len : Nat) (data : List Nat), feWindow off len = true → (∀ c, u.mark c = .ok) →
      exec (.feExternalAccess k i n off 0 false len data false) s =
        .next (s.setStack k { (if 0xC000 ≤ off ∧ e.st ≠ 2 then u.modEngine i n Engine.uncache else u) with
          answer := { status := 0, data := (u.readBytes (feBase i n + off) len).map BitVec.toNat } })) ∧
    (∀ (p data mark : Nat), e.st ≠ 0 → (e.fifo p).length < 16 → u.portOpen i n p = true →
      Completes (.streamPortInput k i n p data mark) s k [.engines] [] fun t =>
        others t ∧ t.engine i n = e.setFifo p (e.fifo p ++ [⟨data % 2 ^ 56, mark⟩])) ∧
    (∀ (p : Nat) (q : Quad) (rest : List Quad), e.st ≠ 0 → e.fifo (4 + p) = q :: rest → u.portOpen i n (4 + p) = true →
      Completes (.streamPortOutput k i n p) s k [.engines, .answer] [] fun t =>
        others t ∧ t.engine i n = e.setFifo (4 + p) rest ∧ t.answer = { status := 0, data := [q.data, q.mark] })

/-- In Day, TEST of an Asleep idle section, taken by its instance (pooled use with no Free plane apart), makes the section and its Asleep descendants Testing, sets both BUSY bits and changes no other section. SECTION_TEST_COMPLETE ends the oldest test: it makes exactly the Testing sections of its family Asleep, or Held where a hold cause is set, clears TEST.STATUS.BUSY unless a further test runs, and writes SECT_RES with the section, 0 or 1, and the tile count. TEST.CTL with OP 0 or 3 to 15 writes OP alone. RUN outside Workshop writes OP alone; in Workshop it sets OVERRUN while busy, else BUSY 1, WAVE 1, GROUPS 0 and starts the run of three waves; ABORT of that run stops it at its next group. A group that is not the last adds its failing blocks, each once and only blocks under test, and counts one group. Only what each clause lists differs. -/
def Obligations.SectionTestsAndBistComplete : Prop :=
  (∀ (s : State) (k : Side) (i n : Nat), s.hasSide k = true → i < 4 → (s.stack k).takesCommand i n → ((s.stack k).sect n).state = .asleep →
    ((s.stack k).sect n).seq = .idle → (s.stack k).mode = .day →
    ((s.stack k).pooled && ((s.stack k).freePlane ((s.stack k).rootOf n)).isNone) = false →
    Completes (.sectTest k i n) s k [.sections, .bist]
      [SECT.CMD_SECTION i, SECT.CMD_OP i, SECT.CMD_STATUS_RESULT i, SECT.CMD_STATUS_BUSY i, TEST.STATUS_BUSY] fun t =>
      (∀ m ∈ (s.stack k).family n, ((s.stack k).sect m).state = .asleep → (t.sect m).state = .testing) ∧
      (∀ m, m ∉ (s.stack k).family n → m ≠ n → t.sect m = (s.stack k).sect m) ∧
      t.bist = { (s.stack k).bist with sects := (s.stack k).bist.sects ++ [n] } ∧
      t.get TEST.STATUS_BUSY = 1 ∧ t.get (SECT.CMD_STATUS_BUSY i) = 1 ∧ t.get (SECT.CMD_STATUS_RESULT i) = 0) ∧
  (∀ (s : State) (k : Side) (failed n : Nat) (rest : List Nat), s.hasSide k = true → (s.stack k).bist.sects = n :: rest →
    Completes (.sectionTestComplete k failed) s k [.sections, .bist, .fabric, .mem, .health, .ledger]
      [SECT.CMD_STATUS_BUSY ((s.stack k).sect n).home, TEST.STATUS_BUSY, TEST.SECT_RES_SECTION, TEST.SECT_RES_RESULT, TEST.SECT_RES_FAILED,
       LEDGER.PEND_HELD, LEDGER.PEND_DROPPED] fun t =>
      (∀ m, (t.sect m).state = if ((s.stack k).sect m).state = .testing ∧ m ∈ (s.stack k).family n then (if ((s.stack k).sect m).hold = 0 then .asleep else .held)
        else ((s.stack k).sect m).state) ∧
      t.get TEST.STATUS_BUSY = (if rest = [] ∧ (s.stack k).bist.run = 0 then 0 else 1) ∧ t.get TEST.SECT_RES_SECTION = n % 1024 ∧ t.get TEST.SECT_RES_RESULT = (if failed = 0 then 0 else 1) ∧
      t.get TEST.SECT_RES_FAILED = failed % 2 ^ TEST.SECT_RES_FAILED.width ∧ t.bist = { (s.stack k).bist with sects := rest }) ∧
  (∀ (s : State) (k : Side) (op : Nat), s.hasSide k = true →
    exec (.testNone k op) s = .next (s.setStack k ((s.stack k).put TEST.CTL_OP op))) ∧
  (∀ (s : State) (k : Side), s.hasSide k = true →
    ((s.stack k).mode ≠ .workshop → exec (.testRun k) s = .next (s.setStack k ((s.stack k).put TEST.CTL_OP 1))) ∧
    ((s.stack k).mode = .workshop → (s.stack k).flag TEST.STATUS_BUSY = true →
      exec (.testRun k) s = .next (s.setStack k ((s.stack k).writes [(TEST.CTL_OP, 1), (TEST.STATUS_OVERRUN, 1)]))) ∧
    ((s.stack k).mode = .workshop → (s.stack k).flag TEST.STATUS_BUSY = false →
      Completes (.testRun k) s k [.bist] [TEST.CTL_OP, TEST.STATUS_BUSY, TEST.STATUS_WAVE, TEST.STATUS_GROUPS] fun t =>
        t.bist.run = 2 ∧ t.bist.failed = [] ∧ t.bist.stop = 0 ∧ t.get TEST.STATUS_BUSY = 1 ∧ t.get TEST.STATUS_WAVE = 1 ∧
        t.get TEST.STATUS_GROUPS = 0)) ∧
  (∀ (s : State) (k : Side), s.hasSide k = true →
    Completes (.testAbort k) s k [.bist] [TEST.CTL_OP] fun t =>
      t.bist = if (s.stack k).bist.run = 2 then { (s.stack k).bist with stop := 1 } else (s.stack k).bist) ∧
  (∀ (s : State) (k : Side) (failed : List Nat), s.hasSide k = true → (s.stack k).bist.run ≠ 0 → (s.stack k).bist.stop = 0 →
    (s.stack k).get TEST.STATUS_GROUPS + 1 < (s.stack k).groupLimit →
    Completes (.bistGroup k failed) s k [.bist] [TEST.STATUS_GROUPS] fun t =>
      t.get TEST.STATUS_GROUPS = (s.stack k).get TEST.STATUS_GROUPS + 1 ∧
      (∀ b, b ∈ t.bist.failed ↔ b ∈ (s.stack k).bist.failed ∨ (b ∈ failed ∧ b ∈ (s.stack k).runningBlocks)) ∧
      ((s.stack k).bist.failed.Nodup → t.bist.failed.Nodup) ∧ t.bist.skipped = (s.stack k).bist.skipped ∧
      t.bist.tested = (s.stack k).bist.tested)

/-- In every mode but Off, BYPASS, IDCODE, SAMPLE/PRELOAD and LOCK_STATUS put their code in the instruction register and shift out one 0 bit, the identity, the pad levels, and the lock status; CLAMP, HIGHZ, EXTEST, EXTEST_PULSE and EXTEST_TRAIN do so in Workshop, the first two with one 0 bit shifted out, the last three with the pad levels shifted out and the boundary register loaded, and act as BYPASS in every other mode. UNLOCK with 0x6B1D on a closed port with no opening in progress begins an opening (ERASING 1, REFUSED 0, CAUSE 0) in Workshop or Haven while the secret zone accepts writes; with the zone closed it is refused with CAUSE 2, and in any other mode with CAUSE 1 (REFUSED 1, INT.JTAG_REFUSED); any other value only enters the instruction register. RELOCK in Workshop clears OPEN with RESULT 0, with the zone closed reports 2, and elsewhere reports 1. The CAUSE codes follow the device map; which CAUSE a refusal reports where two hold is the model's order (log 73). -/
def Obligations.TestPortInstructionsComplete : Prop :=
  (∀ (s : State), s.portUp = true →
    Completes .jtagBypass s .recto [.jtag, .answer] [] (fun t => t.jtag = { s.recto.jtag with ir := 0xFF } ∧ t.answer = { status := 0, data := [0] }) ∧
    Completes .jtagIdcode s .recto [.jtag, .answer] [] (fun t => t.jtag = { s.recto.jtag with ir := 0x02 } ∧
      t.answer = { status := 0, data := [Config.revision % 16 * 2 ^ 28 +
        (match s.build with | .octavo => 0x2200 | .quarto => 0x4400 | .atlas => 0x4401) * 2 ^ 12 + 0x2E9 * 2 + 1] }) ∧
    Completes .jtagLockStatus s .recto [.jtag, .answer] [] (fun t => t.jtag = { s.recto.jtag with ir := 0x10 } ∧
      t.answer = { status := 0, data := [s.recto.get TEST.JTAG_STAT_OPEN + 2 * s.recto.get TEST.JTAG_STAT_ERASING +
        4 * s.recto.get TEST.JTAG_STAT_REFUSED + 16 * s.recto.get TEST.JTAG_STAT_CAUSE + 256 * s.recto.get TEST.JTAG_STAT_OPENS] }) ∧
    ∀ cells : List Nat, Completes (.jtagSamplePreload cells) s .recto [.jtag, .answer] [] (fun t =>
      t.jtag = { s.recto.jtag with ir := 0x01, boundary := putWords [] 0 cells } ∧ t.answer = { status := 0, data := s.padLevels })) ∧
  (∀ (s : State) (cells : List Nat), s.recto.mode = .workshop →
    Completes .jtagClamp s .recto [.jtag, .answer] [] (fun t => t.jtag = { s.recto.jtag with ir := 0x03 } ∧ t.answer = { status := 0, data := [0] }) ∧
    Completes .jtagHighz s .recto [.jtag, .answer] [] (fun t => t.jtag = { s.recto.jtag with ir := 0x04 } ∧ t.answer = { status := 0, data := [0] }) ∧
    Completes (.jtagExtest cells) s .recto [.jtag, .answer] [] (fun t => t.jtag = { s.recto.jtag with ir := 0x00, boundary := putWords [] 0 cells } ∧ t.answer = { status := 0, data := s.padLevels }) ∧
    Completes (.jtagExtestPulse cells) s .recto [.jtag, .answer] [] (fun t => t.jtag = { s.recto.jtag with ir := 0x05, boundary := putWords [] 0 cells } ∧ t.answer = { status := 0, data := s.padLevels }) ∧
    Completes (.jtagExtestTrain cells) s .recto [.jtag, .answer] [] (fun t => t.jtag = { s.recto.jtag with ir := 0x06, boundary := putWords [] 0 cells } ∧ t.answer = { status := 0, data := s.padLevels })) ∧
  (∀ (s : State) (cells : List Nat), s.recto.mode ≠ .workshop →
    ∀ c ∈ [Instr.jtagClamp, .jtagHighz, .jtagExtest cells, .jtagExtestPulse cells, .jtagExtestTrain cells], exec c s = exec .jtagBypass s) ∧
  (∀ (s : State), s.recto.mode = .workshop ∨ s.recto.mode = .haven → s.recto.flag TEST.JTAG_STAT_OPEN = false → s.recto.jtag.step = 0 →
    s.recto.secretWindow = true → (s.build = .atlas → s.verso.secretWindow = true) →
    ∃ t, exec (.jtagUnlock 0x6B1D) s = .next t ∧ t.build = s.build ∧ t.pending = s.pending ∧ t.recto.jtag.ir = 0x11 ∧
      ∀ k, s.hasSide k = true → (t.stack k).get TEST.JTAG_STAT_ERASING = 1 ∧ (t.stack k).get TEST.JTAG_STAT_REFUSED = 0 ∧
        (t.stack k).get TEST.JTAG_STAT_CAUSE = 0 ∧ (t.stack k).jtag.step = 1 ∧
        (s.stack k).OnlyChanges [.jtag] [TEST.JTAG_STAT_ERASING, TEST.JTAG_STAT_REFUSED, TEST.JTAG_STAT_CAUSE] (t.stack k)) ∧
  (∀ (s : State) (cause : Nat), s.portUp = true → s.recto.flag TEST.JTAG_STAT_OPEN = false → s.recto.jtag.step = 0 →
    (if s.recto.mode ≠ .workshop ∧ s.recto.mode ≠ .haven then cause = 1
     else cause = 2 ∧ (s.recto.secretWindow = false ∨ s.build = .atlas ∧ s.verso.secretWindow = false)) →
    ∃ t, exec (.jtagUnlock 0x6B1D) s = .next t ∧ t.build = s.build ∧ t.pending = s.pending ∧
      ∀ k, s.hasSide k = true → (t.stack k).get TEST.JTAG_STAT_REFUSED = 1 ∧ (t.stack k).get TEST.JTAG_STAT_CAUSE = cause ∧
        (t.stack k).get TEST.INT_JTAG_REFUSED = 1 ∧
        (s.stack k).OnlyChanges [.jtag] [TEST.JTAG_STAT_REFUSED, TEST.JTAG_STAT_CAUSE, TEST.INT_JTAG_REFUSED] (t.stack k)) ∧
  (∀ (s : State) (v : Nat), s.portUp = true → v ≠ 0x6B1D →
    Completes (.jtagUnlock v) s .recto [.jtag] [] fun t => t.jtag = { s.recto.jtag with ir := 0x11 }) ∧
  (∀ (s : State) (k : Side), s.hasSide k = true →
    ((s.stack k).mode ≠ .workshop → exec (.jtagRelock k) s = .next (s.setStack k ((s.stack k).put TEST.JTAG_CTL_RESULT 1))) ∧
    ((s.stack k).mode = .workshop → (s.stack k).secretWindow = false →
      exec (.jtagRelock k) s = .next (s.setStack k ((s.stack k).put TEST.JTAG_CTL_RESULT 2))) ∧
    ((s.stack k).mode = .workshop → (s.stack k).secretWindow = true →
      ∃ t, exec (.jtagRelock k) s = .next t ∧ t.build = s.build ∧ t.pending = s.pending ∧
        (t.stack k).get TEST.JTAG_CTL_RESULT = 0 ∧ (t.stack k).get TEST.JTAG_STAT_OPEN = 0 ∧
        ∀ j, (s.stack j).OnlyChanges [] [TEST.JTAG_CTL_RESULT, TEST.JTAG_STAT_OPEN] (t.stack j)))

/-- The oldest error event leaves its queue: an entry of its log with the same source and location counts one more (saturating), else, while the log holds fewer than 16, it becomes a new last entry with count 1 and the epoch; a correctable one sets CE_NEW, and with no room the log's OVERFLOW is set and the log stays. LOG_CLEAR empties one log and its OVERFLOW. INJECT_ARM holds its operands and arms in Day and Workshop only. A visit of a running scrubber that stands at no lap's first word advances to the next codeword; a correctable codeword becomes clean and counts, an uncorrectable or poisoned one becomes poison with INT.POISON, no other mark changes. LAP is set once when a lap exceeds its limit. Eight corrections in the unspared symbol of a degraded link count on the link alone; in a good link with a free spare the failed via's remap to its first free spare begins. Only what a clause lists differs. -/
def Obligations.IntegrityCommandsComplete : Prop :=
  (∀ (s : State) (k : Side) (e : ErrEvent) (q : List ErrEvent) (a b : List LogEntry) (x : LogEntry), s.hasSide k = true →
    (s.stack k).integ.queue = e :: q → (if e.ue then (s.stack k).integ.ueLog else (s.stack k).integ.ceLog) = a ++ x :: b →
    (x.source = e.source ∧ x.loc = e.loc) → (∀ y ∈ a, ¬ (y.source = e.source ∧ y.loc = e.loc)) →
    Completes (.errorLogEntry k) s k [.integ] [CODE.INT_CE_NEW] fun t =>
      t.integ.queue = q ∧
      (if e.ue then t.integ.ueLog else t.integ.ceLog) = a ++ { x with count := min (x.count + 1) 0xFFFF } :: b ∧
      (if e.ue then t.integ.ceLog else t.integ.ueLog) = (if e.ue then (s.stack k).integ.ceLog else (s.stack k).integ.ueLog) ∧
      t.get CODE.INT_CE_NEW = if e.ue then (s.stack k).get CODE.INT_CE_NEW else 1) ∧
  (∀ (s : State) (k : Side) (e : ErrEvent) (q : List ErrEvent), s.hasSide k = true →
    (s.stack k).integ.queue = e :: q →
    let log := if e.ue then (s.stack k).integ.ueLog else (s.stack k).integ.ceLog
    (∀ y ∈ log, ¬ (y.source = e.source ∧ y.loc = e.loc)) →
    Completes (.errorLogEntry k) s k [.integ] [CODE.INT_CE_NEW, CODE.LOG_STATUS_CE_OVERFLOW, CODE.LOG_STATUS_UE_OVERFLOW] fun t =>
      t.integ.queue = q ∧
      (if e.ue then t.integ.ueLog else t.integ.ceLog) =
        (if log.length < 16 then log ++ [⟨e.source, e.loc, e.symbol, 1, (s.stack k).get RING.EPOCH_COUNT⟩] else log) ∧
      (if e.ue then t.integ.ceLog else t.integ.ueLog) = (if e.ue then (s.stack k).integ.ceLog else (s.stack k).integ.ueLog) ∧
      (16 ≤ log.length → t.get (if e.ue then CODE.LOG_STATUS_UE_OVERFLOW else CODE.LOG_STATUS_CE_OVERFLOW) = 1) ∧
      (log.length < 16 → e.ue = false → t.get CODE.INT_CE_NEW = 1)) ∧
  (∀ (s : State) (k : Side), s.hasSide k = true →
    Completes (.logClearCe k) s k [.integ] [CODE.LOG_STATUS_CE_OVERFLOW] (fun t =>
      t.integ = { (s.stack k).integ with ceLog := [] } ∧ t.get CODE.LOG_STATUS_CE_OVERFLOW = 0) ∧
    Completes (.logClearUe k) s k [.integ] [CODE.LOG_STATUS_UE_OVERFLOW] (fun t =>
      t.integ = { (s.stack k).integ with ueLog := [] } ∧ t.get CODE.LOG_STATUS_UE_OVERFLOW = 0)) ∧
  (∀ (s : State) (k : Side) (target a b : Nat), s.hasSide k = true →
    exec (.injectArm k target a b) s = .next (s.setStack k ((s.stack k).writes ([(CODE.INJECT_TARGET, target), (CODE.INJECT_SYM_A, a),
      (CODE.INJECT_SYM_B, b)] ++ if (s.stack k).mode ∈ [Mode.day, Mode.workshop] then [(CODE.INJECT_ARM, 1)] else [])))) ∧
  (∀ (s : State) (k : Side) (n : Nat), s.hasSide k = true → (s.stack k).scrubRuns n = true → mapGet 0 (s.stack k).integ.scrubPos n % scrubWords n ≠ 0 →
    let pos := mapGet 0 (s.stack k).integ.scrubPos n
    let place := (s.stack k).scrubPlace n (pos % scrubWords n)
    Completes (.scrubVisit k n) s k [.integ, .health] [CODE.CE_CNT_COUNT place.2.1, CODE.UE_CNT_COUNT place.2.1, CODE.INT_UE,
        CODE.INT_POISON, CODE.LOG_STATUS_DROPPED] fun t =>
      mapGet 0 t.integ.scrubPos n = pos + 1 ∧
      t.mark place.1 = (if (s.stack k).mark place.1 = .uncorrectable ∨ (s.stack k).mark place.1 = .poison then .poison else .ok) ∧
      (∀ a, a ≠ place.1 → t.mark a = (s.stack k).mark a) ∧
      (((s.stack k).mark place.1 = .uncorrectable ∨ (s.stack k).mark place.1 = .poison) → t.get CODE.INT_POISON = 1) ∧
      ((s.stack k).mark place.1 = .ok → t.health = (s.stack k).health ∧
        t.integ = { (s.stack k).integ with scrubPos := mapSet 0 (s.stack k).integ.scrubPos n (pos + 1) })) ∧
  (∀ (s : State) (k : Side) (n start : Nat), s.hasSide k = true → mapGet 0 (s.stack k).integ.lapStart n = start + 1 →
    (s.stack k).scrubRuns n = true → mapGet false (s.stack k).integ.lapOver n = false →
    (s.stack k).lapLimit n * 1000000 < (s.stack k).clk.up - start →
    Completes (.lapLimitExceeded k n) s k [.integ] [CODE.INT_LAP] fun t => t.get CODE.INT_LAP = 1 ∧ mapGet false t.integ.lapOver n = true) ∧
  (∀ (s : State) (k : Side) (link symbol mask : Nat), s.hasSide k = true → (s.stack k).build.links.contains link = true →
    ((s.stack k).vlink link).state = 1 → ((s.stack k).vlink link).unspared = symbol →
    Completes (.persistentSymbol k link symbol mask) s k [.integ] [] fun t =>
      t.vlink link = { (s.stack k).vlink link with ce := min (((s.stack k).vlink link).ce + 8) 0xFFFF } ∧
      ∀ l, l ≠ link → t.vlink l = (s.stack k).vlink l) ∧
  (∀ (s : State) (k : Side) (link symbol b j : Nat), s.hasSide k = true → (s.stack k).build.links.contains link = true → b < 4 →
    ((s.stack k).vlink link).state = 0 → (4 * symbol + b) ∉ ((s.stack k).vlink link).spares →
    (∀ r ∈ (s.stack k).integ.remaps, r.link ≠ link) →
    (List.range 8).find? (fun i => ((s.stack k).vlink link).spares.getD i 0xFE == 0xFF) = some j →
    Completes (.persistentSymbol k link symbol (2 ^ b)) s k [.integ] [CODE.CE_CNT_COUNT 6, CODE.LOG_STATUS_DROPPED] fun t =>
      t.integ.remaps = (s.stack k).integ.remaps ++ [⟨link, 4 * symbol + b, j, 2⟩] ∧
      (t.vlink link).state = 0 ∧ (t.vlink link).spares = ((s.stack k).vlink link).spares ∧ ∀ l, l ≠ link → t.vlink l = (s.stack k).vlink l)

/-- Asserting the reset of a user domain sets RESET, sets the flip-flops that the domain clocks in the live planes to INIT, clears the bridge registers of domains in reset and empties the stream-port FIFOs that it clocks; releasing it clears RESET alone. Which flip-flops of a domain a folio holds is a free value (log 2). A section's gates in step 1 of its sleep close once its interfaces have no request outstanding. At the timeout the section goes on, its interfaces' outstanding tags are retired, the event is recorded with GATE_TIMEOUT and the requests are answered ABORTED (9). In Haven with no recovery in progress, an upset of the wrong end's enable of a driven track whose group is on sets that enable bit, records the section's fault, and, where the folio then misses its golden digest (its source being good and RS), queues the folio's rewriting. -/
def Obligations.GatesResetsAndContentionComplete : Prop :=
  (∀ (s : State) (k : Side) (d : Nat), s.hasSide k = true →
    exec (.domainReset k d false) s = .next (s.setStack k ((s.stack k).put (CLK.DRST_RESET d) 0)) ∧
    Completes (.domainReset k d true) s k [.fabric, .engines] [CLK.DRST_RESET d] fun t =>
      t.get (CLK.DRST_RESET d) = 1 % 2 ^ (CLK.DRST_RESET d).width ∧ { t.fabric with banks := (s.stack k).fabric.banks, bridge := (s.stack k).fabric.bridge } = (s.stack k).fabric ∧
      (∀ e ∈ t.fabric.bridge, t.bridgeHeld ⟨e.1 / 128 / 2048, e.1 / 128 % 2048⟩ (e.1 % 128) e.2 = e.2) ∧
      ∀ e ∈ t.engines, ∀ f ∈ e.2.fifos, t.portDomain (e.1 / 192) (e.1 % 192) f.1 ≠ d) ∧
  (∀ (s : State) (k : Side) (n : Nat), s.hasSide k = true → ((s.stack k).sect n).seq = .sleep 1 →
    ((s.stack k).sectInterfaces n).all (s.stack k).busIdle = true →
    exec (.clockGateClose k true n) s = .next (s.setStack k ((s.stack k).setSect n { (s.stack k).sect n with seq := .sleep 2 }))) ∧
  (∀ (s : State) (k : Side) (n domain : Nat), s.hasSide k = true → ((s.stack k).sect n).seq = .sleep 1 →
    Completes (.gateTimeout k true n domain) s k [.sections, .rings, .ledger, .answer] [CLK.GATE_EVT_VALID, CLK.GATE_EVT_LOST, CLK.GATE_EVT_BLOCK,
        CLK.GATE_EVT_USER, CLK.GATE_EVT_DOMAIN, CLK.INT_GATE_TIMEOUT, LEDGER.PEND_HELD, LEDGER.PEND_DROPPED] fun t =>
      (t.sect n).seq = .sleep 2 ∧ (∀ m, m ≠ n → t.sect m = (s.stack k).sect m) ∧ t.get CLK.INT_GATE_TIMEOUT = 1 ∧
      t.flag CLK.GATE_EVT_VALID = true ∧ t.answer = { status := 9, data := [] } ∧
      ∀ m ∈ t.sectInterfaces n, t.busIdle m = true) ∧
  (∀ (s : State) (k : Side) (b tile track m n : Nat), s.hasSide k = true → (s.stack k).mode = .haven → (s.stack k).pooled = false →
    let up := decide (track < 48)
    let good := if up then (boundaryTiles b tile).1 else (boundaryTiles b tile).2
    let wrong := if up then (boundaryTiles b tile).2 else (boundaryTiles b tile).1
    let p := (s.stack k).livePlane n
    let a := folioKey wrong 0 p * 4096 + 32 * ((if up then 0 else 12) + track / 8) + 31
    let f := { (s.stack k).fabric with
      planeMem := mapSet 0 (s.stack k).fabric.planeMem a (BitVec.ofNat 8 (setBit (mapGet 0 (s.stack k).fabric.planeMem a).toNat (track % 8) true)) }
    let pl := (s.stack k).plane ((s.stack k).rootOf n) p
    (s.stack k).ownerOf good = some m → (s.stack k).ownerOf wrong = some n →
    bit ((s.stack k).fabric.enables good ((s.stack k).livePlane m) up) track = true →
    bits ((s.stack k).groupAt (trackEnd b tile track) track) 0 2 ∈ [1, 2] → (s.stack k).sys.recoveries = [] → ((s.stack k).sect n).state = .live →
    pl.status = .live → mapGet false f.rewriteSafe (safeKey wrong 0 pl.src) = true →
    (s.stack k).sourceOk ((s.stack k).rootOf n) wrong 0 pl.src = true → (s.stack k).get (SECT.FAULT_VALID ((s.stack k).sect n).home) = 0 →
    ((s.stack k).sect n).home < 4 → (s.stack k).rootOf ((s.stack k).rootOf n) = (s.stack k).rootOf n →
    Completes (.vtrackContention k b tile track) s k [.fabric, .loader, .pages, .ledger] [SECT.FAULT_VALID ((s.stack k).sect n).home,
        SECT.FAULT_SECTION ((s.stack k).sect n).home, SECT.FAULT_CAUSE ((s.stack k).sect n).home, SECT.INT_FAULT ((s.stack k).sect n).home,
        SECT.FAULT_LOST ((s.stack k).sect n).home,
        LOAD.CHK_EVENT_ADDR, LOAD.CHK_INFO_VALID, LOAD.CHK_INFO_LOST, LOAD.CHK_INFO_PLANE, LOAD.CHK_INFO_ACTION, LOAD.CHK_INFO_SECTION,
        LEDGER.PEND_HELD, LEDGER.PEND_DROPPED] fun t =>
      t.fabric = f ∧ t.loader.rewrites = (s.stack k).loader.rewrites ++ (if f.folioOk (folioKey wrong 0 p) then [] else [folioKey wrong 0 p]) ∧
      t.get (SECT.FAULT_VALID ((s.stack k).sect n).home) = 1)

/-- Where no codeword that it meets has an error, a READ of the commons or, with key attribute 0 and outside the footprint of every encrypted region, of the store answers OK with the bytes from its location, and its port's flit count advances by RLEN; a READ with ROT and RLEN 1 answers the 16 bytes of its codeword rotated to begin at its location, padded to 64 bytes. A WRITE or WRITE_POSTED whose data carry no poison, with no injection armed and its writer's writes enabled, stores each enabled byte at its place, BE_FIRST governing the first flit, BE_LAST the last of several, every byte of the others being written; every other byte of memory and every codeword's mark read as before, and the port's count advances by the flits. WRITE answers OK; WRITE_POSTED gives no answer. A CURSOR, with ROT 0, to a store or commons port sets the channel's start address and length and answers OK; at an engine or a fabric stop it answers UNSUPPORTED (in bypass nothing), at any other target ERROR. Each is said of a request that no packet on the rings carries. -/
def Obligations.MemoryAccessesComplete : Prop :=
  (∀ (s : State) (k : Side) (h : Header), s.hasSide k = true → (s.stack k).uncarried 1 h → h.reserved = false → h.rot = false →
    let loc := h.addr % 2 ^ 44
    let c := if targetOf loc = .store then STORE.RD_FLITS ((s.stack k).storeLayer loc) else COMN.RD_FLITS (commonsPort loc)
    (targetOf loc = .commons ∨ (targetOf loc = .store ∧ h.addr / 2 ^ 44 % 16 = 0 ∧
      ∀ j < h.rlen, (s.stack k).footprintOf (loc + 64 * j) = Option.none)) →
    (∀ i < 4 * h.rlen, (s.stack k).mark (loc / 16 + i) = .ok) →
    Completes (.ringRead k h) s k [.answer] [c] fun t =>
      t.answer = ⟨0, (List.range (64 * h.rlen)).map fun i => ((s.stack k).readByte (loc + i)).toNat⟩ ∧
      t.get c = ((s.stack k).get c + h.rlen) % 2 ^ c.width) ∧
  (∀ (s : State) (k : Side) (h : Header), s.hasSide k = true → (s.stack k).uncarried 1 h → h.reserved = false → h.rot = true → h.rlen = 1 →
    let loc := h.addr % 2 ^ 44
    let c := COMN.RD_FLITS (commonsPort loc)
    targetOf loc = .commons → (s.stack k).mark (loc / 16) = .ok →
    Completes (.ringRead k h) s k [.answer] [c] fun t =>
      t.answer.status = 0 ∧ t.answer.data.length = 64 ∧
      (∀ i < 16, t.answer.data.getD i 0 = ((s.stack k).readByte (loc / 16 * 16 + (loc + i) % 16)).toNat) ∧
      (∀ i, 16 ≤ i → t.answer.data.getD i 0 = 0) ∧ t.get c = ((s.stack k).get c + 1) % 2 ^ c.width) ∧
  (∀ (s : State) (k : Side) (h : Header) (data : List Nat), s.hasSide k = true → h.reserved = false → h.rot = false →
    (s.stack k).writesIgnored h.src = false → (s.stack k).flag CODE.INJECT_ARM = false →
    let loc := h.addr % 2 ^ 44
    let n := data.length / 64
    let c := if targetOf loc = .store then STORE.WR_FLITS ((s.stack k).storeLayer loc) else COMN.WR_FLITS (commonsPort loc)
    let enabled := fun i => if i / 64 = 0 then bit h.beFirst (i % 64) else if i / 64 + 1 = n then bit h.beLast (i % 64) else true
    (targetOf loc = .commons ∨ (targetOf loc = .store ∧ h.addr / 2 ^ 44 % 16 = 0 ∧
      ∀ a, loc ≤ a → a < loc + 64 * n → (s.stack k).footprintOf a = Option.none)) →
    (∀ i < 4 * n, (s.stack k).mark (loc / 16 + i) = .ok) →
    let effect := fun (t : Stack) =>
      (∀ a, t.readByte a = if loc ≤ a ∧ a < loc + 64 * n ∧ enabled (a - loc) = true then BitVec.ofNat 8 (data.getD (a - loc) 0)
        else (s.stack k).readByte a) ∧
      (∀ cw, t.mark cw = (s.stack k).mark cw) ∧ t.get c = ((s.stack k).get c + n) % 2 ^ c.width
    ((s.stack k).uncarried 2 h →
      Completes (.ringWrite k h data 0) s k [.mem, .health, .answer] [c] fun t => effect t ∧ t.answer = ⟨0, []⟩) ∧
    ((s.stack k).uncarried 3 h →
      Completes (.ringWritePosted k h data 0) s k [.mem, .health, .answer] [c] fun t => effect t ∧ t.answer = ⟨16, []⟩)) ∧
  (∀ (s : State) (k : Side) (h : Header), s.hasSide k = true → (s.stack k).uncarried 7 h → h.reserved = false → h.rot = false →
    let loc := h.addr % 2 ^ 44
    (targetOf loc = .store ∨ targetOf loc = .commons →
      let key := chanKey 0 ((s.stack k).portStop loc) (h.data % 32)
      Completes (.ringCursor k h) s k [.rings, .answer] [] fun t =>
        mapGet {} t.rings.cursors key = ⟨h.addr, h.data / 256 % 2 ^ 24⟩ ∧
        (∀ j, j ≠ key → mapGet {} t.rings.cursors j = mapGet {} (s.stack k).rings.cursors j) ∧
        { t.rings with cursors := (s.stack k).rings.cursors } = (s.stack k).rings ∧ t.answer = ⟨0, []⟩) ∧
    (targetOf loc ≠ .store ∧ targetOf loc ≠ .commons →
      Completes (.ringCursor k h) s k [.answer] [] fun t =>
        t.answer = ⟨if targetOf loc = .engine then 8 else if targetOf loc = .fabric then (if (s.stack k).fabricTakes loc then 8 else 16) else 1, []⟩))

/-- A local store port of a layer of the build with fewer than 32 responses waiting takes a request: refused by R350, it changes no memory, counts in LOCAL_REFUSED, sets INT.LOCAL and its response carries the refusal; a read of clean codewords adds an OK response with the block's bytes; a write of clean codewords, with no injection armed and writes enabled, stores the enabled bytes and no others and adds an OK response. The port then returns its oldest response. A refresh that falls due adds one to DEBT less those made, up to 255. An interface answers ERROR at once in the cases of R308 and R341; else it injects a request whose tag and response space are free and for which its regulator holds tokens, which are taken (16ths; regulator 10 stands for none): its packet, with the regulator's class and the epoch as BIRTH, starts at its router, and a tag it takes is busy with that BIRTH, its timer running from the acceptance; without the space or the tokens an answered request waits. A quarantined tag is freed, and a packet discarded and counted, at an age of 586 epochs, not before; the oldest packet on the way with that BIRTH goes. An unassigned opcode is answered UNSUPPORTED or dropped. -/
def Obligations.LocalPortsAndInterfacesComplete : Prop :=
  (∀ (s : State) (k : Side) (i p : Nat) (write : Bool) (block be : Nat) (data : List Nat), s.hasSide k = true → i < (s.stack k).build.layers →
    ((s.stack k).localPort i p).length < 32 →
    ((s.stack k).localRefusal i block ≠ 0 →
      Completes (.localStoreRequest k i p write block be data) s k [.localPorts] [STORE.LOCAL_REFUSED i, STORE.INT_LOCAL] fun t =>
        t.localPort i p = (s.stack k).localPort i p ++ [⟨(s.stack k).localRefusal i block, if write then [] else List.replicate 64 0⟩] ∧
        t.get STORE.INT_LOCAL = 1) ∧
    ((s.stack k).localRefusal i block = 0 → (∀ j < 4, (s.stack k).mark (((i * localBytes + 64 * block)) / 16 + j) = .ok) →
      Completes (.localStoreRequest k i p false block be data) s k [.localPorts] [] (fun t =>
        t.localPort i p = (s.stack k).localPort i p ++
          [⟨0, (List.range 64).map fun b => ((s.stack k).readByte (i * localBytes + 64 * block + b)).toNat⟩]) ∧
      ((s.stack k).sys.writesEnabled = true → (s.stack k).flag CODE.INJECT_ARM = false →
        Completes (.localStoreRequest k i p true block be data) s k [.localPorts, .mem, .health] [] fun t =>
          t.localPort i p = (s.stack k).localPort i p ++ [⟨0, []⟩] ∧ (∀ cw, t.mark cw = (s.stack k).mark cw) ∧
          ∀ a, t.readByte a = if i * localBytes + 64 * block ≤ a ∧ a < i * localBytes + 64 * block + 64 ∧
              bit be (a - (i * localBytes + 64 * block)) = true then BitVec.ofNat 8 (data.getD (a - (i * localBytes + 64 * block)) 0)
            else (s.stack k).readByte a))) ∧
  (∀ (s : State) (k : Side) (i p : Nat) (a : Answer) (q : List Answer), s.hasSide k = true → (s.stack k).localPort i p = a :: q →
    Completes (.localStoreResponse k i p) s k [.localPorts, .answer] [] fun t => t.answer = a ∧ t.localPort i p = q) ∧
  (∀ (s : State) (k : Side) (m made : Nat), s.hasSide k = true →
    Completes (.refresh k m made) s k [] [STORE.REFRESH_DEBT m] fun t =>
      t.get (STORE.REFRESH_DEBT m) = min ((s.stack k).get (STORE.REFRESH_DEBT m) + 1 - made) 255) ∧
  (∀ (s : State) (k : Side) (op : Nat) (h : Header) (reg : Nat) (room : Bool), s.hasSide k = true →
    ((s.stack k).ringTag h.src h.tag).st < 2 →
    ((s.stack k).interfaceError op h = true →
      Completes (.requestInject k op h reg room) s k [.rings, .answer] [] fun t => t.answer = ⟨1, []⟩ ∧ (t.ringTag h.src h.tag).st = 0) ∧
    ((s.stack k).interfaceError op h = false → (room = true ∨ takesTag op = false) →
      reg = 10 ∨ (s.stack k).get (RING.REG_CFG_RATE reg) = 0 →
      Completes (.requestInject k op h reg room) s k [.rings] [] fun t =>
        t.rings.tokens = (s.stack k).rings.tokens ∧
        t.rings.packets = ((s.stack k).launch op { h with birth := (s.stack k).get RING.EPOCH_COUNT % 65536, cls := (s.stack k).classFor reg }
          (h.src / 32) (some (h.src % 32)) ((s.stack k).destinationOf op h.addr).1 ((s.stack k).destinationOf op h.addr).2).rings.packets ∧
        t.ringTag h.src h.tag = (if takesTag op then { st := 2, birth := (s.stack k).get RING.EPOCH_COUNT % 65536, due := (s.stack k).requestDue h.src h.tag } else (s.stack k).ringTag h.src h.tag)) ∧
    ((s.stack k).interfaceError op h = false → (room = true ∨ takesTag op = false) →
      reg < 10 → (s.stack k).get (RING.REG_CFG_RATE reg) ≠ 0 → 16 * (1 + h.len) ≤ mapGet 0 (s.stack k).rings.tokens reg →
      Completes (.requestInject k op h reg room) s k [.rings] [] fun t =>
        mapGet 0 t.rings.tokens reg = mapGet 0 (s.stack k).rings.tokens reg - 16 * (1 + h.len) ∧
        t.rings.packets = ((s.stack k).launch op { h with birth := (s.stack k).get RING.EPOCH_COUNT % 65536, cls := (s.stack k).classFor reg }
          (h.src / 32) (some (h.src % 32)) ((s.stack k).destinationOf op h.addr).1 ((s.stack k).destinationOf op h.addr).2).rings.packets ∧
        t.ringTag h.src h.tag = (if takesTag op then { st := 2, birth := (s.stack k).get RING.EPOCH_COUNT % 65536, due := (s.stack k).requestDue h.src h.tag } else (s.stack k).ringTag h.src h.tag)) ∧
    ((s.stack k).interfaceError op h = false → takesTag op = true → room = true → reg < 10 →
      (s.stack k).get (RING.REG_CFG_RATE reg) ≠ 0 → mapGet 0 (s.stack k).rings.tokens reg < 16 * (1 + h.len) →
      Completes (.requestInject k op h reg room) s k [.rings] [RING.REG_STAT_WAITS reg] fun t =>
        t.rings.tokens = (s.stack k).rings.tokens ∧ (t.ringTag h.src h.tag).st = 1)) ∧
  (∀ (s : State) (k : Side) (n tag : Nat), s.hasSide k = true → ((s.stack k).ringTag n tag).st = 3 →
    Completes (.tagQuarantineExpiry k n tag) s k [.rings] [] fun t =>
      (t.ringTag n tag).st = if 586 ≤ (s.stack k).age ((s.stack k).ringTag n tag).birth then 0 else 3) ∧
  (∀ (s : State) (k : Side) (birth : Nat), s.hasSide k = true →
    Completes (.packetLifetimeDiscard k birth) s k [.rings] [RING.DISCARD_LIFETIME, RING.INT_DISCARD] fun t =>
      if 586 ≤ ((s.stack k).get RING.EPOCH_COUNT + 65536 - birth % 65536) % 65536 then
        t.get RING.DISCARD_LIFETIME = min ((s.stack k).get RING.DISCARD_LIFETIME + 1) 0xFFFF ∧ t.get RING.INT_DISCARD = 1 ∧
        t.rings.packets = (match (s.stack k).rings.packets.find? fun p => !p.arrived && p.head.birth == birth % 65536 with
          | some p => (s.stack k).rings.packets.erase p
          | Option.none => (s.stack k).rings.packets)
      else t = s.stack k) ∧
  (∀ (s : State) (k : Side) (posted : Bool), s.hasSide k = true →
    Completes (.unassignedOpcode k posted) s k [.answer] [] fun t => t.answer = ⟨if posted then 16 else 8, []⟩)

/-- At an epoch boundary, the ring clocks running, the epoch count advances, wrapping, and each regulator's bucket gains its rate up to 16 times BURST (at least 17), in sixteenths; with no swap, copy, remap or retirement waiting nothing else changes. A pending base timetable becomes live in both banks: GEN takes its staged value, VARIANT and BOOT clear and COPY is set. A WIN_DATA read answers the word of the bank that LIVE selects at ADDR; a write, no firmware turn armed and no copy running, writes the staged word with LIVE 0, waits during a copy, and is ignored with LIVE 1; AUTOINC then advances ADDR. A guaranteed flit for a fabric or engine consumer is passed on with its channel. In a stop in bypass it is discarded and counted. At a store or commons port whose cursor is exhausted it is lost and counted; at one with flits left, for a clean commons place, its 64 bytes are stored there and the cursor moves on by 64. A flit that crosses a degraded hop in a dead slot is lost. -/
def Obligations.TimetablesAndGuaranteedFlitsComplete : Prop :=
  (∀ (s : State) (k : Side), s.hasSide k = true → (s.stack k).ringsRun = true → (s.stack k).turn.ttPending = false → (s.stack k).turn.chmapPending = false →
    (s.stack k).flag RING.TT_STATUS_COPY = false → (s.stack k).integ.remaps = [] → (s.stack k).integ.retire = [] →
    Completes (.epochBoundary k) s k [.rings] [RING.EPOCH_COUNT] fun t =>
      t.get RING.EPOCH_COUNT = ((s.stack k).get RING.EPOCH_COUNT + 1) % 2 ^ 32 ∧
      (∀ r, mapGet 0 t.rings.tokens r = if r < 10 then min (mapGet 0 (s.stack k).rings.tokens r + (s.stack k).regulatorRate r)
          (16 * max ((s.stack k).get (RING.REG_CFG_BURST r)) 17) else mapGet 0 (s.stack k).rings.tokens r) ∧
      { t.rings with tokens := (s.stack k).rings.tokens } = (s.stack k).rings) ∧
  (∀ (s : State) (k : Side), s.hasSide k = true → (s.stack k).ringsRun = true → (s.stack k).turn.ttPending = true → (s.stack k).turn.ttVariant = Option.none →
    (s.stack k).turn.chmapPending = false → (s.stack k).flag RING.TT_STATUS_COPY = false →
    (s.stack k).integ.remaps = [] → (s.stack k).integ.retire = [] →
    Completes (.epochBoundary k) s k [.rings, .turn] [RING.EPOCH_COUNT, RING.TT_GEN_GEN, RING.TT_STATUS_VARIANT, RING.TT_STATUS_BOOT,
        RING.TT_STATUS_COPY] fun t =>
      t.rings.live = (s.stack k).rings.staged ∧ t.rings.staged = (s.stack k).rings.staged ∧ t.turn.ttPending = false ∧
      t.get RING.TT_STATUS_VARIANT = 0 ∧ t.get RING.TT_STATUS_BOOT = 0 ∧ t.get RING.TT_STATUS_COPY = 1) ∧
  (∀ (s : State) (k : Side) (v : Nat), s.hasSide k = true →
    let a := (s.stack k).get RING.WIN_ADDR_ADDR
    let live := (s.stack k).flag RING.WIN_ADDR_LIVE
    let next := fun (t : Stack) => t.get RING.WIN_ADDR_ADDR = if (s.stack k).flag RING.WIN_ADDR_AUTOINC then (a + 1) % 2 ^ 22 else a
    Completes (.ringWinDataAccess k false v) s k [.answer] [RING.WIN_ADDR_ADDR] (fun t => next t ∧
      t.answer = ⟨0, [if live then (s.stack k).ttLiveWord a else (s.stack k).ttWord (s.stack k).rings.staged a]⟩) ∧
    ((s.stack k).firmwareArmed = false →
      Completes (.ringWinDataAccess k true v) s k [.rings] [RING.WIN_ADDR_ADDR] fun t => next t ∧ t.rings.live = (s.stack k).rings.live ∧
        (live = true → t.rings = (s.stack k).rings) ∧
        (live = false → (s.stack k).flag RING.TT_STATUS_COPY = true → t.rings.staged = (s.stack k).rings.staged ∧
          t.rings.waiting = (s.stack k).rings.waiting ++ [(a, v)]) ∧
        (live = false → (s.stack k).flag RING.TT_STATUS_COPY = false → t.rings.waiting = (s.stack k).rings.waiting ∧
          (a / 2 ^ 20 % 4 = 1 → bits a 17 3 ≤ (s.stack k).build.layers →
            t.ttWord t.rings.staged a = v % 2 ^ 18)))) ∧
  (∀ (s : State) (k : Side) (hub stop chan : Nat) (data : List Nat) (poison hop slot : Nat), s.hasSide k = true →
    (hub ≠ 0 → (s.stack k).stopBypassed hub stop = false →
      Completes (.guaranteedFlit k hub stop chan 0 data poison 4 hop slot) s k [.answer] [] fun t => t.answer = ⟨0, chan :: poison :: data⟩) ∧
    ((s.stack k).stopBypassed hub stop = true →
      Completes (.guaranteedFlit k hub stop chan 0 data poison 4 hop slot) s k [] [RING.DISCARD_BYPASS, RING.INT_DISCARD] fun t =>
        t.get RING.DISCARD_BYPASS = min ((s.stack k).get RING.DISCARD_BYPASS + 1) 0xFFFF ∧ t.get RING.INT_DISCARD = 1) ∧
    (hub = 0 → 2 ≤ stop → stop ≤ 9 → (mapGet {} (s.stack k).rings.cursors (chanKey 0 stop chan)).left = 0 →
      Completes (.guaranteedFlit k hub stop chan 0 data poison 4 hop slot) s k [] [RING.GQ_LOSS_NO_CURSOR, RING.INT_GQ_LOSS] fun t =>
        t.get RING.GQ_LOSS_NO_CURSOR = min ((s.stack k).get RING.GQ_LOSS_NO_CURSOR + 1) 0xFFFF ∧ t.get RING.INT_GQ_LOSS = 1) ∧
    (∀ ring < 4, (s.stack k).hopRetired ring hop ≠ 0 → slot % 4 = 3 →
      Completes (.guaranteedFlit k hub stop chan 0 data poison ring hop slot) s k [] [RING.GQ_LOSS_DEAD, RING.INT_GQ_LOSS] fun t =>
        t.get RING.GQ_LOSS_DEAD = min ((s.stack k).get RING.GQ_LOSS_DEAD + 1) 0xFFFF ∧ t.get RING.INT_GQ_LOSS = 1)) ∧
  (∀ (s : State) (k : Side) (stop chan : Nat) (data : List Nat) (hop slot : Nat), s.hasSide k = true → 6 ≤ stop → stop ≤ 9 → data.length = 64 →
    let c := mapGet {} (s.stack k).rings.cursors (chanKey 0 stop chan)
    let loc := c.addr % 2 ^ 44
    c.left ≠ 0 → (s.stack k).writesIgnored 32 = false → targetOf loc = .commons → (∀ i < 4, (s.stack k).mark (loc / 16 + i) = .ok) → (s.stack k).flag CODE.INJECT_ARM = false →
    Completes (.guaranteedFlit k 0 stop chan 0 data 0 4 hop slot) s k [.rings, .mem, .health] [COMN.WR_FLITS (commonsPort loc)] fun t =>
      mapGet {} t.rings.cursors (chanKey 0 stop chan) = ⟨c.addr + 64, c.left - 1⟩ ∧
      ∀ a, t.readByte a = if loc ≤ a ∧ a < loc + 64 then BitVec.ofNat 8 (data.getD (a - loc) 0) else (s.stack k).readByte a)

/-- With the host running, the link up, nothing waiting and a free tag, an access of a row of R541 outside HOSTIF's own registers, accepted, served by the mode and not one that the interface answers itself, is in flight under the lowest free tag of interface 0, whose tag is busy if regulator 00 holds the tokens for its packet and waits if not; it has no answer yet. While no module is up, every access waits in the host die, the newest last. An access of a kind that R541 does not list is answered ERROR with no data, and, with no earlier failure recorded, ERR_STATUS and ERR_ADDR record it and INT.ERR is set; a write among them counts as failed for the next fence. Only what a clause lists differs. -/
def Obligations.HostAccessesComplete : Prop :=
  (∀ (s : State) (k : Side) (core addr size v g : Nat) (data : List Nat) (p : Instr × HostReq), s.hasSide k = true →
    p ∈ ([(.hostLineFill k core addr, { kind := .lineFill, core := core, size := 64, addr := addr, data := [] }),
      (.hostWriteBack k core addr data, { kind := .writeBack, core := core, size := 64, addr := addr, data := data }),
      (.hostUncachedLoad k core size addr, { kind := .load, core := core, size := size, addr := addr, data := [] }),
      (.hostUncachedStore k core addr data, { kind := .store, core := core, size := data.length, addr := addr, data := data }),
      (.hostRegisterAccess k core false addr v, { kind := .regLoad, core := core, size := 4, addr := addr, data := [] }),
      (.hostRegisterAccess k core true addr v, { kind := .regStore, core := core, size := 4, addr := addr, data := wordList v }),
      (.hostInstructionFetch k core addr, { kind := .fetch, core := core, size := 64, addr := addr, data := [] })] : List (Instr × HostReq)) →
    (s.stack k).hostRuns = true → (s.stack k).linkUp = true → (s.stack k).hostif.waiting = [] → ownLoc (addr % 2 ^ 44) = false →
    let r := p.2.normal
    r.accepted = true → (s.stack k).hostServes r = true →
    ((List.range 1024).find? fun g => ((s.stack k).ringTag 0 g).st == 0) = some g → (s.stack k).interfaceError (r.header g).1 (r.header g).2 = false →
    Completes p.1 s k [.rings, .hostif, .answer] [RING.REG_STAT_WAITS 0] fun t =>
      mapGet [] t.hostif.out g = [r] ∧ { t.hostif with out := (s.stack k).hostif.out } = (s.stack k).hostif ∧ t.answer = ⟨16, []⟩ ∧
      (t.ringTag 0 g).st = if (s.stack k).tokensFor 0 (1 + (r.header g).2.len) then 2 else 1) ∧
  (∀ (s : State) (k : Side) (core addr : Nat), s.hasSide k = true → (s.stack k).hostRuns = true → (s.stack k).linkUp = false →
    Completes (.hostLineFill k core addr) s k [.hostif, .answer] [] fun t => t.answer = ⟨16, []⟩ ∧
      t.hostif = { (s.stack k).hostif with waiting := (s.stack k).hostif.waiting ++
        [{ kind := .lineFill, core := core, size := 64, addr := addr, data := [] }] }) ∧
  (∀ (s : State) (k : Side) (core size addr : Nat) (data : List Nat), s.hasSide k = true → (s.stack k).hostRuns = true →
    (s.stack k).linkUp = true → (s.stack k).hostif.waiting = [] → (s.stack k).hostif.fences = [] →
    (s.stack k).flag HOSTIF.ERR_STATUS_VALID = false →
    Completes (.hostUnsupportedAccess k core size addr data) s k [.hostif, .answer] [HOSTIF.ERR_STATUS_VALID, HOSTIF.ERR_STATUS_STATUS,
        HOSTIF.ERR_STATUS_KIND, HOSTIF.ERR_STATUS_CORE, HOSTIF.ERR_ADDR_LO_ADDR, HOSTIF.ERR_ADDR_HI_ADDR, HOSTIF.INT_ERR] fun t =>
      t.answer = ⟨1, []⟩ ∧ t.get HOSTIF.ERR_STATUS_VALID = 1 ∧ t.get HOSTIF.ERR_STATUS_STATUS = 1 ∧
      t.get HOSTIF.ERR_STATUS_KIND = (if data = [] then 0 else 1) ∧ t.get HOSTIF.ERR_STATUS_CORE = core % 4 ∧
      t.get HOSTIF.ERR_ADDR_LO_ADDR = addr % 2 ^ 32 ∧ t.get HOSTIF.ERR_ADDR_HI_ADDR = addr / 2 ^ 32 % 2 ^ 16 ∧ t.get HOSTIF.INT_ERR = 1 ∧
      t.hostif.fenceFailed = (s.stack k).hostif.fenceFailed + (if data = [] then 0 else 1))

/-- At an interface other than those of HOSTIF, the media ports and the debug port, a response for a tag in flight frees the tag and is handed on with its status and data; at any interface, one for a tag that is not in flight sets INT.LATE and frees the tag if it was quarantined. A load's OK response at HOSTIF is handed to its core and ends its flight. When a request's timer expires at an interface other than those and Lacing's, device time, once it runs, is that of the expiry, one not injected is withdrawn and its tag is free, an injected one's tag is quarantined, and the initiator receives TIMEOUT. An MSG that no packet on the rings carries and that names a vector below 128 is dropped and counted. A vector at 128 or above, or one whose line is high, that is not pending becomes pending, and its message goes to CORE if it is enabled and the link is up, or waits. VEC_EOI ends a pending vector whose line is then low. VEC_CFG sets EN, CORE and WAKE. In Siesta a pending vector with WAKE starts the wake. Only what a clause lists differs. -/
def Obligations.ResponsesAndVectorsComplete : Prop :=
  (∀ (s : State) (k : Side) (n tag status d : Nat) (data : List Nat) (p : Instr × List Nat), s.hasSide k = true →
    p ∈ ([(.ringReadResp k n tag status data, data), (.ringRegResp k n tag status d, [d]), (.ringWriteAck k n tag status, [])] :
      List (Instr × List Nat)) →
    (((s.stack k).ringTag n tag).st = 2 → n ∉ [0, 11, 12, 15] →
      Completes p.1 s k [.rings, .answer] [] fun t => (t.ringTag n tag).st = 0 ∧ t.answer = ⟨status, p.2⟩) ∧
    (((s.stack k).ringTag n tag).st ≠ 2 →
      Completes p.1 s k [.rings] [RING.ISTAT_LATE n, RING.INT_LATE] fun t => t.get RING.INT_LATE = 1 ∧
        (((s.stack k).ringTag n tag).st = 3 → (t.ringTag n tag).st = 0))) ∧
  (∀ (s : State) (k : Side) (tag core addr : Nat) (data : List Nat), s.hasSide k = true → ((s.stack k).ringTag 0 tag).st = 2 →
    let r : HostReq := { kind := .lineFill, core := core, size := 64, addr := addr, data := [] }
    mapGet [] (s.stack k).hostif.out tag = [r] → (s.stack k).hostif.waiting = [] →
    Completes (.ringReadResp k 0 tag 0 data) s k [.rings, .hostif, .answer] [] fun t =>
      (t.ringTag 0 tag).st = 0 ∧ t.answer = ⟨0, data⟩ ∧ mapGet [] t.hostif.out tag = []) ∧
  (∀ (s : State) (k : Side) (n tag : Nat), s.hasSide k = true → n ∉ [0, 11, 12, 13, 15] →
    (((s.stack k).ringTag n tag).st = 1 →
      Completes (.requestTimeout k n tag) s k [.rings, .answer, .time, .clk] [RING.ISTAT_TIMEOUTS n] fun t =>
        t.time = (if (s.stack k).clk.started then (s.stack k).time + (((s.stack k).ringTag n tag).due - (s.stack k).clk.up) else (s.stack k).time) ∧
        t.clk = { (s.stack k).clk with up := max (s.stack k).clk.up ((s.stack k).ringTag n tag).due } ∧
        (t.ringTag n tag).st = 0 ∧ t.answer = ⟨2, []⟩) ∧
    (((s.stack k).ringTag n tag).st = 2 →
      Completes (.requestTimeout k n tag) s k [.rings, .answer, .time, .clk] [RING.ISTAT_TIMEOUTS n] fun t =>
        t.time = (if (s.stack k).clk.started then (s.stack k).time + (((s.stack k).ringTag n tag).due - (s.stack k).clk.up) else (s.stack k).time) ∧
        t.clk = { (s.stack k).clk with up := max (s.stack k).clk.up ((s.stack k).ringTag n tag).due } ∧
        t.ringTag n tag = { (s.stack k).ringTag n tag with st := 3 } ∧ t.answer = ⟨2, []⟩)) ∧
  (∀ (s : State) (k : Side) (h : Header), s.hasSide k = true → (s.stack k).uncarried 8 h → h.data % 256 < 128 →
    Completes (.ringMsg k h) s k [] [HOSTIF.MSG_DROP_COUNT, HOSTIF.INT_MSG_DROP] fun t =>
      t.get HOSTIF.MSG_DROP_COUNT = min ((s.stack k).get HOSTIF.MSG_DROP_COUNT + 1) 0xFFFF ∧ t.get HOSTIF.INT_MSG_DROP = 1) ∧
  (∀ (s : State) (k : Side) (h : Header) (v : Nat) (c : Instr), s.hasSide k = true → (s.stack k).vecPending v = false →
    (c = .ringMsg k h ∧ (s.stack k).uncarried 8 h ∧ h.data % 256 = v ∧ 128 ≤ v) ∨ (c = .vectorLineRise k v ∧ (s.stack k).vectorLine v = true) →
    ((s.stack k).flag (HOSTIF.VEC_CFG_EN v) = true → (s.stack k).linkUp = true → v < 256 →
      Completes c s k [.hostif, .answer] [HOSTIF.VEC_PEND_PEND (v / 32)] fun t => t.vecPending v = true ∧
        t.answer = ⟨0, [v, (s.stack k).get (HOSTIF.VEC_CFG_CORE v)]⟩ ∧ v ∉ t.hostif.unsent) ∧
    ((s.stack k).flag (HOSTIF.VEC_CFG_EN v) = false → v < 256 →
      Completes c s k [.hostif] [HOSTIF.VEC_PEND_PEND (v / 32)] fun t => t.vecPending v = true ∧ v ∈ t.hostif.unsent)) ∧
  (∀ (s : State) (k : Side) (core v : Nat), s.hasSide k = true → (s.stack k).hostRuns = true → (s.stack k).linkUp = true →
    (s.stack k).hostif.waiting = [] → v < 256 → (s.stack k).vecPending v = true → ((s.stack k).setVec v false).vectorLine v = false →
    Completes (.vecEoi k core v) s k [.hostif, .answer] [HOSTIF.VEC_PEND_PEND (v / 32)] fun t =>
      t.vecPending v = false ∧ v ∉ t.hostif.unsent ∧ t.answer = ⟨0, []⟩) ∧
  (∀ (s : State) (k : Side) (core v w : Nat), s.hasSide k = true → (s.stack k).hostRuns = true → (s.stack k).linkUp = true →
    (s.stack k).hostif.waiting = [] → v < 256 → w < 2 ^ 32 → v ∉ (s.stack k).hostif.unsent →
    Completes (.vecCfgWrite k core v w) s k [.answer] [HOSTIF.VEC_CFG_EN v, HOSTIF.VEC_CFG_CORE v, HOSTIF.VEC_CFG_WAKE v] fun t =>
      t.get (HOSTIF.VEC_CFG_EN v) = w % 2 ∧ t.get (HOSTIF.VEC_CFG_CORE v) = w / 2 % 4 ∧ t.get (HOSTIF.VEC_CFG_WAKE v) = w / 8 % 2 ∧
      t.answer = ⟨0, []⟩) ∧
  (∀ s : State, s.recto.mode = .siesta → s.recto.sys.siestaWake = 0 → s.recto.wakePending = true →
    ∃ t, exec .wakeInterrupt s = .next t ∧ s.KeepsPackage t ∧ ∀ k, s.hasSide k = true → (t.stack k).sys.siestaWake = 1 ∧
      (t.stack k).get SYS.MODE_BUSY = 1 ∧ (s.stack k).OnlyChanges [.sys] [SYS.MODE_BUSY] (t.stack k))

/-- A replayed flit counts in RETRIES. A module that goes down leaves the other one with DEGRADED, or no link; one that retrains is up again at its rate. With every module down for 10 ms the whole package is in Haven with safe outputs; in an Atlas whose other module is up it is a stack-level fault of the stack. With AUTOINC 1 and a target outside register space, a window write inside a block, with nothing collected before, collects its four bytes, advances the address by 4 and answers OK; once 1 us passes the collected bytes go out as one WRITE under the lowest free tag. With nothing collected a write to WIN_ADDR moves the window. A FENCE read with nothing collected and no write in flight returns at once the first failure's status and their number, which start anew. An open debug port issues its access from base stop 15 and captures the last result; a locked one acts as BYPASS. Only what a clause lists differs. -/
def Obligations.WindowsFenceAndLinkComplete : Prop :=
  (∀ (s : State) (k : Side), s.hasSide k = true → Completes (.flitReplay k) s k [] [HOSTIF.UCIE_STAT_RETRIES] fun t =>
    t.get HOSTIF.UCIE_STAT_RETRIES = min ((s.stack k).get HOSTIF.UCIE_STAT_RETRIES + 1) 0xFFFF) ∧
  (∀ (s : State) (k : Side) (m : Nat), s.hasSide k = true → m < 2 →
    ((s.stack k).get HOSTIF.UCIE_STAT_MODULES = 3 →
      Completes (.ucieModuleDown k m) s k [] [HOSTIF.UCIE_STAT_MODULES, HOSTIF.INT_DEGRADED] fun t =>
        t.get HOSTIF.UCIE_STAT_MODULES = 3 - 2 ^ m ∧ t.get HOSTIF.INT_DEGRADED = 1) ∧
    ((s.stack k).get HOSTIF.UCIE_STAT_MODULES = 2 ^ m →
      Completes (.ucieModuleDown k m) s k [] [HOSTIF.UCIE_STAT_MODULES] fun t => t.linkUp = false) ∧
    (∀ rate, m < (s.stack k).build.modules → (s.stack k).hostRuns = true → (s.stack k).mode ≠ .dawn →
      (s.stack k).get HOSTIF.UCIE_STAT_MODULES < 4 → bit ((s.stack k).get HOSTIF.UCIE_STAT_MODULES) m = false →
      (s.stack k).hostif.unsent = [] → (s.stack k).hostif.waiting = [] →
      Completes (.ucieLinkRetrained k m rate) s k [] [HOSTIF.UCIE_STAT_MODULES, HOSTIF.UCIE_STAT_RATE] fun t =>
        t.get HOSTIF.UCIE_STAT_MODULES = (s.stack k).get HOSTIF.UCIE_STAT_MODULES + 2 ^ m ∧ t.get HOSTIF.UCIE_STAT_RATE = rate % 2)) ∧
  (∀ s : State, s.recto.linkUp = false → s.recto.hostRuns = true → (s.build = .atlas → s.verso.linkUp = false) →
    s.recto.sys.recoveries = [] → (∀ j, s.hasSide j = true → (s.stack j).mode ≠ .haven) →
    ∃ t, exec .ucieLinkLost s = .next t ∧ s.KeepsPackage t ∧ ∀ j, s.hasSide j = true →
      (t.stack j).mode = .haven ∧ (t.stack j).sys.recoveries = [] ∧ (t.stack j).sys.outputs = .safe) ∧
  (∀ (s : State) (k : Side), s.build = .atlas → (s.stack k).linkUp = false → (s.stack k).hostRuns = true →
    (s.stack (otherSide k)).linkUp = true →
    ∃ t, exec (.stackUnreachable k) s = .next t ∧ exec (.baseRingFault k 0xE 0) s = .next t) ∧
  (∀ (s : State) (k : Side) (n a x g : Nat) (l : Sparse Nat), s.hasSide k = true → mapGet [] (s.stack k).hostif.windows n = (a, x) :: l →
    let bytes := ((a, x) :: l).map fun p => p.2 - 1
    let r : HostReq := { kind := .store, core := mapGet 0 (s.stack k).hostif.cores n, size := bytes.length, addr := a, data := bytes, window := true }
    (s.stack k).hostServes r = true → ((List.range 1024).find? fun g => ((s.stack k).ringTag 0 g).st == 0) = some g →
    (s.stack k).interfaceError (r.header g).1 (r.header g).2 = false →
    Completes (.windowCollectTimeout k n) s k [.rings, .hostif, .answer] [RING.REG_STAT_WAITS 0] fun t =>
      mapGet [] t.hostif.windows n = [] ∧ mapGet [] t.hostif.out g = [r]) ∧
  (∀ (s : State) (k : Side) (core n v : Nat), s.hasSide k = true → (s.stack k).hostRuns = true → (s.stack k).linkUp = true →
    (s.stack k).hostif.waiting = [] → n < 4 → v < 2 ^ 32 → mapGet [] (s.stack k).hostif.windows n = [] →
    Completes (.winAddrWrite k core n false v) s k [.answer] [HOSTIF.WIN_ADDR_LO_ADDR n] (fun t =>
      t.get (HOSTIF.WIN_ADDR_LO_ADDR n) = v ∧ t.answer = ⟨0, []⟩) ∧
    Completes (.winAddrWrite k core n true v) s k [.answer] [HOSTIF.WIN_ADDR_HI_ADDR n, HOSTIF.WIN_ADDR_HI_AUTOINC n] (fun t =>
      t.get (HOSTIF.WIN_ADDR_HI_ADDR n) = v % 2 ^ 16 ∧ t.get (HOSTIF.WIN_ADDR_HI_AUTOINC n) = v / 2 ^ 31 ∧ t.answer = ⟨0, []⟩) ∧
    let a := (s.stack k).winAddr n
    ((s.stack k).flag (HOSTIF.WIN_ADDR_HI_AUTOINC n) = true → a < 2 ^ 48 - 64 → targetOf (a % 2 ^ 44) ≠ .regs → a % 64 < 60 →
      Completes (.winDataAccess k core n true v) s k [.hostif, .answer] [HOSTIF.WIN_ADDR_LO_ADDR n, HOSTIF.WIN_ADDR_HI_ADDR n] fun t =>
        t.winAddr n = a + 4 ∧ t.answer = ⟨0, []⟩ ∧
        mapGet [] t.hostif.windows n = [(a, v % 256 + 1), (a + 1, v / 2 ^ 8 % 256 + 1), (a + 2, v / 2 ^ 16 % 256 + 1), (a + 3, v / 2 ^ 24 % 256 + 1)])) ∧
  (∀ (s : State) (k : Side) (core : Nat), s.hasSide k = true → (s.stack k).hostRuns = true → (s.stack k).linkUp = true →
    (s.stack k).hostif.waiting = [] → (∀ n < 4, mapGet [] (s.stack k).hostif.windows n = []) → (s.stack k).hostif.fences = [] →
    (∀ e ∈ (s.stack k).hostif.out, e.2.any HostReq.isWrite = false) → (s.stack k).hostif.fenceStatus < 16 →
    let n := min (s.stack k).hostif.fenceFailed 0xFFFF
    Completes (.fence k core) s k [.hostif, .answer] [HOSTIF.FENCE_STATUS, HOSTIF.FENCE_FAILED] fun t =>
      t.answer = ⟨0, [(s.stack k).hostif.fenceStatus + 65536 * n]⟩ ∧ t.get HOSTIF.FENCE_STATUS = (s.stack k).hostif.fenceStatus ∧
      t.get HOSTIF.FENCE_FAILED = n ∧ t.hostif = { (s.stack k).hostif with fenceStatus := 0, fenceFailed := 0 }) ∧
  (∀ (s : State) (addr v g : Nat) (write : Bool), s.recto.mode ∈ [Mode.workshop, Mode.haven] → s.recto.flag TEST.JTAG_STAT_OPEN = true →
    s.recto.jtag.dbgDone = true →
    let r := wordReq 0 write (targetOf (addr % 2 ^ 44) == .regs) addr v
    let h := { (r.header g).2 with src := 15 }
    r.accepted = true → ((List.range 1024).find? fun g => (s.recto.ringTag 15 g).st == 0) = some g →
    s.recto.interfaceError (r.header g).1 h = false →
    Completes (.jtagDbgAccess .recto addr write v) s .recto [.jtag, .rings, .answer] [RING.REG_STAT_WAITS 9] fun t =>
      t.jtag = { s.recto.jtag with ir := 0x20, dbgDone := false, dbgOut := some (.recto, g), dbgAddr := addr } ∧
      t.answer = ⟨0, [s.recto.jtag.dbgStatus, s.recto.jtag.dbgData, 1]⟩ ∧
      (t.ringTag 15 g).st = if s.recto.tokensFor 9 (1 + h.len) then 2 else 1) ∧
  (∀ (s : State) (k : Side) (addr v : Nat) (write : Bool), s.recto.mode ≠ .off → s.recto.flag TEST.JTAG_STAT_OPEN = false →
    ∃ t, exec (.jtagDbgAccess k addr write v) s = .next t ∧ exec .jtagBypass s = .next t)

/-- While CMD_STATUS.BUSY is 1, a GO of any OP sets OVERRUN and has no other effect. Otherwise OP none has none but RESULT 0. START of an Idle channel in Day or Workshop with LIST a multiple of 16 makes it Running with CUR at LIST and its counters 0; in another state RESULT is 1, in another mode 2, with LIST misaligned 3, lowest code first. STOP of a Running channel makes it Stopping with BUSY 1; otherwise RESULT is 1. RESUME of a Stopped or Halted channel in Day or Workshop makes it Running from the start of the group at CUR; RESULT 1 or 2 otherwise. RESET of a Stopped or Halted channel makes it Idle and sets its DONE_PEND bit, its counters kept; RESULT 1 otherwise. SKIP of a Stopped or Halted channel whose group is one entry without END, in commons without an error and not yet BAD, writes SKIPPED (0x22) to the entry's STATUS byte and no other byte, and runs on at the entry after it. -/
def Obligations.DmaCommandsComplete : Prop :=
  ∀ (s : State) (k : Side) (n : Nat), s.hasSide k = true → n < 32 →
    let u := s.stack k
    let cmd := fun op code => [(DMA.CMD_CHANNEL, n), (DMA.CMD_OP, op), (DMA.CMD_STATUS_RESULT, code)]
    let day := u.mode = .day ∨ u.mode = .workshop
    let rest := u.get (DMA.STATE_STATE n) = 3 ∨ u.get (DMA.STATE_STATE n) = 4
    let list := u.get (DMA.LIST_LO_ADDR n) + 2 ^ 32 * u.get (DMA.LIST_HI_ADDR n)
    (u.flag DMA.CMD_STATUS_BUSY = true →
      ∀ p ∈ ([(.dmaStart k n, 1), (.dmaStop k n, 2), (.dmaResume k n, 3), (.dmaSkip k n, 4), (.dmaReset k n, 5)] : List (Instr × Nat)),
        exec p.1 s = .next (s.onStack k fun t => t.writes [(DMA.CMD_STATUS_OVERRUN, 1)])) ∧
    (u.flag DMA.CMD_STATUS_BUSY = false →
      (∀ op, exec (.dmaNone k n op) s = .next (s.onStack k fun t => t.writes (cmd op 0))) ∧
      (u.get (DMA.STATE_STATE n) = 0 → day → u.get (DMA.LIST_LO_ADDR n) % 16 = 0 →
        exec (.dmaStart k n) s = .next (s.onStack k fun t =>
          { t.writes (cmd 1 0 ++ [(DMA.STATE_STATE n, 1), (DMA.CUR_LO_ADDR n, list), (DMA.CUR_HI_ADDR n, list / 2 ^ 32),
              (DMA.BYTES_COUNT n, 0), (DMA.GROUPS_DONE n, 0), (DMA.GROUPS_FAILED n, 0)]) with dma := mapSet {} t.dma n {} })) ∧
      (∀ code, (u.get (DMA.STATE_STATE n) ≠ 0 ∧ code = 1) ∨ (u.get (DMA.STATE_STATE n) = 0 ∧ ¬ day ∧ code = 2) ∨
          (u.get (DMA.STATE_STATE n) = 0 ∧ day ∧ u.get (DMA.LIST_LO_ADDR n) % 16 ≠ 0 ∧ code = 3) →
        exec (.dmaStart k n) s = .next (s.onStack k fun t => t.writes (cmd 1 code))) ∧
      (u.get (DMA.STATE_STATE n) = 1 → exec (.dmaStop k n) s = .next (s.onStack k fun t =>
        { t.writes (cmd 2 0 ++ [(DMA.STATE_STATE n, 2), (DMA.CMD_STATUS_BUSY, 1)]) with
          dma := mapSet {} t.dma n { t.chan n with stopCmd := true } })) ∧
      (u.get (DMA.STATE_STATE n) ≠ 1 → exec (.dmaStop k n) s = .next (s.onStack k fun t => t.writes (cmd 2 1))) ∧
      (rest → day → exec (.dmaResume k n) s = .next (s.onStack k fun t =>
        { t.writes (cmd 3 0 ++ [(DMA.STATE_STATE n, 1)]) with dma := mapSet {} t.dma n {} })) ∧
      (∀ code, (¬ rest ∧ code = 1) ∨ (rest ∧ ¬ day ∧ code = 2) →
        exec (.dmaResume k n) s = .next (s.onStack k fun t => t.writes (cmd 3 code))) ∧
      (rest → exec (.dmaReset k n) s = .next (s.onStack k fun t =>
        { t.writes (cmd 5 0 ++ [(DMA.STATE_STATE n, 0), (DMA.DONE_PEND_PEND, setBit (u.get DMA.DONE_PEND_PEND) n true)]) with
          dma := mapSet {} t.dma n {} })) ∧
      (¬ rest → exec (.dmaReset k n) s = .next (s.onStack k fun t => t.writes (cmd 5 1)) ∧
        exec (.dmaSkip k n) s = .next (s.onStack k fun t => t.writes (cmd 4 1))) ∧
      (∀ e : DmaEntry, rest → (u.chan n).entries = [e] → e.finish = false → (u.chan n).status = [] → e.at_ % 16 = 0 →
        e.at_ < 2 ^ 44 → targetOf (e.at_ / 64 * 64) = .commons → (∀ i < 4, u.mark (e.at_ / 64 * 64 / 16 + i) = .ok) →
        u.flag CODE.INJECT_ARM = false →
        let next := (u.get (DMA.CUR_LO_ADDR n) + 2 ^ 32 * u.get (DMA.CUR_HI_ADDR n) + 16) % 2 ^ 48
        Completes (.dmaSkip k n) s k [.mem, .health, .dma] [DMA.CMD_CHANNEL, DMA.CMD_OP, DMA.CMD_STATUS_RESULT, DMA.STATE_STATE n,
            DMA.CUR_LO_ADDR n, DMA.CUR_HI_ADDR n, COMN.WR_FLITS (commonsPort (e.at_ / 64 * 64))] fun t =>
          t.get (DMA.STATE_STATE n) = 1 ∧ t.get (DMA.CUR_LO_ADDR n) + 2 ^ 32 * t.get (DMA.CUR_HI_ADDR n) = next ∧
          t.get DMA.CMD_STATUS_RESULT = 0 ∧ t.chan n = {} ∧ (∀ m, m ≠ n → t.chan m = u.chan m) ∧
          (∀ c, t.mark c = u.mark c) ∧
          ∀ p, t.readByte p = if p = e.at_ + 15 then 0x22 else u.readByte p))

/-- All in commons without an error that no armed injection meets. A Running channel with no group yet reads the one at CUR: where its entry is LAST, the group is that entry, with FORMAT if it breaks R389 to R393. A source piece answered OK puts the bytes read at their place of the source stream; a destination piece whose sources are read stores the bytes that the operation reshapes, and no other byte, and BYTES counts them; its port's flits count the blocks. A data request answered with a status other than OK, UNCORRECTABLE or POISON makes its entry BAD with that status and has no other effect. A LINK that completes has DONE (0x01) in its STATUS byte, GROUPS.DONE advances, its DONE_PEND bit is set with INT, and CUR is its address. A one-entry group with FORMAT and without END has 0x20 in its STATUS byte, GROUPS.FAILED advances, its ERR_PEND bit is set, and the next entry follows. Responses come to a Running channel, and to a Stopping one up to the OUTSTANDING that it may have in flight, which it counts. A Stopping channel whose responses have arrived is Stopped without a status, and the command that stopped it is no longer BUSY; an overlapping COPY completes first. Only what a clause lists differs. -/
def Obligations.DmaGroupsComplete : Prop :=
  ∀ (s : State) (k : Side) (n : Nat), s.hasSide k = true → n < 32 →
    let u := s.stack k
    let c := u.chan n
    let clean := fun (a blocks : Nat) => a < 2 ^ 44 ∧ targetOf (a / 64 * 64) = .commons ∧ ∀ i < 4 * blocks, u.mark (a / 64 * 64 / 16 + i) = .ok
    let rd := fun a => COMN.RD_FLITS (commonsPort (a / 64 * 64))
    let wr := fun a => COMN.WR_FLITS (commonsPort (a / 64 * 64))
    let cur := u.get (DMA.CUR_LO_ADDR n) + 2 ^ 32 * u.get (DMA.CUR_HI_ADDR n)
    (u.get (DMA.STATE_STATE n) = 1 → c.entries = [] → cur % 16 = 0 → clean cur 1 →
      let e := dmaEntry cur ((List.range 16).map fun i => (u.readByte (cur + i)).toNat)
      e.last = true →
      exec (.dmaGroupRead k n) s = .next (s.onStack k fun t => (t.bumpWrap (rd cur) 1).setChan n
        { entries := [e], next := (cur + 16) % 2 ^ 48, status := if dmaFormat [e] then [] else [(0, 0x20)] })) ∧
    (∀ (i p ext : Nat) (data : List Nat), u.dmaAwaits n = true → i < c.entries.length →
      c.failed = false → c.done i p = false →
      let e := c.entries.getD i (dmaEntry 0 [])
      let o := (dmaPiece e p).1
      let len := (dmaPiece e p).2
      let a := e.addr + o
      let blocks := (a % 64 + len + 63) / 64
      let b : DmaChan := if u.get (DMA.STATE_STATE n) = 2 then { c with late := c.late + 1 } else c
      p < dmaPieces e → a < 2 ^ 44 → targetOf (a / 64 * 64) = .commons → a % 1024 + len ≤ 1024 →
      (e.dest = false → ext = 0 → clean a blocks →
        exec (.dmaDataResponse k n i p ext data) s = .next (s.onStack k fun t => (t.bumpWrap (rd a) blocks).setChan n
          { b with
            answered := mapSet false c.answered (pieceKey i p) true
            buf := putWords c.buf (dmaBase (dmaSide c.entries false) (dmaOrdinal c.entries i) + o)
              ((List.range len).map fun j => (u.readByte (a + j)).toNat) })) ∧
      (e.dest = true → ext = 0 → c.mayWrite i p = true → 0 < len → clean a blocks → u.flag CODE.INJECT_ARM = false →
        Completes (.dmaDataResponse k n i p ext data) s k [.mem, .health, .dma] [wr a, DMA.BYTES_COUNT n] fun t =>
          (∀ x, t.readByte x = if a ≤ x ∧ x < a + len then BitVec.ofNat 8 (dmaByte c (dmaOrdinal c.entries i) (o + (x - a)))
            else u.readByte x) ∧ (∀ m, t.mark m = u.mark m) ∧
          t.get (DMA.BYTES_COUNT n) = (u.get (DMA.BYTES_COUNT n) + len) % 2 ^ 32 ∧
          t.get (wr a) = (u.get (wr a) + blocks) % 2 ^ 32 ∧ (∀ m, m ≠ n → t.chan m = u.chan m) ∧
          t.chan n = { b with answered := mapSet false c.answered (pieceKey i p) true }) ∧
      (ext ≠ 0 → ext ≠ 3 → ext ≠ 4 → (e.dest = true → c.mayWrite i p = true ∧ 0 < len) →
        exec (.dmaDataResponse k n i p ext data) s = .next (s.onStack k fun t => t.setChan n { b with status := [(i, 0x10 + ext)] }))) ∧
    (∀ e : DmaEntry, u.get (DMA.STATE_STATE n) = 1 → c.entries = [e] → e.at_ % 16 = 0 → clean e.at_ 1 → u.flag CODE.INJECT_ARM = false →
      let effect := fun (v a : Nat) (t : Stack) =>
        (∀ x, t.readByte x = if x = e.at_ + 15 then BitVec.ofNat 8 v else u.readByte x) ∧ (∀ m, t.mark m = u.mark m) ∧
        t.get (DMA.CUR_LO_ADDR n) + 2 ^ 32 * t.get (DMA.CUR_HI_ADDR n) = a % 2 ^ 48 ∧
        (∀ m, m ≠ n → t.chan m = u.chan m) ∧ t.chan n = { stopCmd := c.stopCmd }
      (c.status = [] → e.op = 0xF → e.len = 0 →
        Completes (.dmaGroupComplete k n) s k [.mem, .health, .dma]
          [wr e.at_, DMA.GROUPS_DONE n, DMA.DONE_PEND_PEND, DMA.CUR_LO_ADDR n, DMA.CUR_HI_ADDR n] fun t =>
          effect 1 e.addr t ∧ t.get (DMA.GROUPS_DONE n) = min (u.get (DMA.GROUPS_DONE n) + 1) 0xFFFF ∧
          t.get DMA.DONE_PEND_PEND = if e.int then setBit (u.get DMA.DONE_PEND_PEND) n true % 2 ^ 32 else u.get DMA.DONE_PEND_PEND) ∧
      (c.status = [(0, 0x20)] → e.finish = false →
        Completes (.dmaGroupComplete k n) s k [.mem, .health, .dma]
          [wr e.at_, DMA.GROUPS_FAILED n, DMA.ERR_PEND_PEND, DMA.CUR_LO_ADDR n, DMA.CUR_HI_ADDR n] fun t =>
          effect 0x20 c.next t ∧ t.get (DMA.GROUPS_FAILED n) = min (u.get (DMA.GROUPS_FAILED n) + 1) 0xFFFF ∧
          t.get DMA.ERR_PEND_PEND = setBit (u.get DMA.ERR_PEND_PEND) n true % 2 ^ 32)) ∧
    (u.get (DMA.STATE_STATE n) = 2 → c.overlap = 0 ∨ c.failed = true →
      exec (.dmaStopped k n) s = .next (s.onStack k fun t =>
        { t.writes ((DMA.STATE_STATE n, 3) :: if c.stopCmd then [(DMA.CMD_STATUS_BUSY, 0)] else []) with
          dma := mapSet {} t.dma n { c with stopCmd := false, status := [] } }))

/-- A write of GPIO_OUT, OUT_SET or OUT_CLR of word w writes, sets or clears the outputs that its bits name, of pins of the build only, and disarms the key. LOCK_KEY with 0x5A3C arms a key that is not armed; any other value, or a second key write, disarms it. LOCK_MASK and, in recto of the Atlas, XLOCK_MASK lock nothing while a turn is armed: REFUSED and INT.LOCK_REFUSED are set and the key is disarmed. Else, with the key armed, they add the named pins to LOCKED or XLOCKED, disarm the key and give the staged copy of each register they lock the value of its live copy. A W1C write of CONFLICT, where no pin is in conflict, clears the bits it names. Only what each clause lists differs. -/
def Obligations.PinOutputsAndLockComplete : Prop :=
  (∀ (s : State) (k : Side) (w v : Nat), s.hasSide k = true →
    (∀ p ∈ [(Instr.gpioOutWrite k w v, (s.stack k).build.pinMask w v),
        (.outSet k w v, (s.stack k).build.pinMask w ((s.stack k).get (PINS.GPIO_OUT_OUT w) ||| v)),
        (.outClr k w v, (s.stack k).build.pinMask w ((s.stack k).get (PINS.GPIO_OUT_OUT w) - ((s.stack k).get (PINS.GPIO_OUT_OUT w) &&& v)))],
      exec p.1 s = .next (s.onStack k fun t => t.writes [(PINS.LOCK_STATUS_ARMED, 0), (PINS.GPIO_OUT_OUT w, p.2)])) ∧
    (v < 65536 → exec (.lockKey k v) s = .next (s.onStack k fun t => t.writes [(PINS.LOCK_STATUS_ARMED,
      if v = 0x5A3C ∧ (s.stack k).flag PINS.LOCK_STATUS_ARMED = false then 1 else 0)])) ∧
    ((∀ n < (s.stack k).build.pins, s.inConflict k n = false) → w < 3 →
      exec (.conflictClear k w v) s = .next (s.onStack k fun t => t.writes [(PINS.LOCK_STATUS_ARMED, 0), (PINS.CONFLICT_CONFLICT w,
        (s.stack k).get (PINS.CONFLICT_CONFLICT w) - ((s.stack k).get (PINS.CONFLICT_CONFLICT w) &&& v))]))) ∧
  (∀ (s : State) (k : Side) (w m : Nat), s.hasSide k = true → (s.stack k).turnArmed = true →
    ∀ c : Instr, c = .lockMask k w m ∨ (c = .xlockMask k w m ∧ (s.stack k).build = .atlas ∧ (s.stack k).side = .recto) →
      exec c s = .next (s.onStack k fun t => t.writes [(PINS.LOCK_STATUS_ARMED, 0), (PINS.LOCK_STATUS_REFUSED, 1), (PINS.INT_LOCK_REFUSED, 1)])) ∧
  (∀ (s : State) (k : Side) (w m : Nat), s.hasSide k = true → (s.stack k).turnArmed = false → (s.stack k).flag PINS.LOCK_STATUS_ARMED = true →
    let pin := fun n => [PINS.PIN_FUNC n, PINS.PIN_DIR n, PINS.PIN_OD n, PINS.PIN_PULL n, PINS.PIN_DRIVE n, PINS.PIN_SLOW n]
    let entry := fun n => [PINS.XBAR_SIDE n, PINS.XBAR_VPIN n, PINS.XBAR_VALID n]
    (w < 3 → Completes (.lockMask k w m) s k [] ([PINS.LOCK_STATUS_ARMED, PINS.LOCKED_LOCKED w] ++
        (List.range 32).flatMap fun i => (pin (32 * w + i)).map Field.staged) fun t =>
      t.get PINS.LOCK_STATUS_ARMED = 0 ∧
      t.get (PINS.LOCKED_LOCKED w) = ((s.stack k).get (PINS.LOCKED_LOCKED w) ||| (s.stack k).build.pinMask w m) % 2 ^ 32 ∧
      ∀ i < 32, ∀ f ∈ pin (32 * w + i), t.get f.staged = if bit ((s.stack k).build.pinMask w m) i then (s.stack k).get f % 2 ^ f.width
        else (s.stack k).get f.staged) ∧
    ((s.stack k).build = .atlas → (s.stack k).side = .recto → w < 6 →
      Completes (.xlockMask k w m) s k [] ([PINS.LOCK_STATUS_ARMED, PINS.XLOCKED_LOCKED w] ++
        (List.range 32).flatMap fun i => (entry (32 * w + i)).map Field.staged) fun t =>
      t.get PINS.LOCK_STATUS_ARMED = 0 ∧ t.get (PINS.XLOCKED_LOCKED w) = ((s.stack k).get (PINS.XLOCKED_LOCKED w) ||| m) % 2 ^ 32 ∧
      ∀ i < 32, ∀ f ∈ entry (32 * w + i), t.get f.staged = if bit m i then (s.stack k).get f % 2 ^ f.width else (s.stack k).get f.staged))

/-- A pad of a pin of the build that is not in conflict and stays at one level sets the level, and the TALLY bit of a pin with FUNC 5. A rising edge on such a pad with FUNC 11, or with FUNC 9 and not the house reference, is timestamped with device time where it has started: with fewer than 16 entries held it joins the queue and sets INT.TS, else INT.TS_LOST is set. A read of TS_S_HI answers the head's high seconds and removes it. With its controller enabled and its input wired: an SPI byte goes out and the byte on MISO comes in; an I2C byte is read into STAT, or sent and acknowledged, or not (I2C_NACK), or lost in arbitration (I2C_LOST), the events with INT.PERIPH; a UART byte written joins the transmit buffer, one received joins the receive buffer, one that finds 16 is an OVERRUN and a bad one a FRAMING; an LTC word is stored with its time. A read of UART_DATA takes the oldest byte with VALID 1, or answers VALID 0. Only what each clause lists differs. -/
def Obligations.PinInputsAndPeripheralsComplete : Prop :=
  (∀ (s : State) (k : Side) (n : Nat), s.hasSide k = true → (s.padsOf k n).isEmpty = false → s.inConflict k n = false →
    (∀ level : Bool, n < (s.stack k).build.pins →
      exec (.tallyDebounce k n level) s = .next (s.onStack k fun t =>
        let u : Stack := { t with pins := { t.pins with levels := mapSet false t.pins.levels n level } }
        if t.get (PINS.PIN_FUNC n) = 5 then u.put (PINS.TALLY_TALLY (n / 32)) (setBit (t.get (PINS.TALLY_TALLY (n / 32))) (n % 32) level) else u)) ∧
    ((s.stack k).clk.started = true → ((s.stack k).get (PINS.PIN_FUNC n) = 11 ∨
        ((s.stack k).get (PINS.PIN_FUNC n) = 9 ∧ ((s.stack k).houseKind ≠ 3 ∨ (s.stack k).houseIndex ≠ n))) →
      Completes (.timestampEdge k n) s k [.pins] [PINS.INT_TS, PINS.INT_TS_LOST] fun t =>
        if (s.stack k).pins.ts.length < 16 then
          t.pins = { (s.stack k).pins with ts := (s.stack k).pins.ts ++ [(n, if (s.stack k).get (PINS.PIN_FUNC n) = 11 then 1 else 0, (s.stack k).time)] } ∧
          t.get PINS.INT_TS = 1 ∧ t.get PINS.INT_TS_LOST = (s.stack k).get PINS.INT_TS_LOST
        else t.pins = (s.stack k).pins ∧ t.get PINS.INT_TS_LOST = 1 ∧ t.get PINS.INT_TS = (s.stack k).get PINS.INT_TS)) ∧
  (∀ (s : State) (k : Side) (e : Nat × Nat × Nat) (q : List (Nat × Nat × Nat)), s.hasSide k = true → (s.stack k).pins.ts = e :: q →
    Completes (.tsHeadPop k) s k [.pins, .answer] [] fun t =>
      t.pins = { (s.stack k).pins with ts := q } ∧ t.answer = ⟨0, [e.2.2 / 1000000000 / 2 ^ 32 % 2 ^ 16]⟩) ∧
  (∀ (s : State) (k : Side) (b v rx : Nat), s.hasSide k = true → b < (s.stack k).build.pinBanks →
    ((s.stack k).get (PINS.SPI_CFG_EN b) ≠ 0 → s.inputWired k b 0 = true →
      exec (.spiDataWrite k b v rx) s = .next (s.onStack k fun t =>
        (t.writes [(PINS.LOCK_STATUS_ARMED, 0), (PINS.SPI_DATA_DATA b, rx)]).answered 0 [v])) ∧
    (∀ start stop read nack ack lost : Bool, (s.stack k).get (PINS.I2C_CFG_EN b) ≠ 0 → s.inputWired k b 2 = true →
      exec (.i2cCommand k b v start stop read nack ack lost rx) s = .next (s.onStack k fun t =>
        let u := t.writes [(PINS.LOCK_STATUS_ARMED, 0), (PINS.I2C_CMD_DATA b, v), (PINS.I2C_CMD_START b, b2n start), (PINS.I2C_CMD_STOP b, b2n stop),
          (PINS.I2C_CMD_READ b, b2n read), (PINS.I2C_CMD_NACK b, b2n nack)]
        if lost = true then u.writes [(PINS.STAT_I2C_LOST b, 1), (PINS.INT_PERIPH, 1)]
        else if read = true then u.writes [(PINS.STAT_I2C_RX b, rx)]
        else if ack = true then u.answered 0 [v]
        else (u.answered 0 [v]).writes [(PINS.STAT_I2C_NACK b, 1), (PINS.INT_PERIPH, 1)])) ∧
    (let p := (s.stack k).periph b
     exec (.uartDataWrite k b v) s = .next (s.onStack k fun t =>
        if p.tx.length < 16 then (t.writes [(PINS.LOCK_STATUS_ARMED, 0)]).setPeriph b { p with tx := p.tx ++ [v] }
        else t.writes [(PINS.LOCK_STATUS_ARMED, 0), (PINS.STAT_OVERRUN b, 1), (PINS.INT_PERIPH, 1)])) ∧
    (∀ bad : Bool, (s.stack k).get (PINS.UART_CFG_EN b) ≠ 0 → s.inputWired k b 3 = true →
      let p := (s.stack k).periph b
      exec (.uartByteReceive k b v bad) s = .next (s.onStack k fun t =>
        if bad = true then t.writes [(PINS.STAT_FRAMING b, 1), (PINS.INT_PERIPH, 1)]
        else if p.rx.length < 16 then t.setPeriph b { p with rx := p.rx ++ [v] }
        else t.writes [(PINS.STAT_OVERRUN b, 1), (PINS.INT_PERIPH, 1)])) ∧
    (s.inputWired k b 5 = true →
      exec (.ltcWordReceive k b v) s = .next (s.onStack k fun t =>
        (t.writes [(PINS.LTC_IN_TIME b, v)]).setPeriph b { t.periph b with ltcAt := some t.clk.up })) ∧
    (exec (.uartDataRead k b) s = .next (s.onStack k fun t => match (t.periph b).rx with
      | [] => (t.writes [(PINS.UART_DATA_VALID b, 0), (PINS.UART_DATA_DATA b, 0)]).answered 0 [0]
      | x :: q => ((t.setPeriph b { t.periph b with rx := q }).writes [(PINS.UART_DATA_VALID b, 1), (PINS.UART_DATA_DATA b, x)]).answered 0 [256 + x])))

/-- A user PLL of the build whose live configuration can lock, that R175 does not keep stopped and that keeps clocks, locks: it runs, counts as locked and is no longer idle. FORCE with RESET 1 connects the live selection and clears HUNG; with RESET 0 it sets FORCE_REFUSED. GO of PTP_CTL with KIND 1 once time has started submits the held offset as a measurement, or, with 128 accepted in the second, sets OVERRUN; otherwise it sets IGNORED. Loss of the reference in ACQUIRING or LOCKED, at its moment (log 60), gives HOLDOVER, HOUSE_HOLDOVER and the averaged frequency (log 2). A write of HOUSE_CTL does the same and selects the reference. SET of TIME_CTL steps device time to TIME_SET, or is REFUSED while KIND is 1 or before time has started. ENABLE of a raster that does not run starts it, or sets BAD where R500's checks fail; clearing it stops the raster. GO of the meter holds TARGET and REF and, when not BUSY, starts a window; its end gives the count, OVF where it saturates, DEAD where the reference is, and FM_DONE. -/
def Obligations.ClockCommandsComplete : Prop :=
  ∀ (s : State) (k : Side), s.hasSide k = true →
    (∀ n < 4 * (s.stack k).build.layers, (s.stack k).pllConfigValid n = true → (s.stack k).pllUnused n = false → (s.stack k).modeIn [.dawn, .day, .workshop] = true →
      Completes (.userPllLock k n) s k [.clk] [CLK.MON_RUN_RUN ((32 + n) / 32)] fun t =>
        t.sourceRunning (0x20 + n) = true ∧ n ∈ t.clk.pllLocked ∧ n ∉ t.clk.pllIdle) ∧
    (∀ d, exec (.domainForce k d) s = .next (s.onStack k fun t => if t.flag (CLK.DRST_RESET d) then
        let rest := t.clk.forced.filter (· != d)
        ({ t with clk := { t.clk with forced := if t.pllGives (pllOf d (t.get (CLK.SRC_SEL d))) then rest else d :: rest } } : Stack).writes
          [(CLK.SRC_STAT_SEL d, t.get (CLK.SRC_SEL d)), (CLK.SRC_STAT_DIV d, t.get (CLK.SRC_DIV d)), (CLK.SRC_STAT_SWITCHING d, 0), (CLK.SRC_STAT_HUNG d, 0)]
      else t.writes [(CLK.DRST_FORCE_REFUSED d, 1)])) ∧
    (exec (.ptpMeasurement k) s = .next (s.onStack k fun t =>
      if t.houseKind = 1 ∧ t.clk.started = true then
        if t.recentPtp.length < 128 then
          ({ t with clk := { t.clk with accepted := t.time :: t.recentPtp } } : Stack).measure
            (signed (t.get CLK.PTP_OFS_LO_OFS + 2 ^ 32 * t.get CLK.PTP_OFS_HI_OFS) 64)
        else t.writes [(CLK.PTP_CTL_OVERRUN, 1)]
      else t.writes [(CLK.PTP_CTL_IGNORED, 1)])) ∧
    ((s.stack k).get CLK.HOUSE_STAT_STATE ≠ 0 →
      let lost : Stack → Stack := fun t =>
        { t.writes [(CLK.HOUSE_STAT_STATE, 0), (CLK.INT_HOUSE_HOLDOVER, 1), (CLK.HOUSE_FREQ_FREQ, (s.stack k).averageFreq)] with
          clk := { t.clk with within := 0, beyond := 0, lastRef := none } }
      exec (.referenceLoss k) s = .next (s.onStack k fun t => lost (t.elapse t.lossDue)) ∧
      ∀ v, exec (.houseCtlWrite k v) s = .next (s.onStack k fun t => (lost t).writes [(CLK.HOUSE_CTL_REF, bits v 0 13 + 2 ^ 20 * bits v 20 2)])) ∧
    ((s.stack k).get CLK.HOUSE_STAT_STATE = 0 → ∀ v, exec (.houseCtlWrite k v) s = .next (s.onStack k fun t =>
      { t.writes [(CLK.HOUSE_CTL_REF, bits v 0 13 + 2 ^ 20 * bits v 20 2)] with clk := { t.clk with within := 0, beyond := 0, lastRef := none } })) ∧
    (exec (.timeSet k) s = .next (s.onStack k fun t =>
      if t.houseKind ≠ 1 ∧ t.clk.started = true then
        t.stepTime ((t.get CLK.TIME_SET_S_SET + 2 ^ 32 * t.get CLK.TIME_SET_S_HI_SET) * 1000000000 + t.get CLK.TIME_SET_NS_SET)
      else t.writes [(CLK.TIME_CTL_REFUSED, 1)])) ∧
    (∀ n, (s.stack k).rasterRunning n = false → exec (.rasterEnable k n) s = .next (s.onStack k fun t =>
      let num := t.get (CLK.RAS_RATE_NUM n)
      let den := t.get (CLK.RAS_RATE_DEN n)
      if den ≠ 0 ∧ 24000 * den ≤ 1001 * num ∧ num ≤ 120 * den ∧ 1 ≤ t.get (CLK.RAS_GEOM_LINES n) ∧ 1 ≤ t.get (CLK.RAS_GEOM_SAMPLES n) ∧
        t.get (CLK.RAS_OFS_NS n) * num < 1000000000 * den ∧ t.clk.started = true
      then t.writes [(CLK.RAS_CTL_ENABLE n, 1)] else t.writes [(CLK.RAS_CTL_BAD n, 1)])) ∧
    (∀ n, (s.stack k).rasterRunning n = true → exec (.rasterDisable k n) s = .next (s.onStack k fun t =>
      (t.writes [(CLK.RAS_CTL_ENABLE n, 0)]).rasterStopped n)) ∧
    (∀ target ref, exec (.frequencyMeter k target ref) s = .next (s.onStack k fun t =>
      if t.flag CLK.FM_STAT_BUSY then t.writes [(CLK.FM_CTL_TARGET, target), (CLK.FM_CTL_REF, ref)]
      else { t.writes [(CLK.FM_CTL_TARGET, target), (CLK.FM_CTL_REF, ref), (CLK.FM_STAT_BUSY, 1), (CLK.FM_STAT_OVF, 0), (CLK.FM_STAT_DEAD, 0)] with
        clk := { t.clk with meterRef := ref % 128 } })) ∧
    ((s.stack k).flag CLK.FM_STAT_BUSY = true → ∀ edges, exec (.frequencyMeterDone k edges) s = .next (s.onStack k fun t =>
      t.writes [(CLK.FM_RES_COUNT, min edges 0xFFFFFFFF), (CLK.FM_STAT_OVF, if edges < 0xFFFFFFFF then 0 else 1),
        (CLK.FM_STAT_DEAD, if t.meterRuns t.clk.meterRef then 0 else 1), (CLK.FM_STAT_BUSY, 0), (CLK.INT_FM_DONE, 1)]))

/-- REGULATE or RAW of an upper layer of the build, in Workshop or Haven with REG_CMD not BUSY, holds its fields and answers SUSPECT or CLOCKS, else 0; where the layer is not on that feed yet, its hand-over begins and BUSY is set. The hand-over's end sets FEED, clears BUSY and gives RESULT 0. 20 ms after a regulator fault, outside Haven, a hand-over back begins for a layer on the raw feed. A suspect regulator in Haven is noted and its layer goes to the raw feed; in Siesta and Dusk it is noted only (log 110); in Day and Workshop the layer faults, its sections are held and the layer is handed to the raw feed. OPP_REQ holds its fields and the result: RANGE where the layer is no logic layer of the build (log 111), the scale is outside 32 to 64, or the voltage exceeds 850 mV or lies below 450 mV + 300 mV x SCALE / 64; with 0 the point is accepted and BUSY set. Its end writes SCALE and VOLT and raises OPP_DONE. A supply that leaves or regains its limits, outside Off and Dawn, sets its bits, SUPPLY and the event. 10 ms after a trip every layer is on the raw feed. Only what each clause lists differs. -/
def Obligations.FeedsPointsAndSuppliesComplete : Prop :=
  (∀ (s : State) (k : Side) (layer : Nat), s.hasSide k = true → (s.stack k).build.upperLayer layer = true → (s.stack k).modeIn [.workshop, .haven] = true →
    (s.stack k).flag POWER.REG_STATUS_BUSY = false →
      (exec (.regRegulate k layer) s = .next (s.onStack k fun t =>
        let u := t.writes [(POWER.REG_CMD_LAYER, layer), (POWER.REG_CMD_OP, 1)]
        if t.power.suspects.contains layer then u.writes [(POWER.REG_STATUS_RESULT, 2)]
        else if t.onRaw layer then { u.writes [(POWER.REG_STATUS_RESULT, 0), (POWER.REG_STATUS_BUSY, 1)] with
          power := { t.power with handovers := t.power.handovers ++ [⟨layer, true, 2⟩] } }
        else u.writes [(POWER.REG_STATUS_RESULT, 0)])) ∧
      (exec (.regRaw k layer) s = .next (s.onStack k fun t =>
        let u := t.writes [(POWER.REG_CMD_LAYER, layer), (POWER.REG_CMD_OP, 2)]
        if t.layerClocked layer then u.writes [(POWER.REG_STATUS_RESULT, 3)]
        else if t.onRaw layer then u.writes [(POWER.REG_STATUS_RESULT, 0)]
        else { u.writes [(POWER.REG_STATUS_RESULT, 0), (POWER.REG_STATUS_BUSY, 1)] with
          power := { t.power with handovers := t.power.handovers ++ [⟨layer, false, 2⟩] } }))) ∧
  (∀ (s : State) (k : Side) (h : Handover) (q : List Handover), s.hasSide k = true → (s.stack k).power.handovers = h :: q → h.who = 2 →
    (h.regulate = true ∨ (s.stack k).sys.reenables.contains (.rail h.layer) = false) →
      exec (.handoverComplete k h.layer true) s = .next (s.onStack k fun t =>
        (({ t with power := { t.power with handovers := q } } : Stack).setRaw h.layer (!h.regulate)).writes [(POWER.REG_STATUS_BUSY, 0), (POWER.REG_STATUS_RESULT, 0)])) ∧
  (∀ (s : State) (k : Side) (layer : Nat), s.hasSide k = true →
    (layer ∈ (s.stack k).power.retries → (s.stack k).onRaw layer = true → (s.stack k).mode ≠ .haven →
      exec (.handBackRetry k layer) s = .next (s.onStack k fun t => { t with power := { t.power with
        retries := t.power.retries.filter (· != layer), handovers := t.power.handovers ++ [⟨layer, true, 1⟩] } })) ∧
    (s.build.upperLayer layer = true → s.mode ≠ .dawn →
      ((s.stack k).mode = .haven → exec (.regulatorSuspect k layer) s = .next (s.onStack k fun t =>
        let u := t.noteSuspect layer
        if t.onRaw layer then u else { u with power := { u.power with handovers := u.power.handovers ++ [⟨layer, false, 1⟩] } })) ∧
      ((s.stack k).modeIn [.siesta, .dusk] = true → exec (.regulatorSuspect k layer) s = .next (s.onStack k fun t => t.noteSuspect layer)) ∧
      ((s.stack k).modeIn [.day, .workshop] = true → exec (.regulatorSuspect k layer) s = .next (s.onStackFault k fun t =>
        let u := (t.noteSuspect layer).fault (.layer layer) 0xC 0 0 0
        let v := if u.mode = .haven then u else u.holdForRecovery (u.sectionsIn (layer - layer % 2))
        if v.onRaw layer then { v with power := { v.power with retries := v.power.retries ++ [layer] } }
        else { v with power := { v.power with handovers := v.power.handovers ++ [⟨layer, false, 1⟩] } })))) ∧
  (∀ (s : State) (k : Side) (layer scale volt : Nat), s.hasSide k = true →
    exec (.oppRequest k layer scale volt) s = .next (s.onStack k fun t =>
      let r := t.oppResult layer scale volt
      let u := t.writes [(POWER.OPP_REQ_LAYER, layer), (POWER.OPP_REQ_SCALE, scale), (POWER.OPP_REQ_VOLT, volt), (POWER.OPP_STATUS_RESULT, r)]
      if r = 0 then ({ u with power := { u.power with opps := u.power.opps ++ [(layer / 2 - 1, scale, volt)] } } : Stack).writes [(POWER.OPP_STATUS_BUSY, 1)]
      else u) ∧
    ((s.stack k).oppResult layer scale volt = 1 ↔ ((s.stack k).build.logicIndex layer = none ∨ scale < 32 ∨ 64 < scale ∨ 850 < volt ∨
      64 * volt < 64 * 450 + 300 * scale))) ∧
  (∀ (s : State) (k : Side) (i scale volt : Nat) (q : List (Nat × Nat × Nat)), s.hasSide k = true → (s.stack k).power.opps = (i, scale, volt) :: q →
    exec (.oppApplied k (2 * i + 2)) s = .next (s.onStack k fun t => ({ t with power := { t.power with opps := q } } : Stack).writes
      [(POWER.OPP_SCALE i, scale), (POWER.OPP_VOLT i, volt), (POWER.OPP_STATUS_BUSY, if q = [] then 0 else 1), (POWER.INT_OPP_DONE, 1)])) ∧
  (∀ (s : State) (k : Side) (n : Nat), s.hasSide k = true → n < 12 → (s.stack k).mode ≠ .off → s.mode ≠ .dawn →
    (exec (.supplyExcursion k n true) s = .next (s.onStack k fun t =>
      ({ t with sys := { t.sys with suppliesOut := t.sys.suppliesOut.filter (· != n) } } : Stack).writes
        [(POWER.SUPPLY_OK_OK, setBit (t.get POWER.SUPPLY_OK_OK) n true)])) ∧
    (exec (.supplyExcursion k n false) s = .next (s.onStack k fun t =>
      (({ t with sys := { t.sys with suppliesOut := t.sys.suppliesOut.filter (· != n) ++ [n] } } : Stack).writes
        [(POWER.SUPPLY_OK_OK, setBit (t.get POWER.SUPPLY_OK_OK) n false), (POWER.SUPPLY_EVT_EVT, setBit (t.get POWER.SUPPLY_EVT_EVT) n true),
         (POWER.INT_SUPPLY, 1)]).event { block := 0xC, cause := 0, data0 := n }))) ∧
  (∀ (s : State) (k : Side), s.hasSide k = true → (s.stack k).power.trip = 1 →
    exec (.tripPowerRestore k) s = .next (s.onStack k fun t =>
      ({ t with power := { t.power with trip := 2 } } : Stack).writes [(POWER.FEED_RAW, if t.build = .octavo then 0x0F else 0xFF)]))

/-- A sample of a die of the stack, outside Off and Vigil, that leaves every die below 105 °C and none at its trip gives the stack sampled. An update of an installed model of the build, outside Off and Vigil, writes each estimate as the measured value of the top layer plus the sum over the layers of the matrix differences times the powers, and VALID. Inside the temperature window a retry writes the waiting records; FLUSH and the 10 s timer write the pending events into the log, FLUSH with RESULT 0; the wear record is written in Day. COMMIT in Workshop, with TYPE 1, WORD 96 and inside the window, writes the commit buffer as the configuration record with RESULT 0; outside Workshop RESULT is 3, with another TYPE 2, with another length 4, outside the window 1. An access to WIN_DATA gives the word of the record or stores one of the commit buffer, and WORD advances with AUTOINC. At a frame start of raster 0 in Mirror the standby acts on the last exchange, with none held it is out of synchrony, and a new one is taken; three frames after the switch-over an open window closes with RESYNC_FAIL. -/
def Obligations.TemperaturesLedgerAndPairComplete : Prop :=
  (∀ (s : State) (k : Side) (d : Nat) (l : List (Option Nat)), s.hasSide k = true → (s.stack k).modeIn [.off, .vigil] = false → d ∈ (s.stack k).dies →
    let u := s.onStackFault k (Stack.sampleDie d l)
    (∀ e ∈ (u.stack k).dies, (u.stack k).trips e = false ∧ (u.stack k).decided e < 840) → exec (.temperatureSample k d l) s = .next u) ∧
  (∀ (s : State) (k : Side) (activity : List (Nat × Nat)) (powers : List Nat), s.hasSide k = true → (s.stack k).modeIn [.off, .vigil] = false →
    (s.stack k).loader.thermalN = (s.stack k).build.top + 1 →
    let n := (s.stack k).build.top + 1
    let m := fun (i j : Nat) => Int.ofNat (mapGet 0 (s.stack k).loader.thermal (i * n + j))
    let sum := fun i => (List.range n).foldl (fun (a : Int) j => a + (m i j - m (n - 1) j) * ((s.stack k).layerPower activity powers j : Int)) 0
    exec (.thermalModelUpdate k activity powers) s = .next (s.onStack k fun t => t.writes ((List.range n).flatMap fun i =>
      [(THERM.MODEL_EST i, wrapInt 12 (((s.stack k).measured (n - 1)).getD 0 + (8 * sum i).fdiv 262144000)), (THERM.MODEL_VALID i, 1)]))) ∧
  (∀ (s : State) (k : Side), s.hasSide k = true → (s.stack k).tempWindow = true →
    ((s.stack k).ledger.retry ≠ [] → exec (.ledgerRetry k) s = .next (s.onStack k fun t => t.ledger.retry.foldl
      (fun t r => if r.1 = 0x0050 then t.flushLedger else t.writeRecord r.1 r.2) { t with ledger := { t.ledger with retry := [] } })) ∧
    ((s.stack k).ledger.pend ≠ [] →
      let written : Stack → Stack := fun t =>
        let u := t.deviceRecord 0x0050 (t.ledger.pend.foldl logEvent (t.recordBody 0x0050))
        ({ u with ledger := { u.ledger with pend := [] } } : Stack).writes [(LEDGER.PEND_HELD, 0)]
      exec (.ledgerFlushTimer k) s = .next (s.onStack k written) ∧
      ((s.stack k).modeIn [.off, .vigil] = false → exec (.ledgerFlush k) s = .next (s.onStack k fun t =>
        (written (t.writes [(LEDGER.CMD_OP, 2)])).writes [(LEDGER.STATUS_RESULT, 0)]))) ∧
    ((s.stack k).mode = .day → exec (.wearRecord k) s = .next (s.onStack k Stack.wearRecord)) ∧
    ((s.stack k).mode = .workshop → (s.stack k).get LEDGER.SEL_TYPE = 1 → (s.stack k).get LEDGER.WIN_ADDR_WORD = 96 →
      exec (.ledgerCommit k) s = .next (s.onStack k fun t =>
        (t.writes [(LEDGER.CMD_OP, 1), (LEDGER.STATUS_RESULT, 0)]).writeRecord 1 t.ledger.commit))) ∧
  (∀ (s : State) (k : Side) (r : Nat), s.hasSide k = true →
    ((s.stack k).mode ≠ .workshop ∧ r = 3 ∨ (s.stack k).mode = .workshop ∧ ((s.stack k).get LEDGER.SEL_TYPE ≠ 1 ∧ r = 2 ∨
      (s.stack k).get LEDGER.SEL_TYPE = 1 ∧ ((s.stack k).get LEDGER.WIN_ADDR_WORD ≠ 96 ∧ r = 4 ∨
      (s.stack k).get LEDGER.WIN_ADDR_WORD = 96 ∧ (s.stack k).tempWindow = false ∧ r = 1))) →
    exec (.ledgerCommit k) s = .next (s.onStack k fun t => t.writes [(LEDGER.CMD_OP, 1), (LEDGER.STATUS_RESULT, r)])) ∧
  (∀ (s : State) (k : Side) (v : Nat), s.hasSide k = true →
    let w := (s.stack k).get LEDGER.WIN_ADDR_WORD
    let next : Stack → Stack := fun t => if t.flag LEDGER.WIN_ADDR_AUTOINC then t.writes [(LEDGER.WIN_ADDR_WORD, w + 1)] else t
    exec (.ledgerWinDataAccess k false v) s = .next (s.onStack k fun t => next (t.answered 0 [t.recordWord (t.get LEDGER.SEL_TYPE) w])) ∧
    (w < 96 → exec (.ledgerWinDataAccess k true v) s = .next (s.onStack k fun t =>
      next { t with ledger := { t.ledger with commit := mapSet 0 t.ledger.commit w v } }))) ∧
  (∀ (s : State) (complete : Bool), s.mirror = true → (s.stack s.active).rasterRunning 0 = true →
    exec (.mirrorExchange complete) s = .next (
      let u := if s.recto.pair.held = none then s.loseSync else s.standbyFrame complete
      let v := u.setHeld (some (u.takeExchange u.active))
      if v.recto.flag PINS.PAIR_STAT_WINDOW then v.onStack .recto fun t => { t with pair := { t.pair with frames := t.pair.frames + 1 } } else v)) ∧
  (∀ s : State, s.mirror = true → s.recto.flag PINS.PAIR_STAT_WINDOW = true → 3 ≤ s.recto.pair.frames →
    exec .resyncFail s = .next ((s.onStack .recto fun t =>
      { t.writes [(PINS.PAIR_STAT_WINDOW, 0)] with pair := { t.pair with frames := 0 } }).onStack .recto (Stack.pairEvent · 4)))

/-- In Day and Workshop a KEYS.KCMD command holds SLOT, OP and ENTRY. An unassigned OP has RESULT 0 and no other effect. GENERATE, LOAD, UNWRAP and CLEAR of a slot in use have RESULT 1; LOAD of an empty entry and STORE of an empty slot have RESULT 2; STORE and ERASE outside the window of the secret zone have RESULT 3; UNWRAP of words that do not unwrap has RESULT 4. Otherwise the RESULT is 0 and GENERATE fills the slot with the random key of the draw, LOAD with the entry's key, UNWRAP with the unwrapped key, STORE writes the slot's key into the entry, CLEAR empties the slot and ERASE the entry. In another mode each has RESULT 5 (log 119), but CLEAR acts in Haven as in Day. Only what each clause lists differs. -/
def Obligations.KeyCommandsComplete : Prop :=
  ∀ (s : State) (k : Side) (slot entry : Nat), s.hasSide k = true →
    let held : Nat → Nat → Stack → Stack := fun op r t => t.writes [(KEYS.KCMD_SLOT, slot), (KEYS.KCMD_OP, op), (KEYS.KCMD_ENTRY, entry), (KEYS.KCMD_STATUS_RESULT, r)]
    ((s.stack k).modeIn [.day, .workshop] = true →
      (∀ op, exec (.kcmdNone k slot op entry) s = .next (s.onStack k (held op 0))) ∧
      (exec (.generate k slot entry) s = .next (s.onStack k fun t => if t.slotInUse slot then held 1 1 t
        else ((held 1 0 t).setSlot slot (some (Config.randomKey t.freeCount).toNat)).draw)) ∧
      (exec (.keyLoad k slot entry) s = .next (s.onStack k fun t => if t.slotInUse slot then held 2 1 t
        else match t.zoneKey entry with
          | none => held 2 2 t
          | some v => (held 2 0 t).setSlot slot (some v))) ∧
      (exec (.unwrap k slot entry) s = .next (s.onStack k fun t => if t.slotInUse slot then held 3 1 t
        else match t.kwrapKey with
          | none => held 3 4 t
          | some v => (held 3 0 t).setSlot slot (some v))) ∧
      (exec (.keyStore k slot entry) s = .next (s.onStack k fun t => match t.slotKey slot with
        | none => held 4 2 t
        | some v => if t.secretWindow then (held 4 0 t).setZone entry (some v) else held 4 3 t)) ∧
      (exec (.keyErase k slot entry) s = .next (s.onStack k fun t => if t.secretWindow then (held 6 0 t).setZone entry none else held 6 3 t))) ∧
    ((s.stack k).modeIn [.day, .workshop, .haven] = true → exec (.keyClear k slot entry) s = .next (s.onStack k fun t =>
      if t.slotInUse slot then held 5 1 t else (held 5 0 t).setSlot slot none)) ∧
    ((s.stack k).modeIn [.day, .workshop] = false →
      (∀ p ∈ [(Instr.generate k slot entry, 1), (.keyLoad k slot entry, 2), (.unwrap k slot entry, 3), (.keyStore k slot entry, 4), (.keyErase k slot entry, 6)],
        exec p.1 s = .next (s.onStack k (held p.2 5))) ∧
      ((s.stack k).mode ≠ .haven → exec (.keyClear k slot entry) s = .next (s.onStack k (held 5 5)))) 

/-- In Day and Workshop a rekey of a valid region into a slot that holds a key, is not in use and waits for nothing starts, where none runs, with the boundary at the region's base and STATE 2, or waits behind the one that runs with STATE 3. Other requests report 5 for the mode, else 1 for the region, 2 for the slot, 3 for one that cannot queue. A leaf of a running rekey in Day or Workshop whose walk is good, unless all its blocks are quarantined and CLEAR is 0, is read, its counters and blocks are written under the new key with minor 1, or never written where bad or never written before, and the boundary moves one leaf on; a leaf all quarantined is passed and the nodes above it written back. In Day or Workshop, when the boundary is at the region's end, the new slot is written to both copies of REGION.KEY, the old slot is emptied, REKEY and event 4 are raised, and with nothing queued nothing runs. A leaf being re-encrypted whose walk is good, no write waiting for it, gets major + 1 and minors 0 with its blocks recoded. The hold of a link's previous slot ends. -/
def Obligations.RekeyAndReencryptionComplete : Prop :=
  (∀ (s : State) (k : Side) (region new : Nat) (clear : Bool), s.hasSide k = true →
    let held : Nat → Stack → Stack := fun r t => t.writes [(KEYS.REKEY_CTL_REGION, region), (KEYS.REKEY_CTL_NEW, new), (KEYS.REKEY_CTL_CLEAR, b2n clear),
      (KEYS.REKEY_STATUS_RESULT, r)]
    let slotOk := (s.stack k).slotKey new ≠ none ∧ (s.stack k).slotInUse new = false
    let room := (s.stack k).keys.rekeyQueue.length < 15 ∧ (s.stack k).rekeyPending region = false
    (((s.stack k).modeIn [.day, .workshop] = false → exec (.rekeyRequest k region new clear) s = .next (s.onStack k (held 5))) ∧
    ((s.stack k).modeIn [.day, .workshop] = true →
      ((s.stack k).regionValid region = false → exec (.rekeyRequest k region new clear) s = .next (s.onStack k (held 1))) ∧
      ((s.stack k).regionValid region = true →
        (¬ slotOk → exec (.rekeyRequest k region new clear) s = .next (s.onStack k (held 2))) ∧
        (slotOk → ¬ room → exec (.rekeyRequest k region new clear) s = .next (s.onStack k (held 3))) ∧
        (slotOk → room → exec (.rekeyRequest k region new clear) s = .next (s.onStack k fun t =>
          let u := held 0 t
          if t.keys.rekey = none then
            ({ u with keys := { u.keys with rekey := some ⟨region, some new, clear⟩, boundLeaf := 0 } } : Stack).writes
              [(KEYS.REKEY_STATUS_BUSY, 1), (KEYS.REKEY_STATUS_REGION, region), (KEYS.REGION_STAT_STATE region, 2),
               (KEYS.REKEY_BOUND_LO_LOC, u.regionBase region), (KEYS.REKEY_BOUND_HI_LOC, u.regionBase region / 2 ^ 32)]
          else ({ u with keys := { u.keys with rekeyQueue := u.keys.rekeyQueue ++ [⟨region, some new, clear⟩] } } : Stack).writes
            [(KEYS.REGION_STAT_STATE region, 3), (KEYS.REKEY_STATUS_QUEUED, t.keys.rekeyQueue.length + 1)])))))) ∧
  (∀ (s : State) (k : Side) (r : Rekey) (lf : Nat) (up : List Nat), s.hasSide k = true → (s.stack k).keys.rekey = some r →
    let t := s.stack k
    let leaf := t.keys.boundLeaf
    let bound := t.regionBase r.region + 4096 * (leaf + 1)
    let bad := fun j => t.quarantined r.region (64 * leaf + j)
    let move := fun (u : Stack) =>
      (({ u with keys := { u.keys with
          boundLeaf := leaf + 1
          quar := if r.clear then u.keys.quar.filter fun q => !(q.region == r.region && decide (q.loc + 64 * q.blocks ≤ bound) && decide (bound - 4096 < q.loc + 64 * q.blocks)) else u.keys.quar
          quarWhole := if r.clear ∧ t.regionData r.region / 4096 = leaf + 1 then u.keys.quarWhole.filter (· != r.region) else u.keys.quarWhole } } : Stack).writes
        [(KEYS.REKEY_BOUND_LO_LOC, bound), (KEYS.REKEY_BOUND_HI_LOC, bound / 2 ^ 32)]).showQuar r.region
    leaf < t.regionData r.region / 4096 → (t.mode = .day ∨ t.mode = .workshop) → (t.fetch r.region leaf).2 = .ok lf up →
      ((∀ j < 64, bad j = true) → r.clear = false → exec (.rekeyLeaf k) s = .next (s.onStack k fun t =>
        ((move (t.fetch r.region leaf).1).writeUp r.region leaf 1 up).1)) ∧
      (((∃ j < 64, bad j = false) ∨ r.clear = true) → exec (.rekeyLeaf k) s = .next (s.onStack k fun t =>
        let minorOf := fun j => if bad j = true ∨ (leafMajor lf = 0 ∧ leafMinor lf j = 0) then 0 else 1
        let q := (t.fetch r.region leaf).1.readLeaf r.region leaf
        ((move q.1).writeLeaf r.region leaf (makeLeaf 0 minorOf) up).recode q.2 r.region leaf 0 minorOf))) ∧
  (∀ (s : State) (k : Side) (r : Rekey), s.hasSide k = true → (s.stack k).keys.rekey = some r → (s.stack k).keys.rekeyQueue = [] →
    (s.stack k).regionData r.region / 4096 ≤ (s.stack k).keys.boundLeaf → (s.stack k).modeIn [.day, .workshop] = true →
      exec (.rekeyComplete k) s = .next (s.onStack k fun t =>
        let old := t.get (KEYS.REGIONW0_KEY r.region)
        let u := ((((t.setSlot old none).putBoth (KEYS.REGIONW0_KEY r.region) (r.new.getD old)).writes
          [(KEYS.REGION_STAT_STATE r.region, 1), (KEYS.REGION_STAT_CEND r.region, 0), (KEYS.REKEY_STATUS_BUSY, 0), (KEYS.INT_REKEY, 1)]).keysEvent r.region 4)
        { u with keys := { u.keys with rekey := none, boundLeaf := 0, ended := u.keys.ended.filter fun e => e.1 != r.region } })) ∧
  (∀ (s : State) (k : Side) (region leaf lf : Nat) (up : List Nat), s.hasSide k = true → (s.stack k).leafStalls region leaf = true →
    let t : Stack := { s.stack k with keys := { (s.stack k).keys with reenc := (s.stack k).keys.reenc.filter (· != (region, leaf)) } }
    let q := (t.fetch region leaf).1.readLeaf region leaf
    let major := leafMajor lf + 1
    let u := (q.1.writeLeaf region leaf (makeLeaf major fun _ => 0) up).recode q.2 region leaf major fun _ => 0
    (t.fetch region leaf).2 = .ok lf up → u.keys.stalled = [] →
      exec (.leafReencryptComplete k region leaf) s = .next (s.onStack k fun _ => u)) ∧
  (∀ (s : State) (k : Side) (a : Nat), s.hasSide k = true → exec (.previousKeyHoldExpiry k a) s = .next (s.onStack k fun t =>
    { t with keys := { t.keys with previous := t.keys.previous.filter fun p => p.1 != a } }))

/-- Each of these acts on the lane's stack, after which the media ports follow their lanes and the pair its link. A write of CFG with ENABLE 1 to a lane that is off holds the fields; a lane of USE 1 is left to its port, any other is enabled and rises, and its link is polled. A write with ENABLE 0 powers the lane down and drops its queued re-enable. A stage that completes, where the lane is not waiting and the checks of a Lacing lane hold, sets its SIGNAL bit and enters the next stage, with the eye measured at Ready. One that overruns with tries left writes its cause, counts the attempt and waits; the restart counts and enters stage 1. Loss of signal on a Ready lane enters stage 1 and its link retrains; sixteen bad sync headers on a Ready Lacing lane count and return it behind stage 2. A running source without edges is declared dead, a quad's reference input with its lanes at stage 1; one that runs again, with REF_EN, lets the lanes that waited go on. -/
def Obligations.LaneBringUpCompletes : Prop :=
  ∀ (s : State) (k : Side) (n : Nat), s.hasSide k = true →
    let moved : (Stack → Stack) → Host.Outcome State Fault Refusal := fun f => .next (s.onStack k fun t => (f t).syncPorts).pairLink
    let st := (s.stack k).laneStage n
    let x := (s.stack k).lane n
    (∀ v, (s.stack k).flag (LANE.CFG_ENABLE n) = false → n < (s.stack k).build.lanes →
      let held : Stack → Stack := fun t => t.writes [(LANE.CFG_USE n, v), (LANE.CFG_LINK n, v / 4), (LANE.CFG_PAM4 n, v / 2 ^ 9), (LANE.CFG_FRAC n, v / 2 ^ 10),
        (LANE.CFG_REFSEL n, v / 2 ^ 11), (LANE.CFG_TX_INV n, v / 2 ^ 12), (LANE.CFG_RX_INV n, v / 2 ^ 13), (LANE.CFG_POL_AUTO n, v / 2 ^ 14),
        (LANE.CFG_TRAIN n, v / 2 ^ 15), (LANE.CFG_TRIES n, v / 2 ^ 16)]
      exec (.laneEnable k n v) s = moved fun t => if (held t).laneUse n = 1 then held t
        else
          let u := ((held t).writes [(LANE.CFG_RATE n, v / 2 ^ 5), (LANE.CFG_ENABLE n, 1)]).laneRise n
          if u.laneUse n = 3 then u.lacePoll (u.laneLink n) else u) ∧
    ((s.stack k).flag (LANE.CFG_ENABLE n) = true → (s.stack k).laneUse n ≠ 1 → exec (.laneDisable k n) s = moved fun t =>
      let u := (t.writes [(LANE.CFG_ENABLE n, 0)]).laneOff n
      { u with sys := { u.sys with reenables := u.sys.reenables.filter (· != .lanePower n) } }) ∧
    (∀ (inv : Bool) (height width : Nat), 1 ≤ st → st ≤ 7 → x.waiting = false → x.refWait = false →
      let lacing := (s.stack k).laneUse n = 3
      let enter : Stack → Stack := fun t =>
        let u := t.setStage n (t.nextStage n st)
        if t.nextStage n st = 8 then u.writes [(LANE.EYE_HEIGHT n, height), (LANE.EYE_WIDTH n, width)] else u
      let found : Nat → Bool → Stack → Stack := fun i b t => t.writes [(LANE.STATUS_SIGNAL n, setBit (t.get (LANE.STATUS_SIGNAL n)) i b)]
      ((st = 1 ∨ st = 2 ∨ st = 4) → exec (.laneStageComplete k n inv height width) s = moved fun t => enter (found (st - 1) true t)) ∧
      (st = 3 → ¬ lacing → exec (.laneStageComplete k n inv height width) s = moved fun t => enter (found 2 inv t)) ∧
      (st = 3 → lacing → 16 ≤ x.run → exec (.laneStageComplete k n inv height width) s = moved fun t => enter (found 2 x.inverted t)) ∧
      ((st = 6 ∨ (st = 5 ∧ (¬ lacing ∨ (s.stack k).orderOk n = true)) ∨
        (st = 7 ∧ (¬ lacing ∨ (x.farRole ≠ some ((s.stack k).flag (LANE.LACE_CTL_ROLE ((s.stack k).laneLink n))) ∧ 64 ≤ x.readyRun)))) →
        exec (.laneStageComplete k n inv height width) s = moved enter)) ∧
    (1 ≤ st → st ≤ 7 → x.waiting = false → x.refWait = false →
      (s.stack k).get (LANE.STATUS_ATTEMPT n) + 1 < (if (s.stack k).get (LANE.CFG_TRIES n) = 0 then 8 else (s.stack k).get (LANE.CFG_TRIES n)) →
      let role := (s.stack k).flag (LANE.LACE_CTL_ROLE ((s.stack k).laneLink n))
      let cause := if st = 7 ∧ (s.stack k).laneUse n = 3 ∧ x.farRole = some role then 8 else st
      exec (.laneStageOverrun k n) s = moved fun t =>
        let u := (t.writes [(LANE.STATUS_FAIL n, cause)]).bump (LANE.STATUS_ATTEMPT n)
        u.setLane n { u.lane n with waiting := true }) ∧
    (x.waiting = true → exec (.laneRestart k n) s = moved fun t => (t.bump (LANE.ERRCNT_RESTARTS n)).laneStage1 n) ∧
    (st = 8 → exec (.lossOfSignal k n) s = moved fun t => (t.laneStage1 n).laneLeft n) ∧
    (st = 8 → (s.stack k).laneUse n = 3 → exec (.syncHeaderErrors k n) s = moved fun t =>
      let u := t.bump (LANE.ERRCNT_SYNC_ERR n) 16
      ((u.setStage n (t.nextStage n 2)).setLane n {}).laneLeft n) ∧
    (∀ m, (s.stack k).sourceRunning m = true → (m < 8 ∨ 8 + (s.stack k).build.lanes / 2 ≤ m) → exec (.clockDead k m) s = moved fun t =>
      ((t.setRunning m false).setDead m).writes [(CLK.INT_CLOCK_DEAD, 1)]) ∧
    (∀ q ab, (s.stack k).sourceRunning (8 + 2 * q + ab) = true → exec (.referenceClockStopped k q ab) s = moved fun t =>
      let u := ((t.setRunning (8 + 2 * q + ab) false).setDead (8 + 2 * q + ab)).writes [(CLK.INT_CLOCK_DEAD, 1)]
      let u := u.writes [(LANE.QSTAT_REF_OK q, setBit (u.get (LANE.QSTAT_REF_OK q)) ab false), (LANE.INT_REF, 1)]
      ([4 * q, 4 * q + 1, 4 * q + 2, 4 * q + 3].foldl (fun t n =>
        if 1 ≤ t.laneStage n ∧ t.laneStage n ≤ 8 ∧ t.get (LANE.CFG_REFSEL n) = ab then (t.laneStage1 n).laneLeft n else t) u).syncPlls q) ∧
    (∀ q ab, bit ((s.stack k).get (LANE.QCTL_REF_EN q)) ab = true → exec (.referenceClockRuns k q ab) s = moved fun t =>
      let u := t.setRunning (8 + 2 * q + ab) true
      let u := u.writes [(LANE.QSTAT_REF_OK q, setBit (t.get (LANE.QSTAT_REF_OK q)) ab true)]
      ([4 * q, 4 * q + 1, 4 * q + 2, 4 * q + 3].foldl (fun t n =>
        if (t.lane n).refWait ∧ t.get (LANE.CFG_REFSEL n) = ab then t.setLane n {} else t) u).syncPlls q)

/-- In Day and Workshop: a changed LOOP of a lane that is neither Off nor Failed is held, and the lane enters stage 1, its media port, link and pair following; the generator holds GEN and PATTERN, with PATTERN_BAD where PRBS13Q is asked for at an NRZ rate; the checker holds CHK and PATTERN, clears the error count as it starts, shows lock and counts errors while locked; INJECT on a lane that is not Off inverts one bit. A training frame on a Lacing lane in stages 3 to 7 gives the polarity and its run, the far role, width and run of ready, the lane number and the far end's last received SEQ; at stage 7 a preset request still unanswered loads the preset taps, and otherwise each tap's request is answered. A marker on a Lacing lane in stages 5 to 8 gives the lane number and the far width. Only what each clause lists differs. -/
def Obligations.LaneTestsAndTrainingComplete : Prop :=
  (∀ (s : State) (k : Side) (n : Nat), s.hasSide k = true → (s.stack k).modeIn [.day, .workshop] = true →
    (∀ v, (s.stack k).get (LANE.TEST_LOOP n) ≠ v % 4 → (s.stack k).laneStage n ≠ 0 → (s.stack k).laneStage n ≠ 9 →
      exec (.laneLoop k n v) s = .next (s.onStack k fun t => (((t.writes [(LANE.TEST_LOOP n, v)]).laneStage1 n).laneLeft n).syncPorts).pairLink) ∧
    (∀ gen pattern, exec (.prbsGenerator k n gen pattern) s = .next (s.onStack k fun t =>
      t.writes [(LANE.TEST_GEN n, gen), (LANE.TEST_PATTERN n, pattern), (LANE.PRBS_STAT_LOCK n,
        setBit (t.get (LANE.PRBS_STAT_LOCK n)) 1 (gen % 2 == 1 && pattern % 8 == 7 && t.nrz n))])) ∧
    (∀ chk pattern lock errors, exec (.prbsChecker k n chk pattern lock errors) s = .next (s.onStack k fun t =>
      let u := t.writes [(LANE.TEST_CHK n, chk), (LANE.TEST_PATTERN n, pattern)]
      let u := if chk % 2 = 1 ∧ t.flag (LANE.TEST_CHK n) = false then u.writes [(LANE.PRBS_ERR_ERRORS n, 0)] else u
      let u := u.writes [(LANE.PRBS_STAT_LOCK n, setBit (t.get (LANE.PRBS_STAT_LOCK n)) 0 (chk % 2 == 1 && lock))]
      if chk % 2 = 1 ∧ lock = true then u.bump (LANE.PRBS_ERR_ERRORS n) errors else u)) ∧
    ((s.stack k).laneStage n ≠ 0 → exec (.laneInject k n) s = .next (s.onStack k fun t => t.answered 0 [1]))) ∧
  (∀ (s : State) (k : Side) (n f : Nat), s.hasSide k = true → (s.stack k).laneUse n = 3 →
    let x := (s.stack k).lane n
    let link := (s.stack k).laneLink n
    (∀ inv : Bool, 3 ≤ (s.stack k).laneStage n → (s.stack k).laneStage n ≤ 7 →
      let heard : Stack → Stack := fun t =>
        let u := (t.setLane n { x with inverted := inv, run := (if inv = x.inverted then x.run + 1 else 1), farRole := some (bit f 38), farWidth := 2 ^ bits f 13 3, readyRun := (if bit f 37 then x.readyRun + 1 else 0) }).writes [(LANE.STATUS_LANE_ID n, bits f 8 5)]
        u.setLace link { t.lace link with farLastRx := bits f 39 12 }
      exec (.trainingFrame k n inv f) s = .next (s.onStack k fun t => if t.laneStage n < 7 then heard t
        else if bit f 28 ∧ x.st = 0 then (heard t).loadPreset n
        else if bit f 28 then heard t
        else [0, 1, 2, 3].foldl (fun t i => t.tapRequest n i (bits f (20 + 2 * i) 2)) (heard t))) ∧
    (5 ≤ (s.stack k).laneStage n → (s.stack k).laneStage n ≤ 8 → exec (.marker k n f) s = .next (s.onStack k fun t =>
      (t.writes [(LANE.STATUS_LANE_ID n, bits f 8 5)]).setLane n { x with farWidth := 2 ^ bits f 13 3 })))

/-- Each of these acts on the link's stack; those that may move a lane are followed by the media ports and the pair. On an Up link that drives its outputs, with nothing to resend, a class that waits sends its next unit of up to 16 guaranteed flits, when flows run for a guaranteed one, credits, the replay buffer and the key allow and the sequence count does not end: it spends credits, keeps the unit for replay and answers what the wires carry. A unit received on an Up link, with the expected SEQ, a right length and tag and nothing broken, is decrypted and accepted; a broken one is counted and NAKed. A CREDIT block makes a training link Up once its lanes are Ready without a loop, or on an Up link returns credits, acknowledges, and on NAK resends. A CREDIT is sent, or repeated with NAK, with what is owed, which is then cleared. The resend timer resends at its expiry. ENABLE 1 polls the link; ENABLE 0 takes it Down with its lanes off. A retrain that lasts 25 ms fails with 0x0C. A remote window that is not BUSY sends its request and becomes BUSY, else OVERRUN. -/
def Obligations.LacingCommandsComplete : Prop :=
  ∀ (s : State) (k : Side) (l : Nat), s.hasSide k = true →
    let moved : (Stack → Stack) → Host.Outcome State Fault Refusal := fun f => .next (s.onStack k fun t => (f t).syncPorts).pairLink
    let x := (s.stack k).lace l
    (∀ (cls n queue : Nat) (flits : List Nat) (y : Lace), (s.stack k).laceState l = 2 → (s.stack k).laceDrives = true → x.resend = none →
      x.take cls (min n 16) = some (flits, queue, y) → (cls = 2 → (s.stack k).flowsRun = true) → flits ≠ [] → flits.length ≤ x.credit cls →
      x.replay.foldl (fun a u => a + u.flits.length) 0 + flits.length ≤ 4096 → x.replay.length < 1024 → x.txCount + 1 ≠ 2 ^ 32 →
      let attr := (s.stack k).effectiveAttr l cls flits
      (s.stack k).mayEncrypt l attr = true →
      let u : LaceUnit := ⟨x.txCount, cls == 2, cls, queue, attr, ((s.stack k).linkSlot attr).getD 0, x.kp, flits⟩
      exec (.lacingUnitSend k l cls n) s = moved fun t => (t.setLace l { y.spend cls flits.length with since := if x.replay = [] then t.clk.up else x.since, txCount := x.txCount + 1, replay := x.replay ++ [u] }).answered 0
        (t.laceOutput l (t.unitWire l u))) ∧
    (∀ (seq : Nat) (guaranteed enc kp : Bool) (cls queue : Nat) (flits : List Nat) (tag ce far : Nat), (s.stack k).laceState l = 2 → seq = x.rxCount % 4096 →
      let counted : Stack → Stack := fun t => t.bump (LANE.LACE_ERR_CE l) ce
      let attr := (counted (s.stack k)).effectiveAttr l (if guaranteed then 2 else cls) flits
      let key := (counted (s.stack k)).receiveKey l attr kp
      let role := 1 - (counted (s.stack k)).get (LANE.LACE_CTL_ROLE l)
      let ctr := far % 2 ^ 32 * 2 ^ 32 + x.rxCount % 2 ^ 32
      let kindOk := if guaranteed = true then 1 ≤ flits.length ∧ flits.length ≤ 16 else flits.length = 1 + (headerOf 13 (flits.headD 0)).len
      (exec (.lacingUnitReceive k l seq guaranteed enc kp cls queue flits tag ce true far) s = moved fun t =>
        let u := (counted t).bump (LANE.LACE_CNT_NAKS l)
        u.setLace l { u.lace l with discarding := true }) ∧
      (enc = false → kindOk → unitCrc flits = tag →
        exec (.lacingUnitReceive k l seq guaranteed enc kp cls queue flits tag ce false far) s = moved fun t =>
          (counted t).unitAccept l guaranteed false cls queue flits) ∧
      (∀ v, enc = true → kindOk → key = some v → linkTag v attr ctr role flits = tag →
        exec (.lacingUnitReceive k l seq guaranteed enc kp cls queue flits tag ce false far) s = moved fun t =>
          (counted t).unitAccept l guaranteed true cls queue (cryptFlits v attr ctr role guaranteed flits))) ∧
    (∀ (ack : Nat) (nak : Bool) (req rsp guar : Nat),
      ((s.stack k).laceState l = 1 ∨ (s.stack k).laceState l = 3 →
        (∀ n ∈ (s.stack k).members l, (s.stack k).laneStage n = 8 ∧ (s.stack k).get (LANE.TEST_LOOP n) = 0) → x.rxGuar = [] →
        (s.stack k).modeIn [.dawn, .day, .workshop] = true → exec (.credit k l ack nak req rsp guar) s = moved fun t => t.laceUp l) ∧
      ((s.stack k).laceState l = 2 →
        let y := ({ x with crReq := min 256 (x.crReq + req), crRsp := min 256 (x.crRsp + rsp), crGuar := min 512 (x.crGuar + guar) } : Lace).acked ack
        let y := if y.replay.length < x.replay.length then { y with since := (s.stack k).clk.up } else y
        exec (.credit k l ack nak req rsp guar) s = moved fun t => if nak = true then (t.setLace l y).laceResend l else t.setLace l y)) ∧
    ((s.stack k).laceState l ≠ 0 → (s.stack k).laceState l ≠ 4 → (s.stack k).laceDrives = true → (∀ n ∈ (s.stack k).members l, (s.stack k).laneStage n = 8) →
      let block : Stack → Stack := fun t =>
        let u := t.setLace l { x with owedReq := 0, owedRsp := 0, owedGuar := 0, ackDue := false }
        u.answered 0 (t.laceOutput l [(x.rxCount + 4095) % 4096, b2n x.discarding, x.owedReq, x.owedRsp, x.owedGuar])
      exec (.creditSend k l) s = .next (s.onStack k block) ∧
      (x.discarding = true → exec (.nakRepeat k l) s = .next (s.onStack k block))) ∧
    ((s.stack k).laceState l = 2 → x.replay ≠ [] → exec (.resendTimer k l) s = moved fun t =>
      let d := t.elapse (t.resendDue l)
      let u := d.setLace l { x with resend := some 0, since := d.clk.up, resends := x.resends + 1 }
      if x.resends < 7 then u else u.laceRetrain l) ∧
    (l < (s.stack k).build.laces →
      exec (.laceEnable k l) s = moved (fun t => (t.writes [(LANE.LACE_CTL_ENABLE l, 1)]).lacePoll l) ∧
      ∀ write : Bool, exec (.rwinGo k l write) s = .next (s.onStack k fun t =>
        let u := t.writes [(LANE.RWIN_CTL_WRITE l, b2n write)]
        if t.flag (LANE.RWIN_STATUS_BUSY l) then u.writes [(LANE.RWIN_STATUS_OVERRUN l, 1)]
        else
          let tag := (((List.range 204).map fun j => l + 5 * j).find? fun g => (t.ringTag 13 g).st == 0).getD l
          let addr := t.get (LANE.RWIN_ADDR_LO_ADDR l) + 2 ^ 32 * t.get (LANE.RWIN_ADDR_HI_ADDR l)
          let w := addr / 4 % 16
          let n := if write then 1 else 0
          let h : Header := { src := 13, tag := tag, len := n, rlen := 1 - n, addr := addr / 64 * 64, beFirst := n * 0xF * 16 ^ w }
          let packet := headerFlit h (if write then 2 else 1) 0 :: (if write then [t.get (LANE.RWIN_DATA_DATA l) * 2 ^ (32 * w)] else [])
          ((u.writes [(LANE.RWIN_STATUS_BUSY l, 1)]).setTag 13 tag { st := 2, birth := t.get RING.EPOCH_COUNT % 65536, due := t.requestDue 13 tag }).setLace l
            { x with rwinTag := tag, rwinWrite := write, rwinWord := w, req := x.req ++ [packet] })) ∧
    ((s.stack k).laceState l = 0 → exec (.laceDisable k l) s = moved fun t => t.writes [(LANE.LACE_CTL_ENABLE l, 0)]) ∧
    ((s.stack k).laceState l ≠ 0 → exec (.laceDisable k l) s = moved fun t =>
      let u := t.writes (if t.laceState l = 2 then [(LANE.LACE_CTL_ENABLE l, 0), (LANE.INT_LINK_DOWN, 1)] else [(LANE.LACE_CTL_ENABLE l, 0)])
      let v := ((u.writes [(LANE.LACE_STAT_STATE l, 0)]).laceDiscard l).laceDrop l x.rxGuar.length
      let w := v.setLace l { x with replay := [], resend := none, unsent := 0, resends := 0, req := [], rsp := [], rxGuar := [], discarding := false }
      (w.members l).foldl (fun t n => t.laneOff n) w) ∧
    ((s.stack k).laceState l = 3 → exec (.retrainTimeout k l) s = moved fun t =>
      (t.writes [(LANE.LACE_STAT_STATE l, 4), (LANE.LACE_STAT_FAIL l, 0xC), (LANE.INT_LINK_FAIL, 1)]).laceDiscard l)

/-- A write of CFG with ENABLE 1 to a port of the build that is off holds the fields; a MODE that names no mode leaves FAIL 1, lanes not of USE 1 FAIL 2, else the lanes take the mode's rate and are enabled with FAIL 0; ENABLE 0 stops a running port and its lanes of USE 1; lanes, ports and the pair follow. A frame on a port whose link is up adds to the FEC counts; a bad one counts as RX_BAD, one that the MAC does not accept is dropped, a PTP message goes to the host with its time, ARP, IPv6, odd IPv4, ICMP and IGMP go to the host, a matching UDP frame to its flow, and another to the host with HOST_UNMATCHED or to RX_UNMATCHED; all accepted ones count as RX_FRAMES. A flow's first unit, not held and not behind another flow's unit, moves as many flits into its queue as fit. A read of HRX_DATA takes the next word. A write of HTX_DATA adds one while 4,096 are not held. GO holds LEN and TS_REQ and sends the frame, or is BUSY until the link is up; while BUSY it sets OVERRUN. -/
def Obligations.MediaPortsAndHostPathComplete : Prop :=
  (∀ (s : State) (k : Side) (q : Nat), s.hasSide k = true →
    let moved : (Stack → Stack) → Host.Outcome State Fault Refusal := fun f => .next (s.onStack k fun t => (f t).syncPorts).pairLink
    (∀ v, (s.stack k).flag (MPORT.CFG_ENABLE q) = false → q < (s.stack k).build.mports → exec (.mportEnable k q v) s = moved fun t =>
      let u := t.writes [(MPORT.CFG_MODE q, v), (MPORT.CFG_FEC q, v / 16), (MPORT.CFG_HOST_UNMATCHED q, v / 32), (MPORT.CFG_ENABLE q, 1)]
      match portMode (v % 16) with
      | none => u.writes [(MPORT.STATUS_FAIL q, 1)]
      | some (_, rate) =>
        if ∀ n ∈ u.portLanes q, u.get (LANE.CFG_USE n) = 1 then
          (u.portLanes q).foldl (fun t n => (t.writes [(LANE.CFG_RATE n, rate), (LANE.CFG_PAM4 n, if 8 ≤ rate then 1 else 0)]).laneEnabled n)
            (u.writes [(MPORT.STATUS_FAIL q, 0)])
        else u.writes [(MPORT.STATUS_FAIL q, 2)]) ∧
    ((s.stack k).flag (MPORT.CFG_ENABLE q) = true → exec (.mportDisable k q) s = moved fun t =>
      let u := t.writes [(MPORT.CFG_ENABLE q, 0)]
      (u.portLanes q).foldl (fun t n => if t.get (LANE.CFG_USE n) = 1 then (t.writes [(LANE.CFG_ENABLE n, 0)]).laneOff n else t) u)) ∧
  (∀ (s : State) (k : Side) (q : Nat) (l : List Nat) (fcsOk : Bool) (ce ue : Nat), s.hasSide k = true → (s.stack k).flag (MPORT.STATUS_LINK q) = true →
    let fec : Stack → Stack := fun t => (t.bump (MPORT.FEC_CE_COUNT q) ce).bump (MPORT.FEC_UE_COUNT q) ue
    let good : Stack → Stack := fun t => (fec t).bump (MPORT.RX_FRAMES_COUNT q)
    let o := netOffset l
    let toHost := etherType l = 0x0806 ∨ etherType l = 0x86DD ∨ (etherType l = 0x0800 ∧ (ipOdd l = true ∨ l.getD (o + 9) 0 = 1 ∨ l.getD (o + 9) 0 = 2))
    let hit := if isUdp l then (good (s.stack k)).rxMatch q (netNat l (o + 12) 4) (netNat l (o + 16) 4) (udpDst l) else none
    (frameBad l fcsOk = true → exec (.frameReceive k q l fcsOk ce ue) s = .next (s.onStack k fun t => (fec t).bump (MPORT.RX_BAD_COUNT q))) ∧
    (frameBad l fcsOk = false → (fec (s.stack k)).macAccepts q l = false → exec (.frameReceive k q l fcsOk ce ue) s = .next (s.onStack k fec)) ∧
    (frameBad l fcsOk = false → (fec (s.stack k)).macAccepts q l = true →
      (∀ m, ptpMessage l = some m → exec (.frameReceive k q l fcsOk ce ue) s = .next (s.onStack k fun t =>
        (good t).hostFrame q l (decide (m.getD 0 0 % 16 ≤ 3)) false)) ∧
      (ptpMessage l = none → toHost → exec (.frameReceive k q l fcsOk ce ue) s = .next (s.onStack k fun t => (good t).hostFrame q l false false)) ∧
      (ptpMessage l = none → ¬ toHost → ∀ e, hit = some e → exec (.frameReceive k q l fcsOk ce ue) s = .next (s.onStack k fun t =>
        (good t).flowPacket q e ((l.drop (o + 28)).take (netNat l (o + 24) 2 - 8)))) ∧
      (ptpMessage l = none → ¬ toHost → hit = none → exec (.frameReceive k q l fcsOk ce ue) s = .next (s.onStack k fun t =>
        if (good t).flag (MPORT.CFG_HOST_UNMATCHED q) then (good t).hostFrame q l false true else (good t).bump (MPORT.RX_UNMATCHED_COUNT q))))) ∧
  (∀ (s : State) (k : Side) (q e : Nat) (u : RxUnit) (rest : List RxUnit), s.hasSide k = true →
    takeUnit (1024 * q + e) ((s.stack k).mport q).buffer = some (u, rest) → ((s.stack k).rxFlow (1024 * q + e)).hold = false →
    let key := 32 * mediaStop q + u.queue
    let owner := mapGet 0 (s.stack k).media.owner key
    let room := (s.stack k).queueDepth 0 (mediaStop q) u.queue - ((s.stack k).queueFlits 0 (mediaStop q) u.queue).length
    owner = 0 ∨ owner = 1024 * q + e + 1 → u.flits.take room ≠ [] →
      exec (.receiveBufferDrain k q e) s = .next (s.onStack k fun t =>
        let left := u.flits.drop room
        let v := (t.pushQueue 0 (mediaStop q) u.queue (u.flits.take room)).setMport q
          { t.mport q with buffer := if left = [] then rest else { u with flits := left } :: rest }
        { v with media := { v.media with owner := mapSet 0 v.media.owner key (if left = [] then 0 else 1024 * q + e + 1) } })) ∧
  (∀ (s : State) (k : Side) (q : Nat), s.hasSide k = true →
    let p := (s.stack k).mport q
    (∀ w words more, p.hrx = (w :: words) :: more → exec (.hrxDataRead k q) s = .next (s.onStack k fun t =>
      (t.setMport q { p with hrx := if words = [] then more else words :: more }).answered 0 [w])) ∧
    (p.hrx = [] → exec (.hrxDataRead k q) s = .next (s.onStack k fun t => t.answered 0 [0])) ∧
    (∀ v, p.htx.length < 4096 → exec (.htxDataWrite k q v) s = .next (s.onStack k fun t =>
      (t.setMport q { p with htx := p.htx ++ [v % 2 ^ 32] }).writes [(MPORT.HTX_STATUS_SPACE q, 4095 - p.htx.length)])) ∧
    (∀ len tsReq, exec (.hostFrameSend k q len tsReq) s = .next (s.onStack k fun t =>
      let u := t.writes [(MPORT.HTX_CTL_LEN q, len), (MPORT.HTX_CTL_TS_REQ q, b2n tsReq)]
      if t.flag (MPORT.HTX_STATUS_BUSY q) then t.writes [(MPORT.HTX_STATUS_OVERRUN q, 1)]
      else if u.flag (MPORT.STATUS_LINK q) then u.hostSend q else u.writes [(MPORT.HTX_STATUS_BUSY q, 1)])))

/-- A unit of a channel with no valid entry and no framer of the channel changes nothing; with one valid video entry, no SDI framer of the channel and flows running, its line is cut into the packets of R475, each with its release time, marker, sequence number, timestamp, line and offset, held for the entry, and the channel's sequence and count advance. The release of a valid entry while flows run sends its next packet once due or late, counted, where the link is up, else counts one lost and late with FLOW_LOSS. SDI_CTL with ENABLE 1 holds its fields, and sets the rate of a lane of USE 2 that is off; ENABLE 0 stops the framer. A line received by a framer at work that is locked and not the house reference gives RATE, counts a bad CRC, holds the identifier, and delivers picture and ancillary units with free timestamp and sequence number; one that falls due sends the oldest unit, or black counted late. -/
def Obligations.FlowsAndSdiComplete : Prop :=
  (∀ (s : State) (k : Side) (stop chan : Nat) (flits : List Nat), s.hasSide k = true →
    (∀ q < (s.stack k).build.mports, mediaStop q = stop → ∀ n < 4, (s.stack k).flag (MPORT.SDI_CTL_ENABLE q n) = true → (s.stack k).get (MPORT.SDI_CTL_CHAN q n) ≠ chan) →
    ((s.stack k).txEntries stop chan = [] → exec (.transmitUnit k stop chan flits) s = .next s) ∧
    (∀ q e, (s.stack k).txEntries stop chan = [(q, e)] → (s.stack k).flowsRun = true → bits ((s.stack k).txWord q e 2) 5 4 = 0 →
      let t := s.stack k
      let w2 := t.txWord q e 2
      let fmt := t.format q (bits w2 9 4)
      let v := flits.headD 0
      let c0 := mapGet ({} : TxChan) t.media.chans (32 * stop + chan)
      let c := if bit v 16 then t.txFrame c0 (bits w2 15 2) (bit w2 17) (bits v 32 32) 90000 else c0
      let parts := linePackets fmt.1 ((unitSamples flits).take (lineSamples fmt.1))
      let height := bits fmt.1 16 13
      let period := t.framePeriod (bits w2 15 2)
      let total := Nat.max 1 (bits fmt.2 0 11)
      let npk := Nat.max 1 (parts.length * height)
      let trs := if bits w2 13 2 = 1 then period / npk else period * height / total / npk
      let due := fun i => c.start + bits fmt.2 16 5 * (period / total) + (c.next + i) * trs - (if bits w2 13 2 = 2 then 4 * trs else 0)
      let line := bits v 0 16
      let cut := if (9 + lineSamples fmt.1 + 35) / 36 < flits.length then 1 else 0
      ∀ seq, c.seq = some seq → cut = 0 →
        exec (.transmitUnit k stop chan flits) s = .next (s.onStack k fun t =>
          let d : TxChan := { c with seq := some (seq + parts.length), next := c.next + parts.length }
          let u : Stack := { t with media := { t.media with chans := mapSet {} t.media.chans (32 * stop + chan) d } }
          let x := u.txFlow q e
          let packet := fun i =>
            let p := parts.getD i (0, [])
            TxPacket.mk (due i) ([b2n (line + 1 == height && i + 1 == parts.length), (seq + i) % 2 ^ 32, c.ts, line, p.1] ++ p.2)
          u.setTx q e { x with packets := x.packets ++ (List.range parts.length).map packet, drop := satAdd 32 x.drop 0 }))) ∧
  (∀ (s : State) (k : Side) (q e : Nat), s.hasSide k = true → bit ((s.stack k).txWord q e 2) 31 = true → (s.stack k).flowsRun = true →
    let x := (s.stack k).txFlow q e
    (x.packets = [] → exec (.flowPacketRelease k q e) s = .next (s.onStack k fun t =>
      (t.setTx q e { x with lost := satAdd 32 x.lost 1, late := x.late + 1 }).writes [(MPORT.INT_FLOW_LOSS q, 1)])) ∧
    (∀ p l, x.packets = p :: l → x.late ≠ 0 ∨ p.release ≤ (s.stack k).time → exec (.flowPacketRelease k q e) s = .next (s.onStack k fun t =>
      let u := t.setTx q e { x with packets := l, late := x.late - 1, pkts := satAdd 32 x.pkts 1 }
      if u.flag (MPORT.STATUS_LINK q) then (u.bump (MPORT.TX_FRAMES_COUNT q)).answered 0 (u.padOutput (u.portLanes q) (u.packetOut q e p)) else u))) ∧
  (∀ (s : State) (k : Side) (q n : Nat), s.hasSide k = true → q < (s.stack k).build.mports →
    (∀ v, bit v 31 = false → (s.stack k).flag (MPORT.SDI_CTL_ENABLE q n) = true → exec (.sdiEnable k q n v) s = .next (s.onStack k fun t =>
      (t.writes [(MPORT.SDI_CTL_ENABLE q n, 0), (MPORT.SDI_STAT_LOCKED q n, 0), (MPORT.SDI_STAT_PID_VALID q n, 0)]).setMport q
        { t.mport q with sdi := mapSet [] (t.mport q).sdi n [] })) ∧
    (∀ v, (s.stack k).flag (MPORT.SDI_CTL_ENABLE q n) = false → exec (.sdiEnable k q n v) s = .next (s.onStack k fun t =>
      let u := t.writes [(MPORT.SDI_CTL_RATE q n, v), (MPORT.SDI_CTL_FRAC q n, v / 4), (MPORT.SDI_CTL_RAW q n, v / 8), (MPORT.SDI_CTL_QUEUE q n, v / 16),
        (MPORT.SDI_CTL_ANC_QUEUE q n, v / 2 ^ 9), (MPORT.SDI_CTL_CHAN q n, v / 2 ^ 14), (MPORT.SDI_CTL_RASTER q n, v / 2 ^ 19),
        (MPORT.SDI_CTL_ENABLE q n, v / 2 ^ 31)]
      if bit v 31 = true ∧ u.get (LANE.CFG_USE (4 * q + n)) = 2 ∧ u.flag (LANE.CFG_ENABLE (4 * q + n)) = false ∧ v % 4 < 3 then
        u.writes [(LANE.CFG_RATE (4 * q + n), if v % 4 = 0 then 1 else if v % 4 = 1 then 2 else 4), (LANE.CFG_FRAC (4 * q + n), v / 4)]
      else u))) ∧
  (∀ (s : State) (k : Side) (q n : Nat), s.hasSide k = true → (s.stack k).sdiRuns q n = true →
    (∀ (row : Nat) (sof crcOk : Bool) (pid : Option Nat) (codes anc : List Nat), (s.stack k).flag (MPORT.SDI_STAT_LOCKED q n) = true →
      ((s.stack k).houseKind ≠ 2 ∨ (s.stack k).houseIndex ≠ 4 * q + n) → codes ≠ [] →
      exec (.sdiLineReceive k q n row sof crcOk pid codes anc) s = .next (s.onStack k fun t =>
        let u := t.writes [(MPORT.SDI_STAT_RATE q n, t.get (MPORT.SDI_CTL_RATE q n))]
        let u := if crcOk = true then u else (u.bump (MPORT.SDI_ERR_CRC q n)).writes [(MPORT.INT_SDI q, 1)]
        let u := match pid with
          | some v => u.writes [(MPORT.SDI_PID_PID q n, v), (MPORT.SDI_STAT_PID_VALID q n, 1)]
          | none => u
        let ts := u.freeNat
        let seq := u.draw.freeNat
        let u := u.draw.draw
        let f := 1024 * q + 512 + n
        let prev := (u.rxFlow f).prevInc
        let w := u.deliver f (u.get (MPORT.SDI_CTL_QUEUE q n)) (sampleUnit (unitHeader row sof prev q n true ts seq) (codes.map (widen 10)))
        if anc = [] then w
        else w.deliver f (w.get (MPORT.SDI_CTL_ANC_QUEUE q n)) (byteUnit (unitHeader anc.length false prev q n true ts seq) anc))) ∧
    (∀ black, (s.stack k).flowsRun = true →
      let p := (s.stack k).mport q
      (∀ u l, mapGet [] p.sdi n = u :: l → exec (.sdiLineTransmit k q n black) s = .next (s.onStack k fun t =>
        (t.setMport q { p with sdi := mapSet [] p.sdi n l }).answered 0 (t.padOutput [4 * q + n] (t.get (MPORT.SDI_TXPID_PID q n) :: u.map (narrow 10))))) ∧
      (mapGet [] p.sdi n = [] → exec (.sdiLineTransmit k q n black) s = .next (s.onStack k fun t =>
        ((t.bump (MPORT.SDI_ERR_LATE q n)).writes [(MPORT.INT_SDI q, 1)]).answered 0
          (t.padOutput [4 * q + n] (t.get (MPORT.SDI_TXPID_PID q n) :: (List.range black).map fun i => if i % 2 = 0 then 512 else 64))))))

/-- A LOAD.CMD holds IMAGE and OP; while BUSY it sets OVERRUN. Otherwise LOAD, REBIND, RESTART and VERIFY start their job at phase 1 with the digest, and an unassigned OP does nothing; ABORT stops a running job with cause 0x15. No repair or fetch going first: a Check that refuses ends the job with its cause, section and address; one that passes ends a VERIFY and else raises the fence for Define; Define writes the descriptors inside the fence; Copy places the folios and goes on, by use, to Stage or to Registers, or stops the job with its cause, section and address; Stage does the same once its page links are free; Registers, when it no longer waits, writes its registers and finishes the job, or stops it with 0xF. The registers phase that waits goes on once no turn is armed. A colophon fetch of a section that exists reports its refusal, or holds its plane Staging and is BUSY; its end places the page's folios and leaves the plane Staged with 0, or Blocked with 8 or 0xA. -/
def Obligations.LoaderCommandsComplete : Prop :=
  (∀ (s : State) (k : Side) (image : Nat), s.hasSide k = true →
    let held : Nat → Stack → Stack := fun op t => t.writes [(LOAD.CMD_IMAGE, image), (LOAD.CMD_OP, op)]
    let begun : Nat → Stack → Stack := fun op t =>
      let u := held op t
      ({ u with loader := { u.loader with job := op, jobImage := image, jobDigest := (s.stack k).get LOAD.CMD_DIGEST_DIGEST, jobStartLive := false, waitTurn := false } } : Stack).writes
        [(LOAD.STATUS_BUSY, 1), (LOAD.STATUS_PHASE, 1), (LOAD.STATUS_CAUSE, 0), (LOAD.STATUS_SECTION, 0), (LOAD.FAULT_ADDR_ADDR, 0), (LOAD.PROGRESS_BYTES, 0)]
    ((s.stack k).flag LOAD.STATUS_BUSY = true →
      (∀ p ∈ [(Instr.load k image, 1), (.rebind k image, 2), (.restart k image, 3), (.verify k image, 5)],
        exec p.1 s = .next (s.onStack k fun t => (held p.2 t).writes [(LOAD.STATUS_OVERRUN, 1)])) ∧
      (∀ op, exec (.loadNone k op image) s = .next (s.onStack k fun t => (held op t).writes [(LOAD.STATUS_OVERRUN, 1)])) ∧
      exec (.loadAbort k image) s = .next (s.onStack k fun t => (held 4 t).loadStop 0x15 ((held 4 t).jobSections.headD 0) 0)) ∧
    ((s.stack k).flag LOAD.STATUS_BUSY = false →
      exec (.load k image) s = .next (s.onStack k (begun 1)) ∧ exec (.rebind k image) s = .next (s.onStack k (begun 2)) ∧
      exec (.restart k image) s = .next (s.onStack k (begun 3)) ∧ exec (.verify k image) s = .next (s.onStack k (begun 5)) ∧
      (∀ op, exec (.loadNone k op image) s = .next (s.onStack k (held op))) ∧ exec (.loadAbort k image) s = .next (s.onStack k (held 4)))) ∧
  (∀ (s : State) (k : Side) (unc : Option Nat), s.hasSide k = true → (s.stack k).loadPaused = false →
    let t := s.stack k
    let img := t.loader.jobImage
    let check := t.checkImage t.loader.job img t.loader.jobDigest
    let stopped : Stack × Nat × Nat → Stack := fun r => r.1.loadStop r.2.1 (r.1.causeSection img r.2.1 r.2.2) r.2.2
    let toRegisters : Stack → Stack := fun u =>
      let v := u.planesWritten img
      ({ v with loader := { v.loader with waitTurn := v.turnArmed } } : Stack).writes [(LOAD.STATUS_PHASE, 5)]
    (t.get LOAD.STATUS_PHASE = 1 → exec (.loadPhaseComplete k unc) s = .next (s.onStack k fun t => match check with
      | some (c, n, a) => (t.loadEnd c).writes [(LOAD.STATUS_SECTION, n), (LOAD.FAULT_ADDR_ADDR, a)]
      | none => if t.loader.job = 5 then t.loadEnd 0 else (t.raiseFence img).writes [(LOAD.STATUS_PHASE, 2)])) ∧
    (t.get LOAD.STATUS_PHASE = 2 → exec (.loadPhaseComplete k unc) s = .next (s.onStack k fun t =>
      if t.defineFenced img then (t.phaseDefine img t.loader.jobStartLive).writes [(LOAD.STATUS_PHASE, 3)] else t.loadStop 0x10 0 0)) ∧
    (t.get LOAD.STATUS_PHASE = 3 → exec (.loadPhaseComplete k unc) s = .next (s.onStack k fun t =>
      if (t.phaseCopy img unc).2.1 ≠ 0 then stopped (t.phaseCopy img unc)
      else if t.pooled then toRegisters (t.phaseCopy img unc).1 else (t.phaseCopy img unc).1.writes [(LOAD.STATUS_PHASE, 4)])) ∧
    (t.get LOAD.STATUS_PHASE = 4 → t.stageLinksBusy = false → exec (.loadPhaseComplete k unc) s = .next (s.onStack k fun t =>
      if (t.phaseStage img).2.1 ≠ 0 then stopped (t.phaseStage img) else toRegisters (t.phaseStage img).1)) ∧
    (t.get LOAD.STATUS_PHASE = 5 → t.loader.waitTurn = false → exec (.loadPhaseComplete k unc) s = .next (s.onStack k fun t =>
      match t.phaseRegisters img (t.mode == .dawn) with
      | some u => if t.mode = .dawn then (u.registersTaken t).loadFinish true else u.loadFinish false
      | none => t.loadStop 0xF (t.jobSections.headD 0) 0))) ∧
  (∀ (s : State) (k : Side), s.hasSide k = true → (s.stack k).loader.waitTurn = true →
    exec (.loadRegistersPhase k) s = .next (s.onStack k fun t => { t with loader := { t.loader with waitTurn := t.turnArmed } })) ∧
  (∀ (s : State) (k : Side) (n page p : Nat), s.hasSide k = true → (s.stack k).flag LOAD.FETCH_STATUS_BUSY = false → (s.stack k).stateIn n [.none] = false →
    let r := (s.stack k).rootOf n
    let c := (s.stack k).pageRefusal n page p 4 ((s.stack k).imageSupplies r page)
    exec (.colophonFetch k n page p) s = .next (s.onStack k fun t =>
      let u := t.writes [(LOAD.FETCH_SECTION, n), (LOAD.FETCH_PAGE, page), (LOAD.FETCH_PLANE, p)]
      if c ≠ 0 then u.writes [(LOAD.FETCH_STATUS_RESULT, c)]
      else
        let v : Stack := { u with loader := { u.loader with fetchRoot := r, fetchPage := page, fetchPlane := p } }
        (v.setPlane r p { status := .staging, src := page, bad := false }).writes [(LOAD.FETCH_STATUS_BUSY, 1), (LOAD.FETCH_STATUS_RESULT, 0)])) ∧
  (∀ (s : State) (k : Side) (unc : Bool), s.hasSide k = true → (s.stack k).flag LOAD.FETCH_STATUS_BUSY = true → (s.stack k).repairFirst = false →
    exec (.fetchComplete k unc) s = .next (s.onStack k fun t =>
      let r := t.loader.fetchRoot
      let p := t.loader.fetchPlane
      let page := t.loader.fetchPage
      let bad := unc || t.pageUnreadable r page
      let u := if bad then t else (t.sourceFolios r page).foldl (fun s ex => s.placePlane p ex.1.digest ex.2) t
      let ok := !bad && u.fabric.allOk (u.pagedTiles r) p
      (u.setPlane r p { status := if ok then .staged else .blocked, src := page, bad := !ok }).writes
        [(LOAD.FETCH_STATUS_BUSY, 0), (LOAD.FETCH_STATUS_RESULT, if bad then 8 else if ok then 0 else 0xA)]))

/-- While UP_STATUS is not BUSY a UP_CTL command holds IMAGE and OP. Open reports EXISTS, TEMP_WINDOW or SPACE, or takes the first free run of blocks, notes the entry as open and sets OPEN. Commit reports STATE with no upload open, else is BUSY. Abandon frees the open entry, or reports STATE. Delete reports IN_USE or TEMP_WINDOW, or is BUSY, after abandoning the image's own upload. An unassigned OP does nothing else, BUSY or not; an assigned one only holds its fields while BUSY. A word written with an upload open is buffered, or dropped with OVERFLOW. What is buffered is programmed, or the upload ends outside the temperature window. A commit's end programs what is left and makes the entry valid, or frees it with its result; a delete's end frees the entry. A folio that the checkers read and that waits for no rewrite counts in its lap, and a mismatch is handled; the oldest rewrite completes and its recovery with it; the first repair with a Free plane and free links stages the live page there and makes its turn. -/
def Obligations.UploadsAndChecksComplete : Prop :=
  (∀ (s : State) (k : Side) (image op : Nat), s.hasSide k = true →
    let held : Nat → Stack → Stack := fun op t => t.writes [(LOAD.UP_CTL_IMAGE, image), (LOAD.UP_CTL_OP, op)]
    let result : Nat → Nat → Stack → Stack := fun op r t => (held op t).writes [(LOAD.UP_STATUS_RESULT, r)]
    exec (.uploadNone k image op) s = .next (s.onStack k (held op)) ∧
    ((s.stack k).flag LOAD.UP_STATUS_BUSY = true →
      ∀ p ∈ [(Instr.uploadOpen k image, 1), (.uploadCommit k image, 2), (.uploadAbandon k image, 3), (.uploadDelete k image, 4)],
        exec p.1 s = .next (s.onStack k (held p.2))) ∧
    ((s.stack k).flag LOAD.UP_STATUS_BUSY = false →
      (exec (.uploadOpen k image) s = .next (s.onStack k fun t =>
        if 1023 < image ∨ (t.dirEntry image).state ≠ 0 ∨ t.flag LOAD.UP_STATUS_OPEN then result 1 1 t
        else if t.tempWindow = false then result 1 3 t
        else match t.freeRun image (Nat.max 1 (dirBlocks (t.get LOAD.UP_LEN_LEN))) with
          | none => result 1 2 t
          | some b =>
            let len := t.get LOAD.UP_LEN_LEN
            let u := (held 1 t).setDir image { state := 1, first := b, len := len }
            let readable := u.loader.unreadable.filter fun x => !(b ≤ x && x < b + dirBlocks len)
            let l : Loader := { u.loader with upImage := image, upCount := 0, upBuffer := [], upProgrammed := 0, upOverflow := false, unreadable := readable }
            ({ u with loader := l } : Stack).writes [(LOAD.UP_STATUS_OPEN, 1), (LOAD.UP_STATUS_RESULT, 0)])) ∧
      (exec (.uploadCommit k image) s = .next (s.onStack k fun t => if t.flag LOAD.UP_STATUS_OPEN then
          ({ held 2 t with loader := { t.loader with upBusyOp := 2 } } : Stack).writes [(LOAD.UP_STATUS_BUSY, 1)]
        else result 2 8 t)) ∧
      (exec (.uploadAbandon k image) s = .next (s.onStack k fun t => if t.flag LOAD.UP_STATUS_OPEN then (held 3 t).uploadEnd {} 0 else result 3 8 t)) ∧
      (exec (.uploadDelete k image) s = .next (s.onStack k fun t =>
        if ∃ n ∈ t.sectionNumbers, (t.sect n).image = image then result 4 9 t
        else if t.tempWindow = false then result 4 3 t
        else
          let u := if t.flag LOAD.UP_STATUS_OPEN && t.loader.upImage == image then (held 4 t).uploadEnd {} 0 else held 4 t
          ({ u with loader := { u.loader with upBusyOp := 4, delImage := image } } : Stack).writes [(LOAD.UP_STATUS_BUSY, 1)])))) ∧
  (∀ (s : State) (k : Side), s.hasSide k = true → (s.stack k).flag LOAD.UP_STATUS_OPEN = true →
    (∀ v, exec (.upDataWrite k v) s = .next (s.onStack k fun t => if t.get LOAD.UP_STATUS_SPACE = 0 then
        ({ t with loader := { t.loader with upOverflow := true } } : Stack).writes [(LOAD.UP_STATUS_OVERFLOW, 1)]
      else ({ t with loader := { t.loader with upBuffer := t.loader.upBuffer ++ [v], upCount := t.loader.upCount + 1 } } : Stack).writes
        [(LOAD.UP_STATUS_SPACE, t.get LOAD.UP_STATUS_SPACE - 1)])) ∧
    exec (.colophonProgram k) s = .next (s.onStack k fun t => if t.tempWindow then t.program else t.uploadEnd {} 3)) ∧
  (∀ (s : State) (k : Side), s.hasSide k = true →
    ((s.stack k).loader.upBusyOp = 4 → exec (.uploadCommitDone k) s = .next (s.onStack k fun t =>
      (({ t with loader := { t.loader with upBusyOp := 0 } } : Stack).setDir t.loader.delImage {}).writes [(LOAD.UP_STATUS_BUSY, 0), (LOAD.UP_STATUS_RESULT, 0)])) ∧
    ((s.stack k).loader.upBusyOp = 2 → (s.stack k).flag LOAD.UP_STATUS_OPEN = true → (s.stack k).tempWindow = false →
      exec (.uploadCommitDone k) s = .next (s.onStack k fun t => t.uploadEnd {} 3)) ∧
    ((s.stack k).loader.upBusyOp = 2 → (s.stack k).flag LOAD.UP_STATUS_OPEN = true → (s.stack k).tempWindow = true →
      (s.stack k).program.flag LOAD.UP_STATUS_OPEN = true →
      exec (.uploadCommitDone k) s = .next (s.onStack k fun t =>
        let u := t.program
        if u.commitResult = 0 then u.uploadEnd ⟨2, (u.dirEntry u.loader.upImage).first, u.get LOAD.UP_LEN_LEN, u.get LOAD.UP_DIGEST_DIGEST⟩ 0
        else u.uploadEnd {} u.commitResult))) ∧
  (∀ (s : State) (k : Side) (layer tile g p : Nat), s.hasSide k = true → (s.stack k).flag LOAD.CHK_CTL_ENABLE = true →
    (s.stack k).checked ⟨layer, tile⟩ p = true → (s.stack k).loader.rewrites.contains (folioKey ⟨layer, tile⟩ g p) = false →
    exec (.backgroundCheck k layer tile g p) s = .next (s.onStackFault k fun t =>
      let u := t.lapCount (layer / 2 - 1)
      match u.ownerOf ⟨layer, tile⟩ with
      | some n => if u.folioWrong ⟨layer, tile⟩ g p then u.mismatch false (u.rootOf n) ⟨layer, tile⟩ g p else u
      | none => u)) ∧
  (∀ (s : State) (k : Side) (key : Nat) (rest : List Nat), s.hasSide k = true → (s.stack k).loader.rewrites = key :: rest →
    let t := (ofFolioKey key).1
    let p := (ofFolioKey key).2.2
    exec (.folioRewriteComplete k) s = .next (s.onStack k fun u =>
      let u : Stack := { u with loader := { u.loader with rewrites := rest } }
      let r := u.tileRoot t
      let v := u.rewriteFolio r t (ofFolioKey key).2.1 p
      let pl := v.plane r p
      let w := if v.fabric.allOk (v.pagedTiles r) p then v.setPlane r p { pl with status := if pl.status = .blocked then .staged else pl.status, bad := false } else v
      w.recoveryComplete (.sect r))) ∧
  (∀ (s : State) (k : Side) (r p : Nat) (rest : List (Nat × Nat)), s.hasSide k = true → (s.stack k).loader.repairs = (r, 4) :: rest →
    (s.stack k).freePlane r = some p → (s.stack k).commandOnLinks r = false → (∀ q ∈ rest, q.1 ≠ r) →
    exec (.repairTurn k) s = .next (s.onStack k fun t =>
      let u : Stack := { t with loader := { t.loader with repairs := (r, p) :: rest } }
      (u.stageClean r p).makeDevTurn (.repair r p)))

/-- ARM.GO while a turn is armed sets ARM_REFUSED; with a broken condition it reports its reason as an arm without a number; else, outside Mirror, the turn takes the next number, is Checking, and its items are counted. CANCEL of a firmware turn that checks, or is Pending more than 10 microseconds ahead, fails it with 0x0D. The check of a turn that is not mirrored fails it with its first failure's reason and item, or, for an immediate firmware turn, fixes the instant 10 microseconds ahead and makes it Pending. Its last examination, 20 ns before the instant, fails it or makes it Applying. At the instant an examined turn that is neither mirrored nor the switch-over takes its captures, applies its items or its device effect, releases Held sections, ends the override and takes its phases, and pin conflicts follow. When nothing of it waits, RESULT, SEQ.LIVE and the counts are written, APPLIED is raised and the stage is Idle. A waiting device turn arms when the stage is Idle. A second's end gives LAST_S, and RATE above 120. -/
def Obligations.TurnCommandsComplete : Prop :=
  (∀ (s : State) (k : Side), s.hasSide k = true →
    let t := s.stack k
    (t.turnArmed = true → exec (.arm k) s = .next (s.onStack k fun t => t.writes [(TURN.STATUS_ARM_REFUSED, 1)])) ∧
    (t.turnArmed = false → s.armReason k ≠ 0 → exec (.arm k) s = .next (s.onStack k fun t =>
      t.writes [(TURN.RESULT_REASON, s.armReason k), (TURN.RESULT_ITEM, 0), (TURN.RESULT_SEQ_REFUSED, 1), (TURN.INT_FAILED, 1)])) ∧
    (t.turnArmed = false → s.armReason k = 0 → s.mirror = false → exec (.arm k) s = .next (s.onStack k fun t =>
      let u : Stack := { t with turn := { t.turn with num := t.get TURN.SEQ_NEXT, dev := none, raster := none, rasterRan := false, examined := false } }
      let v := u.writes [(TURN.SEQ_NEXT, t.get TURN.SEQ_NEXT + 1), (TURN.STATUS_PENDING, 1), (TURN.STATUS_STAGE, 1), (TURN.STATUS_DEVICE, 0)]
      v.writes [(TURN.ITEMS_COUNT, v.stagedItems.length)]))) ∧
  (∀ (s : State) (k : Side), s.hasSide k = true → (s.stack k).turn.mirrored = false →
    let t := s.stack k
    let e := s.examine k
    (t.firmwareArmed = true → (t.stage = 1 ∨ (t.stage = 2 ∧ t.time + 10000 < t.turn.instant)) →
      exec (.cancel k) s = .next (s.onStack k fun t => t.turnFail 0x0D 0)) ∧
    (t.stage = 1 → e.1.turn.dev = none → e.1.get TURN.POINT_WHEN = 0 → exec (.turnCheckComplete k) s = .next (s.onStack k fun _ =>
      match firstFailure e.2 with
      | some f => e.1.turnFail f.2 (Item.code f.1)
      | none => (({ e.1 with turn := { e.1.turn with raster := none } } : Stack).fixInstant (e.1.time + 10000)).writes [(TURN.STATUS_STAGE, 2)])) ∧
    (t.stage = 1 → ∀ d, e.1.turn.dev = some d → exec (.turnCheckComplete k) s = .next (s.onStack k fun _ =>
      match firstFailure e.2 with
      | some f => e.1.failTurn f.2 (Item.code f.1)
      | none => (e.1.fixDevice d).writes [(TURN.STATUS_STAGE, 2)])) ∧
    (t.stage = 2 → exec (.lastExamination k) s = .next (
      let u := s.onStack k fun t => t.reach (t.turn.instant - 20)
      match firstFailure (u.lastFailures k) with
      | some f => u.onStack k fun t => t.failTurn f.2 (Item.code f.1)
      | none => u.onStack k fun t => { t.countItems.writes [(TURN.STATUS_STAGE, 3)] with turn := { t.turn with examined := true } })) ∧
    (t.stage = 3 → t.turn.examined = true → t.turn.dev ≠ some .switchOver → exec (.turnApply k) s = .next (
      let u := s.onStackFault k fun t =>
        let w : Stack := t.reach t.turn.instant
        let v := ({ w with turn := { w.turn with examined := false } } : Stack).captureAtTurn
        (match v.turn.dev with
          | none => ((w.turnItems.foldl Stack.applyItem v).releaseHeld).endOverride
          | some d => (v.endOverride.applyDevice d).releaseHeld).takePhases w
      let x := if u.mirror then u else u.loseSync.closeWindow.setHeld none
      (x.syncConflicts .recto).syncConflicts .verso)) ∧
    (t.turnArmed = false → ∀ d q, t.turn.waiting = d :: q → exec (.deviceTurnArm k) s = .next (s.onStack k fun t =>
      ({ t with turn := { t.turn with waiting := q } } : Stack).turnStart (some d)))) ∧
  (∀ (s : State) (k : Side), s.hasSide k = true →
    ((s.stack k).stage = 3 → (s.stack k).turn.examined = false → (s.stack k).turn.ttPending = false → (s.stack k).turn.chmapPending = false →
      exec (.turnApplied k) s = .next (s.onStack k fun t =>
        let u := (((t.turnResult 0 0).writes [(TURN.SEQ_LIVE, t.turn.num)]).bumpWrap TURN.COUNT_APPLIED).writes [(TURN.INT_APPLIED, 1)]
        let v := u.turnIdle
        { v with turn := { v.turn with thisSecond := v.turn.thisSecond + 1 }, therm := { v.therm with turns := v.therm.turns + 1 } })) ∧
    exec (.turnRateSecond k) s = .next (s.onStack k fun t =>
      let n := t.turn.thisSecond
      let u := t.writes (if 120 < n then [(TURN.RATE_LAST_S, min n 255), (TURN.STATUS_RATE, 1)] else [(TURN.RATE_LAST_S, min n 255)])
      { u with turn := { u.turn with thisSecond := 0 } }))

/-- Where a packet of the request's opcode, source and tag has arrived and no other of these waits, a READ, WRITE, WRITE_POSTED, CURSOR or MSG has exactly the effect that it has with the packet gone. A WRITE_POSTED, an MSG and a request that is not answered yet add nothing more. Of the others a response packet leaves the target's router: opcode 0x20 for a READ and 0x21 else, the request's tag and BIRTH, class 3, as many flits as a READ that ends well asked for, and the initiator as its destination. -/
def Obligations.CarriedRequestsAreAnsweredByPacket : Prop :=
  ∀ (s : State) (k : Side) (op : Nat) (h : Header) (p : Packet) (rest : List Packet) (c : Instr), s.hasSide k = true →
    (s.stack k).rings.packets = p :: rest → p.arrived = true → p.op = op → p.head.src = h.src → p.head.tag = h.tag →
    (∀ q ∈ rest, ¬ (q.arrived = true ∧ q.op = op ∧ q.head.src = h.src ∧ q.head.tag = h.tag)) →
    (op = 1 ∧ c = .ringRead k h) ∨ (op = 2 ∧ ∃ data poison, c = .ringWrite k h data poison) ∨ (op = 3 ∧ ∃ data poison, c = .ringWritePosted k h data poison) ∨
      (op = 7 ∧ c = .ringCursor k h) ∨ (op = 8 ∧ c = .ringMsg k h) →
    ∃ u : State, exec c (s.onStack k fun t => { t with rings := { t.rings with packets := rest } }) = .next u ∧
      exec c s = .next (if op = 3 ∨ op = 8 ∨ (u.stack k).answer.status = noAnswer then u
        else u.onStack k fun t =>
          let n := if op = 1 ∧ t.answer.status = 0 then h.rlen else 0
          t.launch (if op = 1 then 0x20 else 0x21) { h with src := 32 * p.dhub + p.dstop.getD 0, cls := 3, len := n, birth := p.head.birth }
            p.dhub p.dstop (h.src / 32) (some (h.src % 32)))

/-- Every command in every state is answered with a next state: none stops the block. That state has the same build and the same waiting commands; and in a build with one stack the stack that it lacks is as it was. -/
def Obligations.EveryCommandAnswersAndKeepsThePackage : Prop :=
  ∀ (c : Instr) (s : State), ∃ t, exec c s = .next t ∧ s.KeepsPackage t

/-- Every step of every state answers a next state. Its build is the same and its queue is the rest of the queue, empty if it was empty (log 71 says what the block then does by itself). If the stack that the build lacks is as reset left it, it still is. -/
def Obligations.EveryStepKeepsTheAbsentStack : Prop :=
  ∀ s : State, ∃ t, step s = .next t ∧ t.build = s.build ∧ t.pending = s.pending.tail ∧ (s.AbsentUntouched → t.AbsentUntouched)

/-- After reset both stacks are of the package's build and know their sides, the stack that the build lacks is initial, no command waits, the byte memories are in canonical form with nothing listed in memory, and the mode is Off. -/
def Obligations.ResetMeetsTheInvariants : Prop :=
  State.reset.OneBuild ∧ State.reset.AbsentUntouched ∧ State.reset.pending = [] ∧ State.reset.recto.MemoryWf ∧ State.reset.verso.MemoryWf ∧
  State.reset.recto.mem = [] ∧ State.reset.recto.mode = .off

/-- Writing a record of any type with any body makes the written bank the one that a read takes, with that body, whatever the two banks held: both invalid, one valid, or both valid with any sequence numbers. No other bank of the ledger differs, and the bank that a read took before is not the one written, so a torn write leaves it intact. Nothing but the ledger differs. -/
def Obligations.LedgerRecordsAreReadAsWritten : Prop :=
  ∀ (s : Stack) (type : Nat) (body : Sparse Nat),
    (s.writeRecord type body).readBank type = some (s.writeBank type) ∧
    (s.writeRecord type body).recordBody type = body ∧
    (∀ n, n ≠ 2 * type + s.writeBank type → mapGet {} (s.writeRecord type body).ledger.banks n = mapGet {} s.ledger.banks n) ∧
    (∀ i, s.readBank type = some i → i ≠ s.writeBank type) ∧
    s.OnlyChanges [.ledger] [] (s.writeRecord type body)

/-- A WRITE of n whole flits to the commons, every byte enabled, no codeword of the place in error, no poison carried, no injection armed and the writer's writes enabled, followed by a READ of n flits from the same location, is answered OK with the bytes written, each modulo 256. -/
def Obligations.ReadReturnsWhatWasWritten : Prop :=
  ∀ (s : State) (k : Side) (h r : Header) (data : List Nat), s.hasSide k = true → (s.stack k).uncarried 2 h → (s.stack k).uncarried 1 r → h.reserved = false → h.rot = false → r.reserved = false →
    r.rot = false → r.addr = h.addr → data.length = 64 * r.rlen → h.beFirst = 2 ^ 64 - 1 → h.beLast = 2 ^ 64 - 1 →
    targetOf (h.addr % 2 ^ 44) = .commons → (s.stack k).writesIgnored h.src = false → (s.stack k).flag CODE.INJECT_ARM = false →
    (∀ i < 4 * r.rlen, (s.stack k).mark (h.addr % 2 ^ 44 / 16 + i) = .ok) →
    ∃ t u, exec (.ringWrite k h data 0) s = .next t ∧ exec (.ringRead k r) t = .next u ∧
      (u.stack k).answer = ⟨0, data.map fun b => b % 256⟩
end

