-- ==== Sys2Proof/Laws/Maps.lean ====
section
/-! SUPPORT. Laws of the sparse maps: what a key reads as after each operation, and that every operation keeps the canonical form. -/

namespace Sys2Proof.Machine

variable {α : Type}

@[simp] theorem mapGet_nil (d : α) (n : Nat) : mapGet d [] n = d := rfl

theorem mapGet_cons (d : α) (k : Nat) (v : α) (m : Sparse α) (n : Nat) :
    mapGet d ((k, v) :: m) n = if k = n then v else mapGet d m n := rfl

/-- A filter that drops no entry of a key leaves what the key reads as. -/
theorem mapGet_filter_keep (d : α) (p : Nat × α → Bool) (m : Sparse α) (n : Nat) (h : ∀ v, p (n, v) = true) :
    mapGet d (m.filter p) n = mapGet d m n := by
  induction m with
  | nil => rfl
  | cons e m ih =>
    obtain ⟨k, v⟩ := e
    by_cases hp : p (k, v) = true
    · simp [hp, mapGet_cons, ih]
    · have hk : k ≠ n := by
        rintro rfl
        exact hp (h v)
      simp [hp, mapGet_cons, hk, ih]

/-- A filter that drops every entry of a key returns the key to the default. -/
theorem mapGet_filter_drop (d : α) (p : Nat × α → Bool) (m : Sparse α) (n : Nat) (h : ∀ v, p (n, v) = false) :
    mapGet d (m.filter p) n = d := by
  induction m with
  | nil => rfl
  | cons e m ih =>
    obtain ⟨k, v⟩ := e
    by_cases hp : p (k, v) = true
    · have hk : k ≠ n := by
        rintro rfl
        simp [h v] at hp
      simp [hp, mapGet_cons, hk, ih]
    · simp [hp, ih]

@[simp] theorem mapGet_mapErase (d : α) (m : Sparse α) (n j : Nat) :
    mapGet d (mapErase m n) j = if n = j then d else mapGet d m j := by
  unfold mapErase
  split
  · subst_vars
    exact mapGet_filter_drop d _ m _ (by simp)
  · exact mapGet_filter_keep d _ m _ (fun _ => by simp; omega)

theorem mapGet_of_not_mem (d : α) (m : Sparse α) (n : Nat) (h : ∀ e ∈ m, e.1 ≠ n) : mapGet d m n = d := by
  induction m with
  | nil => rfl
  | cons e m ih =>
    obtain ⟨k, v⟩ := e
    have hk : k ≠ n := h (k, v) (by simp)
    simp [mapGet_cons, hk, ih fun e he => h e (by simp [he])]

theorem mapGet_mapInsert (d : α) (m : Sparse α) (n j : Nat) (v : α) (h : ∀ e ∈ m, e.1 ≠ n) :
    mapGet d (mapInsert n v m) j = if n = j then v else mapGet d m j := by
  induction m with
  | nil => simp [mapInsert, mapGet_cons]
  | cons e m ih =>
    obtain ⟨k, w⟩ := e
    have hk : k ≠ n := h (k, w) (by simp)
    have ih := ih fun e he => h e (by simp [he])
    unfold mapInsert
    split
    · simp [mapGet_cons]
    · simp only [mapGet_cons, ih]
      by_cases hkj : k = j
      · subst hkj
        simp [Ne.symm hk]
      · simp [hkj]

theorem mapErase_not_mem (m : Sparse α) (n : Nat) : ∀ e ∈ mapErase m n, e.1 ≠ n := by
  intro e he
  simp [mapErase] at he
  exact he.2

/-- Reading after a write: the key written reads as the value, every other key as before. -/
@[simp] theorem mapGet_mapSet [DecidableEq α] (d : α) (m : Sparse α) (n j : Nat) (v : α) :
    mapGet d (mapSet d m n v) j = if n = j then v else mapGet d m j := by
  unfold mapSet
  split
  · rename_i h
    simp [h]
  · rw [mapGet_mapInsert _ _ _ _ _ (mapErase_not_mem m n)]
    simp only [mapGet_mapErase]
    split <;> rfl

@[simp] theorem mapGet_mapClear (d : α) (m : Sparse α) (lo n j : Nat) :
    mapGet d (mapClear m lo n) j = if lo ≤ j ∧ j < lo + n then d else mapGet d m j := by
  unfold mapClear
  split
  · rename_i h
    exact mapGet_filter_drop d _ m _ (fun _ => by simp [h.1, h.2])
  · rename_i h
    exact mapGet_filter_keep d _ m _ (fun _ => by simp; omega)

@[simp] theorem mapGet_mapRange (d : α) (m : Sparse α) (lo n j : Nat) :
    mapGet d (mapRange m lo n) j = if lo ≤ j ∧ j < lo + n then mapGet d m j else d := by
  unfold mapRange
  split
  · rename_i h
    exact mapGet_filter_keep d _ m _ (fun _ => by simp [h.1, h.2])
  · rename_i h
    exact mapGet_filter_drop d _ m _ (fun _ => by simp; omega)

/-! ## Canonical form -/

/-- The canonical form: keys strictly rising and no entry equal to the default. -/
theorem mapWf_iff [DecidableEq α] (d : α) (m : Sparse α) :
    mapWf d m = true ↔ m.Pairwise (fun a b => a.1 < b.1) ∧ ∀ e ∈ m, e.2 ≠ d := by
  induction m with
  | nil => simp [mapWf]
  | cons e m ih =>
    obtain ⟨k, v⟩ := e
    cases m with
    | nil => simp [mapWf]
    | cons e' t =>
      obtain ⟨k', w⟩ := e'
      simp only [mapWf, Bool.and_eq_true, decide_eq_true_eq, ih, Bool.not_eq_true', decide_eq_false_iff_not]
      constructor
      · rintro ⟨⟨hv, hk⟩, hp, hd⟩
        refine ⟨List.pairwise_cons.2 ⟨?_, hp⟩, ?_⟩
        · intro e he
          rcases List.mem_cons.1 he with rfl | he
          · exact hk
          · exact Nat.lt_trans hk ((List.pairwise_cons.1 hp).1 e he)
        · intro e he
          rcases List.mem_cons.1 he with rfl | he
          · exact hv
          · exact hd e he
      · rintro ⟨hp, hd⟩
        have hp' := List.pairwise_cons.1 hp
        exact ⟨⟨hd (k, v) (by simp), hp'.1 (k', w) (by simp)⟩, hp'.2, fun e he => hd e (by simp [he])⟩

@[simp] theorem mapWf_nil [DecidableEq α] (d : α) : mapWf d ([] : Sparse α) = true := rfl

theorem mapWf_filter [DecidableEq α] (d : α) (p : Nat × α → Bool) {m : Sparse α} (h : mapWf d m = true) :
    mapWf d (m.filter p) = true := by
  rw [mapWf_iff] at h ⊢
  exact ⟨h.1.filter p, fun e he => h.2 e (List.mem_filter.1 he).1⟩

theorem mapWf_mapErase [DecidableEq α] (d : α) {m : Sparse α} (h : mapWf d m = true) (n : Nat) :
    mapWf d (mapErase m n) = true := mapWf_filter d _ h

theorem mapWf_mapClear [DecidableEq α] (d : α) {m : Sparse α} (h : mapWf d m = true) (lo n : Nat) :
    mapWf d (mapClear m lo n) = true := mapWf_filter d _ h

theorem mapWf_mapRange [DecidableEq α] (d : α) {m : Sparse α} (h : mapWf d m = true) (lo n : Nat) :
    mapWf d (mapRange m lo n) = true := mapWf_filter d _ h

theorem mapInsert_mem (n : Nat) (v : α) (m : Sparse α) (e : Nat × α) : e ∈ mapInsert n v m ↔ e = (n, v) ∨ e ∈ m := by
  induction m with
  | nil => simp [mapInsert]
  | cons e' m ih =>
    obtain ⟨k, w⟩ := e'
    unfold mapInsert
    split
    · simp
    · simp only [List.mem_cons, ih]
      exact or_left_comm

theorem mapWf_mapInsert [DecidableEq α] (d : α) {m : Sparse α} (h : mapWf d m = true) {n : Nat} {v : α} (hv : v ≠ d)
    (hn : ∀ e ∈ m, e.1 ≠ n) : mapWf d (mapInsert n v m) = true := by
  rw [mapWf_iff] at h ⊢
  refine ⟨?_, ?_⟩
  · obtain ⟨hp, -⟩ := h
    induction m with
    | nil => simp [mapInsert]
    | cons e m ih =>
      obtain ⟨k, w⟩ := e
      have hp' := List.pairwise_cons.1 hp
      have hkn : k ≠ n := hn (k, w) (by simp)
      unfold mapInsert
      split
      · rename_i hlt
        refine List.pairwise_cons.2 ⟨?_, hp⟩
        intro e he
        rcases List.mem_cons.1 he with rfl | he
        · exact hlt
        · exact Nat.lt_trans hlt (hp'.1 e he)
      · rename_i hlt
        refine List.pairwise_cons.2 ⟨?_, ih (fun e he => hn e (by simp [he])) hp'.2⟩
        intro e he
        rcases (mapInsert_mem n v m e).1 he with rfl | he
        · exact Nat.lt_of_le_of_ne (Nat.le_of_not_lt hlt) hkn
        · exact hp'.1 e he
  · intro e he
    rcases (mapInsert_mem n v m e).1 he with rfl | he
    · exact hv
    · exact h.2 e he

/-- A write keeps the canonical form. -/
theorem mapWf_mapSet [DecidableEq α] (d : α) {m : Sparse α} (h : mapWf d m = true) (n : Nat) (v : α) :
    mapWf d (mapSet d m n v) = true := by
  unfold mapSet
  split
  · exact mapWf_mapErase d h n
  · rename_i hv
    exact mapWf_mapInsert d (mapWf_mapErase d h n) hv (mapErase_not_mem m n)

theorem mapWf_foldl [DecidableEq α] {β : Type} (d : α) (l : List β) (f : Sparse α → β → Sparse α)
    (hf : ∀ m b, mapWf d m = true → mapWf d (f m b) = true) {m : Sparse α} (h : mapWf d m = true) :
    mapWf d (l.foldl f m) = true := by
  induction l generalizing m with
  | nil => exact h
  | cons b l ih => exact ih (hf m b h)

/-- A copied range keeps the canonical form. -/
theorem mapWf_mapCopy [DecidableEq α] (d : α) {m : Sparse α} (h : mapWf d m = true) (dst : Nat) (src : Sparse α) (lo n : Nat) :
    mapWf d (mapCopy d m dst src lo n) = true :=
  mapWf_foldl d _ _ (fun _ _ h => mapWf_mapSet d h _ _) (mapWf_mapClear d h dst n)

/-- Two maps in canonical form that read alike are the same data. -/
theorem mapWf_ext [DecidableEq α] (d : α) {a b : Sparse α} (ha : mapWf d a = true) (hb : mapWf d b = true)
    (h : ∀ n, mapGet d a n = mapGet d b n) : a = b := by
  induction a generalizing b with
  | nil =>
    cases b with
    | nil => rfl
    | cons e b =>
      obtain ⟨k, v⟩ := e
      have h1 := h k
      have h2 := (mapWf_iff d _).1 hb
      simp [mapGet_cons] at h1
      exact absurd h1.symm (h2.2 (k, v) (by simp))
  | cons e a ih =>
    obtain ⟨k, v⟩ := e
    have ha' := (mapWf_iff d _).1 ha
    have hap := List.pairwise_cons.1 ha'.1
    cases b with
    | nil =>
      have h1 := h k
      simp [mapGet_cons] at h1
      exact absurd h1 (ha'.2 (k, v) (by simp))
    | cons f b =>
      obtain ⟨j, w⟩ := f
      have hb' := (mapWf_iff d _).1 hb
      have hbp := List.pairwise_cons.1 hb'.1
      have below : ∀ (m : Sparse α) (x : Nat), (∀ e ∈ m, x < e.1) → mapGet d m x = d :=
        fun m x hm => mapGet_of_not_mem d m x fun e he => Nat.ne_of_gt (hm e he)
      have hkj : k = j := by
        rcases Nat.lt_trichotomy k j with hlt | heq | hgt
        · have h1 := h k
          rw [mapGet_cons, mapGet_cons, if_pos rfl, if_neg (by omega),
            below b k fun e he => Nat.lt_trans hlt (hbp.1 e he)] at h1
          exact absurd h1 (ha'.2 (k, v) (by simp))
        · exact heq
        · have h1 := h j
          rw [mapGet_cons, mapGet_cons, if_pos rfl, if_neg (by omega),
            below a j fun e he => Nat.lt_trans hgt (hap.1 e he)] at h1
          exact absurd h1.symm (hb'.2 (j, w) (by simp))
      subst hkj
      have hvw : v = w := by simpa [mapGet_cons] using h k
      subst hvw
      congr 1
      apply ih ((mapWf_iff d _).2 ⟨hap.2, fun e he => ha'.2 e (by simp [he])⟩)
        ((mapWf_iff d _).2 ⟨hbp.2, fun e he => hb'.2 e (by simp [he])⟩)
      intro n
      have h1 := h n
      rw [mapGet_cons, mapGet_cons] at h1
      by_cases hn : k = n
      · subst hn
        rw [below a k hap.1, below b k hbp.1]
      · simpa [hn] using h1

end Sys2Proof.Machine
end

