-- ==== Sys2Proof/Laws/State.lean ====
section
/-! SUPPORT. One lemma per field per update of the state: what the elementary updates of Machine/Ops.lean leave as it is. -/

namespace Sys2Proof.Machine

variable (s : Stack)

/-! ## put changes `regs` alone -/

@[simp] theorem Stack.put_side (f : Field) (v : Nat) : (s.put f v).side = s.side := rfl
@[simp] theorem Stack.put_build (f : Field) (v : Nat) : (s.put f v).build = s.build := rfl
@[simp] theorem Stack.put_mode (f : Field) (v : Nat) : (s.put f v).mode = s.mode := rfl
@[simp] theorem Stack.put_time (f : Field) (v : Nat) : (s.put f v).time = s.time := rfl
@[simp] theorem Stack.put_freeCount (f : Field) (v : Nat) : (s.put f v).freeCount = s.freeCount := rfl
@[simp] theorem Stack.put_mem (f : Field) (v : Nat) : (s.put f v).mem = s.mem := rfl
@[simp] theorem Stack.put_health (f : Field) (v : Nat) : (s.put f v).health = s.health := rfl
@[simp] theorem Stack.put_sys (f : Field) (v : Nat) : (s.put f v).sys = s.sys := rfl
@[simp] theorem Stack.put_ledger (f : Field) (v : Nat) : (s.put f v).ledger = s.ledger := rfl
@[simp] theorem Stack.put_sections (f : Field) (v : Nat) : (s.put f v).sections = s.sections := rfl
@[simp] theorem Stack.put_fabric (f : Field) (v : Nat) : (s.put f v).fabric = s.fabric := rfl
@[simp] theorem Stack.put_pages (f : Field) (v : Nat) : (s.put f v).pages = s.pages := rfl
@[simp] theorem Stack.put_loader (f : Field) (v : Nat) : (s.put f v).loader = s.loader := rfl
@[simp] theorem Stack.put_turn (f : Field) (v : Nat) : (s.put f v).turn = s.turn := rfl
@[simp] theorem Stack.put_integ (f : Field) (v : Nat) : (s.put f v).integ = s.integ := rfl
@[simp] theorem Stack.put_clk (f : Field) (v : Nat) : (s.put f v).clk = s.clk := rfl
@[simp] theorem Stack.put_engines (f : Field) (v : Nat) : (s.put f v).engines = s.engines := rfl
@[simp] theorem Stack.put_answer (f : Field) (v : Nat) : (s.put f v).answer = s.answer := rfl
@[simp] theorem Stack.put_keys (f : Field) (v : Nat) : (s.put f v).keys = s.keys := rfl
@[simp] theorem Stack.put_rings (f : Field) (v : Nat) : (s.put f v).rings = s.rings := rfl
@[simp] theorem Stack.put_localPorts (f : Field) (v : Nat) : (s.put f v).localPorts = s.localPorts := rfl
@[simp] theorem Stack.put_dma (f : Field) (v : Nat) : (s.put f v).dma = s.dma := rfl
@[simp] theorem Stack.put_lanes (f : Field) (v : Nat) : (s.put f v).lanes = s.lanes := rfl
@[simp] theorem Stack.put_laces (f : Field) (v : Nat) : (s.put f v).laces = s.laces := rfl
@[simp] theorem Stack.put_media (f : Field) (v : Nat) : (s.put f v).media = s.media := rfl
@[simp] theorem Stack.put_pins (f : Field) (v : Nat) : (s.put f v).pins = s.pins := rfl
@[simp] theorem Stack.put_hostif (f : Field) (v : Nat) : (s.put f v).hostif = s.hostif := rfl
@[simp] theorem Stack.put_bist (f : Field) (v : Nat) : (s.put f v).bist = s.bist := rfl
@[simp] theorem Stack.put_jtag (f : Field) (v : Nat) : (s.put f v).jtag = s.jtag := rfl
@[simp] theorem Stack.put_power (f : Field) (v : Nat) : (s.put f v).power = s.power := rfl
@[simp] theorem Stack.put_therm (f : Field) (v : Nat) : (s.put f v).therm = s.therm := rfl
@[simp] theorem Stack.put_pair (f : Field) (v : Nat) : (s.put f v).pair = s.pair := rfl

/-! ## raise changes `regs` alone -/

@[simp] theorem Stack.raise_side (f : Field) : (s.raise f).side = s.side := rfl
@[simp] theorem Stack.raise_build (f : Field) : (s.raise f).build = s.build := rfl
@[simp] theorem Stack.raise_mode (f : Field) : (s.raise f).mode = s.mode := rfl
@[simp] theorem Stack.raise_time (f : Field) : (s.raise f).time = s.time := rfl
@[simp] theorem Stack.raise_freeCount (f : Field) : (s.raise f).freeCount = s.freeCount := rfl
@[simp] theorem Stack.raise_mem (f : Field) : (s.raise f).mem = s.mem := rfl
@[simp] theorem Stack.raise_health (f : Field) : (s.raise f).health = s.health := rfl
@[simp] theorem Stack.raise_sys (f : Field) : (s.raise f).sys = s.sys := rfl
@[simp] theorem Stack.raise_ledger (f : Field) : (s.raise f).ledger = s.ledger := rfl
@[simp] theorem Stack.raise_sections (f : Field) : (s.raise f).sections = s.sections := rfl
@[simp] theorem Stack.raise_fabric (f : Field) : (s.raise f).fabric = s.fabric := rfl
@[simp] theorem Stack.raise_pages (f : Field) : (s.raise f).pages = s.pages := rfl
@[simp] theorem Stack.raise_loader (f : Field) : (s.raise f).loader = s.loader := rfl
@[simp] theorem Stack.raise_turn (f : Field) : (s.raise f).turn = s.turn := rfl
@[simp] theorem Stack.raise_integ (f : Field) : (s.raise f).integ = s.integ := rfl
@[simp] theorem Stack.raise_clk (f : Field) : (s.raise f).clk = s.clk := rfl
@[simp] theorem Stack.raise_engines (f : Field) : (s.raise f).engines = s.engines := rfl
@[simp] theorem Stack.raise_answer (f : Field) : (s.raise f).answer = s.answer := rfl
@[simp] theorem Stack.raise_keys (f : Field) : (s.raise f).keys = s.keys := rfl
@[simp] theorem Stack.raise_rings (f : Field) : (s.raise f).rings = s.rings := rfl
@[simp] theorem Stack.raise_localPorts (f : Field) : (s.raise f).localPorts = s.localPorts := rfl
@[simp] theorem Stack.raise_dma (f : Field) : (s.raise f).dma = s.dma := rfl
@[simp] theorem Stack.raise_lanes (f : Field) : (s.raise f).lanes = s.lanes := rfl
@[simp] theorem Stack.raise_laces (f : Field) : (s.raise f).laces = s.laces := rfl
@[simp] theorem Stack.raise_media (f : Field) : (s.raise f).media = s.media := rfl
@[simp] theorem Stack.raise_pins (f : Field) : (s.raise f).pins = s.pins := rfl
@[simp] theorem Stack.raise_hostif (f : Field) : (s.raise f).hostif = s.hostif := rfl
@[simp] theorem Stack.raise_bist (f : Field) : (s.raise f).bist = s.bist := rfl
@[simp] theorem Stack.raise_jtag (f : Field) : (s.raise f).jtag = s.jtag := rfl
@[simp] theorem Stack.raise_power (f : Field) : (s.raise f).power = s.power := rfl
@[simp] theorem Stack.raise_therm (f : Field) : (s.raise f).therm = s.therm := rfl
@[simp] theorem Stack.raise_pair (f : Field) : (s.raise f).pair = s.pair := rfl

/-! ## bump changes `regs` alone -/

@[simp] theorem Stack.bump_side (f : Field) (n : Nat) : (s.bump f n).side = s.side := rfl
@[simp] theorem Stack.bump_build (f : Field) (n : Nat) : (s.bump f n).build = s.build := rfl
@[simp] theorem Stack.bump_mode (f : Field) (n : Nat) : (s.bump f n).mode = s.mode := rfl
@[simp] theorem Stack.bump_time (f : Field) (n : Nat) : (s.bump f n).time = s.time := rfl
@[simp] theorem Stack.bump_freeCount (f : Field) (n : Nat) : (s.bump f n).freeCount = s.freeCount := rfl
@[simp] theorem Stack.bump_mem (f : Field) (n : Nat) : (s.bump f n).mem = s.mem := rfl
@[simp] theorem Stack.bump_health (f : Field) (n : Nat) : (s.bump f n).health = s.health := rfl
@[simp] theorem Stack.bump_sys (f : Field) (n : Nat) : (s.bump f n).sys = s.sys := rfl
@[simp] theorem Stack.bump_ledger (f : Field) (n : Nat) : (s.bump f n).ledger = s.ledger := rfl
@[simp] theorem Stack.bump_sections (f : Field) (n : Nat) : (s.bump f n).sections = s.sections := rfl
@[simp] theorem Stack.bump_fabric (f : Field) (n : Nat) : (s.bump f n).fabric = s.fabric := rfl
@[simp] theorem Stack.bump_pages (f : Field) (n : Nat) : (s.bump f n).pages = s.pages := rfl
@[simp] theorem Stack.bump_loader (f : Field) (n : Nat) : (s.bump f n).loader = s.loader := rfl
@[simp] theorem Stack.bump_turn (f : Field) (n : Nat) : (s.bump f n).turn = s.turn := rfl
@[simp] theorem Stack.bump_integ (f : Field) (n : Nat) : (s.bump f n).integ = s.integ := rfl
@[simp] theorem Stack.bump_clk (f : Field) (n : Nat) : (s.bump f n).clk = s.clk := rfl
@[simp] theorem Stack.bump_engines (f : Field) (n : Nat) : (s.bump f n).engines = s.engines := rfl
@[simp] theorem Stack.bump_answer (f : Field) (n : Nat) : (s.bump f n).answer = s.answer := rfl
@[simp] theorem Stack.bump_keys (f : Field) (n : Nat) : (s.bump f n).keys = s.keys := rfl
@[simp] theorem Stack.bump_rings (f : Field) (n : Nat) : (s.bump f n).rings = s.rings := rfl
@[simp] theorem Stack.bump_localPorts (f : Field) (n : Nat) : (s.bump f n).localPorts = s.localPorts := rfl
@[simp] theorem Stack.bump_dma (f : Field) (n : Nat) : (s.bump f n).dma = s.dma := rfl
@[simp] theorem Stack.bump_lanes (f : Field) (n : Nat) : (s.bump f n).lanes = s.lanes := rfl
@[simp] theorem Stack.bump_laces (f : Field) (n : Nat) : (s.bump f n).laces = s.laces := rfl
@[simp] theorem Stack.bump_media (f : Field) (n : Nat) : (s.bump f n).media = s.media := rfl
@[simp] theorem Stack.bump_pins (f : Field) (n : Nat) : (s.bump f n).pins = s.pins := rfl
@[simp] theorem Stack.bump_hostif (f : Field) (n : Nat) : (s.bump f n).hostif = s.hostif := rfl
@[simp] theorem Stack.bump_bist (f : Field) (n : Nat) : (s.bump f n).bist = s.bist := rfl
@[simp] theorem Stack.bump_jtag (f : Field) (n : Nat) : (s.bump f n).jtag = s.jtag := rfl
@[simp] theorem Stack.bump_power (f : Field) (n : Nat) : (s.bump f n).power = s.power := rfl
@[simp] theorem Stack.bump_therm (f : Field) (n : Nat) : (s.bump f n).therm = s.therm := rfl
@[simp] theorem Stack.bump_pair (f : Field) (n : Nat) : (s.bump f n).pair = s.pair := rfl

/-! ## bumpWrap changes `regs` alone -/

@[simp] theorem Stack.bumpWrap_side (f : Field) (n : Nat) : (s.bumpWrap f n).side = s.side := rfl
@[simp] theorem Stack.bumpWrap_build (f : Field) (n : Nat) : (s.bumpWrap f n).build = s.build := rfl
@[simp] theorem Stack.bumpWrap_mode (f : Field) (n : Nat) : (s.bumpWrap f n).mode = s.mode := rfl
@[simp] theorem Stack.bumpWrap_time (f : Field) (n : Nat) : (s.bumpWrap f n).time = s.time := rfl
@[simp] theorem Stack.bumpWrap_freeCount (f : Field) (n : Nat) : (s.bumpWrap f n).freeCount = s.freeCount := rfl
@[simp] theorem Stack.bumpWrap_mem (f : Field) (n : Nat) : (s.bumpWrap f n).mem = s.mem := rfl
@[simp] theorem Stack.bumpWrap_health (f : Field) (n : Nat) : (s.bumpWrap f n).health = s.health := rfl
@[simp] theorem Stack.bumpWrap_sys (f : Field) (n : Nat) : (s.bumpWrap f n).sys = s.sys := rfl
@[simp] theorem Stack.bumpWrap_ledger (f : Field) (n : Nat) : (s.bumpWrap f n).ledger = s.ledger := rfl
@[simp] theorem Stack.bumpWrap_sections (f : Field) (n : Nat) : (s.bumpWrap f n).sections = s.sections := rfl
@[simp] theorem Stack.bumpWrap_fabric (f : Field) (n : Nat) : (s.bumpWrap f n).fabric = s.fabric := rfl
@[simp] theorem Stack.bumpWrap_pages (f : Field) (n : Nat) : (s.bumpWrap f n).pages = s.pages := rfl
@[simp] theorem Stack.bumpWrap_loader (f : Field) (n : Nat) : (s.bumpWrap f n).loader = s.loader := rfl
@[simp] theorem Stack.bumpWrap_turn (f : Field) (n : Nat) : (s.bumpWrap f n).turn = s.turn := rfl
@[simp] theorem Stack.bumpWrap_integ (f : Field) (n : Nat) : (s.bumpWrap f n).integ = s.integ := rfl
@[simp] theorem Stack.bumpWrap_clk (f : Field) (n : Nat) : (s.bumpWrap f n).clk = s.clk := rfl
@[simp] theorem Stack.bumpWrap_engines (f : Field) (n : Nat) : (s.bumpWrap f n).engines = s.engines := rfl
@[simp] theorem Stack.bumpWrap_answer (f : Field) (n : Nat) : (s.bumpWrap f n).answer = s.answer := rfl
@[simp] theorem Stack.bumpWrap_keys (f : Field) (n : Nat) : (s.bumpWrap f n).keys = s.keys := rfl
@[simp] theorem Stack.bumpWrap_rings (f : Field) (n : Nat) : (s.bumpWrap f n).rings = s.rings := rfl
@[simp] theorem Stack.bumpWrap_localPorts (f : Field) (n : Nat) : (s.bumpWrap f n).localPorts = s.localPorts := rfl
@[simp] theorem Stack.bumpWrap_dma (f : Field) (n : Nat) : (s.bumpWrap f n).dma = s.dma := rfl
@[simp] theorem Stack.bumpWrap_lanes (f : Field) (n : Nat) : (s.bumpWrap f n).lanes = s.lanes := rfl
@[simp] theorem Stack.bumpWrap_laces (f : Field) (n : Nat) : (s.bumpWrap f n).laces = s.laces := rfl
@[simp] theorem Stack.bumpWrap_media (f : Field) (n : Nat) : (s.bumpWrap f n).media = s.media := rfl
@[simp] theorem Stack.bumpWrap_pins (f : Field) (n : Nat) : (s.bumpWrap f n).pins = s.pins := rfl
@[simp] theorem Stack.bumpWrap_hostif (f : Field) (n : Nat) : (s.bumpWrap f n).hostif = s.hostif := rfl
@[simp] theorem Stack.bumpWrap_bist (f : Field) (n : Nat) : (s.bumpWrap f n).bist = s.bist := rfl
@[simp] theorem Stack.bumpWrap_jtag (f : Field) (n : Nat) : (s.bumpWrap f n).jtag = s.jtag := rfl
@[simp] theorem Stack.bumpWrap_power (f : Field) (n : Nat) : (s.bumpWrap f n).power = s.power := rfl
@[simp] theorem Stack.bumpWrap_therm (f : Field) (n : Nat) : (s.bumpWrap f n).therm = s.therm := rfl
@[simp] theorem Stack.bumpWrap_pair (f : Field) (n : Nat) : (s.bumpWrap f n).pair = s.pair := rfl

/-! ## draw changes `freeCount` alone -/

@[simp] theorem Stack.draw_side : (s.draw).side = s.side := rfl
@[simp] theorem Stack.draw_build : (s.draw).build = s.build := rfl
@[simp] theorem Stack.draw_mode : (s.draw).mode = s.mode := rfl
@[simp] theorem Stack.draw_time : (s.draw).time = s.time := rfl
@[simp] theorem Stack.draw_regs : (s.draw).regs = s.regs := rfl
@[simp] theorem Stack.draw_mem : (s.draw).mem = s.mem := rfl
@[simp] theorem Stack.draw_health : (s.draw).health = s.health := rfl
@[simp] theorem Stack.draw_sys : (s.draw).sys = s.sys := rfl
@[simp] theorem Stack.draw_ledger : (s.draw).ledger = s.ledger := rfl
@[simp] theorem Stack.draw_sections : (s.draw).sections = s.sections := rfl
@[simp] theorem Stack.draw_fabric : (s.draw).fabric = s.fabric := rfl
@[simp] theorem Stack.draw_pages : (s.draw).pages = s.pages := rfl
@[simp] theorem Stack.draw_loader : (s.draw).loader = s.loader := rfl
@[simp] theorem Stack.draw_turn : (s.draw).turn = s.turn := rfl
@[simp] theorem Stack.draw_integ : (s.draw).integ = s.integ := rfl
@[simp] theorem Stack.draw_clk : (s.draw).clk = s.clk := rfl
@[simp] theorem Stack.draw_engines : (s.draw).engines = s.engines := rfl
@[simp] theorem Stack.draw_answer : (s.draw).answer = s.answer := rfl
@[simp] theorem Stack.draw_keys : (s.draw).keys = s.keys := rfl
@[simp] theorem Stack.draw_rings : (s.draw).rings = s.rings := rfl
@[simp] theorem Stack.draw_localPorts : (s.draw).localPorts = s.localPorts := rfl
@[simp] theorem Stack.draw_dma : (s.draw).dma = s.dma := rfl
@[simp] theorem Stack.draw_lanes : (s.draw).lanes = s.lanes := rfl
@[simp] theorem Stack.draw_laces : (s.draw).laces = s.laces := rfl
@[simp] theorem Stack.draw_media : (s.draw).media = s.media := rfl
@[simp] theorem Stack.draw_pins : (s.draw).pins = s.pins := rfl
@[simp] theorem Stack.draw_hostif : (s.draw).hostif = s.hostif := rfl
@[simp] theorem Stack.draw_bist : (s.draw).bist = s.bist := rfl
@[simp] theorem Stack.draw_jtag : (s.draw).jtag = s.jtag := rfl
@[simp] theorem Stack.draw_power : (s.draw).power = s.power := rfl
@[simp] theorem Stack.draw_therm : (s.draw).therm = s.therm := rfl
@[simp] theorem Stack.draw_pair : (s.draw).pair = s.pair := rfl

/-! ## setMark changes `health` alone -/

@[simp] theorem Stack.setMark_side (cw : Nat) (h : Health) : (s.setMark cw h).side = s.side := rfl
@[simp] theorem Stack.setMark_build (cw : Nat) (h : Health) : (s.setMark cw h).build = s.build := rfl
@[simp] theorem Stack.setMark_mode (cw : Nat) (h : Health) : (s.setMark cw h).mode = s.mode := rfl
@[simp] theorem Stack.setMark_time (cw : Nat) (h : Health) : (s.setMark cw h).time = s.time := rfl
@[simp] theorem Stack.setMark_freeCount (cw : Nat) (h : Health) : (s.setMark cw h).freeCount = s.freeCount := rfl
@[simp] theorem Stack.setMark_regs (cw : Nat) (h : Health) : (s.setMark cw h).regs = s.regs := rfl
@[simp] theorem Stack.setMark_mem (cw : Nat) (h : Health) : (s.setMark cw h).mem = s.mem := rfl
@[simp] theorem Stack.setMark_sys (cw : Nat) (h : Health) : (s.setMark cw h).sys = s.sys := rfl
@[simp] theorem Stack.setMark_ledger (cw : Nat) (h : Health) : (s.setMark cw h).ledger = s.ledger := rfl
@[simp] theorem Stack.setMark_sections (cw : Nat) (h : Health) : (s.setMark cw h).sections = s.sections := rfl
@[simp] theorem Stack.setMark_fabric (cw : Nat) (h : Health) : (s.setMark cw h).fabric = s.fabric := rfl
@[simp] theorem Stack.setMark_pages (cw : Nat) (h : Health) : (s.setMark cw h).pages = s.pages := rfl
@[simp] theorem Stack.setMark_loader (cw : Nat) (h : Health) : (s.setMark cw h).loader = s.loader := rfl
@[simp] theorem Stack.setMark_turn (cw : Nat) (h : Health) : (s.setMark cw h).turn = s.turn := rfl
@[simp] theorem Stack.setMark_integ (cw : Nat) (h : Health) : (s.setMark cw h).integ = s.integ := rfl
@[simp] theorem Stack.setMark_clk (cw : Nat) (h : Health) : (s.setMark cw h).clk = s.clk := rfl
@[simp] theorem Stack.setMark_engines (cw : Nat) (h : Health) : (s.setMark cw h).engines = s.engines := rfl
@[simp] theorem Stack.setMark_answer (cw : Nat) (h : Health) : (s.setMark cw h).answer = s.answer := rfl
@[simp] theorem Stack.setMark_keys (cw : Nat) (h : Health) : (s.setMark cw h).keys = s.keys := rfl
@[simp] theorem Stack.setMark_rings (cw : Nat) (h : Health) : (s.setMark cw h).rings = s.rings := rfl
@[simp] theorem Stack.setMark_localPorts (cw : Nat) (h : Health) : (s.setMark cw h).localPorts = s.localPorts := rfl
@[simp] theorem Stack.setMark_dma (cw : Nat) (h : Health) : (s.setMark cw h).dma = s.dma := rfl
@[simp] theorem Stack.setMark_lanes (cw : Nat) (h : Health) : (s.setMark cw h).lanes = s.lanes := rfl
@[simp] theorem Stack.setMark_laces (cw : Nat) (h : Health) : (s.setMark cw h).laces = s.laces := rfl
@[simp] theorem Stack.setMark_media (cw : Nat) (h : Health) : (s.setMark cw h).media = s.media := rfl
@[simp] theorem Stack.setMark_pins (cw : Nat) (h : Health) : (s.setMark cw h).pins = s.pins := rfl
@[simp] theorem Stack.setMark_hostif (cw : Nat) (h : Health) : (s.setMark cw h).hostif = s.hostif := rfl
@[simp] theorem Stack.setMark_bist (cw : Nat) (h : Health) : (s.setMark cw h).bist = s.bist := rfl
@[simp] theorem Stack.setMark_jtag (cw : Nat) (h : Health) : (s.setMark cw h).jtag = s.jtag := rfl
@[simp] theorem Stack.setMark_power (cw : Nat) (h : Health) : (s.setMark cw h).power = s.power := rfl
@[simp] theorem Stack.setMark_therm (cw : Nat) (h : Health) : (s.setMark cw h).therm = s.therm := rfl
@[simp] theorem Stack.setMark_pair (cw : Nat) (h : Health) : (s.setMark cw h).pair = s.pair := rfl

/-! ## writeBytes changes `mem` alone -/

@[simp] theorem Stack.writeBytes_side (a : Nat) (l : List Byte) : (s.writeBytes a l).side = s.side := rfl
@[simp] theorem Stack.writeBytes_build (a : Nat) (l : List Byte) : (s.writeBytes a l).build = s.build := rfl
@[simp] theorem Stack.writeBytes_mode (a : Nat) (l : List Byte) : (s.writeBytes a l).mode = s.mode := rfl
@[simp] theorem Stack.writeBytes_time (a : Nat) (l : List Byte) : (s.writeBytes a l).time = s.time := rfl
@[simp] theorem Stack.writeBytes_freeCount (a : Nat) (l : List Byte) : (s.writeBytes a l).freeCount = s.freeCount := rfl
@[simp] theorem Stack.writeBytes_regs (a : Nat) (l : List Byte) : (s.writeBytes a l).regs = s.regs := rfl
@[simp] theorem Stack.writeBytes_health (a : Nat) (l : List Byte) : (s.writeBytes a l).health = s.health := rfl
@[simp] theorem Stack.writeBytes_sys (a : Nat) (l : List Byte) : (s.writeBytes a l).sys = s.sys := rfl
@[simp] theorem Stack.writeBytes_ledger (a : Nat) (l : List Byte) : (s.writeBytes a l).ledger = s.ledger := rfl
@[simp] theorem Stack.writeBytes_sections (a : Nat) (l : List Byte) : (s.writeBytes a l).sections = s.sections := rfl
@[simp] theorem Stack.writeBytes_fabric (a : Nat) (l : List Byte) : (s.writeBytes a l).fabric = s.fabric := rfl
@[simp] theorem Stack.writeBytes_pages (a : Nat) (l : List Byte) : (s.writeBytes a l).pages = s.pages := rfl
@[simp] theorem Stack.writeBytes_loader (a : Nat) (l : List Byte) : (s.writeBytes a l).loader = s.loader := rfl
@[simp] theorem Stack.writeBytes_turn (a : Nat) (l : List Byte) : (s.writeBytes a l).turn = s.turn := rfl
@[simp] theorem Stack.writeBytes_integ (a : Nat) (l : List Byte) : (s.writeBytes a l).integ = s.integ := rfl
@[simp] theorem Stack.writeBytes_clk (a : Nat) (l : List Byte) : (s.writeBytes a l).clk = s.clk := rfl
@[simp] theorem Stack.writeBytes_engines (a : Nat) (l : List Byte) : (s.writeBytes a l).engines = s.engines := rfl
@[simp] theorem Stack.writeBytes_answer (a : Nat) (l : List Byte) : (s.writeBytes a l).answer = s.answer := rfl
@[simp] theorem Stack.writeBytes_keys (a : Nat) (l : List Byte) : (s.writeBytes a l).keys = s.keys := rfl
@[simp] theorem Stack.writeBytes_rings (a : Nat) (l : List Byte) : (s.writeBytes a l).rings = s.rings := rfl
@[simp] theorem Stack.writeBytes_localPorts (a : Nat) (l : List Byte) : (s.writeBytes a l).localPorts = s.localPorts := rfl
@[simp] theorem Stack.writeBytes_dma (a : Nat) (l : List Byte) : (s.writeBytes a l).dma = s.dma := rfl
@[simp] theorem Stack.writeBytes_lanes (a : Nat) (l : List Byte) : (s.writeBytes a l).lanes = s.lanes := rfl
@[simp] theorem Stack.writeBytes_laces (a : Nat) (l : List Byte) : (s.writeBytes a l).laces = s.laces := rfl
@[simp] theorem Stack.writeBytes_media (a : Nat) (l : List Byte) : (s.writeBytes a l).media = s.media := rfl
@[simp] theorem Stack.writeBytes_pins (a : Nat) (l : List Byte) : (s.writeBytes a l).pins = s.pins := rfl
@[simp] theorem Stack.writeBytes_hostif (a : Nat) (l : List Byte) : (s.writeBytes a l).hostif = s.hostif := rfl
@[simp] theorem Stack.writeBytes_bist (a : Nat) (l : List Byte) : (s.writeBytes a l).bist = s.bist := rfl
@[simp] theorem Stack.writeBytes_jtag (a : Nat) (l : List Byte) : (s.writeBytes a l).jtag = s.jtag := rfl
@[simp] theorem Stack.writeBytes_power (a : Nat) (l : List Byte) : (s.writeBytes a l).power = s.power := rfl
@[simp] theorem Stack.writeBytes_therm (a : Nat) (l : List Byte) : (s.writeBytes a l).therm = s.therm := rfl
@[simp] theorem Stack.writeBytes_pair (a : Nat) (l : List Byte) : (s.writeBytes a l).pair = s.pair := rfl

/-! ## writeByte changes `mem` alone -/

@[simp] theorem Stack.writeByte_side (a : Nat) (v : Byte) : (s.writeByte a v).side = s.side := rfl
@[simp] theorem Stack.writeByte_build (a : Nat) (v : Byte) : (s.writeByte a v).build = s.build := rfl
@[simp] theorem Stack.writeByte_mode (a : Nat) (v : Byte) : (s.writeByte a v).mode = s.mode := rfl
@[simp] theorem Stack.writeByte_time (a : Nat) (v : Byte) : (s.writeByte a v).time = s.time := rfl
@[simp] theorem Stack.writeByte_freeCount (a : Nat) (v : Byte) : (s.writeByte a v).freeCount = s.freeCount := rfl
@[simp] theorem Stack.writeByte_regs (a : Nat) (v : Byte) : (s.writeByte a v).regs = s.regs := rfl
@[simp] theorem Stack.writeByte_health (a : Nat) (v : Byte) : (s.writeByte a v).health = s.health := rfl
@[simp] theorem Stack.writeByte_sys (a : Nat) (v : Byte) : (s.writeByte a v).sys = s.sys := rfl
@[simp] theorem Stack.writeByte_ledger (a : Nat) (v : Byte) : (s.writeByte a v).ledger = s.ledger := rfl
@[simp] theorem Stack.writeByte_sections (a : Nat) (v : Byte) : (s.writeByte a v).sections = s.sections := rfl
@[simp] theorem Stack.writeByte_fabric (a : Nat) (v : Byte) : (s.writeByte a v).fabric = s.fabric := rfl
@[simp] theorem Stack.writeByte_pages (a : Nat) (v : Byte) : (s.writeByte a v).pages = s.pages := rfl
@[simp] theorem Stack.writeByte_loader (a : Nat) (v : Byte) : (s.writeByte a v).loader = s.loader := rfl
@[simp] theorem Stack.writeByte_turn (a : Nat) (v : Byte) : (s.writeByte a v).turn = s.turn := rfl
@[simp] theorem Stack.writeByte_integ (a : Nat) (v : Byte) : (s.writeByte a v).integ = s.integ := rfl
@[simp] theorem Stack.writeByte_clk (a : Nat) (v : Byte) : (s.writeByte a v).clk = s.clk := rfl
@[simp] theorem Stack.writeByte_engines (a : Nat) (v : Byte) : (s.writeByte a v).engines = s.engines := rfl
@[simp] theorem Stack.writeByte_answer (a : Nat) (v : Byte) : (s.writeByte a v).answer = s.answer := rfl
@[simp] theorem Stack.writeByte_keys (a : Nat) (v : Byte) : (s.writeByte a v).keys = s.keys := rfl
@[simp] theorem Stack.writeByte_rings (a : Nat) (v : Byte) : (s.writeByte a v).rings = s.rings := rfl
@[simp] theorem Stack.writeByte_localPorts (a : Nat) (v : Byte) : (s.writeByte a v).localPorts = s.localPorts := rfl
@[simp] theorem Stack.writeByte_dma (a : Nat) (v : Byte) : (s.writeByte a v).dma = s.dma := rfl
@[simp] theorem Stack.writeByte_lanes (a : Nat) (v : Byte) : (s.writeByte a v).lanes = s.lanes := rfl
@[simp] theorem Stack.writeByte_laces (a : Nat) (v : Byte) : (s.writeByte a v).laces = s.laces := rfl
@[simp] theorem Stack.writeByte_media (a : Nat) (v : Byte) : (s.writeByte a v).media = s.media := rfl
@[simp] theorem Stack.writeByte_pins (a : Nat) (v : Byte) : (s.writeByte a v).pins = s.pins := rfl
@[simp] theorem Stack.writeByte_hostif (a : Nat) (v : Byte) : (s.writeByte a v).hostif = s.hostif := rfl
@[simp] theorem Stack.writeByte_bist (a : Nat) (v : Byte) : (s.writeByte a v).bist = s.bist := rfl
@[simp] theorem Stack.writeByte_jtag (a : Nat) (v : Byte) : (s.writeByte a v).jtag = s.jtag := rfl
@[simp] theorem Stack.writeByte_power (a : Nat) (v : Byte) : (s.writeByte a v).power = s.power := rfl
@[simp] theorem Stack.writeByte_therm (a : Nat) (v : Byte) : (s.writeByte a v).therm = s.therm := rfl
@[simp] theorem Stack.writeByte_pair (a : Nat) (v : Byte) : (s.writeByte a v).pair = s.pair := rfl

/-! ## The package -/

variable (p : State) (k j : Side) (t : Stack)

@[simp] theorem State.setStack_build : (p.setStack k t).build = p.build := by cases k <;> rfl
@[simp] theorem State.setStack_pending : (p.setStack k t).pending = p.pending := by cases k <;> rfl
@[simp] theorem State.setStack_stack : (p.setStack k t).stack k = t := by cases k <;> rfl
@[simp] theorem State.setStack_hasSide : (p.setStack k t).hasSide j = p.hasSide j := by cases k <;> cases j <;> rfl
@[simp] theorem State.setStack_self : p.setStack k (p.stack k) = p := by cases k <;> rfl
@[simp] theorem State.setStack_setStack (u : Stack) : (p.setStack k t).setStack k u = p.setStack k u := by cases k <;> rfl

theorem State.setStack_stack_ne (h : k ≠ j) : (p.setStack k t).stack j = p.stack j := by cases k <;> cases j <;> first | rfl | exact absurd rfl h

@[simp] theorem State.stack_recto : p.stack .recto = p.recto := rfl
@[simp] theorem State.stack_verso : p.stack .verso = p.verso := rfl
@[simp] theorem State.hasSide_recto : p.hasSide .recto = true := rfl
@[simp] theorem State.withPending_stack (l : List Instr) : ({ p with pending := l } : State).stack k = p.stack k := by cases k <;> rfl
@[simp] theorem State.withPending_hasSide (l : List Instr) : ({ p with pending := l } : State).hasSide k = p.hasSide k := by cases k <;> rfl

end Sys2Proof.Machine
end

