-- ==== Sys2Proof/Laws/Ops.lean ====
section
/-! SUPPORT. One law for each shared operation: what register fields, memory, marks and stacks hold after it, and what it leaves as it is. -/

namespace Sys2Proof.Machine

variable {s : Stack}

/-! ## Register fields -/

theorem mapGet_mapSet_ne {α : Type} [DecidableEq α] (d d' : α) (m : Sparse α) (n j : Nat) (v : α) (h : n ≠ j) :
    mapGet d' (mapSet d m n v) j = mapGet d' m j := by
  have erase : mapGet d' (mapErase m n) j = mapGet d' m j := mapGet_filter_keep d' _ m j (fun _ => by simp; omega)
  unfold mapSet
  split
  · exact erase
  · rw [mapGet_mapInsert _ _ _ _ _ (mapErase_not_mem m n), if_neg h, erase]

/-- A field reads as the value last written, cut to its width. -/
@[simp] theorem Stack.get_put_same (s : Stack) (f : Field) (v : Nat) : (s.put f v).get f = v % 2 ^ f.width := by
  simp [Stack.get, Stack.put]

/-- A write leaves every other field as it was. -/
theorem Stack.get_put_ne (s : Stack) {f g : Field} (v : Nat) (h : f.key ≠ g.key) : (s.put f v).get g = s.get g :=
  mapGet_mapSet_ne _ _ _ _ _ _ h

/-- What a field reads as after a write, for fields that agree on the reset value where they share a key. -/
theorem Stack.get_put (s : Stack) (f g : Field) (v : Nat) (h : f.key = g.key → f.reset = g.reset) :
    (s.put f v).get g = if f.key = g.key then v % 2 ^ f.width else s.get g := by
  split
  · rename_i hk
    simp [Stack.get, Stack.put, hk, h hk]
  · exact Stack.get_put_ne s v ‹_›

theorem Stack.get_raise_ne (s : Stack) {f g : Field} (h : f.key ≠ g.key) : (s.raise f).get g = s.get g := Stack.get_put_ne s 1 h

@[simp] theorem Stack.get_raise_same (s : Stack) (f : Field) : (s.raise f).get f = 1 % 2 ^ f.width := Stack.get_put_same s f 1

theorem Stack.get_bump_ne (s : Stack) {f g : Field} (n : Nat) (h : f.key ≠ g.key) : (s.bump f n).get g = s.get g :=
  Stack.get_put_ne s _ h

@[simp] theorem Stack.get_bump_same (s : Stack) (f : Field) (n : Nat) :
    (s.bump f n).get f = satAdd f.width (s.get f) n % 2 ^ f.width := Stack.get_put_same s f _

/-- A counter that is within its width saturates at the width's largest value. -/
theorem Stack.get_bump_sat (s : Stack) (f : Field) (n : Nat) : (s.bump f n).get f = Nat.min (s.get f + n) (2 ^ f.width - 1) := by
  rw [Stack.get_bump_same]
  have : 0 < 2 ^ f.width := Nat.two_pow_pos _
  have : satAdd f.width (s.get f) n ≤ 2 ^ f.width - 1 := Nat.min_le_right _ _
  exact Nat.mod_eq_of_lt (by omega)

@[simp] theorem Stack.get_draw (s : Stack) (f : Field) : s.draw.get f = s.get f := rfl
@[simp] theorem Stack.get_setMark (s : Stack) (cw : Nat) (h : Health) (f : Field) : (s.setMark cw h).get f = s.get f := rfl
@[simp] theorem Stack.get_writeBytes (s : Stack) (a : Nat) (l : List Byte) (f : Field) : (s.writeBytes a l).get f = s.get f := rfl

/-- The field file stays in canonical form for what shares no key: an event register keeps the first event and marks the loss of another. -/
theorem Stack.eventReg_lost (s : Stack) (valid lost : Field) (l : List (Field × Nat)) (h : s.flag valid = true) :
    s.eventReg valid lost l = s.raise lost := by simp [Stack.eventReg, h]

/-! ## Memory -/

@[simp] theorem Stack.readByte_writeByte (s : Stack) (a b : Nat) (v : Byte) :
    (s.writeByte a v).readByte b = if a = b then v else s.readByte b := mapGet_mapSet 0 s.mem a b v

theorem mapGet_writeBytesMem (m : List Host.Cell) (a b : Nat) (l : List Byte) :
    mapGet 0 (writeBytesMem m a l) b = if a ≤ b ∧ b < a + l.length then l.getD (b - a) 0 else mapGet 0 m b := by
  induction l generalizing m a with
  | nil => exact (if_neg fun h => by have := h.2; simp only [List.length_nil] at this; omega).symm
  | cons v l ih =>
    simp only [writeBytesMem, ih, mapGet_mapSet, List.length_cons]
    by_cases h : a = b
    · subst h
      rw [if_neg (by omega), if_pos rfl, if_pos (by omega)]
      simp
    · by_cases h' : a + 1 ≤ b ∧ b < a + 1 + l.length
      · rw [if_pos h', if_pos (by omega)]
        obtain ⟨j, hj⟩ : ∃ j, b - a = j + 1 := ⟨b - a - 1, by omega⟩
        rw [hj, List.getD_cons_succ, show b - (a + 1) = j by omega]
      · rw [if_neg h', if_neg h, if_neg (by omega)]

/-- Bytes written are read back; every byte outside them is as it was. -/
theorem Stack.readByte_writeBytes (s : Stack) (a b : Nat) (l : List Byte) :
    (s.writeBytes a l).readByte b = if a ≤ b ∧ b < a + l.length then l.getD (b - a) 0 else s.readByte b :=
  mapGet_writeBytesMem s.mem a b l

@[simp] theorem toBytes_length (n v : Nat) : (toBytes n v).length = n := by
  induction n generalizing v with
  | zero => rfl
  | succ n ih => simp [toBytes, ih]

/-- Bytes written are read back whole. -/
theorem Stack.readBytes_writeBytes (s : Stack) (a : Nat) (l : List Byte) : (s.writeBytes a l).readBytes a l.length = l := by
  apply List.ext_getElem
  · simp [Stack.readBytes]
  · intro i h1 h2
    simp only [Stack.readBytes, List.getElem_map, List.getElem_range]
    rw [Stack.readByte_writeBytes, if_pos (by omega), Nat.add_sub_cancel_left]
    simp [List.getD, h2]

theorem writeBytesMem_wf {m : List Host.Cell} (h : Memory.wf m = true) (a : Nat) (l : List Byte) :
    Memory.wf (writeBytesMem m a l) = true := by
  induction l generalizing m a with
  | nil => exact h
  | cons v l ih => exact ih (mapWf_mapSet 0 h a v) (a + 1)

theorem writeEnabledMem_wf {m : List Host.Cell} (h : Memory.wf m = true) (a : Nat) (l : List (Byte × Bool)) :
    Memory.wf (writeEnabledMem m a l) = true := by
  induction l generalizing m a with
  | nil => exact h
  | cons e l ih =>
    obtain ⟨v, e⟩ := e
    cases e
    · exact ih h (a + 1)
    · exact ih (mapWf_mapSet 0 h a v) (a + 1)

theorem Stack.writeByte_wf (h : Memory.wf s.mem = true) (a : Nat) (v : Byte) : Memory.wf (s.writeByte a v).mem = true :=
  mapWf_mapSet 0 h a v

theorem Stack.writeBytes_wf (h : Memory.wf s.mem = true) (a : Nat) (l : List Byte) : Memory.wf (s.writeBytes a l).mem = true :=
  writeBytesMem_wf h a l

theorem memory_clear_wf {m : List Host.Cell} (h : Memory.wf m = true) (lo n : Nat) : Memory.wf (mapClear m lo n) = true :=
  mapWf_mapClear 0 h lo n

theorem memory_copy_wf {m : List Host.Cell} (h : Memory.wf m = true) (dst : Nat) (src : List Host.Cell) (lo n : Nat) :
    Memory.wf (mapCopy 0 m dst src lo n) = true := mapWf_mapCopy 0 h dst src lo n

/-- The memories of the machine after reset are in canonical form. -/
theorem reset_memoryWf : State.reset.recto.MemoryWf ∧ State.reset.verso.MemoryWf := by
  simp [Stack.MemoryWf, State.reset, Stack.initial, Memory.wf]

/-! ## Bits -/

theorem bit_eq_testBit (v i : Nat) : bit v i = v.testBit i := by
  rw [bit, Nat.testBit, Nat.one_and_eq_mod_two]
  rcases Nat.mod_two_eq_zero_or_one (v >>> i) with h | h <;> rw [h] <;> rfl

theorem bit_or (a b i : Nat) : bit (a ||| b) i = (bit a i || bit b i) := by simp [bit_eq_testBit]

theorem bit_setBit_same (v i : Nat) (b : Bool) : bit (setBit v i b) i = b := by
  unfold setBit
  have h0 := Nat.two_pow_pos i
  cases hb : bit v i <;> cases b <;> simp only [Bool.false_eq_true, if_false, if_true]
  · exact hb
  · rw [bit_eq_testBit] at hb ⊢
    rw [Nat.add_comm, Nat.testBit_two_pow_add_eq, hb]
    rfl
  · rw [bit_eq_testBit] at hb ⊢
    have hge : 2 ^ i ≤ v := Nat.ge_two_pow_of_testBit hb
    have e : v = 2 ^ i + (v - 2 ^ i) := by omega
    rw [e, Nat.testBit_two_pow_add_eq] at hb
    simpa using hb
  · exact hb

/-! ## Marks of codewords -/

@[simp] theorem Stack.mark_setMark (s : Stack) (c d : Nat) (h : Health) : (s.setMark c h).mark d = if c = d then h else s.mark d :=
  mapGet_mapSet _ s.health c d h

/-! ## Stacks of the package -/

theorem State.onStack_present (p : State) {k : Side} (f : Stack → Stack) (h : p.hasSide k = true) :
    p.onStack k f = p.setStack k (f (p.stack k)) := by simp [State.onStack, h]

theorem State.onStack_absent (p : State) {k : Side} (f : Stack → Stack) (h : p.hasSide k = false) : p.onStack k f = p := by
  simp [State.onStack, h]

@[simp] theorem State.onStack_build (p : State) (k : Side) (f : Stack → Stack) : (p.onStack k f).build = p.build := by
  unfold State.onStack
  split <;> simp

@[simp] theorem State.onStack_pending (p : State) (k : Side) (f : Stack → Stack) : (p.onStack k f).pending = p.pending := by
  unfold State.onStack
  split <;> simp

@[simp] theorem State.onBoth_build (p : State) (f : Stack → Stack) : (p.onBoth f).build = p.build := by simp [State.onBoth]

@[simp] theorem State.onBoth_pending (p : State) (f : Stack → Stack) : (p.onBoth f).pending = p.pending := by simp [State.onBoth]

@[simp] theorem State.onStack_hasSide (p : State) (k j : Side) (f : Stack → Stack) : (p.onStack k f).hasSide j = p.hasSide j := by
  unfold State.onStack
  split <;> simp

theorem State.onStack_stack (p : State) {k : Side} (f : Stack → Stack) (h : p.hasSide k = true) :
    (p.onStack k f).stack k = f (p.stack k) := by simp [State.onStack, h]

theorem State.onStack_stack_ne (p : State) {k j : Side} (f : Stack → Stack) (h : k ≠ j) : (p.onStack k f).stack j = p.stack j := by
  unfold State.onStack
  split
  · exact State.setStack_stack_ne p k j _ h
  · rfl

theorem State.KeepsPackage.refl (p : State) : p.KeepsPackage p := ⟨rfl, rfl, fun _ => rfl⟩

theorem State.KeepsPackage.trans {p q r : State} (h : p.KeepsPackage q) (h' : q.KeepsPackage r) : p.KeepsPackage r :=
  ⟨h'.1.trans h.1, h'.2.1.trans h.2.1, fun hb => (h'.2.2 (by rw [h.1]; exact hb)).trans (h.2.2 hb)⟩

/-- Everything that an effect on one stack can do to the package. -/
theorem State.onStack_keeps (p : State) (k : Side) (f : Stack → Stack) : p.KeepsPackage (p.onStack k f) := by
  refine ⟨p.onStack_build k f, p.onStack_pending k f, fun hb => ?_⟩
  cases k with
  | recto => simp [State.onStack, State.setStack]
  | verso => simp [State.onStack, State.hasSide, hb]

theorem State.onBoth_keeps (p : State) (f : Stack → Stack) : p.KeepsPackage (p.onBoth f) :=
  (p.onStack_keeps .recto f).trans (State.onStack_keeps _ .verso f)

/-- A stack replaced that the build has. -/
theorem State.setStack_keeps (p : State) {k : Side} (t : Stack) (h : p.hasSide k = true) : p.KeepsPackage (p.setStack k t) := by
  refine ⟨p.setStack_build k t, p.setStack_pending k t, fun hb => ?_⟩
  cases k with
  | recto => rfl
  | verso => simp [State.hasSide, hb] at h

theorem State.putStack_keeps (p : State) (k : Side) (t : Stack) : p.KeepsPackage (p.putStack k t) := p.onStack_keeps k _

@[simp] theorem State.putStack_build (p : State) (k : Side) (t : Stack) : (p.putStack k t).build = p.build := p.onStack_build k _
@[simp] theorem State.putStack_pending (p : State) (k : Side) (t : Stack) : (p.putStack k t).pending = p.pending := p.onStack_pending k _

theorem State.putStack_stack (p : State) {k : Side} (t : Stack) (h : p.hasSide k = true) : (p.putStack k t).stack k = t :=
  p.onStack_stack _ h

theorem nextStack_keeps {p q : State} {k : Side} {f : Stack → Stack} (h : nextStack p k f = .next q) : p.KeepsPackage q := by
  cases h
  exact p.onStack_keeps k f

theorem nextSide_keeps {p q : State} {k : Side} {f : State → State} (hf : p.hasSide k = true → p.KeepsPackage (f p))
    (h : nextSide p k f = .next q) : p.KeepsPackage q := by
  cases h
  by_cases hk : p.hasSide k = true
  · simpa [hk] using hf hk
  · simpa [hk] using State.KeepsPackage.refl p

end Sys2Proof.Machine
end

