-- ==== Sys2Proof/Laws/Frames.lean ====
section
/-! SUPPORT. Frames: how what an effect may change composes, and what the two stacks of a package become. -/

namespace Sys2Proof.Machine

variable {s t u : Stack} {P Q : List Part} {F G : List Field}

theorem Stack.OnlyChanges.refl (s : Stack) (P : List Part) (F : List Field) : s.OnlyChanges P F s :=
  ⟨rfl, rfl, fun p _ => by cases p <;> rfl, fun _ _ => rfl⟩

theorem Stack.OnlyChanges.trans (h : s.OnlyChanges P F t) (h' : t.OnlyChanges P F u) : s.OnlyChanges P F u := by
  refine ⟨h'.1.trans h.1, h'.2.1.trans h.2.1, fun p hp => ?_, fun f hf => (h'.2.2.2 f hf).trans (h.2.2.2 f hf)⟩
  have a := h.2.2.1 p hp
  have b := h'.2.2.1 p hp
  cases p <;> exact Eq.trans b a

theorem Stack.OnlyChanges.mono (h : s.OnlyChanges P F t) (hp : ∀ p ∈ P, p ∈ Q) (hf : ∀ f ∈ F, f ∈ G) : s.OnlyChanges Q G t :=
  ⟨h.1, h.2.1, fun p h' => h.2.2.1 p fun hm => h' (hp p hm), fun f h' => h.2.2.2 f fun g hg => h' g (hf g hg)⟩

/-- A field write changes that field alone. -/
theorem Stack.put_onlyChanges (s : Stack) {f : Field} (v : Nat) (h : f ∈ F) : s.OnlyChanges P F (s.put f v) :=
  ⟨rfl, rfl, fun p _ => by cases p <;> rfl, fun _ hg => Stack.get_put_ne s v (hg f h)⟩

/-- Field writes change those fields alone. -/
theorem Stack.OnlyChanges.put (h : s.OnlyChanges P F t) {f : Field} (v : Nat) (hf : f ∈ F) : s.OnlyChanges P F (t.put f v) :=
  h.trans (t.put_onlyChanges v hf)

theorem Stack.OnlyChanges.raise (h : s.OnlyChanges P F t) {f : Field} (hf : f ∈ F) : s.OnlyChanges P F (t.raise f) := h.put 1 hf

theorem Stack.OnlyChanges.bump (h : s.OnlyChanges P F t) {f : Field} (n : Nat) (hf : f ∈ F) : s.OnlyChanges P F (t.bump f n) :=
  h.put _ hf

/-- An update that leaves the register file alone leaves every field as it is. -/
theorem Stack.get_of_regs {s t : Stack} (h : t.regs = s.regs) (f : Field) : t.get f = s.get f := by
  unfold Stack.get
  rw [h]

@[simp] theorem Stack.writes_nil (s : Stack) : s.writes [] = s := rfl
@[simp] theorem Stack.writes_cons (s : Stack) (p : Field × Nat) (l : List (Field × Nat)) : s.writes (p :: l) = (s.put p.1 p.2).writes l := rfl

theorem State.onBoth_stack (p : State) {k : Side} (f : Stack → Stack) (h : p.hasSide k = true) :
    (p.onBoth f).stack k = f (p.stack k) := by
  cases k with
  | recto =>
    rw [State.onBoth, State.onStack_stack_ne _ _ (by decide), State.onStack_stack _ _ h]
  | verso =>
    rw [State.onBoth, State.onStack_stack _ _ (by simpa using h), State.onStack_stack_ne _ _ (by decide)]

theorem State.onBoth_recto (p : State) (f : Stack → Stack) : (p.onBoth f).recto = f p.recto := p.onBoth_stack (k := .recto) f rfl

/-- What every stack of the package has. -/
theorem State.every_iff {p : State} {q : Stack → Bool} : p.every q = true ↔ ∀ k, p.hasSide k = true → q (p.stack k) = true := by
  constructor
  · intro h k hk
    cases k <;> simp_all [State.every, State.stack, State.hasSide]
  · intro h
    have h1 := h .recto rfl
    have h2 := h .verso
    simp_all [State.every, State.stack, State.hasSide]
    by_cases hb : p.build = .atlas <;> simp_all

/-- What no stack of the package has. -/
theorem State.anyStack_false {p : State} {q : Stack → Bool} : p.anyStack q = false ↔ ∀ k, p.hasSide k = true → q (p.stack k) = false := by
  constructor
  · intro h k hk
    cases k <;> simp_all [State.anyStack, State.stack, State.hasSide]
  · intro h
    have h1 := h .recto rfl
    have h2 := h .verso
    simp_all [State.anyStack, State.stack, State.hasSide]

/-- The frame of an effect on one stack. -/
theorem State.onStack_onlyChanges (p : State) {k : Side} {f : Stack → Stack} (h : (p.stack k).OnlyChanges P F (f (p.stack k))) :
    p.OnlyChanges k P F (p.onStack k f) := by
  refine ⟨by simp, by simp, fun j hj => State.onStack_stack_ne p f (Ne.symm hj), ?_⟩
  by_cases hk : p.hasSide k = true
  · rw [State.onStack_stack p f hk]
    exact h
  · rw [State.onStack_absent p f (by simpa using hk)]
    exact Stack.OnlyChanges.refl _ _ _

/-- A command that acts on one stack completes when its effect on that stack does. -/
theorem completes_of_onStack {c : Instr} {p : State} {k : Side} {f : Stack → Stack} {post : Stack → Prop}
    (hk : p.hasSide k = true) (he : exec c p = .next (p.onStack k f)) (hf : (p.stack k).OnlyChanges P F (f (p.stack k)))
    (hp : post (f (p.stack k))) : Completes c p k P F post :=
  ⟨_, he, p.onStack_onlyChanges hf, by rw [State.onStack_stack p f hk]; exact hp⟩

/-- A request that no packet carries has its effect and no response packet (R311). -/
theorem Stack.serve_uncarried {s : Stack} {op : Nat} {h : Header} (hu : s.uncarried op h) (f : Stack → Stack) : Stack.serve op h f s = f s := by
  unfold Stack.serve
  rw [hu]

/-- The same of a register request, whose access comes first. -/
theorem State.serveReg_uncarried {s : State} {k : Side} {op : Nat} {h : Header} {f : State → State} (hu : ((f s).stack k).uncarried op h) :
    s.serveReg k op h f = f s := by
  unfold State.serveReg
  dsimp only
  rw [Stack.serve_uncarried hu]
  unfold State.putStack State.onStack
  split
  · cases k <;> rfl
  · rfl

/-- What no step of a fold changes, the fold does not change. -/
theorem foldl_keeps {α β : Type} {q : Stack → α} {f : Stack → β → Stack} (h : ∀ s b, q (f s b) = q s) (l : List β) (s : Stack) :
    q (l.foldl f s) = q s := by
  induction l generalizing s with
  | nil => rfl
  | cons b l ih => exact (ih (f s b)).trans (h s b)

/-- A fold whose every step has a frame has it. -/
theorem foldl_onlyChanges {β : Type} {f : Stack → β → Stack} (h : ∀ (s : Stack) (b : β), s.OnlyChanges P F (f s b)) (l : List β) (s : Stack) :
    s.OnlyChanges P F (l.foldl f s) := by
  induction l generalizing s with
  | nil => exact Stack.OnlyChanges.refl _ _ _
  | cons b l ih => exact (h s b).trans (ih (f s b))

/-! ## Sections changed -/

theorem modSects_only (s : Stack) (l : List Nat) (f : Section → Section) : s.OnlyChanges [.sections] F (s.modSects l f) := by
  unfold Stack.modSects
  induction l generalizing s with
  | nil => exact Stack.OnlyChanges.refl _ _ _
  | cons n l ih =>
    refine Stack.OnlyChanges.trans ?_ (ih (s.modSect n f))
    exact ⟨rfl, rfl, fun p hp => by cases p <;> first | rfl | exact absurd (by simp) hp, fun _ _ => rfl⟩

/-- Sections changed are the stack with another list of sections. -/
theorem modSects_as (s : Stack) (l : List Nat) (f : Section → Section) : s.modSects l f = { s with sections := (s.modSects l f).sections } := by
  unfold Stack.modSects
  induction l generalizing s with
  | nil => rfl
  | cons n l ih => exact ih _

/-- The sections after a change of some sections depend on the sections alone. -/
theorem modSects_sections (s t : Stack) (h : s.sections = t.sections) (l : List Nat) (f : Section → Section) :
    (s.modSects l f).sections = (t.modSects l f).sections := by
  unfold Stack.modSects
  induction l generalizing s t with
  | nil => exact h
  | cons n l ih => exact ih _ _ (by simp [Stack.modSect, Stack.setSect, Stack.sect, h])

/-! ## Events change the ledger alone -/

/-- A change of the ledger is one of that part. -/
theorem Stack.ledger_onlyChanges (s : Stack) (x : Ledger) (h : .ledger ∈ P) : s.OnlyChanges P F { s with ledger := x } :=
  ⟨rfl, rfl, fun p hp => by cases p <;> first | rfl | exact absurd h hp, fun _ _ => rfl⟩

theorem Stack.writeRecord_onlyChanges (s : Stack) (type : Nat) (b : Sparse Nat) (h : .ledger ∈ P) :
    s.OnlyChanges P F (s.writeRecord type b) := s.ledger_onlyChanges _ h

theorem Stack.deviceRecord_onlyChanges (s : Stack) (type : Nat) (b : Sparse Nat) (h : .ledger ∈ P) :
    s.OnlyChanges P F (s.deviceRecord type b) := by
  unfold Stack.deviceRecord
  dsimp only
  split
  · exact (s.ledger_onlyChanges _ h).trans (Stack.writeRecord_onlyChanges _ _ _ h)
  · exact s.ledger_onlyChanges _ h

theorem Stack.flushLedger_onlyChanges (s : Stack) (h : .ledger ∈ P) (hf : LEDGER.PEND_HELD ∈ F) : s.OnlyChanges P F s.flushLedger := by
  unfold Stack.flushLedger
  split
  · exact Stack.OnlyChanges.refl _ _ _
  · split
    · exact s.deviceRecord_onlyChanges _ _ h
    · exact ((s.deviceRecord_onlyChanges _ _ h).trans (Stack.ledger_onlyChanges _ _ h)).put _ hf

/-- Everything that an event can do: the pending buffer, the records and the two counts of PEND (R529). -/
theorem Stack.event_onlyChanges (s : Stack) (e : Event) (h : .ledger ∈ P) (hf : LEDGER.PEND_HELD ∈ F) (hd : LEDGER.PEND_DROPPED ∈ F) :
    s.OnlyChanges P F (s.event e) := by
  unfold Stack.event
  dsimp only
  split
  · exact (Stack.OnlyChanges.refl s P F).bump _ hd
  · have hc := (s.ledger_onlyChanges (P := P) (F := F) { s.ledger with pend := s.ledger.pend ++
      [{ e with turn := s.get TURN.SEQ_LIVE, time := s.time }] } h).put (s.ledger.pend.length + 1) hf
    split
    · exact hc.trans (Stack.flushLedger_onlyChanges _ h hf)
    · exact hc

/-! ## Error events, event registers and marks -/

/-- Everything that an error event can do: the queue, the counts of its source, UE and DROPPED (R370, R371). -/
theorem Stack.errorEvent_onlyChanges (s : Stack) (ue : Bool) (source loc symbol : Nat) (h : .integ ∈ P) (hc : CODE.CE_CNT_COUNT source ∈ F)
    (hu : ue = true → CODE.UE_CNT_COUNT source ∈ F ∧ CODE.INT_UE ∈ F) (hd : CODE.LOG_STATUS_DROPPED ∈ F) :
    s.OnlyChanges P F (s.errorEvent ue source loc symbol) := by
  have key : ∀ t : Stack, s.OnlyChanges P F t → s.OnlyChanges P F (if 64 ≤ t.integ.queue.length then t.raise CODE.LOG_STATUS_DROPPED
      else { t with integ := { t.integ with queue := t.integ.queue ++ [⟨ue, source, loc, symbol⟩] } }) := by
    intro t ht
    split
    · exact ht.raise hd
    · exact ht.trans ⟨rfl, rfl, fun p hp => by cases p <;> first | rfl | exact absurd h hp, fun _ _ => rfl⟩
  unfold Stack.errorEvent
  dsimp only
  cases ue with
  | true => exact key _ (((Stack.OnlyChanges.refl s P F).bump _ (hu rfl).1).raise (hu rfl).2)
  | false => exact key _ ((Stack.OnlyChanges.refl s P F).bump _ hc)

/-- A mark set changes the marks alone. -/
theorem Stack.setMark_onlyChanges (s : Stack) (cw : Nat) (x : Health) (h : .health ∈ P) : s.OnlyChanges P F (s.setMark cw x) :=
  ⟨rfl, rfl, fun p hp => by cases p <;> first | rfl | exact absurd h hp, fun _ _ => rfl⟩

/-- Everything that a checker that meets a codeword can do (R370, R372). -/
theorem Stack.meetCodeword_onlyChanges (s : Stack) (cw source loc : Nat) (h : .integ ∈ P) (hh : .health ∈ P)
    (hc : CODE.CE_CNT_COUNT source ∈ F) (hu : CODE.UE_CNT_COUNT source ∈ F) (hi : CODE.INT_UE ∈ F) (hd : CODE.LOG_STATUS_DROPPED ∈ F) :
    s.OnlyChanges P F (s.meetCodeword cw source loc) := by
  unfold Stack.meetCodeword
  split
  · exact Stack.OnlyChanges.refl _ _ _
  · exact s.errorEvent_onlyChanges _ _ _ _ h hc (fun _ => ⟨hu, hi⟩) hd
  · exact (s.errorEvent_onlyChanges _ _ _ _ h hc (fun _ => ⟨hu, hi⟩) hd).trans (Stack.setMark_onlyChanges _ _ _ hh)
  · exact s.errorEvent_onlyChanges _ _ _ _ h hc (fun _ => ⟨hu, hi⟩) hd

/-- A list of fields put one after the other. -/
theorem Stack.OnlyChanges.puts {s t : Stack} (l : List (Field × Nat)) (h : s.OnlyChanges P F t) (hl : ∀ p ∈ l, p.1 ∈ F) :
    s.OnlyChanges P F (l.foldl (fun s p => s.put p.1 p.2) t) := by
  induction l generalizing t with
  | nil => exact h
  | cons a l ih => exact ih (h.put _ (hl a (by simp))) fun p hp => hl p (by simp [hp])

/-- Everything that an event register can take: its bits VALID and LOST, and its fields (R193, R388). -/
theorem Stack.eventReg_onlyChanges (s : Stack) {valid lost : Field} (l : List (Field × Nat)) (hv : valid ∈ F) (ho : lost ∈ F)
    (hl : ∀ p ∈ l, p.1 ∈ F) : s.OnlyChanges P F (s.eventReg valid lost l) := by
  unfold Stack.eventReg
  split
  · exact (Stack.OnlyChanges.refl s P F).raise ho
  · exact Stack.OnlyChanges.puts l ((Stack.OnlyChanges.refl s P F).raise hv) hl

end Sys2Proof.Machine
end

