-- ==== Sys2Proof/Laws/Memory.lean ====
section
/-! SUPPORT. What the reads and writes of blocks of memory do where no codeword has an error. -/

namespace Sys2Proof.Machine

variable {s : Stack} {P : List Part} {F : List Field}

/-! ## Reads -/

theorem Stack.meetCodeword_ok {cw : Nat} (h : s.mark cw = .ok) (source loc : Nat) : s.meetCodeword cw source loc = s := by
  unfold Stack.meetCodeword
  rw [h]

/-- Codewords without an error are met without an effect (R372). -/
theorem Stack.meetRange_clean {source loc n : Nat} (h : ∀ i < n, s.mark (loc / 16 + i) = .ok) : s.meetRange source loc n = (s, 0) := by
  unfold Stack.meetRange
  have key : ∀ l : List Nat, (∀ i ∈ l, i < n) → l.foldl (fun (r : Stack × Nat) i =>
      (r.1.meetCodeword (loc / 16 + i) source (16 * (loc / 16 + i)), if r.2 = 0 then (s.mark (loc / 16 + i)).status else r.2)) (s, 0) = (s, 0) := by
    intro l hl
    induction l with
    | nil => rfl
    | cons i l ih =>
      have hi := h i (hl i (by simp))
      simp only [List.foldl_cons, hi, Stack.meetCodeword_ok hi]
      exact ih fun j hj => hl j (by simp [hj])
  exact key _ fun i hi => List.mem_range.1 hi

/-- A block without an error is read as the bytes it holds. -/
theorem Stack.readPlain_clean {source loc n : Nat} (h : ∀ i < n / 16, s.mark (loc / 16 + i) = .ok) :
    s.readPlain source loc n = (s, 0, (s.readBytes loc n).map BitVec.toNat) := by
  unfold Stack.readPlain
  rw [Stack.meetRange_clean h]
  rfl

theorem Stack.readBytes_add (s : Stack) (a m n : Nat) : s.readBytes a (m + n) = s.readBytes a m ++ s.readBytes (a + m) n := by
  unfold Stack.readBytes
  rw [List.range_add, List.map_append, List.map_map]
  congr 1
  apply List.map_congr_left
  intro i _
  simp [Nat.add_assoc]

/-- Blocks without an error, each read by `f` as the bytes it holds, are read as the bytes they hold. -/
theorem readBlocks_clean {f : Stack → Nat → Stack × Nat × List Nat} : ∀ (n loc : Nat),
    (∀ j < n, f s (loc + 64 * j) = (s, 0, (s.readBytes (loc + 64 * j) 64).map BitVec.toNat)) →
    readBlocks f n loc s = (s, 0, (s.readBytes loc (64 * n)).map BitVec.toNat)
  | 0, _, _ => rfl
  | n + 1, loc, h => by
    have h0 := h 0 (by omega)
    have ih := readBlocks_clean n (loc + 64) fun j hj => by
      have := h (j + 1) (by omega)
      rw [show loc + 64 * (j + 1) = loc + 64 + 64 * j by omega] at this
      exact this
    simp only [Nat.mul_zero, Nat.add_zero] at h0
    unfold readBlocks
    rw [h0]
    simp only [bne_self_eq_false, Bool.false_eq_true, if_false, ih, if_true]
    rw [show 64 * (n + 1) = 64 + 64 * n by omega, Stack.readBytes_add, List.map_append]

/-! ## Writes -/

/-- What a byte reads as after a write under enables. -/
theorem mapGet_writeEnabledMem : ∀ (l : List (Byte × Bool)) (m : List Host.Cell) (a b : Nat),
    mapGet 0 (writeEnabledMem m a l) b =
      if a ≤ b ∧ b < a + l.length ∧ (l.getD (b - a) (0, false)).2 = true then (l.getD (b - a) (0, false)).1 else mapGet 0 m b
  | [], m, a, b => by
    rw [if_neg (by simp)]
    rfl
  | (v, e) :: t, m, a, b => by
    unfold writeEnabledMem
    rw [mapGet_writeEnabledMem t]
    by_cases h : b = a
    · subst h
      rw [if_neg (fun c => absurd c.1 (by omega))]
      cases e <;> simp
    · by_cases hlt : b < a
      · have h1 : ¬ (a + 1 ≤ b) := by omega
        have h2 : ¬ (a ≤ b) := by omega
        simp only [h1, h2, false_and, if_false]
        cases e
        · rfl
        · simp only [if_true, mapGet_mapSet]
          rw [if_neg (by omega)]
      · have hg : ((v, e) :: t).getD (b - a) ((0 : Byte), false) = t.getD (b - (a + 1)) ((0 : Byte), false) := by
          rw [show b - a = (b - (a + 1)) + 1 by omega]
          rfl
        have hm : mapGet 0 (if e = true then mapSet 0 m a v else m) b = mapGet 0 m b := by
          cases e
          · rfl
          · simp only [if_true, mapGet_mapSet]
            rw [if_neg (by omega)]
        rw [hg, hm]
        have : (a + 1 ≤ b ∧ b < a + 1 + t.length ∧ (t.getD (b - (a + 1)) ((0 : Byte), false)).2 = true) ↔
            (a ≤ b ∧ b < a + ((v, e) :: t).length ∧ (t.getD (b - (a + 1)) ((0 : Byte), false)).2 = true) := by
          simp only [List.length_cons]
          constructor <;> rintro ⟨h1, h2, h3⟩ <;> exact ⟨by omega, by omega, h3⟩
        simp only [this]

theorem writeEnabledMem_append : ∀ (l l' : List (Byte × Bool)) (m : List Host.Cell) (a : Nat),
    writeEnabledMem m a (l ++ l') = writeEnabledMem (writeEnabledMem m a l) (a + l.length) l'
  | [], _, _, _ => rfl
  | (v, e) :: t, l', m, a => by
    simp only [List.cons_append, writeEnabledMem, writeEnabledMem_append t l']
    rw [show a + 1 + t.length = a + ((v, e) :: t).length by simp only [List.length_cons]; omega]

/-- A codeword without an error keeps its mark at a write that carries no poison and that no injection waits for. -/
theorem Stack.markWrite_clean {cw : Nat} (h : s.mark cw = .ok) (hi : s.flag CODE.INJECT_ARM = false) (full : Bool) :
    s.markWrite cw full false = s.setMark cw .ok := by
  unfold Stack.markWrite Stack.injects
  rw [hi, Stack.meetCodeword_ok h, h]
  cases full <;> rfl

/-- What a write of blocks leaves: the bytes of memory, and every mark as it was. -/
structure Stack.WroteTo (s : Stack) (m : List Host.Cell) (t : Stack) : Prop where
  frame : s.OnlyChanges [.mem, .health] [] t
  mem : t.mem = m
  marks : ∀ c, t.mark c = s.mark c

/-- A block without an error is written under its enables, and every mark stays. -/
theorem Stack.writePlain_clean {loc : Nat} (data : List (Nat × Bool)) (h : ∀ i < data.length / 16, s.mark (loc / 16 + i) = .ok)
    (hi : s.flag CODE.INJECT_ARM = false) :
    s.WroteTo (writeEnabledMem s.mem loc (data.map fun p => (BitVec.ofNat 8 p.1, p.2))) (s.writePlain loc data 0) := by
  unfold Stack.writePlain
  generalize writeEnabledMem s.mem loc (data.map fun p => (BitVec.ofNat 8 p.1, p.2)) = m
  have key : ∀ (l : List Nat), (∀ i ∈ l, i < data.length / 16) → ∀ t : Stack, s.WroteTo m t → s.WroteTo m (l.foldl (fun s i =>
      let e := ((data.drop (16 * i)).take 16).map (·.2)
      if e.any id then s.markWrite (loc / 16 + i) (e.all id) (bit 0 i) else s) t) := by
    intro l
    induction l with
    | nil => intro _ t ht; exact ht
    | cons i l ih =>
      intro hl t ht
      simp only [List.foldl_cons]
      refine ih (fun j hj => hl j (by simp [hj])) _ ?_
      have hc := h i (hl i (by simp))
      split
      · have hb : bit 0 i = false := by simp [bit]
        have hf : t.flag CODE.INJECT_ARM = false := by
          unfold Stack.flag at *
          rw [ht.frame.2.2.2 _ (by simp)]
          exact hi
        rw [hb, Stack.markWrite_clean ((ht.marks _).trans hc) hf]
        refine ⟨ht.frame.trans (Stack.setMark_onlyChanges _ _ _ (by simp)), ht.mem, fun c => ?_⟩
        rw [Stack.mark_setMark]
        split
        · rename_i e; rw [← e, hc]
        · exact ht.marks c
      · exact ht
  refine key _ (fun i hi => List.mem_range.1 hi) _ ⟨?_, rfl, fun _ => rfl⟩
  exact ⟨rfl, rfl, fun p hp => by cases p <;> first | rfl | exact absurd (by simp) hp, fun _ _ => rfl⟩

/-- Blocks without an error, written one after the other. -/
theorem writeBlocks_clean : ∀ (fl : List (List (Nat × Bool))) (loc : Nat) (s : Stack), (∀ d ∈ fl, d.length = 64) →
    (∀ i < 4 * fl.length, s.mark (loc / 16 + i) = .ok) → s.flag CODE.INJECT_ARM = false →
    (writeBlocks (fun t l d p => (t.writePlain l d p, 0)) fl loc 0 s).2 = 0 ∧
    s.WroteTo (writeEnabledMem s.mem loc (fl.flatten.map fun p => (BitVec.ofNat 8 p.1, p.2)))
      (writeBlocks (fun t l d p => (t.writePlain l d p, 0)) fl loc 0 s).1
  | [], loc, s, _, _, _ => ⟨rfl, Stack.OnlyChanges.refl _ _ _, rfl, fun _ => rfl⟩
  | d :: fl, loc, s, hl, hm, hi => by
    have hd := hl d (by simp)
    have w := s.writePlain_clean (loc := loc) d (fun i h => hm i (by simp only [List.length_cons]; omega)) hi
    obtain ⟨h1, h2⟩ := writeBlocks_clean fl (loc + 64) (s.writePlain loc d 0) (fun x hx => hl x (by simp [hx]))
      (fun i h => by
        rw [w.marks, show (loc + 64) / 16 + i = loc / 16 + (4 + i) by omega]
        exact hm _ (by simp only [List.length_cons]; omega))
      (by unfold Stack.flag at *; rw [w.frame.2.2.2 _ (by simp)]; exact hi)
    unfold writeBlocks
    simp only [Nat.zero_mod, Nat.zero_div, if_true]
    refine ⟨h1, w.frame.trans h2.frame, ?_, fun c => (h2.marks c).trans (w.marks c)⟩
    rw [h2.mem, w.mem, List.flatten_cons, List.map_append, writeEnabledMem_append, List.length_map, hd]

/-- The flits of a write, one byte after the other. -/
theorem writeFlits_flatten (data : List Nat) (beFirst beLast : Nat) :
    (writeFlits data beFirst beLast).flatten = (List.range (64 * (data.length / 64))).map fun i =>
      (data.getD i 0, if i / 64 = 0 then bit beFirst (i % 64) else if i / 64 + 1 = data.length / 64 then bit beLast (i % 64) else true) := by
  unfold writeFlits
  generalize data.length / 64 = m
  dsimp only
  have key : ∀ n : Nat, ((List.range n).map fun f => (List.range 64).map fun i =>
      (data.getD (64 * f + i) 0, if f = 0 then bit beFirst i else if f + 1 = m then bit beLast i else true)).flatten =
      (List.range (64 * n)).map fun i =>
      (data.getD i 0, if i / 64 = 0 then bit beFirst (i % 64) else if i / 64 + 1 = m then bit beLast (i % 64) else true) := by
    intro n
    induction n with
    | zero => rfl
    | succ n ih =>
      rw [List.range_succ (n := n), List.map_append (l₁ := List.range n), List.flatten_append, ih, show 64 * (n + 1) = 64 * n + 64 by omega, List.range_add,
        List.map_append, List.map_map]
      congr 1
      simp only [List.map_cons, List.map_nil, List.flatten_cons, List.flatten_nil, List.append_nil]
      apply List.map_congr_left
      intro i hi
      have := List.mem_range.1 hi
      simp only [Function.comp]
      rw [show (64 * n + i) / 64 = n by omega, show (64 * n + i) % 64 = i by omega]
  exact key m

theorem writeFlits_length (data : List Nat) (beFirst beLast : Nat) :
    (writeFlits data beFirst beLast).length = data.length / 64 ∧ ∀ d ∈ writeFlits data beFirst beLast, d.length = 64 := by
  unfold writeFlits
  refine ⟨by simp, fun d hd => ?_⟩
  obtain ⟨f, _, rfl⟩ := List.mem_map.1 hd
  simp

/-! ## Requests to the commons -/

/-- A READ of clean codewords of the commons (R312, R354, R372). -/
theorem Stack.ringRead_commons {h : Header} (hr : h.reserved = false) (ho : h.rot = false) (ht : targetOf (h.addr % 2 ^ 44) = .commons)
    (hm : ∀ i < 4 * h.rlen, s.mark (h.addr % 2 ^ 44 / 16 + i) = .ok) :
    s.ringRead h = (s.countFlits false (h.addr % 2 ^ 44) h.rlen).answered 0 ((s.readBytes (h.addr % 2 ^ 44) (64 * h.rlen)).map BitVec.toNat) := by
  have e := readBlocks_clean (s := s) (f := fun t l => t.readPlain 2 l 64) h.rlen (h.addr % 2 ^ 44) fun j hj =>
    Stack.readPlain_clean fun i hi => by
      rw [show (h.addr % 2 ^ 44 + 64 * j) / 16 + i = h.addr % 2 ^ 44 / 16 + (4 * j + i) by omega]
      exact hm _ (by omega)
  unfold Stack.ringRead
  rw [hr]
  simp only [Bool.false_eq_true, if_false, ht, ho, e]

/-- A write of clean codewords of the commons: what it leaves before its flits are counted (R312, R354). -/
theorem Stack.writeTarget_commons {h : Header} {data : List Nat} (hr : h.reserved = false) (ho : h.rot = false)
    (ht : targetOf (h.addr % 2 ^ 44) = .commons) (hw : s.writesIgnored h.src = false) (hi : s.flag CODE.INJECT_ARM = false)
    (hm : ∀ i < 4 * (data.length / 64), s.mark (h.addr % 2 ^ 44 / 16 + i) = .ok) :
    ∃ v, s.writeTarget h data 0 = (v.countFlits true (h.addr % 2 ^ 44) (data.length / 64), 0) ∧
      s.WroteTo (writeEnabledMem s.mem (h.addr % 2 ^ 44) ((writeFlits data h.beFirst h.beLast).flatten.map fun p => (BitVec.ofNat 8 p.1, p.2))) v := by
  obtain ⟨hl, hd⟩ := writeFlits_length data h.beFirst h.beLast
  obtain ⟨h0, h1⟩ := writeBlocks_clean (writeFlits data h.beFirst h.beLast) (h.addr % 2 ^ 44) s hd (by rw [hl]; exact hm) hi
  refine ⟨_, ?_, h1⟩
  unfold Stack.writeTarget
  rw [hr, ho]
  simp only [Bool.false_and, Bool.or_self, Bool.false_eq_true, if_false, ht, hw]
  rw [h0, hl]

end Sys2Proof.Machine
end

