-- ==== Sys2Proof/Laws/Dma.lean ====
section
/-! SUPPORT. What the DMA engine's requests do in the commons, where no codeword has an error. -/

namespace Sys2Proof.Machine

variable {s : Stack}

/-- Words stored one after the other: what an index holds. -/
theorem mapGet_putWords : ∀ (l : List Nat) (m : Sparse Nat) (i j : Nat),
    mapGet 0 (putWords m i l) j = if i ≤ j ∧ j < i + l.length then l.getD (j - i) 0 else mapGet 0 m j
  | [], m, i, j => by
    rw [if_neg (fun h => absurd h.2 (by simpa using h.1))]
    rfl
  | w :: l, m, i, j => by
    unfold putWords
    rw [mapGet_putWords l, mapGet_mapSet]
    by_cases h : j = i
    · subst h
      rw [if_neg (by omega), if_pos rfl, if_pos (by simp)]
      simp
    · rw [if_neg (Ne.symm h)]
      by_cases hc : i + 1 ≤ j ∧ j < i + 1 + l.length
      · rw [if_pos hc, if_pos (by simp only [List.length_cons]; omega), show j - i = (j - (i + 1)) + 1 by omega]
        rfl
      · rw [if_neg hc, if_neg (by simp only [List.length_cons]; omega)]

/-- The interface answers no access to whole blocks of the commons with ERROR (R308, R341). -/
theorem Stack.interfaceError_commons (s : Stack) {op : Nat} {h : Header} (ha : h.addr < 2 ^ 44) (ht : targetOf h.addr = .commons)
    (h64 : h.addr % 64 = 0) (hn : h.addr % 1024 + 64 * (if op = 1 then h.rlen else h.len) ≤ 1024) : s.interfaceError op h = false := by
  unfold Stack.interfaceError
  dsimp only
  have e1 : h.addr % 2 ^ 44 = h.addr := Nat.mod_eq_of_lt ha
  have e2 : h.addr / 2 ^ 44 % 16 = 0 := by omega
  rw [e1, e2, ht, h64]
  have e3 : decide (1024 < h.addr % 1024 / 64 * 64 + 64 * (if op = 1 then h.rlen else h.len)) = false := by
    rw [decide_eq_false_iff_not]
    omega
  rw [e3]
  simp [show (Target.commons == Target.none) = false from rfl, show (Target.commons == Target.store) = false from rfl,
    show (Target.commons == Target.leaf) = false from rfl, show (Target.commons == Target.engine) = false from rfl,
    show (Target.commons == Target.fabric) = false from rfl, show (Target.commons == Target.regs) = false from rfl]

/-- The engine reads clean blocks of the commons (R395). -/
theorem Stack.dmaRead_commons {a n : Nat} (d : List Nat) (ha : a < 2 ^ 44) (ht : targetOf a = .commons) (h64 : a % 64 = 0)
    (hn : a % 1024 + 64 * n ≤ 1024) (hm : ∀ i < 4 * n, s.mark (a / 16 + i) = .ok) :
    s.dmaRead a n 0 d = (s.bumpWrap (COMN.RD_FLITS (commonsPort a)) n, 0, (s.readBytes a (64 * n)).map BitVec.toNat) := by
  unfold Stack.dmaRead
  dsimp only
  rw [Stack.interfaceError_commons s (h := { src := 10, tag := 0, rlen := n, addr := a }) ha ht h64 (by simpa using hn)]
  have e1 : a % 2 ^ 44 = a := Nat.mod_eq_of_lt ha
  have e := Stack.ringRead_commons (s := s) (h := { src := 10, tag := 0, rlen := n, addr := a }) rfl rfl (by rw [e1]; exact ht)
    (by rw [e1]; exact hm)
  rw [e1] at e
  rw [e]
  have ec : s.countFlits false a n = s.bumpWrap (COMN.RD_FLITS (commonsPort a)) n := by
    unfold Stack.countFlits
    rw [ht]
    rfl
  rw [ec]
  rfl

/-- A bit of the byte enables of a run of bytes. -/
theorem bit_enables (x y b : Nat) : bit ((2 ^ y - 1) / 2 ^ x * 2 ^ x) b = decide (x ≤ b ∧ b < y) := by
  rw [bit_eq_testBit, Nat.testBit_mul_two_pow]
  by_cases h : x ≤ b
  · rw [Nat.testBit_div_two_pow, Nat.testBit_two_pow_sub_one, show b - x + x = b by omega]
    simp [h]
  · simp [h]

/-- The engine writes bytes of the commons in clean codewords (R394, R395). -/
theorem Stack.dmaWrite_commons {a : Nat} {l : List Nat} (hl : l ≠ []) (ha : a < 2 ^ 44) (ht : targetOf (a / 64 * 64) = .commons)
    (hn : a % 1024 + l.length ≤ 1024) (hm : ∀ i < 4 * ((a % 64 + l.length + 63) / 64), s.mark (a / 64 * 64 / 16 + i) = .ok)
    (hi : s.flag CODE.INJECT_ARM = false) :
    ∃ u, s.dmaWrite a l 0 = (u.bumpWrap (COMN.WR_FLITS (commonsPort (a / 64 * 64))) ((a % 64 + l.length + 63) / 64), 0) ∧
      s.OnlyChanges [.mem, .health] [] u ∧ (∀ c, u.mark c = s.mark c) ∧
      ∀ p, u.readByte p = if a ≤ p ∧ p < a + l.length then BitVec.ofNat 8 (l.getD (p - a) 0) else s.readByte p := by
  have hpos : 0 < l.length := List.length_pos_iff.2 hl
  have haa : a - a % 64 = a / 64 * 64 := by omega
  have hq : a / 64 * 64 < 2 ^ 44 := Nat.lt_of_le_of_lt (Nat.div_mul_le_self a 64) ha
  have hr : a / 64 * 64 % 64 = 0 := by omega
  have e1 : a / 64 * 64 % 2 ^ 44 = a / 64 * 64 := Nat.mod_eq_of_lt hq
  generalize hnn : (a % 64 + l.length + 63) / 64 = n at hm ⊢
  generalize htl : (a % 64 + l.length - 1) % 64 + 1 = tl
  generalize hw : List.replicate (a % 64) 0 ++ l ++ List.replicate (64 * n - a % 64 - l.length) 0 = w
  have hwl : w.length = 64 * n := by
    rw [← hw]
    simp only [List.length_append, List.length_replicate]
    omega
  have hw64 : w.length / 64 = n := by omega
  have hg : ∀ j, a % 64 ≤ j → j < a % 64 + l.length → w.getD j 0 = l.getD (j - a % 64) 0 := by
    intro j h1 h2
    rw [← hw, List.getD_eq_getElem?_getD, List.getElem?_append_left (by simp; omega),
      List.getElem?_append_right (by simpa using h1), List.length_replicate, List.getD_eq_getElem?_getD]
  generalize hf : (if n = 1 then (2 ^ tl - 1) / 2 ^ (a % 64) * 2 ^ (a % 64) else (2 ^ 64 - 1) / 2 ^ (a % 64) * 2 ^ (a % 64)) = first
  have hfb : ∀ b < 64, bit first b = decide (a % 64 ≤ b ∧ (n = 1 → b < tl)) := by
    intro b hb
    rw [← hf]
    split
    · rename_i h
      rw [bit_enables]
      simp [h]
    · rename_i h
      rw [bit_enables]
      simp [h, hb]
  obtain ⟨u, eu, wu⟩ := Stack.writeTarget_commons (s := s)
    (h := { src := 10, tag := 0, len := n, addr := a / 64 * 64, beFirst := first, beLast := (2 ^ tl - 1) / 2 ^ 0 * 2 ^ 0 })
    (data := w) rfl rfl (by rw [e1]; exact ht) (by simp [Stack.writesIgnored]) hi (by rw [e1, hw64]; exact hm)
  rw [e1, hw64] at eu
  rw [e1] at wu
  have ec : u.countFlits true (a / 64 * 64) n = u.bumpWrap (COMN.WR_FLITS (commonsPort (a / 64 * 64))) n := by
    unfold Stack.countFlits
    rw [ht]
    rfl
  refine ⟨u, ?_, wu.frame, wu.marks, fun p => ?_⟩
  · unfold Stack.dmaWrite
    dsimp only
    rw [hnn, haa, htl, hw, hf]
    have hs : a / 64 * 64 % 1024 + 64 * n ≤ 1024 := by omega
    rw [Stack.interfaceError_commons s (op := 2) (h := { src := 10, tag := 0, len := n, addr := a / 64 * 64, beFirst := _, beLast := _ }) hq ht hr hs]
    simp only [Bool.false_eq_true, if_false, ne_eq, not_true]
    rw [eu, ec]
    have : u.answer = s.answer := wu.frame.2.2.1 .answer (by simp)
    have e2 : ({ (u.bumpWrap (COMN.WR_FLITS (commonsPort (a / 64 * 64))) n) with answer := s.answer } : Stack) =
        u.bumpWrap (COMN.WR_FLITS (commonsPort (a / 64 * 64))) n := by
      rw [← this]
      rfl
    rw [e2]
    rfl
  · unfold Stack.readByte
    rw [wu.mem, writeFlits_flatten, List.map_map, mapGet_writeEnabledMem]
    simp only [List.length_map, List.length_range, hw64]
    by_cases hp : a / 64 * 64 ≤ p ∧ p < a / 64 * 64 + 64 * n
    · rw [List.getD_eq_getElem?_getD, List.getElem?_map, List.getElem?_range (by omega)]
      simp only [Function.comp, Option.map_some, Option.getD_some]
      rw [hfb _ (Nat.mod_lt _ (by decide)), bit_enables]
      generalize hj : p - a / 64 * 64 = j
      have hen : ((if j / 64 = 0 then decide (a % 64 ≤ j % 64 ∧ (n = 1 → j % 64 < tl)) else if j / 64 + 1 = n then decide (0 ≤ j % 64 ∧ j % 64 < tl) else true) = true) ↔
          (a ≤ p ∧ p < a + l.length) := by
        split
        · rw [decide_eq_true_iff]
          omega
        · split
          · rw [decide_eq_true_iff]
            omega
          · simp only [true_iff]
            omega
      by_cases hc : a ≤ p ∧ p < a + l.length
      · rw [if_pos ⟨hp.1, hp.2, hen.2 hc⟩, if_pos hc, hg j (by omega) (by omega), show j - a % 64 = p - a by omega]
      · rw [if_neg (fun h => hc (hen.1 h.2.2)), if_neg hc]
    · rw [if_neg (fun h => hp ⟨h.1, h.2.1⟩), if_neg (by omega)]

/-- The engine writes one byte of the commons in a clean codeword (R394, R395). -/
theorem Stack.dmaWrite_byte {a v : Nat} (ha : a < 2 ^ 44) (ht : targetOf (a / 64 * 64) = .commons)
    (hm : ∀ i < 4, s.mark (a / 64 * 64 / 16 + i) = .ok) (hi : s.flag CODE.INJECT_ARM = false) :
    ∃ u, s.dmaWrite a [v] 0 = (u.bumpWrap (COMN.WR_FLITS (commonsPort (a / 64 * 64))) 1, 0) ∧
      s.OnlyChanges [.mem, .health] [] u ∧ (∀ c, u.mark c = s.mark c) ∧
      ∀ p, u.readByte p = if p = a then BitVec.ofNat 8 v else s.readByte p := by
  have hn : (a % 64 + [v].length + 63) / 64 = 1 := by simp only [List.length_singleton]; omega
  obtain ⟨u, h1, h2, h3, h4⟩ := Stack.dmaWrite_commons (s := s) (a := a) (l := [v]) (by simp) ha ht
    (by simp only [List.length_singleton]; omega) (by rw [hn]; exact hm) hi
  rw [hn] at h1
  refine ⟨u, h1, h2, h3, fun p => ?_⟩
  rw [h4 p]
  simp only [List.length_singleton]
  by_cases h : p = a
  · subst h
    rw [if_pos ⟨by omega, by omega⟩, if_pos rfl, Nat.sub_self]
    rfl
  · rw [if_neg (by omega), if_neg h]

end Sys2Proof.Machine
end

