-- ==== Sys2Proof/Laws/Fe.lean ====
section
/-! SUPPORT. The pipeline of a filter engine, once: what an instruction issued with nothing ahead of it has done after the three cycles
that bring it to its end (R262). -/

namespace Sys2Proof.Machine

variable {s t u : Stack} {i n : Nat}

@[simp] theorem Stack.engine_setEngine (s : Stack) (i n : Nat) (e : Engine) : (s.setEngine i n e).engine i n = e := by
  simp [Stack.engine, Stack.setEngine]

theorem Stack.engine_setEngine_ne (s : Stack) {i n j m : Nat} (e : Engine) (h : 192 * j + m ≠ 192 * i + n) :
    (s.setEngine i n e).engine j m = s.engine j m := by
  unfold Stack.engine Stack.setEngine
  exact mapGet_mapSet_ne _ _ _ _ _ _ (Ne.symm h)

@[simp] theorem Engine.bank_modBank (e : Engine) (sh : Bool) (f : FeBank → FeBank) : (e.modBank sh f).bank sh = f (e.bank sh) := by
  cases sh <;> rfl

theorem Engine.bank_modBank_ne (e : Engine) (sh : Bool) (f : FeBank → FeBank) : (e.modBank sh f).bank (!sh) = e.bank (!sh) := by
  cases sh <;> rfl

/-- Two stacks that differ in nothing a program of engine n of layer i can see. -/
structure Twin (i n : Nat) (s t : Stack) : Prop where
  rest : t = { s with engines := t.engines, freeCount := t.freeCount }
  others : ∀ j m, 192 * j + m ≠ 192 * i + n → t.engine j m = s.engine j m
  seen : (t.engine i n).visible = (s.engine i n).visible

theorem Twin.refl (s : Stack) : Twin i n s s := ⟨rfl, fun _ _ _ => rfl, rfl⟩

theorem Twin.trans (h : Twin i n s t) (h' : Twin i n t u) : Twin i n s u :=
  ⟨by rw [h'.rest, h.rest], fun j m hj => (h'.others j m hj).trans (h.others j m hj), h'.seen.trans h.seen⟩

/-- An engine changed where no program sees it. -/
theorem Twin.set (h : Twin i n s t) {e : Engine} (he : e.visible = (t.engine i n).visible) : Twin i n s (t.setEngine i n e) :=
  ⟨by rw [h.rest]; rfl, fun j m hj => (Stack.engine_setEngine_ne t e hj).trans (h.others j m hj), by simp [he, h.seen]⟩

theorem Twin.calm (h : Twin i n s t) : (t.engine i n).interrupts = (s.engine i n).interrupts := (congrArg Engine.interrupts h.seen :)

theorem Twin.draw (h : Twin i n s t) : Twin i n s t.draw := ⟨by rw [Stack.draw, h.rest], h.others, h.seen⟩

/-- What a program sees of an engine that is equal is equal. -/
theorem Engine.visible_bank {e f : Engine} (h : e.visible = f.visible) (sh : Bool) : (e.bank sh).visible = (f.bank sh).visible := by
  cases sh
  · exact congrArg Engine.main h
  · exact congrArg Engine.shad h

/-! ## What a program sees, through each effect -/

theorem FeBank.accEach_visible (hs : List Nat) (f : Nat → Nat → Nat × Bool) (b : FeBank) :
    (b.accEach hs f).visible = b.visible.accEach hs f := by
  unfold FeBank.accEach
  induction hs generalizing b with
  | nil => rfl
  | cons h hs ih => exact ih _

theorem FeBank.accClear_visible (hs : List Nat) (b : FeBank) : (b.accClear hs).visible = b.visible.accClear hs := by
  unfold FeBank.accClear
  induction hs generalizing b with
  | nil => rfl
  | cons h hs ih => exact ih _

/-- Stage W writes what a program sees by what a program sees. -/
theorem FeBank.writeBack_visible (b : FeBank) (x : FeSlot) : (b.writeBack x).visible = b.visible.writeBack x := by
  unfold FeBank.writeBack
  split
  all_goals first
    | with_reducible exact FeBank.accEach_visible _ _ b
    | with_reducible exact FeBank.accClear_visible _ b
    | (with_reducible dsimp only
       split
       · with_reducible exact FeBank.accClear_visible _ _
       · rfl)
    | (with_reducible dsimp only
       split <;> rfl)
    | rfl

/-- The places of a bank in the pipeline, which stage W does not touch. -/
def FeBank.stages (b : FeBank) : Option FeSlot × Option FeSlot × Option FeSlot × Bool × List FeLevel :=
  (b.o, b.e, b.w, b.halting, b.levels)

theorem FeBank.accEach_stages (hs : List Nat) (f : Nat → Nat → Nat × Bool) (b : FeBank) : (b.accEach hs f).stages = b.stages := by
  unfold FeBank.accEach
  induction hs generalizing b with
  | nil => rfl
  | cons h hs ih => exact ih _

theorem FeBank.accClear_stages (hs : List Nat) (b : FeBank) : (b.accClear hs).stages = b.stages := by
  unfold FeBank.accClear
  induction hs generalizing b with
  | nil => rfl
  | cons h hs ih => exact ih _

theorem FeBank.writeBack_stages (b : FeBank) (x : FeSlot) : (b.writeBack x).stages = b.stages := by
  unfold FeBank.writeBack
  split
  all_goals first
    | with_reducible exact FeBank.accEach_stages _ _ b
    | with_reducible exact FeBank.accClear_stages _ b
    | (with_reducible dsimp only
       split
       · with_reducible exact FeBank.accClear_stages _ _
       · rfl)
    | (with_reducible dsimp only
       split <;> rfl)
    | rfl

/-! ## Equal to a program, equal in what an instruction reads and does -/

theorem Twin.mem (h : Twin i n s t) : t.mem = s.mem := by rw [h.rest]
theorem Twin.health (h : Twin i n s t) : t.health = s.health := by rw [h.rest]
theorem Twin.regs (h : Twin i n s t) : t.regs = s.regs := by rw [h.rest]

/-- Effects that leave the engines alone keep two such stacks alike. -/
theorem Twin.of_parts {s' t' : Stack} (ht : Twin i n s t) (hs : s'.engines = s.engines) (h' : t'.engines = t.engines)
    (h : t' = { s' with engines := t'.engines, freeCount := t'.freeCount }) : Twin i n s' t' := by
  have e1 : ∀ j m, s'.engine j m = s.engine j m := fun j m => by unfold Stack.engine; rw [hs]
  have e2 : ∀ j m, t'.engine j m = t.engine j m := fun j m => by unfold Stack.engine; rw [h']
  exact ⟨h, fun j m hj => by rw [e1, e2]; exact ht.others j m hj, by rw [e1, e2]; exact ht.seen⟩

theorem Twin.readElem (h : Twin i n s t) (mem e : Nat) : t.readElem i n mem e = s.readElem i n mem e := by
  unfold Stack.readElem Stack.readBytes Stack.readByte
  rw [h.mem]

theorem Twin.readQuad (h : Twin i n s t) (mem e : Nat) : t.readQuad i n mem e = s.readQuad i n mem e := by
  unfold Stack.readQuad
  simp only [h.readElem]

theorem Twin.cwBad (h : Twin i n s t) (loc : Nat) : t.cwBad loc = s.cwBad loc := by
  unfold Stack.cwBad Stack.mark
  rw [h.health]

/-- Engines changed alike. -/
theorem Twin.modEngine (h : Twin i n s t) {f g : Engine → Engine}
    (hfg : ∀ d e : Engine, e.visible = d.visible → (g e).visible = (f d).visible) :
    Twin i n (s.modEngine i n f) (t.modEngine i n g) := by
  refine ⟨by unfold Stack.modEngine Stack.setEngine; rw [h.rest], fun j m hj => ?_, ?_⟩
  · rw [Stack.modEngine, Stack.modEngine, Stack.engine_setEngine_ne _ _ hj, Stack.engine_setEngine_ne _ _ hj]
    exact h.others j m hj
  · rw [Stack.modEngine, Stack.modEngine, Stack.engine_setEngine, Stack.engine_setEngine]
    exact hfg _ _ h.seen

/-- A bank changed alike. -/
theorem Twin.modFeBank (h : Twin i n s t) (sh : Bool) {f g : FeBank → FeBank}
    (hfg : ∀ d e : FeBank, e.visible = d.visible → (g e).visible = (f d).visible) :
    Twin i n (s.modFeBank i n sh f) (t.modFeBank i n sh g) := by
  refine h.modEngine fun d e he => ?_
  have hm : e.main.visible = d.main.visible := congrArg Engine.main he
  have hs : e.shad.visible = d.shad.visible := congrArg Engine.shad he
  unfold Engine.modBank Engine.visible at *
  cases sh
  · simp_all only [Bool.false_eq_true, if_false, Engine.mk.injEq, true_and, and_true]
    exact hfg _ _ hm
  · simp_all only [if_true, Engine.mk.injEq, true_and, and_true]
    exact hfg _ _ hs

/-- The stack with other engines and another count of free values. -/
def Stack.re (s : Stack) (E : Sparse Engine) (c : Nat) : Stack := { s with engines := E, freeCount := c }

theorem Stack.narrowMark_re (s : Stack) (E : Sparse Engine) (c loc : Nat) : (s.re E c).narrowMark loc = (s.narrowMark loc).re E c := by
  have hm : (s.re E c).meetCodeword (loc / 16) 4 (loc / 16 * 16) = (s.meetCodeword (loc / 16) 4 (loc / 16 * 16)).re E c := by
    have h0 : (s.re E c).mark (loc / 16) = s.mark (loc / 16) := rfl
    have he : ∀ ue sy, (s.re E c).errorEvent ue 4 (loc / 16 * 16) sy = (s.errorEvent ue 4 (loc / 16 * 16) sy).re E c := by
      intro ue sy
      unfold Stack.errorEvent
      cases ue <;> simp only [Bool.false_eq_true, if_false, if_true] <;> split <;> rename_i hq <;> split <;> rename_i hq' <;> first
        | exact absurd hq hq'
        | exact absurd hq' hq
        | rfl
    unfold Stack.meetCodeword
    rw [h0]
    cases s.mark (loc / 16) with
    | ok => rfl
    | symbol j => exact he _ _
    | uncorrectable => dsimp only; rw [he]; rfl
    | poison => exact he _ _
  unfold Stack.narrowMark
  rw [hm]
  rfl

theorem Stack.errorEvent_engines (s : Stack) (ue : Bool) (a l y : Nat) :
    (s.errorEvent ue a l y).engines = s.engines ∧ (s.errorEvent ue a l y).freeCount = s.freeCount ∧
      (s.errorEvent ue a l y).mode = s.mode ∧ (s.errorEvent ue a l y).build = s.build := by
  unfold Stack.errorEvent
  cases ue <;> simp only [Bool.false_eq_true, if_false, if_true] <;> split <;> exact ⟨rfl, rfl, rfl, rfl⟩

theorem Stack.narrowMark_engines (s : Stack) (loc : Nat) : (s.narrowMark loc).engines = s.engines ∧ (s.narrowMark loc).freeCount = s.freeCount ∧
    (s.narrowMark loc).mode = s.mode ∧ (s.narrowMark loc).build = s.build := by
  show (Stack.meetCodeword s _ _ _).engines = _ ∧ (Stack.meetCodeword s _ _ _).freeCount = _ ∧ (Stack.meetCodeword s _ _ _).mode = _ ∧
    (Stack.meetCodeword s _ _ _).build = _
  unfold Stack.meetCodeword
  split
  · exact ⟨rfl, rfl, rfl, rfl⟩
  · exact s.errorEvent_engines _ _ _ _
  · exact s.errorEvent_engines _ _ _ _
  · exact s.errorEvent_engines _ _ _ _

theorem Twin.narrowMark (h : Twin i n s t) (loc : Nat) : Twin i n (s.narrowMark loc) (t.narrowMark loc) := by
  refine h.of_parts (Stack.narrowMark_engines _ _).1 (Stack.narrowMark_engines _ _).1 ?_
  have e : t.narrowMark loc = (s.narrowMark loc).re t.engines t.freeCount := by
    rw [← Stack.narrowMark_re]; exact congrArg (Stack.narrowMark · loc) h.rest
  rw [e]
  rfl

theorem Twin.writeBytes (h : Twin i n s t) (a : Nat) (l : List Byte) : Twin i n (s.writeBytes a l) (t.writeBytes a l) := by
  refine h.of_parts rfl rfl ?_
  unfold Stack.writeBytes
  rw [h.rest]

theorem Twin.writeElem (h : Twin i n s t) (mem e v : Nat) : Twin i n (s.writeElem i n mem e v) (t.writeElem i n mem e v) :=
  (h.writeBytes _ _).narrowMark _

theorem Twin.writeQuad (h : Twin i n s t) (mem e : Nat) (q : List Nat) : Twin i n (s.writeQuad i n mem e q) (t.writeQuad i n mem e q) :=
  ((((h.writeBytes _ _).writeBytes _ _).writeBytes _ _).writeBytes _ _).narrowMark _

theorem Twin.fePend (h : Twin i n s t) (f : Nat → Nat → Field) : Twin i n (s.fePend f i n) (t.fePend f i n) := by
  refine h.of_parts rfl rfl ?_
  unfold Stack.fePend Stack.put Stack.get
  rw [h.rest]

/-! ## What an instruction reads and does depends on what a program sees -/

theorem FeBank.getG_seen {b c : FeBank} (h : b.visible = c.visible) (r : Nat) : b.getG r = c.getG r :=
  (congrArg (fun d : FeBank => mapGet 0 d.g r) h :)

theorem FeBank.getAcc_seen {b c : FeBank} (h : b.visible = c.visible) (r : Nat) : b.getAcc r = c.getAcc r :=
  (congrArg (fun d : FeBank => mapGet 0 d.acc r) h :)

theorem FeBank.pair_seen {b c : FeBank} (h : b.visible = c.visible) (d : Nat) : b.pair d = c.pair d := by
  unfold FeBank.pair
  rw [FeBank.getG_seen h, FeBank.getG_seen h]

theorem Twin.fifo (h : Twin i n s t) (p : Nat) : (t.engine i n).fifo p = (s.engine i n).fifo p :=
  (congrArg (fun e : Engine => mapGet [] e.fifos p) h.seen :)

/-- Special registers that show open repeat blocks (R286). -/
def FeOp.readsLevels : FeOp → Bool
  | .mfs _ k => decide (5 ≤ k ∧ k ≤ 8)
  | _ => false

theorem Twin.spr (h : Twin i n s t) (sh : Bool) (k : Nat) (hk : ¬(5 ≤ k ∧ k ≤ 8)) : t.feSpr i n sh k = s.feSpr i n sh k := by
  have hb := Engine.visible_bank h.seen sh
  unfold Stack.feSpr
  split
  · exact (congrArg FeBank.flags hb :)
  · exact (congrArg Engine.ie h.seen :)
  · exact (congrArg Engine.ip h.seen :)
  · exact (congrArg Engine.thresh h.seen :)
  · exact (congrArg Engine.dbv h.seen :)
  · omega
  · omega
  · omega
  · omega
  · rfl
  · rename_i k _ _ _ _ _ _ _ _ _ _
    have e1 : ((t.engine i n).bank sh).base = ((s.engine i n).bank sh).base := (congrArg FeBank.base hb :)
    have e2 : ((t.engine i n).bank sh).len = ((s.engine i n).bank sh).len := (congrArg FeBank.len hb :)
    have e3 : ((t.engine i n).bank sh).mode = ((s.engine i n).bank sh).mode := (congrArg FeBank.mode hb :)
    have e4 : ((t.engine i n).bank sh).step = ((s.engine i n).bank sh).step := (congrArg FeBank.step hb :)
    simp only [e1, e2, e3, e4]

theorem Twin.operands (h : Twin i n s t) (sh : Bool) (x : FeSlot)
    (hx : x.op.readsLevels = false ∨ (((t.engine i n).bank sh).levels = [] ∧ ((s.engine i n).bank sh).levels = [])) :
    t.feOperands i n sh x = s.feOperands i n sh x := by
  have hb := Engine.visible_bank h.seen sh
  have hg := FeBank.getG_seen hb
  have ha : ((t.engine i n).bank sh).getAcc = ((s.engine i n).bank sh).getAcc := funext (FeBank.getAcc_seen hb)
  have hp := FeBank.pair_seen hb
  unfold Stack.feOperands
  split
  case h_1 d k hop =>
    have : t.feSpr i n sh k = s.feSpr i n sh k := by
      by_cases hk : 5 ≤ k ∧ k ≤ 8
      · rcases hx with hx | ⟨h1, h2⟩
        · rw [hop] at hx
          simp [FeOp.readsLevels, hk] at hx
        · have : k = 5 ∨ k = 6 ∨ k = 7 ∨ k = 8 := by omega
          rcases this with rfl | rfl | rfl | rfl <;> simp [Stack.feSpr, h1, h2]
      · exact h.spr sh k hk
    rw [this]
  all_goals simp only [hg, ha, hp, h.fifo, h.readElem, h.readQuad]

theorem FeBank.writeBack_seen {b c : FeBank} (h : b.visible = c.visible) (x : FeSlot) : (b.writeBack x).visible = (c.writeBack x).visible := by
  rw [FeBank.writeBack_visible, FeBank.writeBack_visible, h]

/-- An engine's own registers and FIFOs changed alike. -/
theorem Twin.modOuter (h : Twin i n s t) {f : Engine → Engine} (hf : ∀ e, (f e).visible = (f e.visible).visible) :
    Twin i n (s.modEngine i n f) (t.modEngine i n f) :=
  h.modEngine fun d e he => by rw [hf e, hf d, he]

theorem Twin.take (h : Twin i n s t) (sh : Bool) (x : FeSlot) : Twin i n (s.feTake i n sh x) (t.feTake i n sh x) := by
  have hb := Engine.visible_bank h.seen sh
  unfold Stack.feTake
  split
  · exact h.modOuter fun e => rfl
  · exact h.modOuter fun e => rfl
  · simp only [FeBank.pair_seen hb, h.readQuad]
    exact (h.writeQuad _ _ _).modFeBank sh fun d e he => by
      have hv : ∀ c : FeBank, (c.setPair 6 (s.readQuad i n 1 x.adr)).visible = c.visible.setPair 6 (s.readQuad i n 1 x.adr) := fun _ => rfl
      rw [hv, hv, he]
  · exact h

theorem Twin.write (h : Twin i n s t) (sh : Bool) (x : FeSlot) : Twin i n (s.feWrite i n sh x) (t.feWrite i n sh x) := by
  have hw := h.modFeBank sh (f := fun b => b.writeBack x) (g := fun b => b.writeBack x) fun d e he => FeBank.writeBack_seen he x
  unfold Stack.feWrite
  dsimp only
  split
  · exact hw.fePend _
  · exact hw.modOuter fun e => rfl
  · exact hw.modOuter fun e => by split <;> rfl
  · exact hw.modOuter fun e => rfl
  · exact hw.writeQuad _ _ _
  · exact hw.modOuter fun e => rfl
  · exact hw.modOuter fun e => rfl
  · exact hw.writeQuad _ _ _
  · exact hw.writeElem _ _ _
  · exact hw.writeQuad _ _ _
  · exact hw

/-! ## One cycle -/

/-- The program counter aside, what of a bank stages W and O leave as it is. -/
def Engine.frame (e : Engine) := (e.st, e.shadow, e.main.stages, e.shad.stages)

theorem Engine.frame_bank {e f : Engine} (h : e.frame = f.frame) (b : Bool) : (e.bank b).stages = (f.bank b).stages := by
  cases b
  · exact (congrArg (fun q => q.2.2.1) h :)
  · exact (congrArg (fun q => q.2.2.2) h :)

theorem Engine.modBank_frame (e : Engine) (sh : Bool) {f : FeBank → FeBank} (hf : ∀ b, (f b).stages = b.stages) :
    (e.modBank sh f).frame = e.frame := by
  unfold Engine.frame Engine.modBank
  cases sh
  · exact congrArg (fun q => (e.st, e.shadow, q, e.shad.stages)) (hf e.main)
  · exact congrArg (fun q => (e.st, e.shadow, e.main.stages, q)) (hf e.shad)

theorem Stack.engine_of_engines {s t : Stack} (h : t.engines = s.engines) (i n : Nat) : t.engine i n = s.engine i n := by
  unfold Stack.engine
  rw [h]

theorem Stack.feTake_frame (s : Stack) (i n : Nat) (sh : Bool) (x : FeSlot) : ((s.feTake i n sh x).engine i n).frame = (s.engine i n).frame := by
  unfold Stack.feTake
  split
  · exact (congrArg Engine.frame (Stack.engine_setEngine _ _ _ _) :).trans rfl
  · exact (congrArg Engine.frame (Stack.engine_setEngine _ _ _ _) :).trans rfl
  · refine (congrArg Engine.frame (Stack.engine_setEngine _ _ _ _)).trans ?_
    refine (Engine.modBank_frame _ sh (f := fun b => b.setPair 6 _) fun b => rfl).trans ?_
    exact congrArg Engine.frame (Stack.engine_of_engines (Stack.narrowMark_engines _ _).1 i n)
  · rfl

theorem Stack.feWrite_frame (s : Stack) (i n : Nat) (sh : Bool) (x : FeSlot) : ((s.feWrite i n sh x).engine i n).frame = (s.engine i n).frame := by
  have h0 : ((s.modFeBank i n sh fun b => b.writeBack x).engine i n).frame = (s.engine i n).frame := by
    refine (congrArg Engine.frame (Stack.engine_setEngine _ _ _ _)).trans ?_
    exact Engine.modBank_frame _ _ fun b => b.writeBack_stages x
  unfold Stack.feWrite
  dsimp only
  generalize (s.modFeBank i n sh fun b => b.writeBack x) = u at *
  rw [← h0]
  split
  · rfl
  · exact (congrArg Engine.frame (Stack.engine_setEngine _ _ _ _) :).trans rfl
  · refine (congrArg Engine.frame (Stack.engine_setEngine _ _ _ _)).trans ?_
    split <;> rfl
  · exact (congrArg Engine.frame (Stack.engine_setEngine _ _ _ _) :).trans rfl
  · exact congrArg Engine.frame (Stack.engine_of_engines (Stack.narrowMark_engines _ _).1 i n)
  · exact (congrArg Engine.frame (Stack.engine_setEngine _ _ _ _) :).trans rfl
  · exact (congrArg Engine.frame (Stack.engine_setEngine _ _ _ _) :).trans rfl
  · exact congrArg Engine.frame (Stack.engine_of_engines (Stack.narrowMark_engines _ _).1 i n)
  · exact congrArg Engine.frame (Stack.engine_of_engines (Stack.narrowMark_engines _ _).1 i n)
  · exact congrArg Engine.frame (Stack.engine_of_engines (Stack.narrowMark_engines _ _).1 i n)
  · rfl

/-- An engine in the course of its cycles: it may issue, and its live bank holds these slots in stages O, E and W of the next cycle, the
other bank none that would still run (R262, R268). -/
structure Piped (i n : Nat) (t : Stack) (o e w : Option FeSlot) : Prop where
  st : (t.engine i n).st = 2
  mode : t.feMode = true
  layer : i < t.build.layers
  calm : (t.engine i n).interrupts = false
  o : ((t.engine i n).bank (t.engine i n).shadow).o = o
  e : ((t.engine i n).bank (t.engine i n).shadow).e = e
  w : ((t.engine i n).bank (t.engine i n).shadow).w = w
  fetched : ((t.engine i n).bank (t.engine i n).shadow).f.isSome = true
  halting : ((t.engine i n).bank (t.engine i n).shadow).halting = false
  other : (t.engine i n).shadow = false → (t.engine i n).shad.o = Option.none ∧ (t.engine i n).shad.e = Option.none ∧
    (t.engine i n).shad.w = Option.none
  clean : ∀ p, t.mark ((feBase i n + 0xC000 + 4 * p) / 16) = .ok

theorem Piped.of_ready (h : s.feReady i n) : Piped i n s Option.none Option.none Option.none := by
  obtain ⟨h1, h2, h3, h4, h5, h6, h7, h8⟩ := h
  have hs : (s.engine i n).shadow ∈ (s.engine i n).running := by
    unfold Engine.running
    cases (s.engine i n).shadow <;> simp
  have hl := h5 _ hs
  refine ⟨h1, h2, h3, h4, hl.1, hl.2.1, hl.2.2, h6, h7, fun hm => ?_, h8⟩
  exact h5 true (by unfold Engine.running; rw [hm]; simp)

theorem Stack.feStageW_none {sh : Bool} (h : ((s.engine i n).bank sh).w = Option.none) : s.feStageW i n sh = s := by
  unfold Stack.feStageW
  rw [h]

theorem Stack.feStageW_some {sh : Bool} {x : FeSlot} (h : ((s.engine i n).bank sh).w = some x) :
    s.feStageW i n sh = (s.feWrite i n sh x).modFeBank i n sh fun b => { b with w := Option.none } := by
  unfold Stack.feStageW
  rw [h]

theorem Stack.feStageO_none {sh : Bool} (h : ((s.engine i n).bank sh).o = Option.none) : s.feStageO i n sh = (s, false) := by
  unfold Stack.feStageO
  rw [h]

theorem Stack.feMeet_clean {l : List Nat} (h : ∀ a ∈ l, s.mark (a / 16) = .ok) : l.foldl (fun (s : Stack) a => s.feMeet a) s = s := by
  induction l with
  | nil => rfl
  | cons a l ih =>
    have ha : s.feMeet a = s := by
      unfold Stack.feMeet Stack.meetCodeword
      rw [h a (by simp)]
    rw [List.foldl, ha]
    exact ih fun b hb => h b (by simp [hb])

/-- Stage O of a slot whose codewords have no error. -/
theorem Stack.feStageO_some {sh : Bool} {x : FeSlot} (h : ((s.engine i n).bank sh).o = some x)
    (hr : ∀ r ∈ x.reads, s.feClean i n r.1 r.2) :
    s.feStageO i n sh = ((s.feTake i n sh x).modFeBank i n sh (fun b => { b with o := some (s.feOperands i n sh x) }), false) := by
  unfold Stack.feStageO
  rw [h]
  dsimp only
  have hq : ∀ r, x.firstElem r = r.2 ∨ x.firstElem r = 4 * (r.2 / 4) := by
    intro r
    unfold FeSlot.firstElem
    split
    · split <;> simp
    · exact Or.inl rfl
  have hok : ∀ a ∈ x.reads.map (fun r => elemLoc i n r.1 (x.firstElem r)), s.mark (a / 16) = .ok := by
    intro a ha
    obtain ⟨r, hm, rfl⟩ := List.mem_map.1 ha
    rcases hq r with e | e <;> rw [e]
    · exact (hr r hm).1
    · exact (hr r hm).2
  have hb : (x.reads.map (fun r => elemLoc i n r.1 (x.firstElem r))).any s.cwBad = false := by
    rw [List.any_eq_false]
    intro a ha
    unfold Stack.cwBad
    rw [hok a ha]
    decide
  rw [hb, Stack.feMeet_clean hok]
  rfl

/-- Instructions after which the program address advances: no branch, no repeat, no HALT, no RETI. -/
def FeOp.plain : FeOp → Bool
  | .br _ _ | .brl _ | .jr _ | .rep _ _ | .repr _ _ | .halt | .reti => false
  | _ => true

/-- Instructions after which their bank goes on: all but HALT and RETI. -/
def FeOp.steady : FeOp → Bool
  | .halt | .reti => false
  | _ => true

theorem FeOp.steady_of_plain {op : FeOp} (h : op.plain = true) : op.steady = true := by
  cases op <;> first | rfl | exact absurd h Bool.false_ne_true

theorem FeBank.advancePc_seen (b : FeBank) : b.advancePc.visible = b.visible ∧ b.advancePc.o = b.o ∧ b.advancePc.e = b.e ∧
    b.advancePc.w = b.w ∧ b.advancePc.halting = b.halting ∧ (b.levels = [] → b.advancePc.levels = []) := by
  unfold FeBank.advancePc
  split
  · exact ⟨rfl, rfl, rfl, rfl, rfl, fun h => by rw [h]; rfl⟩
  · exact ⟨rfl, rfl, rfl, rfl, rfl, fun h => by rw [h]; rfl⟩

theorem Engine.issue_steady (e : Engine) (free : Nat) {op : FeOp} (h : op.steady = true) :
    ∃ g : FeBank → FeBank, (∀ b, (g b).visible = b.visible ∧ (g b).o = b.o ∧ (g b).e = b.e ∧ (g b).w = b.w ∧
        (g b).halting = b.halting ∧ (op.plain = true → b.levels = [] → (g b).levels = [])) ∧
      e.issue free op = e.modBank e.shadow fun b => g { b.decodeStage free op with o := some (b.slotOf op) } := by
  have adv : e.modBank e.shadow (fun _ => FeBank.advancePc { (e.bank e.shadow).decodeStage free op with o := some ((e.bank e.shadow).slotOf op) })
      = e.modBank e.shadow fun b => FeBank.advancePc { b.decodeStage free op with o := some (b.slotOf op) } := by
    unfold Engine.modBank Engine.bank
    cases e.shadow <;> rfl
  have adv' : ∃ g : FeBank → FeBank, (∀ b, (g b).visible = b.visible ∧ (g b).o = b.o ∧ (g b).e = b.e ∧ (g b).w = b.w ∧
        (g b).halting = b.halting ∧ (op.plain = true → b.levels = [] → (g b).levels = [])) ∧
      e.modBank e.shadow (fun _ => FeBank.advancePc { (e.bank e.shadow).decodeStage free op with o := some ((e.bank e.shadow).slotOf op) })
        = e.modBank e.shadow fun b => g { b.decodeStage free op with o := some (b.slotOf op) } :=
    ⟨FeBank.advancePc, fun b => ⟨b.advancePc_seen.1, b.advancePc_seen.2.1, b.advancePc_seen.2.2.1, b.advancePc_seen.2.2.2.1,
      b.advancePc_seen.2.2.2.2.1, fun _ => b.advancePc_seen.2.2.2.2.2⟩, adv⟩
  have opn : ∀ len count (b : FeBank), (b.openBlock len count).visible = b.visible ∧ (b.openBlock len count).o = b.o ∧
      (b.openBlock len count).e = b.e ∧ (b.openBlock len count).w = b.w ∧
      (b.openBlock len count).halting = b.halting := by
    intro len count b
    unfold FeBank.openBlock
    split <;> exact ⟨rfl, rfl, rfl, rfl, rfl⟩
  unfold Engine.issue
  dsimp only
  split
  · rename_i cond target
    refine ⟨fun b => b.branch (if condHolds cond b.flags then some target else Option.none),
      fun b => ⟨rfl, rfl, rfl, rfl, rfl, fun hp => absurd hp Bool.false_ne_true⟩, ?_⟩
    unfold Engine.modBank Engine.bank
    cases e.shadow <;> rfl
  · rename_i target
    refine ⟨fun b => b.branch (some target), fun b => ⟨rfl, rfl, rfl, rfl, rfl, fun hp => absurd hp Bool.false_ne_true⟩, ?_⟩
    unfold Engine.modBank Engine.bank
    cases e.shadow <;> rfl
  · rename_i r
    refine ⟨fun b => b.branch (some (b.getG r % 4096)), fun b => ⟨rfl, rfl, rfl, rfl, rfl, fun hp => absurd hp Bool.false_ne_true⟩, ?_⟩
    unfold Engine.modBank Engine.bank
    cases e.shadow <;> rfl
  · rename_i len count
    refine ⟨fun b => b.openBlock len (count + 1), fun b => ⟨(opn _ _ b).1, (opn _ _ b).2.1, (opn _ _ b).2.2.1, (opn _ _ b).2.2.2.1,
      (opn _ _ b).2.2.2.2, fun hp => absurd hp Bool.false_ne_true⟩, ?_⟩
    unfold Engine.modBank Engine.bank
    cases e.shadow <;> rfl
  · rename_i len r
    refine ⟨fun b => b.openBlock len (b.getG r), fun b => ⟨(opn _ _ b).1, (opn _ _ b).2.1, (opn _ _ b).2.2.1, (opn _ _ b).2.2.2.1,
      (opn _ _ b).2.2.2.2, fun hp => absurd hp Bool.false_ne_true⟩, ?_⟩
    unfold Engine.modBank Engine.bank
    cases e.shadow <;> rfl
  · exact absurd h Bool.false_ne_true
  · exact absurd h Bool.false_ne_true
  · rename_i mem a u port cnt
    refine ⟨fun b => if b.issued < cnt then { b with issued := b.issued + 1 } else b.advancePc, fun b => ?_, ?_⟩
    · dsimp only
      split
      · exact ⟨rfl, rfl, rfl, rfl, rfl, fun _ => id⟩
      · exact ⟨b.advancePc_seen.1, b.advancePc_seen.2.1, b.advancePc_seen.2.2.1, b.advancePc_seen.2.2.2.1,
          b.advancePc_seen.2.2.2.2.1, fun _ => b.advancePc_seen.2.2.2.2.2⟩
    · unfold Engine.modBank Engine.bank
      cases e.shadow <;> rfl
  · exact adv'

theorem Engine.frame_shadow {e f : Engine} (h : e.frame = f.frame) : e.shadow = f.shadow := congrArg (fun q => q.2.1) h

theorem Engine.frame_o {e f : Engine} (h : e.frame = f.frame) (b : Bool) : (e.bank b).o = (f.bank b).o :=
  (congrArg (fun q => q.1) (Engine.frame_bank h b) :)

theorem Engine.frame_w {e f : Engine} (h : e.frame = f.frame) (b : Bool) : (e.bank b).w = (f.bank b).w :=
  (congrArg (fun q => q.2.2.1) (Engine.frame_bank h b) :)

/-- What the slot in stage W of the live bank writes. -/
def Stack.afterW (s : Stack) (i n : Nat) (sh : Bool) : Option FeSlot → Stack
  | some x => (s.feWrite i n sh x).modFeBank i n sh fun b => { b with w := Option.none }
  | Option.none => s

/-- What the slot in stage O of the live bank takes. -/
def Stack.afterO (s : Stack) (i n : Nat) (sh : Bool) : Option FeSlot → Stack
  | some x => (s.feTake i n sh x).modFeBank i n sh fun b => { b with o := some (s.feOperands i n sh x) }
  | Option.none => s

theorem Stack.feMode_of {s t : Stack} (h : t.mode = s.mode) : t.feMode = s.feMode := by
  unfold Stack.feMode
  rw [h]

/-- A cycle in which every stage does its work, for an engine whose other bank is empty: W, then O, then D. -/
theorem Stack.feIssue_eq {o e w : Option FeSlot} (hp : Piped i n s o e w) {op : FeOp} (hs : (s.engine i n).stallNow = 0)
    (hn : s.feNext i n (some op) = some (some op, 0)) (sh : Bool) (hsh : (s.engine i n).shadow = sh)
    (a : Stack) (ha : a = (s.setEngine i n { s.engine i n with stall := 0 }).afterW i n sh w)
    (hr : ∀ x, o = some x → ∀ r ∈ x.reads, a.feClean i n r.1 r.2) :
    s.feIssue i n op =
      (((bif sh then (a.afterO i n sh o).modFeBank i n true FeBank.shift
        else ((a.afterO i n sh o).modFeBank i n true FeBank.shift).modFeBank i n false FeBank.shift).draw.modEngine i n
          fun e => e.issue (a.afterO i n sh o).freeNat op).feHaltCheck i n).feStageF i n := by
  have hT : ({ s.engine i n with stall := 0 } : Engine).frame = (s.engine i n).frame := rfl
  generalize hT' : s.setEngine i n { s.engine i n with stall := 0 } = T at ha
  have eT : (T.engine i n).frame = (s.engine i n).frame := by rw [← hT', Stack.engine_setEngine]; rfl
  have wT : ((T.engine i n).bank sh).w = w := by rw [Engine.frame_w eT, ← hsh]; exact hp.w
  have oT : ((T.engine i n).bank sh).o = o := by rw [Engine.frame_o eT, ← hsh]; exact hp.o
  have hW : T.feStageW i n sh = a := by
    rw [ha]
    cases w with
    | none => exact Stack.feStageW_none wT
    | some x => exact Stack.feStageW_some wT
  have oa : ∀ b, ((a.engine i n).bank b).o = ((T.engine i n).bank b).o := by
    intro b
    rw [ha]
    cases w with
    | none => rfl
    | some x =>
      have h1 := Engine.frame_o (T.feWrite_frame i n sh x) b
      rw [← h1]
      show (Engine.bank (Stack.engine (Stack.setEngine _ _ _ _) _ _) b).o = _
      rw [Stack.engine_setEngine]
      cases sh <;> cases b <;> rfl
  have hO : a.feStageO i n sh = (a.afterO i n sh o, false) := by
    have h1 : ((a.engine i n).bank sh).o = o := by rw [oa, oT]
    cases o with
    | none => exact Stack.feStageO_none h1
    | some x => exact Stack.feStageO_some h1 (hr x rfl)
  unfold Stack.feIssue
  rw [if_pos ⟨hp.st, hp.mode, hp.layer⟩]
  unfold Stack.feCycle
  simp only [hp.calm, hs, hn, hT', Bool.false_eq_true, if_false, bne_self_eq_false]
  cases sh with
  | true =>
    have hrun : (s.engine i n).running = [true] := by unfold Engine.running; rw [hsh]; rfl
    simp only [hrun, List.foldl, hW, hO, Bool.false_eq_true, if_false, cond_true]
    rfl
  | false =>
    have hrun : (s.engine i n).running = [true, false] := by unfold Engine.running; rw [hsh]; rfl
    obtain ⟨f1, f2, f3⟩ := hp.other hsh
    have w1 : T.feStageW i n true = T := Stack.feStageW_none (by rw [Engine.frame_w eT]; exact f3)
    have o1 : a.feStageO i n true = (a, false) := Stack.feStageO_none (by rw [oa, Engine.frame_o eT]; exact f1)
    simp only [hrun, List.foldl, w1, hW, o1, hO, Bool.false_eq_true, if_false, cond_false]
    rfl

theorem Stack.modFeBank_bank (s : Stack) (i n : Nat) (sh b : Bool) (f : FeBank → FeBank) :
    ((s.modFeBank i n sh f).engine i n).bank b = if b = sh then f ((s.engine i n).bank sh) else (s.engine i n).bank b := by
  unfold Stack.modFeBank Stack.modEngine
  rw [Stack.engine_setEngine]
  cases sh <;> cases b <;> rfl

theorem Stack.modFeBank_outer (s : Stack) (i n : Nat) (sh : Bool) (f : FeBank → FeBank) :
    ((s.modFeBank i n sh f).engine i n).st = (s.engine i n).st ∧ ((s.modFeBank i n sh f).engine i n).shadow = (s.engine i n).shadow := by
  unfold Stack.modFeBank Stack.modEngine
  rw [Stack.engine_setEngine]
  cases sh <;> exact ⟨rfl, rfl⟩

/-- The pipeline after stages W and O: the live bank has what stage O read, and nothing in stage W. -/
theorem Stack.after_stages {o e w : Option FeSlot} (hp : Piped i n s o e w) (sh : Bool) (hsh : (s.engine i n).shadow = sh)
    (a : Stack) (ha : a = (s.setEngine i n { s.engine i n with stall := 0 }).afterW i n sh w) :
    (((a.afterO i n sh o).engine i n).bank sh).o = o.map (a.feOperands i n sh) ∧ (((a.afterO i n sh o).engine i n).bank sh).e = e ∧
    (((a.afterO i n sh o).engine i n).bank sh).halting = false ∧
    ((a.afterO i n sh o).engine i n).st = 2 ∧ ((a.afterO i n sh o).engine i n).shadow = sh ∧
    (((a.afterO i n sh o).engine i n).bank (!sh)).stages = ((s.engine i n).bank (!sh)).stages := by
  generalize hT' : s.setEngine i n { s.engine i n with stall := 0 } = T at ha
  have eT : (T.engine i n).frame = (s.engine i n).frame := by rw [← hT', Stack.engine_setEngine]; rfl
  have ea : ((a.engine i n).bank sh).o = o ∧ ((a.engine i n).bank sh).e = e ∧ 
      ((a.engine i n).bank sh).halting = false ∧ (a.engine i n).st = 2 ∧ (a.engine i n).shadow = sh ∧
      ((a.engine i n).bank (!sh)).stages = ((s.engine i n).bank (!sh)).stages := by
    have key : ∀ u : Stack, (u.engine i n).frame = (s.engine i n).frame →
        ((u.engine i n).bank sh).o = o ∧ ((u.engine i n).bank sh).e = e ∧ 
        ((u.engine i n).bank sh).halting = false ∧ (u.engine i n).st = 2 ∧ (u.engine i n).shadow = sh ∧
        ((u.engine i n).bank (!sh)).stages = ((s.engine i n).bank (!sh)).stages := by
      intro u hu
      have hb := Engine.frame_bank hu sh
      rw [← hsh] at hb ⊢
      exact ⟨(congrArg (fun q => q.1) hb :).trans hp.o, (congrArg (fun q => q.2.1) hb :).trans hp.e,
        (congrArg (fun q => q.2.2.2.1) hb :).trans hp.halting,
        (congrArg (fun q => q.1) hu :).trans hp.st, Engine.frame_shadow hu, Engine.frame_bank hu _⟩
    rw [ha]
    cases w with
    | none => exact key _ eT
    | some x =>
      have := key _ ((T.feWrite_frame i n sh x).trans eT)
      show ((Stack.engine (Stack.modFeBank _ _ _ _ _) _ _).bank sh).o = o ∧ ((Stack.engine (Stack.modFeBank _ _ _ _ _) _ _).bank sh).e = e ∧
        ((Stack.engine (Stack.modFeBank _ _ _ _ _) _ _).bank sh).halting = false ∧
        (Stack.engine (Stack.modFeBank _ _ _ _ _) _ _).st = 2 ∧ (Stack.engine (Stack.modFeBank _ _ _ _ _) _ _).shadow = sh ∧
        ((Stack.engine (Stack.modFeBank _ _ _ _ _) _ _).bank (!sh)).stages = _
      rw [Stack.modFeBank_bank, Stack.modFeBank_bank, if_pos rfl, if_neg (by cases sh <;> decide), (Stack.modFeBank_outer _ _ _ _ _).1,
        (Stack.modFeBank_outer _ _ _ _ _).2]
      exact this
  cases o with
  | none => exact ea
  | some x =>
    have hf := a.feTake_frame i n sh x
    have hb := Engine.frame_bank hf sh
    show ((Stack.engine (Stack.modFeBank _ _ _ _ _) _ _).bank sh).o = _ ∧ ((Stack.engine (Stack.modFeBank _ _ _ _ _) _ _).bank sh).e = e ∧
        ((Stack.engine (Stack.modFeBank _ _ _ _ _) _ _).bank sh).halting = false ∧
        (Stack.engine (Stack.modFeBank _ _ _ _ _) _ _).st = 2 ∧ (Stack.engine (Stack.modFeBank _ _ _ _ _) _ _).shadow = sh ∧
        ((Stack.engine (Stack.modFeBank _ _ _ _ _) _ _).bank (!sh)).stages = _
    rw [Stack.modFeBank_bank, Stack.modFeBank_bank, if_pos rfl, if_neg (by cases sh <;> decide), (Stack.modFeBank_outer _ _ _ _ _).1,
      (Stack.modFeBank_outer _ _ _ _ _).2]
    refine ⟨rfl, (congrArg (fun q => q.2.1) hb :).trans ea.2.1, (congrArg (fun q => q.2.2.2.1) hb :).trans ea.2.2.1,
      (congrArg (fun q => q.1) hf :).trans ea.2.2.2.1,
      (Engine.frame_shadow hf).trans ea.2.2.2.2.1, (Engine.frame_bank hf _).trans ea.2.2.2.2.2⟩

theorem FeBank.decodeStage_stages (b : FeBank) (free : Nat) (op : FeOp) : (b.decodeStage free op).stages = b.stages := by
  have hu : ∀ (c : FeBank) m k u, (c.afterUse free m k u).stages = c.stages := by
    intro c m k u
    unfold FeBank.afterUse
    cases u <;> rfl
  unfold FeBank.decodeStage
  split <;> first | rfl | exact hu _ _ _ _ | exact (hu _ _ _ _).trans (hu _ _ _ _)

theorem FeBank.decodeStage_visible (b : FeBank) (free : Nat) (op : FeOp) : (b.decodeStage free op).visible = b.visible.decodeStage free op := by
  have hu : ∀ (c : FeBank) m k u, (c.afterUse free m k u).visible = c.visible.afterUse free m k u := by
    intro c m k u
    unfold FeBank.afterUse
    cases u <;> rfl
  unfold FeBank.decodeStage
  split
  all_goals first
    | with_reducible exact hu _ _ _ _
    | (rw [hu, hu])
    | rfl

theorem FeBank.decodeStage_seen {b c : FeBank} (h : c.visible = b.visible) (free : Nat) (op : FeOp) :
    (c.decodeStage free op).visible = (b.decodeStage free op).visible := by
  rw [FeBank.decodeStage_visible, FeBank.decodeStage_visible, h]

theorem Engine.modBank_visible (e : Engine) (sh : Bool) {f g : FeBank → FeBank} (h : (f (e.bank sh)).visible = (g (e.bank sh)).visible) :
    (e.modBank sh f).visible = (e.modBank sh g).visible := by
  unfold Engine.modBank Engine.visible
  cases sh
  · exact (congrArg (fun b => ({ e with main := b, shad := e.shad.visible, stall := 0 } : Engine)) h :)
  · exact (congrArg (fun b => ({ e with main := e.main.visible, shad := b, stall := 0 } : Engine)) h :)

/-- A bank changed where no program sees it. -/
theorem Twin.hide (h : Twin i n s t) (sh : Bool) {f : FeBank → FeBank} (hf : ∀ b, (f b).visible = b.visible) : Twin i n s (t.modFeBank i n sh f) := by
  refine h.set ?_
  unfold Engine.modBank Engine.visible
  cases sh <;> simp [hf]

/-- An engine written otherwise where no program sees it. -/
theorem Twin.swap {X Y : Engine} (h : Twin i n s (t.setEngine i n Y)) (hx : X.visible = Y.visible) : Twin i n s (t.setEngine i n X) :=
  ⟨by
    have e : t.setEngine i n X = { t.setEngine i n Y with engines := (t.setEngine i n X).engines, freeCount := (t.setEngine i n X).freeCount } := rfl
    rw [e, h.rest], fun j m hj => by
    rw [Stack.engine_setEngine_ne _ _ hj, ← h.others j m hj, Stack.engine_setEngine_ne _ _ hj], by
    rw [Stack.engine_setEngine, hx, ← h.seen, Stack.engine_setEngine]⟩

/-! ## Codewords without an error stay so -/

theorem Stack.meetCodeword_clean {c l a : Nat} (h : s.mark c = .ok) : s.meetCodeword c l a = s := by
  unfold Stack.meetCodeword
  rw [h]

theorem Stack.errorEvent_health (s : Stack) (ue : Bool) (a l y : Nat) : (s.errorEvent ue a l y).health = s.health := by
  unfold Stack.errorEvent
  cases ue <;> simp only [Bool.false_eq_true, if_false, if_true] <;> split <;> rfl

theorem Stack.narrowMark_clean {c loc : Nat} (h : s.mark c = .ok) : (s.narrowMark loc).mark c = .ok := by
  unfold Stack.narrowMark
  rw [Stack.mark_setMark]
  split
  · rename_i e
    rw [e, h]
    rfl
  · unfold Stack.meetCodeword
    split
    · exact h
    · exact (congrArg (fun m => mapGet Health.ok m c) (s.errorEvent_health _ _ _ _) :).trans h
    · rw [Stack.mark_setMark, if_neg (by assumption)]
      exact (congrArg (fun m => mapGet Health.ok m c) (s.errorEvent_health _ _ _ _) :).trans h
    · exact (congrArg (fun m => mapGet Health.ok m c) (s.errorEvent_health _ _ _ _) :).trans h

theorem Stack.writeElem_clean {c : Nat} (h : s.mark c = .ok) (mem e v : Nat) : (s.writeElem i n mem e v).mark c = .ok :=
  Stack.narrowMark_clean (s := s.writeBytes _ _) h

theorem Stack.writeQuad_clean {c : Nat} (h : s.mark c = .ok) (mem e : Nat) (q : List Nat) : (s.writeQuad i n mem e q).mark c = .ok :=
  Stack.narrowMark_clean (s := ((((s.writeBytes _ _).writeBytes _ _).writeBytes _ _).writeBytes _ _)) h

theorem Stack.feTake_clean {c : Nat} (h : s.mark c = .ok) (sh : Bool) (x : FeSlot) : (s.feTake i n sh x).mark c = .ok := by
  unfold Stack.feTake
  split
  · exact h
  · exact h
  · exact Stack.writeQuad_clean h _ _ _
  · exact h

theorem Stack.feWrite_clean {c : Nat} (h : s.mark c = .ok) (sh : Bool) (x : FeSlot) : (s.feWrite i n sh x).mark c = .ok := by
  have hu : (s.modFeBank i n sh fun b => b.writeBack x).mark c = .ok := h
  unfold Stack.feWrite
  dsimp only
  generalize (s.modFeBank i n sh fun b => b.writeBack x) = u at *
  split
  all_goals first
    | with_reducible exact Stack.writeQuad_clean hu _ _ _
    | with_reducible exact Stack.writeElem_clean hu _ _ _
    | exact hu

/-- Stages W and O leave a codeword without an error as it is. -/
theorem Stack.after_mark {c : Nat} {a : Stack} {E : Engine} (sh : Bool) (o w : Option FeSlot) (ha : a = (s.setEngine i n E).afterW i n sh w)
    (h : s.mark c = .ok) : (a.afterO i n sh o).mark c = .ok := by
  have h1 : a.mark c = .ok := by
    rw [ha]
    cases w with
    | none => exact h
    | some x => exact Stack.feWrite_clean (s := s.setEngine i n E) h sh x
  cases o with
  | none => exact h1
  | some x => exact Stack.feTake_clean h1 sh x

/-- Stage F of a Running engine whose program memory has no error changes nothing that a program sees, nor any other stage, and leaves an
instruction there. -/
theorem Stack.feStageF_calm (s : Stack) {sh : Bool} (hst : (s.engine i n).st = 2) (hsh : (s.engine i n).shadow = sh)
    (hc : ∀ p, s.mark ((feBase i n + 0xC000 + 4 * p) / 16) = .ok) :
    Twin i n s (s.feStageF i n) ∧ ((s.feStageF i n).engine i n).frame = (s.engine i n).frame ∧
      (((s.feStageF i n).engine i n).bank sh).f.isSome = true := by
  unfold Stack.feStageF
  dsimp only
  cases hf : ((s.engine i n).bank (s.engine i n).shadow).f.isSome with
  | true =>
    rw [if_pos (by simp)]
    exact ⟨Twin.refl s, rfl, hsh ▸ hf⟩
  | false =>
    have hm : s.feMeet (feBase i n + 0xC000 + 4 * ((s.engine i n).bank (s.engine i n).shadow).pc) = s := Stack.meetCodeword_clean (hc _)
    rw [if_neg (by simp [hst]), hm, ite_self, hsh]
    refine ⟨(Twin.refl s).hide sh fun _ => rfl, ?_, ?_⟩
    · exact (congrArg Engine.frame (Stack.engine_setEngine _ _ _ _) :).trans (Engine.modBank_frame _ _ fun _ => rfl)
    · rw [Stack.modFeBank_bank, if_pos rfl]
      rfl

/-- A cycle that issues an instruction which is neither a HALT nor a RETI: what a program sees is changed by stage W
of the slot there, by stage O of the slot there, and by stage D of the instruction; and the slots move on. -/
theorem Stack.fe_cycle {o e w : Option FeSlot} (hp : Piped i n s o e w) {op : FeOp} (hop : op.steady = true)
    (hs : (s.engine i n).stallNow = 0) (hn : s.feNext i n (some op) = some (some op, 0)) (sh : Bool) (hsh : (s.engine i n).shadow = sh)
    (a : Stack) (ha : a = (s.setEngine i n { s.engine i n with stall := 0 }).afterW i n sh w)
    (hr : ∀ x, o = some x → ∀ r ∈ x.reads, a.feClean i n r.1 r.2)
    (hm : (a.afterO i n sh o).mode = s.mode) (hl : (a.afterO i n sh o).build = s.build) :
    Twin i n ((a.afterO i n sh o).modFeBank i n sh fun b => b.decodeStage (a.afterO i n sh o).freeNat op) (s.feIssue i n op) ∧
    (((a.afterO i n sh o).engine i n).interrupts = false →
      Piped i n (s.feIssue i n op) (some (((a.afterO i n sh o).engine i n).bank sh |>.slotOf op)) (o.map (a.feOperands i n sh)) e) ∧
    ((s.feIssue i n op).engine i n).shadow = sh ∧
    (op.plain = true → (((a.afterO i n sh o).engine i n).bank sh).levels = [] → (((s.feIssue i n op).engine i n).bank sh).levels = []) := by
  obtain ⟨b1, b2, b4, b5, b6, b7⟩ := Stack.after_stages hp sh hsh a ha
  rw [Stack.feIssue_eq hp hs hn sh hsh a ha hr]
  generalize hB : a.afterO i n sh o = B at *
  have hB2 : ∃ C : Stack, C = (bif sh then B.modFeBank i n true FeBank.shift
        else (B.modFeBank i n true FeBank.shift).modFeBank i n false FeBank.shift) := ⟨_, rfl⟩
  obtain ⟨C, hC⟩ := hB2
  rw [← hC]
  have tC : Twin i n B C := by
    rw [hC]
    cases sh
    · exact ((Twin.refl B).hide true (f := FeBank.shift) fun _ => rfl).hide false (f := FeBank.shift) fun _ => rfl
    · exact (Twin.refl B).hide true (f := FeBank.shift) fun _ => rfl
  have cC : (C.engine i n).bank sh = FeBank.shift ((B.engine i n).bank sh) ∧ (C.engine i n).st = 2 ∧ (C.engine i n).shadow = sh ∧
      (sh = false → (C.engine i n).shad.o = Option.none ∧ (C.engine i n).shad.e = Option.none ∧ (C.engine i n).shad.w = Option.none) := by
    rw [hC]
    cases sh with
    | true =>
      refine ⟨?_, ?_, ?_, fun h => absurd h (by decide)⟩
      · rw [cond_true, Stack.modFeBank_bank, if_pos rfl]
      · rw [cond_true, (Stack.modFeBank_outer _ _ _ _ _).1, b5]
      · rw [cond_true, (Stack.modFeBank_outer _ _ _ _ _).2, b6]
    | false =>
      obtain ⟨f1, f2, f3⟩ := hp.other hsh
      refine ⟨?_, ?_, ?_, fun _ => ?_⟩
      · rw [cond_false, Stack.modFeBank_bank, if_pos rfl, Stack.modFeBank_bank, if_neg (by decide)]
      · rw [cond_false, (Stack.modFeBank_outer _ _ _ _ _).1, (Stack.modFeBank_outer _ _ _ _ _).1, b5]
      · rw [cond_false, (Stack.modFeBank_outer _ _ _ _ _).2, (Stack.modFeBank_outer _ _ _ _ _).2, b6]
      · have e1 : (Stack.engine (Stack.modFeBank (B.modFeBank i n true FeBank.shift) i n false FeBank.shift) i n).bank true
            = FeBank.shift ((B.engine i n).bank true) := by
          rw [Stack.modFeBank_bank, if_neg (by decide), Stack.modFeBank_bank, if_pos rfl]
        have e2 : (((B.engine i n).bank true).o, ((B.engine i n).bank true).e) = (Option.none, Option.none) :=
          Prod.ext ((congrArg (fun q => q.1) b7 :).trans f1) ((congrArg (fun q => q.2.1) b7 :).trans f2)
        rw [cond_false]
        refine ⟨(congrArg FeBank.o e1 :), (congrArg FeBank.e e1 :).trans (congrArg (fun q => q.1) e2 :), (congrArg FeBank.w e1 :).trans (congrArg (fun q => q.2) e2 :)⟩
  obtain ⟨c1, c2, c3, c4⟩ := cC
  obtain ⟨g, hg, hi⟩ := Engine.issue_steady (C.engine i n) B.freeNat hop
  rw [c3] at hi
  have hD : ∃ D : Stack, D = C.draw.modEngine i n fun e => e.issue B.freeNat op := ⟨_, rfl⟩
  obtain ⟨D, hD⟩ := hD
  rw [← hD]
  have hde : D.engine i n = (C.engine i n).modBank sh fun b => g { b.decodeStage B.freeNat op with o := some (b.slotOf op) } := by
    rw [hD, Stack.modEngine, Stack.engine_setEngine]
    exact hi
  have hdb : (D.engine i n).bank sh = g { (FeBank.shift ((B.engine i n).bank sh)).decodeStage B.freeNat op with
      o := some ((FeBank.shift ((B.engine i n).bank sh)).slotOf op) } := by
    rw [hde, Engine.bank_modBank, c1]
  have hdo : (D.engine i n).st = 2 ∧ (D.engine i n).shadow = sh := by
    rw [hde]
    cases sh <;> exact ⟨c2, c3⟩
  have hdh : ((D.engine i n).bank sh).halting = false := by
    rw [hdb, (hg _).2.2.2.2.1]
    exact (congrArg (fun q => q.2.2.2.1) (FeBank.decodeStage_stages _ B.freeNat op) :).trans b4
  have hH : D.feHaltCheck i n = D := by
    unfold Stack.feHaltCheck
    cases sh with
    | true => simp [hdo.2]
    | false =>
      have : (D.engine i n).main.halting = false := hdh
      simp [this]
  rw [hH]
  have tD : Twin i n (B.modFeBank i n sh fun b => b.decodeStage B.freeNat op) D := by
    have t1 := tC.draw.modFeBank sh (f := fun b => b.decodeStage B.freeNat op) (g := fun b => b.decodeStage B.freeNat op)
      fun d e he => FeBank.decodeStage_seen he _ _
    rw [hD]
    refine Twin.swap t1 ?_
    refine (congrArg Engine.visible hi :).trans ?_
    exact Engine.modBank_visible _ _ (hg _).1
  have hint : (B.engine i n).interrupts = false → (D.engine i n).interrupts = false := by
    intro hc
    have h1 : (D.engine i n).interrupts = ((B.modFeBank i n sh fun b => b.decodeStage B.freeNat op).engine i n).interrupts :=
      (congrArg Engine.interrupts tD.seen :)
    rw [h1, ← hc]
    unfold Stack.modFeBank Stack.modEngine
    rw [Stack.engine_setEngine]
    cases sh <;> rfl
  have hmode : D.mode = s.mode := by rw [tD.rest]; exact hm
  have hbuild : D.build = s.build := by rw [tD.rest]; exact hl
  have hslot : (FeBank.shift ((B.engine i n).bank sh)).slotOf op = ((B.engine i n).bank sh).slotOf op := by
    unfold FeBank.slotOf
    split <;> rfl
  have hds := FeBank.decodeStage_stages (FeBank.shift ((B.engine i n).bank sh)) B.freeNat op
  have hcl : ∀ p, D.mark ((feBase i n + 0xC000 + 4 * p) / 16) = .ok := fun p => by
    show mapGet _ D.health _ = _
    rw [tD.health]
    exact hB ▸ Stack.after_mark sh o w ha (hp.clean p)
  obtain ⟨tF, fF, hF⟩ := D.feStageF_calm hdo.1 hdo.2 hcl
  generalize D.feStageF i n = F at *
  have hs' : (F.engine i n).shadow = sh := (Engine.frame_shadow fF).trans hdo.2
  have hb' := Engine.frame_bank fF sh
  refine ⟨tD.trans tF, fun hc => ⟨(congrArg (fun q => q.1) fF :).trans hdo.1, ?_, ?_, tF.calm.trans (hint hc), ?_, ?_, ?_, ?_, ?_, ?_, ?_⟩,
    hs', fun hpl hv => ?_⟩
  · exact (Stack.feMode_of ((congrArg Stack.mode tF.rest :).trans hmode)).trans hp.mode
  · exact ((congrArg Stack.build tF.rest :).trans hbuild).symm ▸ hp.layer
  · rw [hs']
    refine (congrArg (fun q => q.1) hb' :).trans ?_
    show ((D.engine i n).bank sh).o = _
    rw [hdb, (hg _).2.1, hslot]
  · rw [hs']
    refine (congrArg (fun q => q.2.1) hb' :).trans ?_
    show ((D.engine i n).bank sh).e = _
    rw [hdb, (hg _).2.2.1]
    exact (congrArg (fun q => q.2.1) hds :).trans b1
  · rw [hs']
    refine (congrArg (fun q => q.2.2.1) hb' :).trans ?_
    show ((D.engine i n).bank sh).w = _
    rw [hdb, (hg _).2.2.2.1]
    exact (congrArg (fun q => q.2.2.1) hds :).trans b2
  · rw [hs']
    exact hF
  · rw [hs']
    exact (congrArg (fun q => q.2.2.2.1) hb' :).trans hdh
  · intro h
    have hx : ((F.engine i n).bank true).stages = ((C.engine i n).bank true).stages := by
      refine (Engine.frame_bank fF true).trans ?_
      have : sh = false := hs' ▸ h
      rw [hde, this]
      rfl
    obtain ⟨q1, q2, q3⟩ := c4 (hs' ▸ h)
    exact ⟨(congrArg (fun q => q.1) hx :).trans q1, (congrArg (fun q => q.2.1) hx :).trans q2, (congrArg (fun q => q.2.2.1) hx :).trans q3⟩
  · intro p
    show mapGet _ F.health _ = _
    rw [tF.health]
    exact hcl p
  · refine (congrArg (fun q => q.2.2.2.2) hb' :).trans ?_
    show ((D.engine i n).bank sh).levels = _
    rw [hdb]
    exact (hg _).2.2.2.2.2 hpl ((congrArg (fun q => q.2.2.2.2) hds :).trans hv)

theorem Stack.writeBytes_fold_mode (f : Nat → Nat) (g : Nat → List Byte) (l : List Nat) (s : Stack) :
    (l.foldl (fun (s : Stack) h => s.writeBytes (f h) (g h)) s).mode = s.mode ∧
      (l.foldl (fun (s : Stack) h => s.writeBytes (f h) (g h)) s).build = s.build := by
  induction l generalizing s with
  | nil => exact ⟨rfl, rfl⟩
  | cons h l ih => exact ih _

theorem Stack.writeQuad_mode (s : Stack) (i n mem e : Nat) (q : List Nat) :
    (s.writeQuad i n mem e q).mode = s.mode ∧ (s.writeQuad i n mem e q).build = s.build := by
  unfold Stack.writeQuad
  rw [(Stack.narrowMark_engines _ _).2.2.1, (Stack.narrowMark_engines _ _).2.2.2]
  exact Stack.writeBytes_fold_mode _ _ _ _

theorem Stack.feTake_mode (s : Stack) (i n : Nat) (sh : Bool) (x : FeSlot) :
    (s.feTake i n sh x).mode = s.mode ∧ (s.feTake i n sh x).build = s.build := by
  unfold Stack.feTake
  split
  · exact ⟨rfl, rfl⟩
  · exact ⟨rfl, rfl⟩
  · exact s.writeQuad_mode _ _ _ _ _
  · exact ⟨rfl, rfl⟩

theorem Stack.writeElem_mode (s : Stack) (i n mem e v : Nat) :
    (s.writeElem i n mem e v).mode = s.mode ∧ (s.writeElem i n mem e v).build = s.build := by
  unfold Stack.writeElem
  rw [(Stack.narrowMark_engines _ _).2.2.1, (Stack.narrowMark_engines _ _).2.2.2]
  exact ⟨rfl, rfl⟩

theorem Stack.feWrite_mode (s : Stack) (i n : Nat) (sh : Bool) (x : FeSlot) :
    (s.feWrite i n sh x).mode = s.mode ∧ (s.feWrite i n sh x).build = s.build := by
  have h : (s.modFeBank i n sh fun b => b.writeBack x).mode = s.mode ∧ (s.modFeBank i n sh fun b => b.writeBack x).build = s.build := ⟨rfl, rfl⟩
  unfold Stack.feWrite
  dsimp only
  generalize (s.modFeBank i n sh fun b => b.writeBack x) = u at *
  rw [← h.1, ← h.2]
  split
  · exact ⟨rfl, rfl⟩
  · exact ⟨rfl, rfl⟩
  · exact ⟨rfl, rfl⟩
  · exact ⟨rfl, rfl⟩
  · exact u.writeQuad_mode _ _ _ _ _
  · exact ⟨rfl, rfl⟩
  · exact ⟨rfl, rfl⟩
  · exact u.writeQuad_mode _ _ _ _ _
  · exact u.writeElem_mode _ _ _ _ _
  · exact u.writeQuad_mode _ _ _ _ _
  · exact ⟨rfl, rfl⟩

/-- A plain instruction that may stand where it does issues. -/
theorem Stack.feNext_plain {o e w : Option FeSlot} (hp : Piped i n s o e w) {op : FeOp} (hop : op.plain = true) (hl : op.legal = true)
    (he : e = Option.none ∨ ∀ b : FeBank, (b.slotOf op).reads = []) : s.feNext i n (some op) = some (some op, 0) := by
  unfold Stack.feNext
  obtain ⟨q, hq⟩ := Option.isSome_iff_exists.1 hp.fetched
  simp only [hp.halting, hq, Bool.false_eq_true, if_false, Option.isNone_some, Bool.false_and]
  have hb : ∀ sh, ((s.engine i n).bank (s.engine i n).shadow).badPlace sh (((s.engine i n).bank (s.engine i n).shadow).slotOf op) = false := by
    intro sh
    have hx : (((s.engine i n).bank (s.engine i n).shadow).slotOf op).op = op := by unfold FeBank.slotOf; split <;> rfl
    have he' : ((s.engine i n).bank (s.engine i n).shadow).e = Option.none ∨
        (((s.engine i n).bank (s.engine i n).shadow).slotOf op).reads = [] := by
      rcases he with he | he
      · exact Or.inl (by rw [hp.e, he])
      · exact Or.inr (he _)
    generalize ((s.engine i n).bank (s.engine i n).shadow).slotOf op = x at *
    generalize (s.engine i n).bank (s.engine i n).shadow = b at *
    unfold FeBank.badPlace
    rcases he' with he | he
    · rw [hx, he]
      cases op <;> first | exact absurd hop Bool.false_ne_true | simp [FeOp.isBranch]
    · rw [hx, he]
      cases b.e.bind fun y => y.op.writesMem
      all_goals cases op <;> first | exact absurd hop Bool.false_ne_true | simp [FeOp.isBranch]
  rw [hb, hl]
  have hd : ∀ q : Bool, (match op with
        | .rep _ _ | .repr _ _ => q
        | _ => false) = false := by
    intro q
    cases op <;> first | rfl | exact absurd hop Bool.false_ne_true
  cases op <;> first | rfl | exact absurd hop Bool.false_ne_true

theorem Stack.feClean_of {s t : Stack} (h : t.health = s.health) {mem a : Nat} (hc : s.feClean i n mem a) : t.feClean i n mem a := by
  unfold Stack.feClean Stack.mark at *
  rw [h]
  exact hc

theorem Stack.feTake_nop (s : Stack) (sh : Bool) {x : FeSlot} (hx : x.op = .nop) : s.feTake i n sh x = s := by
  unfold Stack.feTake
  rw [hx]

theorem Stack.feOperands_nop (s : Stack) (sh : Bool) {x : FeSlot} (hx : x.op = .nop) : s.feOperands i n sh x = x := by
  unfold Stack.feOperands
  rw [hx]

theorem FeSlot.reads_nop {x : FeSlot} (hx : x.op = .nop) : x.reads = [] := by
  unfold FeSlot.reads
  rw [hx]

theorem FeBank.slotOf_op (b : FeBank) (op : FeOp) : (b.slotOf op).op = op := by
  unfold FeBank.slotOf
  split <;> rfl

theorem Engine.inBlocked_nop {e : Engine} {x : FeSlot} (hx : x.op = .nop) : e.inBlocked (some x) = false := by
  unfold Engine.inBlocked
  dsimp only
  rw [hx]
  rfl

/-- No stall, when neither the slot in stage W nor that in stage O waits. -/
theorem Piped.no_stall {o e w : Option FeSlot} (hp : Piped i n s o e w) (ho : (s.engine i n).inBlocked o = false)
    (hw : (s.engine i n).outBlocked w = false) : (s.engine i n).stallNow = 0 := by
  have h1 := hp.o
  have h2 := hp.w
  unfold Engine.stallNow Engine.running
  cases hs : (s.engine i n).shadow with
  | true =>
    rw [hs] at h1 h2
    simp [h1, h2, ho, hw]
  | false =>
    rw [hs] at h1 h2
    obtain ⟨f1, f2, f3⟩ := hp.other hs
    have g1 : ((s.engine i n).bank true).o = Option.none := f1
    have g3 : ((s.engine i n).bank true).w = Option.none := f3
    simp only [if_neg Bool.false_ne_true, List.any_cons, List.any_nil, h1, h2, g1, g3, ho, hw]
    rfl

theorem Twin.inBlocked (h : Twin i n s t) (o : Option FeSlot) : (t.engine i n).inBlocked o = (s.engine i n).inBlocked o := by
  unfold Engine.inBlocked
  simp only [h.fifo]

theorem Twin.outBlocked (h : Twin i n s t) (o : Option FeSlot) : (t.engine i n).outBlocked o = (s.engine i n).outBlocked o := by
  unfold Engine.outBlocked
  simp only [h.fifo]

/-- An instruction issued with nothing ahead of it, and three NOP instructions after it: what a program sees is as stage D of the
instruction, then its stages O and W, make it (R262). -/
theorem Stack.fe_runs_of (hr : s.feReady i n) {op : FeOp} (hop : op.steady = true) (hn : s.feNext i n (some op) = some (some op, 0)) {sh : Bool}
    (hsh : (s.engine i n).shadow = sh) {x : FeSlot} (hx : x = ((s.engine i n).bank sh).slotOf op)
    {u z : Stack} (hu : u = s.modFeBank i n sh fun b => b.decodeStage s.freeNat op) (hz : z = u.feTake i n sh x)
    (hv : op.readsLevels = false ∨ (op.plain = true ∧ ((s.engine i n).bank sh).levels = []))
    (hc : ∀ r ∈ x.reads, s.feClean i n r.1 r.2) (hi : (s.engine i n).inBlocked (some x) = false)
    (ho : (z.engine i n).outBlocked (some (u.feOperands i n sh x)) = false) (hk : (z.engine i n).interrupts = false) :
    Twin i n (z.feWrite i n sh (u.feOperands i n sh x))
      ((((s.feIssue i n op).feIssue i n .nop).feIssue i n .nop).feIssue i n .nop) := by
  have p0 := Piped.of_ready hr
  have st0 : ∀ t : Stack, Twin i n t (t.setEngine i n { t.engine i n with stall := 0 }) := fun t => (Twin.refl t).set rfl
  -- stage D
  have c1 := Stack.fe_cycle p0 hop (p0.no_stall rfl rfl) hn sh hsh _ rfl (by simp) rfl rfl
  generalize hs1 : s.feIssue i n op = s1 at *
  have t1 : Twin i n u s1 := by
    rw [hu]
    refine Twin.trans ((st0 s).modFeBank sh (f := fun b => b.decodeStage s.freeNat op) (g := fun b => b.decodeStage s.freeNat op) fun d e he => FeBank.decodeStage_seen he _ _) c1.1
  have x1 : ((((s.setEngine i n { s.engine i n with stall := 0 }).engine i n).bank sh).slotOf op) = x := by
    rw [hx, Stack.engine_setEngine]
    cases sh <;> rfl
  have p1 : Piped i n s1 (some x) Option.none Option.none := by
    have := c1.2.1 (by
      show ((s.setEngine i n { s.engine i n with stall := 0 }).engine i n).interrupts = false
      rw [Stack.engine_setEngine]
      exact hr.2.2.2.1)
    rw [← x1]
    exact this
  -- stage O
  have u1 : (u.engine i n).inBlocked (some x) = false := by
    have : (u.engine i n).inBlocked (some x) = (s.engine i n).inBlocked (some x) := by
      have hf : ∀ p, (u.engine i n).fifo p = (s.engine i n).fifo p := by
        intro p
        rw [hu, Stack.modFeBank, Stack.modEngine, Stack.engine_setEngine]
        cases sh <;> rfl
      unfold Engine.inBlocked
      simp only [hf]
    rw [this, hi]
  generalize ha1 : s1.setEngine i n { s1.engine i n with stall := 0 } = a1
  have ta1 : Twin i n u a1 := by rw [← ha1]; exact t1.trans (st0 s1)
  have hh : a1.health = s.health := by rw [ta1.health, hu]; rfl
  have hxo : x.op = op := by rw [hx]; exact FeBank.slotOf_op _ _
  have hy : a1.feOperands i n sh x = u.feOperands i n sh x := by
    refine ta1.operands sh x ?_
    rw [hxo]
    rcases hv with hv | hv
    · exact Or.inl hv
    · refine Or.inr ⟨?_, ?_⟩
      · rw [← ha1, Stack.engine_setEngine]
        have hlv : (((s.setEngine i n { s.engine i n with stall := 0 }).engine i n).bank sh).levels = [] := by
          rw [Stack.engine_setEngine]
          cases sh <;> exact hv.2
        have := c1.2.2.2 hv.1 hlv
        cases sh <;> exact this
      · rw [hu, Stack.modFeBank_bank, if_pos rfl]
        exact (congrArg (fun q => q.2.2.2.2) (FeBank.decodeStage_stages _ s.freeNat op) :).trans hv.2
  have c2 := Stack.fe_cycle p1 (op := .nop) rfl (p1.no_stall (by rw [t1.inBlocked]; exact u1) rfl)
    (Stack.feNext_plain p1 rfl rfl (Or.inl rfl)) sh c1.2.2.1 a1 ha1.symm
    (fun q hq r hm => by
      cases hq
      exact Stack.feClean_of hh (hc r hm))
    (by
      show (a1.feTake i n sh x).mode = s1.mode
      rw [(Stack.feTake_mode _ _ _ _ _).1, ← ha1]; rfl)
    (by
      show (a1.feTake i n sh x).build = s1.build
      rw [(Stack.feTake_mode _ _ _ _ _).2, ← ha1]; rfl)
  generalize hs2 : s1.feIssue i n .nop = s2 at *
  have tz : Twin i n z (a1.afterO i n sh (some x)) := by
    rw [hz]
    exact (ta1.take sh x).hide sh fun _ => rfl
  have t2 : Twin i n z s2 := (tz.modFeBank sh (f := fun b => b) (g := fun b => b) fun d e he => he).trans c2.1 |> fun q => by
    have e : Twin i n z (z.modFeBank i n sh fun b => b) := (Twin.refl z).hide sh fun _ => rfl
    exact e.trans q
  have p2 := c2.2.1 (by rw [tz.calm]; exact hk)
  rw [Option.map_some, hy] at p2
  have n2 : ∃ y, some y = some ((((a1.afterO i n sh (some x)).engine i n).bank sh).slotOf .nop) ∧ y.op = .nop := ⟨_, rfl, FeBank.slotOf_op _ _⟩
  obtain ⟨y2, e2, o2⟩ := n2
  rw [← e2] at p2
  have idleO : ∀ (a : Stack) (q : FeSlot), q.op = .nop → Twin i n a (a.afterO i n sh (some q)) := by
    intro a q hq
    show Twin i n a ((a.feTake i n sh q).modFeBank i n sh _)
    rw [Stack.feTake_nop a sh hq]
    exact (Twin.refl a).hide sh fun _ => rfl
  -- stage E
  generalize ha2 : s2.setEngine i n { s2.engine i n with stall := 0 } = a2
  have ta2 : Twin i n z a2 := by rw [← ha2]; exact t2.trans (st0 s2)
  have c3 := Stack.fe_cycle p2 (op := .nop) rfl (p2.no_stall (Engine.inBlocked_nop o2) rfl)
    (Stack.feNext_plain p2 rfl rfl (Or.inr fun b => FeSlot.reads_nop (FeBank.slotOf_op _ _))) sh c2.2.2.1 a2 ha2.symm
    (fun q hq r hm => by
      cases hq
      rw [FeSlot.reads_nop o2] at hm
      cases hm)
    (by
      show (a2.feTake i n sh y2).mode = s2.mode
      rw [Stack.feTake_nop a2 sh o2, ← ha2]; rfl)
    (by
      show (a2.feTake i n sh y2).build = s2.build
      rw [Stack.feTake_nop a2 sh o2, ← ha2]; rfl)
  generalize hs3 : s2.feIssue i n .nop = s3 at *
  have tb2 : Twin i n z (a2.afterO i n sh (some y2)) := ta2.trans (idleO a2 y2 o2)
  have hideNop : ∀ b : Stack, Twin i n b (b.modFeBank i n sh fun b => b) := fun b => (Twin.refl b).hide sh fun _ => rfl
  have t3 : Twin i n z s3 := (tb2.trans (hideNop _)).trans c3.1
  have p3 := c3.2.1 (by rw [tb2.calm]; exact hk)
  rw [Option.map_some, Stack.feOperands_nop a2 sh o2] at p3
  have n3 : ∃ y, some y = some ((((a2.afterO i n sh (some y2)).engine i n).bank sh).slotOf .nop) ∧ y.op = .nop := ⟨_, rfl, FeBank.slotOf_op _ _⟩
  obtain ⟨y3, e3, o3⟩ := n3
  rw [← e3] at p3
  -- stage W
  generalize hy' : u.feOperands i n sh x = y at *
  generalize ha3 : (s3.setEngine i n { s3.engine i n with stall := 0 }).afterW i n sh (some y) = a3
  have ta3 : Twin i n (z.feWrite i n sh y) a3 := by
    rw [← ha3]
    exact ((t3.trans (st0 s3)).write sh y).hide sh fun _ => rfl
  have c4 := Stack.fe_cycle p3 (op := .nop) rfl (p3.no_stall (Engine.inBlocked_nop o3) (by rw [t3.outBlocked]; exact ho))
    (Stack.feNext_plain p3 rfl rfl (Or.inr fun b => FeSlot.reads_nop (FeBank.slotOf_op _ _))) sh c3.2.2.1 a3 ha3.symm
    (fun q hq r hm => by
      cases hq
      rw [FeSlot.reads_nop o3] at hm
      cases hm)
    (by
      show (a3.feTake i n sh y3).mode = s3.mode
      rw [Stack.feTake_nop a3 sh o3, ← ha3]
      exact (Stack.feWrite_mode _ _ _ _ _).1)
    (by
      show (a3.feTake i n sh y3).build = s3.build
      rw [Stack.feTake_nop a3 sh o3, ← ha3]
      exact (Stack.feWrite_mode _ _ _ _ _).2)
  exact ((ta3.trans (idleO a3 y3 o3)).trans (hideNop _)).trans c4.1

/-- The same of an instruction that stands legally wherever it stands. -/
theorem Stack.fe_runs (hr : s.feReady i n) {op : FeOp} (hop : op.plain = true) (hl : op.legal = true) {sh : Bool}
    (hsh : (s.engine i n).shadow = sh) {x : FeSlot} (hx : x = ((s.engine i n).bank sh).slotOf op)
    {u z : Stack} (hu : u = s.modFeBank i n sh fun b => b.decodeStage s.freeNat op) (hz : z = u.feTake i n sh x)
    (hv : op.readsLevels = false ∨ ((s.engine i n).bank sh).levels = [])
    (hc : ∀ r ∈ x.reads, s.feClean i n r.1 r.2) (hi : (s.engine i n).inBlocked (some x) = false)
    (ho : (z.engine i n).outBlocked (some (u.feOperands i n sh x)) = false) (hk : (z.engine i n).interrupts = false) :
    Twin i n (z.feWrite i n sh (u.feOperands i n sh x))
      ((((s.feIssue i n op).feIssue i n .nop).feIssue i n .nop).feIssue i n .nop) :=
  Stack.fe_runs_of hr (FeOp.steady_of_plain hop) (Stack.feNext_plain (Piped.of_ready hr) hop hl (Or.inl rfl)) hsh hx hu hz
    (hv.imp_right fun h => ⟨hop, h⟩) hc hi ho hk

/-! ## Elements and quads in memory -/

theorem Stack.narrowMark_mem (s : Stack) (loc : Nat) : (s.narrowMark loc).mem = s.mem := by
  show (Stack.meetCodeword s _ _ _).mem = _
  have he : ∀ ue a l y, (s.errorEvent ue a l y).mem = s.mem := by
    intro ue a l y
    unfold Stack.errorEvent
    cases ue <;> simp only [Bool.false_eq_true, if_false, if_true] <;> split <;> rfl
  unfold Stack.meetCodeword
  split
  · rfl
  · exact he _ _ _ _
  · exact he _ _ _ _
  · exact he _ _ _ _

theorem Stack.readByte_mem {s t : Stack} (h : t.mem = s.mem) (p : Nat) : t.readByte p = s.readByte p := by
  unfold Stack.readByte
  rw [h]

theorem Stack.readElem_mem {s t : Stack} (h : t.mem = s.mem) (mem a : Nat) : t.readElem i n mem a = s.readElem i n mem a := by
  unfold Stack.readElem Stack.readBytes Stack.readByte
  rw [h]

/-- A byte after two bytes have been written. -/
theorem Stack.readByte_pair (s : Stack) (a v p : Nat) : (s.writeBytes a (toBytes 2 v)).readByte p =
    if p = a then BitVec.ofNat 8 v else if p = a + 1 then BitVec.ofNat 8 (v / 256) else s.readByte p := by
  rw [Stack.readByte_writeBytes]
  by_cases h : p = a
  · subst h
    simp [toBytes]
  · by_cases h1 : p = a + 1
    · subst h1
      simp [toBytes]
    · rw [if_neg h, if_neg h1, if_neg (by simp; omega)]

theorem Stack.readElem_pair (s : Stack) (i n mem a v : Nat) (hv : v < 2 ^ 14) :
    (s.writeBytes (elemLoc i n mem a) (toBytes 2 v)).readElem i n mem a = v := by
  unfold Stack.readElem Stack.readBytes
  simp only [List.range, List.range.loop, List.map, Stack.readByte_pair, ofBytes]
  simp
  omega

/-- What two bytes of another element do not reach. -/
theorem Stack.readElem_pair_ne (s : Stack) (i n mem a loc v : Nat) (h0 : loc + 1 < elemLoc i n mem a ∨ elemLoc i n mem a + 1 < loc) :
    (s.writeBytes loc (toBytes 2 v)).readElem i n mem a = s.readElem i n mem a := by
  unfold Stack.readElem Stack.readBytes
  simp only [List.range, List.range.loop, List.map, Stack.readByte_pair]
  rw [if_neg (by omega), if_neg (by omega), if_neg (by omega), if_neg (by omega)]

theorem Stack.writeElem_stored (s : Stack) (i n mem a v : Nat) : s.ElemStored i n mem a v (s.writeElem i n mem a v) := by
  have hm := Stack.narrowMark_mem (s.writeBytes (elemLoc i n mem a) (toBytes 2 (v % 2 ^ 14))) (elemLoc i n mem a)
  refine ⟨?_, fun p h1 h2 => ?_⟩
  · refine (Stack.readElem_mem hm _ _).trans ?_
    exact Stack.readElem_pair _ _ _ _ _ _ (Nat.mod_lt _ (by decide))
  · refine (Stack.readByte_mem hm _).trans ?_
    rw [Stack.readByte_pair, if_neg h1, if_neg h2]

theorem elemLoc_quad (i n mem q h : Nat) (hh : h < 4) : elemLoc i n mem (4 * q + h) = elemLoc i n mem (4 * q) + 2 * h := by
  unfold elemLoc memSize
  split <;> omega

theorem Stack.writeQuad_stored (s : Stack) (i n mem a : Nat) (q : List Nat) : s.QuadStored i n mem a q (s.writeQuad i n mem a q) := by
  have hm := Stack.narrowMark_mem ((List.range 4).foldl (fun (s : Stack) h =>
    s.writeBytes (elemLoc i n mem (4 * (a / 4) + h)) (toBytes 2 (q.getD h 0 % 2 ^ 14))) s) (elemLoc i n mem (4 * (a / 4)))
  have hv : ∀ h, q.getD h 0 % 2 ^ 14 < 2 ^ 14 := fun h => Nat.mod_lt _ (by decide)
  have hl := elemLoc_quad i n mem (a / 4)
  refine ⟨fun h hh => ?_, fun p hp => ?_⟩
  · refine (Stack.readElem_mem hm _ _).trans ?_
    simp only [List.range, List.range.loop, List.foldl]
    have c : h = 0 ∨ h = 1 ∨ h = 2 ∨ h = 3 := by omega
    rcases c with rfl | rfl | rfl | rfl
    · rw [Stack.readElem_pair_ne _ _ _ _ _ _ _ (by rw [hl 3 (by omega), hl 0 (by omega)]; omega),
        Stack.readElem_pair_ne _ _ _ _ _ _ _ (by rw [hl 2 (by omega), hl 0 (by omega)]; omega),
        Stack.readElem_pair_ne _ _ _ _ _ _ _ (by rw [hl 1 (by omega), hl 0 (by omega)]; omega), Stack.readElem_pair _ _ _ _ _ _ (hv 0)]
    · rw [Stack.readElem_pair_ne _ _ _ _ _ _ _ (by rw [hl 3 (by omega), hl 1 (by omega)]; omega),
        Stack.readElem_pair_ne _ _ _ _ _ _ _ (by rw [hl 2 (by omega), hl 1 (by omega)]; omega), Stack.readElem_pair _ _ _ _ _ _ (hv 1)]
    · rw [Stack.readElem_pair_ne _ _ _ _ _ _ _ (by rw [hl 3 (by omega), hl 2 (by omega)]; omega), Stack.readElem_pair _ _ _ _ _ _ (hv 2)]
    · rw [Stack.readElem_pair _ _ _ _ _ _ (hv 3)]
  · refine (Stack.readByte_mem hm _).trans ?_
    simp only [List.range, List.range.loop, List.foldl, Stack.readByte_pair]
    rw [if_neg (hp 3 (by omega)).1, if_neg (hp 3 (by omega)).2, if_neg (hp 2 (by omega)).1, if_neg (hp 2 (by omega)).2,
      if_neg (hp 1 (by omega)).1, if_neg (hp 1 (by omega)).2, if_neg (hp 0 (by omega)).1, if_neg (hp 0 (by omega)).2]

end Sys2Proof.Machine
end

