-- ==== Sys2Proof/Laws/Modes.lean ====
section
/-! SUPPORT. What the mode sequencer's shared operations do: a request held, a permitted request, a refusal, a device turn made. -/

namespace Sys2Proof.Machine

variable (s : State) (m : Mode) (a : Nat)

/-! ## A request held -/

@[simp] theorem State.holdRequest_hasSide (k : Side) : (s.holdRequest m a).hasSide k = s.hasSide k := by simp [State.holdRequest]

theorem State.holdRequest_keeps : s.KeepsPackage (s.holdRequest m a) := State.onStack_keeps _ _ _

theorem State.holdRequest_onlyChanges (k : Side) {P : List Part} {F : List Field} (h : SYS.MODE_REQ_TARGET ∈ F)
    (h' : SYS.MODE_REQ_AFTER_DUSK ∈ F) : (s.stack k).OnlyChanges P F ((s.holdRequest m a).stack k) := by
  cases k
  · exact ((Stack.OnlyChanges.refl _ P F).put _ h).put _ h'
  · exact Stack.OnlyChanges.refl _ _ _

@[simp] theorem State.holdRequest_sys (k : Side) : ((s.holdRequest m a).stack k).sys = (s.stack k).sys := by cases k <;> rfl
@[simp] theorem State.holdRequest_stackMode (k : Side) : ((s.holdRequest m a).stack k).mode = (s.stack k).mode := by cases k <;> rfl
@[simp] theorem State.holdRequest_turn (k : Side) : ((s.holdRequest m a).stack k).turn = (s.stack k).turn := by cases k <;> rfl
@[simp] theorem State.holdRequest_bist (k : Side) : ((s.holdRequest m a).stack k).bist = (s.stack k).bist := by cases k <;> rfl
@[simp] theorem State.holdRequest_ledger (k : Side) : ((s.holdRequest m a).stack k).ledger = (s.stack k).ledger := by cases k <;> rfl
@[simp] theorem State.holdRequest_mode : (s.holdRequest m a).mode = s.recto.mode := rfl
@[simp] theorem State.holdRequest_rectoSys : (s.holdRequest m a).recto.sys = s.recto.sys := rfl

theorem State.holdRequest_get (k : Side) {f : Field} (h : SYS.MODE_REQ_TARGET.key ≠ f.key) (h' : SYS.MODE_REQ_AFTER_DUSK.key ≠ f.key) :
    ((s.holdRequest m a).stack k).get f = (s.stack k).get f :=
  (s.holdRequest_onlyChanges m a k (P := []) (F := [SYS.MODE_REQ_TARGET, SYS.MODE_REQ_AFTER_DUSK]) (by simp) (by simp)).2.2.2 f
    (by simp [h, h'])

theorem State.holdRequest_target : (s.holdRequest m a).recto.get SYS.MODE_REQ_TARGET = m.code := by
  have h : (s.holdRequest m a).recto = (s.recto.put SYS.MODE_REQ_TARGET m.code).put SYS.MODE_REQ_AFTER_DUSK a := rfl
  rw [h, Stack.get_put_ne _ _ (by decide), Stack.get_put_same]
  cases m <;> rfl

@[simp] theorem State.holdRequest_busy : (s.holdRequest m a).recto.flag SYS.MODE_BUSY = s.recto.flag SYS.MODE_BUSY := by
  have h := s.holdRequest_get m a .recto (f := SYS.MODE_BUSY) (by decide) (by decide)
  unfold Stack.flag
  exact congrArg (· != 0) h

theorem State.holdRequest_armed (k : Side) : ((s.holdRequest m a).stack k).turnArmed = (s.stack k).turnArmed := by
  unfold Stack.turnArmed Stack.flag
  rw [s.holdRequest_get m a k (by decide) (by decide)]

/-! ## Requests -/

/-- A permitted request begins its move. -/
theorem State.modeReq_move {v : Move} (h : (s.holdRequest m a).moveOf m = some v) (h' : (s.holdRequest m a).moveRefusal v = 0) :
    s.modeReq .recto m a = (s.holdRequest m a).move v := by simp [State.modeReq, h, h']

/-- A request for a move that R29's table lacks is refused. -/
theorem State.modeReq_noMove (h : (s.holdRequest m a).moveOf m = none) :
    s.modeReq .recto m a = (s.holdRequest m a).modeRefuse 1 := by simp [State.modeReq, h]

/-- What a permitted request takes: no move in progress, no turn armed, no recovery at stack level or above. -/
theorem State.moveRefusal_zero {v : Move} (hb : s.recto.flag SYS.MODE_BUSY = false)
    (ht : v = .siesta ∨ v = .dusk → ∀ k, s.hasSide k = true → (s.stack k).flag TURN.STATUS_PENDING = false)
    (hr : ∀ k, s.hasSide k = true → ∀ r ∈ (s.stack k).sys.recoveries, r.res.level < 3) :
    (s.holdRequest m a).moveRefusal v = 0 := by
  have h4 : ((s.holdRequest m a).anyStack fun t => t.sys.recoveries.any fun r => decide (3 ≤ r.res.level)) = false := by
    rw [State.anyStack_false]
    intro k hk
    simpa using hr k (by simpa using hk)
  have h3 : ((v == .siesta || v == .dusk) && (s.holdRequest m a).anyStack Stack.turnArmed) = false := by
    by_cases hv : v = .siesta ∨ v = .dusk
    · rw [State.anyStack_false.2 fun k hk => ?_, Bool.and_false]
      rw [s.holdRequest_armed]
      exact ht hv k (by simpa using hk)
    · simp only [not_or] at hv
      simp [hv.1, hv.2]
  simp only [State.moveRefusal, State.holdRequest_busy, hb, h3, h4, Bool.false_and]
  rfl

/-! ## A device turn made with no turn armed (R237, R238, R241, R249) -/

theorem Stack.makeDevTurn_idle (t : Stack) (d : DevTurn) (h : t.turnArmed = false) (hw : t.turn.waiting = []) :
    t.makeDevTurn d = t.turnStart (some d) := by
  simp [Stack.makeDevTurn, h, hw]

theorem Stack.turnStart_onlyChanges (t : Stack) (d : DevTurn) :
    t.OnlyChanges [.turn] [TURN.ITEMS_COUNT, TURN.SEQ_NEXT, TURN.STATUS_PENDING, TURN.STATUS_STAGE, TURN.STATUS_DEVICE]
      (t.turnStart (some d)) := by
  unfold Stack.turnStart
  refine Stack.OnlyChanges.put (Stack.OnlyChanges.put (Stack.OnlyChanges.put (Stack.OnlyChanges.put ?_ _ (by simp)) _ (by simp)) _ (by simp)) _ (by simp)
  refine Stack.OnlyChanges.trans (t.put_onlyChanges (t.deviceItems d) (f := TURN.ITEMS_COUNT) (by simp)) ?_
  exact ⟨rfl, rfl, fun p hp => by cases p <;> first | rfl | simp at hp, fun f _ => rfl⟩

theorem Stack.turnStart_dev (t : Stack) (d : DevTurn) : (t.turnStart (some d)).turn.dev = some d := rfl

theorem Stack.turnStart_pending (t : Stack) (d : DevTurn) : (t.turnStart (some d)).get TURN.STATUS_PENDING = 1 := by
  unfold Stack.turnStart
  rw [Stack.get_put_ne _ _ (by decide), Stack.get_put_ne _ _ (by decide), Stack.get_put_same]
  rfl

/-! ## Running DMA channels stopped (R399) -/

theorem Stack.dmaStopAll_get (t : Stack) {n : Nat} (hn : n < 32) :
    t.dmaStopAll.get (DMA.STATE_STATE n) = if t.get (DMA.STATE_STATE n) = 1 then 2 else t.get (DMA.STATE_STATE n) := by
  have key : ∀ (l : List Nat) (t : Stack), l.Nodup →
      (l.foldl (fun s n => if s.dmaState n = 1 then s.put (DMA.STATE_STATE n) 2 else s) t).get (DMA.STATE_STATE n) =
        if n ∈ l ∧ t.get (DMA.STATE_STATE n) = 1 then 2 else t.get (DMA.STATE_STATE n) := by
    intro l
    induction l with
    | nil => intro t _; simp
    | cons b l ih =>
      intro t hd
      simp only [List.nodup_cons] at hd
      simp only [List.foldl]
      rw [ih _ hd.2]
      by_cases hb : n = b
      · subst hb
        by_cases h : t.dmaState n = 1
        · have h' : t.get (DMA.STATE_STATE n) = 1 := h
          rw [if_pos h, Stack.get_put_same]
          rw [if_neg (by simp [hd.1]), if_pos ⟨List.mem_cons_self, h'⟩]
          rfl
        · have h' : ¬t.get (DMA.STATE_STATE n) = 1 := h
          simp [h, h']
      · have hk : (DMA.STATE_STATE b).key ≠ (DMA.STATE_STATE n).key := by simp [DMA.STATE_STATE]; omega
        by_cases h : t.dmaState b = 1 <;> simp [h, hb, Stack.get_put_ne _ _ hk]
  have h := key (List.range 32) t List.nodup_range
  simp only [List.mem_range, hn, true_and] at h
  exact h

theorem Stack.dmaStopAll_get_ne (t : Stack) {f : Field} (h : ∀ n, (DMA.STATE_STATE n).key ≠ f.key) : t.dmaStopAll.get f = t.get f := by
  have key : ∀ (l : List Nat) (t : Stack),
      (l.foldl (fun s n => if s.dmaState n = 1 then s.put (DMA.STATE_STATE n) 2 else s) t).get f = t.get f := by
    intro l
    induction l with
    | nil => intro t; rfl
    | cons b l ih =>
      intro t
      simp only [List.foldl]
      rw [ih]
      split
      · exact Stack.get_put_ne _ _ (h b)
      · rfl
  exact key _ t

/-! ## Dusk begins -/

/-- The stack in which the stop turn of Dusk is made. -/
theorem Stack.duskEntry_get (u : Stack) (y : Sys) {f : Field} (h : SYS.MODE_BUSY.key ≠ f.key) :
    (({ u with mode := .dusk, sys := y } : Stack).put SYS.MODE_BUSY 1).get f = u.get f := by
  rw [Stack.get_put_ne _ _ h]
  rfl

/-- Dusk entered with no turn armed: its fields and the stop turn (R34, R249, R399). -/
theorem Stack.duskEntry (u : Stack) (y : Sys) (d : DevTurn) (h : u.turnArmed = false) (hw : u.turn.waiting = []) :
    let t := (({ u with mode := .dusk, sys := y } : Stack).put SYS.MODE_BUSY 1).makeDevTurn d
    t.mode = .dusk ∧ t.sys = y ∧ t.get SYS.MODE_BUSY = 1 ∧ t.turn.dev = some d ∧ t.get TURN.STATUS_PENDING = 1 ∧
      ∀ f, (∀ g ∈ [SYS.MODE_BUSY, TURN.ITEMS_COUNT, TURN.SEQ_NEXT, TURN.STATUS_PENDING, TURN.STATUS_STAGE, TURN.STATUS_DEVICE], g.key ≠ f.key) →
        t.get f = u.get f := by
  have i : (({ u with mode := .dusk, sys := y } : Stack).put SYS.MODE_BUSY 1).turnArmed = false := by
    unfold Stack.turnArmed Stack.flag at h ⊢
    rw [Stack.duskEntry_get u y (by decide)]
    exact h
  intro t
  have e : t = (({ u with mode := .dusk, sys := y } : Stack).put SYS.MODE_BUSY 1).turnStart (some d) := Stack.makeDevTurn_idle _ d i hw
  have c := Stack.turnStart_onlyChanges (({ u with mode := .dusk, sys := y } : Stack).put SYS.MODE_BUSY 1) d
  rw [← e] at c
  refine ⟨c.2.2.1 .mode (by simp), c.2.2.1 .sys (by simp), ?_, by rw [e]; rfl, by rw [e]; exact Stack.turnStart_pending _ d, fun f hf => ?_⟩
  · rw [c.2.2.2 _ (by decide), Stack.get_put_same]
    rfl
  · rw [c.2.2.2 f fun g hg => hf g (List.mem_cons_of_mem _ hg), Stack.duskEntry_get u y (hf _ List.mem_cons_self)]

theorem Stack.allRegulated_turn (u : Stack) : u.allRegulated.turn = u.turn := rfl

theorem Stack.allRegulated_get (u : Stack) {f : Field} (h1 : POWER.FEED_RAW.key ≠ f.key) (h2 : POWER.REG_STATUS_BUSY.key ≠ f.key) :
    u.allRegulated.get f = u.get f :=
  (Stack.get_put_ne (u.put POWER.FEED_RAW 0) 0 h2).trans (Stack.get_put_ne u 0 h1)

/-! ## The move to Day (R55, R385) -/

/-- With no vertical data link retired, the move to Day finds no group dead or degraded (R385). -/
theorem Stack.linksAtDay_none (t : Stack) (h : ∀ l ∈ t.build.links, (t.vlink l).state ≠ 2) : t.linksAtDay = t := by
  have key : ∀ (ls : List Nat), (∀ l ∈ ls, (t.vlink l).state ≠ 2) →
      ls.foldl (fun acc l => if (t.vlink l).state = 2 ∧ !(acc.any fun m => (if 2 ≤ m / 8192 then m / 16 else m / 256) ==
        (if 2 ≤ l / 8192 then l / 16 else l / 256)) then acc ++ [l] else acc) ([] : List Nat) = [] := by
    intro ls
    induction ls with
    | nil => intro _; rfl
    | cons l ls ih =>
      intro hl
      rw [List.foldl, if_neg fun hh => hl l (by simp) hh.1]
      exact ih fun m hm => hl m (by simp [hm])
  unfold Stack.linksAtDay
  dsimp only
  rw [key _ h]
  rfl

/-! ## Entry to Haven (R28, R45) -/

theorem Stack.dmaStopAll_sys (t : Stack) : t.dmaStopAll.sys = t.sys :=
  foldl_keeps (q := Stack.sys) (fun s b => by split <;> rfl) _ _

theorem Stack.dmaStopAll_turn (t : Stack) : t.dmaStopAll.turn = t.turn :=
  foldl_keeps (q := Stack.turn) (fun s b => by split <;> rfl) _ _

theorem Stack.laceDiscard_sys (t : Stack) (k : Nat) : (t.laceDiscard k).sys = t.sys := by
  unfold Stack.laceDiscard Stack.laceDrop
  dsimp only
  split <;> rfl

theorem Stack.linksDown_sys (t : Stack) : t.linksDown.sys = t.sys :=
  foldl_keeps (q := Stack.sys) (fun s b => by
    unfold Stack.laceModeDown
    split
    · rfl
    · rw [Stack.laceDiscard_sys]
      split <;> rfl) _ _

theorem Stack.enterHaven_facts (t : Stack) :
    t.enterHaven.mode = .haven ∧ t.enterHaven.sys.outputs = .safe ∧ t.enterHaven.sys.recoveries = [] ∧
      t.enterHaven.get SYS.DAWN_STEP = 0 ∧ t.enterHaven.get SYS.MODE_BUSY = 0 ∧ t.enterHaven.get SYS.INT_MODE_DONE = 1 := by
  unfold Stack.enterHaven Stack.moveDone
  dsimp only
  refine ⟨rfl, rfl, ?_, ?_, ?_, ?_⟩
  · simp only [Stack.raise_sys, Stack.put_sys, Stack.linksDown_sys, Stack.dmaStopAll_sys]
    rfl
  · rw [Stack.get_raise_ne _ (by decide), Stack.get_put_ne _ _ (by decide), Stack.get_put_same]
    rfl
  · rw [Stack.get_raise_ne _ (by decide), Stack.get_put_same]
    rfl
  · rw [Stack.get_raise_same]
    rfl

end Sys2Proof.Machine
end

