-- ==== Sys2Proof/Laws/Package.lean ====
section
/-! SUPPORT. One law for each operation over the package: the build, the queue and an absent stack are left as they are
(`State.KeepsPackage`). The laws are rewrites, so `simp` chains them. -/

namespace Sys2Proof.Machine

variable {p q : State}

@[simp] theorem keeps_refl : p.KeepsPackage p := .refl p

@[simp] theorem keeps_onStack (k : Side) (f : Stack → Stack) : p.KeepsPackage (q.onStack k f) ↔ p.KeepsPackage q := by
  refine ⟨fun h => ?_, fun h => h.trans (q.onStack_keeps k f)⟩
  have hb : q.build = p.build := by simpa using h.1
  refine ⟨hb, by simpa using h.2.1, fun hp => ?_⟩
  rw [← h.2.2 hp]
  exact ((q.onStack_keeps k f).2.2 (by rw [hb]; exact hp)).symm

@[simp] theorem keeps_putStack (k : Side) (t : Stack) : p.KeepsPackage (q.putStack k t) ↔ p.KeepsPackage q := keeps_onStack k _
@[simp] theorem keeps_onBoth (f : Stack → Stack) : p.KeepsPackage (q.onBoth f) ↔ p.KeepsPackage q := by simp [State.onBoth]

theorem keeps_foldl {β : Type} (l : List β) (f : State → β → State) (hf : ∀ q b, p.KeepsPackage (f q b) ↔ p.KeepsPackage q) :
    p.KeepsPackage (l.foldl f q) ↔ p.KeepsPackage q := by
  induction l generalizing q with
  | nil => exact Iff.rfl
  | cons b l ih => exact ih.trans (hf q b)

@[simp] theorem keeps_packageHaven : p.KeepsPackage (q.packageHaven) ↔ p.KeepsPackage q := by
  unfold State.packageHaven
  try dsimp only
  (repeat' split) <;> simp

@[simp] theorem keeps_mirrorFault (k : Side) (r : Recovery) : p.KeepsPackage (q.mirrorFault k r) ↔ p.KeepsPackage q := by
  unfold State.mirrorFault
  try dsimp only
  (repeat' split) <;> simp

@[simp] theorem keeps_onStackFault (k : Side) (f : Stack → Stack) : p.KeepsPackage (q.onStackFault k f) ↔ p.KeepsPackage q := by
  unfold State.onStackFault
  try dsimp only
  (repeat' split) <;> simp

@[simp] theorem keeps_applyExchange (x : Exchange) : p.KeepsPackage (q.applyExchange x) ↔ p.KeepsPackage q := by
  unfold State.applyExchange
  try dsimp only
  (repeat' split) <;> simp

@[simp] theorem keeps_setHeld (x : Option Exchange) : p.KeepsPackage (q.setHeld x) ↔ p.KeepsPackage q := by
  unfold State.setHeld
  try dsimp only
  (repeat' split) <;> simp

@[simp] theorem keeps_loseSync : p.KeepsPackage (q.loseSync) ↔ p.KeepsPackage q := by
  unfold State.loseSync
  try dsimp only
  (repeat' split) <;> simp

@[simp] theorem keeps_closeWindow : p.KeepsPackage (q.closeWindow) ↔ p.KeepsPackage q := by
  unfold State.closeWindow
  try dsimp only
  (repeat' split) <;> simp

@[simp] theorem keeps_standbyFrame (b : Bool) : p.KeepsPackage (q.standbyFrame b) ↔ p.KeepsPackage q := by
  unfold State.standbyFrame
  try dsimp only
  (repeat' split) <;> simp

@[simp] theorem keeps_mirrorExchange (b : Bool) : p.KeepsPackage (q.mirrorExchange b) ↔ p.KeepsPackage q := by
  unfold State.mirrorExchange
  try dsimp only
  (repeat' split) <;> simp

@[simp] theorem keeps_resyncFail : p.KeepsPackage (q.resyncFail) ↔ p.KeepsPackage q := by
  unfold State.resyncFail
  try dsimp only
  (repeat' split) <;> simp

@[simp] theorem keeps_switchOver (k : Side) : p.KeepsPackage (q.switchOver k) ↔ p.KeepsPackage q := by
  unfold State.switchOver
  try dsimp only
  (repeat' split) <;> simp

@[simp] theorem keeps_startDawn (w : Bool) : p.KeepsPackage (q.startDawn w) ↔ p.KeepsPackage q := by
  unfold State.startDawn
  try dsimp only
  (repeat' split) <;> simp

@[simp] theorem keeps_startDusk (c : Bool) : p.KeepsPackage (q.startDusk c) ↔ p.KeepsPackage q := by
  unfold State.startDusk
  try dsimp only
  (repeat' split) <;> simp

@[simp] theorem keeps_startWake : p.KeepsPackage (q.startWake) ↔ p.KeepsPackage q := by
  unfold State.startWake
  try dsimp only
  (repeat' split) <;> simp

@[simp] theorem keeps_returnToDay : p.KeepsPackage (q.returnToDay) ↔ p.KeepsPackage q := by
  unfold State.returnToDay
  try dsimp only
  (repeat' split) <;> simp

@[simp] theorem keeps_duskTo (n : Nat) (f : Stack → Stack) : p.KeepsPackage (q.duskTo n f) ↔ p.KeepsPackage q := by
  unfold State.duskTo
  try dsimp only
  (repeat' split) <;> simp

@[simp] theorem keeps_duskEnd : p.KeepsPackage (q.duskEnd) ↔ p.KeepsPackage q := by
  unfold State.duskEnd
  try dsimp only
  (repeat' split) <;> simp

@[simp] theorem keeps_dawnFail (c : Nat) : p.KeepsPackage (q.dawnFail c) ↔ p.KeepsPackage q := by
  unfold State.dawnFail
  try dsimp only
  (repeat' split) <;> simp

@[simp] theorem keeps_dawnWorkshop : p.KeepsPackage (q.dawnWorkshop) ↔ p.KeepsPackage q := by
  unfold State.dawnWorkshop
  try dsimp only
  (repeat' split) <;> simp

@[simp] theorem keeps_dawnDone : p.KeepsPackage (q.dawnDone) ↔ p.KeepsPackage q := by
  unfold State.dawnDone
  try dsimp only
  (repeat' split) <;> simp

@[simp] theorem keeps_syncConflicts (k : Side) : p.KeepsPackage (q.syncConflicts k) ↔ p.KeepsPackage q := by
  refine keeps_foldl _ _ fun r w => ?_
  dsimp only
  split <;> simp

theorem keeps_dawn9 {r : State} (h : q.dawn9 = some r) : p.KeepsPackage r ↔ p.KeepsPackage q := by
  unfold State.dawn9 at h
  dsimp only at h
  (repeat' split at h) <;> cases h <;> (try split) <;> simp

@[simp] theorem keeps_dawnTo (n : Nat) (f : Stack → Stack) : p.KeepsPackage (q.dawnTo n f) ↔ p.KeepsPackage q := by
  unfold State.dawnTo
  try dsimp only
  (repeat' split) <;> simp

@[simp] theorem keeps_dawn8 : p.KeepsPackage q.dawn8 ↔ p.KeepsPackage q := by
  unfold State.dawn8
  split
  · rename_i r v _ hv
    have h : p.KeepsPackage { q with recto := r, verso := v } ↔ p.KeepsPackage q := by
      have hv' : q.build ≠ .atlas → v = q.verso := fun hb => by
        rw [if_neg hb] at hv
        exact (Option.some.inj hv).symm
      exact ⟨fun h => ⟨h.1, h.2.1, fun hb => (hv' (by rw [show q.build = p.build from h.1]; exact hb)) ▸ h.2.2 hb⟩,
        fun h => ⟨h.1, h.2.1, fun hb => (hv' (by rw [h.1]; exact hb)).trans (h.2.2 hb)⟩⟩
    dsimp only
    split <;> simp [h]
  · simp

@[simp] theorem keeps_modeRefuse (c : Nat) : p.KeepsPackage (q.modeRefuse c) ↔ p.KeepsPackage q := by
  unfold State.modeRefuse
  try dsimp only
  (repeat' split) <;> simp

@[simp] theorem keeps_move (m : Move) : p.KeepsPackage (q.move m) ↔ p.KeepsPackage q := by
  unfold State.move
  try dsimp only
  (repeat' split) <;> simp

@[simp] theorem keeps_modeReq (k : Side) (m : Mode) (a : Nat) : p.KeepsPackage (q.modeReq k m a) ↔ p.KeepsPackage q := by
  unfold State.modeReq
  try dsimp only
  (repeat' split) <;> simp [State.holdRequest]

@[simp] theorem keeps_wake : p.KeepsPackage (q.wake) ↔ p.KeepsPackage q := by
  unfold State.wake
  try dsimp only
  (repeat' split) <;> simp

@[simp] theorem keeps_vigilTimer : p.KeepsPackage (q.vigilTimer) ↔ p.KeepsPackage q := by
  unfold State.vigilTimer
  try dsimp only
  (repeat' split) <;> simp

@[simp] theorem keeps_failIn (l : List Nat) (c : Nat) : p.KeepsPackage (q.failIn l c) ↔ p.KeepsPackage q := by
  unfold State.failIn
  try dsimp only
  (repeat' split) <;> simp

@[simp] theorem keeps_lockTimeout (k : Side) : p.KeepsPackage (q.lockTimeout k) ↔ p.KeepsPackage q := by
  unfold State.lockTimeout
  try dsimp only
  (repeat' split) <;> simp

@[simp] theorem keeps_pairLink : p.KeepsPackage (q.pairLink) ↔ p.KeepsPackage q := by
  unfold State.pairLink
  try dsimp only
  (repeat' split) <;> simp

@[simp] theorem keeps_reenable (k : Side) (a n : Nat) : p.KeepsPackage (q.reenable k a n) ↔ p.KeepsPackage q := by
  unfold State.reenable
  try dsimp only
  (repeat' split) <;> simp

@[simp] theorem keeps_arm (k : Side) : p.KeepsPackage (q.arm k) ↔ p.KeepsPackage q := by
  unfold State.arm
  try dsimp only
  (repeat' split) <;> simp

@[simp] theorem keeps_pairFailed (k : Side) : p.KeepsPackage (q.pairFailed k) ↔ p.KeepsPackage q := by
  unfold State.pairFailed
  try dsimp only
  (repeat' split) <;> simp

@[simp] theorem keeps_onTurn (k : Side) (f : Stack → Stack) : p.KeepsPackage (q.onTurn k f) ↔ p.KeepsPackage q := by
  unfold State.onTurn
  try dsimp only
  (repeat' split) <;> simp

@[simp] theorem keeps_checkComplete (k : Side) : p.KeepsPackage (q.checkComplete k) ↔ p.KeepsPackage q := by
  unfold State.checkComplete
  try dsimp only
  (repeat' split) <;> simp

@[simp] theorem keeps_lastExamination (k : Side) : p.KeepsPackage (q.lastExamination k) ↔ p.KeepsPackage q := by
  unfold State.lastExamination
  try dsimp only
  (repeat' split) <;> simp

@[simp] theorem keeps_turnApply (k : Side) : p.KeepsPackage (q.turnApply k) ↔ p.KeepsPackage q := by
  unfold State.turnApply
  try dsimp only
  (repeat' split) <;> simp

@[simp] theorem keeps_partnerTime (k : Side) (n : Nat) : p.KeepsPackage (q.partnerTime k n) ↔ p.KeepsPackage q := by
  unfold State.partnerTime
  try dsimp only
  (repeat' split) <;> simp

@[simp] theorem keeps_dbgEnd (k : Side) (n g st : Nat) (d : List Nat) : p.KeepsPackage (q.dbgEnd k n g st d) ↔ p.KeepsPackage q := by
  unfold State.dbgEnd
  try dsimp only
  (repeat' split) <;> simp

@[simp] theorem keeps_respond (k : Side) (n g st : Nat) (d : List Nat) (a : Bool) : p.KeepsPackage (q.respond k n g st d a) ↔ p.KeepsPackage q := by
  unfold State.respond
  try dsimp only
  (repeat' split) <;> simp

@[simp] theorem keeps_timeout (k : Side) (n g : Nat) : p.KeepsPackage (q.timeout k n g) ↔ p.KeepsPackage q := by
  unfold State.timeout
  try dsimp only
  (repeat' split) <;> simp

@[simp] theorem keeps_setIr (n : Nat) : p.KeepsPackage (q.setIr n) ↔ p.KeepsPackage q := by
  unfold State.setIr
  try dsimp only
  (repeat' split) <;> simp

@[simp] theorem keeps_bypass : p.KeepsPackage (q.bypass) ↔ p.KeepsPackage q := by
  unfold State.bypass
  try dsimp only
  (repeat' split) <;> simp

@[simp] theorem keeps_loadBoundary (l : List Nat) : p.KeepsPackage (q.loadBoundary l) ↔ p.KeepsPackage q := by
  unfold State.loadBoundary
  try dsimp only
  (repeat' split) <;> simp

@[simp] theorem keeps_driveHeld (ir : Nat) : p.KeepsPackage (q.driveHeld ir) ↔ p.KeepsPackage q := by
  unfold State.driveHeld
  split <;> simp

@[simp] theorem keeps_drive (n : Nat) (l : List Nat) : p.KeepsPackage (q.drive n l) ↔ p.KeepsPackage q := by
  unfold State.drive
  try dsimp only
  (repeat' split) <;> simp

@[simp] theorem keeps_onPort (f : Stack → Stack) : p.KeepsPackage (q.onPort f) ↔ p.KeepsPackage q := by
  unfold State.onPort
  try dsimp only
  (repeat' split) <;> simp

@[simp] theorem keeps_debugAccess (k : Side) (a : Nat) (w : Bool) (v : Nat) : p.KeepsPackage (q.debugAccess k a w v) ↔ p.KeepsPackage q := by
  unfold State.debugAccess
  try dsimp only
  (repeat' split) <;> simp

@[simp] theorem keeps_conflictClear (k : Side) (w v : Nat) : p.KeepsPackage (q.conflictClear k w v) ↔ p.KeepsPackage q := by
  unfold State.conflictClear
  try dsimp only
  (repeat' split) <;> simp

@[simp] theorem keeps_uartSend (k : Side) (b : Nat) : p.KeepsPackage (q.uartSend k b) ↔ p.KeepsPackage q := by
  unfold State.uartSend
  try dsimp only
  (repeat' split) <;> simp

@[simp] theorem keeps_regulatorSuspect (k : Side) (n : Nat) : p.KeepsPackage (q.regulatorSuspect k n) ↔ p.KeepsPackage q := by
  unfold State.regulatorSuspect
  try dsimp only
  (repeat' split) <;> simp

@[simp] theorem keeps_handoverComplete (k : Side) (n : Nat) (b : Bool) : p.KeepsPackage (q.handoverComplete k n b) ↔ p.KeepsPackage q := by
  unfold State.handoverComplete
  try dsimp only
  (repeat' split) <;> simp

@[simp] theorem keeps_supplyExcursion (k : Side) (n : Nat) (b : Bool) : p.KeepsPackage (q.supplyExcursion k n b) ↔ p.KeepsPackage q := by
  unfold State.supplyExcursion
  try dsimp only
  (repeat' split) <;> simp

@[simp] theorem keeps_trip (k : Side) (d : Nat) : p.KeepsPackage (q.trip k d) ↔ p.KeepsPackage q := by
  unfold State.trip
  try dsimp only
  (repeat' split) <;> simp

@[simp] theorem keeps_critical : p.KeepsPackage (q.critical) ↔ p.KeepsPackage q := by
  unfold State.critical
  try dsimp only
  (repeat' split) <;> simp

@[simp] theorem keeps_temperatureSample (k : Side) (d : Nat) (l : List (Option Nat)) : p.KeepsPackage (q.temperatureSample k d l) ↔ p.KeepsPackage q := by
  unfold State.temperatureSample
  try dsimp only
  (repeat' split) <;> simp

@[simp] theorem keeps_unlock (v : Nat) : p.KeepsPackage (q.unlock v) ↔ p.KeepsPackage q := by
  unfold State.unlock
  try dsimp only
  (repeat' split) <;> simp

@[simp] theorem keeps_unlockStep : p.KeepsPackage (q.unlockStep) ↔ p.KeepsPackage q := by
  unfold State.unlockStep
  try dsimp only
  (repeat' split) <;> simp

@[simp] theorem keeps_relock' (k : Side) : p.KeepsPackage (q.relock' k) ↔ p.KeepsPackage q := by
  unfold State.relock'
  try dsimp only
  (repeat' split) <;> simp

@[simp] theorem keeps_sectWrite (k : Side) (i off v : Nat) : p.KeepsPackage (q.sectWrite k i off v) ↔ p.KeepsPackage q := by
  unfold State.sectWrite
  try dsimp only
  (repeat' split) <;> simp

@[simp] theorem keeps_modeReqWrite (k : Side) (v : Nat) : p.KeepsPackage (q.modeReqWrite k v) ↔ p.KeepsPackage q := by
  unfold State.modeReqWrite
  try dsimp only
  (repeat' split) <;> simp

@[simp] theorem keeps_pinsWrite (k : Side) (off v : Nat) : p.KeepsPackage (q.pinsWrite k off v) ↔ p.KeepsPackage q := by
  unfold State.pinsWrite
  try dsimp only
  (repeat' split) <;> simp

@[simp] theorem keeps_testWrite (k : Side) (off v : Nat) : p.KeepsPackage (q.testWrite k off v) ↔ p.KeepsPackage q := by
  unfold State.testWrite
  try dsimp only
  (repeat' split) <;> simp

@[simp] theorem keeps_turnWrite (k : Side) (off v : Nat) : p.KeepsPackage (q.turnWrite k off v) ↔ p.KeepsPackage q := by
  unfold State.turnWrite
  try dsimp only
  (repeat' split) <;> simp

@[simp] theorem keeps_liveWrite (k : Side) (b off v : Nat) : p.KeepsPackage (q.liveWrite k b off v) ↔ p.KeepsPackage q := by
  unfold State.liveWrite
  try dsimp only
  (repeat' split) <;> simp

@[simp] theorem keeps_accessRead (k : Side) (b off : Nat) : p.KeepsPackage (q.accessRead k b off) ↔ p.KeepsPackage q := by
  unfold State.accessRead
  try dsimp only
  (repeat' split) <;> simp

@[simp] theorem keeps_serveReg (k : Side) (op : Nat) (h : Header) (f : State → State) :
    p.KeepsPackage (q.serveReg k op h f) ↔ p.KeepsPackage (f q) := keeps_putStack k _

@[simp] theorem keeps_accessWrite (k : Side) (b off v : Nat) : p.KeepsPackage (q.accessWrite k b off v) ↔ p.KeepsPackage q := by
  unfold State.accessWrite
  try dsimp only
  (repeat' split) <;> simp

end Sys2Proof.Machine
end

