-- ==== Sys2Proof/Laws/Registers.lean ====
section
/-! SUPPORT. Register writes: the fields of a row do not overlap, so each takes its own bits (R6). -/

namespace Sys2Proof.Machine

/-- The fields of a row start at different bits. -/
def RegRow.apart (r : RegRow) : Bool := decide (r.fields.Pairwise fun f g => f.lo ≠ g.lo)

set_option maxRecDepth 8000 in
theorem regTable_apart : (regTable.all RegRow.apart) = true := by decide

theorem regAt_apart {block off : Nat} {r : RegRow} (h : regAt block off = some r) : r.fields.Pairwise fun f g => f.lo ≠ g.lo := by
  have hm : r ∈ regTable := List.mem_of_find?_eq_some h
  have ha := List.all_eq_true.1 regTable_apart r hm
  simpa [RegRow.apart] using ha

/-- Writes to fields that start at different bits of one word: each takes its own value, computed from what it held. -/
theorem Stack.foldl_put_apart (block off : Nat) (w : FSpec → Nat → Option Nat) (l : List FSpec) (hl : l.Pairwise fun f g => f.lo ≠ g.lo)
    (s : Stack) (sel : Field → Field) (hs : ∀ f g, f.key ≠ g.key → (sel f).key ≠ (sel g).key) :
    let t := l.foldl (fun s f => match w f (s.get (sel (f.field block off))) with
      | some v => s.put (sel (f.field block off)) v
      | none => s) s
    (∀ f ∈ l, t.get (sel (f.field block off)) = match w f (s.get (sel (f.field block off))) with
      | some v => v % 2 ^ (sel (f.field block off)).width
      | none => s.get (sel (f.field block off))) ∧
    s.OnlyChanges [] (l.map fun f => sel (f.field block off)) t := by
  induction l generalizing s with
  | nil => exact ⟨by simp, Stack.OnlyChanges.refl _ _ _⟩
  | cons a l ih =>
    simp only [List.pairwise_cons] at hl
    obtain ⟨ha, hl⟩ := hl
    have apart : ∀ f ∈ l, (sel (a.field block off)).key ≠ (sel (f.field block off)).key := fun f hf =>
      hs _ _ (by simp only [FSpec.field]; have := ha f hf; omega)
    simp only [List.foldl]
    have first : s.OnlyChanges [] ((a :: l).map fun f => sel (f.field block off))
        (match w a (s.get (sel (a.field block off))) with
        | some v => s.put (sel (a.field block off)) v
        | none => s) := by
      split
      · exact s.put_onlyChanges _ (by simp)
      · exact Stack.OnlyChanges.refl _ _ _
    have same : ∀ f ∈ l, (match w a (s.get (sel (a.field block off))) with
        | some v => s.put (sel (a.field block off)) v
        | none => s).get (sel (f.field block off)) = s.get (sel (f.field block off)) := by
      intro f hf
      split
      · exact Stack.get_put_ne _ _ (apart f hf)
      · rfl
    obtain ⟨h1, h2⟩ := ih hl (match w a (s.get (sel (a.field block off))) with
        | some v => s.put (sel (a.field block off)) v
        | none => s)
    refine ⟨fun f hf => ?_, first.trans (h2.mono (by simp) (by intro f hf; exact List.mem_cons_of_mem _ hf))⟩
    rcases List.mem_cons.1 hf with rfl | hf
    · rw [h2.2.2.2 _ (by
        intro g hg
        obtain ⟨f', hf', rfl⟩ := List.mem_map.1 hg
        exact (apart f' hf').symm)]
      split <;> simp
    · rw [h1 f hf, same f hf]

theorem bits_mod (v lo w : Nat) : bits v lo w % 2 ^ w = bits v lo w := by simp [bits]

theorem liveOffset_low {off : Nat} (h : off < 0x8000) : liveOffset off = (off, false) := by
  have h' : ¬0x8000 ≤ off := by omega
  simp [liveOffset, h']

theorem liveOffset_staged (off : Nat) : liveOffset (0x8000 + off) = (off, true) := by simp [liveOffset]

/-- What a listed register has: an aligned offset, a row of the table, and, for a staged copy, a staged field. -/
theorem Build.regRow_some {b : Build} {block off : Nat} {r : RegRow} (h : b.regRow block off = some r) :
    off % 4 = 0 ∧ regAt block (liveOffset off).1 = some r ∧ ((liveOffset off).2 = true → r.fields.any (·.ty == .st) = true) := by
  unfold Build.regRow at h
  dsimp only at h
  split at h
  · exact absurd h (by simp)
  · rename_i hc
    split at h
    · rename_i r' hr
      split at h
      · exact absurd h (by simp)
      · rename_i hs
        cases h
        refine ⟨by omega, hr, fun h2 => ?_⟩
        rw [h2] at hs
        simpa using hs
    · exact absurd h (by simp)

/-- What a write by type does to a register's fields, and that it does nothing else (R6). -/
theorem Stack.plainWrite_fields (s : Stack) {block off v : Nat} {r : RegRow} (h : regAt block off = some r) :
    (∀ f ∈ r.fields, (s.plainWrite block off v).get (f.field block off) =
      match f.ty with
      | .rw => bits v f.lo f.width
      | .w1c => (s.get (f.field block off) - (s.get (f.field block off) &&& bits v f.lo f.width)) % 2 ^ f.width
      | _ => s.get (f.field block off)) ∧
    s.OnlyChanges [] (r.fields.map fun f => f.field block off) (s.plainWrite block off v) := by
  have hp := Stack.foldl_put_apart block off (fun f old => match f.ty with
    | .rw => some (bits v f.lo f.width)
    | .w1c => some (old - (old &&& bits v f.lo f.width))
    | _ => none) r.fields (regAt_apart h) s id (fun _ _ h => h)
  have he : s.plainWrite block off v = r.fields.foldl (fun s f => match (match f.ty with
      | .rw => some (bits v f.lo f.width)
      | .w1c => some (s.get (id (f.field block off)) - (s.get (id (f.field block off)) &&& bits v f.lo f.width))
      | _ => none) with
    | some v => s.put (id (f.field block off)) v
    | none => s) s := by
    simp only [Stack.plainWrite, h]
    congr 1
    funext s f
    cases f.ty <;> rfl
  refine ⟨fun f hf => ?_, by rw [he]; exact hp.2⟩
  have h1 := hp.1 f hf
  rw [he]
  refine h1.trans ?_
  cases f.ty <;> simp [FSpec.field, bits_mod]

/-- What a write to a staged copy does when no lock holds it (R6). -/
theorem Stack.putStaged_fields (s : Stack) {block off v : Nat} (h : s.pinLocked block off = false) :
    (∀ f ∈ stagedFields block off, (s.putStaged block off v).get (f.field block off).staged = bits v f.lo f.width) ∧
    s.OnlyChanges [] ((stagedFields block off).map fun f => (f.field block off).staged) (s.putStaged block off v) := by
  have hw : (stagedFields block off).Pairwise fun f g => f.lo ≠ g.lo := by
    unfold stagedFields
    split
    · rename_i r hr
      exact (regAt_apart hr).sublist List.filter_sublist
    · exact List.Pairwise.nil
  have hp := Stack.foldl_put_apart block off (fun f _ => some (bits v f.lo f.width)) (stagedFields block off) hw s Field.staged
    (fun f g h => by simpa [Field.staged] using h)
  have he : s.putStaged block off v = (stagedFields block off).foldl (fun s f => s.put (f.field block off).staged (bits v f.lo f.width)) s := by
    simp [Stack.putStaged, h]
  refine ⟨fun f hf => ?_, by rw [he]; exact hp.2⟩
  rw [he]
  refine (hp.1 f hf).trans ?_
  simp [FSpec.field, Field.staged, bits_mod]

end Sys2Proof.Machine
end

