-- ==== Sys2Proof/Laws/Sections.lean ====
section
/-! SUPPORT. What the shared operations on sections do: sections replaced and changed, commands taken, RUN written, stops drained. -/

namespace Sys2Proof.Machine

variable {P : List Part} {F : List Field}

@[simp] theorem Stack.sect_setSect (s : Stack) (n m : Nat) (x : Section) : (s.setSect n x).sect m = if n = m then x else s.sect m :=
  mapGet_mapSet ({} : Section) s.sections n m x

@[simp] theorem Stack.sect_put (s : Stack) (f : Field) (v n : Nat) : (s.put f v).sect n = s.sect n := rfl

theorem Stack.sect_of_sections {s t : Stack} (h : t.sections = s.sections) (n : Nat) : t.sect n = s.sect n := by
  unfold Stack.sect
  rw [h]

/-! ## Nesting depends on the sections alone -/

theorem Stack.climb_of_sections {s t : Stack} (h : t.sections = s.sections) (d n : Nat) : t.climb d n = s.climb d n := by
  induction d generalizing n with
  | zero => rfl
  | succ d ih =>
    unfold Stack.climb
    rw [Stack.sect_of_sections h, ih]

theorem Stack.rootOf_of_sections {s t : Stack} (h : t.sections = s.sections) (n : Nat) : t.rootOf n = s.rootOf n := by
  unfold Stack.rootOf
  rw [Stack.sect_of_sections h, Stack.climb_of_sections h]

theorem Stack.sectionNumbers_of_sections {s t : Stack} (h : t.sections = s.sections) : t.sectionNumbers = s.sectionNumbers := by
  unfold Stack.sectionNumbers
  rw [h]

theorem Stack.family_of_sections {s t : Stack} (h : t.sections = s.sections) (n : Nat) : t.family n = s.family n := by
  unfold Stack.family
  rw [Stack.sectionNumbers_of_sections h]
  congr 1
  funext m
  unfold Stack.ancestorOrSelf
  rw [Stack.sect_of_sections h]
  congr 1
  funext d
  rw [Stack.climb_of_sections h]

theorem Stack.nest_of_sections {s t : Stack} (h : t.sections = s.sections) (n : Nat) : t.nest n = s.nest n := by
  unfold Stack.nest
  rw [Stack.sectionNumbers_of_sections h]
  congr 1
  funext m
  rw [Stack.rootOf_of_sections h]

theorem Stack.ownerOf_of_sections {s t : Stack} (h : t.sections = s.sections) (x : Tile) : t.ownerOf x = s.ownerOf x := by
  unfold Stack.ownerOf
  rw [Stack.sectionNumbers_of_sections h]
  congr 1
  funext acc n
  simp only [Stack.sect_of_sections h]

theorem Stack.tileState_of_sections {s t : Stack} (h : t.sections = s.sections) (x : Tile) : t.tileState x = s.tileState x := by
  unfold Stack.tileState
  rw [Stack.ownerOf_of_sections h]
  split <;> simp only [Stack.sect_of_sections h]

theorem Stack.livePlane_of_sections {s t : Stack} (h : t.sections = s.sections) (hr : t.regs = s.regs) (n : Nat) :
    t.livePlane n = s.livePlane n := by
  unfold Stack.livePlane
  dsimp only
  rw [Stack.rootOf_of_sections h, Stack.sect_of_sections h, Stack.get_of_regs hr]

theorem Stack.homed_of_sections {s t : Stack} (h : t.sections = s.sections) (i n : Nat) : t.homed i n = s.homed i n := by
  unfold Stack.homed
  rw [Stack.sect_of_sections h]

/-- One section's share of a write of RUN (R173). -/
def Stack.runLiveOne (t : Stack) (n v reset m : Nat) : Stack :=
  let i := (t.sect m).home
  let t := t.putBoth (SECT.RUN_LIVE i m) v
  if m = n then t else t.putBoth (SECT.RUN_RESET i m) reset

theorem Stack.runLiveOne_sections (t : Stack) (n v reset m : Nat) : (t.runLiveOne n v reset m).sections = t.sections := by
  unfold Stack.runLiveOne
  dsimp only
  split <;> rfl

theorem Stack.runLiveOne_onlyChanges (t : Stack) (n v reset m : Nat) : t.OnlyChanges P (t.runFields m) (t.runLiveOne n v reset m) := by
  unfold Stack.runLiveOne Stack.runFields Stack.putBoth
  dsimp only
  have h := ((Stack.OnlyChanges.refl t P (t.runFields m)).put (f := SECT.RUN_LIVE (t.sect m).home m) v (by simp [Stack.runFields])).put
    (f := (SECT.RUN_LIVE (t.sect m).home m).staged) v (by simp [Stack.runFields])
  split
  · exact h
  · exact (h.put (f := SECT.RUN_RESET (t.sect m).home m) reset (by simp [Stack.runFields])).put (f := (SECT.RUN_RESET (t.sect m).home m).staged)
      reset (by simp [Stack.runFields])

/-- RUN written through a family, before RESET acts: the sections are as they were and only RUN fields change (R173). -/
theorem Stack.foldRunLive_sections (l : List Nat) (s : Stack) (n v reset : Nat) :
    (l.foldl (fun t m => t.runLiveOne n v reset m) s).sections = s.sections := by
  induction l generalizing s with
  | nil => rfl
  | cons m l ih => exact (ih _).trans (Stack.runLiveOne_sections s n v reset m)

theorem Stack.setRunLive_eq (s : Stack) (n v : Nat) :
    s.setRunLive n v =
      (let t := (s.family n).foldl (fun t m => t.runLiveOne n v (s.get (SECT.RUN_RESET (s.sect n).home n)) m) s
       if s.get (SECT.RUN_RESET (s.sect n).home n) = 1 then { t with fabric := t.fabric.resetFlipFlops (s.sect n).tiles (t.livePlane n) } else t) :=
  rfl

theorem Stack.setRunLive_sections (s : Stack) (n v : Nat) : (s.setRunLive n v).sections = s.sections := by
  rw [Stack.setRunLive_eq]
  dsimp only
  split <;> exact Stack.foldRunLive_sections _ s n v _

/-! ## Sections changed -/

/-- A section outside the list is as it was. -/
theorem modSects_not_mem (s : Stack) {l : List Nat} (f : Section → Section) {m : Nat} (h : m ∉ l) : (s.modSects l f).sect m = s.sect m := by
  unfold Stack.modSects
  induction l generalizing s with
  | nil => rfl
  | cons n l ih =>
    simp only [List.mem_cons, not_or] at h
    rw [List.foldl, ih _ h.2, Stack.modSect, Stack.sect_setSect, if_neg (Ne.symm h.1)]

/-- What a change gives to every section that it may give it, each section of the list has afterwards. -/
theorem modSects_mem (s : Stack) {l : List Nat} {f : Section → Section} {Q : Section → Prop} {m : Nat} (h : m ∈ l) (hq : ∀ x, Q (f x)) :
    Q ((s.modSects l f).sect m) := by
  unfold Stack.modSects
  induction l generalizing s with
  | nil => cases h
  | cons n l ih =>
    rw [List.foldl]
    by_cases hm : m ∈ l
    · exact ih _ hm
    · have hn : n = m := by
        rcases List.mem_cons.1 h with h | h
        · exact h.symm
        · exact absurd h hm
      have := modSects_not_mem (s.modSect n f) f hm
      unfold Stack.modSects at this
      rw [this, Stack.modSect, Stack.sect_setSect, if_pos hn]
      exact hq _

/-- A change that is done with once it has been made has been made to every section of the list, whatever repetitions the list has. -/
theorem modSects_idem (s : Stack) {l : List Nat} {f : Section → Section} (hf : ∀ x, f (f x) = f x) {m : Nat} (h : m ∈ l) :
    (s.modSects l f).sect m = f (s.sect m) := by
  unfold Stack.modSects
  induction l generalizing s with
  | nil => cases h
  | cons n l ih =>
    rw [List.foldl]
    by_cases hm : m ∈ l
    · rw [ih _ hm, Stack.modSect, Stack.sect_setSect]
      split
      · subst n
        exact hf _
      · rfl
    · have hn : n = m := by
        rcases List.mem_cons.1 h with h | h
        · exact h.symm
        · exact absurd h hm
      have := modSects_not_mem (s.modSect n f) f hm
      unfold Stack.modSects at this
      rw [this, Stack.modSect, Stack.sect_setSect, if_pos hn, hn]

/-- What a change preserves, every section keeps. -/
theorem modSects_keeps (s : Stack) (l : List Nat) {f : Section → Section} {α : Type} (q : Section → α) (hq : ∀ x, q (f x) = q x) (m : Nat) :
    q ((s.modSects l f).sect m) = q (s.sect m) := by
  unfold Stack.modSects
  induction l generalizing s with
  | nil => rfl
  | cons n l ih =>
    rw [List.foldl, ih, Stack.modSect, Stack.sect_setSect]
    split
    · subst n
      exact hq _
    · rfl

/-- A permitted command that is taken: its fields are held, RESULT is 0, and its effect follows (R177, R191). -/
theorem Stack.sectCmd_taken (s : Stack) {i n op : Nat} {permitted : Stack → Bool} {effect : Stack → Stack} (h : s.takesCommand i n)
    (hp : permitted s = true) :
    s.sectCmd i n op permitted effect =
      effect (((s.put (SECT.CMD_SECTION i) n).put (SECT.CMD_OP i) op).put (SECT.CMD_STATUS_RESULT i) 0) := by
  obtain ⟨hb, hh, ha⟩ := h
  have hr : s.cmdRefusal i n true = 0 := by
    unfold Stack.cmdRefusal
    simp only [hh, Bool.not_true, Bool.false_eq_true, if_false]
    cases hA : s.turnArmed
    · simp
    · simp [(ha hA).1, (ha hA).2]
  simp [Stack.sectCmd, hb, hp, hr]

theorem Stack.foldRunLive_onlyChanges (s : Stack) (n v reset : Nat) (l : List Nat) (t : Stack) (ht : t.sections = s.sections) :
    t.OnlyChanges P (l.flatMap s.runFields) (l.foldl (fun t m => t.runLiveOne n v reset m) t) := by
  induction l generalizing t with
  | nil => exact Stack.OnlyChanges.refl _ _ _
  | cons m l ih =>
    have hm : t.runFields m = s.runFields m := by
      unfold Stack.runFields
      rw [Stack.sect_of_sections ht]
    refine ((t.runLiveOne_onlyChanges n v reset m).mono (fun _ h => h) fun f hf => ?_).trans
      ((ih _ ((Stack.runLiveOne_sections t n v reset m).trans ht)).mono (fun _ h => h) fun f hf => ?_)
    · rw [List.flatMap_cons, ← hm]
      exact List.mem_append_left _ hf
    · rw [List.flatMap_cons]
      exact List.mem_append_right _ hf

/-- RUN written in a section and its descendants: both copies of LIVE and RESET, and, where RESET holds, the flip-flops (R173, R176). -/
theorem Stack.setRunLive_onlyChanges (s : Stack) (n v : Nat) (h : .fabric ∈ P) :
    s.OnlyChanges P ((s.family n).flatMap s.runFields) (s.setRunLive n v) := by
  rw [Stack.setRunLive_eq]
  dsimp only
  have key := Stack.foldRunLive_onlyChanges (P := P) s n v (s.get (SECT.RUN_RESET (s.sect n).home n)) (s.family n) s rfl
  split
  · exact key.trans ⟨rfl, rfl, fun p hp => by cases p <;> first | rfl | exact absurd h hp, fun _ _ => rfl⟩
  · exact key

/-- What one section's share of a write of RUN leaves in a RUN field (R173). -/
theorem Stack.get_runLiveOne (t : Stack) {n v reset b : Nat} {f : Field} (hf : f.reset = 0) :
    (t.runLiveOne n v reset b).get f =
      if b ≠ n ∧ (f.key = (SECT.RUN_RESET (t.sect b).home b).key ∨ f.key = (SECT.RUN_RESET (t.sect b).home b).staged.key) then reset % 2
      else if f.key = (SECT.RUN_LIVE (t.sect b).home b).key ∨ f.key = (SECT.RUN_LIVE (t.sect b).home b).staged.key then v % 2
      else t.get f := by
  have put : ∀ (u : Stack) (g : Field) (w : Nat), g.reset = 0 → g.width = 1 →
      (u.put g w).get f = if f.key = g.key then w % 2 else u.get f := by
    intro u g w hg hw
    rw [Stack.get_put u g f w fun _ => by rw [hf, hg], hw]
    simp only [eq_comm, Nat.pow_one]
  unfold Stack.runLiveOne Stack.putBoth
  dsimp only
  by_cases hb : b = n
  · rw [if_pos hb, put _ _ _ rfl rfl, put _ _ _ rfl rfl]
    simp only [hb, ne_eq, not_true_eq_false, false_and, if_false]
    repeat' split
    all_goals simp_all
  · rw [if_neg hb, put _ _ _ rfl rfl, put _ _ _ rfl rfl, put _ _ _ rfl rfl, put _ _ _ rfl rfl]
    simp only [hb, ne_eq, not_false_eq_true, true_and]
    repeat' split
    all_goals simp_all

/-- A write of RUN through a family leaves in a RUN field what its last write there gave, or what it read as (R173). -/
theorem Stack.get_foldRunLive (s : Stack) {n v reset : Nat} {f : Field} {Q : Nat → Prop} {l : List Nat}
    (hQ : ∀ (t : Stack) b, b ∈ l → t.sections = s.sections → Q (t.get f) → Q ((t.runLiveOne n v reset b).get f))
    (hset : (∃ m ∈ l, ∀ t : Stack, t.sections = s.sections → Q ((t.runLiveOne n v reset m).get f))) (t : Stack) (ht : t.sections = s.sections) :
    Q ((l.foldl (fun t m => t.runLiveOne n v reset m) t).get f) := by
  suffices key : ∀ (l' : List Nat), (∀ b ∈ l', b ∈ l) → ∀ t : Stack, t.sections = s.sections →
      (Q (t.get f) ∨ ∃ m ∈ l', ∀ t : Stack, t.sections = s.sections → Q ((t.runLiveOne n v reset m).get f)) →
      Q ((l'.foldl (fun t m => t.runLiveOne n v reset m) t).get f) from key l (fun _ h => h) t ht (Or.inr hset)
  intro l'
  induction l' with
  | nil =>
    intro _ t _ h
    rcases h with h | ⟨m, hm, _⟩
    · exact h
    · cases hm
  | cons b l' ih =>
    intro hl t ht h
    refine ih (fun c hc => hl c (List.mem_cons_of_mem _ hc)) _ ((Stack.runLiveOne_sections t n v reset b).trans ht) ?_
    rcases h with h | ⟨m, hm, hq⟩
    · exact Or.inl (hQ t b (hl b (List.mem_cons_self ..)) ht h)
    · rcases List.mem_cons.1 hm with rfl | hm
      · exact Or.inl (hq t ht)
      · exact Or.inr ⟨m, hm, hq⟩

theorem Stack.get_setRunLive (s : Stack) (n v : Nat) (f : Field) :
    (s.setRunLive n v).get f =
      ((s.family n).foldl (fun t m => t.runLiveOne n v (s.get (SECT.RUN_RESET (s.sect n).home n)) m) s).get f := by
  rw [Stack.setRunLive_eq]
  dsimp only
  split <;> rfl

/-- RUN.LIVE of a section and its descendants takes the value in both copies (R173). -/
theorem Stack.setRunLive_get (s : Stack) {n v m : Nat} (h : m ∈ s.family n) :
    (s.setRunLive n v).get (SECT.RUN_LIVE (s.sect m).home m) = v % 2 ∧
      (s.setRunLive n v).get (SECT.RUN_LIVE (s.sect m).home m).staged = v % 2 := by
  have keep : ∀ f : Field, f.reset = 0 → (∀ b i, f.key ≠ (SECT.RUN_RESET i b).key ∧ f.key ≠ (SECT.RUN_RESET i b).staged.key) →
      (f.key = (SECT.RUN_LIVE (s.sect m).home m).key ∨ f.key = (SECT.RUN_LIVE (s.sect m).home m).staged.key) →
      (s.setRunLive n v).get f = v % 2 := by
    intro f hf hne hk
    rw [Stack.get_setRunLive]
    refine Stack.get_foldRunLive s (Q := fun x => x = v % 2) (fun t b _ ht hx => ?_) ⟨m, h, fun t ht => ?_⟩ s rfl
    · rw [Stack.get_runLiveOne t hf, if_neg (by
        rintro ⟨_, h | h⟩
        · exact (hne _ _).1 h
        · exact (hne _ _).2 h)]
      split
      · rfl
      · exact hx
    · rw [Stack.get_runLiveOne t hf, if_neg (by
        rintro ⟨_, h | h⟩
        · exact (hne _ _).1 h
        · exact (hne _ _).2 h), Stack.sect_of_sections ht, if_pos hk]
  exact ⟨keep _ rfl (fun b i => by simp only [SECT.RUN_LIVE, SECT.RUN_RESET, Field.staged]; omega) (Or.inl rfl),
    keep _ rfl (fun b i => by simp only [SECT.RUN_LIVE, SECT.RUN_RESET, Field.staged]; omega) (Or.inr rfl)⟩

/-- RUN.RESET of a section's descendants takes the section's own value in both copies (R173). -/
theorem Stack.setRunLive_reset (s : Stack) {n v m : Nat} (h : m ∈ s.family n) (hm : m ≠ n) :
    (s.setRunLive n v).get (SECT.RUN_RESET (s.sect m).home m) = s.get (SECT.RUN_RESET (s.sect n).home n) % 2 ∧
      (s.setRunLive n v).get (SECT.RUN_RESET (s.sect m).home m).staged = s.get (SECT.RUN_RESET (s.sect n).home n) % 2 := by
  have keep : ∀ f : Field, f.reset = 0 → (∀ b i, f.key ≠ (SECT.RUN_LIVE i b).key ∧ f.key ≠ (SECT.RUN_LIVE i b).staged.key) →
      (f.key = (SECT.RUN_RESET (s.sect m).home m).key ∨ f.key = (SECT.RUN_RESET (s.sect m).home m).staged.key) →
      (s.setRunLive n v).get f = s.get (SECT.RUN_RESET (s.sect n).home n) % 2 := by
    intro f hf hne hk
    rw [Stack.get_setRunLive]
    refine Stack.get_foldRunLive s (Q := fun x => x = s.get (SECT.RUN_RESET (s.sect n).home n) % 2) (fun t b _ ht hx => ?_) ⟨m, h, fun t ht => ?_⟩
      s rfl
    · rw [Stack.get_runLiveOne t hf]
      split
      · rfl
      · rw [if_neg (by
          rintro (h | h)
          · exact (hne _ _).1 h
          · exact (hne _ _).2 h)]
        exact hx
    · rw [Stack.get_runLiveOne t hf, Stack.sect_of_sections ht, if_pos ⟨hm, hk⟩]
  exact ⟨keep _ rfl (fun b i => by simp only [SECT.RUN_LIVE, SECT.RUN_RESET, Field.staged]; omega) (Or.inl rfl),
    keep _ rfl (fun b i => by simp only [SECT.RUN_LIVE, SECT.RUN_RESET, Field.staged]; omega) (Or.inr rfl)⟩

/-- The queues of stops in bypass emptied, their flits counted (R333). -/
theorem Stack.drainBypass_onlyChanges (s : Stack) (h : .rings ∈ P) (hd : RING.DISCARD_BYPASS ∈ F) (hi : RING.INT_DISCARD ∈ F) :
    s.OnlyChanges P F s.drainBypass := by
  unfold Stack.drainBypass
  dsimp only
  split
  · exact Stack.OnlyChanges.refl _ _ _
  · refine Stack.OnlyChanges.raise (Stack.OnlyChanges.bump ?_ _ hd) hi
    exact ⟨rfl, rfl, fun p hp => by cases p <;> first | rfl | exact absurd h hp, fun _ _ => rfl⟩

/-! ## Commands ended, holds, detours and domains -/

theorem Stack.cmdDone_sect (s : Stack) (n m : Nat) :
    (s.cmdDone n).sect m = if n = m then { s.sect n with cmdBusy := false } else s.sect m := by
  unfold Stack.cmdDone
  dsimp only
  split
  · exact Stack.sect_setSect s n m _
  · rename_i h
    split
    · rename_i e
      subst e
      generalize s.sect n = x at h ⊢
      cases x
      simp_all
    · rfl

/-- BUSY of the home instance falls, and nothing else of the fields changes (R191). -/
theorem Stack.cmdDone_onlyChanges (s : Stack) (n : Nat) (h : .sections ∈ P) (hf : SECT.CMD_STATUS_BUSY (s.sect n).home ∈ F) :
    s.OnlyChanges P F (s.cmdDone n) := by
  unfold Stack.cmdDone
  dsimp only
  split
  · refine Stack.OnlyChanges.put ?_ _ hf
    exact ⟨rfl, rfl, fun p hp => by cases p <;> first | rfl | exact absurd h hp, fun _ _ => rfl⟩
  · exact Stack.OnlyChanges.refl _ _ _

/-- Commands ended over a list: the members' commands are no longer in progress, and every section keeps the rest (R191). -/
theorem foldl_cmdDone (l : List Nat) (s : Stack) (m : Nat) :
    (l.foldl Stack.cmdDone s).sect m = if m ∈ l then { s.sect m with cmdBusy := false } else s.sect m := by
  induction l generalizing s with
  | nil => simp
  | cons n l ih =>
    rw [List.foldl, ih, Stack.cmdDone_sect]
    by_cases hn : n = m
    · subst hn
      simp
    · simp [hn, Ne.symm hn]

theorem foldl_cmdDone_onlyChanges (l : List Nat) (s : Stack) (h : .sections ∈ P) (hf : ∀ n ∈ l, SECT.CMD_STATUS_BUSY (s.sect n).home ∈ F) :
    s.OnlyChanges P F (l.foldl Stack.cmdDone s) := by
  induction l generalizing s with
  | nil => exact Stack.OnlyChanges.refl _ _ _
  | cons n l ih =>
    refine (s.cmdDone_onlyChanges n h (hf n (by simp))).trans (ih _ fun m hm => ?_)
    have : ((s.cmdDone n).sect m).home = (s.sect m).home := by
      rw [Stack.cmdDone_sect]
      split
      · subst n
        rfl
      · rfl
    rw [this]
    exact hf m (by simp [hm])

/-- The members of a list that a hold reaches (R170, R172). -/
abbrev Stack.holdable (s : Stack) (l : List Nat) : List Nat :=
  l.filter fun n => [SectState.asleep, .live, .capturing, .testing, .held].contains (s.sect n).state

/-- A hold: each member that can be held has its bit set, and, where it is not at work, is Held at once (R170, R172). -/
theorem Stack.holdSects_sect (s : Stack) (bitNo : Nat) (l : List Nat) (m : Nat) :
    ∃ b, (s.holdSects bitNo l).sect m = { (s.modSects (s.holdable l) (Section.holdWith bitNo)).sect m with cmdBusy := b } ∧
      (m ∉ l → (s.holdSects bitNo l).sect m = s.sect m) := by
  have hd : ∀ t : Stack, t.drainBypass.sect m = t.sect m := fun t => Stack.sect_of_sections
    ((t.drainBypass_onlyChanges (P := [.rings]) (F := [RING.DISCARD_BYPASS, RING.INT_DISCARD]) (by simp) (by simp) (by simp)).2.2.1 .sections
      (by simp)) m
  unfold Stack.holdSects
  dsimp only
  rw [hd, foldl_cmdDone]
  by_cases hm : m ∈ (s.holdable l).filter fun n => (s.sect n).seq != .idle
  · exact ⟨false, if_pos hm, fun h => absurd (List.mem_filter.1 (List.mem_filter.1 hm).1).1 h⟩
  · refine ⟨((s.modSects (s.holdable l) (Section.holdWith bitNo)).sect m).cmdBusy, if_neg hm, fun h => ?_⟩
    rw [if_neg hm]
    exact modSects_not_mem _ _ fun h' => h (List.mem_filter.1 h').1

theorem Stack.holdSects_onlyChanges (s : Stack) (bitNo : Nat) (l : List Nat) (h : .sections ∈ P) (hr : .rings ∈ P)
    (hd : RING.DISCARD_BYPASS ∈ F) (hi : RING.INT_DISCARD ∈ F) (hf : ∀ n ∈ l, SECT.CMD_STATUS_BUSY (s.sect n).home ∈ F) :
    s.OnlyChanges P F (s.holdSects bitNo l) := by
  unfold Stack.holdSects
  dsimp only
  refine ((modSects_only (F := F) s _ _).mono (by simp [h]) (fun _ h => h)).trans (Stack.OnlyChanges.trans
    (foldl_cmdDone_onlyChanges _ _ h fun n hn => ?_) (Stack.drainBypass_onlyChanges _ hr hd hi))
  rw [modSects_keeps s _ (fun x => x.home) (by intro x; unfold Section.holdWith; dsimp only; split <;> rfl)]
  exact hf n (List.mem_filter.1 (List.mem_filter.1 hn).1).1

theorem Stack.syncDetours_onlyChanges (s : Stack) (h : .integ ∈ P) (hl : .ledger ∈ P) : s.OnlyChanges P F s.syncDetours := by
  unfold Stack.syncDetours
  dsimp only
  split
  · exact Stack.OnlyChanges.refl _ _ _
  · refine Stack.OnlyChanges.trans (foldl_onlyChanges (fun u e => ?_) _ _) (Stack.deviceRecord_onlyChanges _ _ _ hl)
    exact ⟨rfl, rfl, fun p hp => by cases p <;> first | rfl | exact absurd h hp, fun _ _ => rfl⟩

/-- What the domains of a section become (R613). -/
def Stack.domsOf (s : Stack) (m : Nat) : Section := { s.sect m with doms := if (s.sect m).configured then s.usedDomains m else [] }

/-- The domains brought up to date: of each section only its domains may differ, and those that exist have theirs (R613). -/
theorem Stack.refreshDoms_sect (s : Stack) (m : Nat) :
    (s.refreshDoms.sect m = s.sect m ∨ s.refreshDoms.sect m = s.domsOf m) ∧ (m ∈ s.sectionNumbers → s.refreshDoms.sect m = s.domsOf m) := by
  unfold Stack.refreshDoms
  have key : ∀ (l : List Nat) (t : Stack), (∀ k, t.sect k = s.sect k ∨ t.sect k = s.domsOf k) →
      ((l.foldl (fun t n => t.modSect n fun x => { x with doms := if x.configured then s.usedDomains n else [] }) t).sect m = s.sect m ∧ m ∉ l ∧
          t.sect m = s.sect m) ∨
        (l.foldl (fun t n => t.modSect n fun x => { x with doms := if x.configured then s.usedDomains n else [] }) t).sect m = s.domsOf m := by
    intro l
    induction l with
    | nil =>
      intro t ht
      rcases ht m with h | h
      · exact Or.inl ⟨h, by simp, h⟩
      · exact Or.inr h
    | cons n l ih =>
      intro t ht
      have hs : ∀ k, (t.modSect n fun x => { x with doms := if x.configured then s.usedDomains n else [] }).sect k =
          if n = k then s.domsOf n else t.sect k := by
        intro k
        rw [Stack.modSect, Stack.sect_setSect]
        split
        · rcases ht n with h | h <;> rw [h] <;> rfl
        · rfl
      rcases ih _ fun k => by
        rw [hs]
        split
        · subst n
          exact Or.inr rfl
        · exact ht k with h | h
      · obtain ⟨h1, h2, h3⟩ := h
        rw [hs] at h3
        by_cases hn : n = m
        · subst hn
          rw [if_pos rfl] at h3
          exact Or.inr (h1.trans h3.symm)
        · rw [if_neg hn] at h3
          exact Or.inl ⟨h1, by simp [h2, Ne.symm hn], h3⟩
      · exact Or.inr h
  rcases key s.sectionNumbers s fun _ => Or.inl rfl with h | h
  · exact ⟨Or.inl h.1, fun hm => absurd hm h.2.1⟩
  · exact ⟨Or.inr h, fun _ => h⟩

theorem Stack.refreshDoms_onlyChanges (s : Stack) (h : .sections ∈ P) : s.OnlyChanges P F s.refreshDoms := by
  unfold Stack.refreshDoms
  refine foldl_onlyChanges (fun u n => ?_) _ _
  exact (modSects_only (F := F) u [n] (fun x => { x with doms := if x.configured then s.usedDomains n else [] })).mono
    (fun p hp => by cases hp with | head => exact h | tail _ hp => cases hp) fun _ h => h

/-! ## A section re-initialised (R41, R614) -/

theorem Stack.placePlane_sections (s : Stack) (p digest : Nat) (x : Folio) : (s.placePlane p digest x).sections = s.sections := rfl

theorem Stack.placePlane_onlyChanges (s : Stack) (p digest : Nat) (x : Folio) (hf : .fabric ∈ P) (hh : .health ∈ P) :
    s.OnlyChanges P F (s.placePlane p digest x) := by
  refine ⟨rfl, rfl, fun q hq => ?_, fun f _ => rfl⟩
  cases q <;> first | rfl | contradiction

theorem foldl_placePlane (p : Nat) (l : List (FolioEntry × Folio)) (hf : .fabric ∈ P) (hh : .health ∈ P) : ∀ s : Stack,
    (l.foldl (fun s ex => s.placePlane p ex.1.digest ex.2) s).sections = s.sections ∧
    s.OnlyChanges P F (l.foldl (fun s ex => s.placePlane p ex.1.digest ex.2) s) := by
  induction l with
  | nil => exact fun s => ⟨rfl, Stack.OnlyChanges.refl _ _ _⟩
  | cons x l ih => exact fun s => ⟨(ih _).1.trans (s.placePlane_sections p x.1.digest x.2), (s.placePlane_onlyChanges p x.1.digest x.2 hf hh).trans (ih _).2⟩

theorem Stack.restage_both (s : Stack) (ts : List Tile) (r p : Nat) (hf : .fabric ∈ P) (hh : .health ∈ P) :
    (s.restage ts r p).sections = s.sections ∧ s.OnlyChanges P F (s.restage ts r p) := by
  unfold Stack.restage
  dsimp only
  split
  · exact ⟨rfl, Stack.OnlyChanges.refl _ _ _⟩
  · split
    · exact foldl_placePlane p _ hf hh s
    · refine ⟨rfl, rfl, rfl, fun q hq => ?_, fun f _ => rfl⟩
      cases q <;> first | rfl | contradiction

theorem Stack.reinitSection_sections (n : Nat) (s : Stack) : (s.reinitSection n).sections = s.sections :=
  (s.restage_both (P := [.fabric, .health]) (F := []) (s.sect n).tiles (s.rootOf n) (s.livePlane n) (by decide) (by decide)).1

theorem Stack.reinitSection_onlyChanges (n : Nat) (s : Stack) (hf : .fabric ∈ P) (hm : .mem ∈ P) (hh : .health ∈ P) :
    s.OnlyChanges P F (s.reinitSection n) := by
  refine (s.restage_both (s.sect n).tiles (s.rootOf n) (s.livePlane n) hf hh).2.trans ⟨rfl, rfl, fun q hq => ?_, fun f _ => rfl⟩
  cases q <;> first | rfl | contradiction


/-- A section that exists is among the section numbers. -/
theorem Stack.mem_sectionNumbers {s : Stack} {m : Nat} (h : (s.sect m).state ≠ .none) : m ∈ s.sectionNumbers := by
  unfold Stack.sectionNumbers
  unfold Stack.sect at h
  generalize s.sections = l at *
  induction l with
  | nil => exact absurd rfl h
  | cons e l ih =>
    unfold mapGet at h
    by_cases he : e.1 = m
    · rw [if_pos he] at h
      simp only [List.mem_map, List.mem_filter]
      exact ⟨e, ⟨by simp, by simpa using h⟩, he⟩
    · rw [if_neg he] at h
      have := ih h
      simp only [List.mem_map, List.mem_filter] at this ⊢
      obtain ⟨a, b, c⟩ := this
      exact ⟨a, ⟨List.mem_cons_of_mem _ b.1, b.2⟩, c⟩

/-- An effect that keeps the mode and the recoveries reaches no other stack (R45). -/
theorem State.onStackFault_quiet (p : State) {k : Side} {f : Stack → Stack} (hk : p.hasSide k = true) (hm : (f (p.stack k)).mode = (p.stack k).mode)
    (hs : (f (p.stack k)).sys.recoveries = (p.stack k).sys.recoveries) : p.onStackFault k f = p.onStack k f := by
  unfold State.onStackFault
  have e : (p.onStack k f).stack k = f (p.stack k) := State.onStack_stack p f hk
  have hr : (f (p.stack k)).stackRecovery = (p.stack k).stackRecovery := by
    unfold Stack.stackRecovery
    rw [hs]
  dsimp only
  rw [e, hm, hr]
  rw [if_neg (by intro h; exact h.2 h.1)]
  cases (p.stack k).stackRecovery <;> rfl

end Sys2Proof.Machine
end

