-- ==== Sys2Proof/WellFormed.lean ====
section
/-! DEFINITION. Which operands a command can carry: every operand fits the field of the register or message that brings it. -/

namespace Sys2Proof

/-- The operands of a command fit the fields that carry them (R4 and the register tables of each chapter). -/
def Instr.wellFormed : Instr → Bool
  | .registerWrite _ block off _ v => block < 0x10000 && off < 0x10000 && v < 2 ^ 32
  | .stagedCopyWrite _ block off v => block < 0x10000 && off < 0x8000 && v < 2 ^ 32
  | .offToVigil => true
  | .brownOut => true
  | .wake => true
  | .vigilWakeTimer => true
  | .modeReqDay _ after => after < 16
  | .modeReqSiesta _ after => after < 16
  | .modeReqDusk _ after => after < 16
  | .modeReqDawn _ after => after < 16
  | .modeReqVigil _ after => after < 16
  | .modeReqWorkshop _ after => after < 16
  | .modeReqHaven _ after => after < 16
  | .tcxoTimeout => true
  | .systemPllTimeout => true
  | .fillTimeout => true
  | .ucieTrainTimeout => true
  | .layerPllTimeout => true
  | .releaseDelayExpiry _ => true
  | .locksReported _ => true
  | .lockTimeout _ => true
  | .reenableAtSafeBoundary _ kind n => kind < 5 && n < 1024
  | .baseRingFault _ block cause => block < 0x4000 && cause < 0x10000
  | .recoveryLimit _ level _ => 1 ≤ level && level ≤ 4
  | .recoveryComplete _ level _ => 1 ≤ level && level ≤ 4
  | .leafPortRead _ layer tile m port a => layer < 16 && tile < 1200 && m < 4 && port < 2 && a < 4096
  | .leafPortWrite _ layer tile m e a v => layer < 16 && tile < 1200 && m < 4 && e.port < 2 && a < 4096 && v < 2 ^ 128
  | .vtrackPeriodicTest _ b tile failed => b < 3 && tile < 1200 && failed.all (fun x => decide (x < 102))
  | .vtrackContention _ b tile track => b < 3 && tile < 1200 && track < 96
  | .bridgePhaseTrack _ b tile j _ => b < 3 && tile < 1200 && j < 12
  | .stage _ i n page p => i < 4 && n < 1024 && page < 16 && p < 4
  | .evict _ i n page p => i < 4 && n < 1024 && page < 16 && p < 4
  | .free _ i n page p => i < 4 && n < 1024 && page < 16 && p < 4
  | .pgCmdNop _ i n page p => i < 4 && n < 1024 && page < 16 && p < 4
  | .pageLinksFree _ => true
  | .pageCommandComplete _ i => i < 4
  | .capture _ i domain _ raster => i < 4 && domain < 64 && raster < 4
  | .captureRelease _ i => i < 4
  | .captureEdge _ i => i < 4
  | .captureCopyComplete _ i => i < 4
  | .capDataRead _ i => i < 4
  | .hingeDataRead _ i => i < 4
  | .sectNone _ i n op => i < 4 && n < 1024 && (op == 0 || (9 ≤ op && op < 16))
  | .sectSleep _ i n => i < 4 && n < 1024
  | .sectWake _ i n => i < 4 && n < 1024
  | .resetPulse _ i n => i < 4 && n < 1024
  | .resetPulseEnd _ n => n < 1024
  | .hold _ i n => i < 4 && n < 1024
  | .clearHold _ i n => i < 4 && n < 1024
  | .sectTest _ i n => i < 4 && n < 1024
  | .sectionTestComplete _ failed => failed < 2 ^ 16
  | .discard _ i n => i < 4 && n < 1024
  | .remove _ i n => i < 4 && n < 1024
  | .loadNone _ op image => (op == 0 || (6 ≤ op && op < 16)) && image < 65536
  | .load _ image => image < 65536
  | .rebind _ image => image < 65536
  | .restart _ image => image < 65536
  | .loadAbort _ image => image < 65536
  | .verify _ image => image < 65536
  | .loadPhaseComplete _ unc => unc.all fun i => decide (i < 2 ^ 20)
  | .loadRegistersPhase _ => true
  | .colophonFetch _ n page p => n < 1024 && page < 16 && p < 4
  | .fetchComplete _ _ => true
  | .uploadOpen _ image => image < 65536
  | .uploadCommit _ image => image < 65536
  | .uploadAbandon _ image => image < 65536
  | .uploadDelete _ image => image < 65536
  | .uploadNone _ image op => image < 65536 && (op == 0 || (5 ≤ op && op < 8))
  | .upDataWrite _ v => v < 2 ^ 32
  | .colophonProgram _ => true
  | .uploadCommitDone _ => true
  | .backgroundCheck _ layer tile g p => layer < 16 && tile < 2048 && g < 16 && p < 4
  | .folioRewriteComplete _ => true
  | .repairTurn _ => true
  | .arm _ => true
  | .cancel _ => true
  | .turnCheckComplete _ => true
  | .lastExamination _ => true
  | .turnApply _ => true
  | .turnApplied _ => true
  | .deviceTurnArm _ => true
  | .turnRateSecond _ => true
  | .feNone _ i n op _ => i < 4 && n < 256 && (op == 0 || (5 ≤ op && op < 16))
  | .feStart _ i n => i < 4 && n < 256
  | .feStop _ i n => i < 4 && n < 256
  | .feStep _ i n => i < 4 && n < 256
  | .feReset _ i n _ => i < 4 && n < 256
  | .feFillComplete _ i => i < 4
  | .feDoorbell _ i n v => i < 4 && n < 192 && v < 2 ^ 32
  | .fePortClkWrite _ i n v => i < 4 && n < 192 && v < 2 ^ 32
  | .feInterrupt _ i n => i < 4 && n < 192
  | .feTrap _ i n cause => i < 4 && n < 192 && 1 ≤ cause && cause ≤ 4
  | .feStallRelease _ i n => i < 4 && n < 192
  | .feExternalAccess _ i n off kid _ len data _ => i < 4 && n < 192 && off < 0x10000 && kid < 16 && len ≤ 1024 && data.length ≤ 1024 && data.all (fun b => decide (b < 256))
  | .streamPortInput _ i n p data mark => i < 4 && n < 192 && p < 4 && data < 2 ^ 56 && mark < 4
  | .streamPortOutput _ i n p => i < 4 && n < 192 && p < 4
  | .iNop _ i n => i < 4 && n < 192
  | .iHalt _ i n => i < 4 && n < 192
  | .iSignal _ i n => i < 4 && n < 192
  | .iBr _ i n cond target => i < 4 && n < 192 && cond < 16 && target < 4096
  | .iBrl _ i n target => i < 4 && n < 192 && target < 4096
  | .iJr _ i n s1 => i < 4 && n < 192 && s1 < 8
  | .iRep _ i n len count => i < 4 && n < 192 && len < 64 && count < 65536
  | .iRepr _ i n len s2 => i < 4 && n < 192 && len < 64 && s2 < 8
  | .iReti _ i n => i < 4 && n < 192
  | .iWaitm _ i n port mark => i < 4 && n < 192 && port < 4 && mark < 4
  | .iMfs _ i n d spr => i < 4 && n < 192 && d < 8 && spr < 32
  | .iMts _ i n s1 spr => i < 4 && n < 192 && s1 < 8 && spr < 32
  | .iPushq _ i n mem a _ port cnt => i < 4 && n < 192 && mem < 4 && a < 8 && port < 4 && cnt < 4
  | .iSendq _ i n mem a _ port mark => i < 4 && n < 192 && mem < 4 && a < 8 && port < 4 && mark < 4
  | .iInq _ i n d port => i < 4 && n < 192 && d < 8 && port < 4
  | .iOutq _ i n sh port mark _ _ => i < 4 && n < 192 && sh < 64 && port < 4 && mark < 4
  | .iTap _ i n ya ca _ _ _ _ _ _ _ _ => i < 4 && n < 192 && ya < 8 && ca < 8
  | .iMacq _ i n xa ya _ _ _ _ _ _ => i < 4 && n < 192 && xa < 8 && ya < 8
  | .iMace _ i n acc mem a1 ac _ _ _ _ _ _ => i < 4 && n < 192 && acc < 4 && mem < 4 && a1 < 8 && ac < 8
  | .iClra _ i n mask => i < 4 && n < 192 && mask < 16
  | .iMovag _ i n d acc sh _ => i < 4 && n < 192 && d < 8 && acc < 4 && sh < 64
  | .iMovga _ i n acc s1 => i < 4 && n < 192 && acc < 4 && s1 < 8
  | .iShfa _ i n mask sh => i < 4 && n < 192 && mask < 16 && sh < 64
  | .iStaq _ i n mem a _ sh _ _ => i < 4 && n < 192 && mem < 4 && a < 8 && sh < 64
  | .iSuma _ i n acc => i < 4 && n < 192 && acc < 4
  | .iAdd _ i n d s1 s2 => i < 4 && n < 192 && d < 8 && s1 < 8 && s2 < 8
  | .iSub _ i n d s1 s2 => i < 4 && n < 192 && d < 8 && s1 < 8 && s2 < 8
  | .iAnd _ i n d s1 s2 => i < 4 && n < 192 && d < 8 && s1 < 8 && s2 < 8
  | .iOr _ i n d s1 s2 => i < 4 && n < 192 && d < 8 && s1 < 8 && s2 < 8
  | .iXor _ i n d s1 s2 => i < 4 && n < 192 && d < 8 && s1 < 8 && s2 < 8
  | .iShl _ i n d s1 s2 => i < 4 && n < 192 && d < 8 && s1 < 8 && s2 < 8
  | .iShr _ i n d s1 s2 => i < 4 && n < 192 && d < 8 && s1 < 8 && s2 < 8
  | .iAsr _ i n d s1 s2 => i < 4 && n < 192 && d < 8 && s1 < 8 && s2 < 8
  | .iMin _ i n d s1 s2 => i < 4 && n < 192 && d < 8 && s1 < 8 && s2 < 8
  | .iMax _ i n d s1 s2 => i < 4 && n < 192 && d < 8 && s1 < 8 && s2 < 8
  | .iCmp _ i n s1 s2 => i < 4 && n < 192 && s1 < 8 && s2 < 8
  | .iAddi _ i n d s1 imm => i < 4 && n < 192 && d < 8 && s1 < 8 && imm < 65536
  | .iLdi _ i n d imm => i < 4 && n < 192 && d < 8 && imm < 65536
  | .iLui _ i n d imm => i < 4 && n < 192 && d < 8 && imm < 65536
  | .iSeta _ i n a _ r imm => i < 4 && n < 192 && a < 8 && r < 8 && imm < 8192
  | .iSetm _ i n a mode step => i < 4 && n < 192 && a < 8 && mode < 4 && step < 65536
  | .iSetbl _ i n a len => i < 4 && n < 192 && a < 8 && len < 8192
  | .iMovra _ i n d a => i < 4 && n < 192 && d < 8 && a < 8
  | .iLd _ i n d mem a _ _ => i < 4 && n < 192 && d < 8 && mem < 4 && a < 8
  | .iSt _ i n r mem a _ => i < 4 && n < 192 && r < 8 && mem < 4 && a < 8
  | .iLdq _ i n d mem a _ => i < 4 && n < 192 && d < 8 && mem < 4 && a < 8
  | .iStq _ i n r mem a _ => i < 4 && n < 192 && r < 8 && mem < 4 && a < 8
  | .ringRead _ h => h.addr < 2 ^ 48 && h.src < 160 && h.tag < 1024 && 1 ≤ h.rlen && h.rlen ≤ 16
  | .ringWrite _ h data _ => h.addr < 2 ^ 48 && h.src < 160 && h.tag < 1024 && data.length == 64 * h.len && 1 ≤ h.len && h.len ≤ 16 && data.all (fun b => decide (b < 256))
  | .ringWritePosted _ h data _ => h.addr < 2 ^ 48 && h.src < 160 && h.tag < 1024 && data.length == 64 * h.len && 1 ≤ h.len && h.len ≤ 16 && data.all (fun b => decide (b < 256))
  | .ringRegRead _ h => h.addr < 2 ^ 48 && h.src < 160 && h.tag < 1024 && h.data < 2 ^ 32
  | .ringRegWrite _ h => h.addr < 2 ^ 48 && h.src < 160 && h.tag < 1024 && h.data < 2 ^ 32
  | .ringCursor _ h => h.addr < 2 ^ 48 && h.src < 160 && h.tag < 1024 && h.data < 2 ^ 32
  | .ringMsg _ h => h.addr < 2 ^ 48 && h.src < 160 && h.tag < 1024 && h.data < 2 ^ 32
  | .unassignedOpcode _ _ => true
  | .ringReadResp _ n tag status data => n < 160 && tag < 1024 && status < 16 && data.length ≤ 1024 && data.all (fun b => decide (b < 256))
  | .ringWriteAck _ n tag status => n < 160 && tag < 1024 && status < 16
  | .ringRegResp _ n tag status data => n < 160 && tag < 1024 && status < 16 && data < 2 ^ 32
  | .requestInject _ op h reg _ => op < 64 && h.addr < 2 ^ 48 && h.src < 160 && h.tag < 1024 && reg ≤ 10
  | .requestTimeout _ n tag => n < 160 && tag < 1024
  | .tagQuarantineExpiry _ n tag => n < 160 && tag < 1024
  | .packetLifetimeDiscard _ birth => birth < 65536
  | .epochBoundary _ => true
  | .guaranteedFlit _ hub stop chan queue data poison ring hop slot => hub < 5 && stop < 32 && chan < 32 && queue ≤ 5120 && data.length ≤ 64 && data.all (fun b => decide (b < 256)) && poison < 16 && ring < 5 && hop < 5 && slot < 4096
  | .ringWinDataAccess _ _ v => v < 2 ^ 32
  | .localStoreRequest _ i p _ block be data => i < 4 && p < 16 && block < 2 ^ 27 && be < 2 ^ 64 && data.length ≤ 64 && data.all (fun b => decide (b < 256))
  | .localStoreResponse _ i p => i < 4 && p < 16
  | .refresh _ m _ => m < 4
  | .errorLogEntry _ => true
  | .scrubVisit _ n => n < 5
  | .lapLimitExceeded _ n => n < 5
  | .persistentSymbol _ link symbol mask => link < 65536 && symbol < 36 && mask < 16
  | .injectArm _ target symA symB => target < 2 && symA < 64 && symB < 64
  | .logClearCe _ => true
  | .logClearUe _ => true
  | .dmaNone _ n op => n < 32 && (op == 0 || (6 ≤ op && op < 16))
  | .dmaStart _ n => n < 32
  | .dmaStop _ n => n < 32
  | .dmaResume _ n => n < 32
  | .dmaSkip _ n => n < 32
  | .dmaReset _ n => n < 32
  | .dmaGroupRead _ n => n < 32
  | .dmaDataResponse _ n i p ext data => n < 32 && i < 65 && p < 32768 && ext < 10 && data.length ≤ 1024 && data.all (fun b => decide (b < 256))
  | .dmaGroupComplete _ n => n < 32
  | .dmaStopped _ n => n < 32
  | .leafReencryptComplete _ region _ => 1 ≤ region && region < 16
  | .rekeyRequest _ region new _ => 1 ≤ region && region < 16 && new < 32
  | .rekeyLeaf _ => true
  | .rekeyComplete _ => true
  | .kcmdNone _ slot op entry => slot < 32 && entry ≤ 32 && (op == 0 || (7 ≤ op && op < 16))
  | .generate _ slot entry => slot < 32 && entry ≤ 32
  | .keyLoad _ slot entry => slot < 32 && entry ≤ 32
  | .unwrap _ slot entry => slot < 32 && entry ≤ 32
  | .keyStore _ slot entry => slot < 32 && entry ≤ 32
  | .keyClear _ slot entry => slot < 32 && entry ≤ 32
  | .keyErase _ slot entry => slot < 32 && entry ≤ 32
  | .previousKeyHoldExpiry _ a => 1 ≤ a && a < 16
  | .laneEnable _ n v => n < 48 && v < 2 ^ 32
  | .laneDisable _ n => n < 48
  | .laneStageComplete _ n _ height width => n < 48 && height < 256 && width < 256
  | .laneStageOverrun _ n => n < 48
  | .laneRestart _ n => n < 48
  | .lossOfSignal _ n => n < 48
  | .syncHeaderErrors _ n => n < 48
  | .referenceClockStopped _ q ab => q < 12 && ab < 2
  | .laneLoop _ n v => n < 48 && v < 4
  | .prbsGenerator _ n gen pattern => n < 48 && gen < 2 && pattern < 8
  | .prbsChecker _ n chk pattern _ _ => n < 48 && chk < 2 && pattern < 8
  | .laneInject _ n => n < 48
  | .trainingFrame _ n _ f => n < 48 && f < 2 ^ 64
  | .marker _ n f => n < 48 && f < 2 ^ 64
  | .lacingUnitReceive _ l seq _ _ _ cls queue flits tag _ _ far => l < 5 && seq < 4096 && cls < 3 && queue < 32 && 1 ≤ flits.length && flits.length ≤ 32 && flits.all (fun v => decide (v < 2 ^ 512)) && tag < 2 ^ 64 && far < 2 ^ 32
  | .lacingUnitSend _ l cls n => l < 5 && cls < 3 && 1 ≤ n && n ≤ 16
  | .credit _ l ack _ req rsp guar => l < 5 && ack < 4096 && req < 1024 && rsp < 1024 && guar < 1024
  | .creditSend _ l => l < 5
  | .nakRepeat _ l => l < 5
  | .resendTimer _ l => l < 5
  | .laceEnable _ l => l < 5
  | .laceDisable _ l => l < 5
  | .retrainTimeout _ l => l < 5
  | .rwinGo _ l _ => l < 5
  | .mportEnable _ q v => q < 8 && v < 2 ^ 32
  | .mportDisable _ q => q < 8
  | .frameReceive _ q frame _ _ _ => q < 8 && frame.length < 16384 && frame.all (fun b => decide (b < 256))
  | .receiveBufferDrain _ q e => q < 8 && e < 516
  | .hrxDataRead _ q => q < 8
  | .htxDataWrite _ q v => q < 8 && v < 2 ^ 32
  | .hostFrameSend _ q len _ => q < 8 && len < 16384
  | .flowPacketRelease _ q e => q < 8 && e < 512
  | .transmitUnit _ stop chan flits => (stop == 11 || stop == 12) && chan < 32 && flits.all (fun v => decide (v < 2 ^ 512))
  | .sdiEnable _ q n v => q < 8 && n < 4 && v < 2 ^ 32
  | .sdiLineReceive _ q n row _ _ _ codes anc => q < 8 && n < 4 && row < 65536 && codes.all (fun v => decide (v < 1024)) && anc.all (fun b => decide (b < 256))
  | .sdiLineTransmit _ q n black => q < 8 && n < 4 && black ≤ 16384
  | .clockDead _ n => n < 0x30
  | .userPllLock _ n => n < 16
  | .domainReset _ d _ => 16 ≤ d && d < 48
  | .domainForce _ d => 16 ≤ d && d < 48
  | .clockGateClose _ _ id => id < 65536
  | .gateTimeout _ _ id domain => id < 65536 && domain < 64
  | .ptpMeasurement _ => true
  | .referenceLoss _ => true
  | .houseCtlWrite _ v => v < 2 ^ 32
  | .timeSet _ => true
  | .rasterEnable _ n => n < 4
  | .rasterDisable _ n => n < 4
  | .frequencyMeter _ target ref => target < 128 && ref < 128
  | .frequencyMeterDone _ _ => true
  | .oppRequest _ layer scale volt => layer < 16 && scale < 128 && volt < 1024
  | .oppApplied _ layer => layer < 10
  | .regulatorSuspect _ layer => 2 ≤ layer && layer < 10
  | .handBackRetry _ layer => 2 ≤ layer && layer < 10
  | .regRegulate _ layer => layer < 16
  | .regRaw _ layer => layer < 16
  | .handoverComplete _ layer _ => 2 ≤ layer && layer < 10
  | .supplyExcursion _ supply _ => supply < 14
  | .temperatureSample _ die readings => die < 11 && readings.all (·.all (decide <| · < 4096))
  | .thermalModelUpdate _ activity _ => activity.all fun a => decide (a.2 ≤ 100)
  | .tripPowerRestore _ => true
  | .ledgerRetry _ => true
  | .ledgerFlush _ => true
  | .ledgerFlushTimer _ => true
  | .ledgerCommit _ => true
  | .ledgerWinDataAccess _ _ v => v < 2 ^ 32
  | .wearRecord _ => true
  | .hostLineFill _ core addr => core < 4 && addr < 2 ^ 48
  | .hostWriteBack _ core addr data => core < 4 && addr < 2 ^ 48 && data.length == 64 && data.all (decide <| · < 256)
  | .hostUncachedLoad _ core size addr => core < 4 && addr < 2 ^ 48 && size < 65
  | .hostUncachedStore _ core addr data => core < 4 && addr < 2 ^ 48 && data.length < 65 && data.all (decide <| · < 256)
  | .hostRegisterAccess _ core _ addr v => core < 4 && addr < 2 ^ 48 && v < 2 ^ 32
  | .hostInstructionFetch _ core addr => core < 4 && addr < 2 ^ 48
  | .hostUnsupportedAccess _ core _ addr data => core < 4 && addr < 2 ^ 48 && data.all (decide <| · < 256)
  | .flitReplay _ => true
  | .ucieModuleDown _ m => m < 2
  | .ucieLinkLost => true
  | .winDataAccess _ core n _ v => core < 4 && n < 4 && v < 2 ^ 32
  | .windowCollectTimeout _ n => n < 4
  | .fence _ core => core < 4
  | .vecEoi _ core v => core < 4 && v < 256
  | .vectorLineRise _ v => v < 256
  | .vecCfgWrite _ core v w => core < 4 && v < 256 && w < 2 ^ 32
  | .wakeInterrupt => true
  | .gpioOutWrite _ w v => w < 3 && v < 2 ^ 32
  | .outSet _ w v => w < 3 && v < 2 ^ 32
  | .outClr _ w v => w < 3 && v < 2 ^ 32
  | .conflictClear _ w v => w < 3 && v < 2 ^ 32
  | .lockKey _ v => v < 2 ^ 32
  | .lockMask _ w m => w < 3 && m < 2 ^ 32
  | .xlockMask _ w m => w < 6 && m < 2 ^ 32
  | .timestampEdge _ n => n < 96
  | .tsHeadPop _ => true
  | .tallyDebounce _ n _ => n < 96
  | .spiDataWrite _ b v rx => b < 6 && v < 256 && rx < 256
  | .i2cCommand _ b v _ _ _ _ _ _ rx => b < 6 && v < 256 && rx < 256
  | .uartDataWrite _ b v => b < 6 && v < 256
  | .uartDataRead _ b => b < 6
  | .uartByteReceive _ b v _ => b < 6 && v < 256
  | .ltcWordReceive _ b w => b < 6 && w < 2 ^ 32
  | .mirrorExchange _ => true
  | .resyncFail => true
  | .testNone _ op => op == 0 || (3 ≤ op && op < 16)
  | .testRun _ => true
  | .testAbort _ => true
  | .bistGroup _ failed => failed.all fun v => decide (v < 2 ^ 32)
  | .jtagBypass => true
  | .jtagIdcode => true
  | .jtagSamplePreload cells => cells.all fun v => decide (v < 4)
  | .jtagExtest cells => cells.all fun v => decide (v < 4)
  | .jtagClamp => true
  | .jtagHighz => true
  | .jtagExtestPulse cells => cells.all fun v => decide (v < 4)
  | .jtagExtestTrain cells => cells.all fun v => decide (v < 4)
  | .jtagLockStatus => true
  | .jtagUnlock v => v < 2 ^ 16
  | .jtagDbgAccess _ addr _ v => addr < 2 ^ 48 && v < 2 ^ 32
  | .jtagRelock _ => true
  | .referenceClockRuns _ q ab => q < 12 && ab < 2
  | .ucieLinkRetrained _ m rate => m < 2 && rate < 2
  | .stackUnreachable _ => true
  | .winAddrWrite _ core n _ v => core < 4 && n < 4 && v < 2 ^ 32

end Sys2Proof
end

