-- ==== Sys2Proof/Tests/Slice0.lean ====
section
/-! SUPPORT. Witnesses for the hypotheses of the statements, and small checks against the spec. -/

open Sys2Proof.Machine

namespace Sys2Proof.Tests

/-- A package of one stack whose recto is changed by `f` from its reset state. -/
def one (f : Stack → Stack) : State := { State.reset with recto := f State.reset.recto }

/-- An Atlas whose stacks are changed by `f` from their reset state. -/
def pair (f g : Stack → Stack) : State :=
  { build := .atlas, recto := f (Stack.initial .recto .atlas), verso := g (Stack.initial .verso .atlas), pending := [] }

/-- Fields set by register writes. -/
def fields (l : List (Field × Nat)) (s : Stack) : Stack := s.writes l

/-- An engine of a stack without a memory error issues in its next cycle. -/
theorem ready {s : Stack} {i n : Nat}
    (h : (s.engine i n).st = 2 ∧ s.feMode = true ∧ i < s.build.layers ∧ (s.engine i n).interrupts = false ∧
      (∀ b ∈ (s.engine i n).running, ((s.engine i n).bank b).o = Option.none ∧ ((s.engine i n).bank b).e = Option.none ∧
        ((s.engine i n).bank b).w = Option.none) ∧
      ((s.engine i n).bank (s.engine i n).shadow).f.isSome = true ∧ ((s.engine i n).bank (s.engine i n).shadow).halting = false)
    (hh : s.health = []) : s.feReady i n :=
  ⟨h.1, h.2.1, h.2.2.1, h.2.2.2.1, h.2.2.2.2.1, h.2.2.2.2.2.1, h.2.2.2.2.2.2, fun p => by
    unfold Stack.mark
    rw [hh]
    rfl⟩

theorem witness_MalformedRegisterAccessIsAnsweredError :
    (2 ≠ 4 ∧ 3 % 4 ≠ 0) ∧ (State.reset.stack .recto).build.regRow 0 0x7FFC = none ∧
    (State.reset.stack .recto).build.regRow (blockOf (0xF0000BFFC % 2 ^ 44)) (0xF0000BFFC % 2 ^ 44 % 0x10000) = none := by
  decide

theorem witness_RegisterFieldsTakeWritesByType :
    (State.reset.stack .recto).build.regRow 0xB 0xD0 = regAt 0xB 0xD0 ∧ (regAt 0xB 0xD0).isSome = true ∧
    (State.reset.stack .recto).regAbsent 0xB 0xD0 = false ∧ (State.reset.stack .recto).build.regRow 4 0x50 = regAt 4 0x50 ∧
    (State.reset.stack .recto).regAbsent 4 0x50 = false := by
  decide

theorem witness_StagedCopiesTakeWritesUnlessATurnIsArmed :
    (State.reset.stack .recto).build.regRow 0xA (0x8000 + 0x604) = regAt 0xA 0x604 ∧ (regAt 0xA 0x604).isSome = true ∧
    (State.reset.stack .recto).regAbsent 0xA 0x604 = false ∧ (State.reset.stack .recto).firmwareArmed = false ∧
    ((one (fields [(TURN.STATUS_PENDING, 1)])).stack .recto).firmwareArmed = true ∧
    (State.reset.stack .recto).build.regRow 3 (0x8000 + 0x100) = regAt 3 0x100 ∧ (regAt 3 0x100).isSome = true ∧
    (State.reset.stack .recto).regAbsent 3 0x100 = false := by
  decide

theorem witness_PowerUpAndWakeComplete :
    State.reset.recto.mode = .off ∧
    ((pair (fun t => { t with mode := .vigil, sys := { t.sys with suppliesOut := [] } }) fun t => { t with sys := { t.sys with suppliesOut := [] } }).recto.mode = .vigil ∧
      ∀ k, ((pair (fun t => { t with mode := .vigil, sys := { t.sys with suppliesOut := [] } }) fun t => { t with sys := { t.sys with suppliesOut := [] } }).stack k).suppliesOk = true) ∧
    ((one fun t => { t with mode := .siesta }).recto.mode = .siesta ∧ (one fun t => { t with mode := .siesta }).recto.sys.siestaWake = 0) ∧
    ((one fun t => { t.put SYS.VIGIL_TIMER_SECONDS 1 with mode := .vigil, sys := { t.sys with suppliesOut := [] } }).recto.flag SYS.VIGIL_TIMER_SECONDS = true) := by
  refine ⟨rfl, ⟨rfl, fun k => by cases k <;> rfl⟩, ⟨rfl, rfl⟩, by decide⟩

theorem witness_RequestedMovesBegin :
    ((one fun t => { t with mode := .siesta }).recto.mode = .siesta ∧ (one fun t => { t with mode := .siesta }).recto.flag SYS.MODE_BUSY = false ∧
      ∀ k, ((one fun t => { t with mode := .siesta }).stack k).sys.recoveries = []) ∧
    ((one fun t => { t with mode := .dusk, sys := { t.sys with duskStep := 3 } }).recto.sys.duskStep = 3 ∧
      (one fun t => { t with mode := .dusk, sys := { t.sys with duskStep := 3 } }).recto.sys.duskCritical = false ∧
      (one fun t => { t with mode := .dusk, sys := { t.sys with duskStep := 3 } }).recto.sys.duskWorkshop = false ∧
      Shutdown.duskBist ∉ (one fun t => { t with mode := .dusk, sys := { t.sys with duskStep := 3 } }).recto.sys.reenables) ∧
    ((one fun t => { t with mode := .day }).recto.mode = .day ∧ (one fun t => { t with mode := .workshop }).recto.mode = .workshop ∧
      ∀ k, ((one fun t => { t with mode := .day }).stack k).flag TURN.STATUS_PENDING = false) ∧
    ((one fun t => { t with mode := .haven }).recto.mode = .haven ∧ (one fun t => { t with mode := .haven }).recto.flag SYS.MODE_BUSY = false) := by
  refine ⟨⟨rfl, by decide, fun k => by cases k <;> rfl⟩, ⟨rfl, rfl, rfl, by decide⟩, ⟨rfl, rfl, fun k => by cases k <;> decide⟩, rfl, by decide⟩

theorem witness_ForbiddenMovesAreRefused :
    (one fun t => { t with mode := .workshop }).recto.mode ∈ [.day, .workshop, .haven] ∧ (one fun t => { t with mode := .dusk }).recto.mode ≠ .day ∧
    (one fun t => { t with mode := .siesta }).recto.mode ∈ [.siesta, .dusk, .haven] ∧ (one fun t => { t with mode := .day }).recto.mode ≠ .haven := by
  decide

theorem witness_DawnFailuresEnterHaven :
    (∀ n ∈ [1, 5, 6, 8], (one fun t => { t.put SYS.DAWN_STEP n with mode := .dawn }).recto.mode = .dawn ∧
      (one fun t => { t.put SYS.DAWN_STEP n with mode := .dawn }).recto.get SYS.DAWN_STEP = n) ∧
    (one fun t => { t with sys := { t.sys with release := { locks := true } } }).recto.sys.release.locks = true ∧
    (one fun t => { t with sys := { t.sys with release := { locks := true } } }).recto.sys.release.recovery = false := by
  decide

theorem witness_ReleaseStepsAndReenablesComplete :
    ((one fun t => { t with sys := { t.sys with release := { active := true, delay := true, idx := 2 } } }).recto.sys.release.active = true ∧
      (one fun t => { t with sys := { t.sys with release := { active := true, delay := true, idx := 2 } } }).recto.sys.release.delay = true ∧
      (one fun t => { t with sys := { t.sys with release := { active := true, delay := true, idx := 2 } } }).recto.sys.release.idx < 3) ∧
    ((one fun t => { t.put SYS.DAWN_STEP 10 with mode := .dawn, sys := { t.sys with release := { active := true, delay := true, idx := 3 } } }).build ≠ .atlas ∧
      (one fun t => { t.put SYS.DAWN_STEP 10 with mode := .dawn, sys := { t.sys with release := { active := true, delay := true, idx := 3 } } }).recto.get SYS.DAWN_STEP = 10 ∧
      (one fun t => { t.put SYS.DAWN_STEP 10 with mode := .dawn, sys := { t.sys with release := { active := true, delay := true, idx := 3 } } }).recto.sys.release.recovery = false) ∧
    ((one fun t => { t with sys := { t.sys with release := { locks := true } } }).recto.sys.release.locks = true ∧
      (one fun t => { t with sys := { t.sys with release := { locks := true } } }).recto.locksMet = true) ∧
    (Shutdown.duskBist ∈ (one fun t => { t with mode := .dusk, sys := { t.sys with duskStep := 3, reenables := [.duskBist] } }).recto.sys.reenables ∧
      (one fun t => { t with mode := .dusk, sys := { t.sys with duskStep := 3, reenables := [.duskBist] } }).recto.sys.duskStep = 3) := by
  decide

theorem witness_RecoveriesStartCompleteAndEscalate :
    ((one fun t => { t with mode := .day }).recto.mode ≠ .haven ∧ (one fun t => { t with mode := .day }).recto.sys.recoveries = [] ∧
      (one fun t => { t with mode := .day }).recto.flag PINS.PAIR_MODE = false ∧ (one fun t => { t with mode := .day }).recto.turnArmed = false) ∧
    (one fun t => { t with sys := { t.sys with recoveries := [⟨.stack, 4, 1⟩] } }).recto.sys.recoveries = [⟨.stack, 4, 1⟩] ∧
    ∀ j, ((pair (fun t => { t with sys := { t.sys with recoveries := [⟨.stack, 4, 1⟩] } }) id).stack j).mode ≠ .haven := by
  refine ⟨by decide, by decide, fun j => by cases j <;> decide⟩

theorem witness_FabricAccessesComplete :
    let u := fun t : Stack => (({ t.writes [(POWER.FEED_RAW, 0), (CLK.SRC_STAT_SEL 16, 1)] with sys := { t.sys with writesEnabled := true } } : Stack).setSect 1
      { state := .live, layerLo := 2, layerCnt := 1, cols := 40, rows := 30, root := true }).setRunning 0x20 true
    ((one u).recto.leafClocked ⟨2, 0⟩ 3 1 = true ∧ ((one u).recto.leafPort ⟨2, 0⟩ 3 1).ratio = 0 ∧ (leafShape 0).2.1 ≤ 256 ∧ 255 < (leafShape 0).2.1 ∧
      (one u).recto.mark (leafWord ⟨2, 0⟩ 3 (255 / (leafShape 0).2.2) / 16) = .ok ∧ (one u).recto.sys.writesEnabled = true ∧
      (one u).recto.flag CODE.INJECT_ARM = false) ∧
    (one fun t => { t with mode := .day }).recto.mode = .day ∧ (2 + 1 < State.reset.recto.build.layers ∧ State.reset.recto.endsIdle 2 1199 = true ∧ State.reset.recto.spareOf 2 1199 95 = none ∧
      State.reset.recto.vbyte 2 1199 0 = 0x7F) ∧
    let g := fun t : Stack => { (u t) with clk := { (u t).clk with up := 999 }, fabric := { t.fabric with planeMem := [(folioKey ⟨2, 0⟩ 0 0 * 4096 + 32 * 30 + 31, 0x40)] } }
    ((one g).recto.ownerOf (groupTile 0 0 6) = some 1 ∧ bits ((one g).recto.fabric.group (groupTile 0 0 6) ((one g).recto.livePlane 1) 6) 0 2 = 1 ∧
      mapGet 0 (one g).recto.integ.phaseAt (phaseKey 0 0 6) + 999 ≤ (one g).recto.clk.up) := by
  decide

/-- A section over a whole logic layer. -/
def root (x : Section) : Section := { x with layerLo := 2, layerCnt := 1, cols := 40, rows := 30, root := true }

theorem witness_SectionCommandsComplete :
    (∀ st ∈ [SectState.live, .asleep, .held, .empty, .torn],
      ((one (·.setSect 1023 (root { state := st }))).stack .recto).flag (SECT.CMD_STATUS_BUSY 0) = false ∧
      ((one (·.setSect 1023 (root { state := st }))).stack .recto).homed 0 1023 = true ∧
      ((one (·.setSect 1023 (root { state := st }))).stack .recto).turnArmed = false ∧
      ((one (·.setSect 1023 (root { state := st }))).stack .recto).family 1023 = [1023] ∧
      (((one (·.setSect 1023 (root { state := st }))).stack .recto).sect 1023).state = st ∧
      (((one (·.setSect 1023 (root { state := st }))).stack .recto).sect 1023).seq = .idle) ∧
    (((one (·.setSect 1023 (root { state := .live, resetPulse := true }))).stack .recto).sect 1023).resetPulse = true ∧
    (((one (·.setSect 1023 (root { state := .live, resetPulse := true }))).stack .recto).sect 1023).cmdBusy = false ∧
    (∀ b t, (one (·.setSect 1023 (root { state := .asleep }))).recto.exhausted b t = false) := by
  refine ⟨by decide, by decide, by decide, fun b t => rfl⟩

theorem witness_PageCommandsComplete :
    let u := one (·.setSect 1 (root { state := .asleep }))
    let v := one fun t => (t.setSect 1 (root { state := .asleep })).setPlane 1 3 { status := .staged, src := 16 }
    (u.recto.flag (SECT.PG_STATUS_BUSY 0) = false ∧ u.recto.homed 0 (u.recto.rootOf 1) = true ∧ (u.recto.sect 1).state ≠ .none ∧
      u.recto.pageRefusal 1 0 3 2 false = 0 ∧ u.recto.waitsBehind (u.recto.rootOf 1) u.recto.pages.order = false) ∧
    v.recto.pageRefusal 1 15 3 1 false = 0 ∧
    ((one fun t => (t.setSect 1 (root { state := .asleep })).setJob 0 { phase := 2, op := 1, root := 1, plane := 3 }).recto.job 0).phase = 2 ∧
    (let w := one fun t => ((t.setSect 1 (root { state := .asleep })).setPlane 1 3 { status := .staged, src := 16 }).setJob 0
        { phase := 1, op := 1, sect := 1, root := 1, page := 16, plane := 3 };
      w.recto.nextWaiting = some (0, { phase := 1, op := 1, sect := 1, root := 1, page := 16, plane := 3 }) ∧ w.recto.pageSection 0 1 = true ∧ w.recto.pageRefusal 1 16 3 1 false = 0) := by
  decide

theorem witness_CapturesComplete :
    let u := one fun t => (t.setSect 1 (root { state := .live, doms := [16] })).setCap 0 { sect := 1, domain := 16, phase := 1 }
    let w := one fun t => ((t.setSect 1 (root { state := .capturing })).setCap 0 { sect := 1, phase := 2 })
    (u.recto.cap 0).phase = 1 ∧ u.recto.freePlane (u.recto.rootOf 1) = some 0 ∧ (w.recto.cap 0).phase = 2 ∧
    (let v : State := { u with recto := ((u.recto.setRunning 0x20 true).writes [(POWER.FEED_RAW, 0), (CLK.SRC_STAT_SEL 16, 1)]) }
     v.recto.capRefusal 0 1 16 (v.recto.flag (SECT.CAP_CTL_AT_POINT 0)) (v.recto.get (SECT.CAP_CTL_RASTER 0)) false = 0 ∧
       (v.recto.cap 0).due ≤ v.recto.time ∧ v.recto.turnNames 1 = false) ∧
    (one (fields [(SECT.CAP_STATUS_STATE 3, 3), (SECT.CAP_PTR_PTR 3, 7), (SECT.CAP_LEN_LEN 3, 8)])).recto.get (SECT.CAP_STATUS_STATE 3) = 3 ∧
    (one (fields [(SECT.CAP_STATUS_STATE 3, 3), (SECT.CAP_PTR_PTR 3, 7), (SECT.CAP_LEN_LEN 3, 8)])).recto.get (SECT.CAP_PTR_PTR 3) = 7 ∧
    (one (fields [(SECT.CAP_STATUS_STATE 3, 3), (SECT.CAP_PTR_PTR 3, 7), (SECT.CAP_LEN_LEN 3, 8)])).recto.get (SECT.CAP_LEN_LEN 3) = 8 := by
  decide

/-- An engine that may issue: main bank live, its registers as given. -/
def running (g : Sparse Nat) (s : Stack) : Stack := { s with mode := .day }.setEngine 0 5 { st := 2, main := { g := g, f := some ⟨0, false⟩ } }

theorem witness_EngineArithmeticCompletes :
    (one (running [(1, 0xFFFFFFFF), (2, 0x80000001)])).hasSide .recto = true ∧ (one (running [(1, 0xFFFFFFFF), (2, 0x80000001)])).recto.feReady 0 5 :=
  ⟨rfl, ready (by decide) rfl⟩

/-- An engine that may issue from its shadow bank, its accumulators as given. -/
def interrupted (acc : Sparse Nat) (s : Stack) : Stack :=
  { s with mode := .workshop }.setEngine 1 7 { st := 2, shadow := true, ie := 3, shad := { acc := acc, a := [(2, 40)], f := some ⟨0, false⟩ } }

theorem witness_EngineAccumulatorInstructionsComplete :
    let s := one (interrupted [(0, 5), (3, 2 ^ 48 - 1)])
    let b := (s.recto.engine 1 7).bank true
    s.hasSide .recto = true ∧ s.recto.feReady 1 7 ∧ (s.recto.engine 1 7).shadow = true ∧ s.recto.feClean 1 7 0 (b.getA 1) ∧
    s.recto.feClean 1 7 1 (b.getA 2) ∧ s.recto.feClean 1 7 2 (b.getA 3) ∧ (0 : Nat) < 2 ∧ (47 : Nat) ≤ 47 ∧ (2 : Nat) ≠ 3 :=
  ⟨rfl, ready (by decide) rfl, by decide⟩

theorem witness_EngineAddressAndMemoryInstructionsComplete :
    let s := one (interrupted [])
    let b := (s.recto.engine 1 7).bank true
    s.hasSide .recto = true ∧ s.recto.feReady 1 7 ∧ (s.recto.engine 1 7).shadow = true ∧ s.recto.feClean 1 7 2 (b.getA 2) ∧
    s.recto.feClean 1 7 1 (b.getA 3) ∧ (2 : Nat) ≠ 3 ∧ 6 % 2 = 0 :=
  ⟨rfl, ready (by decide) rfl, by decide⟩

theorem witness_EnginePortAndSpecialRegisterInstructionsComplete :
    let s := one fun t => { t with mode := .day }.setEngine 1 7 { st := 2, main := { f := some ⟨0, false⟩ }, fifos := [(2, [⟨5, 1⟩, ⟨6, 0⟩])] }
    let e := s.recto.engine 1 7
    s.hasSide .recto = true ∧ s.recto.feReady 1 7 ∧ e.shadow = false ∧ e.fifo 2 = ⟨5, 1⟩ :: [⟨6, 0⟩] ∧ bit e.ie 0 = false ∧ waitmOk 1 1 = true ∧
    (e.fifo (4 + 3)).length < 16 ∧ s.recto.feClean 1 7 2 ((e.bank false).getA 0) ∧ (e.bank false).levels = [] :=
  ⟨rfl, ready (by decide) rfl, by decide⟩

theorem witness_EngineControlInstructionsComplete :
    let s := one (running [(3, 9)])
    let b := (s.recto.engine 0 5).bank false
    let v := one (interrupted [])
    s.hasSide .recto = true ∧ s.recto.feReady 0 5 ∧ v.recto.feReady 1 7 ∧ (s.recto.engine 0 5).shadow = false ∧ b.slot = false ∧ b.levels = [] ∧ b.levels.length < 3 ∧
    0 < b.getG 3 ∧ b.getG 3 ≤ 65536 ∧ b.getG 4 = 0 ∧ (v.recto.engine 1 7).shadow = true ∧
    ((v.recto.engine 1 7).bank true).slot = false ∧ (v.recto.engine 1 7).main.halting = false :=
  ⟨rfl, ready (by decide) rfl, ready (by decide) rfl, by decide⟩

theorem witness_EngineCommandsComplete :
    let f := fun st => one fun t => { t with mode := .day }.setEngine 0 5 { st := st }
    let v := one fun t => (fields [(FE.CMD_STATUS_BUSY 2, 1)] t).setEngine 2 5 { filling := true }
    v.recto.flag (FE.CMD_STATUS_BUSY 2) = true ∧ v.recto.feFilling 2 = some 5 ∧ ((f 0).recto.engine 0 5).st = 0 ∧ ((f 1).recto.engine 0 5).st = 1 ∧ (f 1).recto.mode = .day ∧
    ((f 2).recto.engine 0 5).st = 2 ∧ ((f 3).recto.engine 0 5).st = 3 ∧ (f 2).recto.flag (FE.CMD_STATUS_BUSY 0) = false ∧ (5 : Nat) < 192 := by
  decide

theorem witness_EngineEventsComplete :
    let s := one fun t => ((t.setEngine 0 0 { st := 2, ie := 3, bell := true, fifos := [(4, [⟨7, 1⟩])] }).setSect 0 (root { state := .live })).setRunning 0x20 true |>.writes [(POWER.FEED_RAW, 0), (CLK.SRC_STAT_SEL 16, 1)]
    let v := one fun t => t.setEngine 0 0 { st := 2, shadow := true }
    let e := s.recto.engine 0 0
    s.hasSide .recto = true ∧ e.st = 2 ∧ e.shadow = false ∧ bit e.ie 0 = true ∧ (e.ip &&& (e.ie / 2)) ≠ 0 ∧ (v.recto.engine 0 0).shadow = true ∧
    (v.recto.engine 0 0).stallNow = 0 ∧ feWindow 0x4000 8 = true ∧ e.st ≠ 0 ∧ (e.fifo 0).length < 16 ∧ s.recto.portOpen 0 0 0 = true ∧
    e.fifo (4 + 0) = ⟨7, 1⟩ :: [] ∧ s.recto.portOpen 0 0 (4 + 0) = true := by
  decide
theorem witness_EngineEventsComplete_clean (c : Nat) : State.reset.recto.mark c = .ok := rfl

theorem witness_SectionTestsAndBistComplete :
    (let u := one fun t => { t.setSect 1023 (root { state := .asleep }) with mode := .day }
     (u.stack .recto).flag (SECT.CMD_STATUS_BUSY 0) = false ∧ (u.stack .recto).homed 0 1023 = true ∧ (u.stack .recto).turnArmed = false ∧
     (u.recto.sect 1023).seq = .idle ∧ u.recto.mode = .day ∧
     (u.recto.pooled && (u.recto.freePlane (u.recto.rootOf 1023)).isNone) = false) ∧
    (one fun t => { t with bist := { sects := [1023] } }).recto.bist.sects = 1023 :: [] ∧
    (one fun t => { t with mode := .workshop }).recto.mode = .workshop ∧
    (one fun t => { t with mode := .workshop }).recto.flag TEST.STATUS_BUSY = false ∧
    (one (fields [(TEST.STATUS_BUSY, 1)])).recto.flag TEST.STATUS_BUSY = true ∧
    (one fun t => { t with bist := { run := 2 } }).recto.bist.run = 2 ∧
    (one (fields [(TEST.STATUS_GROUPS, 510)])).recto.get TEST.STATUS_GROUPS + 1 < (one fun t => { t with bist := { run := 2 } }).recto.groupLimit := by
  decide

/-- Every colophon sensor reads 25 °C. -/
def warm (s : Stack) : Stack := { s with therm := { s.therm with sensors := (List.range 4).map fun n => (32 * s.build.layers + 16 + n, 200) } }

theorem witness_TestPortInstructionsComplete :
    (∀ m ∈ [Mode.workshop, .haven, .day], ((one fun t => { t with mode := m }).recto.mode = m ∧
      (one fun t => { t with mode := m }).recto.flag TEST.JTAG_STAT_OPEN = false ∧
      (one fun t => { t with mode := m }).recto.jtag.step = 0 ∧ (one fun t => { t with mode := m }).portUp = true)) ∧
    (one fun t => warm { t with mode := .haven }).recto.secretWindow = true ∧
    (one fun t => { t with mode := .haven }).recto.secretWindow = false ∧
    (pair (fun t => warm { t with mode := .workshop }) fun t => warm { t with mode := .haven }).verso.secretWindow = true := by
  decide

theorem witness_IntegrityCommandsComplete :
    (let u := one fun t => { t with integ := { t.integ with queue := [⟨false, 2, 64, 3⟩], ceLog := [⟨1, 64, 0, 1, 0⟩, ⟨2, 64, 3, 5, 0⟩] } }
     u.recto.integ.queue = [⟨false, 2, 64, 3⟩] ∧ u.recto.integ.ceLog = [⟨1, 64, 0, 1, 0⟩] ++ ⟨2, 64, 3, 5, 0⟩ :: []) ∧
    (let u := one fun t => { t with integ := { t.integ with queue := [⟨true, 0, 64, 63⟩], ueLog := List.replicate 15 ⟨1, 64, 0, 1, 0⟩ } }
     (∀ y ∈ u.recto.integ.ueLog, ¬ (y.source = 0 ∧ y.loc = 64)) ∧ u.recto.integ.ueLog.length < 16) ∧
    (let u := one fun t => { (fields [(CODE.SCRUB_CTL_ENABLE, 31), (CODE.LAP_LIMIT_COMN, 1)] t) with
        mode := .day, clk := { t.clk with up := 2000001 }, integ := { t.integ with scrubPos := [(4, 0x3FFFFF)], lapStart := [(4, 1)] } }
     u.recto.scrubRuns 4 = true ∧ mapGet 0 u.recto.integ.scrubPos 4 % scrubWords 4 ≠ 0 ∧ mapGet 0 u.recto.integ.lapStart 4 = 0 + 1 ∧
     mapGet false u.recto.integ.lapOver 4 = false ∧ u.recto.lapLimit 4 * 1000000 < u.recto.clk.up - 0) ∧
    (let u := one fun t => t.setVlink 0 { state := 1, unspared := 35 }
     u.recto.build.links.contains 0 = true ∧ (u.recto.vlink 0).state = 1 ∧ (u.recto.vlink 0).unspared = 35) ∧
    (let u := one fun t => t.setVlink 0 { spares := List.replicate 7 0xFE ++ [0xFF] }
     (u.recto.vlink 0).state = 0 ∧ (4 * 35 + 3) ∉ (u.recto.vlink 0).spares ∧ (∀ r ∈ u.recto.integ.remaps, r.link ≠ 0) ∧
     (List.range 8).find? (fun i => (u.recto.vlink 0).spares.getD i 0xFE == 0xFF) = some 7) := by
  refine ⟨by decide, by decide, by decide, ⟨?_, by decide, by decide⟩, by decide⟩
  rw [List.contains_iff_mem]; exact List.mem_append_left _ (List.mem_append_left _ (List.mem_append_left _ (by decide)))

/-- Two sections over one layer each; the live plane of the first drives up track 0 of tile 0. -/
def driven : State :=
  one fun t => { ((t.setSect 1 (root { state := .live })).setSect 2 { root { state := .live } with layerLo := 4 }).setPlane 2 0
      { status := .live, src := 0 } with
    mode := .haven
    fabric := { t.fabric with
      planeMem := [(folioKey ⟨2, 0⟩ 0 0 * 4096 + 32 * 12 + 31, 1), (folioKey ⟨4, 0⟩ 0 0 * 4096 + 32 * 24 + 31, 1)]
      pageStore := (List.range 4).map fun i => (slotDigest ⟨4, 0⟩ 0 0 + i, BitVec.ofNat 8 (zeroDigest / 256 ^ i))
      rewriteSafe := [(safeKey ⟨4, 0⟩ 0 0, true)] } }

theorem witness_GatesResetsAndContentionComplete :
    (let u := one fun t => t.setSect 1 (root { state := .live, seq := .sleep 1 })
     (u.recto.sect 1).seq = .sleep 1 ∧ (u.recto.sectInterfaces 1).all u.recto.busIdle = true) ∧
    (let p := driven.recto.livePlane 2
     let pl := driven.recto.plane (driven.recto.rootOf 2) p
     driven.recto.mode = .haven ∧ driven.recto.pooled = false ∧ (boundaryTiles 0 0) = (⟨2, 0⟩, ⟨4, 0⟩) ∧
     driven.recto.ownerOf ⟨2, 0⟩ = some 1 ∧ driven.recto.ownerOf ⟨4, 0⟩ = some 2 ∧
     bit (driven.recto.fabric.enables ⟨2, 0⟩ (driven.recto.livePlane 1) true) 0 = true ∧
     bits (driven.recto.groupAt (trackEnd 0 0 0) 0) 0 2 ∈ [1, 2] ∧ driven.recto.sys.recoveries = [] ∧ (driven.recto.sect 2).state = .live ∧
     pl.status = .live ∧ mapGet false driven.recto.fabric.rewriteSafe (safeKey ⟨4, 0⟩ 0 pl.src) = true ∧
     driven.recto.sourceOk (driven.recto.rootOf 2) ⟨4, 0⟩ 0 pl.src = true ∧ driven.recto.get (SECT.FAULT_VALID (driven.recto.sect 2).home) = 0 ∧
     driven.recto.rootOf (driven.recto.rootOf 2) = driven.recto.rootOf 2 ∧ (driven.recto.sect 2).home = 1) := by
  decide

theorem witness_MemoryAccessesComplete :
    (let h : Header := { src := 0, tag := 0, addr := 0x803FFFFC0 }
     State.reset.hasSide .recto = true ∧ targetOf (h.addr % 2 ^ 44) = .commons ∧ h.reserved = false ∧ h.rot = false ∧
     (∀ i < 4 * h.rlen, State.reset.recto.mark (h.addr % 2 ^ 44 / 16 + i) = .ok) ∧ State.reset.recto.writesIgnored h.src = false ∧
     State.reset.recto.flag CODE.INJECT_ARM = false) ∧
    (let h : Header := { src := 0, tag := 0, addr := 0x4C0000000, rlen := 2 }
     targetOf (h.addr % 2 ^ 44) = .store ∧ h.addr / 2 ^ 44 % 16 = 0 ∧
     ∀ a, State.reset.recto.footprintOf a = Option.none) ∧
    (let h : Header := { src := 0, tag := 0, addr := 0x80000000F, rot := true }
     targetOf (h.addr % 2 ^ 44) = .commons ∧ h.rlen = 1 ∧ State.reset.recto.mark (h.addr % 2 ^ 44 / 16) = .ok) ∧
    (∀ op, State.reset.recto.uncarried op { src := 0, tag := 0, addr := 0 }) ∧ targetOf 0x804000000 ≠ .store ∧ targetOf 0x804000000 ≠ .commons := by
  refine ⟨by decide, ⟨by decide, by decide, fun a => rfl⟩, by decide, fun _ => rfl, by decide⟩

theorem witness_LocalPortsAndInterfacesComplete :
    (let u := State.reset.recto
     1 < u.build.layers ∧ (u.localPort 0 0).length < 32 ∧ u.localRefusal 1 79691776 ≠ 0 ∧ u.localRefusal 1 79691775 = 0 ∧
     (∀ j < 4, u.mark ((1 * localBytes + 64 * 79691775) / 16 + j) = .ok)) ∧
    (let u := one fun t => { t with sys := { t.sys with writesEnabled := true } }
     u.recto.sys.writesEnabled = true ∧ u.recto.flag CODE.INJECT_ARM = false) ∧
    (let u := one fun t => t.setLocalPort 3 15 [⟨7, []⟩, ⟨0, [1]⟩]
     u.recto.localPort 3 15 = ⟨7, []⟩ :: [⟨0, [1]⟩]) ∧
    (let u := one fun t => { t with rings := { t.rings with tokens := [(9, 271)] } }
     let h : Header := { src := 15, tag := 1023, addr := 0x800000000, len := 16 }
     (u.recto.ringTag h.src h.tag).st < 2 ∧ u.recto.interfaceError 6 h = false ∧ u.recto.interfaceError 1 { h with addr := 0x804000000 } = true ∧
     u.recto.get (RING.REG_CFG_RATE 9) ≠ 0 ∧ mapGet 0 u.recto.rings.tokens 9 < 16 * (1 + h.len) ∧
     16 * (1 + 15) ≤ mapGet 0 u.recto.rings.tokens 9 ∧ takesTag 6 = true ∧ takesTag 3 = false) ∧
    (let u := one fun t => t.setTag 0 5 { st := 3, birth := 7 }
     (u.recto.ringTag 0 5).st = 3) := by
  refine ⟨by decide, by decide, by decide, by decide, by decide⟩

theorem witness_TimetablesAndGuaranteedFlitsComplete :
    (let u := State.reset.recto
     (one fun t => { t with mode := .day }).recto.ringsRun = true ∧ u.turn.ttPending = false ∧ u.turn.chmapPending = false ∧ u.flag RING.TT_STATUS_COPY = false ∧ u.integ.remaps = [] ∧ u.integ.retire = [] ∧
     u.firmwareArmed = false ∧ u.stopBypassed 1 0 = false ∧ u.stopBypassed 1 1 = true ∧
     (mapGet {} u.rings.cursors (chanKey 0 9 31)).left = 0) ∧
    (let u := one fun t => { t with turn := { t.turn with ttPending := true } }
     u.recto.turn.ttPending = true ∧ u.recto.turn.ttVariant = Option.none) ∧
    (let u := one (fields [(RING.WIN_ADDR_ADDR, 2 ^ 20 + 4095), (RING.HOP_RETIRED 3, 1)])
     u.recto.get RING.WIN_ADDR_ADDR / 2 ^ 20 % 4 = 1 ∧ bits (u.recto.get RING.WIN_ADDR_ADDR) 17 3 ≤ u.recto.build.layers ∧
     u.recto.flag RING.WIN_ADDR_LIVE = false ∧ u.recto.hopRetired 3 0 ≠ 0) ∧
    (let u := one fun t => (fields [(RING.WIN_ADDR_LIVE, 1), (RING.TT_STATUS_COPY, 1)] t)
     u.recto.flag RING.WIN_ADDR_LIVE = true ∧ u.recto.flag RING.TT_STATUS_COPY = true) ∧
    (let u := one fun t => { t with rings := { t.rings with cursors := [(chanKey 0 6 0, ⟨0x803FFFFC0, 1⟩)] }, sys := { t.sys with writesEnabled := true } }
     let c := mapGet {} u.recto.rings.cursors (chanKey 0 6 0)
     c.left ≠ 0 ∧ u.recto.writesIgnored 32 = false ∧ targetOf (c.addr % 2 ^ 44) = .commons ∧ (∀ i < 4, u.recto.mark (c.addr % 2 ^ 44 / 16 + i) = .ok) ∧
     u.recto.flag CODE.INJECT_ARM = false) := by
  refine ⟨by decide, by decide, by decide, by decide, by decide⟩

theorem witness_HostAccessesComplete :
    (let u := one fun t => { (fields [(HOSTIF.UCIE_STAT_MODULES, 1)] t) with mode := .day, sys := { t.sys with hostReleased := true } }
     let r : HostReq := { kind := .fetch, core := 3, size := 64, addr := 0x803FFFFC0, data := [] }
     u.recto.hostRuns = true ∧ u.recto.linkUp = true ∧ u.recto.hostif.waiting = [] ∧ ownLoc (r.addr % 2 ^ 44) = false ∧ r.normal.accepted = true ∧
     u.recto.hostServes r.normal = true ∧ ((List.range 1024).find? fun g => (u.recto.ringTag 0 g).st == 0) = some 0 ∧
     u.recto.interfaceError (r.normal.header 0).1 (r.normal.header 0).2 = false ∧ u.recto.hostif.fences = [] ∧
     u.recto.flag HOSTIF.ERR_STATUS_VALID = false) ∧
    (let u := one fun t => { t with mode := .haven, sys := { t.sys with hostReleased := true } }
     u.recto.hostRuns = true ∧ u.recto.linkUp = false) := by
  refine ⟨⟨by decide, by decide, by decide, by decide, by decide, by decide, ?_, by decide, by decide, by decide⟩, by decide⟩
  rw [show (1024 : Nat) = 1023 + 1 from rfl, List.range_succ_eq_map]
  rfl

theorem witness_ResponsesAndVectorsComplete :
    (let u := one fun t => (t.setTag 0 7 { st := 2 }).setTag 127 1023 { st := 3 }
     (u.recto.ringTag 0 7).st = 2 ∧ (u.recto.ringTag 127 1023).st = 3) ∧
    (let r : HostReq := { kind := .lineFill, core := 0, size := 64, addr := 0, data := [] }
     let u := one fun t => { t with hostif := { t.hostif with out := [(7, [r])] } }
     mapGet [] u.recto.hostif.out 7 = [r] ∧ u.recto.hostif.waiting = []) ∧
    (let u := one fun t => (t.setTag 10 0 { st := 1 }).setTag 14 3 { st := 2, birth := 9 }
     (u.recto.ringTag 10 0).st = 1 ∧ (u.recto.ringTag 14 3).st = 2 ∧ 10 ∉ [0, 11, 12, 13, 15] ∧ 14 ∉ [0, 11, 12, 15]) ∧
    (let u := one fun t => { (fields [(HOSTIF.VEC_CFG_EN 255, 1), (HOSTIF.UCIE_STAT_MODULES, 2), (HOSTIF.VEC_PEND_PEND 0, 2 ^ 15),
        (SYS.INT_MODE_DONE, 1), (SYS.INT_EN_EN, 0xFF)] t) with mode := .day, sys := { t.sys with hostReleased := true } }
     u.recto.vecPending 255 = false ∧ u.recto.flag (HOSTIF.VEC_CFG_EN 255) = true ∧ u.recto.linkUp = true ∧ u.recto.hostRuns = true ∧
     u.recto.vecPending 15 = true ∧ (u.recto.setVec 15 false).vectorLine 15 = false ∧ u.recto.vecPending 0 = false ∧ u.recto.vectorLine 0 = true ∧
     u.recto.flag (HOSTIF.VEC_CFG_EN 0) = false ∧ 255 ∉ u.recto.hostif.unsent) ∧
    (let u := one fun t => { (fields [(HOSTIF.VEC_CFG_WAKE 2, 1), (HOSTIF.VEC_PEND_PEND 0, 4)] t) with mode := .siesta }
     u.recto.mode = .siesta ∧ u.recto.sys.siestaWake = 0 ∧ u.recto.wakePending = true) := by
  refine ⟨by decide, by decide, by decide, by decide, ⟨rfl, rfl, ?_⟩⟩
  exact List.any_eq_true.2 ⟨2, List.mem_range.2 (by decide), by decide⟩

theorem witness_WindowsFenceAndLinkComplete :
    (let u := one fun t => { (fields [(HOSTIF.UCIE_STAT_MODULES, 3)] t) with mode := .day, sys := { t.sys with hostReleased := true } }
     u.recto.get HOSTIF.UCIE_STAT_MODULES = 3 ∧ u.recto.hostRuns = true ∧ u.recto.linkUp = true ∧ u.recto.hostif.waiting = [] ∧
     (∀ n < 4, mapGet [] u.recto.hostif.windows n = []) ∧ u.recto.hostif.fences = [] ∧
     (∀ e ∈ u.recto.hostif.out, e.2.any HostReq.isWrite = false) ∧ u.recto.hostif.fenceStatus < 16) ∧
    (let u := one fun t => { (fields [(HOSTIF.UCIE_STAT_MODULES, 2)] t) with mode := .day, sys := { t.sys with hostReleased := true } }
     u.recto.get HOSTIF.UCIE_STAT_MODULES = 2 ^ 1 ∧ 0 < u.recto.build.modules ∧ u.recto.mode ≠ .dawn ∧ u.recto.hostRuns = true ∧
     bit (u.recto.get HOSTIF.UCIE_STAT_MODULES) 0 = false ∧ u.recto.hostif.unsent = []) ∧
    (let u := one fun t => { t with mode := .day, sys := { t.sys with hostReleased := true } }
     u.recto.linkUp = false ∧ u.recto.hostRuns = true ∧ u.build ≠ .atlas ∧ u.recto.sys.recoveries = [] ∧
     ∀ j, u.hasSide j = true → (u.stack j).mode ≠ .haven) ∧
    (let u := pair (fun t => fields [(HOSTIF.UCIE_STAT_MODULES, 1)] t) (fun t => { t with mode := .day, sys := { t.sys with hostReleased := true } })
     (u.stack .verso).linkUp = false ∧ (u.stack .verso).hostRuns = true ∧ (u.stack (otherSide .verso)).linkUp = true) ∧
    (let u := one fun t => { t with mode := .day, hostif := { t.hostif with windows := [(3, [(0x803FFFFFF, 256)])] } }
     let r : HostReq := { kind := .store, core := 0, size := 1, addr := 0x803FFFFFF, data := [255], window := true }
     mapGet [] u.recto.hostif.windows 3 = [(0x803FFFFFF, 256)] ∧ u.recto.hostServes r = true ∧
     u.recto.interfaceError (r.header 0).1 (r.header 0).2 = false) ∧
    (let u := one (fields [(HOSTIF.WIN_ADDR_HI_AUTOINC 3, 1), (HOSTIF.WIN_ADDR_LO_ADDR 3, 0x38), (HOSTIF.WIN_ADDR_HI_ADDR 3, 8)])
     u.recto.flag (HOSTIF.WIN_ADDR_HI_AUTOINC 3) = true ∧ u.recto.winAddr 3 = 0x800000038 ∧ targetOf (0x800000038 % 2 ^ 44) ≠ .regs) ∧
    (let u := one fun t => { (fields [(TEST.JTAG_STAT_OPEN, 1)] t) with mode := .workshop }
     let r := wordReq 0 true true 0xF000E0220 5
     u.recto.flag TEST.JTAG_STAT_OPEN = true ∧ u.recto.jtag.dbgDone = true ∧ targetOf (r.addr % 2 ^ 44) = .regs ∧ r.accepted = true ∧
     u.recto.interfaceError (r.header 0).1 { (r.header 0).2 with src := 15 } = false) := by
  refine ⟨by decide, by decide, ⟨by decide, by decide, by decide, by decide, fun j => by cases j <;> decide⟩, by decide, by decide, by decide, by decide⟩

theorem witness_DmaCommandsComplete :
    (let u := one fun t => { t with mode := .day }
     u.hasSide .recto = true ∧ u.recto.flag DMA.CMD_STATUS_BUSY = false ∧ u.recto.get (DMA.STATE_STATE 31) = 0 ∧
     u.recto.get (DMA.LIST_LO_ADDR 31) % 16 = 0 ∧ u.recto.mode = .day) ∧
    (let u := one (fields [(DMA.LIST_LO_ADDR 31, 8)])
     u.recto.get (DMA.LIST_LO_ADDR 31) % 16 ≠ 0 ∧ u.recto.mode ≠ .day ∧ u.recto.mode ≠ .workshop) ∧
    (let u := one (fields [(DMA.CMD_STATUS_BUSY, 1), (DMA.STATE_STATE 0, 1)])
     u.recto.flag DMA.CMD_STATUS_BUSY = true ∧ u.recto.get (DMA.STATE_STATE 0) = 1) ∧
    (let e := dmaEntry 0x803FFFFC0 [0, 0, 0, 0, 8, 0, 8, 0, 0, 0, 0, 0xF, 0, 0, 0, 0]
     let u := one fun t => { (fields [(DMA.STATE_STATE 0, 4)] t) with dma := [(0, { entries := [e] })] }
     u.recto.get (DMA.STATE_STATE 0) = 4 ∧ (u.recto.chan 0).entries = [e] ∧ e.finish = false ∧ (u.recto.chan 0).status = [] ∧
     e.at_ = 0x803FFFFC0 ∧ targetOf (0x803FFFFC0 / 64 * 64) = .commons ∧ (∀ i < 4, u.recto.mark (0x803FFFFC0 / 64 * 64 / 16 + i) = .ok) ∧
     u.recto.flag CODE.INJECT_ARM = false) := by decide

theorem witness_DmaGroupsComplete :
    (let src := dmaEntry 0x800000000 [0, 2, 0, 0, 8, 0, 0, 0, 3, 0, 0, 0, 0, 0, 0, 0]
     let dst := dmaEntry 0x800000010 [0x3D, 6, 0, 0, 8, 0, 3, 0, 3, 0, 0, 0, 0, 0, 0, 0]
     let c : DmaChan := { entries := [src, dst], answered := [(0, true)], buf := [(0, 7), (1, 8), (2, 9)] }
     let u := one fun t => { (fields [(DMA.STATE_STATE 31, 1)] t) with dma := [(31, c)] }
     u.recto.get (DMA.STATE_STATE 31) = 1 ∧ u.recto.chan 31 = c ∧ c.failed = false ∧ c.done 1 0 = false ∧ c.mayWrite 1 0 = true ∧
     dst.dest = true ∧ dst.last = true ∧ dmaPieces dst = 1 ∧ dmaPiece dst 0 = (0, 3) ∧ dst.addr = 0x80000063D ∧
     targetOf (0x80000063D / 64 * 64) = .commons ∧ (∀ i < 4, u.recto.mark (0x80000063D / 64 * 64 / 16 + i) = .ok) ∧
     (0x80000063D % 64 + 3 + 63) / 64 = 1 ∧ u.recto.flag CODE.INJECT_ARM = false ∧ DmaChan.done { c with answered := [] } 0 0 = false ∧
     u.recto.dmaAwaits 31 = true ∧ src.dest = false ∧ dmaPieces src = 1 ∧ dmaPiece src 0 = (0, 3)) ∧
    (let b : List Nat := [0, 2, 0, 0, 8, 0, 0xF2, 0, 0, 0, 0, 0, 0, 0, 0, 0]
     let e := dmaEntry 0x800000000 b
     let u := one fun t => { (fields [(DMA.STATE_STATE 0, 1), (DMA.CUR_HI_ADDR 0, 8)] t) with
       mem := [(0x800000001, 2), (0x800000004, 8), (0x800000006, 0xF2)] }
     u.recto.get (DMA.STATE_STATE 0) = 1 ∧ (u.recto.chan 0).entries = [] ∧
     u.recto.get (DMA.CUR_LO_ADDR 0) + 2 ^ 32 * u.recto.get (DMA.CUR_HI_ADDR 0) = 0x800000000 ∧
     ((List.range 16).map fun i => (u.recto.readByte (0x800000000 + i)).toNat) = b ∧ e.last = true ∧ e.op = 0xF ∧ e.len = 0 ∧
     e.at_ = 0x800000000 ∧ e.finish = false ∧ (∀ i < 4, u.recto.mark (0x800000000 / 64 * 64 / 16 + i) = .ok)) ∧
    (let u := one fun t => { (fields [(DMA.STATE_STATE 0, 2)] t) with dma := [(0, { stopCmd := true })] }
     u.recto.get (DMA.STATE_STATE 0) = 2 ∧ (u.recto.chan 0).overlap = 0 ∧ (u.recto.chan 0).stopCmd = true) := by
  refine ⟨by decide, by decide, by decide⟩

theorem witness_PinOutputsAndLockComplete :
    (let u := one (fields [(PINS.CONFLICT_CONFLICT 0, 3), (PINS.LOCK_STATUS_ARMED, 1)])
     (∀ n < u.recto.build.pins, u.inConflict .recto n = false) ∧ u.recto.turnArmed = false ∧ u.recto.flag PINS.LOCK_STATUS_ARMED = true) ∧
    (let u := one (fields [(TURN.STATUS_PENDING, 1)])
     u.recto.turnArmed = true) ∧
    (let u := pair (fields [(PINS.LOCK_STATUS_ARMED, 1)]) id
     u.recto.build = .atlas ∧ u.recto.side = .recto ∧ u.recto.turnArmed = false ∧ u.recto.flag PINS.LOCK_STATUS_ARMED = true) := by
  decide

theorem witness_PinInputsAndPeripheralsComplete :
    (let u := one fun t => { (fields [(PINS.PIN_FUNC 7, 11), (PINS.PIN_FUNC 8, 9), (PINS.PIN_FUNC 63, 5)] t) with
       clk := { t.clk with started := true }, pins := { t.pins with ts := [(7, 1, 5)] } }
     (u.padsOf .recto 7).isEmpty = false ∧ u.inConflict .recto 7 = false ∧ u.inConflict .recto 8 = false ∧ u.inConflict .recto 63 = false ∧
     63 < u.recto.build.pins ∧ u.recto.get (PINS.PIN_FUNC 7) = 11 ∧ u.recto.get (PINS.PIN_FUNC 8) = 9 ∧ u.recto.houseKind ≠ 3 ∧
     u.recto.clk.started = true ∧ u.recto.pins.ts.length < 16 ∧ u.recto.pins.ts = (7, 1, 5) :: []) ∧
    (let u := one (fields [(PINS.PIN_FUNC 50, 2), (PINS.PIN_FUNC 49, 3), (PINS.PIN_FUNC 53, 4), (PINS.PIN_FUNC 48, 7), (PINS.SPI_CFG_EN 3, 1),
       (PINS.I2C_CFG_EN 3, 1), (PINS.UART_CFG_EN 3, 1)])
     3 < u.recto.build.pinBanks ∧ u.recto.get (PINS.SPI_CFG_EN 3) ≠ 0 ∧ u.recto.get (PINS.I2C_CFG_EN 3) ≠ 0 ∧ u.recto.get (PINS.UART_CFG_EN 3) ≠ 0 ∧
     ∀ c ∈ [0, 2, 3, 5], u.inputWired .recto 3 c = true) := by
  decide

theorem witness_ClockCommandsComplete :
    (let u := one (fields [(CLK.HOUSE_STAT_STATE, 2), (CLK.RAS_CTL_ENABLE 1, 1), (CLK.FM_STAT_BUSY, 1)])
     u.hasSide .recto = true ∧ u.recto.get CLK.HOUSE_STAT_STATE ≠ 0 ∧ u.recto.rasterRunning 0 = false ∧ u.recto.rasterRunning 1 = true ∧
     u.recto.flag CLK.FM_STAT_BUSY = true) := by
  decide

theorem witness_FeedsPointsAndSuppliesComplete :
    (let u := one fun t => { (fields [(POWER.FEED_RAW, 1)] t) with mode := .workshop, power := { t.power with
       handovers := [⟨2, true, 2⟩], retries := [2], opps := [(0, 64, 750)], trip := 1 } }
     u.recto.build.upperLayer 2 = true ∧ u.recto.modeIn [.workshop, .haven] = true ∧ u.recto.flag POWER.REG_STATUS_BUSY = false ∧
     u.recto.power.handovers = ⟨2, true, 2⟩ :: [] ∧ 2 ∈ u.recto.power.retries ∧ u.recto.onRaw 2 = true ∧ u.mode ≠ .dawn ∧
     u.recto.power.opps = (0, 64, 750) :: [] ∧ u.recto.power.trip = 1 ∧ u.recto.modeIn [.day, .workshop] = true) ∧
    (let u := one fun t => { t with mode := .haven }
     u.build.upperLayer 2 = true ∧ u.recto.mode = .haven) ∧
    (let u := one fun t => { t with mode := .dusk }
     u.recto.modeIn [.siesta, .dusk] = true) := by
  decide

theorem witness_TemperaturesLedgerAndPairComplete :
    (let u := one fun t => { (fields [(LEDGER.SEL_TYPE, 1), (LEDGER.WIN_ADDR_WORD, 96)] t) with mode := .workshop, ledger := { t.ledger with retry := [(1, [])], pend := [{ block := 1, cause := 1 }] }, loader := { t.loader with thermalN := t.build.top + 1 } }
     u.recto.modeIn [.off, .vigil] = false ∧ u.recto.tempWindow = true ∧ u.recto.ledger.retry ≠ [] ∧ u.recto.ledger.pend ≠ [] ∧
     u.recto.mode = .workshop ∧ u.recto.get LEDGER.SEL_TYPE = 1 ∧ u.recto.get LEDGER.WIN_ADDR_WORD = 96 ∧
     u.recto.loader.thermalN = u.recto.build.top + 1) ∧
    (let u := one fun t => { t with mode := .vigil }
     u.recto.mode ≠ .workshop ∧ u.recto.get LEDGER.WIN_ADDR_WORD < 96) ∧
    (let u := pair (fun t => { (fields [(PINS.PAIR_STAT_WINDOW, 1), (PINS.PAIR_MODE, 1), (CLK.RAS_CTL_ENABLE 0, 1)] t) with pair := { t.pair with frames := 3 } }) id
     u.mirror = true ∧ 3 ≤ u.recto.pair.frames ∧ (u.stack u.active).rasterRunning 0 = true ∧ u.recto.flag PINS.PAIR_STAT_WINDOW = true) := by
  decide

set_option maxRecDepth 20000 in
theorem witness_TemperaturesLedgerAndPairComplete_sample :
    let u := (one fun t => { t with mode := .workshop }).onStackFault .recto (Stack.sampleDie 1 [some 200, some 210])
    1 ∈ u.recto.dies ∧ ∀ e ∈ u.recto.dies, u.recto.trips e = false ∧ u.recto.decided e < 840 := by
  decide

theorem witness_KeyCommandsComplete :
    (one fun t => { t with mode := .day }).recto.modeIn [.day, .workshop] = true ∧
    (one fun t => { t with mode := .haven }).recto.modeIn [.day, .workshop, .haven] = true ∧
    (one id).recto.modeIn [.day, .workshop] = false ∧ (one id).recto.mode ≠ .haven := by
  decide

theorem witness_RekeyAndReencryptionComplete :
    (let u := one fun t => { (fields [(KEYS.REGIONW0_VALID 1, 1), (KEYS.REGIONW2_DATA 1, 1)] t) with mode := .day, keys := { t.keys with
       slots := [(3, 8)], rekey := some ⟨1, some 3, false⟩, reenc := [(1, 5)] } }
     u.recto.modeIn [.day, .workshop] = true ∧ u.recto.regionValid 1 = true ∧ u.recto.slotKey 3 ≠ none ∧ u.recto.keys.rekeyQueue.length < 15 ∧
     u.recto.keys.rekey = some ⟨1, some 3, false⟩ ∧ u.recto.keys.rekeyQueue = [] ∧ u.recto.keys.boundLeaf < u.recto.regionData 1 / 4096 ∧
     u.recto.leafStalls 1 5 = true ∧ (u.recto.fetch 1 0).2 = .ok 0 [0]) ∧
    (let u := one fun t => { (fields [(KEYS.REGIONW0_VALID 1, 1), (KEYS.REGIONW2_DATA 1, 1)] t) with mode := .day, keys := { t.keys with
       slots := [(3, 8)], rekey := some ⟨1, some 2, false⟩, boundLeaf := 512 } }
     u.recto.rekeyPending 2 = false ∧ u.recto.slotInUse 3 = false ∧ u.recto.modeIn [.day, .workshop] = true ∧ u.recto.regionData 1 / 4096 ≤ u.recto.keys.boundLeaf) := by
  decide

theorem witness_LaneBringUpCompletes :
    (let u := one fun t => { (fields [(LANE.CFG_ENABLE 1, 1), (LANE.CFG_USE 1, 3), (LANE.STATUS_STAGE 1, 3), (LANE.STATUS_STAGE 2, 8), (LANE.CFG_USE 2, 3),
       (LANE.STATUS_STAGE 4, 7), (LANE.QCTL_REF_EN 0, 3)] t) with lanes := [(1, { run := 16 }), (3, { waiting := true })] }
     u.recto.flag (LANE.CFG_ENABLE 0) = false ∧ 0 < u.recto.build.lanes ∧ u.recto.flag (LANE.CFG_ENABLE 1) = true ∧ u.recto.laneUse 1 ≠ 1 ∧
     u.recto.laneStage 1 = 3 ∧ u.recto.laneUse 1 = 3 ∧ 16 ≤ (u.recto.lane 1).run ∧ (u.recto.lane 1).waiting = false ∧ (u.recto.lane 1).refWait = false ∧
     u.recto.get (LANE.STATUS_ATTEMPT 1) + 1 < 8 ∧ (u.recto.lane 3).waiting = true ∧ u.recto.laneStage 2 = 8 ∧ u.recto.laneUse 2 = 3 ∧
     u.recto.laneStage 4 = 7 ∧ u.recto.laneUse 4 ≠ 3 ∧ bit (u.recto.get (LANE.QCTL_REF_EN 0)) 1 = true) ∧
    (let u := one fun t => (t.setRunning 3 true).setRunning 9 true
     u.recto.sourceRunning 3 = true ∧ u.recto.sourceRunning (8 + 2 * 0 + 1) = true) := by
  decide

theorem witness_LaneTestsAndTrainingComplete :
    let u := one fun t => { (fields [(LANE.CFG_USE 1, 3), (LANE.STATUS_STAGE 1, 7)] t) with mode := .workshop }
    u.recto.modeIn [.day, .workshop] = true ∧ u.recto.get (LANE.TEST_LOOP 1) ≠ 1 % 4 ∧ u.recto.laneStage 1 ≠ 0 ∧ u.recto.laneStage 1 ≠ 9 ∧
    u.recto.laneUse 1 = 3 ∧ 5 ≤ u.recto.laneStage 1 ∧ u.recto.laneStage 1 ≤ 7 := by
  decide

theorem witness_LacingCommandsComplete :
    (let u := one fun t => { (fields [(LANE.LACE_STAT_STATE 1, 2), (LANE.LACE_STAT_STATE 2, 3), (LANE.LACE_STAT_STATE 3, 1)] t) with
       mode := .dawn, laces := [(1, { req := [[0]], crReq := 4, discarding := true, replay := [⟨0, false, 0, 0, 0, 0, false, [0]⟩] })] }
     let x := u.recto.lace 1
     u.recto.laceState 1 = 2 ∧ u.recto.laceDrives = true ∧ x.resend = none ∧ (x.take 0 16).isSome ∧ 1 ≤ x.credit 0 ∧
     x.replay.foldl (fun a u => a + u.flits.length) 0 + 1 ≤ 4096 ∧ x.replay.length < 1024 ∧ x.txCount + 1 ≠ 2 ^ 32 ∧ x.replay ≠ [] ∧
     u.recto.effectiveAttr 1 0 [0] = 0 ∧ u.recto.mayEncrypt 1 0 = true ∧ 0 = x.rxCount % 4096 ∧ x.discarding = true ∧
     u.recto.laceState 2 = 3 ∧ (u.recto.lace 2).rxGuar = [] ∧ u.recto.modeIn [.dawn, .day, .workshop] = true ∧ 1 < u.recto.build.laces ∧ u.recto.laceState 0 = 0 ∧
     (∀ n ∈ u.recto.members 2, u.recto.laneStage n = 8 ∧ u.recto.get (LANE.TEST_LOOP n) = 0)) := by
  decide

set_option maxRecDepth 30000 in
theorem witness_MediaPortsAndHostPathComplete :
    (let u := one fun t => { (fields [(MPORT.CFG_ENABLE 1, 1), (MPORT.STATUS_LINK 1, 1)] t) with rings := { t.rings with live := [(2 ^ 25 + mediaStop 1 * 32, 8)] }, media := { t.media with
       ports := [(1, { hrx := [[5, 6]], buffer := [⟨1024, 0, [7]⟩] })] } }
     u.recto.flag (MPORT.CFG_ENABLE 0) = false ∧ 1 < u.recto.build.mports ∧ u.recto.flag (MPORT.CFG_ENABLE 1) = true ∧
     u.recto.flag (MPORT.STATUS_LINK 1) = true ∧ frameBad [1, 2] true = true ∧ frameBad (List.replicate 60 255) true = false ∧
     u.recto.macAccepts 1 (List.replicate 60 255) = true ∧ ptpMessage (List.replicate 60 255) = none ∧ etherType (List.replicate 60 255) = 0xFFFF ∧
     isUdp (List.replicate 60 255) = false ∧ u.recto.macAccepts 1 (List.replicate 60 2) = false ∧
     (takeUnit 1024 (u.recto.mport 1).buffer).isSome ∧ (u.recto.rxFlow 1024).hold = false ∧ mapGet 0 u.recto.media.owner (32 * mediaStop 1) = 0 ∧
     [7].take (u.recto.queueDepth 0 (mediaStop 1) 0 - (u.recto.queueFlits 0 (mediaStop 1) 0).length) ≠ [] ∧
     (u.recto.mport 1).hrx = (5 :: [6]) :: [] ∧ (u.recto.mport 0).hrx = [] ∧ (u.recto.mport 1).htx.length < 4096) := by
  decide

set_option maxRecDepth 30000 in
theorem witness_FlowsAndSdiComplete :
    (let u := one fun t => { (fields [(MPORT.TXENTW2_WORD 0 3, 2 ^ 31 + 5), (MPORT.SDI_CTL_ENABLE 1 2, 1), (LANE.CFG_USE 6, 2), (LANE.STATUS_STAGE 6, 8),
       (MPORT.SDI_STAT_LOCKED 1 2, 1)] t) with mode := .day, sys := { t.sys with outputs := .live }, media := { t.media with
         chans := [(32 * mediaStop 0 + 5, { seq := some 4 })], tx := [(4, { packets := [⟨0, [1]⟩] })], ports := [(1, { sdi := [(2, [[1]])] })] } }
     u.recto.txEntries (mediaStop 0) 5 = [(0, 3)] ∧ u.recto.flowsRun = true ∧ bits (u.recto.txWord 0 3 2) 5 4 = 0 ∧
     u.recto.txEntries (mediaStop 0) 7 = [] ∧ (u.recto.txFlow 0 3).packets = [] ∧ (u.recto.txFlow 0 4).packets ≠ [] ∧
     u.recto.flag (MPORT.SDI_CTL_ENABLE 1 2) = true ∧ u.recto.flag (MPORT.SDI_CTL_ENABLE 0 2) = false ∧ u.recto.sdiRuns 1 2 = true ∧
     u.recto.houseKind ≠ 2 ∧ mapGet [] (u.recto.mport 1).sdi 2 = [[1]] ∧ mapGet [] (u.recto.mport 1).sdi 1 = []) := by
  decide

theorem witness_LoaderCommandsComplete :
    (one (fields [(LOAD.STATUS_BUSY, 1)])).recto.flag LOAD.STATUS_BUSY = true ∧ (one id).recto.flag LOAD.STATUS_BUSY = false ∧
    (one id).recto.loadPaused = false ∧ (∀ p ∈ [1, 2, 3, 4, 5], (one (fields [(LOAD.STATUS_PHASE, p)])).recto.get LOAD.STATUS_PHASE = p) ∧
    (one fun t => t.setSect 3 { t.sect 3 with state := .asleep }).recto.stateIn 3 [.none] = false ∧ (one (fields [(LOAD.STATUS_PHASE, 4)])).recto.stageLinksBusy = false ∧
    (one id).recto.loader.waitTurn = false ∧ (one fun t => { t with loader := { t.loader with waitTurn := true } }).recto.loader.waitTurn = true ∧
    (let u := one fun t => { (fields [(LOAD.FETCH_STATUS_BUSY, 1)] t) with mode := .day }
     u.recto.flag LOAD.FETCH_STATUS_BUSY = true ∧ u.recto.repairFirst = false) := by
  decide

theorem witness_UploadsAndChecksComplete :
    (one (fields [(LOAD.UP_STATUS_BUSY, 1)])).recto.flag LOAD.UP_STATUS_BUSY = true ∧ (one id).recto.flag LOAD.UP_STATUS_BUSY = false ∧
    (let u := one fun t => { (fields [(LOAD.UP_STATUS_OPEN, 1)] t) with loader := { t.loader with upBusyOp := 2, rewrites := [folioKey ⟨2, 0⟩ 0 1] } }
     u.recto.flag LOAD.UP_STATUS_OPEN = true ∧ u.recto.loader.upBusyOp = 2 ∧ u.recto.tempWindow = true ∧ u.recto.program.flag LOAD.UP_STATUS_OPEN = true ∧
     u.recto.loader.rewrites = folioKey ⟨2, 0⟩ 0 1 :: []) ∧
    (one fun t => { t with therm := { t.therm with sensors := [(144, 800)] } }).recto.tempWindow = false ∧
    (let u := one fun t => ((t.writes [(LOAD.CHK_CTL_ENABLE, 1)]).setSect 1 (root { state := .live })).setPlane 1 0 { status := .live, src := 0, bad := false }
     u.recto.flag LOAD.CHK_CTL_ENABLE = true ∧ u.recto.checked ⟨2, 0⟩ 0 = true ∧ u.recto.loader.rewrites.contains (folioKey ⟨2, 0⟩ 3 0) = false) ∧
    (let u := one fun t => { t with loader := { t.loader with repairs := [(5, 4)] } }
     u.recto.loader.repairs = (5, 4) :: [] ∧ u.recto.freePlane 5 = some 0 ∧ u.recto.commandOnLinks 5 = false) := by
  decide

theorem witness_TurnCommandsComplete :
    (let u := one fun t => { t with mode := .workshop, turn := { t.turn with waiting := [.stopDusk] } }
     u.recto.turnArmed = false ∧ u.armReason .recto = 0 ∧ u.mirror = false ∧ u.recto.turn.mirrored = false ∧ u.recto.turn.waiting = .stopDusk :: []) ∧
    (one id).armReason .recto ≠ 0 ∧
    (let u := one (fields [(TURN.STATUS_PENDING, 1), (TURN.STATUS_STAGE, 1)])
     u.recto.turnArmed = true ∧ u.recto.firmwareArmed = true ∧ u.recto.stage = 1 ∧ (u.examine .recto).1.turn.dev = none ∧ (u.examine .recto).1.get TURN.POINT_WHEN = 0) ∧
    (let u := one fun t => { (fields [(TURN.STATUS_PENDING, 1), (TURN.STATUS_STAGE, 1), (TURN.STATUS_DEVICE, 1)] t) with turn := { t.turn with dev := some .safeOutput } }
     u.recto.stage = 1 ∧ (u.examine .recto).1.turn.dev = some .safeOutput) ∧
    (let u := one fun t => { (fields [(TURN.STATUS_PENDING, 1), (TURN.STATUS_STAGE, 2)] t) with turn := { t.turn with instant := 20000 } }
     u.recto.stage = 2 ∧ u.recto.time + 10000 < u.recto.turn.instant) ∧
    (let u := one fun t => { (fields [(TURN.STATUS_PENDING, 1), (TURN.STATUS_STAGE, 3)] t) with turn := { t.turn with examined := true } }
     u.recto.stage = 3 ∧ u.recto.turn.examined = true ∧ u.recto.turn.dev ≠ some .switchOver) ∧
    (let u := one (fields [(TURN.STATUS_PENDING, 1), (TURN.STATUS_STAGE, 3)])
     u.recto.stage = 3 ∧ u.recto.turn.examined = false ∧ u.recto.turn.ttPending = false ∧ u.recto.turn.chmapPending = false) := by
  decide

theorem witness_CarriedRequestsAreAnsweredByPacket :
    let p : Packet := { op := 1, head := { src := 32, tag := 5, addr := 0x804000000 }, dhub := 0, dstop := some 8, hub := 0, at_ := some 8, arrived := true }
    let u := one fun t => { t with rings := { t.rings with packets := [p] } }
    u.recto.rings.packets = p :: [] ∧ p.arrived = true ∧ p.op = 1 ∧ p.head.src = 32 ∧ p.head.tag = 5 := by
  decide

theorem witness_ReadReturnsWhatWasWritten :
    (let h : Header := { src := 0, tag := 0, addr := 0x803FFFFC0, beFirst := 2 ^ 64 - 1, beLast := 2 ^ 64 - 1 }
     let r : Header := { src := 1, tag := 0, addr := 0x803FFFFC0 }
     h.reserved = false ∧ h.rot = false ∧ r.reserved = false ∧ r.rot = false ∧ r.addr = h.addr ∧ (List.replicate 64 0xA5).length = 64 * r.rlen ∧
     targetOf (h.addr % 2 ^ 44) = .commons ∧ State.reset.recto.writesIgnored h.src = false ∧ State.reset.recto.flag CODE.INJECT_ARM = false ∧
     ∀ i < 4 * r.rlen, State.reset.recto.mark (h.addr % 2 ^ 44 / 16 + i) = .ok) := by
  decide

end Sys2Proof.Tests
end

section
/-! SUPPORT. Every command and every step goes on: each arm of the dispatch is one of a few forms of outcome, each effect of the block by
itself is one of a few candidates, and all of them leave the build, the queue and an absent stack as they are. -/

namespace Sys2Proof.Machine

/-! ## The forms of a command's outcome -/

/-- An outcome is a next state, and what no command touches of the package is in it as in `p`. -/
def State.GoesOn (p : State) (o : Host.Outcome State Fault Refusal) : Prop := ∃ t, o = .next t ∧ p.KeepsPackage t

section
variable {p q : State} (k : Side) (f : Stack → Stack)

theorem goesOn_next (h : p.KeepsPackage q) : p.GoesOn (.next q) := ⟨q, rfl, h⟩

theorem goesOn_nextStack : p.GoesOn (nextStack p k f) := goesOn_next (p.onStack_keeps k f)

theorem goesOn_hostRow (r : HostReq) : p.GoesOn (hostRow p k r) := goesOn_nextStack k _

theorem goesOn_nextFault : p.GoesOn (nextFault p k f) := goesOn_next (by simp)

theorem goesOn_nextLink : p.GoesOn (nextLink p k f) := goesOn_next (by simp)

theorem goesOn_nextSide {k : Side} {f : State → State} (h : p.KeepsPackage (f p)) : p.GoesOn (nextSide p k f) := by
  refine goesOn_next ?_
  split
  · exact h
  · exact .refl p

/-- A command that does nothing under some condition. -/
theorem goesOn_ite {c : Prop} [Decidable c] {o : Host.Outcome State Fault Refusal} (h : p.GoesOn o) :
    p.GoesOn (if c then .next p else o) := by
  split
  · exact goesOn_next (.refl p)
  · exact h

theorem keeps_ite {c : Prop} [Decidable c] {r : State} (hq : p.KeepsPackage q) (hr : p.KeepsPackage r) :
    p.KeepsPackage (if c then q else r) := by
  split
  · exact hq
  · exact hr

end

/-- Every command in every state is answered with a next state that keeps the package. -/
theorem exec_goesOn (c : Instr) (s : State) : s.GoesOn (exec c s) := by
  cases c with
  | baseRingFault | recoveryLimit | persistentSymbol | epochBoundary | backgroundCheck | sectWake | vtrackContention =>
    exact goesOn_nextFault _ _
  | laneEnable | laneDisable | laneStageComplete | laneStageOverrun | laneRestart | lossOfSignal | syncHeaderErrors
  | referenceClockStopped | referenceClockRuns | clockDead | laneLoop | lacingUnitReceive | lacingUnitSend | credit | resendTimer
  | laceEnable | laceDisable | retrainTimeout | mportEnable | mportDisable =>
    exact goesOn_nextLink _ _
  | hostLineFill | hostWriteBack | hostUncachedLoad | hostUncachedStore | hostRegisterAccess | hostInstructionFetch
  | hostUnsupportedAccess | winDataAccess | winAddrWrite | fence | vecEoi | vecCfgWrite =>
    exact goesOn_hostRow _ _
  | conflictClear | jtagRelock | releaseDelayExpiry | lockTimeout | reenableAtSafeBoundary | regulatorSuspect | handoverComplete
  | supplyExcursion | temperatureSample | arm | cancel | turnCheckComplete | lastExamination | turnApply | deviceTurnArm
  | ringReadResp | ringRegResp | ringWriteAck | requestTimeout | stagedCopyWrite =>
    unfold exec
    exact goesOn_nextSide (by simp)
  | registerWrite =>
    unfold exec
    exact goesOn_nextSide (keeps_ite (by simp) (by simp))
  | ringRegRead | ringRegWrite =>
    unfold exec
    refine goesOn_nextSide ((keeps_serveReg _ _ _ _).2 ?_)
    split <;> simp
  | timestampEdge | tallyDebounce => exact goesOn_ite (goesOn_nextStack _ _)
  | ucieLinkLost | stackUnreachable => exact goesOn_ite (goesOn_nextFault _ _)
  | jtagIdcode | jtagSamplePreload | jtagLockStatus | offToVigil | wakeInterrupt =>
    exact goesOn_next (keeps_ite (by simp) (by simp))
  | jtagBypass | jtagExtest | jtagClamp | jtagHighz | jtagExtestPulse | jtagExtestTrain | jtagUnlock | jtagDbgAccess | brownOut
  | wake | vigilWakeTimer | modeReqDay | modeReqSiesta | modeReqDusk | modeReqDawn | modeReqVigil | modeReqWorkshop | modeReqHaven
  | tcxoTimeout | systemPllTimeout | fillTimeout | ucieTrainTimeout | layerPllTimeout | mirrorExchange | resyncFail =>
    exact goesOn_next (by simp)
  | _ => exact goesOn_nextStack _ _

/-! ## What the block does by itself (log 71) -/

section
variable {s r : State}

/-- The first of a list of candidates is one of them. -/
theorem firstSome_mem {l : List (Option State)} (h : firstSome l = some r) : some r ∈ l := by
  obtain ⟨o, ho, rfl⟩ := List.exists_of_findSome?_eq_some h
  exact ho

/-- The first candidate that a list of places gives is that of one of them. -/
theorem keeps_findSome {α : Type} {l : List α} {f : α → Option State} (hf : ∀ a r, f a = some r → s.KeepsPackage r)
    (h : l.findSome? f = some r) : s.KeepsPackage r := by
  obtain ⟨a, _, ha⟩ := List.exists_of_findSome?_eq_some h
  exact hf a r ha

theorem keeps_some {q : State} (hq : s.KeepsPackage q) (h : some q = some r) : s.KeepsPackage r := Option.some.inj h ▸ hq

/-- A candidate under a condition. -/
theorem keeps_guard {c : Prop} [Decidable c] {o : Option State} (ho : o = some r → s.KeepsPackage r)
    (h : (if c then o else none) = some r) : s.KeepsPackage r :=
  ho (Option.ite_none_right_eq_some.1 h).2

theorem due_keeps {k : Side} {b : Bool} {f : Stack → Stack} (h : s.due k b f = some r) : s.KeepsPackage r :=
  keeps_guard (keeps_some (s.onStack_keeps k f)) h

/-- A stack found by a search replaces one of the package. -/
theorem map_putStack_keeps {k : Side} {o : Option Stack} (h : o.map (s.putStack k) = some r) : s.KeepsPackage r := by
  obtain ⟨t, _, rfl⟩ := Option.map_eq_some_iff.1 h
  exact s.putStack_keeps k t

theorem releaseTick_keeps (h : s.releaseTick = some r) : s.KeepsPackage r := by
  refine keeps_findSome (fun k q => keeps_guard fun hq => ?_) h
  dsimp only at hq
  split at hq
  · exact keeps_some (by simp) hq
  · exact map_putStack_keeps hq

theorem dawnTick_keeps (h : s.dawnTick = some r) : s.KeepsPackage r := by
  unfold State.dawnTick at h
  split at h
  -- step 3 chooses after its self-test, and step 9 is a search of its own
  case h_3 => exact keeps_some (keeps_ite (by simp) (by simp)) h
  case h_9 => exact (keeps_dawn9 h).2 (.refl s)
  all_goals (repeat' split at h) <;> cases h <;> simp

theorem duskTick_keeps (h : s.duskTick = some r) : s.KeepsPackage r := by
  unfold State.duskTick at h
  dsimp only at h
  (repeat' split at h) <;> cases h <;> simp

theorem modeTick_keeps (h : s.modeTick = some r) : s.KeepsPackage r := by
  unfold State.modeTick at h
  split at h
  · rcases Option.or_eq_some_iff.1 h with h | ⟨_, h⟩
    · exact dawnTick_keeps h
    · exact releaseTick_keeps h
  · exact duskTick_keeps h
  · split at h
    · exact keeps_some (by simp) h
    · exact releaseTick_keeps h
  · exact releaseTick_keeps h
  · split at h
    · cases h
    · exact keeps_some (by simp) h
  · cases h

theorem mirrorLink_keeps (h : s.mirrorLink = some r) : s.KeepsPackage r :=
  keeps_guard (keeps_some (by simp)) h

theorem stackTick_keeps {k : Side} (h : s.stackTick k = some r) : s.KeepsPackage r := by
  have hm := firstSome_mem h
  simp only [List.mem_cons, List.not_mem_nil, or_false] at hm
  rcases hm with hm | hm | hm | hm | hm | hm | hm
  · exact keeps_guard map_putStack_keeps hm.symm
  · exact keeps_guard map_putStack_keeps hm.symm
  · exact due_keeps hm.symm
  · exact due_keeps hm.symm
  · exact keeps_findSome (fun _ _ => due_keeps) hm.symm
  · exact keeps_findSome (fun b q => keeps_guard (keeps_some (by simp))) hm.symm
  · exact due_keeps hm.symm

theorem tick_keeps (s : State) : s.KeepsPackage s.tick := by
  unfold State.tick
  dsimp only
  generalize hf : firstSome _ = found
  cases found with
  | none => simp [State.readPads]
  | some r =>
    have hm := firstSome_mem hf
    simp only [List.mem_cons, List.not_mem_nil, or_false] at hm
    rcases hm with hm | hm | hm | hm | hm
    · exact modeTick_keeps hm.symm
    · exact keeps_guard (keeps_some (by simp)) hm.symm
    · exact mirrorLink_keeps hm.symm
    · exact stackTick_keeps hm.symm
    · exact stackTick_keeps hm.symm

end

/-- One step: the command in front acts on the state with the rest of the queue, or the block acts by itself. -/
theorem step_goesOn (s : State) : ({ s with pending := s.pending.tail } : State).GoesOn (step s) := by
  unfold step
  cases hp : s.pending with
  | nil =>
    have hs : ({ s with pending := [] } : State) = s := by rw [← hp]
    rw [List.tail_nil, hs]
    exact goesOn_next (tick_keeps s)
  | cons c rest => exact exec_goesOn c { s with pending := rest }

/-- An absent stack that is as reset left it stays so where the package is kept. -/
theorem State.KeepsPackage.absentUntouched {p q : State} (h : p.KeepsPackage q) (ha : p.AbsentUntouched) : q.AbsentUntouched := by
  obtain ⟨hb, _, hv⟩ := h
  intro hq
  rw [hb] at hq ⊢
  exact (hv hq).trans (ha hq)

end Sys2Proof.Machine
end

section
/-! SUPPORT. Register accesses: what is answered ERROR, what a write by type does, and what a write to a staged copy does (R4, R6, R233). -/

namespace Sys2Proof.Machine

section
variable {s : State} {k : Side} {block off v : Nat}

theorem nextSide_present (f : State → State) (h : s.hasSide k = true) : nextSide s k f = .next (f s) := by simp [nextSide, h]

theorem State.onStack_onStack (s : State) (k : Side) (f g : Stack → Stack) :
    (s.onStack k f).onStack k g = s.onStack k fun t => g (f t) := by
  cases hk : s.hasSide k with
  | false => simp [State.onStack, hk]
  | true => simp [State.onStack, hk]

/-- An answer changes the latch alone. -/
theorem Stack.answered_onlyChanges {P : List Part} {F : List Field} (t : Stack) (status : Nat) (data : List Nat) (h : .answer ∈ P) :
    t.OnlyChanges P F (t.answered status data) :=
  ⟨rfl, rfl, fun p hp => by cases p <;> first | rfl | exact absurd h hp, fun _ _ => rfl⟩

/-- A register request that no packet carries has the effect of its access, when the access leaves the rings as they are (R311). -/
theorem State.serveReg_access {op : Nat} {h : Header} {f : State → State} {t : State} (hu : (s.stack k).uncarried op h) (hf : f s = t)
    (ht : (t.stack k).rings = (s.stack k).rings) : s.serveReg k op h f = t := by
  subst hf
  refine State.serveReg_uncarried ?_
  unfold Stack.uncarried at hu ⊢
  rw [ht]
  exact hu

/-- A part that a frame does not list is as it was. -/
theorem State.OnlyChanges.same {P : List Part} {F : List Field} {t : State} (h : s.OnlyChanges k P F t) {p : Part} (hp : p ∉ P) :
    (s.stack k).Same (t.stack k) p := by
  obtain ⟨_, _, _, _, _, hparts, _⟩ := h
  exact hparts p hp

theorem State.onStack_answered_rings (s : State) (k : Side) (status : Nat) (data : List Nat) :
    ((s.onStack k fun t => t.answered status data).stack k).rings = (s.stack k).rings :=
  (s.onStack_onlyChanges (F := []) ((s.stack k).answered_onlyChanges status data (List.mem_singleton_self _))).same (p := .rings)
    (by decide)

/-- An answer of a stack that the build has is its latch written. -/
theorem State.onStack_answered (status : Nat) (data : List Nat) (hk : s.hasSide k = true) :
    (s.onStack k fun t => t.answered status data) = s.setStack k { s.stack k with answer := { status := status, data := data } } :=
  s.onStack_present _ hk

/-- A write at an offset that holds no register is answered ERROR (R4). -/
theorem State.accessWrite_unlisted (v : Nat) (h : (s.stack k).build.regRow block off = none) :
    s.accessWrite k block off v = s.onStack k fun t => t.answered 1 [] := by
  unfold State.accessWrite
  dsimp only
  rw [h]

/-- A read at an offset that holds no register is answered ERROR (R4). -/
theorem State.accessRead_unlisted (h : (s.stack k).build.regRow block off = none) :
    s.accessRead k block off = s.onStack k fun t => t.answered 1 [] := by
  have hw : s.regWord k block off = none := by
    unfold State.regWord
    dsimp only
    rw [h]
  unfold State.accessRead
  rw [h, if_neg (by simp)]
  dsimp only
  rw [hw]

/-- The place of a register request is where its address lies in the register space (R340). -/
theorem regPlace_some {h : Header} {p : Nat × Nat} (hp : regPlace h = some p) :
    p = (blockOf (h.addr % 2 ^ 44), h.addr % 2 ^ 44 % 0x10000) := by
  unfold regPlace at hp
  dsimp only at hp
  split at hp
  · cases hp
  · exact (Option.some.inj hp).symm

theorem execRegisterWrite_aligned (hk : s.hasSide k = true) (h : off % 4 = 0) :
    execRegisterWrite k block off 4 v s = .next (s.accessWrite k block off v) := by
  unfold execRegisterWrite
  rw [nextSide_present _ hk, if_pos ⟨rfl, h⟩]

theorem execRegisterWrite_malformed {size : Nat} (hk : s.hasSide k = true) (h : size ≠ 4 ∨ off % 4 ≠ 0) :
    execRegisterWrite k block off size v s = .next (s.onStack k fun t => t.answered 1 []) := by
  unfold execRegisterWrite
  rw [nextSide_present _ hk, if_neg (by omega)]

theorem execRegisterWrite_unlisted (hk : s.hasSide k = true) (h : (s.stack k).build.regRow block off = none) :
    execRegisterWrite k block off 4 v s = .next (s.onStack k fun t => t.answered 1 []) := by
  unfold execRegisterWrite
  rw [nextSide_present _ hk, State.accessWrite_unlisted v h, ite_self]

section
variable {h : Header} {t : State} (hk : s.hasSide k = true) (ht : (t.stack k).rings = (s.stack k).rings)
  (hn : regPlace h = none → (s.onStack k fun t => t.answered 1 []) = t)
include hk ht hn

/-- A REG_READ that no packet carries answers as the access that its place names, or ERROR where it names none (R312). -/
theorem execRingRegRead_uncarried (hu : (s.stack k).uncarried 5 h) (hs : ∀ p, regPlace h = some p → s.accessRead k p.1 p.2 = t) :
    execRingRegRead k h s = .next t := by
  unfold execRingRegRead
  rw [nextSide_present _ hk]
  cases hp : regPlace h with
  | none => exact congrArg _ (State.serveReg_access hu (hn hp) ht)
  | some p => exact congrArg _ (State.serveReg_access hu (hs p hp) ht)

/-- The same of a REG_WRITE (R312). -/
theorem execRingRegWrite_uncarried (hu : (s.stack k).uncarried 6 h)
    (hs : ∀ p, regPlace h = some p → s.accessWrite k p.1 p.2 (h.data % 2 ^ 32) = t) : execRingRegWrite k h s = .next t := by
  unfold execRingRegWrite
  rw [nextSide_present _ hk]
  cases hp : regPlace h with
  | none => exact congrArg _ (State.serveReg_access hu (hn hp) ht)
  | some p => exact congrArg _ (State.serveReg_access hu (hs p hp) ht)

end

/-- A live write of THERM or STORE starts nothing: it is a write by type. -/
theorem State.liveWrite_plain (s : State) (k : Side) (off v : Nat) (hb : block = 0xB ∨ block = 4) :
    s.liveWrite k block off v = s.onStack k fun t => t.plainWrite block off v := by
  rcases hb with rfl | rfl <;> rfl

/-- A write at a live offset of a register of THERM or STORE that the build has writes its fields by their types and is answered OK (R6). -/
theorem State.accessWrite_plain {r : RegRow} (hb : block = 0xB ∨ block = 4) (ho : off < 0x8000)
    (hr : (s.stack k).build.regRow block off = some r) (ha : (s.stack k).regAbsent block off = false) :
    s.accessWrite k block off v = s.onStack k fun t => (t.plainWrite block off v).answered 0 [] := by
  unfold State.accessWrite
  dsimp only
  rw [hr, liveOffset_low ho, ha, State.liveWrite_plain s k off v hb]
  exact s.onStack_onStack k (fun t => t.plainWrite block off v) _

/-- The device address of a register of THERM or STORE names its block and offset (R340). -/
theorem regPlace_plain (hb : block = 0xB ∨ block = 4) (ho : off < 0x8000) :
    regPlace { src := 0, tag := 0, addr := 0xF00000000 + 0x10000 * block + off, data := v } = some (block, off) := by
  have ht : targetOf ((0xF00000000 + 0x10000 * block + off) % 2 ^ 44) = .regs := by
    unfold targetOf
    iterate 6 rw [if_neg (by omega)]
    rw [if_pos (by omega)]
  have hbl : blockOf ((0xF00000000 + 0x10000 * block + off) % 2 ^ 44) = block := by
    unfold blockOf
    omega
  unfold regPlace
  simp only [ht, hbl]
  rw [if_neg (by simp; omega), show (0xF00000000 + 0x10000 * block + off) % 2 ^ 44 % 0x10000 = off by omega]

/-- The frame of a write by type and its answer. -/
theorem Stack.plainAnswered_onlyChanges (t : Stack) {r : RegRow} (hr : regAt block off = some r) :
    t.OnlyChanges [.answer] (r.fields.map fun f => f.field block off) ((t.plainWrite block off v).answered 0 []) :=
  ((t.plainWrite_fields hr).2.mono (by simp) fun _ h => h).trans (Stack.answered_onlyChanges _ _ _ (List.mem_singleton_self _))

theorem execStagedCopyWrite_listed {r : RegRow} (hk : s.hasSide k = true) (hr : (s.stack k).build.regRow block (0x8000 + off) = some r) :
    execStagedCopyWrite k block off v s = .next (s.onStack k fun t => (t.stagedWrite block off v).answered 0 []) := by
  unfold execStagedCopyWrite State.accessWrite
  rw [nextSide_present _ hk]
  dsimp only
  rw [hr, liveOffset_staged]
  exact congrArg _ (s.onStack_onStack k (Stack.stagedWrite block off v) _)

/-- A register that is listed with a staged copy has a staged field (R6). -/
theorem stagedFields_of_regRow {b : Build} {r : RegRow} (h : b.regRow block (0x8000 + off) = some r) :
    (stagedFields block off).isEmpty = false := by
  obtain ⟨-, hrow, hst⟩ := Build.regRow_some h
  rw [liveOffset_staged] at hrow hst
  obtain ⟨f, hf, ht⟩ := List.any_eq_true.1 (hst rfl)
  unfold stagedFields
  rw [hrow]
  exact List.isEmpty_eq_false_iff_exists_mem.2 ⟨f, List.mem_filter.2 ⟨hf, ht⟩⟩

section
variable {t : Stack} (hb : block = 0xA ∨ block = 3) (ha : t.regAbsent block off = false)
  (hf : (stagedFields block off).isEmpty = false)
include hb ha hf

/-- The staged copies of CLK and RING know no lock but an armed firmware turn (R233). -/
theorem Stack.stagedWrite_clkRing : t.stagedWrite block off v =
    if t.firmwareArmed then t.raise TURN.STATUS_LOCKED_WRITE else t.putStaged block off v := by
  rcases hb with rfl | rfl <;> simp [Stack.stagedWrite, ha, hf]

/-- While a firmware turn is armed the write sets LOCKED_WRITE and does nothing else. -/
theorem Stack.stagedWrite_armed (h : t.firmwareArmed = true) : t.stagedWrite block off v = t.raise TURN.STATUS_LOCKED_WRITE := by
  rw [Stack.stagedWrite_clkRing hb ha hf, if_pos h]

/-- With none armed it writes the staged fields. -/
theorem Stack.stagedWrite_free (h : t.firmwareArmed = false) : t.stagedWrite block off v = t.putStaged block off v := by
  rw [Stack.stagedWrite_clkRing hb ha hf, if_neg (by simp [h])]

end

end

end Sys2Proof.Machine
end

section
/-! The statements of the scope: answers and errors of register accesses, one step, and what every command and every step keeps. -/

namespace Sys2Proof.Machine

/-- Settles O51: every arm of the dispatch is one of the forms above, and each operation over the package keeps it. -/
theorem everyCommandAnswersAndKeepsThePackage : Obligations.EveryCommandAnswersAndKeepsThePackage :=
  fun c s => exec_goesOn c s

/-- Settles O52: a step is the command in front on the rest of the queue, or a tick, and both keep the package. -/
theorem everyStepKeepsTheAbsentStack : Obligations.EveryStepKeepsTheAbsentStack := by
  intro s
  obtain ⟨t, ht, hk⟩ := step_goesOn s
  have ⟨hb, hp, _⟩ := hk
  exact ⟨t, ht, hb, hp, fun ha => hk.absentUntouched ha⟩

/-- Settles O2: what is malformed or unlisted never reaches a register, so only the answer is written. -/
theorem malformedRegisterAccessIsAnsweredError : Obligations.MalformedRegisterAccessIsAnsweredError := by
  refine ⟨fun s k block off size v hk h => ?_, fun s k block off v hk h => ?_, fun s k h hk hr => ⟨fun hu => ?_, fun hu => ?_⟩⟩
  all_goals rw [← State.onStack_answered 1 [] hk]
  · exact execRegisterWrite_malformed hk h
  · exact execRegisterWrite_unlisted hk h
  · refine execRingRegRead_uncarried hk (s.onStack_answered_rings k 1 []) (fun _ => rfl) hu fun p hp => ?_
    rw [regPlace_some hp]
    exact State.accessRead_unlisted hr
  · refine execRingRegWrite_uncarried hk (s.onStack_answered_rings k 1 []) (fun _ => rfl) hu fun p hp => ?_
    rw [regPlace_some hp]
    exact State.accessWrite_unlisted _ hr

/-- Settles O3: both forms of the access write the register by the types of its fields and answer. -/
theorem registerFieldsTakeWritesByType : Obligations.RegisterFieldsTakeWritesByType := by
  intro s k block off v r hk hb ho hv hr ha
  obtain ⟨hal, hrow, -⟩ := Build.regRow_some hr
  rw [liveOffset_low ho] at hrow
  have hw : s.accessWrite k block off v = s.onStack k fun t => (t.plainWrite block off v).answered 0 [] :=
    State.accessWrite_plain hb ho hr ha
  have hc := s.onStack_onlyChanges (k := k) (f := fun t => (t.plainWrite block off v).answered 0 [])
    ((s.stack k).plainAnswered_onlyChanges hrow)
  have hst := s.onStack_stack (k := k) (fun t => (t.plainWrite block off v).answered 0 []) hk
  refine ⟨_, (execRegisterWrite_aligned hk hal).trans (congrArg _ hw), fun hu => ?_, ?_, fun f hf => ?_, hc⟩
  · have hp := regPlace_plain (v := v) hb ho
    refine execRingRegWrite_uncarried hk (hc.same (p := .rings) (by decide)) (fun hn => ?_) hu fun p hq => ?_
    · rw [hp] at hn
      cases hn
    · rw [hp] at hq
      cases hq
      rw [Nat.mod_eq_of_lt hv]
      exact hw
  · rw [hst]
    rfl
  · rw [hst]
    exact ((s.stack k).plainWrite_fields hrow).1 f hf

/-- Settles O4: an armed firmware turn decides between LOCKED_WRITE and the staged fields. -/
theorem stagedCopiesTakeWritesUnlessATurnIsArmed : Obligations.StagedCopiesTakeWritesUnlessATurnIsArmed := by
  intro s k block off v r hk hb ho hr ha
  have hf := stagedFields_of_regRow hr
  have hl : (s.stack k).pinLocked block off = false := by
    rcases hb with rfl | rfl <;> rfl
  have hst := s.onStack_stack (k := k) (fun t => (t.stagedWrite block off v).answered 0 []) hk
  refine ⟨_, execStagedCopyWrite_listed hk hr, by rw [hst]; rfl, fun harm => ⟨?_, s.onStack_onlyChanges ?_⟩,
    fun harm => ⟨fun f hm => ?_, s.onStack_onlyChanges ?_⟩⟩
  · rw [hst, Stack.stagedWrite_armed hb ha hf harm]
    exact Stack.get_raise_same _ _
  · rw [Stack.stagedWrite_armed hb ha hf harm]
    exact ((Stack.OnlyChanges.refl _ _ _).raise (by simp)).trans (Stack.answered_onlyChanges _ _ _ (by simp))
  · rw [hst, Stack.stagedWrite_free hb ha hf harm]
    exact ((s.stack k).putStaged_fields hl).1 f hm
  · rw [Stack.stagedWrite_free hb ha hf harm]
    exact (((s.stack k).putStaged_fields hl).2.mono (by simp) fun _ h => h).trans (Stack.answered_onlyChanges _ _ _ (by simp))

/-- Settles O1: by the definition of a step. -/
theorem stepRunsTheCommandInFront : Obligations.StepRunsTheCommandInFront := fun _ _ => rfl

/-- Settles O53: the reset state, part by part. -/
theorem resetMeetsTheInvariants : Obligations.ResetMeetsTheInvariants :=
  ⟨⟨rfl, rfl, rfl, rfl⟩, fun _ => rfl, rfl, reset_memoryWf.1, reset_memoryWf.2, rfl, rfl⟩

end Sys2Proof.Machine
end

section
/-! SUPPORT. Leaf-memory ports, the repair map and the bridge phase: what each operation does where its condition holds (R90 to R95, R117,
R125, R126). -/

namespace Sys2Proof.Machine

section
variable {P : List Part} {F : List Field} {s : Stack}

/-! ## Frames -/

/-- A part that a frame does not list is as it was. -/
theorem Stack.OnlyChanges.part {t : Stack} (h : s.OnlyChanges P F t) {p : Part} (hp : p ∉ P) : s.Same t p := by
  obtain ⟨_, _, hparts, _⟩ := h
  exact hparts p hp

/-- A change of the integrity part is one of that part. -/
theorem Stack.integ_onlyChanges (s : Stack) (x : Integrity) (h : .integ ∈ P) : s.OnlyChanges P F { s with integ := x } :=
  ⟨rfl, rfl, fun p hp => by cases p <;> first | rfl | exact absurd h hp, fun _ _ => rfl⟩

theorem Stack.writeBytes_onlyChanges (s : Stack) (a : Nat) (l : List Byte) (h : .mem ∈ P) : s.OnlyChanges P F (s.writeBytes a l) :=
  ⟨rfl, rfl, fun p hp => by cases p <;> first | rfl | exact absurd h hp, fun _ _ => rfl⟩

theorem Stack.setLeafPort_onlyChanges (s : Stack) (t : Tile) (m port : Nat) (y : LeafPort) (h : .fabric ∈ P) :
    s.OnlyChanges P F (s.setLeafPort t m port y) :=
  ⟨rfl, rfl, fun p hp => by cases p <;> first | rfl | exact absurd h hp, fun _ _ => rfl⟩

/-- A port that reads at the edge of a write may take the new data; nothing else differs (R94). -/
theorem Stack.leafReread_onlyChanges (s : Stack) (t : Tile) (m w port : Nat) (h : .fabric ∈ P) :
    s.OnlyChanges P F (s.leafReread t m w port) := by
  unfold Stack.leafReread
  dsimp only
  split
  · split
    · exact s.setLeafPort_onlyChanges _ _ _ _ h
    · exact Stack.OnlyChanges.refl _ _ _
  · exact Stack.OnlyChanges.refl _ _ _

/-- The same of both ports, which a write reaches where they fall at its edge (R94). -/
theorem Stack.leafRereads_onlyChanges (s : Stack) (t : Tile) (m w : Nat) (same : Bool) (h : .fabric ∈ P) :
    s.OnlyChanges P F (if same then (s.leafReread t m w 0).leafReread t m w 1 else s) := by
  split
  · exact (s.leafReread_onlyChanges _ _ _ _ h).trans (Stack.leafReread_onlyChanges _ _ _ _ _ h)
  · exact Stack.OnlyChanges.refl _ _ _

theorem Stack.writeTrackMap_onlyChanges (s : Stack) (h : .ledger ∈ P) : s.OnlyChanges P F s.writeTrackMap :=
  s.deviceRecord_onlyChanges _ _ h

/-! ## Reads of a leaf-memory port -/

@[simp] theorem Stack.leafPort_setLeafPort (s : Stack) (t : Tile) (m port : Nat) (y : LeafPort) :
    (s.setLeafPort t m port y).leafPort t m port = y := by
  simp [Stack.leafPort, Stack.setLeafPort]

@[simp] theorem Stack.leafPort_answered (s : Stack) (t : Tile) (m port status : Nat) (data : List Nat) :
    (s.answered status data).leafPort t m port = s.leafPort t m port := rfl

/-- Every aspect ratio reads within a word (R90). -/
theorem leafShape_width_le (ratio : Nat) : (leafShape ratio).1 ≤ 128 := by
  unfold leafShape
  split <;> decide

theorem bits_eq_zero {v lo : Nat} (h : v < 2 ^ lo) (w : Nat) : bits v lo w = 0 := by
  unfold bits
  rw [Nat.shiftRight_eq_div_pow, Nat.div_eq_of_lt h, Nat.zero_mod]

/-- Unit `u` of the word at `w`, `width` bits wide, with no flag (R90). -/
def Stack.leafUnit (s : Stack) (w width u : Nat) : BitVec 131 :=
  BitVec.ofNat 131 (bits (ofBytes (s.readBytes w 16)) (width * u) width)

/-- A clean codeword delivers the unit and no flag (R90). -/
theorem Stack.leafData_ok {w : Nat} (h : s.mark (w / 16) = .ok) (width u : Nat) : s.leafData w width u = s.leafUnit w width u := by
  unfold Stack.leafData
  rw [h]
  rfl

/-- Of a unit no wider than a word the bits of the flags are 0. -/
theorem Stack.bits_leafUnit_flag (s : Stack) (w u : Nat) {width i : Nat} (hw : width ≤ 128) (hi : 128 ≤ i) :
    bits (s.leafUnit w width u).toNat i 1 = 0 := by
  refine bits_eq_zero ?_ 1
  calc (s.leafUnit w width u).toNat
      ≤ bits (ofBytes (s.readBytes w 16)) (width * u) width := by
        unfold Stack.leafUnit
        rw [BitVec.toNat_ofNat]
        exact Nat.mod_le _ _
    _ < 2 ^ width := Nat.mod_lt _ (Nat.two_pow_pos _)
    _ ≤ 2 ^ i := Nat.pow_le_pow_right (by decide) (Nat.le_trans hw hi)

section
variable {t : Tile} {m port a : Nat} (hc : s.leafClocked t m port = true)
include hc

/-- A read beyond the depth leaves 0 and the error flag at the port (R91). -/
theorem Stack.leafPortRead_beyond (ha : (leafShape (s.leafPort t m port).ratio).2.1 ≤ a) :
    s.leafPortRead t m port a = (s.setLeafPort t m port { s.leafPort t m port with
      data := BitVec.ofNat 131 (2 ^ 130), last := none }).answered 0 [0, 1, 0, 0] := by
  unfold Stack.leafPortRead
  simp only [hc, Bool.not_true, Bool.false_eq_true, if_false, if_pos ha]

/-- A read of a clean codeword within the depth leaves the unit at the port (R90). -/
theorem Stack.leafPortRead_within {w u width : Nat} (hw : leafWord t m (a / (leafShape (s.leafPort t m port).ratio).2.2) = w)
    (hu : a % (leafShape (s.leafPort t m port).ratio).2.2 = u) (hs : (leafShape (s.leafPort t m port).ratio).1 = width)
    (ha : a < (leafShape (s.leafPort t m port).ratio).2.1) (hm : s.mark (w / 16) = .ok) :
    s.leafPortRead t m port a = (s.setLeafPort t m port { s.leafPort t m port with
      data := s.leafUnit w width u, last := some { loc := w, unit := u } }).answered 0 [bits (s.leafUnit w width u).toNat 0 128, 0, 0, 0] := by
  have hle : width ≤ 128 := hs ▸ leafShape_width_le _
  unfold Stack.leafPortRead
  simp only [hc, Bool.not_true, Bool.false_eq_true, if_false, if_neg (Nat.not_le_of_lt ha), hw, hu, hs, Stack.leafData_ok hm,
    Stack.meetCodeword_ok hm, hm, Stack.bits_leafUnit_flag _ _ _ hle (Nat.le_refl 128), Stack.bits_leafUnit_flag _ _ _ hle (Nat.le_succ 128)]
  rfl

end

/-! ## Writes of a leaf-memory port -/

/-- Where no other access falls at the edge, a write changes all the bits of its unit (R94). -/
theorem Stack.leafMask_alone (s : Stack) (t : Tile) (m port w : Nat) (mask : BitVec 128) : s.leafMask t m port w false mask = mask := by
  unfold Stack.leafMask
  split <;> simp

/-- What the 16-byte word holds after a write of unit `a`: the bits that the write may change are those of `v` (R92, R94, R95). -/
def Stack.leafStored (s : Stack) (t : Tile) (m port a v : Nat) (same : Bool) : Nat :=
  let y := s.leafPort t m port
  let sh := leafShape y.ratio
  let w := leafWord t m (a / sh.2.2)
  let lo := sh.1 * (a % sh.2.2)
  let keep := s.leafMask t m port w same (BitVec.ofNat 128 ((2 ^ sh.1 - 1) * 2 ^ lo))
  let old := BitVec.ofNat 128 (ofBytes (s.readBytes w 16))
  let new := ((old &&& ~~~keep) ||| (BitVec.ofNat 128 (v * 2 ^ lo) &&& keep)).toNat
  if y.ratio = 4 then new % 2 ^ 126 else new

/-- A write of a clean codeword within the depth stores the word and answers no error; beside these, only marks and ports may differ
(R95). -/
theorem Stack.leafPortWrite_within {t : Tile} {m port a w : Nat} (v : Nat) (same : Bool) (hc : s.leafClocked t m port = true)
    (he : s.sys.writesEnabled = true) (hi : s.flag CODE.INJECT_ARM = false)
    (hw : leafWord t m (a / (leafShape (s.leafPort t m port).ratio).2.2) = w)
    (ha : a < (leafShape (s.leafPort t m port).ratio).2.1) (hm : s.mark (w / 16) = .ok) :
    ∃ u, s.leafPortWrite t m port a v same = u.answered 0 [0] ∧
      (s.writeBytes w (toBytes 16 (s.leafStored t m port a v same))).OnlyChanges [.health, .fabric] [] u := by
  subst hw
  have hbad (full : Bool) : (!full && (Health.ok == .poison || Health.ok == .uncorrectable)) = false := by cases full <;> rfl
  unfold Stack.leafPortWrite
  rw [if_neg (by simp [hc, he, ha])]
  simp only [Stack.markWrite_clean (s := s.writeBytes _ _) hm hi, hm, hbad]
  exact ⟨_, rfl, ((Stack.setMark_onlyChanges _ _ _ (by simp)).trans (Stack.leafRereads_onlyChanges _ _ _ _ same (by simp))).trans
    (Stack.setLeafPort_onlyChanges _ _ _ _ _ (by simp))⟩

/-! ## The repair map -/

theorem Stack.vbyte_setVbyte_same (s : Stack) (b t i v : Nat) : (s.setVbyte b t i v).vbyte b t i = v := by
  simp [Stack.vbyte, Stack.setVbyte]

/-- A byte of the map written leaves every other byte as it was. -/
theorem Stack.vbyte_setVbyte_ne (s : Stack) {b t i b' t' i' : Nat} (v : Nat) (h : (b * 1200 + t) * 8 + i ≠ (b' * 1200 + t') * 8 + i') :
    (s.setVbyte b t i v).vbyte b' t' i' = s.vbyte b' t' i' :=
  mapGet_mapSet_ne _ _ _ _ _ _ h

theorem Stack.setVbyte_onlyChanges (s : Stack) (b t i v : Nat) (h : .integ ∈ P) : s.OnlyChanges P F (s.setVbyte b t i v) :=
  s.integ_onlyChanges _ h

/-- The repair map written to the ledger is the map that the stack holds. -/
@[simp] theorem Stack.vbyte_writeTrackMap (s : Stack) (b t i : Nat) : s.writeTrackMap.vbyte b t i = s.vbyte b t i := by
  have hi : s.writeTrackMap.integ = s.integ :=
    (s.writeTrackMap_onlyChanges (F := []) (List.mem_singleton_self _)).part (p := .integ) (by simp)
  unfold Stack.vbyte
  rw [hi]

/-- A failed track that no spare serves takes spare 0 where that is free (R126). -/
theorem Stack.trackFails_unserved {b t id : Nat} (hid : id < 96) (hs : s.spareOf b t id = none) (h0 : s.vbyte b t 0 = 0x7F) :
    s.trackFails b t id = s.setVbyte b t 0 id := by
  have hfree : (List.range 6).find? (fun i => s.vbyte b t i == 0x7F) = some 0 := List.find?_cons_of_pos (by simp [h0])
  unfold Stack.trackFails Stack.assignSpare
  simp only [if_pos hid, hs, hfree]

/-- The test in Day of a boundary whose ends are idle remaps a failed logical track and writes the map (R125, R128). -/
theorem Stack.trackTest_idle {b t id : Nat} (hb : b + 1 < s.build.layers) (ht : t < 1200) (hid : id < 96) (hd : s.mode = .day)
    (hi : s.endsIdle b t = true) : s.trackTest b t [id] = (s.trackFails b t id).writeTrackMap := by
  have htested : s.tested b t id = true := by
    unfold Stack.tested
    rw [if_pos hid, hi, Bool.true_or]
  unfold Stack.trackTest
  rw [if_neg (by omega), if_pos hd]
  simp [htested]

/-! ## Bridge phase -/

/-- A mesochronous group whose last step is a microsecond old takes a step (R117). -/
theorem Stack.phaseTrack_due {b tile j n : Nat} (up : Bool) (ho : s.ownerOf (groupTile b tile j) = some n)
    (hg : bits (s.fabric.group (groupTile b tile j) (s.livePlane n) j) 0 2 = 1)
    (hl : mapGet 0 s.integ.phaseAt (phaseKey b tile j) + 999 ≤ s.clk.up) :
    s.phaseTrack b tile j up = { s with integ := { s.integ with
      phases := mapSet 0 s.integ.phases (phaseKey b tile j)
        (wrapInt 16 (signed (mapGet 0 s.integ.phases (phaseKey b tile j)) 16 + (if up then 1 else -1)))
      phaseAt := mapSet 0 s.integ.phaseAt (phaseKey b tile j) (s.clk.up + 1) } } := by
  unfold Stack.phaseTrack
  simp [ho, hg, hl]

end

end Sys2Proof.Machine
end

section
/-! The statement of the fabric's accesses. -/

namespace Sys2Proof.Machine

/-- Settles O12: each clause is the equation of its operation on the one stack, with the frames of the updates that it names. -/
theorem fabricAccessesComplete : Obligations.FabricAccessesComplete := by
  refine ⟨fun s k layer tile m port a hk hc ha => ?_, fun s k layer tile m port a hk hc => ?_,
    fun s k layer tile m port a v same hk hc he hi => ?_, fun s k b tile id hk hb ht hid hd hi hs h0 => ?_,
    fun s k b tile j n up hk ho hg hl => ?_⟩
  · refine completes_of_onStack (f := Stack.leafPortRead ⟨layer, tile⟩ m port a) hk rfl ?_ ?_ <;>
      rw [Stack.leafPortRead_beyond hc ha]
    · exact (Stack.setLeafPort_onlyChanges _ _ _ _ _ (by simp)).trans (Stack.answered_onlyChanges _ _ _ (by simp))
    · rfl
  · intro sh ha hm
    refine completes_of_onStack (f := Stack.leafPortRead ⟨layer, tile⟩ m port a) hk rfl ?_ ?_ <;>
      rw [Stack.leafPortRead_within hc rfl rfl rfl ha hm]
    · exact (Stack.setLeafPort_onlyChanges _ _ _ _ _ (by simp)).trans (Stack.answered_onlyChanges _ _ _ (by simp))
    · rw [Stack.leafPort_answered, Stack.leafPort_setLeafPort]
      exact ⟨rfl, rfl, rfl, rfl⟩
  · intro y sh w lo mask keep old new ha hm
    obtain ⟨u, hu, hf⟩ := Stack.leafPortWrite_within (w := w) v same hc he hi rfl ha hm
    refine completes_of_onStack (f := Stack.leafPortWrite ⟨layer, tile⟩ m port a v same) hk rfl ?_ ?_ <;> rw [hu]
    · exact ((Stack.writeBytes_onlyChanges _ _ _ (by simp)).trans (hf.mono (by simp) (by simp))).trans
        (Stack.answered_onlyChanges _ _ _ (by simp))
    · have hread (b : Nat) := Stack.readByte_mem (t := u.answered 0 [0]) (hf.part (p := .mem) (by simp)) b
      refine ⟨?_, rfl, ?_, fun b hb => ?_⟩
      · simp only [Stack.readBytes, hread]
        exact (s.stack k).readBytes_writeBytes w (toBytes 16 _)
      · rintro rfl
        exact Stack.leafMask_alone _ _ _ _ _ _
      · rw [hread, Stack.readByte_writeBytes, toBytes_length, if_neg (by omega)]
  · refine completes_of_onStack (f := Stack.trackTest b tile [id]) hk rfl ?_ ?_ <;>
      rw [Stack.trackTest_idle hb ht hid hd hi, Stack.trackFails_unserved hid hs h0]
    · exact (Stack.setVbyte_onlyChanges _ _ _ _ _ (by simp)).trans (Stack.writeTrackMap_onlyChanges _ (by simp))
    · simp only [Stack.vbyte_writeTrackMap]
      exact ⟨Stack.vbyte_setVbyte_same _ _ _ _ _, fun b' t' i h => Stack.vbyte_setVbyte_ne _ _ (Ne.symm h)⟩
  · refine completes_of_onStack (f := Stack.phaseTrack b tile j up) hk rfl ?_ ?_ <;> rw [Stack.phaseTrack_due up ho hg hl]
    · exact Stack.integ_onlyChanges _ _ (by simp)
    · simp

end Sys2Proof.Machine
end

section
/-! SUPPORT. One command on one stack: its next state is that of any effect that agrees with its own on the stack. -/

namespace Sys2Proof.Machine

section
variable {c : Instr} {s : State} {k : Side} {f : Stack → Stack}

/-- Two effects that agree on the stack itself give the same package. -/
theorem exec_eq_of_onStack {g : Stack → Stack} (he : exec c s = .next (s.onStack k f)) (h : f (s.stack k) = g (s.stack k)) :
    exec c s = .next (s.onStack k g) := by
  rw [he]
  unfold State.onStack
  rw [h]

/-- The effect on a stack that the build has replaces that stack. -/
theorem exec_eq_of_setStack {u : Stack} (hk : s.hasSide k = true) (he : exec c s = .next (s.onStack k f)) (h : f (s.stack k) = u) :
    exec c s = .next (s.setStack k u) := by
  rw [he, s.onStack_present f hk, h]

end

end Sys2Proof.Machine
end

section
/-! SUPPORT. Planes and page commands: what the shared operations of the page engine do, and how a command that is not refused starts, runs and
ends (R136 to R141, R155, R156). -/

namespace Sys2Proof.Machine

section
variable {P : List Part} {F : List Field} {s : Stack} {i n page p op : Nat}

/-! ## Planes and jobs -/

/-- A change of the page engine is one of that part. -/
theorem Stack.pages_onlyChanges (s : Stack) (x : Pages) (h : .pages ∈ P) : s.OnlyChanges P F { s with pages := x } :=
  ⟨rfl, rfl, fun p hp => by cases p <;> first | rfl | exact absurd h hp, fun _ _ => rfl⟩

theorem Stack.setPlane_onlyChanges (s : Stack) (r p : Nat) (x : Plane) (h : .pages ∈ P) : s.OnlyChanges P F (s.setPlane r p x) :=
  s.pages_onlyChanges _ h

theorem Stack.setJob_onlyChanges (s : Stack) (i : Nat) (j : PgJob) (h : .pages ∈ P) : s.OnlyChanges P F (s.setJob i j) :=
  s.pages_onlyChanges _ h

theorem Stack.plane_of_pages {s t : Stack} (h : t.pages.planes = s.pages.planes) (r p : Nat) : t.plane r p = s.plane r p := by
  unfold Stack.plane
  rw [h]

@[simp] theorem Stack.plane_setPlane_same (s : Stack) (r p : Nat) (x : Plane) : (s.setPlane r p x).plane r p = x := by
  simp [Stack.plane, Stack.setPlane]

/-- A plane replaced leaves every other plane as it was. -/
theorem Stack.plane_setPlane_ne (s : Stack) {r p q m : Nat} (x : Plane) (h : 4 * r + p ≠ 4 * q + m) :
    (s.setPlane r p x).plane q m = s.plane q m :=
  mapGet_mapSet_ne _ _ _ _ _ _ h

@[simp] theorem Stack.job_setJob_same (s : Stack) (i : Nat) (j : PgJob) : (s.setJob i j).job i = j := by simp [Stack.job, Stack.setJob]

@[simp] theorem Stack.plane_put (s : Stack) (f : Field) (v r p : Nat) : (s.put f v).plane r p = s.plane r p := rfl
@[simp] theorem Stack.job_setPlane (s : Stack) (r p i : Nat) (x : Plane) : (s.setPlane r p x).job i = s.job i := rfl

/-! ## Step 1 and the end of a command -/

/-- What step 1 makes of the plane that a command names: Staging with the page, or Evicting (R137, R138). -/
def PgJob.begun (j : PgJob) (pl : Plane) : Plane :=
  if j.op = 0 then { status := .staging, src := j.page, bad := false } else { pl with status := .evicting }

theorem Stack.pageStep1_eq (s : Stack) (i : Nat) (j : PgJob) :
    s.pageStep1 i j = (s.setJob i { j with phase := 2 }).setPlane j.root j.plane (j.begun (s.plane j.root j.plane)) := rfl

theorem Stack.pageStep1_onlyChanges (s : Stack) (i : Nat) (j : PgJob) (h : .pages ∈ P) : s.OnlyChanges P F (s.pageStep1 i j) :=
  (s.setJob_onlyChanges _ _ h).trans (Stack.setPlane_onlyChanges _ _ _ _ h)

@[simp] theorem Stack.plane_pageStep1 (s : Stack) (i : Nat) (j : PgJob) :
    (s.pageStep1 i j).plane j.root j.plane = j.begun (s.plane j.root j.plane) := by
  rw [Stack.pageStep1_eq, Stack.plane_setPlane_same]

@[simp] theorem Stack.job_pageStep1 (s : Stack) (i : Nat) (j : PgJob) : (s.pageStep1 i j).job i = { j with phase := 2 } := by
  rw [Stack.pageStep1_eq, Stack.job_setPlane, Stack.job_setJob_same]

@[simp] theorem Stack.get_pageStep1 (s : Stack) (i : Nat) (j : PgJob) (f : Field) : (s.pageStep1 i j).get f = s.get f := rfl

/-- The fields in which the end of a command shows (R137, R615). -/
theorem Stack.pageEnd_onlyChanges (s : Stack) (i result : Nat) (h : .pages ∈ P) (hb : SECT.PG_STATUS_BUSY i ∈ F)
    (hr : SECT.PG_STATUS_RESULT i ∈ F) (hd : SECT.INT_PG_DONE i ∈ F) : s.OnlyChanges P F (s.pageEnd i result) :=
  (((s.setJob_onlyChanges _ _ h).put _ hb).put _ hr).raise hd

@[simp] theorem Stack.plane_pageEnd (s : Stack) (i result r p : Nat) : (s.pageEnd i result).plane r p = s.plane r p := rfl

/-- A command that has ended is idle, shows its result and has set PG_DONE (R137, R615). -/
theorem Stack.pageEnd_ends (s : Stack) (i result : Nat) :
    (s.pageEnd i result).get (SECT.PG_STATUS_BUSY i) = 0 ∧ (s.pageEnd i result).get (SECT.PG_STATUS_RESULT i) = result % 16 ∧
      (s.pageEnd i result).get (SECT.INT_PG_DONE i) = 1 ∧ (s.pageEnd i result).job i = {} := by
  refine ⟨?_, ?_, ?_, s.job_setJob_same i {}⟩ <;>
    simp [Stack.pageEnd, Stack.raise, Stack.get_put_ne, SECT.PG_STATUS_BUSY, SECT.PG_STATUS_RESULT, SECT.INT_PG_DONE]

/-! ## A command that is taken -/

theorem Stack.pgFields_onlyChanges (s : Stack) (i n page p op : Nat) (hs : SECT.PG_CMD_SECTION i ∈ F) (hg : SECT.PG_CMD_PAGE i ∈ F)
    (hp : SECT.PG_CMD_PLANE i ∈ F) (ho : SECT.PG_CMD_OP i ∈ F) : s.OnlyChanges P F (s.pgFields i n page p op) :=
  ((((Stack.OnlyChanges.refl s P F).put _ hs).put _ hg).put _ hp).put _ ho

/-- The job of a stage or eviction that is taken: an eviction moves the page that the plane holds (R137, R138). -/
def Stack.pageJob (s : Stack) (n page p op : Nat) : PgJob :=
  { phase := 1, op := op, sect := n, root := s.rootOf n, page := if op = 1 then (s.plane (s.rootOf n) p).src else page, plane := p,
    order := s.pages.order }

/-- The stack once a stage or eviction is taken, before step 1: its fields written and its place in the order counted (R137, R156). -/
def Stack.pageTaken (s : Stack) (i n page p op : Nat) : Stack :=
  let t := (((s.pgFields i n page p op).put (SECT.PG_STATUS_BUSY i) 1).put (SECT.PG_STATUS_RESULT i) 0).put (SECT.PG_STATUS_DONE i) 0
  { t with pages := { t.pages with order := t.pages.order + 1 } }

theorem Stack.pageTaken_onlyChanges (s : Stack) (n page p op : Nat) (h : .pages ∈ P) (hs : SECT.PG_CMD_SECTION i ∈ F)
    (hg : SECT.PG_CMD_PAGE i ∈ F) (hp : SECT.PG_CMD_PLANE i ∈ F) (ho : SECT.PG_CMD_OP i ∈ F) (hb : SECT.PG_STATUS_BUSY i ∈ F)
    (hr : SECT.PG_STATUS_RESULT i ∈ F) (hd : SECT.PG_STATUS_DONE i ∈ F) : s.OnlyChanges P F (s.pageTaken i n page p op) :=
  ((((s.pgFields_onlyChanges i n page p op hs hg hp ho).put _ hb).put _ hr).put _ hd).trans (Stack.pages_onlyChanges _ _ h)

theorem Stack.pageTaken_regs (s : Stack) (i n page p op : Nat) : (s.pageTaken i n page p op).regs =
    ((((s.pgFields i n page p op).put (SECT.PG_STATUS_BUSY i) 1).put (SECT.PG_STATUS_RESULT i) 0).put (SECT.PG_STATUS_DONE i) 0).regs := rfl

/-- A command that is taken is BUSY, without a result, and has moved no folio (R156). -/
theorem Stack.pageTaken_status (s : Stack) (i n page p op : Nat) :
    (s.pageTaken i n page p op).get (SECT.PG_STATUS_BUSY i) = 1 ∧ (s.pageTaken i n page p op).get (SECT.PG_STATUS_RESULT i) = 0 ∧
      (s.pageTaken i n page p op).get (SECT.PG_STATUS_DONE i) = 0 := by
  simp only [Stack.get_of_regs (s.pageTaken_regs i n page p op)]
  simp [Stack.get_put_ne, SECT.PG_STATUS_BUSY, SECT.PG_STATUS_RESULT, SECT.PG_STATUS_DONE]

theorem Stack.pageSection_true (hh : s.homed i (s.rootOf n) = true) (hx : (s.sect n).state ≠ .none) : s.pageSection i n = true := by
  simp [Stack.pageSection, hh, hx]

theorem Stack.pageTaken_planes (s : Stack) (i n page p op : Nat) : (s.pageTaken i n page p op).pages.planes = s.pages.planes := rfl

/-- Step 1 of a command that is taken acts on the plane as it was (R137, R138). -/
theorem Stack.pageTaken_plane (s : Stack) (i n page p op : Nat) :
    ((s.pageTaken i n page p op).pageStep1 i (s.pageJob n page p op)).plane (s.rootOf n) p =
      (s.pageJob n page p op).begun (s.plane (s.rootOf n) p) := by
  rw [← Stack.plane_of_pages (s.pageTaken_planes i n page p op)]
  exact Stack.plane_pageStep1 _ i (s.pageJob n page p op)

section
variable (hb : s.flag (SECT.PG_STATUS_BUSY i) = false) (hh : s.homed i (s.rootOf n) = true) (hx : (s.sect n).state ≠ .none)
include hb

/-- OP 0b11 holds its fields (R155). -/
theorem Stack.pageNop_idle : s.pageNop i n page p = s.pgFields i n page p 3 := by
  unfold Stack.pageNop
  rw [if_neg (by simp [hb])]

include hh hx

/-- A free that is not refused empties the plane and ends at once (R139). -/
theorem Stack.pageFree_taken (hr : s.pageRefusal n page p 2 false = 0) :
    s.pageFree i n page p = (((s.pgFields i n page p 2).setPlane (s.rootOf n) p {}).put (SECT.PG_STATUS_DONE i) 0).pageEnd i 0 := by
  unfold Stack.pageFree
  simp [hb, Stack.pageSection_true hh hx, hr]

/-- A stage or eviction that is not refused and waits for nothing is taken and does step 1 (R137). -/
theorem Stack.pageCommand_begins (hr : s.pageRefusal n page p op false = 0) (hw : s.waitsBehind (s.rootOf n) s.pages.order = false) :
    s.pageCommand i n page p op = (s.pageTaken i n page p op).pageStep1 i (s.pageJob n page p op) := by
  unfold Stack.pageCommand
  simp only [hb, Stack.pageSection_true hh hx, hr, hw, Bool.not_true, Bool.false_eq_true, if_false, bne_self_eq_false]
  rfl

end

/-- The first waiting command, not refused, does step 1 when the page links become free (R137, R141). -/
theorem Stack.pageLinksFree_begins {j : PgJob} (hn : s.nextWaiting = some (i, j)) (hs : s.pageSection i j.sect = true)
    (hr : s.pageRefusal j.sect j.page j.plane j.op false = 0) : s.pageLinksFree = s.pageStep1 i j := by
  unfold Stack.pageLinksFree
  simp only [hn, hs, hr, Bool.not_true, Bool.false_eq_true, if_false, bne_self_eq_false]

/-! ## A command that finishes -/

/-- A stage ends with its plane Staged or Blocked, the page its source (R137). -/
theorem Stack.stageDone_ends (s : Stack) (i : Nat) (j : PgJob) : ∃ (u : Stack) (c : Nat), s.stageDone i j = u.pageEnd i c ∧
    (u.plane j.root j.plane).status ∈ [.staged, .blocked] ∧ (u.plane j.root j.plane).src = j.page := by
  unfold Stack.stageDone
  refine ⟨_, _, rfl, ?_⟩
  rw [Stack.plane_put, Stack.plane_setPlane_same]
  refine ⟨?_, rfl⟩
  dsimp only
  split <;> simp

/-- An eviction ends with its plane Free (R138). -/
theorem Stack.evictDone_ends (s : Stack) (i : Nat) (j : PgJob) : ∃ (u : Stack) (c : Nat),
    s.evictDone i j = u.pageEnd i c ∧ u.plane j.root j.plane = {} := by
  unfold Stack.evictDone
  refine ⟨_, _, rfl, ?_⟩
  rw [Stack.plane_put, Stack.plane_setPlane_same]

/-- A running command finishes as its OP says, and its engine is idle again (R137, R138). -/
theorem Stack.pageComplete_running (h : (s.job i).phase = 2) : ∃ (u : Stack) (c : Nat), s.pageComplete i = u.pageEnd i c ∧
    ((s.job i).op = 0 → (u.plane (s.job i).root (s.job i).plane).status ∈ [.staged, .blocked] ∧
      (u.plane (s.job i).root (s.job i).plane).src = (s.job i).page) ∧
    ((s.job i).op ≠ 0 → u.plane (s.job i).root (s.job i).plane = {}) := by
  unfold Stack.pageComplete
  dsimp only
  rw [if_pos h]
  by_cases ho : (s.job i).op = 0
  · obtain ⟨u, c, he, hp⟩ := s.stageDone_ends i (s.job i)
    rw [if_pos ho, he]
    exact ⟨u, c, rfl, fun _ => hp, fun h => absurd ho h⟩
  · obtain ⟨u, c, he, hp⟩ := s.evictDone_ends i (s.job i)
    rw [if_neg ho, he]
    exact ⟨u, c, rfl, fun h => absurd h ho, fun _ => hp⟩

end

end Sys2Proof.Machine
end

section
/-! The statement of the page commands. -/

namespace Sys2Proof.Machine

/-- A stage or eviction that is not refused and waits for nothing, whichever command of the dispatch brings it. -/
theorem completes_pageCommand {c : Instr} {s : State} {k : Side} {i n page p op : Nat} {x : Plane} (hk : s.hasSide k = true)
    (he : exec c s = .next (s.onStack k (Stack.pageCommand i n page p op))) (hb : (s.stack k).flag (SECT.PG_STATUS_BUSY i) = false)
    (hh : (s.stack k).homed i ((s.stack k).rootOf n) = true) (hx : ((s.stack k).sect n).state ≠ .none)
    (hw : (s.stack k).waitsBehind ((s.stack k).rootOf n) (s.stack k).pages.order = false)
    (hr : (s.stack k).pageRefusal n page p op false = 0)
    (hp : ((s.stack k).pageJob n page p op).begun ((s.stack k).plane ((s.stack k).rootOf n) p) = x) :
    Completes c s k [.pages] [SECT.PG_CMD_SECTION i, SECT.PG_CMD_PAGE i, SECT.PG_CMD_PLANE i, SECT.PG_CMD_OP i, SECT.PG_STATUS_BUSY i,
        SECT.PG_STATUS_RESULT i, SECT.PG_STATUS_DONE i] fun t =>
      t.plane ((s.stack k).rootOf n) p = x ∧ t.get (SECT.PG_STATUS_BUSY i) = 1 ∧ t.get (SECT.PG_STATUS_RESULT i) = 0 ∧
      t.get (SECT.PG_STATUS_DONE i) = 0 := by
  refine completes_of_onStack hk he ?_ ?_ <;> rw [Stack.pageCommand_begins hb hh hx hr hw]
  · exact ((s.stack k).pageTaken_onlyChanges n page p op (by simp) (by simp) (by simp) (by simp) (by simp) (by simp) (by simp) (by simp)).trans
      (Stack.pageStep1_onlyChanges _ _ _ (by simp))
  · simp only [Stack.get_pageStep1]
    exact ⟨((s.stack k).pageTaken_plane i n page p op).trans hp, (s.stack k).pageTaken_status i n page p op⟩

/-- Settles O14: each clause is the equation of its operation where it is not refused; a stage and an eviction share one. -/
theorem pageCommandsComplete : Obligations.PageCommandsComplete := by
  refine ⟨fun s k i n page p hk hb => exec_eq_of_setStack hk rfl (Stack.pageNop_idle hb), fun s k i n page p hk hb hh hx hr => ?_,
    fun s k i n page p hk hb hh hx hw => ⟨fun hr => completes_pageCommand (op := 0) hk rfl hb hh hx hw hr (if_pos rfl),
      fun hr => completes_pageCommand (op := 1) hk rfl hb hh hx hw hr (if_neg Nat.one_ne_zero)⟩,
    fun s k i j hk hn hs hr => ?_, fun s k i hk h => ?_⟩
  · obtain ⟨hbusy, hresult, hdone, -⟩ := Stack.pageEnd_ends ((((s.stack k).pgFields i n page p 2).setPlane ((s.stack k).rootOf n) p {}).put
      (SECT.PG_STATUS_DONE i) 0) i 0
    refine completes_of_onStack (f := Stack.pageFree i n page p) hk rfl ?_ ?_ <;> rw [Stack.pageFree_taken hb hh hx hr]
    · exact ((((s.stack k).pgFields_onlyChanges i n page p 2 (by simp) (by simp) (by simp) (by simp)).trans
        (Stack.setPlane_onlyChanges _ _ _ _ (by simp))).put _ (by simp)).trans
        (Stack.pageEnd_onlyChanges _ _ _ (by simp) (by simp) (by simp) (by simp))
    · refine ⟨?_, hbusy, hresult, hdone, fun r q h => ?_⟩
      · rw [Stack.plane_pageEnd, Stack.plane_put, Stack.plane_setPlane_same]
      · rw [Stack.plane_pageEnd, Stack.plane_put, Stack.plane_setPlane_ne _ _ (Ne.symm h)]
        rfl
  · refine completes_of_onStack (f := Stack.pageLinksFree) hk rfl ?_ ?_ <;> rw [Stack.pageLinksFree_begins hn hs hr]
    · exact Stack.pageStep1_onlyChanges _ _ _ (by simp)
    · exact ⟨Stack.job_pageStep1 _ _ _, Stack.plane_pageStep1 _ _ _⟩
  · obtain ⟨u, c, he, hstage, hevict⟩ := Stack.pageComplete_running h
    obtain ⟨hbusy, -, hdone, hjob⟩ := u.pageEnd_ends i c
    refine ⟨s.onStack k (Stack.pageComplete i), rfl, s.onStack_keeps k _, ?_⟩
    rw [s.onStack_stack _ hk, he]
    exact ⟨hbusy, hdone, hjob, hstage, hevict⟩

end Sys2Proof.Machine
end

section
/-! SUPPORT. Captures and the hinge table: how a capture is armed or refused, takes its plane, completes, is read and released, and what a read of
the hinge table does (R148 to R152, R159 to R162, R194). -/

namespace Sys2Proof.Machine

section
variable {P : List Part} {F : List Field} {s : Stack} {i p : Nat}

/-! ## Captures and their status -/

theorem Stack.setCap_onlyChanges (s : Stack) (i : Nat) (j : CapJob) (h : .pages ∈ P) : s.OnlyChanges P F (s.setCap i j) :=
  s.pages_onlyChanges _ h

@[simp] theorem Stack.cap_setCap_same (s : Stack) (i : Nat) (j : CapJob) : (s.setCap i j).cap i = j := by simp [Stack.cap, Stack.setCap]

@[simp] theorem Stack.cap_put (s : Stack) (f : Field) (v i : Nat) : (s.put f v).cap i = s.cap i := rfl
@[simp] theorem Stack.cap_raise (s : Stack) (f : Field) (i : Nat) : (s.raise f).cap i = s.cap i := rfl
@[simp] theorem Stack.cap_setPlane (s : Stack) (r p i : Nat) (x : Plane) : (s.setPlane r p x).cap i = s.cap i := rfl
@[simp] theorem Stack.cap_capShow (s : Stack) (i st m : Nat) : (s.capShow i st).cap m = s.cap m := rfl
@[simp] theorem Stack.plane_setCap (s : Stack) (i r p : Nat) (j : CapJob) : (s.setCap i j).plane r p = s.plane r p := rfl
@[simp] theorem Stack.plane_capShow (s : Stack) (i st r p : Nat) : (s.capShow i st).plane r p = s.plane r p := rfl
@[simp] theorem Stack.get_setCap (s : Stack) (i : Nat) (j : CapJob) (f : Field) : (s.setCap i j).get f = s.get f := rfl

/-- A capture that is not refused shows its state and no cause (R161). -/
theorem Stack.capShow_onlyChanges (s : Stack) (i st : Nat) (hs : SECT.CAP_STATUS_STATE i ∈ F) (hc : SECT.CAP_STATUS_CAUSE i ∈ F) :
    s.OnlyChanges P F (s.capShow i st) :=
  ((Stack.OnlyChanges.refl s P F).put _ hs).put _ hc

theorem Stack.get_capShow (s : Stack) (i st : Nat) :
    (s.capShow i st).get (SECT.CAP_STATUS_STATE i) = st % 8 ∧ (s.capShow i st).get (SECT.CAP_STATUS_CAUSE i) = 0 := by
  simp [Stack.capShow, Stack.get_put_ne, SECT.CAP_STATUS_STATE, SECT.CAP_STATUS_CAUSE]

/-- The status of a capture leaves every other field as it was. -/
theorem Stack.get_capShow_ne (s : Stack) {i : Nat} (st : Nat) {f : Field} (hs : (SECT.CAP_STATUS_STATE i).key ≠ f.key)
    (hc : (SECT.CAP_STATUS_CAUSE i).key ≠ f.key) : (s.capShow i st).get f = s.get f :=
  (Stack.get_put_ne _ _ hc).trans (Stack.get_put_ne _ _ hs)

theorem Stack.capRefuse_onlyChanges (s : Stack) (i c : Nat) (hs : SECT.CAP_STATUS_STATE i ∈ F) (hc : SECT.CAP_STATUS_CAUSE i ∈ F)
    (hd : SECT.INT_CAP_DONE i ∈ F) : s.OnlyChanges P F (s.capRefuse i c) :=
  (((Stack.OnlyChanges.refl s P F).put _ hs).put _ hc).raise hd

theorem Stack.get_capRefuse (s : Stack) (i c : Nat) :
    (s.capRefuse i c).get (SECT.CAP_STATUS_STATE i) = 4 ∧ (s.capRefuse i c).get (SECT.CAP_STATUS_CAUSE i) = c % 16 ∧
      (s.capRefuse i c).get (SECT.INT_CAP_DONE i) = 1 := by
  simp [Stack.capRefuse, Stack.raise, Stack.get_put_ne, SECT.CAP_STATUS_STATE, SECT.CAP_STATUS_CAUSE, SECT.INT_CAP_DONE]

/-- The causes of R151 are the codes up to 6. -/
theorem Stack.capRefusal_le (s : Stack) (i n domain : Nat) (a : Bool) (raster : Nat) (held : Bool) :
    s.capRefusal i n domain a raster held ≤ 6 := by
  unfold Stack.capRefusal
  repeat' split
  all_goals decide

/-! ## Arming (R148, R151, R159) -/

/-- The fields of CAP_CTL written (R159). -/
def Stack.capFields (s : Stack) (i domain : Nat) (a : Bool) (raster : Nat) : Stack :=
  ((s.put (SECT.CAP_CTL_DOMAIN i) domain).put (SECT.CAP_CTL_AT_POINT i) (b2n a)).put (SECT.CAP_CTL_RASTER i) raster

/-- The refusal that a write of CAP_CTL.GO meets (R151). -/
def Stack.goRefusal (s : Stack) (i domain : Nat) (a : Bool) (raster : Nat) : Nat :=
  s.capRefusal i (s.get (SECT.PG_CMD_SECTION i)) domain a raster ((s.cap i).phase != 0)

/-- The capture that a write of CAP_CTL.GO arms (R148, R160). -/
def Stack.armedCap (s : Stack) (i domain : Nat) (a : Bool) (raster : Nat) : CapJob :=
  { sect := s.get (SECT.PG_CMD_SECTION i), domain := domain, phase := 1
    due := if a then s.nextOccurrence raster (s.get (SECT.CAP_POINT_LINE i)) (s.get (SECT.CAP_POINT_SAMPLE i)) s.time else 0 }

section
variable {domain raster : Nat} {a : Bool}

theorem Stack.capFields_onlyChanges (s : Stack) (i domain : Nat) (a : Bool) (raster : Nat) (hd : SECT.CAP_CTL_DOMAIN i ∈ F)
    (ha : SECT.CAP_CTL_AT_POINT i ∈ F) (hr : SECT.CAP_CTL_RASTER i ∈ F) : s.OnlyChanges P F (s.capFields i domain a raster) :=
  (((Stack.OnlyChanges.refl s P F).put _ hd).put _ ha).put _ hr

theorem Stack.capture_armed (h : s.goRefusal i domain a raster = 0) :
    s.capture i domain a raster = ((s.capFields i domain a raster).setCap i (s.armedCap i domain a raster)).capShow i 1 := by
  unfold Stack.goRefusal at h
  unfold Stack.capture
  dsimp only
  rw [if_neg (by simp [h])]
  rfl

theorem Stack.capture_refused (h : s.goRefusal i domain a raster ≠ 0) :
    s.capture i domain a raster = (s.capFields i domain a raster).capRefuse i (s.goRefusal i domain a raster) := by
  unfold Stack.goRefusal at h
  unfold Stack.capture
  dsimp only
  rw [if_pos (by simpa using h)]
  rfl

theorem Stack.capture_onlyChanges (s : Stack) (i domain : Nat) (a : Bool) (raster : Nat) (h : .pages ∈ P) (hd : SECT.CAP_CTL_DOMAIN i ∈ F)
    (ha : SECT.CAP_CTL_AT_POINT i ∈ F) (hr : SECT.CAP_CTL_RASTER i ∈ F) (hs : SECT.CAP_STATUS_STATE i ∈ F) (hc : SECT.CAP_STATUS_CAUSE i ∈ F)
    (hi : SECT.INT_CAP_DONE i ∈ F) : s.OnlyChanges P F (s.capture i domain a raster) := by
  have hfields : s.OnlyChanges P F (s.capFields i domain a raster) := s.capFields_onlyChanges i domain a raster hd ha hr
  by_cases h0 : s.goRefusal i domain a raster = 0
  · rw [Stack.capture_armed h0]
    exact (hfields.trans (Stack.setCap_onlyChanges _ _ _ h)).trans (Stack.capShow_onlyChanges _ i 1 hs hc)
  · rw [Stack.capture_refused h0]
    exact hfields.trans (Stack.capRefuse_onlyChanges _ i _ hs hc hi)

/-- A capture that is armed shows STATE 1 and is held with its domain and its edge's time (R148, R160, R161). -/
theorem Stack.capture_armed_shows (h : s.goRefusal i domain a raster = 0) :
    (s.capture i domain a raster).get (SECT.CAP_STATUS_STATE i) = 1 ∧ (s.capture i domain a raster).get (SECT.CAP_STATUS_CAUSE i) = 0 ∧
      (s.capture i domain a raster).cap i = s.armedCap i domain a raster := by
  rw [Stack.capture_armed h, Stack.cap_capShow, Stack.cap_setCap_same]
  obtain ⟨hstate, hcause⟩ := Stack.get_capShow ((s.capFields i domain a raster).setCap i (s.armedCap i domain a raster)) i 1
  exact ⟨hstate, hcause, rfl⟩

/-- A capture that is refused shows STATE 4 and its cause, and has set CAP_DONE (R151, R161). -/
theorem Stack.capture_refused_shows (h : s.goRefusal i domain a raster ≠ 0) :
    (s.capture i domain a raster).get (SECT.CAP_STATUS_STATE i) = 4 ∧
      (s.capture i domain a raster).get (SECT.CAP_STATUS_CAUSE i) = s.goRefusal i domain a raster ∧
      (s.capture i domain a raster).get (SECT.INT_CAP_DONE i) = 1 := by
  have hle : s.goRefusal i domain a raster < 16 := Nat.lt_of_le_of_lt (s.capRefusal_le _ _ _ _ _ _) (by decide)
  obtain ⟨hstate, hcause, hdone⟩ := Stack.get_capRefuse (s.capFields i domain a raster) i (s.goRefusal i domain a raster)
  rw [Stack.capture_refused h]
  exact ⟨hstate, hcause.trans (Nat.mod_eq_of_lt hle), hdone⟩

theorem Stack.capture_refused_pages (h : s.goRefusal i domain a raster ≠ 0) : (s.capture i domain a raster).pages = s.pages := by
  rw [Stack.capture_refused h]
  simp [Stack.capRefuse, Stack.capFields]

/-- An armed capture has not set CAP_DONE (R159). -/
theorem Stack.capture_armed_done (h : s.goRefusal i domain a raster = 0) :
    (s.capture i domain a raster).get (SECT.INT_CAP_DONE i) = s.get (SECT.INT_CAP_DONE i) := by
  rw [Stack.capture_armed h, Stack.get_capShow_ne _ _ (by simp [SECT.CAP_STATUS_STATE, SECT.INT_CAP_DONE])
    (by simp [SECT.CAP_STATUS_CAUSE, SECT.INT_CAP_DONE]), Stack.get_setCap]
  simp [Stack.capFields, Stack.get_put_ne, SECT.CAP_CTL_DOMAIN, SECT.CAP_CTL_AT_POINT, SECT.CAP_CTL_RASTER, SECT.INT_CAP_DONE]

end

/-! ## The capture edge (R149 to R151) -/

/-- A Live section becomes Capturing (R150). -/
def Section.captureBegins (x : Section) : Section := if x.state = .live then { x with state := .capturing } else x

theorem Section.captureBegins_idem (x : Section) : x.captureBegins.captureBegins = x.captureBegins := by
  unfold Section.captureBegins
  by_cases h : x.state = .live <;> simp [h]

/-- The marks of some state banks erased leave every other mark as it was (R374). -/
theorem mapGet_foldl_mapErase_bankMark (l : List Nat) (h : Sparse Health) {c : Nat} (hc : c ∉ l.map bankMark) :
    mapGet .ok (l.foldl (fun h k => mapErase h (bankMark k)) h) c = mapGet .ok h c := by
  induction l generalizing h with
  | nil => rfl
  | cons k l ih =>
    simp only [List.map_cons, List.mem_cons, not_or] at hc
    rw [List.foldl, ih _ hc.2, mapGet_mapErase, if_neg (Ne.symm hc.1)]

/-- The running capture once it has taken plane `p` (R150, R152). -/
def Stack.takenCap (s : Stack) (i p : Nat) : CapJob :=
  { s.cap i with live := s.livePlane (s.cap i).sect, plane := p, time := s.time, seq := s.get TURN.SEQ_LIVE, phase := 2 }

/-- The stack at the snapshot: state banks and leaf memories as `f` holds them, the marks of the banks of plane `p` erased, and the capture
running (R149, R374). -/
def Stack.snapped (s : Stack) (i : Nat) (f : Fabric) (p : Nat) : Stack :=
  let h := (folioKeys (s.sect (s.cap i).sect).tiles p).foldl (fun h k => mapErase h (bankMark k)) s.health
  ({ s with fabric := f, health := h } : Stack).setCap i (s.takenCap i p)

theorem Stack.snapped_onlyChanges (s : Stack) (i : Nat) (f : Fabric) (p : Nat) (hp : .pages ∈ P) (hf : .fabric ∈ P) (hh : .health ∈ P) :
    s.OnlyChanges P F (s.snapped i f p) := by
  have stored (h : Sparse Health) : s.OnlyChanges P F { s with fabric := f, health := h } := by
    refine ⟨rfl, rfl, fun q hq => ?_, fun _ _ => rfl⟩
    cases q <;> first | rfl | contradiction
  exact (stored _).trans (Stack.setCap_onlyChanges _ _ _ hp)

theorem Stack.snapped_sections (s : Stack) (i : Nat) (f : Fabric) (p : Nat) : (s.snapped i f p).sections = s.sections := rfl

/-- The snapshot with the Live sections of the family Capturing (R150). -/
def Stack.capturing (s : Stack) (i : Nat) (f : Fabric) (p : Nat) : Stack :=
  (s.snapped i f p).modSects ((s.snapped i f p).family (s.cap i).sect) Section.captureBegins

/-- The stack once plane `p` holds a capture: the snapshot, its sections, its plane and its status (R149 to R151). -/
def Stack.capturedInto (s : Stack) (i : Nat) (f : Fabric) (p : Nat) : Stack :=
  (((s.capturing i f p).setPlane (s.rootOf (s.cap i).sect) p { status := .captured, src := 0x1E, bad := false }).capShow i 2).put
    (SECT.CAP_STATUS_PLANE i) p

/-- A capture edge that is not refused and that no armed turn moves takes the lowest Free plane (R149 to R151, R244). -/
theorem Stack.captureEdge_takes (h : (s.cap i).phase = 1) (hp : s.freePlane (s.rootOf (s.cap i).sect) = some p)
    (hr : s.capRefusal i (s.cap i).sect (s.cap i).domain (s.flag (SECT.CAP_CTL_AT_POINT i)) (s.get (SECT.CAP_CTL_RASTER i)) false = 0)
    (hd : (s.cap i).due ≤ s.time) (ht : s.turnNames (s.cap i).sect = false) : ∃ f : Fabric, s.captureEdge i = s.capturedInto i f p := by
  have he : s.captureEdge i = s.captureNow i := by
    unfold Stack.captureEdge
    simp [h, ht, Nat.not_lt.2 hd]
  rw [he]
  unfold Stack.captureNow
  simp only [hp, hr, bne_self_eq_false, Bool.false_eq_true, if_false]
  exact ⟨_, rfl⟩

theorem Stack.capturing_onlyChanges (s : Stack) (i : Nat) (f : Fabric) (p : Nat) (hs : .sections ∈ P) :
    (s.snapped i f p).OnlyChanges P F (s.capturing i f p) :=
  (modSects_only _ _ _).mono (by simp [hs]) fun _ h => h

/-- What remains after the snapshot and its sections: the plane and the status. -/
theorem Stack.capturedInto_of_capturing (s : Stack) (i : Nat) (f : Fabric) (p : Nat) (hp : .pages ∈ P) (hst : SECT.CAP_STATUS_STATE i ∈ F)
    (hc : SECT.CAP_STATUS_CAUSE i ∈ F) (hpl : SECT.CAP_STATUS_PLANE i ∈ F) :
    (s.capturing i f p).OnlyChanges P F (s.capturedInto i f p) :=
  ((Stack.setPlane_onlyChanges _ _ _ _ hp).trans (Stack.capShow_onlyChanges _ i 2 hst hc)).put _ hpl

theorem Stack.capturedInto_onlyChanges (s : Stack) (i : Nat) (f : Fabric) (p : Nat) (hp : .pages ∈ P) (hf : .fabric ∈ P) (hs : .sections ∈ P)
    (hh : .health ∈ P) (hst : SECT.CAP_STATUS_STATE i ∈ F) (hc : SECT.CAP_STATUS_CAUSE i ∈ F) (hpl : SECT.CAP_STATUS_PLANE i ∈ F) :
    s.OnlyChanges P F (s.capturedInto i f p) :=
  ((s.snapped_onlyChanges i f p hp hf hh).trans (s.capturing_onlyChanges i f p hs)).trans
    (s.capturedInto_of_capturing i f p hp hst hc hpl)

/-- After the snapshot and its sections, every part but the page engine is as it was. -/
theorem Stack.capturedInto_part (s : Stack) (i : Nat) (f : Fabric) (p : Nat) {q : Part} (hq : q ≠ .pages) :
    (s.capturing i f p).Same (s.capturedInto i f p) q :=
  (s.capturedInto_of_capturing (P := [.pages]) (F := [SECT.CAP_STATUS_STATE i, SECT.CAP_STATUS_CAUSE i, SECT.CAP_STATUS_PLANE i]) i f p
    (by simp) (by simp) (by simp) (by simp)).part (by simp [hq])

/-- What CAP_STATUS shows of it (R161). -/
theorem Stack.capturedInto_status (s : Stack) (i : Nat) (f : Fabric) (p : Nat) :
    (s.capturedInto i f p).get (SECT.CAP_STATUS_STATE i) = 2 ∧ (s.capturedInto i f p).get (SECT.CAP_STATUS_PLANE i) = p % 4 := by
  unfold Stack.capturedInto
  rw [Stack.get_put_same, Stack.get_put_ne _ _ (by simp [SECT.CAP_STATUS_PLANE, SECT.CAP_STATUS_STATE]), (Stack.get_capShow _ i 2).1]
  exact ⟨rfl, rfl⟩

theorem Stack.capturedInto_plane (s : Stack) (i : Nat) (f : Fabric) (p : Nat) :
    (s.capturedInto i f p).plane (s.rootOf (s.cap i).sect) p = { status := .captured, src := 0x1E, bad := false } := by
  unfold Stack.capturedInto
  rw [Stack.plane_put, Stack.plane_capShow, Stack.plane_setPlane_same]

/-- Sections changed leave the page engine as it is. -/
theorem modSects_pages (s : Stack) (l : List Nat) (f : Section → Section) : (s.modSects l f).pages = s.pages :=
  (modSects_only (F := []) s l f).part (p := .pages) (by simp)

theorem Stack.cap_of_pages {s t : Stack} (h : t.pages.caps = s.pages.caps) (i : Nat) : t.cap i = s.cap i := by
  unfold Stack.cap
  rw [h]

theorem Stack.capturedInto_cap (s : Stack) (i : Nat) (f : Fabric) (p : Nat) : (s.capturedInto i f p).cap i = s.takenCap i p := by
  unfold Stack.capturedInto
  rw [Stack.cap_put, Stack.cap_capShow, Stack.cap_setPlane, Stack.capturing, Stack.cap_of_pages (congrArg Pages.caps (modSects_pages _ _ _)),
    Stack.snapped, Stack.cap_setCap_same]

/-- The Live sections of the family are Capturing, and no section outside it differs (R150). -/
theorem Stack.capturedInto_sect (s : Stack) (i : Nat) (f : Fabric) (p m : Nat) :
    (m ∈ s.family (s.cap i).sect → (s.capturedInto i f p).sect m = (s.sect m).captureBegins) ∧
      (m ∉ s.family (s.cap i).sect → (s.capturedInto i f p).sect m = s.sect m) := by
  rw [Stack.sect_of_sections (s.capturedInto_part i f p (q := .sections) (by decide)) m, Stack.capturing,
    Stack.family_of_sections (s.snapped_sections i f p), ← Stack.sect_of_sections (s.snapped_sections i f p) m]
  exact ⟨fun hm => modSects_idem _ Section.captureBegins_idem hm, fun hm => modSects_not_mem _ _ hm⟩

theorem Stack.capturedInto_mark (s : Stack) (i : Nat) (f : Fabric) (p : Nat) {c : Nat}
    (hc : c ∉ (folioKeys (s.sect (s.cap i).sect).tiles p).map bankMark) : (s.capturedInto i f p).mark c = s.mark c := by
  have hafter : (s.capturedInto i f p).health = (s.capturing i f p).health := s.capturedInto_part i f p (q := .health) (by decide)
  have hsect : (s.capturing i f p).health = (s.snapped i f p).health :=
    (s.capturing_onlyChanges (P := [.sections]) (F := []) i f p (by simp)).part (p := .health) (by simp)
  unfold Stack.mark
  rw [hafter, hsect]
  exact mapGet_foldl_mapErase_bankMark _ _ hc

end

end Sys2Proof.Machine
end

section
/-! SUPPORT. The end of a capture's copy, its release, and the reads of its image and of the hinge table (R150, R159, R162, R177, R191, R194). -/

namespace Sys2Proof.Machine

section
variable {P : List Part} {F : List Field} {s : Stack} {i : Nat}

/-! ## The copy completes (R150, R170, R177, R191) -/

/-- What the end of the copy makes of a section: a Capturing one is Live, or Held with a hold bit set (R150, R170). -/
def Section.copied (x : Section) : Section := if x.state = .capturing then Section.after .live x else x

theorem Section.copied_state (x : Section) : x.copied.state ≠ .capturing := by
  unfold Section.copied Section.after
  repeat' split
  all_goals simp_all

theorem Section.copied_home (x : Section) : x.copied.home = x.home := by
  unfold Section.copied Section.after
  repeat' split
  all_goals rfl

theorem Section.copied_tiles (x : Section) : x.copied.tiles = x.tiles := by
  unfold Section.copied Section.after
  repeat' split
  all_goals rfl

/-- A section for which no SLEEP waits (R177). -/
def Section.sleepTaken (x : Section) : Section := { x with sleepPending := false }

/-- What the end of the copy does for one section: a command that waits for it ends where the section is Held, and a waiting SLEEP begins
(R177, R191). -/
def Stack.copyEnded (s : Stack) (m : Nat) : Stack :=
  let t := s.modSect m Section.sleepTaken
  if (s.sect m).state = .held then t.cmdDone m
  else if (s.sect m).sleepPending then t.sleepEntry (s.family m)
  else s

/-- A section without what the end of a copy may change of it: a sleep or wake, and a command that waits. -/
def Section.resting (x : Section) : Section := { x with seq := .idle, sleepPending := false, cmdBusy := false }

theorem Section.of_resting {x y : Section} (h : x.resting = y.resting) : x.state = y.state ∧ x.home = y.home ∧ x.tiles = y.tiles := by
  have hs : x.resting.state = y.resting.state := by rw [h]
  have hh : x.resting.home = y.resting.home := by rw [h]
  have ht : x.resting.tiles = y.resting.tiles := by rw [h]
  exact ⟨hs, hh, ht⟩

theorem Stack.copyEnded_resting (s : Stack) (m n : Nat) : ((s.copyEnded m).sect n).resting = (s.sect n).resting := by
  have hmod : ((s.modSect m Section.sleepTaken).sect n).resting = (s.sect n).resting :=
    modSects_keeps s [m] (f := Section.sleepTaken) Section.resting (fun _ => rfl) n
  unfold Stack.copyEnded
  dsimp only
  split
  · rw [Stack.cmdDone_sect, ← hmod]
    split
    · subst m
      rfl
    · rfl
  · split
    · refine (modSects_keeps _ _ Section.resting (fun x => ?_) n).trans hmod
      split <;> rfl
    · rfl

/-- BUSY at the section's home may fall, and nothing else of the fields changes (R191). -/
theorem Stack.copyEnded_onlyChanges (s : Stack) (m : Nat) (h : .sections ∈ P) (hf : SECT.CMD_STATUS_BUSY (s.sect m).home ∈ F) :
    s.OnlyChanges P F (s.copyEnded m) := by
  have hmod (t : Stack) (l : List Nat) (f : Section → Section) : t.OnlyChanges P F (t.modSects l f) :=
    (modSects_only t l f).mono (by simp [h]) fun _ h => h
  have hwait := hmod s [m] Section.sleepTaken
  unfold Stack.copyEnded
  dsimp only
  split
  · refine hwait.trans (Stack.cmdDone_onlyChanges _ _ h ?_)
    rw [modSects_keeps s [m] (f := Section.sleepTaken) Section.home fun _ => rfl]
    exact hf
  · split
    · exact hwait.trans (hmod _ _ _)
    · exact Stack.OnlyChanges.refl _ _ _

theorem foldl_copyEnded_resting (l : List Nat) (s : Stack) (n : Nat) : ((l.foldl Stack.copyEnded s).sect n).resting = (s.sect n).resting :=
  foldl_keeps (q := fun t => (t.sect n).resting) (fun t m => t.copyEnded_resting m n) l s

theorem foldl_copyEnded_onlyChanges (l : List Nat) (s : Stack) (h : .sections ∈ P)
    (hf : ∀ m ∈ l, SECT.CMD_STATUS_BUSY (s.sect m).home ∈ F) : s.OnlyChanges P F (l.foldl Stack.copyEnded s) := by
  induction l generalizing s with
  | nil => exact Stack.OnlyChanges.refl _ _ _
  | cons m l ih =>
    refine (s.copyEnded_onlyChanges m h (hf m (by simp))).trans (ih _ fun n hn => ?_)
    obtain ⟨-, hhome, -⟩ := Section.of_resting (s.copyEnded_resting m n)
    rw [hhome]
    exact hf n (by simp [hn])

/-- The sections of a capture after its copy (R150). -/
def Stack.sectionsCopied (s : Stack) (i : Nat) : Stack :=
  (s.family (s.cap i).sect).foldl Stack.copyEnded (s.modSects (s.family (s.cap i).sect) Section.copied)

theorem Stack.sectionsCopied_onlyChanges (s : Stack) (i : Nat) (h : .sections ∈ P)
    (hf : ∀ m ∈ s.family (s.cap i).sect, SECT.CMD_STATUS_BUSY (s.sect m).home ∈ F) : s.OnlyChanges P F (s.sectionsCopied i) := by
  refine ((modSects_only s _ _).mono (by simp [h]) fun _ h => h).trans (foldl_copyEnded_onlyChanges _ _ h fun m hm => ?_)
  rw [modSects_keeps s _ Section.home Section.copied_home]
  exact hf m hm

/-- No section of the family stays Capturing. -/
theorem Stack.sectionsCopied_state (s : Stack) (i : Nat) {m : Nat} (hm : m ∈ s.family (s.cap i).sect) :
    ((s.sectionsCopied i).sect m).state ≠ .capturing := by
  obtain ⟨hstate, -, -⟩ := Section.of_resting (foldl_copyEnded_resting (s.family (s.cap i).sect) (s.modSects (s.family (s.cap i).sect)
    Section.copied) m)
  rw [Stack.sectionsCopied, hstate]
  exact modSects_mem (Q := fun x => x.state ≠ .capturing) s hm Section.copied_state

theorem Stack.sectionsCopied_tiles (s : Stack) (i n : Nat) : ((s.sectionsCopied i).sect n).tiles = (s.sect n).tiles := by
  obtain ⟨-, -, htiles⟩ := Section.of_resting (foldl_copyEnded_resting (s.family (s.cap i).sect) (s.modSects (s.family (s.cap i).sect)
    Section.copied) n)
  rw [Stack.sectionsCopied, htiles]
  exact modSects_keeps s _ Section.tiles Section.copied_tiles n

/-- A capture that is copying is Ready when its copy completes, its image as long as its tiles need (R150, R152). -/
theorem Stack.captureCopied_ready (h : (s.cap i).phase = 2) :
    s.captureCopied i = ((((s.sectionsCopied i).setCap i { s.cap i with phase := 3 }).capShow i 3).put (SECT.CAP_LEN_LEN i)
      (8 + 4224 * (s.sect (s.cap i).sect).tiles.length)).raise (SECT.INT_CAP_DONE i) := by
  rw [← s.sectionsCopied_tiles i]
  unfold Stack.captureCopied
  simp only [h]
  rfl

theorem Stack.captureCopied_onlyChanges (h : (s.cap i).phase = 2) (hp : .pages ∈ P) (hs : .sections ∈ P)
    (hb : ∀ m ∈ s.family (s.cap i).sect, SECT.CMD_STATUS_BUSY (s.sect m).home ∈ F) (hst : SECT.CAP_STATUS_STATE i ∈ F)
    (hc : SECT.CAP_STATUS_CAUSE i ∈ F) (hl : SECT.CAP_LEN_LEN i ∈ F) (hd : SECT.INT_CAP_DONE i ∈ F) :
    s.OnlyChanges P F (s.captureCopied i) := by
  rw [Stack.captureCopied_ready h]
  exact ((((s.sectionsCopied_onlyChanges i hs hb).trans (Stack.setCap_onlyChanges _ _ _ hp)).trans
    (Stack.capShow_onlyChanges _ i 3 hst hc)).put _ hl).raise hd

theorem Stack.captureCopied_cap (h : (s.cap i).phase = 2) : (s.captureCopied i).cap i = { s.cap i with phase := 3 } := by
  rw [Stack.captureCopied_ready h, Stack.cap_raise, Stack.cap_put, Stack.cap_capShow, Stack.cap_setCap_same]

theorem Stack.captureCopied_sect (h : (s.cap i).phase = 2) (m : Nat) : (s.captureCopied i).sect m = (s.sectionsCopied i).sect m := by
  rw [Stack.captureCopied_ready h]
  refine Stack.sect_of_sections ?_ m
  simp [Stack.capShow, Stack.setCap]

/-- What the fields of a capture show once its image is Ready (R161, R162, R615). -/
theorem Stack.captureCopied_status (h : (s.cap i).phase = 2) :
    (s.captureCopied i).get (SECT.CAP_STATUS_STATE i) = 3 ∧ (s.captureCopied i).get (SECT.INT_CAP_DONE i) = 1 ∧
      (s.captureCopied i).get (SECT.CAP_LEN_LEN i) = (8 + 4224 * (s.sect (s.cap i).sect).tiles.length) % 2 ^ 24 := by
  rw [Stack.captureCopied_ready h]
  simp [Stack.raise, Stack.capShow, Stack.get_put_ne, SECT.CAP_STATUS_STATE, SECT.CAP_STATUS_CAUSE, SECT.CAP_LEN_LEN, SECT.INT_CAP_DONE]

/-! ## Release (R159) -/

/-- A release of a Ready capture frees its plane, where that still holds the image, and ends it (R159). -/
theorem Stack.captureRelease_ready (h : (s.cap i).phase = 3) :
    s.captureRelease i = ((if (s.plane (s.rootOf (s.cap i).sect) (s.cap i).plane).status = .captured then
      s.setPlane (s.rootOf (s.cap i).sect) (s.cap i).plane {} else s).setCap i {}).capShow i 0 := by
  unfold Stack.captureRelease
  simp [h]

/-- A release of any capture changes the page engine and shows Idle (R159, R161). -/
theorem Stack.captureRelease_eq (s : Stack) (i : Nat) : ∃ x : Pages, s.captureRelease i = ({ s with pages := x } : Stack).capShow i 0 := by
  unfold Stack.captureRelease
  dsimp only
  split <;> exact ⟨_, rfl⟩

/-! ## Reads of the image (R162) -/

theorem Stack.capDataRead_early (h : s.get (SECT.CAP_STATUS_STATE i) ≠ 3) :
    s.capDataRead i = s.writes [(SECT.CAP_STATUS_EARLY i, 1), (SECT.CAP_DATA_DATA i, 0)] := if_pos (by simpa using h)

theorem Stack.capDataRead_ready (h : s.get (SECT.CAP_STATUS_STATE i) = 3) (hp : s.get (SECT.CAP_PTR_PTR i) < s.get (SECT.CAP_LEN_LEN i)) :
    s.capDataRead i = s.writes [(SECT.CAP_DATA_DATA i, s.capWord i (s.get (SECT.CAP_PTR_PTR i))),
      (SECT.CAP_PTR_PTR i, s.get (SECT.CAP_PTR_PTR i) + 1)] :=
  (if_neg (by simp [h])).trans (if_neg (Nat.not_le.2 hp))

/-! ## The hinge table (R184, R194) -/

/-- The word that a read of HINGE_DATA gives (R184, R194). -/
def Stack.hingeWord (s : Stack) (i : Nat) : Nat :=
  let a := s.get (SECT.HINGE_ADDR_ADDR i)
  if a < 39600 then mapGet 0 s.fabric.hinges (i * 65536 + a) &&& s.hingeWordMask i a else 0

theorem Stack.hingeRead_eq (s : Stack) (i : Nat) : s.hingeRead i =
    if s.flag (SECT.HINGE_ADDR_AUTOINC i) then
      (s.put (SECT.HINGE_DATA_DATA i) (s.hingeWord i)).put (SECT.HINGE_ADDR_ADDR i) (s.get (SECT.HINGE_ADDR_ADDR i) + 1)
    else s.put (SECT.HINGE_DATA_DATA i) (s.hingeWord i) := by
  have hf : (s.put (SECT.HINGE_DATA_DATA i) (s.hingeWord i)).flag (SECT.HINGE_ADDR_AUTOINC i) = s.flag (SECT.HINGE_ADDR_AUTOINC i) := by
    unfold Stack.flag
    rw [Stack.get_put_ne _ _ (by simp [SECT.HINGE_DATA_DATA, SECT.HINGE_ADDR_AUTOINC])]
  rw [← hf]
  rfl

theorem Stack.hingeRead_onlyChanges (s : Stack) (i : Nat) (hd : SECT.HINGE_DATA_DATA i ∈ F) (ha : SECT.HINGE_ADDR_ADDR i ∈ F) :
    s.OnlyChanges P F (s.hingeRead i) := by
  rw [Stack.hingeRead_eq]
  split
  · exact (s.put_onlyChanges _ hd).put _ ha
  · exact s.put_onlyChanges _ hd

theorem Stack.get_hingeRead (s : Stack) (i : Nat) :
    (s.hingeRead i).get (SECT.HINGE_DATA_DATA i) = s.hingeWord i % 2 ^ 32 ∧
      (s.hingeRead i).get (SECT.HINGE_ADDR_ADDR i) = if s.flag (SECT.HINGE_ADDR_AUTOINC i) then (s.get (SECT.HINGE_ADDR_ADDR i) + 1) % 2 ^ 16
        else s.get (SECT.HINGE_ADDR_ADDR i) := by
  have hk : (SECT.HINGE_DATA_DATA i).key ≠ (SECT.HINGE_ADDR_ADDR i).key := by simp [SECT.HINGE_DATA_DATA, SECT.HINGE_ADDR_ADDR]
  rw [Stack.hingeRead_eq]
  split
  · exact ⟨(Stack.get_put_ne _ _ hk.symm).trans (Stack.get_put_same _ _ _), Stack.get_put_same _ _ _⟩
  · exact ⟨Stack.get_put_same _ _ _, Stack.get_put_ne _ _ hk⟩

end

end Sys2Proof.Machine
end

section
/-! The statement of the captures. -/

namespace Sys2Proof.Machine

/-- Settles O15: each clause is the equation of its operation, with the frames of the updates that it names. -/
theorem capturesComplete : Obligations.CapturesComplete := by
  refine ⟨fun s k i d a r hk => ?_, fun s k i p hk h hp hr hd ht => ?_, fun s k i hk h => ?_, fun s k i hk => ?_,
    fun s k i hk => ⟨fun h hp => exec_eq_of_setStack hk rfl (Stack.capDataRead_ready h hp),
      fun h => exec_eq_of_setStack hk rfl (Stack.capDataRead_early h)⟩, fun s k i hk => ?_⟩
  · refine completes_of_onStack (f := Stack.capture i d a r) hk rfl
      ((s.stack k).capture_onlyChanges i d a r (by simp) (by simp) (by simp) (by simp) (by simp) (by simp) (by simp))
      ⟨fun hc => ?_, fun hc => ?_⟩
    · obtain ⟨hstate, hcause, hcap⟩ := Stack.capture_armed_shows hc
      exact ⟨hstate, hcause, hcap, Stack.capture_armed_done hc⟩
    · obtain ⟨hstate, hcause, hdone⟩ := Stack.capture_refused_shows hc
      exact ⟨hstate, hcause, hdone, Stack.capture_refused_pages hc⟩
  · obtain ⟨f, he⟩ := Stack.captureEdge_takes h hp hr hd ht
    refine completes_of_onStack (f := Stack.captureEdge i) hk rfl ?_ ?_ <;> rw [he]
    · exact Stack.capturedInto_onlyChanges _ _ _ _ (by simp) (by simp) (by simp) (by simp) (by simp) (by simp) (by simp)
    · obtain ⟨hstate, hplane⟩ := (s.stack k).capturedInto_status i f p
      refine ⟨Stack.capturedInto_plane _ _ _ _, hstate, hplane, ?_, ?_, fun m hm hl => ?_, fun m hm => ?_, fun c hc => ?_⟩
      · rw [Stack.capturedInto_cap]
        rfl
      · rw [Stack.capturedInto_cap]
        rfl
      · rw [((s.stack k).capturedInto_sect i f p m).1 hm]
        unfold Section.captureBegins
        rw [if_pos hl]
      · exact ((s.stack k).capturedInto_sect i f p m).2 hm
      · exact Stack.capturedInto_mark _ _ _ _ hc
  · obtain ⟨hstate, hdone, hlen⟩ := Stack.captureCopied_status h
    refine completes_of_onStack (f := Stack.captureCopied i) hk rfl ?_ ⟨hstate, hdone, ?_, hlen, fun m hm => ?_⟩
    · exact Stack.captureCopied_onlyChanges h (by simp) (by simp) (fun m hm => List.mem_append_right _ (List.mem_map.2 ⟨m, hm, rfl⟩))
        (by simp) (by simp) (by simp) (by simp)
    · rw [Stack.captureCopied_cap h]
    · rw [Stack.captureCopied_sect h]
      exact (s.stack k).sectionsCopied_state i hm
  · obtain ⟨x, hx⟩ := (s.stack k).captureRelease_eq i
    obtain ⟨hstate, hcause⟩ := Stack.get_capShow ({ s.stack k with pages := x } : Stack) i 0
    rw [← hx] at hstate hcause
    refine completes_of_onStack (f := Stack.captureRelease i) hk rfl ?_ ⟨hstate, hcause, fun h => ⟨?_, fun hc => ?_⟩⟩
    · rw [hx]
      exact ((s.stack k).pages_onlyChanges x (by simp)).trans (Stack.capShow_onlyChanges _ i 0 (by simp) (by simp))
    · rw [Stack.captureRelease_ready h, Stack.cap_capShow, Stack.cap_setCap_same]
    · rw [Stack.captureRelease_ready h, if_pos hc, Stack.plane_capShow, Stack.plane_setCap, Stack.plane_setPlane_same]
  · exact completes_of_onStack (f := Stack.hingeRead i) hk rfl ((s.stack k).hingeRead_onlyChanges i (by simp) (by simp))
      ((s.stack k).get_hingeRead i)

end Sys2Proof.Machine
end

section
/-! SUPPORT. The loader: what each command of LOAD.CMD, each phase of a job and each colophon fetch does, case by case (R144, R217 to R225,
R231). -/

namespace Sys2Proof.Machine

section
variable {s : Stack} {image op : Nat}

/-! ## LOAD.CMD (R231) -/

theorem Stack.loadStart_busy (h : s.flag LOAD.STATUS_BUSY = true) :
    s.loadStart op image = (s.loadFields image op).raise LOAD.STATUS_OVERRUN := if_pos h

theorem Stack.loadStart_idle (h : s.flag LOAD.STATUS_BUSY = false) :
    s.loadStart op image = (s.loadFields image op).jobBegin op image (s.get LOAD.CMD_DIGEST_DIGEST) false := if_neg (by simp [h])

theorem Stack.loadNone_busy (h : s.flag LOAD.STATUS_BUSY = true) :
    s.loadNone op image = (s.loadFields image op).raise LOAD.STATUS_OVERRUN := if_pos h

theorem Stack.loadNone_idle (h : s.flag LOAD.STATUS_BUSY = false) : s.loadNone op image = s.loadFields image op := if_neg (by simp [h])

theorem Stack.loadAbort_busy (h : s.flag LOAD.STATUS_BUSY = true) :
    s.loadAbort image = (s.loadFields image 4).loadStop 0x15 ((s.loadFields image 4).jobSections.headD 0) 0 := if_pos h

theorem Stack.loadAbort_idle (h : s.flag LOAD.STATUS_BUSY = false) : s.loadAbort image = s.loadFields image 4 := if_neg (by simp [h])

/-! ## Phases (R217, R221) -/

/-- A phase that fails stops the job with its cause, the section concerned and the address (R221, R231). -/
def Stack.phaseStopped (img : Nat) (r : Stack × Nat × Nat) : Stack := r.1.loadStop r.2.1 (r.1.causeSection img r.2.1 r.2.2) r.2.2

section
variable {unc : Option Nat} (hp : s.loadPaused = false)
include hp

theorem Stack.loadPhase_check_refuses {c n a : Nat} (h : s.get LOAD.STATUS_PHASE = 1)
    (hc : s.checkImage s.loader.job s.loader.jobImage s.loader.jobDigest = some (c, n, a)) :
    s.loadPhase unc = ((s.loadEnd c).put LOAD.STATUS_SECTION n).put LOAD.FAULT_ADDR_ADDR a := by
  unfold Stack.loadPhase
  simp only [hp, Bool.false_eq_true, if_false, h, hc]

theorem Stack.loadPhase_check_passes (h : s.get LOAD.STATUS_PHASE = 1)
    (hc : s.checkImage s.loader.job s.loader.jobImage s.loader.jobDigest = none) :
    s.loadPhase unc = if s.loader.job = 5 then s.loadEnd 0 else (s.raiseFence s.loader.jobImage).put LOAD.STATUS_PHASE 2 := by
  unfold Stack.loadPhase
  simp only [hp, Bool.false_eq_true, if_false, h, hc]

theorem Stack.loadPhase_define (h : s.get LOAD.STATUS_PHASE = 2) :
    s.loadPhase unc = if s.defineFenced s.loader.jobImage then
      (s.phaseDefine s.loader.jobImage s.loader.jobStartLive).put LOAD.STATUS_PHASE 3 else s.loadStop 0x10 0 0 := by
  unfold Stack.loadPhase
  simp only [hp, Bool.false_eq_true, if_false, h]

theorem Stack.loadPhase_copy (h : s.get LOAD.STATUS_PHASE = 3) :
    s.loadPhase unc = if (s.phaseCopy s.loader.jobImage unc).2.1 ≠ 0 then
        Stack.phaseStopped s.loader.jobImage (s.phaseCopy s.loader.jobImage unc)
      else if s.pooled then ((s.phaseCopy s.loader.jobImage unc).1.planesWritten s.loader.jobImage).enterRegisters
      else (s.phaseCopy s.loader.jobImage unc).1.put LOAD.STATUS_PHASE 4 := by
  unfold Stack.loadPhase
  simp only [hp, Bool.false_eq_true, if_false, h, bne_iff_ne]
  rfl

theorem Stack.loadPhase_stage (h : s.get LOAD.STATUS_PHASE = 4) (hl : s.stageLinksBusy = false) :
    s.loadPhase unc = if (s.phaseStage s.loader.jobImage).2.1 ≠ 0 then
        Stack.phaseStopped s.loader.jobImage (s.phaseStage s.loader.jobImage)
      else ((s.phaseStage s.loader.jobImage).1.planesWritten s.loader.jobImage).enterRegisters := by
  unfold Stack.loadPhase
  simp only [hp, Bool.false_eq_true, if_false, h, hl, bne_iff_ne]
  rfl

theorem Stack.loadPhase_registers_writes {u : Stack} (h : s.get LOAD.STATUS_PHASE = 5) (hw : s.loader.waitTurn = false)
    (hu : s.phaseRegisters s.loader.jobImage (s.mode == .dawn) = some u) :
    s.loadPhase unc = if s.mode = .dawn then (u.registersTaken s).loadFinish true else u.loadFinish false := by
  unfold Stack.loadPhase
  simp only [hp, Bool.false_eq_true, if_false, h, hw, hu]
  by_cases hm : s.mode = .dawn
  · simp [hm]
  · have hd : (s.mode == .dawn) = false := beq_eq_false_iff_ne.2 hm
    simp [hm, hd]

theorem Stack.loadPhase_registers_fails (h : s.get LOAD.STATUS_PHASE = 5) (hw : s.loader.waitTurn = false)
    (hu : s.phaseRegisters s.loader.jobImage (s.mode == .dawn) = none) :
    s.loadPhase unc = s.loadStop 0xF (s.jobSections.headD 0) 0 := by
  unfold Stack.loadPhase
  simp only [hp, Bool.false_eq_true, if_false, h, hw, hu]

end

/-- The registers phase that waits does so while a turn is armed (R217). -/
theorem Stack.loadRegistersPhase_waiting (h : s.loader.waitTurn = true) :
    s.loadRegistersPhase = { s with loader := { s.loader with waitTurn := s.turnArmed } } := if_pos h

/-! ## Colophon fetches (R141, R225) -/

/-- LOAD.FETCH for a section that exists, no fetch in progress: its refusal, or a plane Staging for the page (R141, R225). -/
theorem Stack.fetch'_idle {n page p : Nat} (hb : s.flag LOAD.FETCH_STATUS_BUSY = false) (hn : s.stateIn n [.none] = false) :
    s.fetch' n page p =
      let u := s.writes [(LOAD.FETCH_SECTION, n), (LOAD.FETCH_PAGE, page), (LOAD.FETCH_PLANE, p)]
      let r := s.rootOf n
      let c := s.pageRefusal n page p 4 (s.imageSupplies r page)
      if c ≠ 0 then u.writes [(LOAD.FETCH_STATUS_RESULT, c)]
      else
        let v : Stack := { u with loader := { u.loader with fetchRoot := r, fetchPage := page, fetchPlane := p } }
        (v.setPlane r p { status := .staging, src := page, bad := false }).writes
          [(LOAD.FETCH_STATUS_BUSY, 1), (LOAD.FETCH_STATUS_RESULT, 0)] := by
  unfold Stack.fetch'
  simp only [hb, hn, Bool.false_eq_true, if_false, bne_iff_ne]
  rfl

end

end Sys2Proof.Machine
end

section
/-! The statement of the loader's commands. -/

namespace Sys2Proof.Machine

/-- Settles O47: each clause is the equation of its command or phase under the conditions that it names. -/
theorem loaderCommandsComplete : Obligations.LoaderCommandsComplete := by
  refine ⟨fun s k image hk => ⟨fun hb => ⟨fun p hp => ?_, fun op => exec_eq_of_onStack rfl (Stack.loadNone_busy hb),
      exec_eq_of_onStack rfl (Stack.loadAbort_busy hb)⟩,
      fun hb => ⟨exec_eq_of_onStack rfl (Stack.loadStart_idle hb), exec_eq_of_onStack rfl (Stack.loadStart_idle hb),
        exec_eq_of_onStack rfl (Stack.loadStart_idle hb), exec_eq_of_onStack rfl (Stack.loadStart_idle hb),
        fun op => exec_eq_of_onStack rfl (Stack.loadNone_idle hb), exec_eq_of_onStack rfl (Stack.loadAbort_idle hb)⟩⟩,
    fun s k unc hk hp => ⟨fun h => ?_, fun h => exec_eq_of_onStack rfl (Stack.loadPhase_define hp h),
      fun h => exec_eq_of_onStack rfl (Stack.loadPhase_copy hp h), fun h hl => exec_eq_of_onStack rfl (Stack.loadPhase_stage hp h hl),
      fun h hw => ?_⟩,
    fun s k hk hw => exec_eq_of_onStack rfl (Stack.loadRegistersPhase_waiting hw),
    fun s k n page p hk hb hn => exec_eq_of_onStack rfl (Stack.fetch'_idle hb hn),
    fun s k unc hk hb hr => exec_eq_of_onStack (f := Stack.fetchDone unc) rfl (if_pos (by simp [hb, hr]))⟩
  · simp only [List.mem_cons, List.not_mem_nil, or_false] at hp
    rcases hp with rfl | rfl | rfl | rfl <;> exact exec_eq_of_onStack rfl (Stack.loadStart_busy hb)
  · refine exec_eq_of_onStack (f := Stack.loadPhase unc) rfl ?_
    split
    · exact Stack.loadPhase_check_refuses hp h ‹_›
    · exact Stack.loadPhase_check_passes hp h ‹_›
  · refine exec_eq_of_onStack (f := Stack.loadPhase unc) rfl ?_
    split
    · exact Stack.loadPhase_registers_writes hp h hw ‹_›
    · exact Stack.loadPhase_registers_fails hp h hw ‹_›

end Sys2Proof.Machine
end

section
/-! SUPPORT. Self-test: how a test of a section begins and ends, and what TEST.CTL and a group of patterns do (R41, R170, R177, R585 to R589, R596,
R597). -/

namespace Sys2Proof.Machine

section
variable {P : List Part} {F : List Field} {s : Stack} {i n : Nat}

/-- A field that a frame does not list reads as it did. -/
theorem Stack.OnlyChanges.get_eq {t : Stack} (h : s.OnlyChanges P F t) {f : Field} (hf : ∀ g ∈ F, g.key ≠ f.key) : t.get f = s.get f := by
  obtain ⟨_, _, _, hget⟩ := h
  exact hget f hf

/-- A stack with its test controller replaced. -/
def Stack.setBist (s : Stack) (x : Bist) : Stack := { s with bist := x }

@[simp] theorem Stack.setBist_bist (s : Stack) (x : Bist) : (s.setBist x).bist = x := rfl
@[simp] theorem Stack.get_setBist (s : Stack) (x : Bist) (f : Field) : (s.setBist x).get f = s.get f := rfl
@[simp] theorem Stack.sect_setBist (s : Stack) (x : Bist) (m : Nat) : (s.setBist x).sect m = s.sect m := rfl

theorem Stack.setBist_onlyChanges (s : Stack) (x : Bist) (h : .bist ∈ P) : s.OnlyChanges P F (s.setBist x) :=
  ⟨rfl, rfl, fun p hp => by cases p <;> first | rfl | exact absurd h hp, fun _ _ => rfl⟩

/-- Sections changed leave the test controller as it is. -/
@[simp] theorem modSects_bist (s : Stack) (l : List Nat) (f : Section → Section) : (s.modSects l f).bist = s.bist :=
  (modSects_only (F := []) s l f).part (p := .bist) (by simp)

/-! ## A command of SECT.CMD in progress (R190, R191) -/

/-- What SECT.CMD and CMD_STATUS show of a command that is taken (R190, R191). -/
def Stack.cmdFields (s : Stack) (i n op : Nat) : Stack :=
  ((s.put (SECT.CMD_SECTION i) n).put (SECT.CMD_OP i) op).put (SECT.CMD_STATUS_RESULT i) 0

theorem Stack.cmdFields_onlyChanges (s : Stack) (i n op : Nat) (hs : SECT.CMD_SECTION i ∈ F) (ho : SECT.CMD_OP i ∈ F)
    (hr : SECT.CMD_STATUS_RESULT i ∈ F) : s.OnlyChanges P F (s.cmdFields i n op) :=
  ((s.put_onlyChanges _ hs).put _ ho).put _ hr

theorem Stack.sect_cmdFields (s : Stack) (i n op m : Nat) : (s.cmdFields i n op).sect m = s.sect m := rfl

theorem Stack.family_cmdFields (s : Stack) (i n op m : Nat) : (s.cmdFields i n op).family m = s.family m :=
  Stack.family_of_sections (s := s) (t := s.cmdFields i n op) rfl m

theorem Stack.cmdFields_bist (s : Stack) (i n op : Nat) : (s.cmdFields i n op).bist = s.bist := rfl

/-- They say nothing of whether the fabric is in pooled use. -/
theorem Stack.pooled_cmdFields (s : Stack) (i n op : Nat) : (s.cmdFields i n op).pooled = s.pooled := by
  have hframe := s.cmdFields_onlyChanges (P := []) (F := [SECT.CMD_SECTION i, SECT.CMD_OP i, SECT.CMD_STATUS_RESULT i]) i n op
    (by simp) (by simp) (by simp)
  have hkeys : ∀ g ∈ [SECT.CMD_SECTION i, SECT.CMD_OP i, SECT.CMD_STATUS_RESULT i], g.key ≠ STORE.INFO_USE.key := by
    simp only [List.mem_cons, List.not_mem_nil, or_false, forall_eq_or_imp, forall_eq, SECT.CMD_SECTION, SECT.CMD_OP, SECT.CMD_STATUS_RESULT,
      STORE.INFO_USE]
    omega
  unfold Stack.pooled Stack.flag
  rw [hframe.get_eq hkeys]

/-- A section whose command is in progress (R191). -/
def Section.commanded (x : Section) : Section := { x with cmdBusy := true }

theorem Stack.cmdStart_eq (s : Stack) (i n : Nat) :
    s.cmdStart i n = (s.modSects [n] Section.commanded).put (SECT.CMD_STATUS_BUSY i) 1 := rfl

theorem Stack.cmdStart_onlyChanges (s : Stack) (i n : Nat) (h : .sections ∈ P) (hb : SECT.CMD_STATUS_BUSY i ∈ F) :
    s.OnlyChanges P F (s.cmdStart i n) := by
  rw [Stack.cmdStart_eq]
  exact ((modSects_only s _ _).mono (by simp [h]) fun _ h => h).put _ hb

@[simp] theorem Stack.cmdStart_bist (s : Stack) (i n : Nat) : (s.cmdStart i n).bist = s.bist := by
  rw [Stack.cmdStart_eq, Stack.put_bist, modSects_bist]

/-- A command that starts changes no state of a section. -/
theorem Stack.cmdStart_state (s : Stack) (i n m : Nat) : ((s.cmdStart i n).sect m).state = (s.sect m).state := by
  rw [Stack.cmdStart_eq, Stack.sect_put]
  exact modSects_keeps s [n] (f := Section.commanded) Section.state (fun _ => rfl) m

/-- It concerns no section but its own. -/
theorem Stack.cmdStart_sect_ne (s : Stack) (i : Nat) {n m : Nat} (h : m ≠ n) : (s.cmdStart i n).sect m = s.sect m := by
  rw [Stack.cmdStart_eq, Stack.sect_put, modSects_not_mem _ _ (by simpa using h)]

/-! ## A section test begins (R177, R587, R589) -/

/-- The members of a family that a test of its section reaches (R587). -/
def Stack.testable (s : Stack) (n : Nat) : List Nat := (s.family n).filter fun m => s.stateIn m [.asleep]

/-- A section becomes Testing (R587). -/
def Section.testBegins (x : Section) : Section := { x with state := .testing }

/-- A section test joins those that run (R589, log 109). -/
def Stack.testListed (s : Stack) (n : Nat) : Stack := s.setBist { s.bist with sects := s.bist.sects ++ [n] }

/-- A section test begins: the sections Testing, the command in progress, and the controller busy with it (R177, R589). -/
def Stack.testBegun (s : Stack) (i n : Nat) : Stack :=
  (((s.modSects (s.testable n) Section.testBegins).cmdStart i n).testListed n).put TEST.STATUS_BUSY 1

/-- TEST in Day of an Asleep idle section begins its test, unless pooled use leaves it no Free plane (R177, R587, R589). -/
theorem Stack.cmdTest_taken (h : s.takesCommand i n) (ha : (s.sect n).state = .asleep) (hq : (s.sect n).seq = .idle) (hm : s.mode = .day)
    (hp : (s.pooled && (s.freePlane (s.rootOf n)).isNone) = false) : s.cmdTest i n = (s.cmdFields i n 6).testBegun i n := by
  have hpermitted : (s.mode == .day && s.stateIn n [.asleep] && (s.sect n).seq == .idle) = true := by simp [Stack.stateIn, hm, ha, hq]
  have hplane : ((s.cmdFields i n 6).freePlane ((s.cmdFields i n 6).rootOf n)).isNone = (s.freePlane (s.rootOf n)).isNone := by
    rw [Stack.rootOf_of_sections (t := s.cmdFields i n 6) (s := s) rfl]
    rfl
  have hnone : ((s.cmdFields i n 6).pooled && ((s.cmdFields i n 6).freePlane ((s.cmdFields i n 6).rootOf n)).isNone) = false := by
    rw [hplane, Stack.pooled_cmdFields, hp]
  exact (s.sectCmd_taken h hpermitted).trans (if_neg (ne_true_of_eq_false hnone))

theorem Stack.testBegun_onlyChanges (s : Stack) (i n : Nat) (hs : .sections ∈ P) (hb : .bist ∈ P) (hc : SECT.CMD_STATUS_BUSY i ∈ F)
    (ht : TEST.STATUS_BUSY ∈ F) : s.OnlyChanges P F (s.testBegun i n) :=
  ((((modSects_only s _ _).mono (by simp [hs]) fun _ h => h).trans (Stack.cmdStart_onlyChanges _ i n hs hc)).trans
    (Stack.setBist_onlyChanges _ _ hb)).put _ ht

theorem Stack.testBegun_bist (s : Stack) (i n : Nat) : (s.testBegun i n).bist = { s.bist with sects := s.bist.sects ++ [n] } := by
  rw [Stack.testBegun, Stack.put_bist, Stack.testListed, Stack.setBist_bist, Stack.cmdStart_bist, modSects_bist]

/-- An Asleep member of the family is Testing (R587). -/
theorem Stack.testBegun_state {m : Nat} (hm : m ∈ s.family n) (ha : (s.sect m).state = .asleep) :
    ((s.testBegun i n).sect m).state = .testing := by
  have hmem : m ∈ s.testable n := List.mem_filter.2 ⟨hm, by simp [Stack.stateIn, ha]⟩
  unfold Stack.testBegun
  rw [Stack.sect_put, Stack.testListed, Stack.sect_setBist, Stack.cmdStart_state]
  exact modSects_mem s (Q := fun x => x.state = .testing) hmem fun _ => rfl

/-- No section outside the family differs. -/
theorem Stack.testBegun_outside {m : Nat} (hm : m ∉ s.family n) (hn : m ≠ n) : (s.testBegun i n).sect m = s.sect m := by
  unfold Stack.testBegun
  rw [Stack.sect_put, Stack.testListed, Stack.sect_setBist, Stack.cmdStart_sect_ne _ i hn]
  exact modSects_not_mem s _ fun h => hm (List.mem_filter.1 h).1

/-- Both BUSY bits show the test (R191, R597). -/
theorem Stack.testBegun_busy (s : Stack) (i n : Nat) :
    (s.testBegun i n).get TEST.STATUS_BUSY = 1 ∧ (s.testBegun i n).get (SECT.CMD_STATUS_BUSY i) = 1 := by
  have hkey : TEST.STATUS_BUSY.key ≠ (SECT.CMD_STATUS_BUSY i).key := by
    simp only [TEST.STATUS_BUSY, SECT.CMD_STATUS_BUSY]
    omega
  unfold Stack.testBegun
  rw [Stack.get_put_same, Stack.get_put_ne _ _ hkey, Stack.testListed, Stack.get_setBist, Stack.cmdStart_eq, Stack.get_put_same]
  exact ⟨rfl, rfl⟩

/-- A test that has begun leaves RESULT as it was. -/
theorem Stack.testBegun_result (s : Stack) (i n : Nat) :
    (s.testBegun i n).get (SECT.CMD_STATUS_RESULT i) = s.get (SECT.CMD_STATUS_RESULT i) := by
  have hframe := s.testBegun_onlyChanges (P := [.sections, .bist]) (F := [SECT.CMD_STATUS_BUSY i, TEST.STATUS_BUSY]) i n
    (by simp) (by simp) (by simp) (by simp)
  refine hframe.get_eq ?_
  simp only [List.mem_cons, List.not_mem_nil, or_false, forall_eq_or_imp, forall_eq, TEST.STATUS_BUSY, SECT.CMD_STATUS_BUSY,
    SECT.CMD_STATUS_RESULT]
  omega

/-! ## Sections leave Testing (R41, R170, R586) -/

/-- A section that leaves Testing is Asleep, or Held where a hold cause is set (R170). -/
theorem Section.after_state (back : SectState) (x : Section) : (x.after back).state = if x.hold = 0 then back else .held := by
  unfold Section.after
  split <;> rfl

theorem Section.after_home (back : SectState) (x : Section) : (x.after back).home = x.home := by
  unfold Section.after
  split <;> rfl

theorem Section.after_idem (back : SectState) (x : Section) : (x.after back).after back = x.after back := by
  by_cases h : x.hold = 0 <;> simp [Section.after, h]

/-- One section re-initialised, and out of Testing (R41, R586). -/
def Stack.untestOne (s : Stack) (n : Nat) : Stack := (s.reinitSection n).modSect n (Section.after .asleep)

/-- The members of a list that are in Testing. -/
def Stack.testing (s : Stack) (l : List Nat) : List Nat := l.filter fun n => s.stateIn n [.testing]

theorem Stack.untest_eq (s : Stack) (l : List Nat) : s.untest l = (s.testing l).foldl Stack.untestOne s := rfl

theorem Stack.mem_testing {l : List Nat} {m : Nat} : m ∈ s.testing l ↔ (s.sect m).state = .testing ∧ m ∈ l := by
  simp [Stack.testing, Stack.stateIn, and_comm]

theorem Stack.untestOne_sections (s : Stack) (n : Nat) : (s.untestOne n).sections = (s.modSect n (Section.after .asleep)).sections :=
  modSects_sections _ _ (s.reinitSection_sections n) [n] _

theorem foldl_untestOne_sections (l : List Nat) (s : Stack) :
    (l.foldl Stack.untestOne s).sections = (s.modSects l (Section.after .asleep)).sections := by
  induction l generalizing s with
  | nil => rfl
  | cons n l ih => exact (ih _).trans (modSects_sections _ _ (s.untestOne_sections n) l _)

/-- Exactly the Testing members of the list leave Testing (R41). -/
theorem Stack.untest_sect (s : Stack) (l : List Nat) (m : Nat) :
    (s.untest l).sect m = if (s.sect m).state = .testing ∧ m ∈ l then (s.sect m).after .asleep else s.sect m := by
  rw [Stack.untest_eq, Stack.sect_of_sections (foldl_untestOne_sections _ s) m]
  split
  · exact modSects_idem s (Section.after_idem .asleep) (Stack.mem_testing.2 ‹_›)
  · exact modSects_not_mem s _ fun h => ‹¬ _› (Stack.mem_testing.1 h)

theorem Stack.untest_home (s : Stack) (l : List Nat) (m : Nat) : ((s.untest l).sect m).home = (s.sect m).home := by
  rw [Stack.untest_sect]
  split
  · exact Section.after_home _ _
  · rfl

theorem Stack.untest_onlyChanges (s : Stack) (l : List Nat) (hs : .sections ∈ P) (hf : .fabric ∈ P) (hm : .mem ∈ P) (hh : .health ∈ P) :
    s.OnlyChanges P F (s.untest l) := by
  rw [Stack.untest_eq]
  exact foldl_onlyChanges (fun t n => (t.reinitSection_onlyChanges n hf hm hh).trans
    ((modSects_only _ [n] _).mono (by simp [hs]) fun _ h => h)) _ s

/-! ## A section test ends (R170, R589, R597) -/

/-- The sections of a test that ends, the tests `rest` remaining: its family out of Testing and its command ended (R170, R191, R589). -/
def Stack.testReleased (s : Stack) (n : Nat) (rest : List Nat) : Stack :=
  ((s.setBist { s.bist with sects := rest }).untest (s.family n)).cmdDone n

/-- What TEST.STATUS and SECT_RES report of it (R597). -/
def Stack.testReported (s : Stack) (failed n : Nat) (rest : List Nat) : Stack :=
  (s.put TEST.STATUS_BUSY (b2n (!rest.isEmpty || s.bist.run != 0))).sectRes n (if failed = 0 then 0 else 1) failed

/-- A failed test is logged (R589). -/
def Stack.testLogged (s : Stack) (failed n : Nat) : Stack :=
  if failed = 0 then s else s.event { block := 0xF, cause := 0, data0 := n, data1 := failed }

theorem Stack.testComplete_oldest {rest : List Nat} (failed : Nat) (h : s.bist.sects = n :: rest) :
    s.testComplete failed = ((s.testReleased n rest).testReported failed n rest).testLogged failed n := by
  unfold Stack.testComplete
  rw [h]
  rfl

theorem Stack.testReleased_onlyChanges (s : Stack) (n : Nat) (rest : List Nat) (hs : .sections ∈ P) (hb : .bist ∈ P) (hf : .fabric ∈ P)
    (hm : .mem ∈ P) (hh : .health ∈ P) (hc : SECT.CMD_STATUS_BUSY (s.sect n).home ∈ F) : s.OnlyChanges P F (s.testReleased n rest) :=
  ((s.setBist_onlyChanges _ hb).trans (Stack.untest_onlyChanges _ _ hs hf hm hh)).trans
    (Stack.cmdDone_onlyChanges _ n hs ((Stack.untest_home _ _ _).symm ▸ hc))

theorem Stack.testReleased_bist (s : Stack) (n : Nat) (rest : List Nat) : (s.testReleased n rest).bist = { s.bist with sects := rest } :=
  ((Stack.untest_onlyChanges (P := [.sections, .fabric, .mem, .health]) (F := [SECT.CMD_STATUS_BUSY (s.sect n).home]) _ _ (by simp) (by simp)
    (by simp) (by simp)).trans (Stack.cmdDone_onlyChanges _ n (by simp) (by simp [Stack.untest_home]))).part (p := .bist) (by simp)

/-- Exactly the Testing sections of the family leave Testing (R170, R589). -/
theorem Stack.testReleased_state (s : Stack) (n : Nat) (rest : List Nat) (m : Nat) : ((s.testReleased n rest).sect m).state =
    if (s.sect m).state = .testing ∧ m ∈ s.family n then (if (s.sect m).hold = 0 then .asleep else .held) else (s.sect m).state := by
  have hdone (t : Stack) : ((t.cmdDone n).sect m).state = (t.sect m).state := by
    rw [Stack.cmdDone_sect]
    split
    · subst n
      rfl
    · rfl
  unfold Stack.testReleased
  rw [hdone, Stack.untest_sect, apply_ite Section.state, Section.after_state]
  rfl

theorem Stack.testReported_onlyChanges (s : Stack) (failed n : Nat) (rest : List Nat) (hb : TEST.STATUS_BUSY ∈ F)
    (hs : TEST.SECT_RES_SECTION ∈ F) (hr : TEST.SECT_RES_RESULT ∈ F) (hf : TEST.SECT_RES_FAILED ∈ F) :
    s.OnlyChanges P F (s.testReported failed n rest) :=
  (((s.put_onlyChanges _ hb).put _ hs).put _ hr).put _ hf

theorem Stack.testReported_sections (s : Stack) (failed n : Nat) (rest : List Nat) : (s.testReported failed n rest).sections = s.sections := rfl
theorem Stack.testReported_bist (s : Stack) (failed n : Nat) (rest : List Nat) : (s.testReported failed n rest).bist = s.bist := rfl

/-- The controller is busy while a further test or a run remains, and SECT_RES names the section, whether tiles failed, and how many (R597). -/
theorem Stack.testReported_status (s : Stack) (failed n : Nat) (rest : List Nat) :
    (s.testReported failed n rest).get TEST.STATUS_BUSY = (if rest = [] ∧ s.bist.run = 0 then 0 else 1) ∧
      (s.testReported failed n rest).get TEST.SECT_RES_SECTION = n % 1024 ∧
      (s.testReported failed n rest).get TEST.SECT_RES_RESULT = (if failed = 0 then 0 else 1) ∧
      (s.testReported failed n rest).get TEST.SECT_RES_FAILED = failed % 2 ^ TEST.SECT_RES_FAILED.width := by
  have hbusy : b2n (!rest.isEmpty || s.bist.run != 0) % 2 = if rest = [] ∧ s.bist.run = 0 then 0 else 1 := by
    by_cases hr : rest = [] <;> by_cases h0 : s.bist.run = 0 <;> simp [b2n, hr, h0]
  refine ⟨?_, ?_, ?_, Stack.get_put_same _ _ _⟩
  · simpa [Stack.testReported, Stack.sectRes, Stack.get_put_ne, TEST.STATUS_BUSY, TEST.SECT_RES_SECTION, TEST.SECT_RES_RESULT,
      TEST.SECT_RES_FAILED] using hbusy
  · simp [Stack.testReported, Stack.sectRes, Stack.get_put_ne, TEST.SECT_RES_SECTION, TEST.SECT_RES_RESULT, TEST.SECT_RES_FAILED]
  · have hres : (if failed = 0 then 0 else 1) % 4 = if failed = 0 then 0 else 1 := by split <;> rfl
    simpa [Stack.testReported, Stack.sectRes, Stack.get_put_ne, TEST.SECT_RES_RESULT, TEST.SECT_RES_FAILED] using hres

/-- The log of a failed test concerns the ledger alone. -/
theorem Stack.testLogged_onlyChanges (s : Stack) (failed n : Nat) :
    s.OnlyChanges [.ledger] [LEDGER.PEND_HELD, LEDGER.PEND_DROPPED] (s.testLogged failed n) := by
  unfold Stack.testLogged
  split
  · exact Stack.OnlyChanges.refl _ _ _
  · exact Stack.event_onlyChanges _ _ (by simp) (by simp) (by simp)

theorem Stack.testLogged_sections (s : Stack) (failed n : Nat) : (s.testLogged failed n).sections = s.sections :=
  (s.testLogged_onlyChanges failed n).part (p := .sections) (by simp)

theorem Stack.testLogged_bist (s : Stack) (failed n : Nat) : (s.testLogged failed n).bist = s.bist :=
  (s.testLogged_onlyChanges failed n).part (p := .bist) (by simp)

/-- It leaves every field but the two of PEND. -/
theorem Stack.get_testLogged (s : Stack) (failed n : Nat) {f : Field} (h : LEDGER.PEND_HELD.key ≠ f.key) (h' : LEDGER.PEND_DROPPED.key ≠ f.key) :
    (s.testLogged failed n).get f = s.get f :=
  (s.testLogged_onlyChanges failed n).get_eq (by simp [h, h'])

/-- All that the end of the oldest section test may change (R170, R589, R597). -/
theorem Stack.testComplete_onlyChanges {rest : List Nat} (failed : Nat) (h : s.bist.sects = n :: rest) :
    s.OnlyChanges [.sections, .bist, .fabric, .mem, .health, .ledger]
      [SECT.CMD_STATUS_BUSY (s.sect n).home, TEST.STATUS_BUSY, TEST.SECT_RES_SECTION, TEST.SECT_RES_RESULT, TEST.SECT_RES_FAILED,
       LEDGER.PEND_HELD, LEDGER.PEND_DROPPED] (s.testComplete failed) := by
  rw [Stack.testComplete_oldest failed h]
  exact ((s.testReleased_onlyChanges n rest (by simp) (by simp) (by simp) (by simp) (by simp) (by simp)).trans
    (Stack.testReported_onlyChanges _ failed n rest (by simp) (by simp) (by simp) (by simp))).trans
    ((Stack.testLogged_onlyChanges _ failed n).mono (by simp) (by simp))

theorem Stack.testComplete_state {rest : List Nat} (failed : Nat) (h : s.bist.sects = n :: rest) (m : Nat) :
    ((s.testComplete failed).sect m).state =
      if (s.sect m).state = .testing ∧ m ∈ s.family n then (if (s.sect m).hold = 0 then .asleep else .held) else (s.sect m).state := by
  rw [Stack.testComplete_oldest failed h, Stack.sect_of_sections (Stack.testLogged_sections _ failed n),
    Stack.sect_of_sections (Stack.testReported_sections _ failed n rest)]
  exact s.testReleased_state n rest m

theorem Stack.testComplete_bist {rest : List Nat} (failed : Nat) (h : s.bist.sects = n :: rest) :
    (s.testComplete failed).bist = { s.bist with sects := rest } := by
  rw [Stack.testComplete_oldest failed h, Stack.testLogged_bist, Stack.testReported_bist, Stack.testReleased_bist]

theorem Stack.testComplete_status {rest : List Nat} (failed : Nat) (h : s.bist.sects = n :: rest) :
    (s.testComplete failed).get TEST.STATUS_BUSY = (if rest = [] ∧ s.bist.run = 0 then 0 else 1) ∧
      (s.testComplete failed).get TEST.SECT_RES_SECTION = n % 1024 ∧
      (s.testComplete failed).get TEST.SECT_RES_RESULT = (if failed = 0 then 0 else 1) ∧
      (s.testComplete failed).get TEST.SECT_RES_FAILED = failed % 2 ^ TEST.SECT_RES_FAILED.width := by
  have hstatus := (s.testReleased n rest).testReported_status failed n rest
  rw [Stack.testReleased_bist] at hstatus
  rw [Stack.testComplete_oldest failed h]
  iterate 4 rw [Stack.get_testLogged _ _ _ (by decide) (by decide)]
  exact hstatus

/-! ## TEST.CTL (R588, R596, R597) -/

/-- RUN outside Workshop is ignored (R596). -/
theorem Stack.testRun_ignored (h : s.mode ≠ .workshop) : s.testRun = s.put TEST.CTL_OP 1 := by
  unfold Stack.testRun
  exact if_pos h

section
variable (h : s.mode = .workshop)
include h

/-- RUN while the controller is busy sets OVERRUN (R597). -/
theorem Stack.testRun_busy (hb : s.flag TEST.STATUS_BUSY = true) : s.testRun = (s.put TEST.CTL_OP 1).put TEST.STATUS_OVERRUN 1 := by
  unfold Stack.testRun
  exact (if_neg (Decidable.not_not.2 h)).trans (if_pos hb)

/-- RUN in Workshop starts the run of three waves (R596). -/
theorem Stack.testRun_idle (hb : s.flag TEST.STATUS_BUSY = false) : s.testRun = (s.put TEST.CTL_OP 1).bistStart 2 := by
  unfold Stack.testRun
  exact (if_neg (Decidable.not_not.2 h)).trans (if_neg (by simp [hb]))

end

/-- The blocks of wave 1 that are left out (R588, R596). -/
def Stack.leftOut (s : Stack) : Nat := ((s.waveBlocks 1).filter fun id => !s.blockRuns id).length

/-- What TEST.STATUS shows of a run that starts (R597). -/
def Stack.runShown (s : Stack) : Stack := ((s.put TEST.STATUS_BUSY 1).put TEST.STATUS_WAVE 1).put TEST.STATUS_GROUPS 0

/-- The controller as a run starts (R588). -/
def Bist.started (b : Bist) (run : Nat) : Bist := { run := run, sects := b.sects }

/-- A run starts with wave 1, in which no section becomes Testing (R588). -/
theorem Stack.bistStart_eq (s : Stack) (run : Nat) : s.bistStart run = (s.setBist (s.bist.started run)).runShown.setBist
    { s.bist.started run with skipped := 0 + (s.setBist (s.bist.started run)).runShown.leftOut } := rfl

theorem Stack.bistStart_onlyChanges (s : Stack) (run : Nat) (h : .bist ∈ P) (hb : TEST.STATUS_BUSY ∈ F) (hw : TEST.STATUS_WAVE ∈ F)
    (hg : TEST.STATUS_GROUPS ∈ F) : s.OnlyChanges P F (s.bistStart run) := by
  rw [Stack.bistStart_eq]
  exact ((((s.setBist_onlyChanges _ h).put _ hb).put _ hw).put _ hg).trans (Stack.setBist_onlyChanges _ _ h)

/-- TEST.STATUS shows the controller busy in wave 1 with no group done (R597). -/
theorem Stack.bistStart_status (s : Stack) (run : Nat) :
    (s.bistStart run).get TEST.STATUS_BUSY = 1 ∧ (s.bistStart run).get TEST.STATUS_WAVE = 1 ∧
      (s.bistStart run).get TEST.STATUS_GROUPS = 0 := by
  simp only [Stack.bistStart_eq, Stack.get_setBist]
  simp [Stack.runShown, Stack.get_put_ne, TEST.STATUS_BUSY, TEST.STATUS_WAVE, TEST.STATUS_GROUPS]

theorem Stack.testAbort_onlyChanges (s : Stack) (h : .bist ∈ P) (ho : TEST.CTL_OP ∈ F) : s.OnlyChanges P F s.testAbort := by
  have hop : s.OnlyChanges P F (s.put TEST.CTL_OP 2) := s.put_onlyChanges _ ho
  unfold Stack.testAbort
  dsimp only
  split
  · exact hop.trans (Stack.setBist_onlyChanges _ _ h)
  · exact hop

/-- ABORT ends the run of TEST.CTL at its next group, and no other (R596). -/
theorem Stack.testAbort_bist (s : Stack) : s.testAbort.bist = if s.bist.run = 2 then { s.bist with stop := 1 } else s.bist := by
  unfold Stack.testAbort
  dsimp only
  split <;> rfl

/-! ## A group of patterns (R585, R588) -/

theorem nodup_eraseDups : ∀ l : List Nat, l.eraseDups.Nodup
  | [] => List.nodup_nil
  | a :: l => by
    have hnot : a ∉ (l.filter fun b => !b == a).eraseDups := by simp [List.mem_eraseDups]
    rw [List.eraseDups_cons]
    exact List.nodup_cons.2 ⟨hnot, nodup_eraseDups _⟩
termination_by l => l.length
decreasing_by exact Nat.lt_succ_of_le (List.length_filter_le _ l)

/-- The blocks of a list that are under test and that have not failed before, each once (R585). -/
def Stack.newFailures (s : Stack) (failed : List Nat) : List Nat :=
  (failed.filter fun id => s.runningBlocks.contains id && !s.bist.failed.contains id).eraseDups

theorem Stack.mem_newFailures {failed : List Nat} {b : Nat} :
    b ∈ s.newFailures failed ↔ b ∈ failed ∧ b ∈ s.runningBlocks ∧ b ∉ s.bist.failed := by
  simp [Stack.newFailures, List.mem_eraseDups]

theorem Stack.mem_failed_append {failed : List Nat} {b : Nat} :
    b ∈ s.bist.failed ++ s.newFailures failed ↔ b ∈ s.bist.failed ∨ (b ∈ failed ∧ b ∈ s.runningBlocks) := by
  rw [List.mem_append, Stack.mem_newFailures]
  by_cases hb : b ∈ s.bist.failed <;> simp [hb]

/-- A block counts once (R585). -/
theorem Stack.nodup_failed_append (failed : List Nat) (h : s.bist.failed.Nodup) : (s.bist.failed ++ s.newFailures failed).Nodup :=
  have hnew : ∀ a ∈ s.bist.failed, ∀ b ∈ s.newFailures failed, a ≠ b := by
    rintro a ha b hb rfl
    obtain ⟨-, -, hfresh⟩ := Stack.mem_newFailures.1 hb
    exact hfresh ha
  List.nodup_append.2 ⟨h, nodup_eraseDups _, hnew⟩

theorem Stack.groupLimit_le (s : Stack) : s.groupLimit ≤ 512 := by
  unfold Stack.groupLimit
  split <;> decide

/-- A group that ends with these blocks failing, the wave not done (R588). -/
def Stack.groupDone (s : Stack) (failed : List Nat) : Stack :=
  (s.setBist { s.bist with failed := s.bist.failed ++ s.newFailures failed }).bump TEST.STATUS_GROUPS

/-- It counts one group (R588). -/
theorem Stack.get_groupDone (failed : List Nat) (h : s.get TEST.STATUS_GROUPS + 1 < s.groupLimit) :
    (s.groupDone failed).get TEST.STATUS_GROUPS = s.get TEST.STATUS_GROUPS + 1 := by
  have hlimit := s.groupLimit_le
  have hle : s.get TEST.STATUS_GROUPS + 1 ≤ 2 ^ 16 - 1 := by omega
  exact (Stack.get_bump_sat _ _ _).trans (Nat.min_eq_left hle)

/-- A group that is not the last of its wave, in a run that nothing stops (R588). -/
theorem Stack.bistGroup_inner (failed : List Nat) (hr : s.bist.run ≠ 0) (hs : s.bist.stop = 0)
    (h : s.get TEST.STATUS_GROUPS + 1 < s.groupLimit) : s.bistGroup failed = s.groupDone failed := by
  have hlast : (s.groupDone failed).get TEST.STATUS_GROUPS < (s.groupDone failed).groupLimit := by
    rw [Stack.get_groupDone failed h]
    exact h
  exact (if_neg hr).trans ((if_neg (Decidable.not_not.2 hs)).trans (if_pos hlast))

theorem Stack.groupDone_onlyChanges (s : Stack) (failed : List Nat) (h : .bist ∈ P) (hg : TEST.STATUS_GROUPS ∈ F) :
    s.OnlyChanges P F (s.groupDone failed) :=
  (s.setBist_onlyChanges _ h).bump _ hg

end

end Sys2Proof.Machine
end

section
/-! The statement of section tests and BIST. -/

namespace Sys2Proof.Machine

/-- Settles O23: each clause is the equation of its operation under the conditions that it names, with the frames of its parts. -/
theorem sectionTestsAndBistComplete : Obligations.SectionTestsAndBistComplete := by
  refine ⟨fun s k i n hk _ ht ha hq hm hp => ?_, fun s k failed n rest hk h => ?_, fun s k op hk => exec_eq_of_setStack hk rfl rfl,
    fun s k hk => ⟨fun h => exec_eq_of_setStack hk rfl (Stack.testRun_ignored h),
      fun h hb => exec_eq_of_setStack hk rfl (Stack.testRun_busy h hb), fun h hb => ?_⟩, fun s k hk => ?_, fun s k failed hk hr hs h => ?_⟩
  · obtain ⟨htest, hcmd⟩ := ((s.stack k).cmdFields i n 6).testBegun_busy i n
    refine completes_of_onStack (f := Stack.cmdTest i n) hk rfl ?_ ?_ <;> rw [Stack.cmdTest_taken ht ha hq hm hp]
    · exact ((s.stack k).cmdFields_onlyChanges i n 6 (by simp) (by simp) (by simp)).trans
        (Stack.testBegun_onlyChanges _ i n (by simp) (by simp) (by simp) (by simp))
    · refine ⟨fun m hmem hasleep => ?_, fun m hmem hne => ?_, ?_, htest, hcmd, ?_⟩
      · rw [← (s.stack k).family_cmdFields i n 6 n] at hmem
        exact Stack.testBegun_state hmem hasleep
      · rw [← (s.stack k).family_cmdFields i n 6 n] at hmem
        rw [Stack.testBegun_outside hmem hne, Stack.sect_cmdFields]
      · rw [Stack.testBegun_bist, Stack.cmdFields_bist]
      · rw [Stack.testBegun_result, Stack.cmdFields, Stack.get_put_same, Nat.zero_mod]
  · obtain ⟨hbusy, hsection, hresult, hfailed⟩ := Stack.testComplete_status failed h
    exact completes_of_onStack (f := Stack.testComplete failed) hk rfl (Stack.testComplete_onlyChanges failed h)
      ⟨Stack.testComplete_state failed h, hbusy, hsection, hresult, hfailed, Stack.testComplete_bist failed h⟩
  · refine completes_of_onStack (f := Stack.testRun) hk rfl ?_ ?_ <;> rw [Stack.testRun_idle h hb]
    · exact (Stack.put_onlyChanges _ _ (by simp)).trans (Stack.bistStart_onlyChanges _ 2 (by simp) (by simp) (by simp) (by simp))
    · exact ⟨rfl, rfl, rfl, Stack.bistStart_status _ 2⟩
  · exact completes_of_onStack (f := Stack.testAbort) hk rfl ((s.stack k).testAbort_onlyChanges (by simp) (by simp)) (s.stack k).testAbort_bist
  · refine completes_of_onStack (f := Stack.bistGroup failed) hk rfl ?_ ?_ <;> rw [Stack.bistGroup_inner failed hr hs h]
    · exact (s.stack k).groupDone_onlyChanges failed (by simp) (by simp)
    · exact ⟨Stack.get_groupDone failed h, fun b => Stack.mem_failed_append, Stack.nodup_failed_append failed, rfl, rfl⟩

end Sys2Proof.Machine
end

section
/-! SUPPORT. Uploads, the checkers and repairs: what each command of LOAD.UP_CTL, each programming and each end of an upload, each folio
read, each rewrite and each repair does, case by case (R215, R226 to R231). -/

namespace Sys2Proof.Machine

section
variable {s : Stack} {image : Nat}

/-! ## LOAD.UP_CTL while BUSY: the fields alone (R231) -/

section
variable (h : s.flag LOAD.UP_STATUS_BUSY = true)
include h

theorem Stack.uploadOpen_busy : s.uploadOpen image = s.upFields image 1 := if_pos h

theorem Stack.uploadCommit_busy : s.uploadCommit image = s.upFields image 2 := if_pos h

theorem Stack.uploadAbandon_busy : s.uploadAbandon image = s.upFields image 3 := if_pos h

theorem Stack.uploadDelete_busy : s.uploadDelete image = s.upFields image 4 := if_pos h

end

/-! ## Open (R226, R227) -/

/-- No open is possible: the image number is none of the directory, its entry is not FREE, or an upload is open. -/
def Stack.OpenExists (s : Stack) (image : Nat) : Prop :=
  1023 < image ∨ (s.dirEntry image).state ≠ 0 ∨ s.flag LOAD.UP_STATUS_OPEN = true

/-- The run of blocks that an open takes for UP_LEN (R227, log 29). -/
def Stack.openRun (s : Stack) (image : Nat) : Option Nat := s.freeRun image (Nat.max 1 (dirBlocks (s.get LOAD.UP_LEN_LEN)))

/-- The loader as an upload of `image` of `len` bytes begins at block `b`: nothing received, and its blocks readable again (log 101). -/
def Loader.uploadBegun (l : Loader) (image b len : Nat) : Loader :=
  { l with
    upImage := image, upCount := 0, upBuffer := [], upProgrammed := 0, upOverflow := false
    unreadable := l.unreadable.filter fun x => !(b ≤ x && x < b + dirBlocks len) }

/-- The upload opened in the blocks from `b`: its entry WRITING, its counts cleared, OPEN set (R226). -/
def Stack.openedAt (s : Stack) (image b : Nat) : Stack :=
  let len := s.get LOAD.UP_LEN_LEN
  let u := (s.upFields image 1).setDir image { state := 1, first := b, len := len }
  ({ u with loader := u.loader.uploadBegun image b len } : Stack).writes [(LOAD.UP_STATUS_OPEN, 1), (LOAD.UP_STATUS_RESULT, 0)]

/-- A section's descriptor names the image (R227). -/
def Stack.ImageInUse (s : Stack) (image : Nat) : Prop := ∃ n ∈ s.sectionNumbers, (s.sect n).image = image

theorem Stack.imageInUse_iff : (s.sectionNumbers.any fun n => (s.sect n).image == image) = true ↔ s.ImageInUse image := by
  simp [Stack.ImageInUse]

section
variable (hb : s.flag LOAD.UP_STATUS_BUSY = false)
include hb

theorem Stack.uploadOpen_exists (h : s.OpenExists image) :
    s.uploadOpen image = (s.upFields image 1).put LOAD.UP_STATUS_RESULT 1 :=
  (if_neg (by simp [hb])).trans (if_pos h)

section
variable (h : ¬ s.OpenExists image)
include h

theorem Stack.uploadOpen_outsideWindow (ht : s.tempWindow = false) :
    s.uploadOpen image = (s.upFields image 1).put LOAD.UP_STATUS_RESULT 3 :=
  (if_neg (by simp [hb])).trans ((if_neg h).trans (if_pos (by simp [ht])))

theorem Stack.uploadOpen_noSpace (ht : s.tempWindow = true) (hr : s.openRun image = none) :
    s.uploadOpen image = (s.upFields image 1).put LOAD.UP_STATUS_RESULT 2 := by
  refine (if_neg (by simp [hb])).trans ((if_neg h).trans ((if_neg (by simp [ht])).trans ?_))
  rw [show s.freeRun image _ = none from hr]

theorem Stack.uploadOpen_takes {b : Nat} (ht : s.tempWindow = true) (hr : s.openRun image = some b) :
    s.uploadOpen image = s.openedAt image b := by
  refine (if_neg (by simp [hb])).trans ((if_neg h).trans ((if_neg (by simp [ht])).trans ?_))
  rw [show s.freeRun image _ = some b from hr]
  rfl

end

/-! ## Commit, abandon and delete (R226, R227) -/

theorem Stack.uploadCommit_idle : s.uploadCommit image =
    if s.flag LOAD.UP_STATUS_OPEN then
      ({ s.upFields image 2 with loader := { s.loader with upBusyOp := 2 } } : Stack).put LOAD.UP_STATUS_BUSY 1
    else (s.upFields image 2).put LOAD.UP_STATUS_RESULT 8 := by
  refine (if_neg (by simp [hb])).trans ?_
  cases s.flag LOAD.UP_STATUS_OPEN <;> rfl

theorem Stack.uploadAbandon_idle : s.uploadAbandon image =
    if s.flag LOAD.UP_STATUS_OPEN then (s.upFields image 3).uploadEnd {} 0 else (s.upFields image 3).put LOAD.UP_STATUS_RESULT 8 :=
  if_neg (by simp [hb])

theorem Stack.uploadDelete_inUse (h : s.ImageInUse image) :
    s.uploadDelete image = (s.upFields image 4).put LOAD.UP_STATUS_RESULT 9 :=
  (if_neg (by simp [hb])).trans (if_pos (Stack.imageInUse_iff.2 h))

theorem Stack.uploadDelete_outsideWindow (h : ¬ s.ImageInUse image) (ht : s.tempWindow = false) :
    s.uploadDelete image = (s.upFields image 4).put LOAD.UP_STATUS_RESULT 3 :=
  (if_neg (by simp [hb])).trans ((if_neg (mt Stack.imageInUse_iff.1 h)).trans (if_pos (by simp [ht])))

theorem Stack.uploadDelete_begins (h : ¬ s.ImageInUse image) (ht : s.tempWindow = true) : s.uploadDelete image =
    let u := if s.flag LOAD.UP_STATUS_OPEN && s.loader.upImage == image then (s.upFields image 4).uploadEnd {} 0 else s.upFields image 4
    ({ u with loader := { u.loader with upBusyOp := 4, delImage := image } } : Stack).put LOAD.UP_STATUS_BUSY 1 :=
  (if_neg (by simp [hb])).trans ((if_neg (mt Stack.imageInUse_iff.1 h)).trans (if_neg (by simp [ht])))

end

/-! ## Data received and programmed, and the end of a commit or delete (R226, R227, R524) -/

section
variable (ho : s.flag LOAD.UP_STATUS_OPEN = true)
include ho

theorem Stack.upData_open (v : Nat) : s.upData v =
    if s.get LOAD.UP_STATUS_SPACE = 0 then
      ({ s with loader := { s.loader with upOverflow := true } } : Stack).raise LOAD.UP_STATUS_OVERFLOW
    else
      ({ s with loader := { s.loader with upBuffer := s.loader.upBuffer ++ [v], upCount := s.loader.upCount + 1 } } : Stack).put
        LOAD.UP_STATUS_SPACE (s.get LOAD.UP_STATUS_SPACE - 1) :=
  if_neg (by simp [ho])

theorem Stack.colophonProgram_open : s.colophonProgram = if s.tempWindow then s.program else s.uploadEnd {} 3 := by
  refine (if_neg (by simp [ho])).trans ?_
  cases s.tempWindow <;> rfl

end

/-- An upload that ends is open no more. -/
theorem Stack.uploadEnd_closed (s : Stack) (e : DirEntry) (r : Nat) : (s.uploadEnd e r).flag LOAD.UP_STATUS_OPEN = false := by
  have hclosed : (s.uploadEnd e r).get LOAD.UP_STATUS_OPEN = 0 := by
    unfold Stack.uploadEnd
    iterate 3 rw [Stack.get_put_ne _ _ (by decide)]
    exact Stack.get_put_same _ _ _
  simp [Stack.flag, hclosed]

theorem Stack.uploadDone_delete (h : s.loader.upBusyOp = 4) : s.uploadDone =
    (({ s with loader := { s.loader with upBusyOp := 0 } } : Stack).setDir s.loader.delImage {}).writes
      [(LOAD.UP_STATUS_BUSY, 0), (LOAD.UP_STATUS_RESULT, 0)] := if_pos h

section
variable (h : s.loader.upBusyOp = 2) (ho : s.flag LOAD.UP_STATUS_OPEN = true)
include h ho

/-- A commit that completes outside the window abandons the upload, and checks nothing more (R524). -/
theorem Stack.uploadDone_outsideWindow (ht : s.tempWindow = false) : s.uploadDone = s.uploadEnd {} 3 := by
  have hp : s.colophonProgram = s.uploadEnd {} 3 := (Stack.colophonProgram_open ho).trans (if_neg (by simp [ht]))
  unfold Stack.uploadDone
  rw [if_neg (by omega), if_pos h, hp]
  exact if_pos (by simp [Stack.uploadEnd_closed])

/-- Within the window it programs what is left, and the checks decide between a VALID entry and a FREE one (R226). -/
theorem Stack.uploadDone_commits (ht : s.tempWindow = true) (hp : s.program.flag LOAD.UP_STATUS_OPEN = true) : s.uploadDone =
    let u := s.program
    if u.commitResult = 0 then u.uploadEnd ⟨2, (u.dirEntry u.loader.upImage).first, u.get LOAD.UP_LEN_LEN, u.get LOAD.UP_DIGEST_DIGEST⟩ 0
    else u.uploadEnd {} u.commitResult := by
  have hprog : s.colophonProgram = s.program := (Stack.colophonProgram_open ho).trans (if_pos ht)
  unfold Stack.uploadDone
  rw [if_neg (by omega), if_pos h, hprog]
  exact if_neg (by simp [hp])

end

/-! ## Folios checked and rewritten, and repairs (R228 to R230) -/

/-- The checker reads a folio that no rewrite waits for: it counts in the lap and is compared (R228). -/
theorem Stack.backgroundCheck_reads {layer tile g p : Nat} (he : s.flag LOAD.CHK_CTL_ENABLE = true)
    (hc : s.checked ⟨layer, tile⟩ p = true) (hr : s.loader.rewrites.contains (folioKey ⟨layer, tile⟩ g p) = false) :
    s.backgroundCheck layer tile g p = (s.lapCount (layer / 2 - 1)).checkFolio false ⟨layer, tile⟩ g p :=
  if_pos (by rw [he, hc, hr]; rfl)

/-- A folio of a tile without an owner is not compared (R228). -/
theorem Stack.checkFolio_unowned {asked : Bool} {t : Tile} (g p : Nat) (h : s.ownerOf t = none) : s.checkFolio asked t g p = s := by
  unfold Stack.checkFolio
  rw [h]

/-- A folio of a section's tile is handled where it does not match (R228, R229). -/
theorem Stack.checkFolio_owned {asked : Bool} {t : Tile} {n : Nat} (g p : Nat) (h : s.ownerOf t = some n) :
    s.checkFolio asked t g p = if s.folioWrong t g p then s.mismatch asked (s.rootOf n) t g p else s := by
  unfold Stack.checkFolio
  rw [h]

/-- A plane of a nest after a rewrite: without mismatches any more, it is Staged again where it was Blocked (R229). -/
def Stack.planeCleared (s : Stack) (r p : Nat) : Stack :=
  if s.fabric.allOk (s.pagedTiles r) p then
    s.setPlane r p { s.plane r p with
      status := if (s.plane r p).status = .blocked then .staged else (s.plane r p).status, bad := false }
  else s

theorem Stack.rewriteDone_oldest {key : Nat} {rest : List Nat} (h : s.loader.rewrites = key :: rest) : s.rewriteDone =
    let t := (ofFolioKey key).1
    let p := (ofFolioKey key).2.2
    let u : Stack := { s with loader := { s.loader with rewrites := rest } }
    let r := u.tileRoot t
    ((u.rewriteFolio r t (ofFolioKey key).2.1 p).planeCleared r p).recoveryComplete (.sect r) := by
  unfold Stack.rewriteDone
  rw [h]
  rfl

/-- A Free plane found for the first repair is noted with it, and with no other nest's (R230). -/
theorem Stack.repairTurn_first {r p : Nat} {rest : List (Nat × Nat)} (h : s.loader.repairs = (r, 4) :: rest)
    (hf : s.freePlane r = some p) (hl : s.commandOnLinks r = false) (hrest : ∀ q ∈ rest, q.1 ≠ r) : s.repairTurn =
    (({ s with loader := { s.loader with repairs := (r, p) :: rest } } : Stack).stageClean r p).makeDevTurn (.repair r p) := by
  have hfind : (s.loader.repairs.find? fun q => q.2 == 4 && (s.freePlane q.1).isSome && (s.pooled || !s.commandOnLinks q.1)) =
      some (r, 4) := by
    rw [h]
    exact List.find?_cons_of_pos (by simp [hf, hl])
  have hkeep : (rest.map fun x => if x == (r, 4) then (r, p) else x) = rest := by
    refine (List.map_congr_left fun x hx => ?_).trans (List.map_id rest)
    exact if_neg fun he => hrest x hx (by rw [beq_iff_eq.1 he])
  have hmap : (s.loader.repairs.map fun x => if x == (r, 4) then (r, p) else x) = (r, p) :: rest := by
    rw [h, List.map_cons, hkeep, if_pos (beq_self_eq_true _)]
  unfold Stack.repairTurn
  rw [hfind]
  simp only [hf, Option.getD_some, hmap]

end

/-- Two effects that agree on the stack itself give the same package, Haven and the pair's part in a recovery included (R45, R581). -/
theorem exec_eq_of_onStackFault {c : Instr} {s : State} {k : Side} {f g : Stack → Stack} (he : exec c s = .next (s.onStackFault k f))
    (h : f (s.stack k) = g (s.stack k)) : exec c s = .next (s.onStackFault k g) := by
  rw [he]
  unfold State.onStackFault State.onStack
  rw [h]

end Sys2Proof.Machine
end

section
/-! The statement of uploads, checks and repairs. -/

namespace Sys2Proof.Machine

/-- Settles O48: each clause is the equation of its command or end under the conditions that it names. -/
theorem uploadsAndChecksComplete : Obligations.UploadsAndChecksComplete := by
  refine ⟨fun s k image op hk => ⟨rfl, fun hb p hp => ?_, fun hb => ⟨?_, exec_eq_of_onStack rfl (Stack.uploadCommit_idle hb),
      exec_eq_of_onStack rfl (Stack.uploadAbandon_idle hb), ?_⟩⟩,
    fun s k hk ho => ⟨fun v => exec_eq_of_onStack rfl (Stack.upData_open ho v), exec_eq_of_onStack rfl (Stack.colophonProgram_open ho)⟩,
    fun s k hk => ⟨fun h => exec_eq_of_onStack rfl (Stack.uploadDone_delete h),
      fun h ho ht => exec_eq_of_onStack rfl (Stack.uploadDone_outsideWindow h ho ht),
      fun h ho ht hp => exec_eq_of_onStack rfl (Stack.uploadDone_commits h ho ht hp)⟩,
    fun s k layer tile g p hk he hc hr => ?_, fun s k key rest hk h => exec_eq_of_onStack rfl (Stack.rewriteDone_oldest h),
    fun s k r p rest hk h hf hl hrest => exec_eq_of_onStack rfl (Stack.repairTurn_first h hf hl hrest)⟩
  · simp only [List.mem_cons, List.not_mem_nil, or_false] at hp
    rcases hp with rfl | rfl | rfl | rfl
    · exact exec_eq_of_onStack rfl (Stack.uploadOpen_busy hb)
    · exact exec_eq_of_onStack rfl (Stack.uploadCommit_busy hb)
    · exact exec_eq_of_onStack rfl (Stack.uploadAbandon_busy hb)
    · exact exec_eq_of_onStack rfl (Stack.uploadDelete_busy hb)
  · refine exec_eq_of_onStack (f := Stack.uploadOpen image) rfl ?_
    dsimp only
    split
    · exact Stack.uploadOpen_exists hb ‹_›
    split
    · exact Stack.uploadOpen_outsideWindow hb ‹_› ‹_›
    next hx ht =>
      split
      · exact Stack.uploadOpen_noSpace hb hx (eq_true_of_ne_false ht) ‹_›
      · exact Stack.uploadOpen_takes hb hx (eq_true_of_ne_false ht) ‹_›
  · refine exec_eq_of_onStack (f := Stack.uploadDelete image) rfl ?_
    dsimp only
    split
    · exact Stack.uploadDelete_inUse hb ‹_›
    split
    · exact Stack.uploadDelete_outsideWindow hb ‹_› ‹_›
    · exact Stack.uploadDelete_begins hb ‹_› (eq_true_of_ne_false ‹_›)
  · refine exec_eq_of_onStackFault (f := Stack.backgroundCheck layer tile g p) rfl ((Stack.backgroundCheck_reads he hc hr).trans ?_)
    dsimp only
    split
    · exact Stack.checkFolio_owned g p ‹_›
    · exact Stack.checkFolio_unowned g p ‹_›

end Sys2Proof.Machine
end

section
/-! SUPPORT. Turns: what an arm, a cancel, the check, the last examination, the application and the end of a turn do on one stack, where no
other stack turns with it (R235 to R252). -/

namespace Sys2Proof.Machine

section
variable {s : State} {k : Side}

/-! ## The commands that may reach the package, on a stack that the build has -/

section
variable (hk : s.hasSide k = true)
include hk

theorem exec_arm : exec (.arm k) s = .next (s.arm k) := nextSide_present (State.arm k) hk

theorem exec_cancel : exec (.cancel k) s = .next (s.onTurn k Stack.cancel) := nextSide_present (State.onTurn · k Stack.cancel) hk

theorem exec_deviceTurnArm : exec (.deviceTurnArm k) s = .next (s.onTurn k Stack.armWaiting) :=
  nextSide_present (State.onTurn · k Stack.armWaiting) hk

theorem exec_turnCheckComplete : exec (.turnCheckComplete k) s = .next (s.checkComplete k) := nextSide_present (State.checkComplete k) hk

theorem exec_lastExamination : exec (.lastExamination k) s = .next (s.lastExamination k) := nextSide_present (State.lastExamination k) hk

theorem exec_turnApply : exec (.turnApply k) s = .next (s.turnApply k) := nextSide_present (State.turnApply k) hk

end

/-- Two effects that agree on the stack itself give the same package. -/
theorem State.onStack_congr {f g : Stack → Stack} (h : f (s.stack k) = g (s.stack k)) : s.onStack k f = s.onStack k g := by
  unfold State.onStack
  rw [h]

/-! ## Arming (R235 to R237) -/

/-- The turn set fixed, the number taken and the items counted: a firmware turn as an accepted arm leaves it (R237, R238, R241). -/
theorem Stack.armFirmware_writes (t : Stack) : t.armFirmware =
    let n := t.get TURN.SEQ_NEXT
    let u : Stack := { t with turn := { t.turn with num := n, dev := none, raster := none, rasterRan := false, examined := false } }
    let v := u.writes [(TURN.SEQ_NEXT, n + 1), (TURN.STATUS_PENDING, 1), (TURN.STATUS_STAGE, 1), (TURN.STATUS_DEVICE, 0)]
    v.writes [(TURN.ITEMS_COUNT, v.stagedItems.length)] := rfl

theorem State.arm_whileArmed (h : (s.stack k).turnArmed = true) : s.arm k = s.onStack k (·.raise TURN.STATUS_ARM_REFUSED) :=
  (if_pos h).trans (State.onStack_congr rfl)

section
variable (h : (s.stack k).turnArmed = false)
include h

theorem State.arm_refused (hr : s.armReason k ≠ 0) : s.arm k = s.onStack k (·.armRefuse (s.armReason k)) :=
  (if_neg (by simp [h])).trans ((if_pos hr).trans (State.onStack_congr rfl))

theorem State.arm_accepted (hr : s.armReason k = 0) (hm : s.mirror = false) : s.arm k = s.onStack k Stack.armFirmware :=
  (if_neg (by simp [h])).trans ((if_neg (by simp [hr])).trans ((if_neg (by simp [hm])).trans (State.onStack_congr rfl)))

end

/-- With no turn armed the first that waits is armed (R249). -/
theorem Stack.armWaiting_first {t : Stack} {d : DevTurn} {q : List DevTurn} (h : t.turnArmed = false) (hw : t.turn.waiting = d :: q) :
    t.armWaiting = ({ t with turn := { t.turn with waiting := q } } : Stack).turnStart (some d) := by
  refine (if_pos (by simp [h])).trans ?_
  rw [hw]

/-! ## Cancel (R248) -/

/-- A firmware turn that can still be cancelled: it checks, or it is Pending more than 10 µs before its instant (R248). -/
abbrev Stack.cancellable (t : Stack) : Prop := t.stage = 1 ∨ (t.stage = 2 ∧ t.time + 10000 < t.turn.instant)

theorem Stack.cancel_inTime {t : Stack} (h : t.firmwareArmed = true) (hc : t.cancellable) : t.cancel = t.turnFail 0x0D 0 :=
  if_pos (by simpa [h] using hc)

/-! ## The check (R239 to R242, R249) -/

/-- An immediate firmware turn fails with its first failure, or takes the instant 10 µs ahead (R240, R242). -/
theorem Stack.checkDone_immediate {t : Stack} (l : List Failure) (hd : t.turn.dev = none) (hw : t.get TURN.POINT_WHEN = 0) : t.checkDone l =
    match firstFailure l with
    | some f => t.turnFail f.2 (Item.code f.1)
    | none => (({ t with turn := { t.turn with raster := none } } : Stack).fixInstant (t.time + 10000)).pendingTurn := by
  have hi : t.firmwareInstant = .inl (t.time + 10000) := if_pos hw
  unfold Stack.checkDone
  rw [hd, hi]
  cases firstFailure l with
  | none => simp [hw]
  | some f => simp [Stack.failTurn, hd]

/-- A device turn fails with its first failure, or takes the instant of its kind (R249, R250). -/
theorem Stack.checkDone_device {t : Stack} {d : DevTurn} (l : List Failure) (hd : t.turn.dev = some d) : t.checkDone l =
    match firstFailure l with
    | some f => t.failTurn f.2 (Item.code f.1)
    | none => (t.fixDevice d).pendingTurn := by
  unfold Stack.checkDone
  cases firstFailure l <;> rw [hd]

/-! ## A turn that is not mirrored concerns its own stack (R579) -/

/-- The items of a turn are counted in a register. -/
@[simp] theorem Stack.countItems_turn (t : Stack) : t.countItems.turn = t.turn := by
  unfold Stack.countItems
  split <;> rfl

/-- The last examination passed: the items counted, the stage Applying, the turn examined (R238, R244). -/
theorem Stack.applyingTurn_writes (t : Stack) : t.applyingTurn =
    { t.countItems.writes [(TURN.STATUS_STAGE, 3)] with turn := { t.turn with examined := true } } := by
  rw [← t.countItems_turn]
  rfl

section
variable (h : (s.stack k).turn.mirrored = false)
include h

theorem State.onTurn_alone (f : Stack → Stack) : s.onTurn k f = s.onStack k f := if_neg (by simp [h])

theorem State.checkComplete_alone (hs : (s.stack k).stage = 1) :
    s.checkComplete k = s.onStack k fun _ => (s.examine k).1.checkDone (s.examine k).2 :=
  (if_neg fun hne => hne hs).trans (if_neg (by simp [h]))

theorem State.lastExamination_alone (hs : (s.stack k).stage = 2) : s.lastExamination k =
    let u := s.onStack k fun t => t.reach (t.turn.instant - 20)
    match firstFailure (u.lastFailures k) with
    | some f => u.onStack k fun t => t.failTurn f.2 (Item.code f.1)
    | none => u.onStack k Stack.applyingTurn :=
  (if_neg fun hne => hne hs).trans (if_neg (by simp [h]))

end

/-! ## Application and its end (R238, R245, R252) -/

/-- At its instant an examined turn applies, and outside Mirror the pair has neither synchrony nor an exchange (R245, R558, R580). -/
theorem State.turnApply_examined (hs : (s.stack k).stage = 3) (he : (s.stack k).turn.examined = true)
    (hd : (s.stack k).turn.dev ≠ some .switchOver) : s.turnApply k =
    let u := s.onStackFault k fun t => (t.reach t.turn.instant).applyTurn
    let x := if u.mirror then u else u.loseSync.closeWindow.setHeld none
    (x.syncConflicts .recto).syncConflicts .verso := by
  have hsw : ((s.stack k).turn.dev == some .switchOver) = false := by simpa using hd
  unfold State.turnApply
  dsimp only
  rw [if_neg (by simp [hs, he]), hsw, if_neg Bool.false_ne_true]
  generalize s.onStackFault k (fun t => (t.reach t.turn.instant).applyTurn) = u
  cases u.mirror with
  | false => rw [if_pos Bool.not_false, if_neg Bool.false_ne_true]
  | true => rw [if_neg (by decide), if_pos rfl]

/-- A turn in application for which no epoch boundary is awaited has applied (R238, R252). -/
theorem Stack.turnApplied_last {t : Stack} (hs : t.stage = 3) (he : t.turn.examined = false) (ht : t.turn.ttPending = false)
    (hc : t.turn.chmapPending = false) : t.turnApplied =
    let u := (((t.turnResult 0 0).writes [(TURN.SEQ_LIVE, t.turn.num)]).bumpWrap TURN.COUNT_APPLIED).writes [(TURN.INT_APPLIED, 1)]
    let v := u.turnIdle
    { v with turn := { v.turn with thisSecond := v.turn.thisSecond + 1 }, therm := { v.therm with turns := v.therm.turns + 1 } } := by
  unfold Stack.turnApplied Stack.raise
  simp only [Stack.writes_cons, Stack.writes_nil]
  exact if_neg (by simp [hs, he, ht, hc])

/-- The turns of a second are its last count, and more than 120 set RATE (R252). -/
theorem Stack.turnSecond_writes (t : Stack) : t.turnSecond =
    let n := t.turn.thisSecond
    let u := t.writes (if 120 < n then [(TURN.RATE_LAST_S, min n 255), (TURN.STATUS_RATE, 1)] else [(TURN.RATE_LAST_S, min n 255)])
    { u with turn := { u.turn with thisSecond := 0 } } := by
  unfold Stack.turnSecond
  dsimp only
  split <;> rfl

end

end Sys2Proof.Machine
end

section
/-! The statement of turns. -/

namespace Sys2Proof.Machine

/-- Settles O49: each clause is the equation of its command or stage under the conditions that it names. -/
theorem turnCommandsComplete : Obligations.TurnCommandsComplete := by
  refine ⟨fun s k hk => ?_, fun s k hk hm => ⟨fun h hc => ?_, fun hs hd hw => ?_, fun hs d hd => ?_, fun hs => ?_, fun hs he hd => ?_,
      fun h d q hw => ?_⟩,
    fun s k hk => ⟨fun hs he ht hc => ?_, ?_⟩⟩
  · rw [exec_arm hk]
    exact ⟨fun h => congrArg _ (State.arm_whileArmed h), fun h hr => congrArg _ (State.arm_refused h hr),
      fun h hr hm => congrArg _ ((State.arm_accepted h hr hm).trans (State.onStack_congr (Stack.armFirmware_writes _)))⟩
  · rw [exec_cancel hk, State.onTurn_alone hm]
    exact congrArg _ (State.onStack_congr (Stack.cancel_inTime h hc))
  · rw [exec_turnCheckComplete hk, State.checkComplete_alone hm hs]
    exact congrArg _ (State.onStack_congr (Stack.checkDone_immediate _ hd hw))
  · rw [exec_turnCheckComplete hk, State.checkComplete_alone hm hs]
    exact congrArg _ (State.onStack_congr (Stack.checkDone_device _ hd))
  · have hlast := State.lastExamination_alone hm hs
    rw [funext Stack.applyingTurn_writes] at hlast
    exact (exec_lastExamination hk).trans (congrArg _ hlast)
  · exact (exec_turnApply hk).trans (congrArg _ (State.turnApply_examined hs he hd))
  · rw [exec_deviceTurnArm hk, State.onTurn_alone hm]
    exact congrArg _ (State.onStack_congr (Stack.armWaiting_first h hw))
  · exact exec_eq_of_onStack (f := Stack.turnApplied) rfl (Stack.turnApplied_last hs he ht hc)
  · exact exec_eq_of_onStack (f := Stack.turnSecond) rfl (Stack.turnSecond_writes _)

end Sys2Proof.Machine
end

section
/-! SUPPORT. Filter-engine instructions that read and write the registers of their own bank alone: what a program sees when one has run through
(R262, R296, R298). -/

namespace Sys2Proof.Machine

variable {i n : Nat}

/-! ## From the pipeline to the package -/

theorem Stack.re_onlyChanges (s : Stack) (E : Sparse Engine) (c : Nat) {P : List Part} {F : List Field} :
    s.OnlyChanges (.engines :: .freeCount :: P) F (s.re E c) := by
  refine ⟨rfl, rfl, fun p hp => ?_, fun _ _ => rfl⟩
  cases p
  case engines => exact absurd List.mem_cons_self hp
  case freeCount => exact absurd (List.mem_cons_of_mem _ List.mem_cons_self) hp
  all_goals rfl

/-- Of two stacks alike to a program nothing differs but the engines and the count of free values. -/
theorem Twin.onlyChanges {s t : Stack} (h : Twin i n s t) {P : List Part} {F : List Field} :
    s.OnlyChanges (.engines :: .freeCount :: P) F t := by
  rw [h.rest]
  exact s.re_onlyChanges _ _

/-- An instruction and three NOPs run through on the package once they do on its stack: `z` is what a program then sees, its engine as `eff` makes it. -/
theorem feRuns_of_twin {c : Instr} {s : State} {k : Side} {op : FeOp} {P : List Part} {F : List Field} {eff : Engine → Engine} {post : Stack → Prop}
    {z : Stack} (hk : s.hasSide k = true) (hc : exec c s = .next (s.onStack k (Stack.feIssue i n op)))
    (ht : Twin i n z (((((s.stack k).feIssue i n op).feIssue i n .nop).feIssue i n .nop).feIssue i n .nop))
    (hz : (s.stack k).OnlyChanges (.engines :: .freeCount :: P) F z)
    (hothers : ∀ j m, 192 * j + m ≠ 192 * i + n → z.engine j m = (s.stack k).engine j m)
    (heff : (z.engine i n).visible = (eff ((s.stack k).engine i n)).visible) (hpost : ∀ t, Twin i n z t → post t) :
    FeRuns c s k i n P F eff post := by
  refine ⟨_, _, _, _, hc, rfl, rfl, rfl, ?_⟩
  rw [State.onStack_onStack, State.onStack_onStack, State.onStack_onStack, State.onStack_stack _ _ hk]
  exact ⟨s.onStack_onlyChanges (hz.trans ht.onlyChanges),
    fun j m hj => (ht.others j m hj).trans (hothers j m hj), ht.seen.trans heff, hpost _ ht⟩

/-! ## Instructions of the registers alone -/

/-- Instructions that meet no memory, no port, no address register and no special register: stage O reads registers of their bank, and all
their effect is what stage W writes there. -/
inductive FeOp.InBank : FeOp → Prop
  | nop : InBank .nop
  | clra (mask : Nat) : InBank (.clra mask)
  | movag (d acc sh : Nat) (rnd : Bool) : InBank (.movag d acc sh rnd)
  | movga (acc s1 : Nat) : InBank (.movga acc s1)
  | shfa (mask sh : Nat) : InBank (.shfa mask sh)
  | suma (acc : Nat) : InBank (.suma acc)
  | alu (f : AluOp) (d s1 s2 : Nat) : InBank (.alu f d s1 s2)
  | addi (d s1 imm : Nat) : InBank (.addi d s1 imm)
  | ldi (d imm : Nat) : InBank (.ldi d imm)
  | lui (d imm : Nat) : InBank (.lui d imm)

namespace FeOp.InBank

variable {op : FeOp} (h : op.InBank)
include h

theorem plain : op.plain = true := by cases h <;> rfl

theorem readsLevels : op.readsLevels = false := by cases h <;> rfl

theorem inPort : op.inPort = Option.none := by cases h <;> rfl

theorem outPort : op.outPort = Option.none := by cases h <;> rfl

/-- Stage D leaves the address registers (R299). -/
theorem decodeStage (b : FeBank) (free : Nat) : b.decodeStage free op = b := by cases h <;> rfl

end FeOp.InBank

section
variable {s : Stack} {sh : Bool} {x : FeSlot} (h : x.op.InBank)
include h

/-- It reads no memory. -/
theorem FeSlot.reads_inBank : x.reads = [] := by
  obtain ⟨op⟩ := x
  cases h <;> rfl

/-- It waits on no input FIFO. -/
theorem Engine.inBlocked_inBank (e : Engine) : e.inBlocked (some x) = false := by
  obtain ⟨op⟩ := x
  cases h <;> rfl

/-- It takes nothing in stage O. -/
theorem Stack.feTake_inBank : s.feTake i n sh x = s := by
  obtain ⟨op⟩ := x
  cases h <;> rfl

theorem Stack.op_feOperands_inBank : (s.feOperands i n sh x).op = x.op := by
  obtain ⟨op⟩ := x
  cases h <;> rfl

/-- It writes its bank alone. -/
theorem Stack.feWrite_inBank : s.feWrite i n sh x = s.modFeBank i n sh fun b => b.writeBack x := by
  obtain ⟨op⟩ := x
  cases h <;> rfl

end

/-- It waits on no output FIFO. -/
theorem Engine.outBlocked_inBank (e : Engine) {x : FeSlot} (h : x.op.InBank) : e.outBlocked (some x) = false := by
  unfold Engine.outBlocked
  rw [Option.bind_some, h.outPort]

/-- The slot of an instruction when stage O has read its operands from an engine with nothing ahead of it. -/
def Stack.operandsRead (s : Stack) (i n : Nat) (op : FeOp) : FeSlot :=
  let sh := (s.engine i n).shadow
  s.feOperands i n sh (((s.engine i n).bank sh).slotOf op)

/-- With three NOPs after it, what a program sees is as its stage W makes the live bank (R262). -/
theorem Stack.fe_runs_inBank {s : Stack} {op : FeOp} (hr : s.feReady i n) (h : op.InBank) (hl : op.legal = true) :
    Twin i n (s.modFeBank i n (s.engine i n).shadow fun b => b.writeBack (s.operandsRead i n op))
      ((((s.feIssue i n op).feIssue i n .nop).feIssue i n .nop).feIssue i n .nop) := by
  generalize hsh : (s.engine i n).shadow = sh
  let x := ((s.engine i n).bank sh).slotOf op
  have hop : x.op.InBank := by rw [FeBank.slotOf_op]; exact h
  let u := s.modFeBank i n sh fun b => b.decodeStage s.freeNat op
  have hu : Twin i n s u := (Twin.refl s).hide sh fun b => by rw [h.decodeStage]
  have hread : s.operandsRead i n op = u.feOperands i n sh x := by
    unfold Stack.operandsRead
    rw [hsh]
    exact (hu.operands sh x (.inl hop.readsLevels)).symm
  have hout : (u.feOperands i n sh x).op.InBank := by rw [Stack.op_feOperands_inBank hop]; exact hop
  have hruns := Stack.fe_runs hr h.plain hl hsh (x := x) rfl (u := u) rfl (Stack.feTake_inBank hop).symm (.inl h.readsLevels)
    (by simp [FeSlot.reads_inBank hop]) (Engine.inBlocked_inBank hop _) (Engine.outBlocked_inBank _ hout)
    (hu.calm.trans (Piped.of_ready hr).calm)
  rw [hread, ← Stack.feWrite_inBank hout]
  exact (hu.write sh _).trans hruns

/-- An engine whose live bank two effects leave alike. -/
theorem Engine.live_congr {e : Engine} {f g : FeBank → FeBank} (h : f (e.bank e.shadow) = g (e.bank e.shadow)) : e.live f = e.live g := by
  unfold Engine.live Engine.modBank
  unfold Engine.bank at h
  split
  · simp_all
  · simp_all

/-- Such an instruction runs through, and makes of the live bank what its stage W writes into it. -/
theorem feRuns_inBank {c : Instr} {s : State} {k : Side} {op : FeOp} {f : FeBank → FeBank} (hk : s.hasSide k = true) (hr : (s.stack k).feReady i n)
    (hc : exec c s = .next (s.onStack k (Stack.feIssue i n op))) (h : op.InBank) (hl : op.legal = true)
    (hf : let e := (s.stack k).engine i n; (e.bank e.shadow).writeBack ((s.stack k).operandsRead i n op) = f (e.bank e.shadow)) :
    FeRuns c s k i n [] [] (Engine.live f) fun _ => True :=
  feRuns_of_twin hk hc (Stack.fe_runs_inBank hr h hl)
    (Stack.re_onlyChanges _ _ _) (fun _ _ hj => Stack.engine_setEngine_ne _ _ hj)
    (by rw [Stack.modFeBank, Stack.modEngine, Stack.engine_setEngine]; exact congrArg Engine.visible (Engine.live_congr hf))
    fun _ _ => trivial

/-- The three-register operations but CMP write their result and its flags (R285, R298). -/
theorem feRuns_alu {c : Instr} {s : State} {k : Side} {g : AluOp} {d s1 s2 : Nat} {r : Nat → Nat → Nat} {cf vf : Nat → Nat → Option Bool}
    (hk : s.hasSide k = true) (hr : (s.stack k).feReady i n) (hc : exec c s = .next (s.onStack k (Stack.feIssue i n (.alu g d s1 s2))))
    (hg : g ≠ .cmp) (hres : ∀ a b f, aluResult g a b f = (r a b, setFlags f (r a b) (cf a b) (vf a b))) :
    FeRuns c s k i n [] [] (Engine.live (FeBank.alu d s1 s2 r cf vf)) fun _ => True := by
  have hlegal : (FeOp.alu g d s1 s2).legal = true := by
    cases g
    case cmp => exact absurd rfl hg
    all_goals rfl
  refine feRuns_inBank hk hr hc (.alu g d s1 s2) hlegal ?_
  unfold FeBank.writeBack
  dsimp only [Stack.operandsRead, Stack.feOperands, FeBank.slotOf]
  rw [hres, if_neg hg]
  rfl

end Sys2Proof.Machine
end

section
/-! The statement of the engines' arithmetic. -/

namespace Sys2Proof.Machine

/-- Settles O16: each instruction reads and writes the registers of its bank alone, so it leaves what its stage W writes. -/
theorem engineArithmeticCompletes : Obligations.EngineArithmeticCompletes := by
  intro s k i n d s1 s2 imm hk hr
  have halu {c g r cf vf} := @feRuns_alu i n c s k g d s1 s2 r cf vf hk hr
  refine ⟨halu rfl (by decide) fun _ _ _ => rfl, halu rfl (by decide) fun _ _ _ => rfl, halu rfl (by decide) fun _ _ _ => rfl,
    halu rfl (by decide) fun _ _ _ => rfl, halu rfl (by decide) fun _ _ _ => rfl, halu rfl (by decide) fun _ _ _ => rfl,
    halu rfl (by decide) fun _ _ _ => rfl, halu rfl (by decide) fun _ _ _ => rfl, halu rfl (by decide) fun _ _ _ => rfl,
    halu rfl (by decide) fun _ _ _ => rfl, ?_, ?_, ?_, ?_⟩
  · exact feRuns_inBank hk hr rfl (.alu .cmp 0 s1 s2) rfl rfl
  · exact feRuns_inBank hk hr rfl (.addi d s1 imm) rfl rfl
  · exact feRuns_inBank hk hr rfl (.ldi d imm) rfl rfl
  · exact feRuns_inBank hk hr rfl (.lui d imm) rfl rfl

end Sys2Proof.Machine
end


section
/-! SUPPORT. Requests to plain memory: what a READ or a WRITE of clean codewords of the commons, or of the store outside every footprint, leaves
(R312, R354, R357, R363, R372 to R374, R403). -/

namespace Sys2Proof.Machine

section
variable {P : List Part} {F : List Field} {s t : Stack} {h : Header} {data : List Nat} {loc n : Nat}

/-! ## Where a request meets no encryption -/

/-- The n blocks from a device address are commons, or store that is taken as plaintext: key attribute 0, outside every footprint (R340, R403). -/
def Stack.Plain (s : Stack) (addr n : Nat) : Prop :=
  targetOf (addr % 2 ^ 44) = .commons ∨
    (targetOf (addr % 2 ^ 44) = .store ∧ addr / 2 ^ 44 % 16 = 0 ∧ ∀ j < n, s.footprintOf (addr % 2 ^ 44 + 64 * j) = Option.none)

/-- The blocks from a location have no error in any codeword. -/
def Stack.Clean (s : Stack) (loc n : Nat) : Prop := ∀ i < 4 * n, s.mark (loc / 16 + i) = .ok

/-- The flit count of the port that serves a location of store or commons (R354, R363). -/
def Stack.flitCount (s : Stack) (write : Bool) (loc : Nat) : Field :=
  if targetOf loc = .store then (if write then STORE.WR_FLITS (s.storeLayer loc) else STORE.RD_FLITS (s.storeLayer loc))
  else (if write then COMN.WR_FLITS (commonsPort loc) else COMN.RD_FLITS (commonsPort loc))

theorem Stack.countFlits_memory (write : Bool) (ht : targetOf loc = .store ∨ targetOf loc = .commons) :
    s.countFlits write loc n = s.bumpWrap (s.flitCount write loc) n := by
  unfold Stack.countFlits Stack.flitCount
  rcases ht with ht | ht <;> rw [ht] <;> rfl

theorem Stack.countFlits_commons (write : Bool) (ht : targetOf loc = .commons) :
    s.countFlits write loc n = s.bumpWrap (if write then COMN.WR_FLITS (commonsPort loc) else COMN.RD_FLITS (commonsPort loc)) n := by
  unfold Stack.countFlits
  rw [ht]

theorem Stack.Plain.target {addr : Nat} (hp : s.Plain addr n) : targetOf (addr % 2 ^ 44) = .store ∨ targetOf (addr % 2 ^ 44) = .commons :=
  hp.elim .inr fun h => .inl h.1

/-- Flags, footprints and the counting port follow from the registers. -/
theorem Stack.flag_of_get (hg : ∀ f, t.get f = s.get f) (f : Field) : t.flag f = s.flag f := by
  unfold Stack.flag
  rw [hg]

theorem Stack.footprintOf_of_get (hg : ∀ f, t.get f = s.get f) (loc : Nat) : t.footprintOf loc = s.footprintOf loc := by
  unfold Stack.footprintOf
  congr 1
  funext k
  unfold Stack.regionValid Stack.regionBase Stack.regionData
  rw [Stack.flag_of_get hg, hg, hg]

theorem Stack.storeLayer_of_get (hb : t.build = s.build) (hg : ∀ f, t.get f = s.get f) (loc : Nat) : t.storeLayer loc = s.storeLayer loc := by
  unfold Stack.storeLayer Stack.pooled
  rw [Stack.flag_of_get hg, hb]

theorem Stack.flitCount_of_get (hb : t.build = s.build) (hg : ∀ f, t.get f = s.get f) (write : Bool) (loc : Nat) :
    t.flitCount write loc = s.flitCount write loc := by
  unfold Stack.flitCount
  rw [Stack.storeLayer_of_get hb hg]

/-! ## Counted and answered -/

theorem Stack.OnlyChanges.bumpWrap (h : s.OnlyChanges P F t) {f : Field} (n : Nat) (hf : f ∈ F) : s.OnlyChanges P F (t.bumpWrap f n) :=
  h.put _ hf

theorem Stack.OnlyChanges.answered (h : s.OnlyChanges P F t) (status : Nat) (data : List Nat) (ha : .answer ∈ P) :
    s.OnlyChanges P F (t.answered status data) := h.trans (t.answered_onlyChanges status data ha)

theorem Stack.get_bumpWrap_same (s : Stack) (f : Field) (n : Nat) : (s.bumpWrap f n).get f = (s.get f + n) % 2 ^ f.width :=
  s.get_put_same f _

/-! ## Reads -/

theorem Stack.readStore_plain (hf : s.footprintOf loc = Option.none) : s.readStore 0 loc = s.readPlain 0 loc 64 := by
  simp [Stack.readStore, Stack.storeKind, hf]

theorem Stack.Clean.block {j : Nat} (hc : s.Clean loc n) (hj : j < n) : ∀ i < 64 / 16, s.mark ((loc + 64 * j) / 16 + i) = .ok := by
  intro i hi
  rw [show (loc + 64 * j) / 16 + i = loc / 16 + (4 * j + i) by omega]
  exact hc _ (by omega)

/-- A READ of plain, clean memory answers its bytes and counts its flits (R312, R354, R363, R372). -/
theorem Stack.ringRead_plain (hr : h.reserved = false) (ho : h.rot = false) (hp : s.Plain h.addr h.rlen) (hc : s.Clean (h.addr % 2 ^ 44) h.rlen) :
    s.ringRead h = (s.bumpWrap (s.flitCount false (h.addr % 2 ^ 44)) h.rlen).answered 0
      ((s.readBytes (h.addr % 2 ^ 44) (64 * h.rlen)).map BitVec.toNat) := by
  rcases hp with ht | ⟨ht, hk, hf⟩
  · rw [Stack.ringRead_commons hr ho ht hc, Stack.countFlits_memory _ (.inr ht)]
  · have hread : readBlocks (fun t l => t.readStore 0 l) h.rlen (h.addr % 2 ^ 44) s = _ :=
      readBlocks_clean (s := s) _ _ fun j hj => by
        rw [Stack.readStore_plain (hf j hj), Stack.readPlain_clean (hc.block hj)]
    unfold Stack.ringRead
    rw [hr]
    simp only [Bool.false_eq_true, if_false, ht, ho, hk, hread]
    rw [if_neg (by decide), Stack.countFlits_memory _ (.inl ht)]

/-- A rotated READ of one clean codeword (R357). -/
theorem Stack.readRotated_clean (hm : s.mark (loc / 16) = .ok) :
    s.readRotated loc = (s, 0, (let l := (s.readBytes (loc / 16 * 16) 16).map BitVec.toNat
      l.drop (loc % 16) ++ l.take (loc % 16) ++ List.replicate 48 0)) := by
  have hclean : ∀ i < 16 / 16, s.mark (loc / 16 * 16 / 16 + i) = .ok := fun i hi => by
    rw [show loc / 16 * 16 / 16 + i = loc / 16 by omega]
    exact hm
  unfold Stack.readRotated
  rw [Stack.readPlain_clean hclean]
  rfl

theorem Stack.ringRead_rotated (hr : h.reserved = false) (ho : h.rot = true) (hl : h.rlen = 1) (ht : targetOf (h.addr % 2 ^ 44) = .commons)
    (hm : s.mark (h.addr % 2 ^ 44 / 16) = .ok) :
    s.ringRead h = (s.bumpWrap (COMN.RD_FLITS (commonsPort (h.addr % 2 ^ 44))) 1).answered 0
      (let l := (s.readBytes (h.addr % 2 ^ 44 / 16 * 16) 16).map BitVec.toNat
       l.drop (h.addr % 2 ^ 44 % 16) ++ l.take (h.addr % 2 ^ 44 % 16) ++ List.replicate 48 0) := by
  have hcount := Stack.countFlits_commons (s := s) (n := 1) false ht
  unfold Stack.ringRead
  rw [hr]
  simp only [Bool.false_eq_true, if_false, ht, ho, hl, if_true, Stack.readRotated_clean hm, hcount]

/-- A byte of a codeword rotated by k bytes (R357). -/
theorem getD_rotated (l : List Nat) (hl : l.length = 16) {k i : Nat} (hk : k < 16) (hi : i < 16) :
    (l.drop k ++ l.take k ++ List.replicate 48 0).getD i 0 = l.getD ((k + i) % 16) 0 := by
  have hdrop : (l.drop k).length = 16 - k := by rw [List.length_drop, hl]
  have htake : (l.take k).length = k := by rw [List.length_take, hl, Nat.min_eq_left (by omega)]
  have hbytes : i < (l.drop k ++ l.take k).length := by
    rw [List.length_append, hdrop, htake]
    omega
  rw [List.getD_eq_getElem?_getD, List.getD_eq_getElem?_getD, List.getElem?_append_left hbytes]
  by_cases hd : i < 16 - k
  · rw [List.getElem?_append_left (by rw [hdrop]; exact hd), List.getElem?_drop, Nat.mod_eq_of_lt (by omega)]
  · rw [List.getElem?_append_right (by rw [hdrop]; omega), List.getElem?_take_of_lt (by rw [hdrop]; omega), hdrop,
      show i - (16 - k) = (k + i) % 16 by omega]

/-- Beyond the codeword a rotated read is padded with 0 (R357). -/
theorem getD_rotated_beyond (l : List Nat) (hl : l.length = 16) {k i : Nat} (hi : 16 ≤ i) :
    (l.drop k ++ l.take k ++ List.replicate 48 0).getD i 0 = 0 := by
  have hlen : (l.drop k ++ l.take k).length = 16 := by
    rw [List.length_append, List.length_drop, List.length_take, hl]
    omega
  rw [List.getD_eq_getElem?_getD, List.getElem?_append_right (by rw [hlen]; exact hi), List.getElem?_replicate]
  split <;> rfl

theorem Stack.getD_readBytes {a i : Nat} (hi : i < n) : ((s.readBytes a n).map BitVec.toNat).getD i 0 = (s.readByte (a + i)).toNat := by
  simp [Stack.readBytes, List.getD_eq_getElem?_getD, hi]

/-! ## Writes -/

theorem Stack.WroteTo.get {m : List Host.Cell} (w : s.WroteTo m t) (f : Field) : t.get f = s.get f := by
  obtain ⟨_, _, _, hget⟩ := w.frame
  exact hget f (by simp)

theorem Stack.writeStore_plain (hf : s.footprintOf loc = Option.none) (d : List (Nat × Bool)) (poison : Nat) (cursor : Bool) :
    s.writeStore 0 loc d poison cursor = (s.writePlain loc d poison, 0) := by
  simp [Stack.writeStore, Stack.storeKind, hf]

/-- Clean blocks of the store outside every footprint are written as plain blocks (R403). -/
theorem writeBlocks_store : ∀ (fl : List (List (Nat × Bool))) (loc : Nat) (s : Stack), (∀ d ∈ fl, d.length = 64) →
    s.Clean loc fl.length → s.flag CODE.INJECT_ARM = false → (∀ j < fl.length, s.footprintOf (loc + 64 * j) = Option.none) →
    writeBlocks (fun t l d p => t.writeStore 0 l d p false) fl loc 0 s = writeBlocks (fun t l d p => (t.writePlain l d p, 0)) fl loc 0 s
  | [], _, _, _, _, _, _ => rfl
  | d :: fl, loc, s, hl, hc, hi, hf => by
    have hd := hl d (by simp)
    have w := s.writePlain_clean (loc := loc) d (fun i h => hc i (by simp only [List.length_cons]; omega)) hi
    have ih := writeBlocks_store fl (loc + 64) (s.writePlain loc d 0) (fun x hx => hl x (by simp [hx]))
      (fun i h => by
        rw [w.marks, show (loc + 64) / 16 + i = loc / 16 + (4 + i) by omega]
        exact hc _ (by simp only [List.length_cons]; omega))
      (by rw [Stack.flag_of_get w.get, hi])
      (fun j h => by
        rw [Stack.footprintOf_of_get w.get, show loc + 64 + 64 * j = loc + 64 * (j + 1) by omega]
        exact hf _ (by simp only [List.length_cons]; omega))
    have h0 := Stack.writeStore_plain (hf 0 (by simp)) d 0 false
    unfold writeBlocks
    simp only [Nat.zero_mod, Nat.zero_div, if_true]
    rw [← ih, show s.writeStore 0 loc d 0 false = (s.writePlain loc d 0, 0) from h0]
    rfl

/-- The memory after a request's enabled bytes are written from a location (R312, R346). -/
def Stack.memWritten (s : Stack) (loc : Nat) (data : List Nat) (beFirst beLast : Nat) : List Host.Cell :=
  writeEnabledMem s.mem loc ((writeFlits data beFirst beLast).flatten.map fun p => (BitVec.ofNat 8 p.1, p.2))

/-- What a write at its target leaves: the enabled bytes stored, and the flits of the port counted. -/
theorem Stack.writeTarget_plain (hr : h.reserved = false) (ho : h.rot = false) (hw : s.writesIgnored h.src = false)
    (hi : s.flag CODE.INJECT_ARM = false) (hp : s.Plain h.addr (data.length / 64)) (hc : s.Clean (h.addr % 2 ^ 44) (data.length / 64)) :
    ∃ v, s.writeTarget h data 0 = (v.bumpWrap (s.flitCount true (h.addr % 2 ^ 44)) (data.length / 64), 0) ∧
      s.WroteTo (s.memWritten (h.addr % 2 ^ 44) data h.beFirst h.beLast) v := by
  have hport {v : Stack} {m : List Host.Cell} (w : s.WroteTo m v) : v.countFlits true (h.addr % 2 ^ 44) (data.length / 64) =
      v.bumpWrap (s.flitCount true (h.addr % 2 ^ 44)) (data.length / 64) := by
    obtain ⟨_, hb, _⟩ := w.frame
    rw [Stack.countFlits_memory _ hp.target, Stack.flitCount_of_get hb w.get]
  rcases hp with ht | ⟨ht, hk, hf⟩
  · obtain ⟨v, hv, w⟩ := Stack.writeTarget_commons hr ho ht hw hi hc
    exact ⟨v, hport w ▸ hv, w⟩
  · obtain ⟨hl, hd⟩ := writeFlits_length data h.beFirst h.beLast
    obtain ⟨h0, w⟩ := writeBlocks_clean (writeFlits data h.beFirst h.beLast) (h.addr % 2 ^ 44) s hd (by rw [hl]; exact hc) hi
    refine ⟨_, ?_, w⟩
    unfold Stack.writeTarget
    rw [hr, ho]
    simp only [Bool.false_and, Bool.or_self, Bool.false_eq_true, if_false, ht, hw, hk]
    rw [writeBlocks_store _ _ _ hd (by rw [hl]; exact hc) hi (by rw [hl]; exact hf), h0, hl, if_neg (by decide), hport w]

theorem Stack.ringWrite_plain (hr : h.reserved = false) (ho : h.rot = false) (hw : s.writesIgnored h.src = false)
    (hi : s.flag CODE.INJECT_ARM = false) (hp : s.Plain h.addr (data.length / 64)) (hc : s.Clean (h.addr % 2 ^ 44) (data.length / 64)) :
    ∃ v, s.ringWrite h data 0 = (v.bumpWrap (s.flitCount true (h.addr % 2 ^ 44)) (data.length / 64)).answered 0 [] ∧
      s.WroteTo (s.memWritten (h.addr % 2 ^ 44) data h.beFirst h.beLast) v := by
  obtain ⟨v, hv, w⟩ := Stack.writeTarget_plain hr ho hw hi hp hc
  refine ⟨v, ?_, w⟩
  unfold Stack.ringWrite
  rw [hv]
  rfl

theorem Stack.ringPosted_plain (hr : h.reserved = false) (ho : h.rot = false) (hw : s.writesIgnored h.src = false)
    (hi : s.flag CODE.INJECT_ARM = false) (hp : s.Plain h.addr (data.length / 64)) (hc : s.Clean (h.addr % 2 ^ 44) (data.length / 64)) :
    ∃ v, s.ringPosted h data 0 = (v.bumpWrap (s.flitCount true (h.addr % 2 ^ 44)) (data.length / 64)).answered noAnswer [] ∧
      s.WroteTo (s.memWritten (h.addr % 2 ^ 44) data h.beFirst h.beLast) v := by
  obtain ⟨v, hv, w⟩ := Stack.writeTarget_plain hr ho hw hi hp hc
  refine ⟨v, ?_, w⟩
  unfold Stack.ringPosted
  rcases hp.target with ht | ht <;> rw [ht, hv]

/-- What a byte reads as after bytes were written under enables that follow from their places. -/
theorem mapGet_writeEnabledMem_range (m : List Host.Cell) (loc n : Nat) (v : Nat → Nat) (e : Nat → Bool) (a : Nat) :
    mapGet 0 (writeEnabledMem m loc (((List.range n).map fun i => (v i, e i)).map fun p => (BitVec.ofNat 8 p.1, p.2))) a =
      if loc ≤ a ∧ a < loc + n ∧ e (a - loc) = true then BitVec.ofNat 8 (v (a - loc)) else mapGet 0 m a := by
  rw [mapGet_writeEnabledMem]
  simp only [List.map_map, List.length_map, List.length_range]
  by_cases ha : loc ≤ a ∧ a < loc + n
  · obtain ⟨hlo, hhi⟩ := ha
    rw [List.getD_eq_getElem?_getD, List.getElem?_map, List.getElem?_range (by omega)]
    rfl
  · rw [if_neg fun h => ha ⟨h.1, h.2.1⟩, if_neg fun h => ha ⟨h.1, h.2.1⟩]

/-- The bytes that a request wrote read as its data where they are enabled: BE_FIRST governs the first flit, BE_LAST the last of several (R312). -/
theorem Stack.WroteTo.readByte {beFirst beLast : Nat} (w : s.WroteTo (s.memWritten loc data beFirst beLast) t) (a : Nat) :
    t.readByte a = if loc ≤ a ∧ a < loc + 64 * (data.length / 64) ∧
        (if (a - loc) / 64 = 0 then bit beFirst ((a - loc) % 64) else if (a - loc) / 64 + 1 = data.length / 64 then bit beLast ((a - loc) % 64)
          else true) = true
      then BitVec.ofNat 8 (data.getD (a - loc) 0) else s.readByte a := by
  unfold Stack.readByte
  rw [w.mem, Stack.memWritten, writeFlits_flatten, mapGet_writeEnabledMem_range]

/-- Every byte of a flit whose enables are all set is enabled. -/
theorem bit_allEnabled {i : Nat} (hi : i < 64) : bit (2 ^ 64 - 1) i = true := by
  rw [bit_eq_testBit, Nat.testBit_two_pow_sub_one]
  exact decide_eq_true hi

/-- Bytes of whole flits written with every enable set read back modulo 256. -/
theorem Stack.WroteTo.readBytes_whole (w : s.WroteTo (s.memWritten loc data (2 ^ 64 - 1) (2 ^ 64 - 1)) t) (hd : data.length = 64 * n) :
    (t.readBytes loc (64 * n)).map BitVec.toNat = data.map fun b => b % 256 := by
  refine List.ext_getElem (by simp [Stack.readBytes, hd]) fun i hi _ => ?_
  have hlt : i < data.length := by simpa [Stack.readBytes, ← hd] using hi
  have hbit := bit_allEnabled (Nat.mod_lt i (by decide : 0 < 64))
  simp only [Stack.readBytes, List.getElem_map, List.getElem_range]
  rw [w.readByte, Nat.add_sub_cancel_left, hbit, if_pos ⟨by omega, by omega, by rw [ite_self, ite_self]⟩]
  simp [List.getD_eq_getElem?_getD, hlt]

/-- What a WRITE of whole flits of clean commons, every byte enabled, leaves for a READ of the same place. -/
theorem Stack.ringWrite_whole (hr : h.reserved = false) (ho : h.rot = false)
    (hw : s.writesIgnored h.src = false) (hi : s.flag CODE.INJECT_ARM = false) (ht : targetOf (h.addr % 2 ^ 44) = .commons)
    (hc : s.Clean (h.addr % 2 ^ 44) n) (hd : data.length = 64 * n) (hf : h.beFirst = 2 ^ 64 - 1) (hl : h.beLast = 2 ^ 64 - 1) :
    ∃ u, s.ringWrite h data 0 = u ∧ u.rings = s.rings ∧ (∀ c, u.mark c = s.mark c) ∧
      (u.readBytes (h.addr % 2 ^ 44) (64 * n)).map BitVec.toNat = data.map fun b => b % 256 := by
  obtain ⟨v, hv, w⟩ := Stack.ringWrite_plain hr ho hw hi (.inl ht) (show s.Clean _ (data.length / 64) by rwa [show data.length / 64 = n by omega])
  rw [hf, hl] at w
  exact ⟨_, hv, w.frame.part (p := .rings) (by simp), w.marks, w.readBytes_whole hd⟩

/-! ## Cursors -/

/-- A change of the rings is one of that part. -/
theorem Stack.rings_onlyChanges (s : Stack) (x : Rings) (hx : .rings ∈ P) : s.OnlyChanges P F { s with rings := x } := by
  refine ⟨rfl, rfl, fun p hp => ?_, fun _ _ => rfl⟩
  cases p
  case rings => exact absurd hx hp
  all_goals rfl

/-- The cursor of a port's channel replaced (R321, R356). -/
def Stack.cursorAt (s : Stack) (stop chan : Nat) (c : Cursor) : Stack :=
  { s with rings := { s.rings with cursors := mapSet {} s.rings.cursors (chanKey 0 stop chan) c } }

theorem Stack.cursorAt_cursor (s : Stack) (stop chan : Nat) (c : Cursor) :
    mapGet {} (s.cursorAt stop chan c).rings.cursors (chanKey 0 stop chan) = c := (mapGet_mapSet _ _ _ _ _).trans (if_pos rfl)

theorem Stack.cursorAt_cursor_ne (s : Stack) {stop chan j : Nat} (c : Cursor) (hj : j ≠ chanKey 0 stop chan) :
    mapGet {} (s.cursorAt stop chan c).rings.cursors j = mapGet {} s.rings.cursors j :=
  (mapGet_mapSet _ _ _ _ _).trans (if_neg (Ne.symm hj))

theorem Stack.cursorAt_onlyChanges (s : Stack) (stop chan : Nat) (c : Cursor) (hx : .rings ∈ P) : s.OnlyChanges P F (s.cursorAt stop chan c) :=
  s.rings_onlyChanges _ hx

theorem Stack.ringCursor_port (hr : h.reserved = false) (ho : h.rot = false)
    (ht : targetOf (h.addr % 2 ^ 44) = .store ∨ targetOf (h.addr % 2 ^ 44) = .commons) :
    s.ringCursor h = (s.cursorAt (s.portStop (h.addr % 2 ^ 44)) (h.data % 32) ⟨h.addr, h.data / 256 % 2 ^ 24⟩).answered 0 [] := by
  unfold Stack.ringCursor
  dsimp only
  rw [hr, ho]
  rcases ht with ht | ht <;> rw [ht] <;> rfl

/-- The answer of a target without cursors (R186, R321, R341, log 118). -/
def Stack.cursorRefusal (s : Stack) (loc : Nat) : Nat :=
  if targetOf loc = .engine then 8 else if targetOf loc = .fabric then (if s.fabricTakes loc then 8 else 16) else 1

theorem Stack.ringCursor_elsewhere (hr : h.reserved = false) (ho : h.rot = false)
    (ht : targetOf (h.addr % 2 ^ 44) ≠ .store ∧ targetOf (h.addr % 2 ^ 44) ≠ .commons) :
    s.ringCursor h = s.answered (s.cursorRefusal (h.addr % 2 ^ 44)) [] := by
  obtain ⟨hstore, hcommons⟩ := ht
  unfold Stack.ringCursor Stack.cursorRefusal
  dsimp only
  rw [hr, ho]
  cases ht : targetOf (h.addr % 2 ^ 44)
  case store => exact absurd ht hstore
  case commons => exact absurd ht hcommons
  case fabric => cases s.fabricTakes (h.addr % 2 ^ 44) <;> rfl
  all_goals rfl

end

/-! ## Requests that no packet carries -/

section
variable {s : State} {k : Side} {h : Header}

/-- Which requests are carried follows from the rings. -/
theorem Stack.uncarried_of_rings {t u : Stack} {op : Nat} (hr : u.rings = t.rings) (hu : t.uncarried op h) : u.uncarried op h := by
  unfold Stack.uncarried at hu ⊢
  rw [hr]
  exact hu

/-- A request that no packet carries completes as its effect on the stack does (R311). -/
theorem completes_of_uncarried {P : List Part} {F : List Field} {post : Stack → Prop} {c : Instr} {op : Nat} {f : Stack → Stack} {u : Stack}
    (hk : s.hasSide k = true) (he : exec c s = .next (s.onStack k (Stack.serve op h f))) (hu : (s.stack k).uncarried op h)
    (hf : f (s.stack k) = u) (hc : (s.stack k).OnlyChanges P F u) (hp : post u) : Completes c s k P F post := by
  have hs : Stack.serve op h f (s.stack k) = u := (Stack.serve_uncarried hu f).trans hf
  exact completes_of_onStack hk he (hs.symm ▸ hc) (hs.symm ▸ hp)

end

end Sys2Proof.Machine
end

section
/-! The statements of reads and writes of plain memory. -/

namespace Sys2Proof.Machine

/-- Settles O27: each request is the equation of its operation where it meets plain and clean memory. -/
theorem memoryAccessesComplete : Obligations.MemoryAccessesComplete := by
  refine ⟨fun s k h hk hu hr ho => ?_, fun s k h hk hu hr ho hl => ?_, fun s k h data hk hr ho hw hi => ?_, fun s k h hk hu hr ho => ?_⟩
  · intro loc c hp hc
    refine completes_of_uncarried hk rfl hu (Stack.ringRead_plain hr ho hp hc)
      (((Stack.OnlyChanges.refl _ _ _).bumpWrap _ (List.mem_singleton_self c)).answered _ _ (by simp)) ⟨?_, ?_⟩
    · rw [Stack.readBytes, List.map_map]
      rfl
    · exact Stack.get_bumpWrap_same _ c _
  · intro loc c ht hm
    have hrot (i : Nat) (hi : i < 16) := getD_rotated (((s.stack k).readBytes (loc / 16 * 16) 16).map BitVec.toNat) (by simp [Stack.readBytes])
      (k := loc % 16) (Nat.mod_lt _ (by decide)) hi
    refine completes_of_uncarried hk rfl hu (Stack.ringRead_rotated hr ho hl ht hm)
      (((Stack.OnlyChanges.refl _ _ _).bumpWrap _ (List.mem_singleton_self c)).answered _ _ (by simp))
      ⟨rfl, ?_, fun i hi => ?_, fun i hi => ?_, Stack.get_bumpWrap_same _ c _⟩
    · simp [Stack.readBytes, Stack.answered]
      omega
    · refine (hrot i hi).trans ?_
      rw [Stack.getD_readBytes (Nat.mod_lt _ (by decide)), Nat.add_mod loc i, Nat.add_mod, Nat.mod_mod]
    · exact getD_rotated_beyond _ (by simp [Stack.readBytes]) hi
  · intro loc n c enabled hp hc effect
    have hplain : (s.stack k).Plain h.addr n := hp.imp_right fun ⟨ht, hkey, hf⟩ => ⟨ht, hkey, fun j hj => hf _ (by omega) (by omega)⟩
    have heffect {v : Stack} (w : (s.stack k).WroteTo ((s.stack k).memWritten loc data h.beFirst h.beLast) v) (a : Nat) :
        effect ((v.bumpWrap c n).answered a []) := ⟨w.readByte, w.marks, by
      rw [← w.get c]
      exact Stack.get_bumpWrap_same v c n⟩
    have hframe {v : Stack} (w : (s.stack k).WroteTo ((s.stack k).memWritten loc data h.beFirst h.beLast) v) (a : Nat) :
        (s.stack k).OnlyChanges [.mem, .health, .answer] [c] ((v.bumpWrap c n).answered a []) :=
      ((w.frame.mono (by simp) (by simp)).bumpWrap n (List.mem_singleton_self c)).answered a [] (by simp)
    refine ⟨fun hu => ?_, fun hu => ?_⟩
    · obtain ⟨v, hv, w⟩ := Stack.ringWrite_plain hr ho hw hi hplain hc
      exact completes_of_uncarried hk rfl hu hv (hframe w 0) ⟨heffect w 0, rfl⟩
    · obtain ⟨v, hv, w⟩ := Stack.ringPosted_plain hr ho hw hi hplain hc
      exact completes_of_uncarried hk rfl hu hv (hframe w noAnswer) ⟨heffect w noAnswer, rfl⟩
  · intro loc
    refine ⟨fun ht => ?_, fun ht => ?_⟩
    · exact completes_of_uncarried hk rfl hu (Stack.ringCursor_port hr ho ht)
        ((Stack.cursorAt_onlyChanges _ _ _ _ (by simp)).answered _ _ (by simp))
        ⟨Stack.cursorAt_cursor _ _ _ _, fun j hj => Stack.cursorAt_cursor_ne _ _ hj, rfl, rfl⟩
    · exact completes_of_uncarried hk rfl hu (Stack.ringCursor_elsewhere hr ho ht) (Stack.answered_onlyChanges _ _ _ (by simp)) rfl

/-- Settles O55: the write leaves its bytes at the place, every mark clean and the packets as they were, so the read answers them. -/
theorem readReturnsWhatWasWritten : Obligations.ReadReturnsWhatWasWritten := by
  intro s k h r data hk hu hur hr ho hrr hor ha hd hbf hbl ht hw hi hm
  obtain ⟨u, hwrite, hrings, hmarks, hbytes⟩ := Stack.ringWrite_whole hr ho hw hi ht hm hd hbf hbl
  have hread := Stack.ringRead_plain (s := u) hrr hor (.inl (ha ▸ ht)) fun i hi => by
    rw [hmarks, ha]
    exact hm i hi
  refine ⟨s.setStack k u, _, exec_eq_of_setStack hk rfl ((Stack.serve_uncarried hu _).trans hwrite),
    exec_eq_of_setStack (by simpa using hk) rfl ((congrArg _ (State.setStack_stack ..)).trans
      ((Stack.serve_uncarried (Stack.uncarried_of_rings hrings hur) _).trans hread)), ?_⟩
  rw [State.setStack_stack, ha, hbytes]
  rfl

end Sys2Proof.Machine
end

section
/-! SUPPORT. Requests that a packet carries: the packet leaves the rings with the effect, and a response packet follows an answer (R311, R312). -/

namespace Sys2Proof.Machine

section
variable {s : Stack} {op : Nat} {h : Header} {p : Packet} {rest : List Packet}

/-- The stack with other packets on its rings. -/
def Stack.withPackets (s : Stack) (l : List Packet) : Stack := { s with rings := { s.rings with packets := l } }

/-- A packet has arrived with a request of an opcode, of the source and tag of a header. -/
def Packet.carries (p : Packet) (op : Nat) (h : Header) : Bool := p.arrived && p.op == op && p.head.src == h.src && p.head.tag == h.tag

theorem Packet.carries_iff : p.carries op h = true ↔ p.arrived = true ∧ p.op = op ∧ p.head.src = h.src ∧ p.head.tag = h.tag := by
  simp [Packet.carries, and_assoc]

/-- No packet of a list carries the request. -/
theorem uncarried_withPackets (hr : ∀ q ∈ rest, ¬ q.carries op h = true) : (s.withPackets rest).uncarried op h :=
  List.find?_eq_none.2 hr

/-- What a WRITE_POSTED and an MSG have not (R312, R328). -/
theorem takesTag_eq_false : takesTag op = false ↔ op = 3 ∨ op = 8 := by
  simp [takesTag]
  omega

theorem responseOp_of_ne (hop : op ≠ 5) : responseOp op = if op = 1 then 0x20 else 0x21 := by
  unfold responseOp
  split
  case h_2 => exact absurd rfl hop
  all_goals simp_all

/-- The response packet of an answered request: as many flits as a READ that ends well asked for (R311, R312). -/
def Stack.respondTo (op : Nat) (h : Header) (p : Packet) (t : Stack) : Stack :=
  let n := if op = 1 ∧ t.answer.status = 0 then h.rlen else 0
  t.launch (responseOp op) { h with src := 32 * p.dhub + p.dstop.getD 0, cls := 3, len := n, birth := p.head.birth }
    p.dhub p.dstop (h.src / 32) (some (h.src % 32))

/-- A carried request has its effect with the packet gone; what is posted or not answered yet adds nothing more. -/
theorem Stack.serve_carried (hp : s.rings.packets = p :: rest) (hc : p.carries op h = true) (f : Stack → Stack) : Stack.serve op h f s =
    (let t := f (s.withPackets rest)
     if !takesTag op || t.answer.status == noAnswer then t else t.respondTo op h p) := by
  have hfind : (s.rings.packets.find? fun q => q.carries op h) = some p := by
    rw [hp]
    exact List.find?_cons_of_pos hc
  have herase : s.rings.packets.erase p = rest := by rw [hp, List.erase_cons_head]
  unfold Stack.serve
  rw [show (s.rings.packets.find? fun q => q.arrived && q.op == op && q.head.src == h.src && q.head.tag == h.tag) = some p from hfind]
  dsimp only
  rw [herase]
  rfl

end

/-- A command that serves a request: its next state with the packet at hand is the one with the packet gone and, where the request is answered,
the response launched. -/
theorem exec_carried {s : State} {k : Side} {op : Nat} {h : Header} {p : Packet} {rest : List Packet} {c : Instr} {f : Stack → Stack}
    (hk : s.hasSide k = true) (hp : (s.stack k).rings.packets = p :: rest) (hc : p.carries op h = true)
    (hr : ∀ q ∈ rest, ¬ q.carries op h = true) (he : ∀ x, exec c x = .next (x.onStack k (Stack.serve op h f))) :
    ∃ u : State, exec c (s.onStack k fun t => t.withPackets rest) = .next u ∧
      exec c s = .next (if takesTag op = false ∨ (u.stack k).answer.status = noAnswer then u else u.onStack k (Stack.respondTo op h p)) := by
  have hgone : Stack.serve op h f ((s.stack k).withPackets rest) = f ((s.stack k).withPackets rest) :=
    Stack.serve_uncarried (uncarried_withPackets hr) f
  refine ⟨_, he _, (he s).trans (congrArg _ ?_)⟩
  rw [State.onStack_onStack, State.onStack_stack _ _ hk, hgone]
  split
  next hn => exact State.onStack_congr ((Stack.serve_carried hp hc f).trans (by
    rw [if_pos (by simpa using hn)]
    exact hgone.symm))
  next hn =>
    rw [State.onStack_onStack]
    exact State.onStack_congr ((Stack.serve_carried hp hc f).trans (by
      rw [if_neg (by simpa using hn), hgone]))

end Sys2Proof.Machine
end

section
/-! The statement of requests that packets carry. -/

namespace Sys2Proof.Machine

/-- Settles O50: the five commands serve their request alike; they differ in whether it takes a tag and in the response's opcode. -/
theorem carriedRequestsAreAnsweredByPacket : Obligations.CarriedRequestsAreAnsweredByPacket := by
  intro s k op h p rest c hk hp ha ho hs ht hrest hc
  have hcarries : p.carries op h = true := Packet.carries_iff.2 ⟨ha, ho, hs, ht⟩
  have hothers : ∀ q ∈ rest, ¬ q.carries op h = true := fun q hq => by rw [Packet.carries_iff]; exact hrest q hq
  have key {f : Stack → Stack} (hop : op ≠ 5) (he : ∀ x, exec c x = .next (x.onStack k (Stack.serve op h f))) := by
    have hcarried := exec_carried hk hp hcarries hothers he
    unfold Stack.respondTo at hcarried
    rw [responseOp_of_ne hop] at hcarried
    simpa only [takesTag_eq_false, or_assoc] using hcarried
  rcases hc with ⟨rfl, rfl⟩ | ⟨rfl, data, poison, rfl⟩ | ⟨rfl, data, poison, rfl⟩ | ⟨rfl, rfl⟩ | ⟨rfl, rfl⟩
  all_goals exact key (by decide) fun _ => rfl

end Sys2Proof.Machine
end

section
/-! SUPPORT. Initiator interfaces: a request answered at once, sent, or left waiting (R308, R327 to R329, R341). -/

namespace Sys2Proof.Machine

section
variable {P : List Part} {F : List Field} {s : Stack} {op reg : Nat} {h : Header} {room : Bool}

/-! ## Tags and packets -/

@[simp] theorem Stack.ringTag_setTag (s : Stack) (n g : Nat) (t : RingTag) : (s.setTag n g t).ringTag n g = t :=
  (mapGet_mapSet _ _ _ _ _).trans (if_pos rfl)

theorem Stack.setTag_onlyChanges (s : Stack) (n g : Nat) (t : RingTag) (hr : .rings ∈ P) : s.OnlyChanges P F (s.setTag n g t) :=
  s.rings_onlyChanges _ hr

theorem Stack.launch_onlyChanges (s : Stack) (op : Nat) (h : Header) (hub : Nat) (stop : Option Nat) (dhub : Nat) (dstop : Option Nat)
    (hr : .rings ∈ P) : s.OnlyChanges P F (s.launch op h hub stop dhub dstop) := s.rings_onlyChanges _ hr

theorem Stack.takeTokens_onlyChanges (s : Stack) (r n : Nat) (hr : .rings ∈ P) : s.OnlyChanges P F (s.takeTokens r n) := by
  unfold Stack.takeTokens
  split
  · exact Stack.OnlyChanges.refl _ _ _
  · exact s.rings_onlyChanges _ hr

/-- A regulator that needs no tokens (R327): none, or RATE 0. -/
abbrev Stack.unregulated (s : Stack) (reg : Nat) : Prop := 10 ≤ reg ∨ s.get (RING.REG_CFG_RATE reg) = 0

theorem Stack.tokensFor_unregulated (hu : s.unregulated reg) (n : Nat) : s.tokensFor reg n = true := by
  rcases hu with hu | hu <;> simp [Stack.tokensFor, hu]

theorem Stack.takeTokens_unregulated (hu : s.unregulated reg) (n : Nat) : s.takeTokens reg n = s := if_pos hu

theorem Stack.tokensFor_regulated (hu : ¬ s.unregulated reg) (n : Nat) : s.tokensFor reg n = decide (16 * n ≤ mapGet 0 s.rings.tokens reg) := by
  obtain ⟨hlow, hrate⟩ := not_or.1 hu
  simp [Stack.tokensFor, hlow, hrate]

theorem Stack.takeTokens_regulated (hu : ¬ s.unregulated reg) (n : Nat) :
    mapGet 0 (s.takeTokens reg n).rings.tokens reg = mapGet 0 s.rings.tokens reg - 16 * n := by
  rw [Stack.takeTokens, if_neg hu]
  exact (mapGet_mapSet _ _ _ _ _).trans (if_pos rfl)

/-! ## The three outcomes of a request -/

/-- The packet of a request starts at its router, with the epoch as BIRTH and its regulator's class, and takes its tokens (R311, R327). -/
def Stack.sent (s : Stack) (op reg : Nat) (h : Header) : Stack :=
  (s.takeTokens reg (1 + h.len)).launch op { h with birth := s.get RING.EPOCH_COUNT % 65536, cls := s.classFor reg }
    (h.src / 32) (some (h.src % 32)) (s.destinationOf op h.addr).1 (s.destinationOf op h.addr).2

/-- The tag of a request that its interface has accepted, busy (2) or waiting (1) (R328, R329). -/
def Stack.acceptedTag (s : Stack) (st : Nat) (waited : Bool) (h : Header) : RingTag :=
  { st := st, birth := s.get RING.EPOCH_COUNT % 65536, waited := waited, due := s.requestDue h.src h.tag }

/-- The wait of a request counts once in its regulator (R338). -/
def Stack.waitCounted (s : Stack) (reg : Nat) (h : Header) : Stack :=
  if (s.ringTag h.src h.tag).waited then s else s.bump (RING.REG_STAT_WAITS reg)

theorem Stack.waitCounted_onlyChanges (s : Stack) (reg : Nat) (h : Header) (hw : RING.REG_STAT_WAITS reg ∈ F) :
    s.OnlyChanges P F (s.waitCounted reg h) := by
  unfold Stack.waitCounted
  split
  · exact Stack.OnlyChanges.refl _ _ _
  · exact (Stack.OnlyChanges.refl _ _ _).bump _ hw

theorem Stack.waitCounted_rings (s : Stack) (reg : Nat) (h : Header) : (s.waitCounted reg h).rings = s.rings :=
  (s.waitCounted_onlyChanges (P := []) (F := [_]) reg h (List.mem_singleton_self _)).part (p := .rings) (by simp)

section
variable (ht : (s.ringTag h.src h.tag).st < 2)
include ht

/-- A tag that is free or waiting keeps no request back (R328). -/
theorem Stack.tag_notBusy : (takesTag op && decide (2 ≤ (s.ringTag h.src h.tag).st)) = false := by
  rw [decide_eq_false (Nat.not_le.2 ht), Bool.and_false]

theorem Stack.inject_error (he : s.interfaceError op h = true) : s.inject op h reg room = (s.setTag h.src h.tag {}).answered 1 [] := by
  unfold Stack.inject
  dsimp only
  rw [Stack.tag_notBusy ht, he]
  rfl

theorem Stack.inject_sent (he : s.interfaceError op h = false) (hroom : room = true ∨ takesTag op = false)
    (hk : s.tokensFor reg (1 + h.len) = true) : s.inject op h reg room =
    if takesTag op then (s.sent op reg h).setTag h.src h.tag (s.acceptedTag 2 false h) else s.sent op reg h := by
  unfold Stack.inject
  have hspace : (!(room || !takesTag op)) = false := by rcases hroom with hroom | hroom <;> simp [hroom]
  dsimp only
  rw [Stack.tag_notBusy ht, he, hspace, hk]
  rfl

/-- Without the tokens an answered request waits, and its wait counts once (R327, R338). -/
theorem Stack.inject_waits (he : s.interfaceError op h = false) (htag : takesTag op = true) (hk : s.tokensFor reg (1 + h.len) = false) :
    s.inject op h reg true = (s.waitCounted reg h).setTag h.src h.tag (s.acceptedTag 1 true h) := by
  unfold Stack.inject
  dsimp only
  rw [Stack.tag_notBusy ht, he, hk, htag]
  rfl

end

theorem Stack.sent_onlyChanges (s : Stack) (op reg : Nat) (h : Header) (hr : .rings ∈ P) : s.OnlyChanges P F (s.sent op reg h) :=
  (s.takeTokens_onlyChanges _ _ hr).trans (Stack.launch_onlyChanges _ _ _ _ _ _ _ hr)

/-- The packets after a request is sent are those of a launch: tokens are not among them. -/
theorem Stack.sent_packets (s : Stack) (op reg : Nat) (h : Header) : (s.sent op reg h).rings.packets =
    (s.launch op { h with birth := s.get RING.EPOCH_COUNT % 65536, cls := s.classFor reg } (h.src / 32) (some (h.src % 32))
      (s.destinationOf op h.addr).1 (s.destinationOf op h.addr).2).rings.packets := by
  unfold Stack.sent Stack.takeTokens
  split <;> rfl

theorem Stack.sent_ringTag (s : Stack) (op reg : Nat) (h : Header) (n g : Nat) : (s.sent op reg h).ringTag n g = s.ringTag n g := by
  unfold Stack.sent Stack.takeTokens
  split <;> rfl

end

/-- A request that departs completes with its tokens taken, its packet at its router and, where it takes a tag, the tag busy. -/
theorem completes_of_inject {s : State} {k : Side} {op reg : Nat} {h : Header} {room : Bool} {q : Sparse Nat → Prop} (hk : s.hasSide k = true)
    (ht : ((s.stack k).ringTag h.src h.tag).st < 2) (he : (s.stack k).interfaceError op h = false)
    (hroom : room = true ∨ takesTag op = false) (htok : (s.stack k).tokensFor reg (1 + h.len) = true)
    (hq : q ((s.stack k).takeTokens reg (1 + h.len)).rings.tokens) :
    Completes (.requestInject k op h reg room) s k [.rings] [] fun t => q t.rings.tokens ∧
      t.rings.packets = ((s.stack k).launch op { h with birth := (s.stack k).get RING.EPOCH_COUNT % 65536, cls := (s.stack k).classFor reg }
        (h.src / 32) (some (h.src % 32)) ((s.stack k).destinationOf op h.addr).1 ((s.stack k).destinationOf op h.addr).2).rings.packets ∧
      t.ringTag h.src h.tag = if takesTag op then (s.stack k).acceptedTag 2 false h else (s.stack k).ringTag h.src h.tag := by
  have hpackets := (s.stack k).sent_packets op reg h
  refine completes_of_onStack (f := Stack.inject op h reg room) hk rfl ?_ ?_ <;> rw [Stack.inject_sent ht he hroom htok] <;>
    cases takesTag op
  · exact Stack.sent_onlyChanges _ _ _ _ (by simp)
  · exact (Stack.sent_onlyChanges _ _ _ _ (by simp)).trans (Stack.setTag_onlyChanges _ _ _ _ (by simp))
  · exact ⟨hq, hpackets, Stack.sent_ringTag _ _ _ _ _ _⟩
  · exact ⟨hq, hpackets, Stack.ringTag_setTag _ _ _ _⟩

end Sys2Proof.Machine
end

section
/-! SUPPORT. Host accesses: sent on the rings, kept while the link is down, or answered ERROR (R539 to R543, R546, R552). -/

namespace Sys2Proof.Machine

section
variable {P : List Part} {F : List Field} {s : Stack} {r : HostReq} {g : Nat}

/-- A change of the host interface is one of that part. -/
theorem Stack.hostif_onlyChanges (s : Stack) (x : HostIf) (hx : .hostif ∈ P) : s.OnlyChanges P F { s with hostif := x } := by
  refine ⟨rfl, rfl, fun p hp => ?_, fun _ _ => rfl⟩
  cases p
  case hostif => exact absurd hx hp
  all_goals rfl

theorem HostReq.normal_addr (r : HostReq) : r.normal.addr = r.addr := by
  unfold HostReq.normal
  split
  · split <;> rfl
  · rfl

theorem HostReq.normal_of_kind (hl : r.kind ≠ .load) (hs : r.kind ≠ .store) : r.normal = r := by
  unfold HostReq.normal
  split
  · split
    · exact absurd ‹_› hl
    · exact absurd ‹_› hs
    · rfl
  · rfl

/-! ## Where an access goes -/

/-- With the link up and nothing ahead, what HOSTIF does not serve itself is issued. -/
theorem Stack.hostDo_issues (hr : s.hostRuns = true) (hl : s.linkUp = true) (hw : s.hostif.waiting = [])
    (ho : (ownLoc (r.addr % 2 ^ 44) && r.normal.accepted) = false) : s.hostDo r = s.hostIssue r.normal := by
  rw [← r.normal_addr] at ho
  unfold Stack.hostDo Stack.hostAccess
  dsimp only
  rw [hr, hl, hw, ho]
  rfl

/-- While no module is up an access waits in the host die, the newest last (R539). -/
theorem Stack.hostDo_waits (hr : s.hostRuns = true) (hl : s.linkUp = false) :
    s.hostDo r = ({ s with hostif := { s.hostif with waiting := s.hostif.waiting ++ [r.normal] } } : Stack).answered noAnswer [] := by
  unfold Stack.hostDo Stack.hostAccess
  simp [hr, hl]

/-! ## Requests sent (R328, R540) -/

theorem HostReq.header_src (r : HostReq) (g : Nat) : (r.header g).2.src = 0 ∧ (r.header g).2.tag = g := by
  unfold HostReq.header
  cases r.kind <;> exact ⟨rfl, rfl⟩

theorem HostReq.header_takesTag (r : HostReq) (g : Nat) : takesTag (r.header g).1 = true := by
  unfold HostReq.header
  cases r.kind <;> rfl

/-- An access in flight under a tag, with no answer yet. -/
def Stack.inFlight (s : Stack) (g : Nat) (r : HostReq) : Stack :=
  ({ s with hostif := { s.hostif with out := mapSet [] s.hostif.out g [r] } } : Stack).answered noAnswer []

theorem Stack.inFlight_out (s : Stack) (g : Nat) (r : HostReq) : mapGet [] (s.inFlight g r).hostif.out g = [r] := by
  simp [Stack.inFlight, Stack.answered]

theorem Stack.hostIssue_sent (ha : r.accepted = true) (hm : s.hostServes r = true)
    (hg : ((List.range 1024).find? fun g => (s.ringTag 0 g).st == 0) = some g) (he : s.interfaceError (r.header g).1 (r.header g).2 = false) :
    s.hostIssue r = (s.inject (r.header g).1 (r.header g).2 0 true).inFlight g r := by
  unfold Stack.hostIssue Stack.hostSend'
  simp only [ha, hm, hg, he, Bool.and_self, if_true, Bool.false_eq_true, if_false]
  rfl

/-- The request of an access under a free tag changes the rings, and the count of its regulator's waits; its tag is busy where the regulator
holds its tokens, and waits where not. -/
theorem Stack.inject_header (hr : .rings ∈ P) (hw : RING.REG_STAT_WAITS 0 ∈ F) (hg : (s.ringTag 0 g).st = 0)
    (he : s.interfaceError (r.header g).1 (r.header g).2 = false) :
    let t := s.inject (r.header g).1 (r.header g).2 0 true
    s.OnlyChanges P F t ∧ (t.ringTag 0 g).st = if s.tokensFor 0 (1 + (r.header g).2.len) then 2 else 1 := by
  have htake := r.header_takesTag g
  obtain ⟨hsrc, htag⟩ := r.header_src g
  have hfree : (s.ringTag (r.header g).2.src (r.header g).2.tag).st < 2 := by
    rw [hsrc, htag, hg]
    decide
  dsimp only
  cases hk : s.tokensFor 0 (1 + (r.header g).2.len) with
  | true =>
    rw [Stack.inject_sent hfree he (.inl rfl) hk, if_pos htake, hsrc, htag, Stack.ringTag_setTag]
    exact ⟨(s.sent_onlyChanges _ _ _ hr).trans (Stack.setTag_onlyChanges _ _ _ _ hr), rfl⟩
  | false =>
    rw [Stack.inject_waits hfree he htake hk, hsrc, htag, Stack.ringTag_setTag]
    exact ⟨(s.waitCounted_onlyChanges _ _ hw).trans (Stack.setTag_onlyChanges _ _ _ _ hr), rfl⟩

/-! ## Failures (R542, R546, R552) -/

/-- An access of a kind that no row of R541 lists is refused with ERROR. -/
theorem Stack.hostDo_other (core size addr : Nat) (data : List Nat) (hr : s.hostRuns = true) (hl : s.linkUp = true)
    (hw : s.hostif.waiting = []) : let r : HostReq := { kind := .other, core := core, size := size, addr := addr, data := data }
    s.hostDo r = s.hostDone Option.none r 1 [] := by
  intro r
  have hnormal : r.normal = r := HostReq.normal_of_kind HostKind.noConfusion HostKind.noConfusion
  have haccepted : r.normal.accepted = false := by
    rw [hnormal]
    rfl
  rw [Stack.hostDo_issues hr hl hw (by rw [haccepted, Bool.and_false]), Stack.hostIssue, haccepted, hnormal]
  rfl

/-- The fields that the first failure of an access writes. -/
def HostReq.failure (r : HostReq) : List (Field × Nat) :=
  [(HOSTIF.ERR_STATUS_VALID, 1), (HOSTIF.ERR_STATUS_STATUS, 1), (HOSTIF.ERR_STATUS_KIND, r.errKind), (HOSTIF.ERR_STATUS_CORE, r.core),
    (HOSTIF.ERR_ADDR_LO_ADDR, r.addr), (HOSTIF.ERR_ADDR_HI_ADDR, r.addr / 2 ^ 32), (HOSTIF.INT_ERR, 1)]

theorem Stack.writes_onlyChanges (s : Stack) (l : List (Field × Nat)) (hl : ∀ p ∈ l, p.1 ∈ F) : s.OnlyChanges P F (s.writes l) :=
  (Stack.OnlyChanges.refl s P F).puts l hl

/-- Register fields written leave every part as it was. -/
theorem Stack.writes_same (s : Stack) (l : List (Field × Nat)) (p : Part) : s.Same (s.writes l) p :=
  (s.writes_onlyChanges (P := []) (F := l.map (·.1)) l fun _ hp => List.mem_map_of_mem hp).part (by simp)

theorem Stack.hostFail_first (hv : s.flag HOSTIF.ERR_STATUS_VALID = false) : s.hostFail r 1 = s.writes r.failure := by
  unfold Stack.hostFail Stack.eventReg
  rw [hv]
  rfl

/-- The failed writes counted for the next fence. -/
def HostIf.failedWrite (x : HostIf) : HostIf :=
  { x with fenceStatus := if x.fenceStatus = 0 then 1 else x.fenceStatus, fenceFailed := x.fenceFailed + 1 }

/-- A failed write with no fence waiting counts for the next one (R546). -/
theorem Stack.writeEnded_failed (hf : s.hostif.fences = []) : s.writeEnded Option.none 1 = { s with hostif := s.hostif.failedWrite } := by
  unfold Stack.writeEnded
  simp [hf, fencesReady, HostIf.failedWrite]

/-- The stack after an access is answered ERROR with no failure recorded before: the failure's fields, and a failed write counted. -/
def Stack.refused (s : Stack) (r : HostReq) : Stack :=
  ({ s.writes r.failure with hostif := if r.isWrite then s.hostif.failedWrite else s.hostif } : Stack).answered 1 []

theorem Stack.refused_onlyChanges (s : Stack) (r : HostReq) (hr : ∀ p ∈ r.failure, p.1 ∈ F) (hh : .hostif ∈ P) (ha : .answer ∈ P) :
    s.OnlyChanges P F (s.refused r) :=
  ((s.writes_onlyChanges _ hr).trans (Stack.hostif_onlyChanges _ _ hh)).answered _ _ ha

/-- ERR_STATUS and ERR_ADDR hold the access, and INT.ERR is set (R552). -/
theorem Stack.get_refused (s : Stack) (r : HostReq) :
    let t := s.refused r
    t.get HOSTIF.ERR_STATUS_VALID = 1 ∧ t.get HOSTIF.ERR_STATUS_STATUS = 1 ∧ t.get HOSTIF.ERR_STATUS_KIND = r.errKind % 4 ∧
      t.get HOSTIF.ERR_STATUS_CORE = r.core % 4 ∧ t.get HOSTIF.ERR_ADDR_LO_ADDR = r.addr % 2 ^ 32 ∧
      t.get HOSTIF.ERR_ADDR_HI_ADDR = r.addr / 2 ^ 32 % 2 ^ 16 ∧ t.get HOSTIF.INT_ERR = 1 := by
  have hget (f : Field) : (s.refused r).get f = (s.writes r.failure).get f := by
    unfold Stack.refused
    generalize s.writes r.failure = x
    rfl
  refine ⟨?_, ?_, ?_, ?_, ?_, ?_, ?_⟩ <;>
    simp [hget, HostReq.failure, Stack.get_put_ne, HOSTIF.ERR_STATUS_VALID, HOSTIF.ERR_STATUS_STATUS, HOSTIF.ERR_STATUS_KIND,
      HOSTIF.ERR_STATUS_CORE, HOSTIF.ERR_ADDR_LO_ADDR, HOSTIF.ERR_ADDR_HI_ADDR, HOSTIF.INT_ERR]

theorem Stack.hostDone_error (hwin : r.window = false) (hv : s.flag HOSTIF.ERR_STATUS_VALID = false) (hf : s.hostif.fences = []) :
    s.hostDone Option.none r 1 [] = s.refused r := by
  have hhost : (s.writes r.failure).hostif = s.hostif := s.writes_same _ .hostif
  unfold Stack.hostDone Stack.refused
  dsimp only
  rw [if_neg Nat.one_ne_zero, Stack.hostFail_first hv]
  generalize s.writes r.failure = x at hhost ⊢
  rw [← hhost] at hf ⊢
  cases r.isWrite with
  | true => exact Stack.writeEnded_failed (s := x.answered 1 []) hf
  | false =>
    rw [hwin]
    rfl

end

end Sys2Proof.Machine
end

section
/-! The statement of host accesses. -/

namespace Sys2Proof.Machine

/-- Settles O30: each clause is the equation of an access that is issued, kept or refused. -/
theorem hostAccessesComplete : Obligations.HostAccessesComplete := by
  refine ⟨fun s k core addr size v g data p hk hp hr hl hw ho => ?_, fun s k core addr hk hr hl => ?_,
    fun s k core size addr data hk hr hl hw hf hv => ?_⟩
  · intro r ha hm hg he
    have hfree : ((s.stack k).ringTag 0 g).st = 0 := by simpa using List.find?_some hg
    have haddr : p.2.addr = addr ∧ exec p.1 s = .next (s.onStack k (Stack.hostDo p.2)) := by
      simp only [List.mem_cons, List.not_mem_nil, or_false] at hp
      rcases hp with rfl | rfl | rfl | rfl | rfl | rfl | rfl <;> exact ⟨rfl, rfl⟩
    obtain ⟨haddr, hexec⟩ := haddr
    have hdo : Stack.hostDo p.2 (s.stack k) = ((s.stack k).inject (r.header g).1 (r.header g).2 0 true).inFlight g r :=
      (Stack.hostDo_issues hr hl hw (by rw [haddr, ho]; rfl)).trans (Stack.hostIssue_sent ha hm hg he)
    obtain ⟨hframe, hst⟩ := Stack.inject_header (P := [.rings, .hostif, .answer]) (F := [RING.REG_STAT_WAITS 0]) (by simp) (by simp) hfree he
    have hhost : ((s.stack k).inject (r.header g).1 (r.header g).2 0 true).hostif = (s.stack k).hostif := by
      obtain ⟨hframe, -⟩ := Stack.inject_header (P := [.rings]) (F := [RING.REG_STAT_WAITS 0]) (by simp) (by simp) hfree he
      exact hframe.part (p := .hostif) (by simp)
    refine completes_of_onStack hk hexec ?_ ?_ <;> rw [hdo]
    · exact (hframe.trans (Stack.hostif_onlyChanges _ _ (by simp))).answered _ _ (by simp)
    · refine ⟨Stack.inFlight_out _ _ _, ?_, rfl, hst⟩
      rw [← hhost]
      rfl
  · refine completes_of_onStack (f := Stack.hostDo _) hk rfl ?_ ?_ <;> rw [Stack.hostDo_waits hr hl]
    · exact (Stack.hostif_onlyChanges _ _ (by simp)).answered _ _ (by simp)
    · rw [HostReq.normal_of_kind HostKind.noConfusion HostKind.noConfusion]
      exact ⟨rfl, rfl⟩
  · have hdo := (Stack.hostDo_other (s := s.stack k) core size addr data hr hl hw).trans (Stack.hostDone_error rfl hv hf)
    refine completes_of_onStack (f := Stack.hostDo _) hk rfl ?_ ?_ <;> rw [hdo]
    · exact Stack.refused_onlyChanges _ _ (by simp [HostReq.failure]) (by simp) (by simp)
    · obtain ⟨hvalid, hstatus, hkind, hcore, hlo, hhi, hint⟩ :=
        (s.stack k).get_refused { kind := .other, core := core, size := size, addr := addr, data := data }
      refine ⟨rfl, hvalid, hstatus, hkind.trans ?_, hcore, hlo, hhi, hint, ?_⟩
      · cases data <;> rfl
      · cases data <;> rfl

end Sys2Proof.Machine
end

section
/-! SUPPORT. Local store ports and lifetimes: a request taken with its response in order, a packet discarded (R316, R329, R349, R350). -/

namespace Sys2Proof.Machine

section
variable {P : List Part} {F : List Field} {s : Stack} {i p block : Nat} {be : Nat} {data : List Nat}

/-! ## Responses in a port's order -/

theorem Stack.setLocalPort_onlyChanges (s : Stack) (i p : Nat) (l : List Answer) (hx : .localPorts ∈ P) :
    s.OnlyChanges P F (s.setLocalPort i p l) := by
  refine ⟨rfl, rfl, fun p hp => ?_, fun _ _ => rfl⟩
  cases p
  case localPorts => exact absurd hx hp
  all_goals rfl

@[simp] theorem Stack.localPort_setLocalPort (s : Stack) (i p : Nat) (l : List Answer) : (s.setLocalPort i p l).localPort i p = l :=
  (mapGet_mapSet _ _ _ _ _).trans (if_pos rfl)

/-- A response added behind those that wait in a port (R349). -/
def Stack.pushLocal (s : Stack) (i p : Nat) (a : Answer) : Stack := s.setLocalPort i p (s.localPort i p ++ [a])

theorem Stack.OnlyChanges.pushLocal {t : Stack} (h : s.OnlyChanges P F t) (i p : Nat) (a : Answer) (hx : .localPorts ∈ P) :
    s.OnlyChanges P F (t.pushLocal i p a) := h.trans (t.setLocalPort_onlyChanges _ _ _ hx)

theorem Stack.localPort_pushLocal {t : Stack} (ht : t.localPorts = s.localPorts) (a : Answer) :
    (t.pushLocal i p a).localPort i p = s.localPort i p ++ [a] := by
  rw [Stack.pushLocal, Stack.localPort_setLocalPort, Stack.localPort, ht, ← Stack.localPort]

section
variable (hi : i < s.build.layers) (hl : (s.localPort i p).length < 32)
include hi hl

/-- A request refused by R350 is counted and answered with its refusal. -/
theorem Stack.localRequest_refused (write : Bool) (hc : s.localRefusal i block ≠ 0) : s.localRequest i p write block be data =
    ((s.bump (STORE.LOCAL_REFUSED i)).raise STORE.INT_LOCAL).pushLocal i p
      ⟨s.localRefusal i block, if write then [] else List.replicate 64 0⟩ := by
  unfold Stack.localRequest
  dsimp only
  rw [if_neg (by omega), if_pos (by simpa using hc)]
  rfl

theorem Stack.localRequest_read (hc : s.localRefusal i block = 0) (hm : ∀ j < 4, s.mark ((i * localBytes + 64 * block) / 16 + j) = .ok) :
    s.localRequest i p false block be data =
      s.pushLocal i p ⟨0, (s.readBytes (i * localBytes + 64 * block) 64).map BitVec.toNat⟩ := by
  unfold Stack.localRequest
  dsimp only
  rw [if_neg (by omega), hc, Stack.readPlain_clean hm]
  rfl

theorem Stack.localRequest_write (hc : s.localRefusal i block = 0) (hw : s.sys.writesEnabled = true) :
    s.localRequest i p true block be data =
      (s.writePlain (i * localBytes + 64 * block) ((List.range 64).map fun b => (data.getD b 0, bit be b)) 0).pushLocal i p ⟨0, []⟩ := by
  unfold Stack.localRequest
  dsimp only
  rw [if_neg (by omega), hc, hw]
  rfl

end

/-- A block written under its enables reads as its data where they are set. -/
theorem Stack.WroteTo.readByte_enabled {t : Stack} {loc n : Nat} {v : Nat → Nat} {e : Nat → Bool}
    (w : s.WroteTo (writeEnabledMem s.mem loc (((List.range n).map fun b => (v b, e b)).map fun p => (BitVec.ofNat 8 p.1, p.2))) t) (a : Nat) :
    t.readByte a = if loc ≤ a ∧ a < loc + n ∧ e (a - loc) = true then BitVec.ofNat 8 (v (a - loc)) else s.readByte a := by
  unfold Stack.readByte
  rw [w.mem, mapGet_writeEnabledMem_range]

theorem Stack.localResponse_oldest {a : Answer} {q : List Answer} (hq : s.localPort i p = a :: q) :
    s.localResponse i p = (s.setLocalPort i p q).answered a.status a.data := by
  unfold Stack.localResponse
  rw [hq]
  rfl

/-! ## Tags and packets of age 586 (R316, R329) -/

theorem Stack.quarantineExpiry_quarantined {n g : Nat} (hq : (s.ringTag n g).st = 3) :
    s.quarantineExpiry n g = if 586 ≤ s.age (s.ringTag n g).birth then s.setTag n g {} else s := by
  unfold Stack.quarantineExpiry
  simp only [hq, true_and]

/-- The oldest packet on the way with a BIRTH, gone (R316). -/
def discarded (l : List Packet) (birth : Nat) : List Packet :=
  match l.find? fun p => !p.arrived && p.head.birth == birth % 65536 with
  | some p => l.erase p
  | Option.none => l

theorem Stack.lifetimeDiscard_due {birth : Nat} (ha : 586 ≤ s.age birth) : s.lifetimeDiscard birth =
    ((s.withPackets (discarded s.rings.packets birth)).bump RING.DISCARD_LIFETIME).raise RING.INT_DISCARD := if_pos ha

theorem Stack.withPackets_onlyChanges (s : Stack) (l : List Packet) (hx : .rings ∈ P) : s.OnlyChanges P F (s.withPackets l) :=
  s.rings_onlyChanges _ hx

end

end Sys2Proof.Machine
end

section
/-! The statement of local store ports and interfaces. -/

namespace Sys2Proof.Machine

/-- Settles O28: each clause is the equation of its operation under the conditions that it names, with the frames of its updates. -/
theorem localPortsAndInterfacesComplete : Obligations.LocalPortsAndInterfacesComplete := by
  refine ⟨fun s k i p write block be data hk hi hl => ⟨fun hc => ?_, fun hc hm => ⟨?_, fun hw hj => ?_⟩⟩, fun s k i p a q hk hq => ?_,
    fun s k m made hk => ?_, fun s k op h reg room hk hst => ⟨fun he => ?_, fun he hroom hreg => ?_, fun he hroom hreg hrate htok => ?_,
      fun he htag hroom hreg hrate htok => ?_⟩, fun s k n g hk hq => ?_, fun s k birth hk => ?_, fun s k posted hk => ?_⟩
  · refine completes_of_onStack (f := Stack.localRequest i p write block be data) hk rfl ?_ ?_ <;>
      rw [Stack.localRequest_refused hi hl write hc]
    · exact (((Stack.OnlyChanges.refl _ _ _).bump _ (by simp)).raise (by simp)).pushLocal _ _ _ (by simp)
    · exact ⟨Stack.localPort_pushLocal rfl _, Stack.get_raise_same _ _⟩
  · refine completes_of_onStack (f := Stack.localRequest i p false block be data) hk rfl ?_ ?_ <;>
      rw [Stack.localRequest_read hi hl hc hm]
    · exact (Stack.OnlyChanges.refl _ _ _).pushLocal _ _ _ (by simp)
    · rw [Stack.localPort_pushLocal rfl, Stack.readBytes, List.map_map]
      rfl
  · have w := (s.stack k).writePlain_clean (loc := i * localBytes + 64 * block) ((List.range 64).map fun b => (data.getD b 0, bit be b))
      (by simpa using hm) hj
    refine completes_of_onStack (f := Stack.localRequest i p true block be data) hk rfl ?_ ?_ <;>
      rw [Stack.localRequest_write hi hl hc hw]
    · exact (w.frame.mono (by simp) (by simp)).pushLocal _ _ _ (by simp)
    · exact ⟨Stack.localPort_pushLocal (w.frame.part (p := .localPorts) (by simp)) _, w.marks, w.readByte_enabled⟩
  · refine completes_of_onStack (f := Stack.localResponse i p) hk rfl ?_ ?_ <;> rw [Stack.localResponse_oldest hq]
    · exact (Stack.setLocalPort_onlyChanges _ _ _ _ (by simp)).answered _ _ (by simp)
    · exact ⟨rfl, Stack.localPort_setLocalPort _ _ _ _⟩
  · refine completes_of_onStack (f := Stack.refresh m made) hk rfl (Stack.put_onlyChanges _ _ (by simp)) ?_
    have hsmall : min ((s.stack k).get (STORE.REFRESH_DEBT m) + 1 - made) 255 < 2 ^ 8 := by omega
    exact (Stack.get_put_same _ _ _).trans (Nat.mod_eq_of_lt hsmall)
  · refine completes_of_onStack (f := Stack.inject op h reg room) hk rfl ?_ ?_ <;> rw [Stack.inject_error hst he]
    · exact (Stack.setTag_onlyChanges _ _ _ _ (by simp)).answered _ _ (by simp)
    · exact ⟨rfl, congrArg RingTag.st (Stack.ringTag_setTag _ _ _ {})⟩
  · have hfree : (s.stack k).unregulated reg := hreg.imp_left fun h => by omega
    refine completes_of_inject (q := fun x => x = (s.stack k).rings.tokens) hk hst he hroom (Stack.tokensFor_unregulated hfree _) ?_
    rw [Stack.takeTokens_unregulated hfree]
  · have hheld : ¬ (s.stack k).unregulated reg := not_or.2 ⟨by omega, hrate⟩
    exact completes_of_inject (q := fun x => mapGet 0 x reg = mapGet 0 (s.stack k).rings.tokens reg - 16 * (1 + h.len)) hk hst he hroom
      ((Stack.tokensFor_regulated hheld _).trans (decide_eq_true htok)) (Stack.takeTokens_regulated hheld _)
  · have hheld : ¬ (s.stack k).unregulated reg := not_or.2 ⟨by omega, hrate⟩
    have hshort : (s.stack k).tokensFor reg (1 + h.len) = false := (Stack.tokensFor_regulated hheld _).trans (decide_eq_false (by omega))
    subst hroom
    refine completes_of_onStack (f := Stack.inject op h reg true) hk rfl ?_ ?_ <;> rw [Stack.inject_waits hst he htag hshort]
    · exact Stack.OnlyChanges.trans (Stack.waitCounted_onlyChanges _ _ _ (by simp)) (Stack.setTag_onlyChanges _ _ _ _ (by simp))
    · exact ⟨(congrArg Rings.tokens ((s.stack k).waitCounted_rings reg h) :), congrArg RingTag.st (Stack.ringTag_setTag ..)⟩
  · refine completes_of_onStack (f := Stack.quarantineExpiry n g) hk rfl ?_ ?_ <;> rw [Stack.quarantineExpiry_quarantined hq]
    · split
      · exact Stack.setTag_onlyChanges _ _ _ _ (by simp)
      · exact Stack.OnlyChanges.refl _ _ _
    · split
      · exact congrArg RingTag.st (Stack.ringTag_setTag ..)
      · exact hq
  · by_cases ha : 586 ≤ (s.stack k).age birth
    · refine completes_of_onStack (f := Stack.lifetimeDiscard birth) hk rfl ?_ ?_ <;> rw [Stack.lifetimeDiscard_due ha]
      · exact ((Stack.withPackets_onlyChanges _ _ (by simp)).bump _ (by simp)).raise (by simp)
      · exact (if_pos ha).mpr ⟨(Stack.get_raise_ne _ (by decide)).trans (Stack.get_bump_sat _ _ _), Stack.get_raise_same _ _, rfl⟩
    · have hkeep : Stack.lifetimeDiscard birth (s.stack k) = s.stack k := if_neg ha
      refine completes_of_onStack (f := Stack.lifetimeDiscard birth) hk rfl ?_ ?_ <;> rw [hkeep]
      · exact Stack.OnlyChanges.refl _ _ _
      · exact (if_neg ha).mpr rfl
  · refine completes_of_onStack (f := Stack.unassigned posted) hk rfl ?_ ?_ <;> cases posted
    · exact Stack.answered_onlyChanges _ _ _ (by simp)
    · exact Stack.answered_onlyChanges _ _ _ (by simp)
    · rfl
    · rfl

end Sys2Proof.Machine
end

section
/-! SUPPORT. Epochs, the timetable window and guaranteed flits, each where nothing else waits (R317 to R335). -/

namespace Sys2Proof.Machine

/-- An effect on one stack that leaves its mode and its recoveries is that effect alone: neither Haven nor the pair takes part (R45, R581). -/
theorem State.onStackFault_calm {s : State} {k : Side} {f : Stack → Stack} (hk : s.hasSide k = true)
    (hm : (f (s.stack k)).mode = (s.stack k).mode) (hs : (f (s.stack k)).sys = (s.stack k).sys) : s.onStackFault k f = s.onStack k f := by
  have hrec : (f (s.stack k)).stackRecovery = (s.stack k).stackRecovery := by
    unfold Stack.stackRecovery
    rw [hs]
  unfold State.onStackFault
  dsimp only
  rw [State.onStack_stack _ _ hk, hm, hrec, if_neg fun h => h.2 h.1]
  cases (s.stack k).stackRecovery <;> rfl

/-- A command whose effect on one stack leaves its mode and its recoveries completes when that effect does. -/
theorem completes_of_onStackFault {P : List Part} {F : List Field} {c : Instr} {s : State} {k : Side} {f : Stack → Stack} {post : Stack → Prop}
    (hk : s.hasSide k = true) (he : exec c s = .next (s.onStackFault k f)) (hm : .mode ∉ P) (hs : .sys ∉ P)
    (hf : (s.stack k).OnlyChanges P F (f (s.stack k))) (hp : post (f (s.stack k))) : Completes c s k P F post :=
  completes_of_onStack hk (he.trans (congrArg _ (State.onStackFault_calm hk (hf.part hm) (hf.part hs)))) hf hp

/-- A command that counts an event and sets its interrupt. -/
theorem completes_of_counted {c : Instr} {s : State} {k : Side} {f : Stack → Stack} {count int : Field} (hk : s.hasSide k = true)
    (he : exec c s = .next (s.onStack k f)) (hf : f (s.stack k) = ((s.stack k).bump count).raise int) (hne : int.key ≠ count.key) :
    Completes c s k [] [count, int] fun t =>
      t.get count = min ((s.stack k).get count + 1) (2 ^ count.width - 1) ∧ t.get int = 1 % 2 ^ int.width := by
  refine completes_of_onStack hk he ?_ ?_ <;> rw [hf]
  · exact ((Stack.OnlyChanges.refl _ _ _).bump _ (by simp)).raise (by simp)
  · exact ⟨(Stack.get_raise_ne _ hne).trans (Stack.get_bump_sat _ _ _), Stack.get_raise_same _ _⟩

section
variable {P : List Part} {F : List Field} {s : Stack}

/-! ## Buckets (R327) -/

/-- The stack with other tokens in its regulators' buckets. -/
def Stack.withTokens (s : Stack) (x : Sparse Nat) : Stack := { s with rings := { s.rings with tokens := x } }

/-- What a regulator's bucket holds after an epoch boundary. -/
def Stack.filled (s : Stack) (r : Nat) : Nat := min (mapGet 0 s.rings.tokens r + s.regulatorRate r) (16 * s.burst r)

theorem Stack.refill_eq (s : Stack) :
    s.refill = (List.range 10).foldl (fun s r => s.withTokens (mapSet 0 s.rings.tokens r (s.filled r))) s := rfl

/-- Each bucket is filled once, from what it held. -/
theorem Stack.refill_tokens (s : Stack) : ∃ x, s.refill = s.withTokens x ∧
    ∀ r, mapGet 0 x r = if r < 10 then s.filled r else mapGet 0 s.rings.tokens r := by
  rw [Stack.refill_eq]
  generalize 10 = n
  induction n with
  | zero => exact ⟨_, rfl, fun r => (if_neg (Nat.not_lt_zero r)).symm⟩
  | succ n ih =>
    obtain ⟨x, hx, hget⟩ := ih
    refine ⟨mapSet 0 x n (s.filled n), ?_, fun r => ?_⟩
    · rw [List.range_succ, List.foldl_append, hx]
      have hn : (s.withTokens x).filled n = s.filled n := by
        have hold : mapGet 0 x n = mapGet 0 s.rings.tokens n := (hget n).trans (if_neg (Nat.lt_irrefl n))
        show min (mapGet 0 x n + _) _ = _
        rw [hold]
        rfl
      show (s.withTokens x).withTokens (mapSet 0 x n ((s.withTokens x).filled n)) = _
      rw [hn]
      rfl
    · rw [mapGet_mapSet, hget]
      by_cases hr : n = r
      · rw [if_pos hr, if_pos (by omega), hr]
      · rw [if_neg hr]
        by_cases hlt : r < n
        · rw [if_pos hlt, if_pos (by omega)]
        · rw [if_neg hlt, if_neg (by omega)]

/-! ## Epoch boundaries (R317, R325) -/

/-- An epoch counted and the buckets filled. -/
def Stack.epochCounted (s : Stack) : Stack := (s.bumpWrap RING.EPOCH_COUNT).refill

/-- The count advances, wrapping, and the buckets fill by rates that no count changes. -/
theorem Stack.epochCounted_eq (s : Stack) : ∃ x, s.epochCounted = (s.bumpWrap RING.EPOCH_COUNT).withTokens x ∧
    ∀ r, mapGet 0 x r = if r < 10 then s.filled r else mapGet 0 s.rings.tokens r := by
  obtain ⟨x, hx, hget⟩ := (s.bumpWrap RING.EPOCH_COUNT).refill_tokens
  refine ⟨x, hx, fun r => (hget r).trans ?_⟩
  have hne (f : Field) (hf : RING.EPOCH_COUNT.key ≠ f.key) : (s.bumpWrap RING.EPOCH_COUNT).get f = s.get f := Stack.get_put_ne s _ hf
  have hrate : (s.bumpWrap RING.EPOCH_COUNT).regulatorRate r = s.regulatorRate r := by
    unfold Stack.regulatorRate
    rw [hne _ (by simp [RING.EPOCH_COUNT, RING.REG_CFG_RATE]; omega), hne _ (by simp [RING.EPOCH_COUNT, THERM.FACTOR_F])]
  have hburst : (s.bumpWrap RING.EPOCH_COUNT).burst r = s.burst r := by
    unfold Stack.burst
    rw [hne _ (by simp [RING.EPOCH_COUNT, RING.REG_CFG_BURST]; omega)]
  unfold Stack.filled
  rw [hrate, hburst]
  rfl

theorem Stack.epochCounted_onlyChanges (s : Stack) (hr : .rings ∈ P) (hf : RING.EPOCH_COUNT ∈ F) : s.OnlyChanges P F s.epochCounted := by
  obtain ⟨x, hx, -⟩ := s.epochCounted_eq
  rw [hx]
  exact ((Stack.OnlyChanges.refl s P F).bumpWrap 1 hf).trans (Stack.rings_onlyChanges _ _ hr)

theorem Stack.copyDone_idle (hc : s.flag RING.TT_STATUS_COPY = false) : s.copyDone = s := if_neg (by simp [hc])

/-- With no remap and no retirement waiting an epoch boundary leaves the links alone (R383, R384). -/
theorem Stack.linkEpoch_idle (hm : s.integ.remaps = []) (hr : s.integ.retire = []) : s.linkEpoch = s := by
  have hinteg : ({ s.integ with remaps := [], retire := [] } : Integrity) = s.integ := by rw [← hm, ← hr]
  unfold Stack.linkEpoch
  simp only [hm, hr, List.filter_nil, List.map_nil, List.foldl_nil, List.isEmpty_nil, if_true, hinteg]

/-- The staged bank live in both banks, with no turn waiting for the swap (R325). -/
def Stack.bankSwapped (s : Stack) : Stack :=
  { s with
    rings := { s.rings with live := s.rings.staged }
    turn := { s.turn with ttPending := false, ttVariant := Option.none } }

/-- The swap of a base timetable writes the fields of its bank (R325). -/
theorem Stack.ttSwap_base (hv : s.turn.ttVariant = Option.none) : s.ttSwap = s.bankSwapped.writes
    [(RING.TT_GEN_GEN, s.get RING.TT_GEN_GEN.staged), (RING.TT_STATUS_VARIANT, 0), (RING.TT_STATUS_BOOT, 0), (RING.TT_STATUS_COPY, 1)] := by
  unfold Stack.ttSwap
  rw [hv]
  rfl

/-- The fields of the bank after the swap (R325). -/
theorem Stack.get_ttSwap_base (hv : s.turn.ttVariant = Option.none) : s.ttSwap.get RING.TT_STATUS_VARIANT = 0 ∧
    s.ttSwap.get RING.TT_STATUS_BOOT = 0 ∧ s.ttSwap.get RING.TT_STATUS_COPY = 1 := by
  rw [Stack.ttSwap_base hv]
  refine ⟨?_, ?_, ?_⟩ <;>
    simp [Stack.get_put_ne, RING.TT_GEN_GEN, RING.TT_STATUS_VARIANT, RING.TT_STATUS_BOOT, RING.TT_STATUS_COPY]

theorem Stack.ttSwap_base_same (hv : s.turn.ttVariant = Option.none) (p : Part) : s.bankSwapped.Same s.ttSwap p := by
  rw [Stack.ttSwap_base hv]
  exact Stack.writes_same _ _ _

theorem Stack.bankSwapped_onlyChanges (s : Stack) (hr : .rings ∈ P) (ht : .turn ∈ P) : s.OnlyChanges P F s.bankSwapped := by
  refine ⟨rfl, rfl, fun p hp => ?_, fun _ _ => rfl⟩
  cases p
  case rings => exact absurd hr hp
  case turn => exact absurd ht hp
  all_goals rfl

section
variable (hrun : s.ringsRun = true) (hcm : s.turn.chmapPending = false) (hc : s.flag RING.TT_STATUS_COPY = false)
  (hm : s.integ.remaps = []) (hr : s.integ.retire = [])
include hrun hcm hc hm hr

/-- Where no copy, channel map, remap or retirement waits, the boundary counts, fills and swaps a base timetable that waits. -/
theorem Stack.epochBoundary_swaps (hv : s.turn.ttPending = true → s.turn.ttVariant = Option.none) :
    s.epochBoundary = if s.turn.ttPending then s.epochCounted.ttSwap else s.epochCounted := by
  have hframe := s.epochCounted_onlyChanges (P := [.rings]) (F := [RING.EPOCH_COUNT]) (by simp) (by simp)
  have hturn : s.epochCounted.turn = s.turn := hframe.part (p := .turn) (by simp)
  have hinteg : s.epochCounted.integ = s.integ := hframe.part (p := .integ) (by simp)
  have hcopy : ((s.bumpWrap RING.EPOCH_COUNT).refill).copyDone = s.epochCounted := Stack.copyDone_idle (by
    obtain ⟨_, _, _, hget⟩ := hframe
    exact (congrArg (· != 0) (hget RING.TT_STATUS_COPY (by simp [RING.EPOCH_COUNT, RING.TT_STATUS_COPY]))).trans hc)
  unfold Stack.epochBoundary
  dsimp only
  rw [hrun, hcopy, hturn]
  cases hp : s.turn.ttPending with
  | true =>
    have hswap := Stack.ttSwap_base_same (s := s.epochCounted) (hturn ▸ hv hp)
    have hmap : s.epochCounted.ttSwap.turn.chmapPending = false :=
      (congrArg Turn.chmapPending (hswap .turn)).trans ((congrArg Turn.chmapPending hturn).trans hcm)
    have hlinks : s.epochCounted.ttSwap.integ = s.integ := (hswap .integ).trans hinteg
    simp only [Bool.not_true, Bool.false_eq_true, if_false, if_true, hmap]
    exact Stack.linkEpoch_idle (hlinks ▸ hm) (hlinks ▸ hr)
  | false =>
    simp only [Bool.not_true, Bool.false_eq_true, if_false, hturn, hcm]
    exact Stack.linkEpoch_idle (hinteg ▸ hm) (hinteg ▸ hr)

end

/-! ## The timetable window (R323, R325, R338) -/

theorem Stack.winAdvance_onlyChanges (s : Stack) (hf : RING.WIN_ADDR_ADDR ∈ F) : s.OnlyChanges P F s.winAdvance := by
  unfold Stack.winAdvance
  split
  · exact s.put_onlyChanges _ hf
  · exact Stack.OnlyChanges.refl _ _ _

theorem Stack.winAdvance_same (s : Stack) (p : Part) : s.Same s.winAdvance p :=
  (s.winAdvance_onlyChanges (P := []) (F := [_]) (List.mem_singleton_self _)).part (by simp)

theorem Stack.winAdvance_build (s : Stack) : s.winAdvance.build = s.build := by
  unfold Stack.winAdvance
  split <;> rfl

/-- ADDR advances with AUTOINC, wrapping (R338). -/
theorem Stack.get_winAdvance (s : Stack) : s.winAdvance.get RING.WIN_ADDR_ADDR =
    if s.flag RING.WIN_ADDR_AUTOINC then (s.get RING.WIN_ADDR_ADDR + 1) % 2 ^ 22 else s.get RING.WIN_ADDR_ADDR := by
  unfold Stack.winAdvance
  split
  · exact Stack.get_put_same _ _ _
  · rfl

/-- What a window write leaves of the rings: nothing with LIVE 1, a waiting word during a copy, else the staged word. -/
def Stack.winWritten (s : Stack) (v : Nat) : Rings :=
  if s.flag RING.WIN_ADDR_LIVE then s.rings
  else if s.flag RING.TT_STATUS_COPY then { s.rings with waiting := s.rings.waiting ++ [(s.get RING.WIN_ADDR_ADDR, v)] }
  else { s.rings with staged := ttWrite s.build s.rings.staged (s.get RING.WIN_ADDR_ADDR) v }

theorem Stack.winWritten_live (v : Nat) : (s.winWritten v).live = s.rings.live := by
  unfold Stack.winWritten
  split
  · rfl
  · split <;> rfl

theorem Stack.winWritten_liveBank (hl : s.flag RING.WIN_ADDR_LIVE = true) (v : Nat) : s.winWritten v = s.rings := if_pos hl

theorem Stack.winWritten_copying (hl : s.flag RING.WIN_ADDR_LIVE = false) (hc : s.flag RING.TT_STATUS_COPY = true) (v : Nat) :
    s.winWritten v = { s.rings with waiting := s.rings.waiting ++ [(s.get RING.WIN_ADDR_ADDR, v)] } := by
  rw [Stack.winWritten, hl, hc]
  rfl

theorem Stack.winWritten_staged (hl : s.flag RING.WIN_ADDR_LIVE = false) (hc : s.flag RING.TT_STATUS_COPY = false) (v : Nat) :
    s.winWritten v = { s.rings with staged := ttWrite s.build s.rings.staged (s.get RING.WIN_ADDR_ADDR) v } := by
  rw [Stack.winWritten, hl, hc]
  rfl

theorem Stack.winData_write (ha : s.firmwareArmed = false) (v : Nat) :
    s.winData true v = ({ s with rings := s.winWritten v } : Stack).winAdvance := by
  unfold Stack.winData Stack.winWritten
  dsimp only
  rw [if_pos rfl, ha]
  cases s.flag RING.WIN_ADDR_LIVE <;> cases s.flag RING.TT_STATUS_COPY <;> rfl

theorem Stack.ttWord_of_build {t : Stack} (hb : t.build = s.build) (m : Sparse Nat) (a : Nat) : t.ttWord m a = s.ttWord m a := by
  unfold Stack.ttWord
  rw [hb]

theorem Stack.ttWord_hub (m : Sparse Nat) {a : Nat} (ht : a / 2 ^ 20 % 4 = 1) (hb : bits a 17 3 ≤ s.build.layers) :
    s.ttWord m a = mapGet 0 m (hubKey (bits a 17 3) (bits a 0 12)) := by
  unfold Stack.ttWord
  rw [ht]
  exact if_pos hb

theorem ttWrite_hub {b : Build} (m : Sparse Nat) {a : Nat} (v : Nat) (ht : a / 2 ^ 20 % 4 = 1) (hb : bits a 17 3 ≤ b.layers) :
    ttWrite b m a v = mapSet 0 m (hubKey (bits a 17 3) (bits a 0 12)) (v % 2 ^ 18) := by
  unfold ttWrite
  rw [ht]
  exact if_pos hb

/-- A hub-table word that is written reads back, its reserved bits dropped (R319, R323). -/
theorem Stack.ttWord_ttWrite_hub (s : Stack) (m : Sparse Nat) {a : Nat} (v : Nat) (ht : a / 2 ^ 20 % 4 = 1)
    (hb : bits a 17 3 ≤ s.build.layers) : s.ttWord (ttWrite s.build m a v) a = v % 2 ^ 18 := by
  rw [Stack.ttWord_hub _ ht hb, ttWrite_hub _ _ ht hb, mapGet_mapSet, if_pos rfl]

/-! ## Guaranteed flits of fabric and engine producers (R321, R333, R335) -/

section
variable {hub stop chan poison ring hop slot : Nat} {data : List Nat}

/-- A flit that crosses a degraded hop in a dead slot is lost (R335). -/
theorem Stack.guaranteedFlit_dead (hr : ring < 4) (hh : s.hopRetired ring hop ≠ 0) (hs : slot % 4 = 3) :
    s.guaranteedFlit hub stop chan 0 data poison ring hop slot = s.gqLoss RING.GQ_LOSS_DEAD := by
  unfold Stack.guaranteedFlit
  dsimp only
  rw [if_neg (by simp), if_pos ⟨hr, hh, hs⟩]
  rfl

/-- In a stop in bypass it is discarded (R333). -/
theorem Stack.guaranteedFlit_bypassed (hb : s.stopBypassed hub stop = true) :
    s.guaranteedFlit hub stop chan 0 data poison 4 hop slot = (s.bump RING.DISCARD_BYPASS).raise RING.INT_DISCARD := by
  unfold Stack.guaranteedFlit
  dsimp only
  rw [if_neg (by simp), if_neg (by simp), if_pos rfl, if_pos hb]

/-- At any other stop of a layer it is passed on with its channel (R321). -/
theorem Stack.guaranteedFlit_passed (hh : hub ≠ 0) (hb : s.stopBypassed hub stop = false) :
    s.guaranteedFlit hub stop chan 0 data poison 4 hop slot = s.answered 0 (chan :: poison :: data) := by
  unfold Stack.guaranteedFlit
  dsimp only
  rw [if_neg (by simp), if_neg (by simp), if_pos rfl, if_neg (by simp [hb]), if_neg fun h => hh h.1, if_neg fun h => hh h.1]
  rfl

section
variable (hlo : 2 ≤ stop) (hhi : stop ≤ 9)
include hlo hhi

/-- At a port whose cursor is exhausted it is lost (R321). -/
theorem Stack.guaranteedFlit_noCursor (hc : (mapGet {} s.rings.cursors (chanKey 0 stop chan)).left = 0) :
    s.guaranteedFlit 0 stop chan 0 data poison 4 hop slot = s.gqLoss RING.GQ_LOSS_NO_CURSOR := by
  unfold Stack.guaranteedFlit
  dsimp only
  rw [if_neg (by simp), if_neg (by simp), if_pos rfl, if_neg (by simp [Stack.stopBypassed]), if_pos ⟨rfl, hlo, hhi⟩, if_pos hc]

/-- At a port with flits left, whose cursor names a place in the commons, its bytes are written there and the cursor moves on (R321). -/
theorem Stack.guaranteedFlit_commons {c : Cursor} (hc : mapGet {} s.rings.cursors (chanKey 0 stop chan) = c) (hl : c.left ≠ 0)
    (hw : s.writesIgnored 32 = false) (ht : targetOf (c.addr % 2 ^ 44) = .commons) :
    s.guaranteedFlit 0 stop chan 0 data poison 4 hop slot =
      ((s.cursorAt stop chan ⟨c.addr + 64, c.left - 1⟩).writePlain (c.addr % 2 ^ 44) (data.map fun b => (b, true)) poison).countFlits true
        (c.addr % 2 ^ 44) 1 := by
  unfold Stack.guaranteedFlit
  dsimp only
  rw [if_neg (by simp), if_neg (by simp), if_pos rfl, if_neg (by simp [Stack.stopBypassed]), if_pos ⟨rfl, hlo, hhi⟩, hc, if_neg hl, ht]
  exact (if_neg (ne_true_of_eq_false hw)).trans rfl

end

/-- A whole flit written to a clean place of the commons and counted at its port (R321, R354). -/
theorem Stack.writePlain_flit {loc : Nat} (ht : targetOf loc = .commons) (hm : ∀ i < 4, s.mark (loc / 16 + i) = .ok)
    (hj : s.flag CODE.INJECT_ARM = false) (hd : data.length = 64) :
    let t := (s.writePlain loc (data.map fun b => (b, true)) 0).countFlits true loc 1
    s.OnlyChanges [.mem, .health] [COMN.WR_FLITS (commonsPort loc)] t ∧
      ∀ a, t.readByte a = if loc ≤ a ∧ a < loc + 64 then BitVec.ofNat 8 (data.getD (a - loc) 0) else s.readByte a := by
  have w := s.writePlain_clean (loc := loc) (data.map fun b => (b, true)) (by simpa [hd] using hm) hj
  have hlist : (data.map fun b => (b, true)) = (List.range 64).map fun i => (data.getD i 0, true) := by
    refine List.ext_getElem (by simp [hd]) fun i hi _ => ?_
    simp [List.getD_eq_getElem?_getD, show i < data.length by simpa using hi]
  rw [hlist] at w
  rw [hlist, Stack.countFlits_commons true ht]
  refine ⟨(w.frame.mono (by simp) (by simp)).bumpWrap _ (by simp), fun a => ?_⟩
  have hread := w.readByte_enabled (v := fun i => data.getD i 0) (e := fun _ => true) a
  simp only [and_true] at hread
  exact hread

end

end

end Sys2Proof.Machine
end

section
/-! The statement of timetables and guaranteed flits. -/

namespace Sys2Proof.Machine

/-- Settles O29: each clause is the equation of its operation where nothing else waits, with the frames of the updates that it names. -/
theorem timetablesAndGuaranteedFlitsComplete : Obligations.TimetablesAndGuaranteedFlitsComplete := by
  refine ⟨fun s k hk hrun htt hcm hc hm hr => ?_, fun s k hk hrun htt hv hcm hc hm hr => ?_, fun s k v hk => ?_,
    fun s k hub stop chan data poison hop slot hk => ⟨fun hh hb => ?_, fun hb => ?_, fun hh hlo hhi hl => ?_, fun ring hr hd hs => ?_⟩,
    fun s k stop chan data hop slot hk hlo hhi hd => ?_⟩
  · have hboundary : Stack.epochBoundary (s.stack k) = (s.stack k).epochCounted :=
      (Stack.epochBoundary_swaps hrun hcm hc hm hr fun h => absurd h (by simp [htt])).trans (if_neg (by simp [htt]))
    obtain ⟨x, hx, htokens⟩ := (s.stack k).epochCounted_eq
    refine completes_of_onStackFault (f := Stack.epochBoundary) hk rfl (by simp) (by simp) ?_ ?_ <;> rw [hboundary]
    · exact Stack.epochCounted_onlyChanges _ (by simp) (by simp)
    · rw [hx]
      exact ⟨Stack.get_bumpWrap_same _ _ _, htokens, rfl⟩
  · have hboundary : Stack.epochBoundary (s.stack k) = (s.stack k).epochCounted.ttSwap :=
      (Stack.epochBoundary_swaps hrun hcm hc hm hr fun _ => hv).trans (if_pos htt)
    have hframe := (s.stack k).epochCounted_onlyChanges (P := [.rings]) (F := [RING.EPOCH_COUNT]) (by simp) (by simp)
    have hturn : (s.stack k).epochCounted.turn = (s.stack k).turn := hframe.part (p := .turn) (by simp)
    have hbase : (s.stack k).epochCounted.turn.ttVariant = Option.none := (congrArg Turn.ttVariant hturn).trans hv
    have hstaged : (s.stack k).epochCounted.rings.staged = (s.stack k).rings.staged := by
      obtain ⟨x, hx, -⟩ := (s.stack k).epochCounted_eq
      rw [hx]
      rfl
    have hsame := Stack.ttSwap_base_same hbase
    refine completes_of_onStackFault (f := Stack.epochBoundary) hk rfl (by simp) (by simp) ?_ ?_ <;> rw [hboundary]
    · refine (hframe.mono (by simp) (by simp)).trans ?_
      rw [Stack.ttSwap_base hbase]
      exact (Stack.bankSwapped_onlyChanges _ (by simp) (by simp)).trans (Stack.writes_onlyChanges _ _ (by simp))
    · exact ⟨(congrArg Rings.live (hsame .rings)).trans hstaged, (congrArg Rings.staged (hsame .rings)).trans hstaged,
        congrArg Turn.ttPending (hsame .turn), Stack.get_ttSwap_base hbase⟩
  · intro a live next
    have hnext {t : Stack} (h : t.regs = (s.stack k).regs) : next t.winAdvance := by
      have hget := Stack.get_of_regs h
      have hadv := t.get_winAdvance
      rw [Stack.flag_of_get hget, hget] at hadv
      exact hadv
    refine ⟨?_, fun ha => ?_⟩
    · refine completes_of_onStack (f := Stack.winData false v) hk rfl ?_ ⟨hnext rfl, Stack.winAdvance_same _ .answer⟩
      exact (Stack.answered_onlyChanges _ _ _ (by simp)).trans (Stack.winAdvance_onlyChanges _ (by simp))
    · refine completes_of_onStack (f := Stack.winData true v) hk rfl ?_ ?_ <;> rw [Stack.winData_write ha]
      · exact (Stack.rings_onlyChanges _ _ (by simp)).trans (Stack.winAdvance_onlyChanges _ (by simp))
      · have hrings : (({ s.stack k with rings := (s.stack k).winWritten v } : Stack).winAdvance).rings = (s.stack k).winWritten v :=
          Stack.winAdvance_same _ .rings
        refine ⟨hnext rfl, ?_⟩
        rw [hrings]
        refine ⟨Stack.winWritten_live v, fun hl => Stack.winWritten_liveBank hl v, fun hl hc => ?_, fun hl hc => ?_⟩
        · rw [Stack.winWritten_copying hl hc]
          exact ⟨rfl, rfl⟩
        · rw [Stack.winWritten_staged hl hc]
          refine ⟨rfl, fun ht hb => ?_⟩
          exact (Stack.ttWord_of_build (Stack.winAdvance_build _) _ _).trans (Stack.ttWord_ttWrite_hub _ _ _ ht hb)
  · refine completes_of_onStack (f := Stack.guaranteedFlit hub stop chan 0 data poison 4 hop slot) hk rfl ?_ ?_ <;>
      rw [Stack.guaranteedFlit_passed hh hb]
    · exact Stack.answered_onlyChanges _ _ _ (by simp)
    · rfl
  · exact completes_of_counted hk rfl (Stack.guaranteedFlit_bypassed hb) (by decide)
  · subst hh
    exact completes_of_counted hk rfl (Stack.guaranteedFlit_noCursor hlo hhi hl) (by decide)
  · exact completes_of_counted hk rfl (Stack.guaranteedFlit_dead hr hd hs) (by decide)
  · intro c loc hl hw ht hm hj
    have hflit := Stack.guaranteedFlit_commons (chan := chan) (poison := 0) (hop := hop) (slot := slot) (data := data) (by omega) hhi rfl hl hw ht
    obtain ⟨hframe, hbytes⟩ := Stack.writePlain_flit (s := (s.stack k).cursorAt stop chan ⟨c.addr + 64, c.left - 1⟩) ht hm hj hd
    refine completes_of_onStack (f := Stack.guaranteedFlit 0 stop chan 0 data 0 4 hop slot) hk rfl ?_ ?_ <;> rw [hflit]
    · exact (Stack.cursorAt_onlyChanges _ _ _ _ (by simp)).trans (hframe.mono (by simp) fun _ h => h)
    · refine ⟨?_, hbytes⟩
      rw [hframe.part (p := .rings) (by simp)]
      exact Stack.cursorAt_cursor _ _ _ _

end Sys2Proof.Machine
end

section
/-! SUPPORT. A scrubber's visit that begins no lap: the codeword that it meets, and where the scrubber stands after it (R372, R377). -/

namespace Sys2Proof.Machine

theorem Stack.errorEvent_mark (s : Stack) (ue : Bool) (source loc symbol c : Nat) :
    (s.errorEvent ue source loc symbol).mark c = s.mark c :=
  congrArg (mapGet Health.ok · c) (s.errorEvent_health ue source loc symbol)

theorem Stack.mark_raise (s : Stack) (f : Field) (c : Nat) : (s.raise f).mark c = s.mark c := rfl

/-! ## The codeword -/

/-- What a visit does to the codeword of mark key `cw`: nothing to a clean one, else a correction or the poison pattern written back
(R372, R377). -/
def Stack.scrub (s : Stack) (cw source loc : Nat) : Stack :=
  match s.mark cw with
  | .ok => s
  | .symbol j => (s.errorEvent false source loc j).setMark cw .ok
  | _ => ((s.errorEvent true source loc 0x3F).setMark cw .poison).raise CODE.INT_POISON

section
variable {s : Stack} {cw : Nat} (source loc : Nat)

theorem Stack.scrub_ok (h : s.mark cw = .ok) : s.scrub cw source loc = s := by
  unfold Stack.scrub
  rw [h]

theorem Stack.scrub_symbol {j : Nat} (h : s.mark cw = .symbol j) :
    s.scrub cw source loc = (s.errorEvent false source loc j).setMark cw .ok := by
  unfold Stack.scrub
  rw [h]

theorem Stack.scrub_lost (h : s.mark cw = .uncorrectable ∨ s.mark cw = .poison) :
    s.scrub cw source loc = ((s.errorEvent true source loc 0x3F).setMark cw .poison).raise CODE.INT_POISON := by
  unfold Stack.scrub
  rcases h with h | h <;> rw [h]

end

/-- A codeword is clean, correctable, or lost (R366, R367). -/
theorem Health.ok_or_symbol_or_lost (h : Health) : h = .ok ∨ (∃ j, h = .symbol j) ∨ h = .uncorrectable ∨ h = .poison := by
  cases h <;> simp

/-- The marks after a visit: the codeword met is clean or poison, every other is as it was. -/
theorem Stack.scrub_mark (s : Stack) (cw source loc c : Nat) : (s.scrub cw source loc).mark c =
    if cw = c then (if s.mark cw = .uncorrectable ∨ s.mark cw = .poison then .poison else .ok) else s.mark c := by
  rcases (s.mark cw).ok_or_symbol_or_lost with h | ⟨j, h⟩ | h
  · rw [Stack.scrub_ok _ _ h]
    split
    · simp_all
    · rfl
  · rw [Stack.scrub_symbol _ _ h]
    simp [h, Stack.errorEvent_mark]
  · rw [Stack.scrub_lost _ _ h, if_pos h]
    simp [Stack.mark_raise, Stack.errorEvent_mark]

theorem Stack.scrub_onlyChanges (s : Stack) (cw source loc : Nat) : s.OnlyChanges [.integ, .health]
    [CODE.CE_CNT_COUNT source, CODE.UE_CNT_COUNT source, CODE.INT_UE, CODE.INT_POISON, CODE.LOG_STATUS_DROPPED]
    (s.scrub cw source loc) := by
  rcases (s.mark cw).ok_or_symbol_or_lost with h | ⟨j, h⟩ | h
  · rw [Stack.scrub_ok _ _ h]
    exact Stack.OnlyChanges.refl _ _ _
  · rw [Stack.scrub_symbol _ _ h]
    exact (s.errorEvent_onlyChanges _ _ _ _ (by simp) (by simp) (by simp) (by simp)).trans (Stack.setMark_onlyChanges _ _ _ (by simp))
  · rw [Stack.scrub_lost _ _ h]
    exact ((s.errorEvent_onlyChanges _ _ _ _ (by simp) (by simp) (by simp) (by simp)).trans
      (Stack.setMark_onlyChanges _ _ _ (by simp))).raise (by simp)

/-! ## The visit -/

/-- The stack with scrubber `n` at position `p`. -/
def Stack.scrubberAt (s : Stack) (n p : Nat) : Stack := { s with integ := { s.integ with scrubPos := mapSet 0 s.integ.scrubPos n p } }

theorem Stack.scrubberAt_scrubPos (s : Stack) (n p : Nat) : mapGet 0 (s.scrubberAt n p).integ.scrubPos n = p := by
  simp [Stack.scrubberAt]

/-- A visit that begins no lap scrubs the codeword at the position, cut to the array, and the scrubber stands one further (R377). -/
theorem Stack.scrubVisit_midLap {s : Stack} {n : Nat} (hr : s.scrubRuns n = true) (hp : mapGet 0 s.integ.scrubPos n % scrubWords n ≠ 0) :
    let p := mapGet 0 s.integ.scrubPos n % scrubWords n
    let place := s.scrubPlace n p
    s.scrubVisit n = (s.scrub place.1 place.2.1 place.2.2).scrubberAt n (p + 1) := by
  unfold Stack.scrubVisit
  simp only [hr, Bool.not_true, Bool.false_eq_true, if_false, if_neg hp]
  rfl

/-- What the visit does to the stack. The position that it leaves is one more than the position cut to the array: it is one more than
the position itself within the array alone. -/
theorem scrubVisit_completes {s : State} {k : Side} {n : Nat} (hk : s.hasSide k = true) (hr : (s.stack k).scrubRuns n = true)
    (hp : mapGet 0 (s.stack k).integ.scrubPos n % scrubWords n ≠ 0) :
    let p := mapGet 0 (s.stack k).integ.scrubPos n % scrubWords n
    let place := (s.stack k).scrubPlace n p
    let mark := (s.stack k).mark place.1
    Completes (.scrubVisit k n) s k [.integ, .health] [CODE.CE_CNT_COUNT place.2.1, CODE.UE_CNT_COUNT place.2.1, CODE.INT_UE,
        CODE.INT_POISON, CODE.LOG_STATUS_DROPPED] fun t =>
      mapGet 0 t.integ.scrubPos n = p + 1 ∧
      t.mark place.1 = (if mark = .uncorrectable ∨ mark = .poison then .poison else .ok) ∧
      (∀ a, a ≠ place.1 → t.mark a = (s.stack k).mark a) ∧
      (mark = .uncorrectable ∨ mark = .poison → t.get CODE.INT_POISON = 1) ∧
      (mark = .ok → t.health = (s.stack k).health ∧
        t.integ = { (s.stack k).integ with scrubPos := mapSet 0 (s.stack k).integ.scrubPos n (p + 1) }) := by
  intro p place mark
  have hvisit := Stack.scrubVisit_midLap hr hp
  refine completes_of_onStack (f := Stack.scrubVisit n) hk rfl ?_ ?_ <;> rw [hvisit]
  · exact ((s.stack k).scrub_onlyChanges _ _ _).trans (Stack.integ_onlyChanges _ _ (by simp))
  · refine ⟨?_, ?_, fun a ha => ?_, fun h => ?_, fun h => ?_⟩
    · exact Stack.scrubberAt_scrubPos _ _ _
    · exact ((s.stack k).scrub_mark _ _ _ _).trans (if_pos rfl)
    · exact ((s.stack k).scrub_mark _ _ _ _).trans (if_neg (Ne.symm ha))
    · rw [Stack.scrub_lost _ _ h]
      exact Stack.get_raise_same _ _
    · rw [Stack.scrub_ok _ _ h]
      exact ⟨rfl, rfl⟩

end Sys2Proof.Machine
end

section
/-! The statement of the integrity commands. -/

namespace Sys2Proof.Machine

/-- A package in Day whose commons scrubber, of 0x400000 codewords, stands at position 0x400001, beyond the last of its array. -/
def State.scrubberBeyondArray : State :=
  { State.reset with recto := { State.reset.recto with mode := .day, integ := { scrubPos := [(4, 0x400001)] } } }

/-- Refutes O25: the clause of the scrubber's visit claims the position one more, and a visit wraps it at the end of the array (R377).
From position 0x400001 the commons scrubber visits codeword 1 and goes to position 2, not 0x400002. -/
theorem not_integrityCommandsComplete : ¬ Obligations.IntegrityCommandsComplete := by
  intro h
  obtain ⟨-, -, -, -, hvisit, -⟩ := h
  have hr : (State.scrubberBeyondArray.stack .recto).scrubRuns 4 = true := by decide
  have hp : mapGet 0 (State.scrubberBeyondArray.stack .recto).integ.scrubPos 4 % scrubWords 4 ≠ 0 := by decide
  obtain ⟨t, ht, -, hclaimed, -⟩ := hvisit State.scrubberBeyondArray .recto 4 rfl hr hp
  obtain ⟨u, hu, -, hmodel, -⟩ := scrubVisit_completes (s := State.scrubberBeyondArray) (k := .recto) (n := 4) rfl hr hp
  obtain rfl : t = u := Host.Outcome.next.inj (ht.symm.trans hu)
  exact absurd (hclaimed.symm.trans hmodel) (by decide)

end Sys2Proof.Machine
end

section
/-! SUPPORT. Records of the ledger: the bank that a write takes is the one that a read takes next (R525, R526). -/

namespace Sys2Proof.Machine

theorem mkBank_valid (b : Build) (type seq : Nat) (body : Sparse Nat) : (mkBank b type seq body).valid b type = true := by
  simp [Bank.valid, mkBank, Bank.computeCrc]

/-- The next SEQ is newer than the one that it follows (R526). -/
theorem seqNewer_next (x : Nat) : seqNewer ((x + 1) % 2 ^ 32) x = true := by
  have h : ((x + 1) % 2 ^ 32 + 2 ^ 32 - x % 2 ^ 32) % 2 ^ 32 = 1 := by omega
  unfold seqNewer
  rw [h]
  rfl

/-- A SEQ is not newer than the one that follows it (R526). -/
theorem not_seqNewer_next (x : Nat) : seqNewer x ((x + 1) % 2 ^ 32) = false := by
  have h : 2 ^ 31 ≤ (x + 2 ^ 32 - (x + 1) % 2 ^ 32 % 2 ^ 32) % 2 ^ 32 := by omega
  unfold seqNewer
  dsimp only
  rw [decide_eq_false (Nat.not_lt.2 h), Bool.and_false]

theorem Stack.writeRecord_bank_same (s : Stack) (type : Nat) (body : Sparse Nat) :
    (s.writeRecord type body).bank type (s.writeBank type) = mkBank s.build type (s.nextSeq type) body := by
  simp [Stack.bank, Stack.writeRecord]

theorem Stack.writeRecord_bank_ne (s : Stack) (type : Nat) (body : Sparse Nat) {i : Nat} (h : i ≠ s.writeBank type) :
    (s.writeRecord type body).bank type i = s.bank type i := by
  simp only [Stack.bank, Stack.writeRecord, mapGet_mapSet]
  rw [if_neg (by omega)]

/-- Which bank a write takes, and the SEQ that it carries: bank A where it is invalid or the older, else bank B (R526). -/
theorem Stack.writeBank_cases (s : Stack) (type : Nat) :
    let a := s.bank type 0
    let b := s.bank type 1
    (s.writeBank type = 0 ∧ s.readBank type ≠ some 0 ∧ (b.valid s.build type = true → s.nextSeq type = (b.seq + 1) % 2 ^ 32)) ∨
      (s.writeBank type = 1 ∧ s.readBank type ≠ some 1 ∧ a.valid s.build type = true ∧ s.nextSeq type = (a.seq + 1) % 2 ^ 32) := by
  unfold Stack.nextSeq Stack.readBank Stack.writeBank
  dsimp only
  cases (s.bank type 0).valid s.build type <;> cases (s.bank type 1).valid s.build type
  case false.false => simp
  case false.true => simp
  case true.false => simp
  case true.true => cases seqNewer (s.bank type 1).seq (s.bank type 0).seq <;> simp

/-- The bank that a read took before a write is not the one written (R526). -/
theorem Stack.readBank_ne_writeBank {s : Stack} {type i : Nat} (h : s.readBank type = some i) : i ≠ s.writeBank type := by
  rintro rfl
  rcases s.writeBank_cases type with ⟨hw, hr, -⟩ | ⟨hw, hr, -, -⟩ <;> exact hr (h.trans (congrArg some hw))

/-- A read takes the bank just written: the other is invalid, or its SEQ is the one before (R526). -/
theorem Stack.readBank_writeRecord (s : Stack) (type : Nat) (body : Sparse Nat) :
    (s.writeRecord type body).readBank type = some (s.writeBank type) := by
  have hwritten := s.writeRecord_bank_same type body
  have hvalid := mkBank_valid s.build type (s.nextSeq type) body
  have hbuild : (s.writeRecord type body).build = s.build := rfl
  have hseq : (mkBank s.build type (s.nextSeq type) body).seq = s.nextSeq type := rfl
  unfold Stack.readBank
  dsimp only
  rcases s.writeBank_cases type with ⟨hw, -, hnext⟩ | ⟨hw, -, ha, hnext⟩
  · have hother := s.writeRecord_bank_ne type body (i := 1) (by omega)
    rw [hw] at hwritten ⊢
    rw [hwritten, hother, hbuild, hvalid]
    cases hb : (s.bank type 1).valid s.build type
    · rfl
    · dsimp only
      rw [hseq, hnext hb, not_seqNewer_next]
      rfl
  · have hother := s.writeRecord_bank_ne type body (i := 0) (by omega)
    rw [hw] at hwritten ⊢
    rw [hwritten, hother, hbuild, hvalid, ha]
    dsimp only
    rw [hseq, hnext, seqNewer_next]
    rfl

theorem Stack.recordBody_writeRecord (s : Stack) (type : Nat) (body : Sparse Nat) : (s.writeRecord type body).recordBody type = body := by
  unfold Stack.recordBody
  rw [s.readBank_writeRecord type body]
  dsimp only
  rw [s.writeRecord_bank_same type body]
  rfl

/-- Settles O54: a read takes the bank that the write took, and the write takes the bank that a read does not. -/
theorem ledgerRecordsAreReadAsWritten : Obligations.LedgerRecordsAreReadAsWritten := by
  intro s type body
  refine ⟨s.readBank_writeRecord type body, s.recordBody_writeRecord type body, fun n hn => ?_, fun i => Stack.readBank_ne_writeBank,
    s.writeRecord_onlyChanges type body (by simp)⟩
  simp only [Stack.writeRecord, mapGet_mapSet]
  exact if_neg (Ne.symm hn)

end Sys2Proof.Machine
end

section
/-! The statement of mode requests on verso. -/

namespace Sys2Proof.Machine

/-- Settles O8: a write of verso's MODE_REQ is ignored before its target is looked at. -/
theorem versoIgnoresModeRequests : Obligations.VersoIgnoresModeRequests := by
  have hverso : ∀ (s : State) (m : Mode) (a : Nat), s.modeReq .verso m a = s := fun s m a => if_pos rfl
  exact fun s a => ⟨congrArg _ (hverso s .day a), congrArg _ (hverso s .siesta a), congrArg _ (hverso s .dusk a),
    congrArg _ (hverso s .dawn a), congrArg _ (hverso s .vigil a), congrArg _ (hverso s .workshop a), congrArg _ (hverso s .haven a)⟩

end Sys2Proof.Machine
end

section
/-! SUPPORT. The test access port: an instruction acts on recto's port alone, and what UNLOCK and RELOCK leave of each stack (R591 to R597). -/

namespace Sys2Proof.Machine

section
variable {P : List Part} {F : List Field}

/-- A change of the port's state is one of that part. -/
theorem Stack.jtag_onlyChanges (s : Stack) (x : Jtag) (h : .jtag ∈ P) : s.OnlyChanges P F { s with jtag := x } :=
  ⟨rfl, rfl, fun p hp => by cases p <;> first | rfl | exact absurd h hp, fun _ _ => rfl⟩

end

/-! ## Instructions that shift out (R591, R592) -/

/-- What an instruction leaves of recto: its code in the instruction register, and its answer shifted out. -/
def Stack.shifted (s : Stack) (ir : Nat) (data : List Nat) : Stack := ({ s with jtag := { s.jtag with ir := ir } } : Stack).answered 0 data

/-- The same, with cells loaded into the boundary register. -/
def Stack.loaded (s : Stack) (ir : Nat) (cells data : List Nat) : Stack :=
  { s.shifted ir data with jtag := { s.jtag with ir := ir, boundary := putWords [] 0 cells } }

theorem State.setIr_answered (s : State) (ir : Nat) (data : List Nat) :
    ((s.setIr ir).onStack .recto fun t => t.answered 0 data) = s.onStack .recto fun t => t.shifted ir data := rfl

theorem State.setIr_loaded (s : State) (ir : Nat) (cells data : List Nat) :
    (((s.setIr ir).onStack .recto fun t => t.answered 0 data).loadBoundary cells) = s.onStack .recto fun t => t.loaded ir cells data := rfl

theorem Stack.shifted_onlyChanges (s : Stack) (ir : Nat) (data : List Nat) : s.OnlyChanges [.jtag, .answer] [] (s.shifted ir data) :=
  (s.jtag_onlyChanges _ (by simp)).trans (Stack.answered_onlyChanges _ _ _ (by simp))

theorem Stack.loaded_onlyChanges (s : Stack) (ir : Nat) (cells data : List Nat) :
    s.OnlyChanges [.jtag, .answer] [] (s.loaded ir cells data) :=
  (s.shifted_onlyChanges ir data).trans (Stack.jtag_onlyChanges _ _ (by simp))

section
variable {c : Instr} {s : State}

theorem completes_of_shifted {ir : Nat} {data : List Nat} (he : exec c s = .next (s.onStack .recto fun t => t.shifted ir data)) :
    Completes c s .recto [.jtag, .answer] [] fun t => t.jtag = { s.recto.jtag with ir := ir } ∧ t.answer = { status := 0, data := data } :=
  completes_of_onStack rfl he (Stack.shifted_onlyChanges _ _ _) ⟨rfl, rfl⟩

theorem completes_of_loaded {ir : Nat} {cells data : List Nat} (he : exec c s = .next (s.onStack .recto fun t => t.loaded ir cells data)) :
    Completes c s .recto [.jtag, .answer] [] fun t =>
      t.jtag = { s.recto.jtag with ir := ir, boundary := putWords [] 0 cells } ∧ t.answer = { status := 0, data := data } :=
  completes_of_onStack rfl he (Stack.loaded_onlyChanges _ _ _ _) ⟨rfl, rfl⟩

end

/-! ## Which instructions drive (R591) -/

section
variable {s : State}

theorem State.bypass_up (h : s.portUp = true) : s.bypass = s.onStack .recto fun t => t.shifted 0xFF [0] := if_pos h

theorem State.drive_workshop (h : s.recto.mode = .workshop) (ir : Nat) (cells : List Nat) :
    s.drive ir cells = s.onStack .recto fun t => t.loaded ir cells s.padLevels := if_neg (not_not_intro h)

theorem State.driveHeld_workshop (h : s.recto.mode = .workshop) (ir : Nat) :
    s.driveHeld ir = s.onStack .recto fun t => t.shifted ir [0] := if_neg (not_not_intro h)

theorem State.drive_elsewhere (h : s.recto.mode ≠ .workshop) (ir : Nat) (cells : List Nat) : s.drive ir cells = s.bypass := if_pos h

theorem State.driveHeld_elsewhere (h : s.recto.mode ≠ .workshop) (ir : Nat) : s.driveHeld ir = s.bypass := if_pos h

end

/-! ## UNLOCK and RELOCK (R594, R595, R597) -/

/-- What the start of an opening leaves of a stack (R594). -/
def Stack.openingBegun (s : Stack) : Stack :=
  let t := s.writes [(TEST.JTAG_STAT_ERASING, 1), (TEST.JTAG_STAT_REFUSED, 0), (TEST.JTAG_STAT_CAUSE, 0)]
  { t with jtag := { t.jtag with step := 1 } }

theorem Stack.openingBegun_onlyChanges (s : Stack) :
    s.OnlyChanges [.jtag] [TEST.JTAG_STAT_ERASING, TEST.JTAG_STAT_REFUSED, TEST.JTAG_STAT_CAUSE] s.openingBegun :=
  (s.writes_onlyChanges _ (by simp)).trans (Stack.jtag_onlyChanges _ _ (by simp))

theorem Stack.unlockRefused_onlyChanges (s : Stack) (cause : Nat) :
    s.OnlyChanges [.jtag] [TEST.JTAG_STAT_REFUSED, TEST.JTAG_STAT_CAUSE, TEST.INT_JTAG_REFUSED] (s.unlockRefused cause) :=
  (s.writes_onlyChanges [(TEST.JTAG_STAT_REFUSED, 1), (TEST.JTAG_STAT_CAUSE, cause), (TEST.INT_JTAG_REFUSED, 1)] (by simp)).trans
    (Stack.jtag_onlyChanges _ _ (by simp))

theorem Stack.openingBegun_get (s : Stack) (f : Field) : s.openingBegun.get f =
    (((s.put TEST.JTAG_STAT_ERASING 1).put TEST.JTAG_STAT_REFUSED 0).put TEST.JTAG_STAT_CAUSE 0).get f := rfl

theorem Stack.unlockRefused_get (s : Stack) (cause : Nat) (f : Field) : (s.unlockRefused cause).get f =
    (((s.put TEST.JTAG_STAT_REFUSED 1).put TEST.JTAG_STAT_CAUSE cause).raise TEST.INT_JTAG_REFUSED).get f := rfl

theorem Stack.relock_onlyChanges (s : Stack) : s.OnlyChanges [] [TEST.JTAG_CTL_RESULT, TEST.JTAG_STAT_OPEN] s.relock := by
  unfold Stack.relock
  split
  · exact s.put_onlyChanges _ (by simp)
  · split
    · exact s.put_onlyChanges _ (by simp)
    · exact (s.put_onlyChanges _ (by simp)).put _ (by simp)

section
variable {t : Stack}

theorem Stack.relock_closed (hm : t.mode = .workshop) (hw : t.secretWindow = false) : t.relock = t.put TEST.JTAG_CTL_RESULT 2 :=
  (if_neg (not_not_intro hm)).trans (if_pos (by rw [hw]; rfl))

theorem Stack.relock_workshop (hm : t.mode = .workshop) (hw : t.secretWindow = true) :
    t.relock = (t.put TEST.JTAG_CTL_RESULT 0).put TEST.JTAG_STAT_OPEN 0 :=
  (if_neg (not_not_intro hm)).trans (if_neg (by rw [hw]; decide))

end

theorem State.onBoth_relock_onlyChanges (s : State) (j : Side) :
    (s.stack j).OnlyChanges [] [TEST.JTAG_CTL_RESULT, TEST.JTAG_STAT_OPEN] ((s.onBoth Stack.relock).stack j) := by
  cases hj : s.hasSide j with
  | true => exact (s.onBoth_stack Stack.relock hj).symm ▸ Stack.relock_onlyChanges _
  | false =>
    cases j with
    | recto => exact absurd hj (by simp)
    | verso =>
      rw [State.onBoth, State.onStack_absent _ _ (by rw [State.onStack_hasSide]; exact hj), State.onStack_stack_ne _ _ (by decide)]
      exact Stack.OnlyChanges.refl _ _ _

section
variable {s : State}

theorem State.portUp_of_mode {m : Mode} (h : s.recto.mode = m) (hm : (m != .off) = true) : s.portUp = true := by
  unfold State.portUp
  rw [h, hm]

/-- UNLOCK with its key on a closed port with no opening in progress leaves the choice of the opening or a refusal (R594). -/
theorem State.unlock_key (hup : s.portUp = true) (hopen : s.recto.flag TEST.JTAG_STAT_OPEN = false) (hstep : s.recto.jtag.step = 0) :
    s.unlock 0x6B1D =
      if s.recto.mode ≠ .workshop ∧ s.recto.mode ≠ .haven then (s.setIr 0x11).onBoth (Stack.unlockRefused 1)
      else if !s.recto.secretWindow || (s.build == .atlas && !s.verso.secretWindow) then (s.setIr 0x11).onBoth (Stack.unlockRefused 2)
      else (s.setIr 0x11).onBoth Stack.openingBegun := by
  have hup' : ¬ (!s.portUp) = true := by simp [hup]
  have hkey : ¬ (0x6B1D ≠ 0x6B1D ∨ s.recto.flag TEST.JTAG_STAT_OPEN = true ∨ s.recto.jtag.step ≠ 0) := by simp [hopen, hstep]
  unfold State.unlock
  rw [if_neg hup']
  exact if_neg hkey

/-- Another value enters the instruction register alone (R594). -/
theorem State.unlock_other {v : Nat} (hup : s.portUp = true) (hv : v ≠ 0x6B1D) : s.unlock v = s.setIr 0x11 := by
  have hup' : ¬ (!s.portUp) = true := by simp [hup]
  unfold State.unlock
  rw [if_neg hup']
  exact if_pos (Or.inl hv)

/-- The instruction register written: the port's part of recto. -/
theorem State.setIr_onlyChanges (s : State) (ir : Nat) (k : Side) : (s.stack k).OnlyChanges [.jtag] [] ((s.setIr ir).stack k) := by
  cases k
  · exact Stack.jtag_onlyChanges _ _ (by simp)
  · exact Stack.OnlyChanges.refl _ _ _

theorem State.setIr_onBoth_stack {k : Side} {f : Stack → Stack} {F : List Field} (hk : s.hasSide k = true)
    (hf : ∀ t : Stack, t.OnlyChanges [.jtag] F (f t)) :
    (s.stack k).OnlyChanges [.jtag] F (((s.setIr 0x11).onBoth f).stack k) ∧ ((s.setIr 0x11).onBoth f).stack k = f ((s.setIr 0x11).stack k) := by
  have h : ((s.setIr 0x11).onBoth f).stack k = f ((s.setIr 0x11).stack k) :=
    State.onBoth_stack _ f (by rw [State.setIr, State.onStack_hasSide]; exact hk)
  refine ⟨?_, h⟩
  rw [h]
  exact ((s.setIr_onlyChanges 0x11 k).mono (fun _ hp => hp) (by simp)).trans (hf _)

/-- A refusal of UNLOCK on each stack of the build (R594). -/
theorem State.unlock_refused {cause : Nat} (hc : cause < 16) :
    let t := (s.setIr 0x11).onBoth (Stack.unlockRefused cause)
    t.build = s.build ∧ t.pending = s.pending ∧ ∀ k, s.hasSide k = true →
      (t.stack k).get TEST.JTAG_STAT_REFUSED = 1 ∧ (t.stack k).get TEST.JTAG_STAT_CAUSE = cause ∧ (t.stack k).get TEST.INT_JTAG_REFUSED = 1 ∧
      (s.stack k).OnlyChanges [.jtag] [TEST.JTAG_STAT_REFUSED, TEST.JTAG_STAT_CAUSE, TEST.INT_JTAG_REFUSED] (t.stack k) := by
  refine ⟨by simp [State.setIr], by simp [State.setIr], fun k hk => ?_⟩
  obtain ⟨hframe, heq⟩ := State.setIr_onBoth_stack hk (fun t => Stack.unlockRefused_onlyChanges t cause)
  refine ⟨?_, ?_, ?_, hframe⟩ <;> rw [heq, Stack.unlockRefused_get]
  · exact ((Stack.get_raise_ne _ (by decide)).trans (Stack.get_put_ne _ _ (by decide))).trans (Stack.get_put_same _ _ _)
  · exact ((Stack.get_raise_ne _ (by decide)).trans (Stack.get_put_same _ _ _)).trans (Nat.mod_eq_of_lt hc)
  · exact Stack.get_raise_same _ _

end

end Sys2Proof.Machine
end

section
/-! The statement of the test access port's instructions. -/

namespace Sys2Proof.Machine

/-- Settles O24: each instruction by the mode, and UNLOCK and RELOCK by the mode and the zone's window. -/
theorem testPortInstructionsComplete : Obligations.TestPortInstructionsComplete := by
  refine ⟨fun s hup => ⟨?_, ?_, ?_, fun cells => ?_⟩, fun s cells h => ⟨?_, ?_, ?_, ?_, ?_⟩, fun s cells h => ?_,
    fun s hmode hopen hstep hwin hverso => ?_, fun s cause hup hopen hstep hcause => ?_, fun s v hup hv => ?_,
    fun s k hk => ⟨fun hm => ?_, fun hm hw => ?_, fun hm hw => ?_⟩⟩
  · exact completes_of_shifted (congrArg Host.Outcome.next (State.bypass_up hup))
  · exact completes_of_shifted (congrArg Host.Outcome.next (if_pos hup))
  · exact completes_of_shifted (congrArg Host.Outcome.next (if_pos hup))
  · exact completes_of_loaded (congrArg Host.Outcome.next (if_pos hup))
  · exact completes_of_shifted (congrArg Host.Outcome.next (State.driveHeld_workshop h _))
  · exact completes_of_shifted (congrArg Host.Outcome.next (State.driveHeld_workshop h _))
  · exact completes_of_loaded (congrArg Host.Outcome.next (State.drive_workshop h _ _))
  · exact completes_of_loaded (congrArg Host.Outcome.next (State.drive_workshop h _ _))
  · exact completes_of_loaded (congrArg Host.Outcome.next (State.drive_workshop h _ _))
  · have hheld := fun ir => congrArg (Host.Outcome.next (φ := Fault) (ρ := Refusal)) (State.driveHeld_elsewhere h ir)
    have hdriven := fun ir => congrArg (Host.Outcome.next (φ := Fault) (ρ := Refusal)) (State.drive_elsewhere h ir cells)
    simp only [List.forall_mem_cons]
    exact ⟨hheld _, hheld _, hdriven _, hdriven _, hdriven _, fun _ hc => absurd hc List.not_mem_nil⟩
  · have hup : s.portUp = true := hmode.elim (State.portUp_of_mode · rfl) (State.portUp_of_mode · rfl)
    have hgood : ¬ (s.recto.mode ≠ .workshop ∧ s.recto.mode ≠ .haven) := fun h => hmode.elim h.1 h.2
    have hzone : ¬ (!s.recto.secretWindow || (s.build == .atlas && !s.verso.secretWindow)) = true := by
      simpa [hwin] using hverso
    refine ⟨_, congrArg Host.Outcome.next ((State.unlock_key hup hopen hstep).trans ((if_neg hgood).trans (if_neg hzone))),
      by simp [State.setIr], by simp [State.setIr], ?_, fun k hk => ?_⟩
    · rw [State.onBoth_recto]
      rfl
    · obtain ⟨hframe, heq⟩ := State.setIr_onBoth_stack hk Stack.openingBegun_onlyChanges
      refine ⟨?_, ?_, ?_, ?_, hframe⟩ <;> rw [heq]
      · rw [Stack.openingBegun_get]
        exact ((Stack.get_put_ne _ _ (by decide)).trans (Stack.get_put_ne _ _ (by decide))).trans (Stack.get_put_same _ _ _)
      · rw [Stack.openingBegun_get]
        exact (Stack.get_put_ne _ _ (by decide)).trans (Stack.get_put_same _ _ _)
      · rw [Stack.openingBegun_get]
        exact Stack.get_put_same _ _ _
      · rfl
  · by_cases hmode : s.recto.mode ≠ .workshop ∧ s.recto.mode ≠ .haven
    · rw [if_pos hmode] at hcause
      subst hcause
      exact ⟨_, congrArg Host.Outcome.next ((State.unlock_key hup hopen hstep).trans (if_pos hmode)), State.unlock_refused (by decide)⟩
    · rw [if_neg hmode] at hcause
      obtain ⟨rfl, hzone⟩ := hcause
      have hclosed : (!s.recto.secretWindow || (s.build == .atlas && !s.verso.secretWindow)) = true := by simpa using hzone
      exact ⟨_, congrArg Host.Outcome.next ((State.unlock_key hup hopen hstep).trans ((if_neg hmode).trans (if_pos hclosed))),
        State.unlock_refused (by decide)⟩
  · refine completes_of_onStack rfl (congrArg Host.Outcome.next (State.unlock_other hup hv)) (Stack.jtag_onlyChanges _ _ (by simp)) rfl
  · refine exec_eq_of_setStack hk ((nextSide_present (State.relock' · k) hk).trans (congrArg _ (if_neg fun h => hm h.2.1))) (if_pos hm)
  · refine exec_eq_of_setStack hk ((nextSide_present (State.relock' · k) hk).trans (congrArg _ (if_neg fun h => ?_)))
      (Stack.relock_closed hm hw)
    exact absurd (hw.symm.trans h.2.2) (by decide)
  · have hrelocked := Stack.relock_workshop hm hw
    refine ⟨_, (nextSide_present (State.relock' · k) hk).trans (congrArg _ (if_pos ⟨hk, hm, hw⟩)), State.onBoth_build _ _,
      State.onBoth_pending _ _, ?_, ?_, fun j => s.onBoth_relock_onlyChanges j⟩ <;> rw [State.onPort, State.onBoth_stack _ _ hk, hrelocked]
    · exact (Stack.get_put_ne _ _ (by decide)).trans (Stack.get_put_same _ _ _)
    · exact Stack.get_put_same _ _ _

end Sys2Proof.Machine
end

section
/-! The statement of the pin outputs and the pin lock. -/

namespace Sys2Proof.Machine

/-- A Quarto package whose recto is an Octavo stack of 64 pins; its pins 64 and 65, which the Octavo lacks, both feed the LTC reader of
bank 4. -/
def State.conflictBeyondStack : State :=
  { State.reset with recto := ((Stack.initial .recto .octavo).put (PINS.PIN_FUNC 64) 7).put (PINS.PIN_FUNC 65) 7 }

/-- Refutes O35: the clause of CONFLICT asks for no conflict at the pins of the stack's own build, and the model looks at the pins of the
package's. The two counts differ in a state whose build fields disagree: there pins 64 and 65 are in conflict (R558), the model sets their
CONFLICT bits, and the clause claims that word 2 stays 0. -/
theorem not_pinOutputsAndLockComplete : ¬ Obligations.PinOutputsAndLockComplete := by
  intro h
  obtain ⟨hwrites, -⟩ := h
  obtain ⟨-, -, hclear⟩ := hwrites State.conflictBeyondStack .recto 2 0 rfl
  have hquiet : ∀ n < (State.conflictBeyondStack.stack .recto).build.pins, State.conflictBeyondStack.inConflict .recto n = false := by decide
  have hclaimed := Host.Outcome.next.inj (hclear hquiet (by decide))
  have hset : ((State.conflictBeyondStack.conflictClear .recto 2 0).stack .recto).get (PINS.CONFLICT_CONFLICT 2) = 3 := by decide
  exact absurd ((congrArg (fun t => (t.stack .recto).get (PINS.CONFLICT_CONFLICT 2)) hclaimed).symm.trans hset) (by decide)

end Sys2Proof.Machine
end

section
/-! SUPPORT. The key commands: what a command holds, its first refusal by code, and its effect (R423 to R425). -/

namespace Sys2Proof.Machine

/-- The fields and the RESULT that a key command leaves (R425). -/
def Stack.keyHeld (s : Stack) (slot op entry r : Nat) : Stack :=
  s.writes [(KEYS.KCMD_SLOT, slot), (KEYS.KCMD_OP, op), (KEYS.KCMD_ENTRY, entry), (KEYS.KCMD_STATUS_RESULT, r)]

section
variable {s : Stack} {slot op entry : Nat} {l : List (Bool × Nat)} {f : Stack → Stack}

/-- A key command taken in its modes: the first refusal that holds, else its effect. -/
theorem Stack.keyCommand_taken (hm : s.modeIn [.day, .workshop] = true ∨ op = 5 ∧ s.mode = .haven) :
    s.keyCommand slot op entry l f =
      match l.find? (·.1) with
      | some r => s.keyHeld slot op entry r.2
      | none => f (s.keyHeld slot op entry 0) := by
  have h : ¬ (!(s.modeIn [.day, .workshop] || (op == 5 && s.mode == .haven))) = true := by
    rcases hm with hm | ⟨rfl, hm⟩ <;> simp [hm]
  unfold Stack.keyCommand
  exact if_neg h

theorem Stack.keyCommand_mode (hm : s.modeIn [.day, .workshop] = false) (hclear : ¬ (op = 5 ∧ s.mode = .haven)) :
    s.keyCommand slot op entry l f = s.keyHeld slot op entry 5 := by
  have h : (!(s.modeIn [.day, .workshop] || (op == 5 && s.mode == .haven))) = true := by simpa [hm] using Classical.not_and_iff_not_or_not.1 hclear
  unfold Stack.keyCommand
  exact if_pos h

end

section
variable {s : Stack} {slot entry : Nat} (hm : s.modeIn [.day, .workshop] = true)
include hm

theorem Stack.kcmdNone_taken (op : Nat) : s.kcmdNone slot op entry = s.keyHeld slot op entry 0 :=
  Stack.keyCommand_taken (l := []) (f := id) (.inl hm)

theorem Stack.kcmdGenerate_taken : s.kcmdGenerate slot entry =
    if s.slotInUse slot then s.keyHeld slot 1 entry 1 else ((s.keyHeld slot 1 entry 0).setSlot slot (some s.randomKey)).draw := by
  unfold Stack.kcmdGenerate
  rw [Stack.keyCommand_taken (.inl hm)]
  cases s.slotInUse slot <;> rfl

theorem Stack.kcmdLoad_taken : s.kcmdLoad slot entry =
    if s.slotInUse slot then s.keyHeld slot 2 entry 1
    else match s.zoneKey entry with
      | none => s.keyHeld slot 2 entry 2
      | some v => (s.keyHeld slot 2 entry 0).setSlot slot (some v) := by
  have hzone : (s.keyHeld slot 2 entry 0).zoneKey entry = s.zoneKey entry := rfl
  unfold Stack.kcmdLoad
  rw [Stack.keyCommand_taken (.inl hm), hzone]
  cases s.slotInUse slot
  · cases s.zoneKey entry <;> rfl
  · rfl

theorem Stack.kcmdUnwrap_taken : s.kcmdUnwrap slot entry =
    if s.slotInUse slot then s.keyHeld slot 3 entry 1
    else match s.kwrapKey with
      | none => s.keyHeld slot 3 entry 4
      | some v => (s.keyHeld slot 3 entry 0).setSlot slot (some v) := by
  unfold Stack.kcmdUnwrap
  rw [Stack.keyCommand_taken (.inl hm)]
  cases s.slotInUse slot
  · cases s.kwrapKey <;> rfl
  · rfl

theorem Stack.kcmdStore_taken : s.kcmdStore slot entry =
    match s.slotKey slot with
    | none => s.keyHeld slot 4 entry 2
    | some v => if s.secretWindow then (s.keyHeld slot 4 entry 0).setZone entry (some v) else s.keyHeld slot 4 entry 3 := by
  have hslot : (s.keyHeld slot 4 entry 0).slotKey slot = s.slotKey slot := rfl
  unfold Stack.kcmdStore
  rw [Stack.keyCommand_taken (.inl hm), hslot]
  cases s.slotKey slot
  · rfl
  · cases s.secretWindow <;> rfl

theorem Stack.kcmdErase_taken : s.kcmdErase slot entry =
    if s.secretWindow then (s.keyHeld slot 6 entry 0).setZone entry none else s.keyHeld slot 6 entry 3 := by
  unfold Stack.kcmdErase
  rw [Stack.keyCommand_taken (.inl hm)]
  cases s.secretWindow <;> rfl

end

theorem Stack.kcmdClear_taken {s : Stack} {slot entry : Nat} (hm : s.modeIn [.day, .workshop, .haven] = true) :
    s.kcmdClear slot entry = if s.slotInUse slot then s.keyHeld slot 5 entry 1 else (s.keyHeld slot 5 entry 0).setSlot slot none := by
  have hm' : s.modeIn [.day, .workshop] = true ∨ 5 = 5 ∧ s.mode = .haven := by
    simpa [Stack.modeIn, or_assoc] using hm
  unfold Stack.kcmdClear
  rw [Stack.keyCommand_taken hm']
  cases s.slotInUse slot <;> rfl

end Sys2Proof.Machine
end

section
/-! The statement of the key commands. -/

namespace Sys2Proof.Machine

/-- Settles O40: each command by its mode, then by its refusals in the order of their codes. -/
theorem keyCommandsComplete : Obligations.KeyCommandsComplete := by
  intro s k slot entry hk held
  refine ⟨fun hm => ⟨fun op => ?_, ?_, ?_, ?_, ?_, ?_⟩, fun hm => ?_, fun hm => ⟨?_, fun hclear => ?_⟩⟩
  · exact exec_eq_of_onStack rfl (Stack.kcmdNone_taken hm op)
  · exact exec_eq_of_onStack rfl (Stack.kcmdGenerate_taken hm)
  · exact exec_eq_of_onStack rfl (Stack.kcmdLoad_taken hm)
  · refine exec_eq_of_onStack rfl ((Stack.kcmdUnwrap_taken hm).trans ?_)
    generalize (s.stack k).kwrapKey = key
    cases key <;> rfl
  · exact exec_eq_of_onStack rfl (Stack.kcmdStore_taken hm)
  · exact exec_eq_of_onStack rfl (Stack.kcmdErase_taken hm)
  · exact exec_eq_of_onStack rfl (Stack.kcmdClear_taken hm)
  · simp only [List.forall_mem_cons]
    refine ⟨?_, ?_, ?_, ?_, ?_, fun _ h => absurd h List.not_mem_nil⟩ <;>
      exact exec_eq_of_onStack rfl (Stack.keyCommand_mode hm (by simp))
  · exact exec_eq_of_onStack rfl (Stack.keyCommand_mode hm fun h => hclear h.2)

end Sys2Proof.Machine
end

section
/-! SUPPORT. Rekeys and re-encryption: what a request answers, how a leaf moves, and what a completion leaves (R412, R417 to R422). -/

namespace Sys2Proof.Machine

/-! ## Requests (R420, R425) -/

/-- The RESULT of a rekey request, lowest code first but for the mode (R425, log 119). -/
def Stack.rekeyResult (s : Stack) (region new : Nat) : Nat :=
  if !s.modeIn [.day, .workshop] then 5
  else if !s.regionValid region then 1
  else if (s.slotKey new).isNone || s.slotInUse new then 2
  else if 15 ≤ s.keys.rekeyQueue.length || s.rekeyPending region then 3
  else 0

/-- The fields and the RESULT that a rekey request leaves. -/
def Stack.rekeyHeld (s : Stack) (region new : Nat) (clear : Bool) (r : Nat) : Stack :=
  s.writes [(KEYS.REKEY_CTL_REGION, region), (KEYS.REKEY_CTL_NEW, new), (KEYS.REKEY_CTL_CLEAR, b2n clear), (KEYS.REKEY_STATUS_RESULT, r)]

section
variable {s : Stack} {region new : Nat} {clear : Bool}

theorem Stack.rekeyRequest_refused {r : Nat} (h : s.rekeyResult region new = r) (hr : r ≠ 0) :
    s.rekeyRequest region new clear = s.rekeyHeld region new clear r := by
  subst h
  exact if_neg hr

theorem Stack.rekeyRequest_taken (h : s.rekeyResult region new = 0) :
    s.rekeyRequest region new clear = (s.rekeyHeld region new clear 0).rekeyQueue { region := region, new := some new, clear := clear } := by
  have hunfold : s.rekeyRequest region new clear =
      if s.rekeyResult region new = 0 then
        (s.rekeyHeld region new clear (s.rekeyResult region new)).rekeyQueue { region := region, new := some new, clear := clear }
      else s.rekeyHeld region new clear (s.rekeyResult region new) := rfl
  rw [hunfold, if_pos h, h]

theorem Stack.rekeyResult_mode (hm : s.modeIn [.day, .workshop] = false) : s.rekeyResult region new = 5 :=
  if_pos (by rw [hm]; rfl)

section
variable (hm : s.modeIn [.day, .workshop] = true)
include hm

theorem Stack.rekeyResult_region (hr : s.regionValid region = false) : s.rekeyResult region new = 1 := by
  simp [Stack.rekeyResult, hm, hr]

theorem Stack.rekeyResult_slot (hr : s.regionValid region = true) (hs : ¬ (s.slotKey new ≠ none ∧ s.slotInUse new = false)) :
    s.rekeyResult region new = 2 := by
  have hrefused : ((s.slotKey new).isNone || s.slotInUse new) = true := by
    rw [Bool.or_eq_true, Option.isNone_iff_eq_none]
    exact (Classical.not_and_iff_not_or_not.1 hs).imp Classical.not_not.1 eq_true_of_ne_false
  simp [Stack.rekeyResult, hm, hr, hrefused]

section
variable (hr : s.regionValid region = true) (hs : s.slotKey new ≠ none ∧ s.slotInUse new = false)
include hr hs

theorem Stack.rekeyResult_slotOk :
    s.rekeyResult region new = if s.keys.rekeyQueue.length < 15 ∧ s.rekeyPending region = false then 0 else 3 := by
  have hslot : (s.slotKey new).isNone = false := by simpa [Option.isSome_iff_ne_none] using hs.1
  simp only [Stack.rekeyResult, hm, hr, hslot, hs.2]
  by_cases hroom : s.keys.rekeyQueue.length < 15 ∧ s.rekeyPending region = false
  · simp [hroom.1, hroom.2]
  · have hfull : 15 ≤ s.keys.rekeyQueue.length ∨ s.rekeyPending region = true :=
      (Classical.not_and_iff_not_or_not.1 hroom).imp Nat.not_lt.1 eq_true_of_ne_false
    simp [hroom, hfull]

end

end

end

/-- A request taken starts where no rekey runs, and waits behind the one that does (R417, R420). -/
theorem Stack.rekeyQueue_eq (s : Stack) (r : Rekey) :
    s.rekeyQueue r =
      if s.keys.rekey = none then
        ({ s with keys := { s.keys with rekey := some r, boundLeaf := 0 } } : Stack).writes
          [(KEYS.REKEY_STATUS_BUSY, 1), (KEYS.REKEY_STATUS_REGION, r.region), (KEYS.REGION_STAT_STATE r.region, 2),
           (KEYS.REKEY_BOUND_LO_LOC, s.regionBase r.region), (KEYS.REKEY_BOUND_HI_LOC, s.regionBase r.region / 2 ^ 32)]
      else ({ s with keys := { s.keys with rekeyQueue := s.keys.rekeyQueue ++ [r] } } : Stack).writes
        [(KEYS.REGION_STAT_STATE r.region, 3), (KEYS.REKEY_STATUS_QUEUED, s.keys.rekeyQueue.length + 1)] := by
  unfold Stack.rekeyQueue
  split
  next h =>
    rw [if_pos h]
    rfl
  next h =>
    rw [if_neg (by simp [h])]
    simp

/-! ## A leaf of a running rekey (R417 to R419) -/

/-- The boundary moved past the leaf on it: with CLEAR the ranges that it has passed are no longer quarantined (R419). -/
def Stack.boundaryMoved (s : Stack) (r : Rekey) (u : Stack) : Stack :=
  let bound := s.regionBase r.region + 4096 * (s.keys.boundLeaf + 1)
  (({ u with keys := { u.keys with
      boundLeaf := s.keys.boundLeaf + 1
      quar := if r.clear then u.keys.quar.filter fun q => !(q.region == r.region && decide (q.loc + 64 * q.blocks ≤ bound) && decide (bound - 4096 < q.loc + 64 * q.blocks)) else u.keys.quar
      quarWhole := if r.clear ∧ s.regionData r.region / 4096 = s.keys.boundLeaf + 1 then u.keys.quarWhole.filter (· != r.region) else u.keys.quarWhole } } : Stack).writes
    [(KEYS.REKEY_BOUND_LO_LOC, bound), (KEYS.REKEY_BOUND_HI_LOC, bound / 2 ^ 32)]).showQuar r.region

section
variable {s : Stack} {r : Rekey} {lf : Nat} {up : List Nat} (hr : s.keys.rekey = some r)
  (hleaf : s.keys.boundLeaf < s.regionData r.region / 4096) (hm : s.mode = .day ∨ s.mode = .workshop)
  (hw : (s.fetch r.region s.keys.boundLeaf).2 = .ok lf up)
include hr hleaf hm hw

/-- The rekey engine at a leaf whose walk is good. -/
theorem Stack.rekeyLeaf_walked :
    s.rekeyLeaf =
      let w := s.fetch r.region s.keys.boundLeaf
      let bad := fun j => s.quarantined r.region (64 * s.keys.boundLeaf + j)
      if (List.range 64).all bad && !r.clear then ((s.boundaryMoved r w.1).writeUp r.region s.keys.boundLeaf 1 up).1
      else
        let minorOf := fun j => if bad j || (leafMajor lf == 0 && leafMinor lf j == 0) then 0 else 1
        let q := w.1.readLeaf r.region s.keys.boundLeaf
        ((s.boundaryMoved r q.1).writeLeaf r.region s.keys.boundLeaf (makeLeaf 0 minorOf) up).recode q.2 r.region s.keys.boundLeaf 0 minorOf := by
  have hgo : ¬ (s.regionData r.region / 4096 ≤ s.keys.boundLeaf ∨ (!(s.mode == .day || s.mode == .workshop)) = true) := by
    rcases hm with h | h <;> simp [h, hleaf]
  simp only [Stack.rekeyLeaf, hr, if_neg hgo, hw]
  rfl

/-- A leaf that is quarantined whole is passed, and the nodes above it are written back (R418, R419). -/
theorem Stack.rekeyLeaf_passed (hall : ∀ j < 64, s.quarantined r.region (64 * s.keys.boundLeaf + j) = true) (hclear : r.clear = false) :
    s.rekeyLeaf = ((s.boundaryMoved r (s.fetch r.region s.keys.boundLeaf).1).writeUp r.region s.keys.boundLeaf 1 up).1 := by
  refine (Stack.rekeyLeaf_walked hr hleaf hm hw).trans (if_pos ?_)
  simpa [hclear] using hall

/-- Another leaf is read and written under the new key, a block that is bad or was never written as never written (R417, R419). -/
theorem Stack.rekeyLeaf_moved (hsome : (∃ j < 64, s.quarantined r.region (64 * s.keys.boundLeaf + j) = false) ∨ r.clear = true) :
    s.rekeyLeaf =
      let minorOf := fun j => if s.quarantined r.region (64 * s.keys.boundLeaf + j) = true ∨ (leafMajor lf = 0 ∧ leafMinor lf j = 0) then 0 else 1
      let q := (s.fetch r.region s.keys.boundLeaf).1.readLeaf r.region s.keys.boundLeaf
      ((s.boundaryMoved r q.1).writeLeaf r.region s.keys.boundLeaf (makeLeaf 0 minorOf) up).recode q.2 r.region s.keys.boundLeaf 0 minorOf := by
  refine (Stack.rekeyLeaf_walked hr hleaf hm hw).trans ((if_neg ?_).trans ?_)
  · rcases hsome with ⟨j, hj, hbad⟩ | hclear
    · simp only [Bool.and_eq_true, List.all_eq_true, List.mem_range]
      exact fun h => absurd (hbad.symm.trans (h.1 j hj)) Bool.false_ne_true
    · simp [hclear]
  · simp only [Bool.or_eq_true, Bool.and_eq_true, beq_iff_eq]

end

/-! ## Completions (R412, R420) -/

theorem Stack.keysEvent_keys (s : Stack) (region cause : Nat) : (s.keysEvent region cause).keys = s.keys := by
  have hevent := (s.eventReg_onlyChanges (P := []) (F := [KEYS.EVENT_VALID, KEYS.EVENT_LOST, KEYS.EVENT_REGION, KEYS.EVENT_CAUSE])
    (valid := KEYS.EVENT_VALID) (lost := KEYS.EVENT_LOST) [(KEYS.EVENT_REGION, region), (KEYS.EVENT_CAUSE, cause)] (by simp) (by simp)
    (by simp)).part (p := .keys) (by simp)
  unfold Stack.keysEvent
  dsimp only
  split
  · exact hevent
  · exact hevent

/-- The end of a rekey before the next one starts: the new slot in both copies of REGION.KEY, the old slot empty, and the event (R420). -/
def Stack.rekeyEnded (s : Stack) (r : Rekey) : Stack :=
  let old := s.get (KEYS.REGIONW0_KEY r.region)
  let u := ((((s.setSlot old none).putBoth (KEYS.REGIONW0_KEY r.region) (r.new.getD old)).writes
    [(KEYS.REGION_STAT_STATE r.region, 1), (KEYS.REGION_STAT_CEND r.region, 0), (KEYS.REKEY_STATUS_BUSY, 0), (KEYS.INT_REKEY, 1)]).keysEvent r.region 4)
  { u with keys := { u.keys with rekey := none, boundLeaf := 0, ended := u.keys.ended.filter fun e => e.1 != r.region } }

theorem Stack.rekeyComplete_last {s : Stack} {r : Rekey} (hr : s.keys.rekey = some r) (hq : s.keys.rekeyQueue = [])
    (hdone : s.regionData r.region / 4096 ≤ s.keys.boundLeaf) (hm : s.modeIn [.day, .workshop] = true) :
    s.rekeyComplete = s.rekeyEnded r := by
  have hgo : ¬ (s.keys.boundLeaf < s.regionData r.region / 4096 ∨ (!s.modeIn [.day, .workshop]) = true) := by
    simp [hm, hdone]
  have hput : ∀ (t : Stack) f v, (t.put f v).keys = t.keys := fun _ _ _ => rfl
  unfold Stack.rekeyComplete Stack.rekeyEnded
  rw [hr]
  simp only [if_neg hgo, Stack.raise, Stack.writes_cons, Stack.writes_nil, Stack.keysEvent_keys, Stack.putBoth, hput, Stack.setSlot, hq]

theorem Stack.stalled_none {u : Stack} (h : u.keys.stalled = []) : ({ u with keys := { u.keys with stalled := [] } } : Stack) = u := by
  rw [← h]

/-- Where no stalled request has proceeded, none is answered. -/
theorem Stack.answerStalled_none {r : Stack × List (Header × Nat)} (h : r.2 = []) :
    ((r.2.map (·.1)).eraseDups).foldl (fun t h => t.answerStalled r.2 h) r.1 = r.1 := by
  obtain ⟨t, l⟩ := r
  subst h
  rfl

/-- A leaf taken off the list of those being re-encrypted. -/
def Stack.reencTaken (s : Stack) (region leaf : Nat) : Stack :=
  { s with keys := { s.keys with reenc := s.keys.reenc.filter (· != (region, leaf)) } }

/-- A leaf whose walk is good and that no write waits for is raised, and nothing else proceeds (R412). -/
theorem Stack.leafReencrypted_walked {s t : Stack} {region leaf lf : Nat} {up : List Nat} (hs : s.leafStalls region leaf = true)
    (ht : s.reencTaken region leaf = t) (hw : (t.fetch region leaf).2 = .ok lf up) :
    let q := (t.fetch region leaf).1.readLeaf region leaf
    let major := leafMajor lf + 1
    let u := (q.1.writeLeaf region leaf (makeLeaf major fun _ => 0) up).recode q.2 region leaf major fun _ => 0
    u.keys.stalled = [] → s.leafReencrypted region leaf = u := by
  intro q major u hstalled
  have hgo : ¬ (!s.leafStalls region leaf) = true := by simp [hs]
  have htaken : ({ s with keys := { s.keys with reenc := s.keys.reenc.filter (· != (region, leaf)) } } : Stack) = t := ht
  have hdone : s.reencryptDone region leaf = (u, []) := by
    have hraised : (((t.fetch region leaf).1.readLeaf region leaf).1.writeLeaf region leaf (makeLeaf (leafMajor lf + 1) fun _ => 0) up).recode
        ((t.fetch region leaf).1.readLeaf region leaf).2 region leaf (leafMajor lf + 1) (fun _ => 0) = u := rfl
    clear_value u
    simp only [Stack.reencryptDone, if_neg hgo, htaken, hw, hraised, hstalled, List.filter_nil, List.foldl_nil]
    rw [Stack.stalled_none hstalled]
  clear_value u
  have hstate : (s.reencryptDone region leaf).1 = u := by rw [hdone]
  have hnone : (s.reencryptDone region leaf).2 = [] := by rw [hdone]
  rw [← hstate]
  exact Stack.answerStalled_none hnone

end Sys2Proof.Machine
end

section
/-! The statement of rekeys and re-encryption. -/

namespace Sys2Proof.Machine

/-- Settles O41: a request by its result, a leaf by its walk and its quarantine, and the completions. -/
theorem rekeyAndReencryptionComplete : Obligations.RekeyAndReencryptionComplete := by
  refine ⟨fun s k region new clear hk => ⟨fun hm => ?_, fun hm => ⟨fun hr => ?_, fun hr => ⟨fun hs => ?_, fun hs hfull => ?_, fun hs hroom => ?_⟩⟩⟩,
    fun s k r lf up hk hr hleaf hm hw => ⟨fun hall hclear => ?_, fun hsome => ?_⟩, fun s k r hk hr hq hdone hm => ?_,
    fun s k region leaf lf up hk hs hw hstalled => ?_, fun s k a hk => rfl⟩
  · exact exec_eq_of_onStack rfl (Stack.rekeyRequest_refused (Stack.rekeyResult_mode hm) (by decide))
  · exact exec_eq_of_onStack rfl (Stack.rekeyRequest_refused (Stack.rekeyResult_region hm hr) (by decide))
  · exact exec_eq_of_onStack rfl (Stack.rekeyRequest_refused (Stack.rekeyResult_slot hm hr hs) (by decide))
  · exact exec_eq_of_onStack rfl (Stack.rekeyRequest_refused ((Stack.rekeyResult_slotOk hm hr hs).trans (if_neg hfull)) (by decide))
  · refine exec_eq_of_onStack rfl ((Stack.rekeyRequest_taken ((Stack.rekeyResult_slotOk hm hr hs).trans (if_pos hroom))).trans ?_)
    exact Stack.rekeyQueue_eq _ _
  · exact exec_eq_of_onStack rfl (Stack.rekeyLeaf_passed hr hleaf hm hw hall hclear)
  · exact exec_eq_of_onStack rfl (Stack.rekeyLeaf_moved hr hleaf hm hw hsome)
  · exact exec_eq_of_onStack rfl (Stack.rekeyComplete_last hr hq hdone hm)
  · exact exec_eq_of_onStack rfl (Stack.leafReencrypted_walked hs rfl hw hstalled)

end Sys2Proof.Machine
end

section
/-! SUPPORT. Frames and reads shared by the families that follow: a change of one part, and a read of a field that a list of writes leaves. -/

namespace Sys2Proof.Machine

section
variable {P : List Part} {F : List Field}

theorem Stack.pins_onlyChanges (s : Stack) (x : Pins) (h : .pins ∈ P) : s.OnlyChanges P F { s with pins := x } :=
  ⟨rfl, rfl, fun p hp => by cases p <;> first | rfl | exact absurd h hp, fun _ _ => rfl⟩

theorem Stack.clk_onlyChanges (s : Stack) (x : Clk) (h : .clk ∈ P) : s.OnlyChanges P F { s with clk := x } :=
  ⟨rfl, rfl, fun p hp => by cases p <;> first | rfl | exact absurd h hp, fun _ _ => rfl⟩

end

/-- A field that a list of writes does not name keeps its value. -/
theorem Stack.get_writes_ne (s : Stack) {l : List (Field × Nat)} {f : Field} (h : ∀ p ∈ l, p.1.key ≠ f.key) : (s.writes l).get f = s.get f :=
  (s.writes_onlyChanges (P := []) (F := l.map (·.1)) l fun _ hp => List.mem_map_of_mem hp).get_eq
    (by simpa only [List.forall_mem_map] using h)

end Sys2Proof.Machine
end

section
/-! SUPPORT. Tallies, timestamps and the bank peripherals (R555, R570, R571). -/

namespace Sys2Proof.Machine

section
variable {s : State} {k : Side} {n : Nat} (hpads : (s.padsOf k n).isEmpty = false) (hquiet : s.inConflict k n = false)
include hpads hquiet

/-- The pad of a pin without a conflict reaches its stack. -/
theorem exec_tallyDebounce (level : Bool) : exec (.tallyDebounce k n level) s = .next (s.onStack k (Stack.tallyDebounce n level)) :=
  if_neg (by simp [hpads, hquiet])

theorem exec_timestampEdge : exec (.timestampEdge k n) s = .next (s.onStack k (Stack.timestampEdge n)) :=
  if_neg (by simp [hpads, hquiet])

end

section
variable {s : Stack} {n : Nat}

theorem Stack.tallyDebounce_built (level : Bool) (hn : n < s.build.pins) : s.tallyDebounce n level =
    let u : Stack := { s with pins := { s.pins with levels := mapSet false s.pins.levels n level } }
    if s.get (PINS.PIN_FUNC n) = 5 then u.put (PINS.TALLY_TALLY (n / 32)) (setBit (s.get (PINS.TALLY_TALLY (n / 32))) (n % 32) level) else u :=
  if_neg (Nat.not_le.2 hn)

/-- An edge that is not the house reference's: it joins the queue, or is lost (R555, R570). -/
theorem Stack.timestampEdge_stamped (hstart : s.clk.started = true)
    (hf : s.get (PINS.PIN_FUNC n) = 11 ∨ (s.get (PINS.PIN_FUNC n) = 9 ∧ (s.houseKind ≠ 3 ∨ s.houseIndex ≠ n))) :
    s.timestampEdge n = if 16 ≤ s.pins.ts.length then s.raise PINS.INT_TS_LOST
      else ({ s with pins := { s.pins with ts := s.pins.ts ++ [(n, b2n (s.get (PINS.PIN_FUNC n) == 11), s.time)] } } : Stack).raise PINS.INT_TS := by
  have htaken : ¬ ((s.get (PINS.PIN_FUNC n) ≠ 9 ∧ s.get (PINS.PIN_FUNC n) ≠ 11) ∨ s.clk.started = false) := by
    rcases hf with h | ⟨h, -⟩ <;> simp [h, hstart]
  have hother : ¬ (s.get (PINS.PIN_FUNC n) = 9 ∧ s.houseKind = 3 ∧ s.houseIndex = n) := by
    rcases hf with h | ⟨-, h⟩
    · simp [h]
    · exact fun hq => h.elim (· hq.2.1) (· hq.2.2)
  unfold Stack.timestampEdge
  dsimp only
  rw [if_neg htaken, if_neg hother]

theorem Stack.timestampEdge_onlyChanges (hstart : s.clk.started = true)
    (hf : s.get (PINS.PIN_FUNC n) = 11 ∨ (s.get (PINS.PIN_FUNC n) = 9 ∧ (s.houseKind ≠ 3 ∨ s.houseIndex ≠ n))) :
    s.OnlyChanges [.pins] [PINS.INT_TS, PINS.INT_TS_LOST] (s.timestampEdge n) := by
  rw [Stack.timestampEdge_stamped hstart hf]
  split
  · exact (Stack.OnlyChanges.refl _ _ _).raise (by simp)
  · exact (s.pins_onlyChanges _ (by simp)).raise (by simp)

theorem Stack.tsPop_cons {e : Nat × Nat × Nat} {q : List (Nat × Nat × Nat)} (h : s.pins.ts = e :: q) :
    s.tsPop = ({ s with pins := { s.pins with ts := q } } : Stack).answered 0 [e.2.2 / 1000000000 / 2 ^ 32 % 2 ^ 16] := by
  unfold Stack.tsPop
  rw [h]

end

/-! ## Bank peripherals (R571) -/

section
variable {s : Stack} {b v rx : Nat}

theorem Stack.spiWrite_sent (hb : b < s.build.pinBanks) (hen : s.get (PINS.SPI_CFG_EN b) ≠ 0) :
    s.spiWrite true b v rx = (s.writes [(PINS.LOCK_STATUS_ARMED, 0), (PINS.SPI_DATA_DATA b, rx)]).answered 0 [v] := by
  have hheld : s.disarmKey.get (PINS.SPI_CFG_EN b) = s.get (PINS.SPI_CFG_EN b) :=
    s.get_put_ne _ (by simp [PINS.LOCK_STATUS_ARMED, PINS.SPI_CFG_EN]; omega)
  exact if_neg (not_or.2 ⟨Nat.not_le.2 hb, by rwa [hheld]⟩)

/-- The fields of an I²C command as a write of I2C_CMD holds them. -/
def Stack.i2cHeld (s : Stack) (b v : Nat) (start stop read nack : Bool) : Stack :=
  s.writes [(PINS.LOCK_STATUS_ARMED, 0), (PINS.I2C_CMD_DATA b, v), (PINS.I2C_CMD_START b, b2n start), (PINS.I2C_CMD_STOP b, b2n stop),
    (PINS.I2C_CMD_READ b, b2n read), (PINS.I2C_CMD_NACK b, b2n nack)]

theorem Stack.i2cHeld_enable (start stop read nack : Bool) :
    (s.i2cHeld b v start stop read nack).get (PINS.I2C_CFG_EN b) = s.get (PINS.I2C_CFG_EN b) := by
  refine s.get_writes_ne ?_
  simp only [List.forall_mem_cons, PINS.LOCK_STATUS_ARMED, PINS.I2C_CMD_DATA, PINS.I2C_CMD_START, PINS.I2C_CMD_STOP, PINS.I2C_CMD_READ,
    PINS.I2C_CMD_NACK, PINS.I2C_CFG_EN]
  refine ⟨?_, ?_, ?_, ?_, ?_, ?_, fun _ h => absurd h List.not_mem_nil⟩ <;> omega

theorem Stack.i2cCommand_sent (start stop read nack ack lost : Bool) (hb : b < s.build.pinBanks) (hen : s.get (PINS.I2C_CFG_EN b) ≠ 0) :
    s.i2cCommand true b v start stop read nack ack lost rx =
      let u := s.i2cHeld b v start stop read nack
      if lost = true then u.writes [(PINS.STAT_I2C_LOST b, 1), (PINS.INT_PERIPH, 1)]
      else if read = true then u.writes [(PINS.STAT_I2C_RX b, rx)]
      else if ack = true then u.answered 0 [v]
      else (u.answered 0 [v]).writes [(PINS.STAT_I2C_NACK b, 1), (PINS.INT_PERIPH, 1)] := by
  have hgo : ¬ ((s.i2cHeld b v start stop read nack).build.pinBanks ≤ b ∨ (s.i2cHeld b v start stop read nack).get (PINS.I2C_CFG_EN b) = 0) :=
    not_or.2 ⟨Nat.not_le.2 hb, by rwa [Stack.i2cHeld_enable]⟩
  refine (if_neg hgo).trans ?_
  cases lost <;> cases read <;> cases ack <;> rfl

theorem Stack.uartWrite_taken (hb : b < s.build.pinBanks) :
    s.uartWrite b v = if (s.periph b).tx.length < 16
      then (s.writes [(PINS.LOCK_STATUS_ARMED, 0)]).setPeriph b { s.periph b with tx := (s.periph b).tx ++ [v] }
      else s.writes [(PINS.LOCK_STATUS_ARMED, 0), (PINS.STAT_OVERRUN b, 1), (PINS.INT_PERIPH, 1)] := by
  have hfull : ¬ 16 ≤ (s.periph b).tx.length ↔ (s.periph b).tx.length < 16 := Nat.not_le
  refine (if_neg (Nat.not_le.2 hb)).trans ?_
  by_cases h : (s.periph b).tx.length < 16
  · rw [if_pos h]
    exact if_neg (hfull.2 h)
  · rw [if_neg h]
    exact if_pos (Nat.not_lt.1 h)

theorem Stack.uartReceive_taken (bad : Bool) (hen : s.get (PINS.UART_CFG_EN b) ≠ 0) :
    s.uartReceive true b v bad = if bad = true then s.writes [(PINS.STAT_FRAMING b, 1), (PINS.INT_PERIPH, 1)]
      else if (s.periph b).rx.length < 16 then s.setPeriph b { s.periph b with rx := (s.periph b).rx ++ [v] }
      else s.writes [(PINS.STAT_OVERRUN b, 1), (PINS.INT_PERIPH, 1)] := by
  refine (if_neg (by simp [hen])).trans ?_
  cases bad with
  | true => rfl
  | false =>
    by_cases h : (s.periph b).rx.length < 16
    · exact (if_neg (Nat.not_le.2 h)).trans (if_pos h).symm
    · exact (if_pos (Nat.not_lt.1 h)).trans (if_neg h).symm

theorem Stack.uartRead_eq : s.uartRead b = match (s.periph b).rx with
    | [] => (s.writes [(PINS.UART_DATA_VALID b, 0), (PINS.UART_DATA_DATA b, 0)]).answered 0 [0]
    | x :: q => ((s.setPeriph b { s.periph b with rx := q }).writes [(PINS.UART_DATA_VALID b, 1), (PINS.UART_DATA_DATA b, x)]).answered 0 [256 + x] := by
  unfold Stack.uartRead
  dsimp only
  cases (s.periph b).rx <;> rfl

end

end Sys2Proof.Machine
end

section
/-! The statement of the pin inputs and the bank peripherals. -/

namespace Sys2Proof.Machine

/-- Settles O36: an edge or a level by its pin, a byte by its peripheral. -/
theorem pinInputsAndPeripheralsComplete : Obligations.PinInputsAndPeripheralsComplete := by
  refine ⟨fun s k n hk hpads hquiet => ⟨fun level hn => ?_, fun hstart hf => ?_⟩, fun s k e q hk hts => ?_,
    fun s k b v rx hk hb => ⟨fun hen hwired => ?_, fun start stop read nack ack lost hen hwired => ?_, ?_, fun bad hen hwired => ?_,
      fun hwired => ?_, ?_⟩⟩
  · exact exec_eq_of_onStack (exec_tallyDebounce hpads hquiet level) (Stack.tallyDebounce_built level hn)
  · refine completes_of_onStack hk (exec_timestampEdge hpads hquiet) (Stack.timestampEdge_onlyChanges hstart hf) ?_
    rw [Stack.timestampEdge_stamped hstart hf]
    by_cases h : (s.stack k).pins.ts.length < 16
    · rw [if_neg (Nat.not_le.2 h), if_pos h]
      refine ⟨?_, Stack.get_raise_same _ _, Stack.get_raise_ne _ (by decide)⟩
      simp [Stack.raise, Stack.put, b2n]
    · rw [if_pos (Nat.not_lt.1 h), if_neg h]
      exact ⟨rfl, Stack.get_raise_same _ _, Stack.get_raise_ne _ (by decide)⟩
  · refine completes_of_onStack (f := Stack.tsPop) hk rfl ?_ ?_ <;> rw [Stack.tsPop_cons hts]
    · exact (Stack.pins_onlyChanges _ _ (by simp)).answered _ _ (by simp)
    · exact ⟨rfl, rfl⟩
  · exact exec_eq_of_onStack rfl (by rw [hwired]; exact Stack.spiWrite_sent hb hen)
  · exact exec_eq_of_onStack rfl (by rw [hwired]; exact Stack.i2cCommand_sent start stop read nack ack lost hb hen)
  · exact exec_eq_of_onStack rfl (Stack.uartWrite_taken hb)
  · exact exec_eq_of_onStack rfl (by rw [hwired]; exact Stack.uartReceive_taken bad hen)
  · exact exec_eq_of_onStack rfl (by rw [hwired]; rfl)
  · exact exec_eq_of_onStack rfl Stack.uartRead_eq

end Sys2Proof.Machine
end

section
/-! SUPPORT. The commands of the clocks: what each leaves where it is taken, and where it is refused (R487 to R501). -/

namespace Sys2Proof.Machine

section
variable {s : Stack}

/-! ## Sources (R487, R490) -/

theorem Stack.setRunning_onlyChanges {P : List Part} {F : List Field} (n : Nat) (b : Bool) (h : CLK.MON_RUN_RUN (n / 32) ∈ F) :
    s.OnlyChanges P F (s.setRunning n b) := s.put_onlyChanges _ h

/-- A source's MON_RUN bit reads as it was written. -/
theorem Stack.sourceRunning_setRunning (n : Nat) (b : Bool) : (s.setRunning n b).sourceRunning n = b := by
  have hbit : n % 32 < 32 := Nat.mod_lt _ (by decide)
  have hread := bit_setBit_same (s.get (CLK.MON_RUN_RUN (n / 32))) (n % 32) b
  rw [bit_eq_testBit] at hread
  unfold Stack.sourceRunning Stack.setRunning
  rw [Stack.get_put_same, bit_eq_testBit]
  show (_ % 2 ^ 32).testBit (n % 32) = b
  rw [Nat.testBit_mod_two_pow, hread]
  simp [hbit]

/-- What the lock of a user PLL leaves (R487). -/
def Stack.pllLockedAt (s : Stack) (n : Nat) : Stack :=
  let t := s.setRunning (0x20 + n) true
  { t with clk := { t.clk with
      pllLocked := if t.clk.pllLocked.contains n then t.clk.pllLocked else t.clk.pllLocked ++ [n]
      pllIdle := t.clk.pllIdle.filter (· != n)
      forced := t.clk.forced.filter fun d => t.domainPll d != some n } }

theorem Stack.userPllLock_locks {n : Nat} (hn : n < 4 * s.build.layers) (hvalid : s.pllConfigValid n = true) (hused : s.pllUnused n = false)
    (hm : s.modeIn [.dawn, .day, .workshop] = true) : s.userPllLock n = s.pllLockedAt n :=
  if_pos (by simp [hn, hvalid, hused, hm])

theorem Stack.pllLockedAt_onlyChanges (n : Nat) : s.OnlyChanges [.clk] [CLK.MON_RUN_RUN ((32 + n) / 32)] (s.pllLockedAt n) :=
  (Stack.setRunning_onlyChanges (0x20 + n) true (by simp)).trans (Stack.clk_onlyChanges _ _ (by simp))

theorem Stack.mem_pllLocked (n : Nat) : n ∈ (s.pllLockedAt n).clk.pllLocked := by
  have h : (s.pllLockedAt n).clk.pllLocked = if s.clk.pllLocked.contains n then s.clk.pllLocked else s.clk.pllLocked ++ [n] := rfl
  rw [h]
  split
  next hc => simpa using hc
  next => simp

theorem Stack.not_mem_pllIdle (n : Nat) : n ∉ (s.pllLockedAt n).clk.pllIdle := by
  have h : (s.pllLockedAt n).clk.pllIdle = s.clk.pllIdle.filter (· != n) := rfl
  simp [h]

/-- FORCE connects the live selection, or is refused (R491). -/
theorem Stack.domainForce_eq (d : Nat) : s.domainForce d = if s.flag (CLK.DRST_RESET d) then
      let rest := s.clk.forced.filter (· != d)
      ({ s with clk := { s.clk with forced := if s.pllGives (pllOf d (s.get (CLK.SRC_SEL d))) then rest else d :: rest } } : Stack).writes
        [(CLK.SRC_STAT_SEL d, s.get (CLK.SRC_SEL d)), (CLK.SRC_STAT_DIV d, s.get (CLK.SRC_DIV d)), (CLK.SRC_STAT_SWITCHING d, 0), (CLK.SRC_STAT_HUNG d, 0)]
    else s.writes [(CLK.DRST_FORCE_REFUSED d, 1)] := by
  unfold Stack.domainForce
  dsimp only
  cases s.pllGives (pllOf d (s.get (CLK.SRC_SEL d))) <;> rfl

/-! ## The house clock and device time (R494 to R497) -/

theorem Stack.ptpMeasurement_eq : s.ptpMeasurement =
    if s.houseKind = 1 ∧ s.clk.started = true then
      if s.recentPtp.length < 128 then
        ({ s with clk := { s.clk with accepted := s.time :: s.recentPtp } } : Stack).measure
          (signed (s.get CLK.PTP_OFS_LO_OFS + 2 ^ 32 * s.get CLK.PTP_OFS_HI_OFS) 64)
      else s.writes [(CLK.PTP_CTL_OVERRUN, 1)]
    else s.writes [(CLK.PTP_CTL_IGNORED, 1)] := by
  unfold Stack.ptpMeasurement
  by_cases hp : s.houseKind = 1 ∧ s.clk.started = true
  · rw [if_pos hp, if_neg (by simp [hp.1, hp.2])]
    by_cases hn : s.recentPtp.length < 128
    · rw [if_pos hn, if_neg (Nat.not_le.2 hn)]
    · rw [if_neg hn, if_pos (Nat.not_lt.1 hn)]
      rfl
  · rw [if_neg hp, if_pos]
    · rfl
    · simpa only [Bool.not_eq_true] using Classical.not_and_iff_not_or_not.1 hp

/-- The house clock in HOLDOVER, at the averaged frequency (R495). -/
def Stack.heldOver (s : Stack) (freq : Nat) : Stack :=
  { s.writes [(CLK.HOUSE_STAT_STATE, 0), (CLK.INT_HOUSE_HOLDOVER, 1), (CLK.HOUSE_FREQ_FREQ, freq)] with
    clk := { s.clk with within := 0, beyond := 0, lastRef := none } }

theorem Stack.holdover_running (h : s.get CLK.HOUSE_STAT_STATE ≠ 0) : s.holdover = s.heldOver s.averageFreq := if_neg h

theorem Stack.referenceLoss_running (h : s.get CLK.HOUSE_STAT_STATE ≠ 0) :
    s.referenceLoss = (s.elapse s.lossDue).heldOver s.averageFreq :=
  (if_neg h).trans (Stack.holdover_running (s := s.elapse s.lossDue) h)

theorem Stack.houseCtl_running (h : s.get CLK.HOUSE_STAT_STATE ≠ 0) (v : Nat) :
    s.houseCtl v = (s.heldOver s.averageFreq).writes [(CLK.HOUSE_CTL_REF, bits v 0 13 + 2 ^ 20 * bits v 20 2)] := by
  unfold Stack.houseCtl
  rw [Stack.holdover_running h]
  rfl

theorem Stack.houseCtl_held (h : s.get CLK.HOUSE_STAT_STATE = 0) (v : Nat) :
    s.houseCtl v = { s.writes [(CLK.HOUSE_CTL_REF, bits v 0 13 + 2 ^ 20 * bits v 20 2)] with
      clk := { s.clk with within := 0, beyond := 0, lastRef := none } } := by
  have hold : s.holdover = s := if_pos h
  unfold Stack.houseCtl
  rw [hold]
  rfl

theorem Stack.timeSet_eq : s.timeSet =
    if s.houseKind ≠ 1 ∧ s.clk.started = true then
      s.stepTime ((s.get CLK.TIME_SET_S_SET + 2 ^ 32 * s.get CLK.TIME_SET_S_HI_SET) * 1000000000 + s.get CLK.TIME_SET_NS_SET)
    else s.writes [(CLK.TIME_CTL_REFUSED, 1)] := by
  unfold Stack.timeSet
  by_cases h : s.houseKind ≠ 1 ∧ s.clk.started = true
  · rw [if_pos h, if_neg (by simp [h.1, h.2])]
  · rw [if_neg h, if_pos]
    · rfl
    · simpa only [ne_eq, Classical.not_not, Bool.not_eq_true] using Classical.not_and_iff_not_or_not.1 h

/-! ## Rasters and the frequency meter (R500, R501) -/

theorem Stack.rasterOk_iff (n : Nat) : s.rasterOk n = true ↔
    s.get (CLK.RAS_RATE_DEN n) ≠ 0 ∧ 24000 * s.get (CLK.RAS_RATE_DEN n) ≤ 1001 * s.get (CLK.RAS_RATE_NUM n) ∧
      s.get (CLK.RAS_RATE_NUM n) ≤ 120 * s.get (CLK.RAS_RATE_DEN n) ∧ 1 ≤ s.get (CLK.RAS_GEOM_LINES n) ∧ 1 ≤ s.get (CLK.RAS_GEOM_SAMPLES n) ∧
      s.get (CLK.RAS_OFS_NS n) * s.get (CLK.RAS_RATE_NUM n) < 1000000000 * s.get (CLK.RAS_RATE_DEN n) ∧ s.clk.started = true := by
  simp [Stack.rasterOk, and_assoc]

theorem Stack.rasterEnable_stopped {n : Nat} (h : s.rasterRunning n = false) :
    s.rasterEnable n = if s.rasterOk n then s.writes [(CLK.RAS_CTL_ENABLE n, 1)] else s.writes [(CLK.RAS_CTL_BAD n, 1)] :=
  if_neg (by simp [h])

theorem Stack.rasterDisable_running {n : Nat} (h : s.rasterRunning n = true) :
    s.rasterDisable n = (s.writes [(CLK.RAS_CTL_ENABLE n, 0)]).rasterStopped n := if_pos h

theorem Stack.meterDone_busy (h : s.flag CLK.FM_STAT_BUSY = true) (edges : Nat) : s.meterDone edges =
    s.writes [(CLK.FM_RES_COUNT, min edges 0xFFFFFFFF), (CLK.FM_STAT_OVF, if edges < 0xFFFFFFFF then 0 else 1),
      (CLK.FM_STAT_DEAD, if s.meterRuns s.clk.meterRef then 0 else 1), (CLK.FM_STAT_BUSY, 0), (CLK.INT_FM_DONE, 1)] := by
  have hcount : (if decide (2 ^ 32 - 1 ≤ edges) then 0xFFFFFFFF else edges) = min edges 0xFFFFFFFF := by
    simp only [decide_eq_true_eq]
    split <;> omega
  have hovf : b2n (decide (2 ^ 32 - 1 ≤ edges)) = if edges < 0xFFFFFFFF then 0 else 1 := by
    simp only [b2n, decide_eq_true_eq]
    split <;> split <;> omega
  have hdead : b2n (!s.meterRuns s.clk.meterRef) = if s.meterRuns s.clk.meterRef then 0 else 1 := by
    cases s.meterRuns s.clk.meterRef <;> rfl
  refine (if_pos h).trans ?_
  dsimp only
  rw [hcount, hovf, hdead]
  rfl

end

end Sys2Proof.Machine
end

section
/-! The statement of the commands of the clocks. -/

namespace Sys2Proof.Machine

/-- Settles O37: each command on the stack that takes it. -/
theorem clockCommandsComplete : Obligations.ClockCommandsComplete := by
  intro s k hk
  refine ⟨fun n hn hvalid hused hm => ?_, fun d => ?_, ?_, fun h => ⟨?_, fun v => ?_⟩, fun h v => ?_, ?_, fun n h => ?_, fun n h => ?_,
    fun target ref => rfl, fun h edges => ?_⟩
  · refine completes_of_onStack (f := Stack.userPllLock n) hk rfl ?_ ?_ <;> rw [Stack.userPllLock_locks hn hvalid hused hm]
    · exact Stack.pllLockedAt_onlyChanges n
    · exact ⟨Stack.sourceRunning_setRunning _ _, Stack.mem_pllLocked n, Stack.not_mem_pllIdle n⟩
  · exact exec_eq_of_onStack rfl (Stack.domainForce_eq d)
  · exact exec_eq_of_onStack rfl Stack.ptpMeasurement_eq
  · exact exec_eq_of_onStack rfl (Stack.referenceLoss_running h)
  · exact exec_eq_of_onStack rfl (Stack.houseCtl_running h v)
  · exact exec_eq_of_onStack rfl (Stack.houseCtl_held h v)
  · exact exec_eq_of_onStack rfl Stack.timeSet_eq
  · refine exec_eq_of_onStack rfl ((Stack.rasterEnable_stopped h).trans ?_)
    simp only [Stack.rasterOk_iff]
  · exact exec_eq_of_onStack rfl (Stack.rasterDisable_running h)
  · exact exec_eq_of_onStack rfl (Stack.meterDone_busy h edges)

end Sys2Proof.Machine
end

section
/-! SUPPORT. Feeds, operating points and supplies: what each command leaves where it is taken (R505 to R511, R533). -/

namespace Sys2Proof.Machine

section
variable {s : Stack} {layer : Nat}

/-! ## REGULATE and RAW (R533) -/

section
variable (hup : s.build.upperLayer layer = true) (hm : s.modeIn [.workshop, .haven] = true) (hb : s.flag POWER.REG_STATUS_BUSY = false)
include hup hm hb

theorem Stack.regCmd_taken (op : Nat) : s.regCmd layer op =
    let t := s.writes [(POWER.REG_CMD_LAYER, layer), (POWER.REG_CMD_OP, op)]
    if op = 1 ∧ s.power.suspects.contains layer = true then t.put POWER.REG_STATUS_RESULT 2
    else if op = 2 ∧ s.layerClocked layer = true then t.put POWER.REG_STATUS_RESULT 3
    else if s.onRaw layer = (op = 2 : Bool) then t.put POWER.REG_STATUS_RESULT 0
    else ((t.put POWER.REG_STATUS_RESULT 0).put POWER.REG_STATUS_BUSY 1).handover layer (op == 1) 2 := by
  have hfree : ¬ s.flag POWER.REG_STATUS_BUSY = true := by simp [hb]
  have hlayer : ¬ (!s.build.upperLayer layer) = true := by simp [hup]
  have hmode : ¬ (!s.modeIn [.workshop, .haven]) = true := by simp [hm]
  exact ((if_neg hfree).trans (if_neg hlayer)).trans (if_neg hmode)

theorem Stack.regulate_taken : s.regCmd layer 1 =
    let u := s.writes [(POWER.REG_CMD_LAYER, layer), (POWER.REG_CMD_OP, 1)]
    if s.power.suspects.contains layer then u.writes [(POWER.REG_STATUS_RESULT, 2)]
    else if s.onRaw layer then { u.writes [(POWER.REG_STATUS_RESULT, 0), (POWER.REG_STATUS_BUSY, 1)] with
      power := { s.power with handovers := s.power.handovers ++ [⟨layer, true, 2⟩] } }
    else u.writes [(POWER.REG_STATUS_RESULT, 0)] := by
  rw [Stack.regCmd_taken hup hm hb]
  cases s.power.suspects.contains layer
  · cases s.onRaw layer <;> rfl
  · rfl

theorem Stack.raw_taken : s.regCmd layer 2 =
    let u := s.writes [(POWER.REG_CMD_LAYER, layer), (POWER.REG_CMD_OP, 2)]
    if s.layerClocked layer then u.writes [(POWER.REG_STATUS_RESULT, 3)]
    else if s.onRaw layer then u.writes [(POWER.REG_STATUS_RESULT, 0)]
    else { u.writes [(POWER.REG_STATUS_RESULT, 0), (POWER.REG_STATUS_BUSY, 1)] with
      power := { s.power with handovers := s.power.handovers ++ [⟨layer, false, 2⟩] } } := by
  rw [Stack.regCmd_taken hup hm hb]
  cases s.layerClocked layer
  · cases s.onRaw layer <;> rfl
  · rfl

end

/-! ## Hand-overs and regulator faults (R505 to R507) -/

/-- The oldest hand-over of a command, to regulation or with no re-enable waiting, ends (R506, R533). -/
theorem State.handoverComplete_command {s : State} {k : Side} {h : Handover} {q : List Handover} (hq : (s.stack k).power.handovers = h :: q)
    (hwho : h.who = 2) (hfree : h.regulate = true ∨ (s.stack k).sys.reenables.contains (.rail h.layer) = false) :
    s.handoverComplete k h.layer true = s.onStack k fun t =>
      (({ t with power := { t.power with handovers := q } } : Stack).setRaw h.layer (!h.regulate)).writes
        [(POWER.REG_STATUS_BUSY, 0), (POWER.REG_STATUS_RESULT, 0)] := by
  have hfind : (s.stack k).power.handovers.find? (fun x => x.layer == h.layer) = some h := by rw [hq]; simp
  have hdawn : ¬ (h.who = 0 ∧ (s.handingOver = false ∨ (s.stack k).power.handovers.head? ≠ some h)) := fun hd => by simp [hwho] at hd
  have hkept : ¬ ((!h.regulate) = true ∧ (s.stack k).sys.reenables.contains (.rail h.layer) = true) := by
    rcases hfree with hr | hr
    · simp [hr]
    · exact fun hd => Bool.false_ne_true (hr.symm.trans hd.2)
  have hdone : ∀ t : Stack, t.handoverDone h = (t.setRaw h.layer (!h.regulate)).writes [(POWER.REG_STATUS_BUSY, 0), (POWER.REG_STATUS_RESULT, 0)] :=
    fun t => if_pos hwho
  have herase : (s.stack k).power.handovers.erase h = q := by rw [hq]; simp
  unfold State.handoverComplete
  dsimp only
  rw [hfind]
  dsimp only
  rw [if_neg hdawn, if_neg hkept, if_pos rfl, State.onStack_onStack]
  refine State.onStack_congr ?_
  rw [hdone, herase]

theorem Stack.handBackRetry_tried (hr : layer ∈ s.power.retries) (hraw : s.onRaw layer = true) (hm : s.mode ≠ .haven) :
    s.handBackRetry layer = { s with power := { s.power with
      retries := s.power.retries.filter (· != layer), handovers := s.power.handovers ++ [⟨layer, true, 1⟩] } } :=
  if_pos (by simp [hr, hraw, hm])

theorem Stack.noteSuspect_onRaw (n : Nat) : (s.noteSuspect layer).onRaw n = s.onRaw n :=
  congrArg (bit · (n - 2)) (Stack.get_raise_ne _ (by decide))

theorem Stack.regulatorFault_haven (hm : s.mode = .haven) : s.regulatorFault layer =
    let u := s.noteSuspect layer
    if s.onRaw layer then u else { u with power := { u.power with handovers := u.power.handovers ++ [⟨layer, false, 1⟩] } } := by
  have hunfold : s.regulatorFault layer = if (s.noteSuspect layer).onRaw layer then s.noteSuspect layer
    else (s.noteSuspect layer).handover layer false 1 := if_pos hm
  rw [hunfold, Stack.noteSuspect_onRaw]
  rfl

theorem Stack.regulatorFault_service (hm : s.mode ≠ .haven) : s.regulatorFault layer =
    let u := (s.noteSuspect layer).fault (.layer layer) 0xC 0 0 0
    let v := if u.mode = .haven then u else u.holdForRecovery (u.sectionsIn (layer - layer % 2))
    if v.onRaw layer then { v with power := { v.power with retries := v.power.retries ++ [layer] } }
    else { v with power := { v.power with handovers := v.power.handovers ++ [⟨layer, false, 1⟩] } } := if_neg hm

/-- A fault of a regulator in Haven keeps the mode and starts no recovery. -/
theorem Stack.regulatorFault_haven_quiet (hm : s.mode = .haven) :
    (s.regulatorFault layer).mode = s.mode ∧ (s.regulatorFault layer).sys.recoveries = s.sys.recoveries := by
  rw [Stack.regulatorFault_haven hm]
  dsimp only
  split <;> exact ⟨rfl, rfl⟩

section
variable {s : State} {k : Side} (hup : s.build.upperLayer layer = true) (hdawn : s.mode ≠ .dawn)
include hup hdawn

theorem State.regulatorSuspect_noted (hm : (s.stack k).modeIn [.siesta, .dusk] = true) :
    s.regulatorSuspect k layer = s.onStack k fun t => t.noteSuspect layer := by
  have hhand : s.handingOver = false := by simp [State.handingOver, hdawn]
  have hmode : (s.stack k).modeIn [.off, .vigil] = false ∧ (s.stack k).modeIn [.dawn, .siesta, .dusk] = true := by
    generalize s.stack k = t at hm ⊢
    unfold Stack.modeIn at hm ⊢
    generalize t.mode = m at hm ⊢
    revert hm
    cases m <;> decide
  simp [State.regulatorSuspect, hup, hhand, hmode.1, hmode.2]

theorem State.regulatorSuspect_fault (hm : (s.stack k).modeIn [.day, .workshop, .haven] = true) :
    s.regulatorSuspect k layer = s.onStackFault k fun t => t.regulatorFault layer := by
  have hhand : s.handingOver = false := by simp [State.handingOver, hdawn]
  have hmode : (s.stack k).modeIn [.off, .vigil] = false ∧ (s.stack k).modeIn [.dawn, .siesta, .dusk] = false := by
    generalize s.stack k = t at hm ⊢
    unfold Stack.modeIn at hm ⊢
    generalize t.mode = m at hm ⊢
    revert hm
    cases m <;> decide
  simp [State.regulatorSuspect, hup, hhand, hmode.1, hmode.2]

end

/-! ## Operating points (R509, R510) -/

theorem Stack.oppRequest_eq (scale volt : Nat) : s.oppRequest layer scale volt =
    let r := s.oppResult layer scale volt
    let u := s.writes [(POWER.OPP_REQ_LAYER, layer), (POWER.OPP_REQ_SCALE, scale), (POWER.OPP_REQ_VOLT, volt), (POWER.OPP_STATUS_RESULT, r)]
    if r = 0 then ({ u with power := { u.power with opps := u.power.opps ++ [(layer / 2 - 1, scale, volt)] } } : Stack).writes [(POWER.OPP_STATUS_BUSY, 1)]
    else u := rfl

/-- RANGE is the one result of its four cases: every other case has another code (R509, log 111). -/
theorem Stack.oppResult_range (scale volt : Nat) : s.oppResult layer scale volt = 1 ↔
    (s.build.logicIndex layer = none ∨ scale < 32 ∨ 64 < scale ∨ 850 < volt ∨ 64 * volt < 64 * 450 + 300 * scale) := by
  have hcases : ∀ {c : Prop} [Decidable c] {a b : Nat}, a ≠ 1 → b ≠ 1 → (if c then a else b) ≠ 1 := by
    intro c _ a b ha hb
    split <;> assumption
  rw [← Option.isNone_iff_eq_none, Nat.mul_comm 64 volt, Nat.mul_comm 64 450]
  unfold Stack.oppResult
  dsimp only
  split
  next h => exact iff_of_true rfl h
  next h =>
    refine iff_of_false ?_ h
    repeat refine hcases (by decide) ?_
    decide

theorem Stack.oppApplied_first {i scale volt : Nat} {q : List (Nat × Nat × Nat)} (h : s.power.opps = (i, scale, volt) :: q) :
    s.oppApplied (2 * i + 2) = ({ s with power := { s.power with opps := q } } : Stack).writes
      [(POWER.OPP_SCALE i, scale), (POWER.OPP_VOLT i, volt), (POWER.OPP_STATUS_BUSY, if q = [] then 0 else 1), (POWER.INT_OPP_DONE, 1)] := by
  have hindex : (2 * i + 2) / 2 - 1 = i := by omega
  have hfind : s.power.opps.find? (fun p => p.1 == (2 * i + 2) / 2 - 1 && (2 * i + 2) % 2 == 0) = some (i, scale, volt) := by
    rw [h, hindex]
    simp
  have herase : s.power.opps.erase (i, scale, volt) = q := by rw [h]; simp
  have hbusy : b2n (!q.isEmpty) = if q = [] then 0 else 1 := by cases q <;> rfl
  unfold Stack.oppApplied
  rw [hfind]
  dsimp only
  rw [herase, hbusy]
  rfl

/-! ## Supplies (R511) -/

theorem Stack.supply_back {n : Nat} (hn : n < 12) (hm : s.mode ≠ .off) : s.supply n true =
    ({ s with sys := { s.sys with suppliesOut := s.sys.suppliesOut.filter (· != n) } } : Stack).writes
      [(POWER.SUPPLY_OK_OK, setBit (s.get POWER.SUPPLY_OK_OK) n true)] := by
  unfold Stack.supply
  dsimp only
  rw [if_neg (Nat.not_le.2 hn), if_neg hm]
  rfl

theorem Stack.supply_out {n : Nat} (hn : n < 12) (hm : s.mode ≠ .off) : s.supply n false =
    (({ s with sys := { s.sys with suppliesOut := s.sys.suppliesOut.filter (· != n) ++ [n] } } : Stack).writes
      [(POWER.SUPPLY_OK_OK, setBit (s.get POWER.SUPPLY_OK_OK) n false), (POWER.SUPPLY_EVT_EVT, setBit (s.get POWER.SUPPLY_EVT_EVT) n true),
       (POWER.INT_SUPPLY, 1)]).event { block := 0xC, cause := 0, data0 := n } := by
  have hevt : ∀ (t : Stack) v, (t.put POWER.SUPPLY_OK_OK v).get POWER.SUPPLY_EVT_EVT = t.get POWER.SUPPLY_EVT_EVT :=
    fun t v => t.get_put_ne v (by decide)
  unfold Stack.supply
  dsimp only
  rw [if_neg (Nat.not_le.2 hn), if_neg hm, hevt]
  rfl

theorem Stack.supply_mode {n : Nat} (hn : n < 12) (hm : s.mode ≠ .off) (ok : Bool) : (s.supply n ok).mode = s.mode := by
  cases ok
  · rw [Stack.supply_out hn hm]
    exact (Stack.event_onlyChanges (P := [.ledger]) (F := [LEDGER.PEND_HELD, LEDGER.PEND_DROPPED]) _ _ (by simp) (by simp) (by simp)).part
      (p := .mode) (by simp)
  · rw [Stack.supply_back hn hm]
    rfl

/-- Outside Off and Dawn a supply's excursion is its stack's alone (R50, R511). -/
theorem State.supplyExcursion_stack {s : State} {k : Side} {n : Nat} (hk : s.hasSide k = true) (hn : n < 12) (hm : (s.stack k).mode ≠ .off)
    (hdawn : s.mode ≠ .dawn) (ok : Bool) : s.supplyExcursion k n ok = s.onStack k (Stack.supply n ok) := by
  have hmode : (s.onStack k (Stack.supply n ok)).mode = s.mode := by
    cases k with
    | recto => exact (congrArg Stack.mode (State.onStack_stack s _ hk)).trans (Stack.supply_mode hn hm ok)
    | verso => exact congrArg Stack.mode (State.onStack_stack_ne s (k := .verso) (j := .recto) _ (by decide))
  exact if_neg fun h => hdawn (hmode.symm.trans h.1)

end

end Sys2Proof.Machine
end

section
/-! The statement of feeds, operating points and supplies. -/

namespace Sys2Proof.Machine

/-- Settles O38: each command in the modes in which it acts, on its stack. -/
theorem feedsPointsAndSuppliesComplete : Obligations.FeedsPointsAndSuppliesComplete := by
  refine ⟨fun s k layer hk hup hm hb => ⟨?_, ?_⟩, fun s k h q hk hq hwho hfree => ?_,
    fun s k layer hk => ⟨fun hr hraw hm => ?_, fun hup hdawn => ⟨fun hm => ?_, fun hm => ?_, fun hm => ?_⟩⟩,
    fun s k layer scale volt hk => ⟨rfl, Stack.oppResult_range _ _⟩, fun s k i scale volt q hk hq => ?_,
    fun s k n hk hn hm hdawn => ⟨?_, ?_⟩, fun s k hk htrip => ?_⟩
  · exact exec_eq_of_onStack rfl (Stack.regulate_taken hup hm hb)
  · exact exec_eq_of_onStack rfl (Stack.raw_taken hup hm hb)
  · exact (nextSide_present _ hk).trans (congrArg _ (State.handoverComplete_command hq hwho hfree))
  · exact exec_eq_of_onStack rfl (Stack.handBackRetry_tried hr hraw hm)
  · have hquiet := Stack.regulatorFault_haven_quiet (layer := layer) hm
    have hfault := State.regulatorSuspect_fault (s := s) (k := k) hup hdawn (by simp [Stack.modeIn, hm])
    have hstack := hfault.trans (State.onStackFault_quiet s hk hquiet.1 hquiet.2)
    exact exec_eq_of_onStack ((nextSide_present _ hk).trans (congrArg _ hstack)) (Stack.regulatorFault_haven hm)
  · exact (nextSide_present _ hk).trans (congrArg _ (State.regulatorSuspect_noted hup hdawn hm))
  · have hmode : (s.stack k).mode = .day ∨ (s.stack k).mode = .workshop := by simpa [Stack.modeIn] using hm
    have hfault := State.regulatorSuspect_fault (s := s) (k := k) hup hdawn (by rcases hmode with h | h <;> simp [Stack.modeIn, h])
    refine exec_eq_of_onStackFault ((nextSide_present _ hk).trans (congrArg _ hfault)) (Stack.regulatorFault_service ?_)
    rcases hmode with h | h <;> simp [h]
  · exact exec_eq_of_onStack rfl (Stack.oppApplied_first hq)
  · exact exec_eq_of_onStack ((nextSide_present _ hk).trans (congrArg _ (State.supplyExcursion_stack hk hn hm hdawn true))) (Stack.supply_back hn hm)
  · exact exec_eq_of_onStack ((nextSide_present _ hk).trans (congrArg _ (State.supplyExcursion_stack hk hn hm hdawn false))) (Stack.supply_out hn hm)
  · exact exec_eq_of_onStack rfl (if_pos htrip)

end Sys2Proof.Machine
end

section
/-! SUPPORT. Temperatures, the ledger's commands and the pair's frame starts (R513 to R535, R580 to R582). -/

namespace Sys2Proof.Machine

/-! ## A temperature sample (R513, R521, R522) -/

/-- An effect that leaves the stack as it is leaves the package. -/
theorem State.onStack_fixed {s : State} {k : Side} {f : Stack → Stack} (h : f (s.stack k) = s.stack k) : s.onStack k f = s := by
  cases hk : s.hasSide k with
  | false => exact State.onStack_absent s f hk
  | true =>
    rw [State.onStack_present s f hk, h, State.setStack_self]

/-- A sample after which no die trips or is critical is the sample alone. -/
theorem State.temperatureSample_calm {s : State} {k : Side} {d : Nat} {l : List (Option Nat)} (hm : (s.stack k).modeIn [.off, .vigil] = false)
    (hd : d ∈ (s.stack k).dies) :
    let u := s.onStackFault k (Stack.sampleDie d l)
    (∀ e ∈ (u.stack k).dies, (u.stack k).trips e = false ∧ (u.stack k).decided e < 840) → s.temperatureSample k d l = u := by
  intro u hcalm
  have hgo : ¬ ((s.stack k).modeIn [.off, .vigil] || !((s.stack k).dies.contains d)) = true := by simp [hm, hd]
  have hnew : (u.stack k).dies.filter (fun e => decide (840 ≤ (u.stack k).decided e) && decide ((s.stack k).decided e < 840)) = [] := by
    rw [List.filter_eq_nil_iff]
    exact fun e he => by simp [Int.not_le.2 (hcalm e he).2]
  have hraised := State.onStack_fixed (s := u) (k := k)
    (f := fun v => (v.dies.filter fun e => decide (840 ≤ v.decided e) && decide ((s.stack k).decided e < 840)).foldl
      (fun v e => (v.raise THERM.INT_CRITICAL).thermEvent e 2 0 0) v) (by rw [hnew]; rfl)
  have htrip : (u.stack k).dies.find? (u.stack k).trips = none := by
    rw [List.find?_eq_none]
    exact fun e he => by simp [(hcalm e he).1]
  have hcritical : (u.stack k).isCritical = false := by
    unfold Stack.isCritical
    rw [List.any_eq_false]
    exact fun e he => by simp [(hcalm e he).2]
  refine (if_neg hgo).trans ?_
  dsimp only
  rw [hraised, htrip]
  simp [hcritical]

/-! ## The thermal model (R515) -/

theorem Stack.thermalUpdate_installed {s : Stack} (activity : List (Nat × Nat)) (powers : List Nat) (hm : s.modeIn [.off, .vigil] = false)
    (hn : s.loader.thermalN = s.build.top + 1) :
    let n := s.build.top + 1
    let m := fun (i j : Nat) => Int.ofNat (mapGet 0 s.loader.thermal (i * n + j))
    let sum := fun i => (List.range n).foldl (fun (a : Int) j => a + (m i j - m (n - 1) j) * (s.layerPower activity powers j : Int)) 0
    s.thermalUpdate activity powers = s.writes ((List.range n).flatMap fun i =>
      [(THERM.MODEL_EST i, wrapInt 12 ((s.measured (n - 1)).getD 0 + (8 * sum i).fdiv 262144000)), (THERM.MODEL_VALID i, 1)]) := by
  intro n m sum
  have hgo : ¬ (s.build.top + 1 = 0 ∨ s.build.top + 1 ≠ s.build.top + 1 ∨ s.modeIn [.off, .vigil] = true) := by simp [hm]
  unfold Stack.thermalUpdate
  rw [hn]
  refine (if_neg hgo).trans ?_
  unfold Stack.writes
  rw [List.foldl_flatMap]
  rfl

/-! ## The ledger's commands (R524, R529, R535) -/

section
variable {s : Stack}

/-- The pending events written into the log (R529). -/
def Stack.pendWritten (s : Stack) : Stack :=
  let u := s.deviceRecord 0x0050 (s.ledger.pend.foldl logEvent (s.recordBody 0x0050))
  ({ u with ledger := { u.ledger with pend := [] } } : Stack).writes [(LEDGER.PEND_HELD, 0)]

theorem Stack.flushLedger_window (hw : s.tempWindow = true) (hp : s.ledger.pend ≠ []) : s.flushLedger = s.pendWritten :=
  (if_neg (by simpa using hp)).trans (if_neg (by simp [hw]))

theorem Stack.ledgerFlush_window (hw : s.tempWindow = true) (hp : s.ledger.pend ≠ []) (hm : s.modeIn [.off, .vigil] = false) :
    s.ledgerFlush = ((s.writes [(LEDGER.CMD_OP, 2)]).pendWritten).writes [(LEDGER.STATUS_RESULT, 0)] := by
  have hflush := Stack.flushLedger_window (s := s.put LEDGER.CMD_OP 2) hw hp
  unfold Stack.ledgerFlush
  dsimp only
  rw [if_neg (by simp [hm]), hflush, if_pos hw]
  rfl

theorem Stack.ledgerRetry_window (hw : s.tempWindow = true) (hr : s.ledger.retry ≠ []) : s.ledgerRetry =
    s.ledger.retry.foldl (fun t r => if r.1 = 0x0050 then t.flushLedger else t.writeRecord r.1 r.2)
      { s with ledger := { s.ledger with retry := [] } } :=
  if_neg (by simp [hw, hr])

/-- The RESULT of COMMIT, by the tests of R535 in their order. -/
def Stack.ledgerCommitResult (s : Stack) : Nat :=
  if s.mode ≠ .workshop then 3 else if s.get LEDGER.SEL_TYPE ≠ 1 then 2 else if s.get LEDGER.WIN_ADDR_WORD * 4 ≠ 384 then 4
  else if !s.tempWindow then 1 else 0

theorem Stack.ledgerCommit_refused {r : Nat} (h : s.ledgerCommitResult = r) (hr : r ≠ 0) :
    s.ledgerCommit = s.writes [(LEDGER.CMD_OP, 1), (LEDGER.STATUS_RESULT, r)] := by
  subst h
  exact if_neg hr

theorem Stack.ledgerCommit_taken (h : s.ledgerCommitResult = 0) :
    s.ledgerCommit = (s.writes [(LEDGER.CMD_OP, 1), (LEDGER.STATUS_RESULT, 0)]).writeRecord 1 s.ledger.commit := by
  have hunfold : s.ledgerCommit = if s.ledgerCommitResult = 0 then
      (s.writes [(LEDGER.CMD_OP, 1), (LEDGER.STATUS_RESULT, s.ledgerCommitResult)]).writeRecord 1 s.ledger.commit
    else s.writes [(LEDGER.CMD_OP, 1), (LEDGER.STATUS_RESULT, s.ledgerCommitResult)] := rfl
  rw [hunfold, if_pos h, h]

theorem Stack.ledgerCommitResult_refused {r : Nat} (h : s.mode ≠ .workshop ∧ r = 3 ∨ s.mode = .workshop ∧ (s.get LEDGER.SEL_TYPE ≠ 1 ∧ r = 2 ∨
      s.get LEDGER.SEL_TYPE = 1 ∧ (s.get LEDGER.WIN_ADDR_WORD ≠ 96 ∧ r = 4 ∨ s.get LEDGER.WIN_ADDR_WORD = 96 ∧ s.tempWindow = false ∧ r = 1))) :
    s.ledgerCommitResult = r ∧ r ≠ 0 := by
  unfold Stack.ledgerCommitResult
  rcases h with ⟨hm, rfl⟩ | ⟨hm, ⟨ht, rfl⟩ | ⟨ht, ⟨hlen, rfl⟩ | ⟨hlen, hw, rfl⟩⟩⟩
  · exact ⟨if_pos hm, by decide⟩
  · rw [if_neg (not_not_intro hm), if_pos ht]
    decide
  · rw [if_neg (not_not_intro hm), if_neg (not_not_intro ht), if_pos (by omega)]
    decide
  · rw [if_neg (not_not_intro hm), if_neg (not_not_intro ht), if_neg (by omega), hw]
    decide

theorem Stack.ledgerCommitResult_taken (hm : s.mode = .workshop) (ht : s.get LEDGER.SEL_TYPE = 1) (hlen : s.get LEDGER.WIN_ADDR_WORD = 96)
    (hw : s.tempWindow = true) : s.ledgerCommitResult = 0 := by
  unfold Stack.ledgerCommitResult
  rw [if_neg (not_not_intro hm), if_neg (not_not_intro ht), if_neg (by omega), hw]
  rfl

/-- A word of a record is that word of its body. -/
theorem Stack.mapGet_recordBody (type w : Nat) : mapGet 0 (s.recordBody type) w = s.recordWord type w := by
  unfold Stack.recordBody Stack.recordWord
  cases s.readBank type <;> rfl

theorem Stack.ledgerWin_read (v : Nat) : s.ledgerWin false v =
    let w := s.get LEDGER.WIN_ADDR_WORD
    let t := s.answered 0 [s.recordWord (s.get LEDGER.SEL_TYPE) w]
    if t.flag LEDGER.WIN_ADDR_AUTOINC then t.writes [(LEDGER.WIN_ADDR_WORD, w + 1)] else t := by
  unfold Stack.ledgerWin
  dsimp only
  rw [Stack.mapGet_recordBody]
  rfl

theorem Stack.ledgerWin_write {v : Nat} (hw : s.get LEDGER.WIN_ADDR_WORD < 96) : s.ledgerWin true v =
    let w := s.get LEDGER.WIN_ADDR_WORD
    let t : Stack := { s with ledger := { s.ledger with commit := mapSet 0 s.ledger.commit w v } }
    if t.flag LEDGER.WIN_ADDR_AUTOINC then t.writes [(LEDGER.WIN_ADDR_WORD, w + 1)] else t := by
  unfold Stack.ledgerWin
  dsimp only
  rw [if_pos rfl, if_pos hw]
  rfl

end

/-! ## The pair in Mirror (R580 to R582) -/

section
variable {s : State} (hmirror : s.mirror = true)
include hmirror

theorem State.mirrorExchange_running (complete : Bool) (hr : (s.stack s.active).rasterRunning 0 = true) : s.mirrorExchange complete =
    let u := if s.recto.pair.held = none then s.loseSync else s.standbyFrame complete
    let v := u.setHeld (some (u.takeExchange u.active))
    if v.recto.flag PINS.PAIR_STAT_WINDOW then v.onStack .recto fun t => { t with pair := { t.pair with frames := t.pair.frames + 1 } } else v := by
  have hgo : ¬ (!s.mirror || !(s.stack s.active).rasterRunning 0) = true := by simp [hmirror, hr]
  have hstandby : s.standbyFrame complete = if s.recto.pair.held = none then s.loseSync else s.standbyFrame complete := by
    split
    next h =>
      unfold State.standbyFrame
      rw [h]
    next => rfl
  refine (if_neg hgo).trans ?_
  dsimp only
  rw [← hstandby]

theorem State.resyncFail_due (hw : s.recto.flag PINS.PAIR_STAT_WINDOW = true) (hf : 3 ≤ s.recto.pair.frames) :
    s.resyncFail = (s.onStack .recto fun t =>
      { t.writes [(PINS.PAIR_STAT_WINDOW, 0)] with pair := { t.pair with frames := 0 } }).onStack .recto (Stack.pairEvent · 4) :=
  if_pos (by simp [hmirror, hw, hf])

end

end Sys2Proof.Machine
end

section
/-! The statement of temperatures, the ledger's commands and the pair. -/

namespace Sys2Proof.Machine

/-- Settles O39: each command where its conditions hold. -/
theorem temperaturesLedgerAndPairComplete : Obligations.TemperaturesLedgerAndPairComplete := by
  refine ⟨fun s k d l hk hm hd hcalm => ?_, fun s k activity powers hk hm hn => ?_,
    fun s k hk hw => ⟨fun hr => ?_, fun hp => ⟨?_, fun hm => ?_⟩, fun hm => ?_, fun hm ht hlen => ?_⟩, fun s k r hk h => ?_,
    fun s k v hk => ⟨?_, fun hw => ?_⟩, fun s complete hmirror hr => ?_, fun s hmirror hw hf => ?_⟩
  · exact (nextSide_present _ hk).trans (congrArg _ (State.temperatureSample_calm hm hd hcalm))
  · exact exec_eq_of_onStack rfl (Stack.thermalUpdate_installed activity powers hm hn)
  · exact exec_eq_of_onStack rfl (Stack.ledgerRetry_window hw hr)
  · exact exec_eq_of_onStack rfl (Stack.flushLedger_window hw hp)
  · exact exec_eq_of_onStack rfl (Stack.ledgerFlush_window hw hp hm)
  · exact exec_eq_of_onStack rfl (if_pos hm)
  · exact exec_eq_of_onStack rfl (Stack.ledgerCommit_taken (Stack.ledgerCommitResult_taken hm ht hlen hw))
  · obtain ⟨hresult, hr⟩ := Stack.ledgerCommitResult_refused h
    exact exec_eq_of_onStack rfl (Stack.ledgerCommit_refused hresult hr)
  · exact exec_eq_of_onStack rfl (Stack.ledgerWin_read v)
  · exact exec_eq_of_onStack rfl (Stack.ledgerWin_write hw)
  · exact congrArg Host.Outcome.next (State.mirrorExchange_running hmirror complete hr)
  · exact congrArg Host.Outcome.next (State.resyncFail_due hmirror hw hf)

end Sys2Proof.Machine
end

section
/-! SUPPORT. Lanes: enable, bring-up, loss and reference clocks, and the tests and training of a lane (R427 to R441, R490). -/

namespace Sys2Proof.Machine

/-- Two effects that agree on the stack give the same next state of a command that may move lanes. -/
theorem exec_eq_of_nextLink {c : Instr} {s : State} {k : Side} {f g : Stack → Stack} (he : exec c s = nextLink s k f)
    (h : f (s.stack k) = g (s.stack k)) : exec c s = .next (s.onStack k fun t => (g t).syncPorts).pairLink :=
  he.trans (congrArg (fun p : State => Host.Outcome.next p.pairLink) (State.onStack_congr (congrArg Stack.syncPorts h)))

section
variable {s : Stack} {n : Nat}

/-! ## CFG (R430, R431, R434) -/

/-- The fields that a write of CFG with ENABLE 1 holds, but for RATE and ENABLE. -/
def Stack.laneHeld (s : Stack) (n v : Nat) : Stack :=
  s.writes [(LANE.CFG_USE n, v), (LANE.CFG_LINK n, v / 4), (LANE.CFG_PAM4 n, v / 2 ^ 9), (LANE.CFG_FRAC n, v / 2 ^ 10),
    (LANE.CFG_REFSEL n, v / 2 ^ 11), (LANE.CFG_TX_INV n, v / 2 ^ 12), (LANE.CFG_RX_INV n, v / 2 ^ 13), (LANE.CFG_POL_AUTO n, v / 2 ^ 14),
    (LANE.CFG_TRAIN n, v / 2 ^ 15), (LANE.CFG_TRIES n, v / 2 ^ 16)]

theorem Stack.laneEnable_off (v : Nat) (hoff : s.flag (LANE.CFG_ENABLE n) = false) (hn : n < s.build.lanes) : s.laneEnable n v =
    if (s.laneHeld n v).laneUse n = 1 then s.laneHeld n v
    else
      let u := ((s.laneHeld n v).writes [(LANE.CFG_RATE n, v / 2 ^ 5), (LANE.CFG_ENABLE n, 1)]).laneRise n
      if u.laneUse n = 3 then u.lacePoll (u.laneLink n) else u := by
  have hgo : ¬ (s.flag (LANE.CFG_ENABLE n) = true ∨ s.build.lanes ≤ n) := by simp [hoff, hn]
  exact if_neg hgo

theorem Stack.laneDisable_on (hon : s.flag (LANE.CFG_ENABLE n) = true) (huse : s.laneUse n ≠ 1) : s.laneDisable n =
    let u := (s.writes [(LANE.CFG_ENABLE n, 0)]).laneOff n
    { u with sys := { u.sys with reenables := u.sys.reenables.filter (· != .lanePower n) } } :=
  if_neg (by simp [hon, huse])

/-! ## Stages (R431 to R434) -/

/-- The stage after stage `st` entered, with the eye measured at Ready (R431, R456). -/
def Stack.nextEntered (s : Stack) (n st height width : Nat) : Stack :=
  let u := s.setStage n (s.nextStage n st)
  if s.nextStage n st = 8 then u.writes [(LANE.EYE_HEIGHT n, height), (LANE.EYE_WIDTH n, width)] else u

/-- A bit of SIGNAL as a completed stage sets it (R431). -/
def Stack.signalFound (s : Stack) (n i : Nat) (b : Bool) : Stack :=
  s.writes [(LANE.STATUS_SIGNAL n, setBit (s.get (LANE.STATUS_SIGNAL n)) i b)]

section
variable (h1 : 1 ≤ s.laneStage n) (h7 : s.laneStage n ≤ 7) (hwait : (s.lane n).waiting = false) (href : (s.lane n).refWait = false)
include h1 h7 hwait href

/-- What a completed stage leaves of a lane that is not waiting, stage by stage. -/
theorem Stack.stageComplete_runs (inv : Bool) (height width : Nat) : s.stageComplete n inv height width =
    match s.laneStage n with
    | 1 => (s.signalFound n 0 true).nextEntered n (s.laneStage n) height width
    | 2 => (s.signalFound n 1 true).nextEntered n (s.laneStage n) height width
    | 3 => if (s.laneUse n == 3) = true ∧ (s.lane n).run < 16 then s
      else (s.signalFound n 2 (if (s.laneUse n == 3) = true then (s.lane n).inverted else inv)).nextEntered n (s.laneStage n) height width
    | 4 => (s.signalFound n 3 true).nextEntered n (s.laneStage n) height width
    | 5 => if (s.laneUse n == 3) = true ∧ (!s.orderOk n) = true then s.attemptEnds n 5 else s.nextEntered n (s.laneStage n) height width
    | 6 => s.nextEntered n (s.laneStage n) height width
    | _ =>
      if (s.laneUse n == 3) = true ∧ (s.lane n).farRole = some (s.flag (LANE.LACE_CTL_ROLE (s.laneLink n))) then s.attemptEnds n 8
      else if (s.laneUse n == 3) = true ∧ (s.lane n).readyRun < 64 then s
      else s.nextEntered n (s.laneStage n) height width := by
  have hgo : ¬ (s.laneStage n = 0 ∨ 8 ≤ s.laneStage n ∨ (s.lane n).waiting = true ∨ (s.lane n).refWait = true) := by
    simp only [hwait, href, Bool.false_eq_true, or_false]
    omega
  exact if_neg hgo

theorem Stack.stageComplete_found (inv : Bool) (height width : Nat) (hst : s.laneStage n = 1 ∨ s.laneStage n = 2 ∨ s.laneStage n = 4) :
    s.stageComplete n inv height width = (s.signalFound n (s.laneStage n - 1) true).nextEntered n (s.laneStage n) height width := by
  rw [Stack.stageComplete_runs h1 h7 hwait href]
  rcases hst with h | h | h <;> rw [h] <;> rfl

theorem Stack.stageComplete_polarity (inv : Bool) (height width : Nat) (hst : s.laneStage n = 3) (huse : s.laneUse n ≠ 3) :
    s.stageComplete n inv height width = (s.signalFound n 2 inv).nextEntered n (s.laneStage n) height width := by
  rw [Stack.stageComplete_runs h1 h7 hwait href, hst]
  simp [huse]

theorem Stack.stageComplete_lacingPolarity (inv : Bool) (height width : Nat) (hst : s.laneStage n = 3) (huse : s.laneUse n = 3)
    (hrun : 16 ≤ (s.lane n).run) :
    s.stageComplete n inv height width = (s.signalFound n 2 (s.lane n).inverted).nextEntered n (s.laneStage n) height width := by
  rw [Stack.stageComplete_runs h1 h7 hwait href, hst]
  simp [huse, Nat.not_lt.2 hrun]

theorem Stack.stageComplete_entered (inv : Bool) (height width : Nat)
    (hst : s.laneStage n = 6 ∨ (s.laneStage n = 5 ∧ (s.laneUse n ≠ 3 ∨ s.orderOk n = true)) ∨ (s.laneStage n = 7 ∧ (s.laneUse n ≠ 3 ∨
      ((s.lane n).farRole ≠ some (s.flag (LANE.LACE_CTL_ROLE (s.laneLink n))) ∧ 64 ≤ (s.lane n).readyRun)))) :
    s.stageComplete n inv height width = s.nextEntered n (s.laneStage n) height width := by
  rw [Stack.stageComplete_runs h1 h7 hwait href]
  rcases hst with h | ⟨h, horder⟩ | ⟨h, hready⟩ <;> rw [h]
  · rfl
  · refine if_neg fun hbad => ?_
    rcases horder with huse | hok
    · exact huse (by simpa using hbad.1)
    · simp [hok] at hbad
  · rcases hready with huse | ⟨hrole, hrun⟩
    · simp [huse]
    · simp [hrole, Nat.not_lt.2 hrun]

/-- An overrun with tries left ends the attempt, and the lane waits for its restart (R432, R433). -/
theorem Stack.stageOverrun_left
    (htries : s.get (LANE.STATUS_ATTEMPT n) + 1 < if s.get (LANE.CFG_TRIES n) = 0 then 8 else s.get (LANE.CFG_TRIES n)) :
    let cause := if s.laneStage n = 7 ∧ s.laneUse n = 3 ∧ (s.lane n).farRole = some (s.flag (LANE.LACE_CTL_ROLE (s.laneLink n))) then 8
      else s.laneStage n
    s.stageOverrun n =
      let u := (s.writes [(LANE.STATUS_FAIL n, cause)]).bump (LANE.STATUS_ATTEMPT n)
      u.setLane n { u.lane n with waiting := true } := by
  intro cause
  have hgo : ¬ (s.laneStage n = 0 ∨ 8 ≤ s.laneStage n ∨ (s.lane n).waiting = true ∨ (s.lane n).refWait = true) := by
    simp only [hwait, href, Bool.false_eq_true, or_false]
    omega
  have hattempt : (s.put (LANE.STATUS_FAIL n) cause).get (LANE.STATUS_ATTEMPT n) = s.get (LANE.STATUS_ATTEMPT n) :=
    s.get_put_ne _ (by simp [LANE.STATUS_FAIL, LANE.STATUS_ATTEMPT])
  have hcfg : ((s.put (LANE.STATUS_FAIL n) cause).bump (LANE.STATUS_ATTEMPT n)).get (LANE.CFG_TRIES n) = s.get (LANE.CFG_TRIES n) :=
    (Stack.get_bump_ne _ _ (by simp [LANE.STATUS_ATTEMPT, LANE.CFG_TRIES])).trans (s.get_put_ne _ (by simp [LANE.STATUS_FAIL, LANE.CFG_TRIES]))
  have hcount : ((s.put (LANE.STATUS_FAIL n) cause).bump (LANE.STATUS_ATTEMPT n)).get (LANE.STATUS_ATTEMPT n) ≤ s.get (LANE.STATUS_ATTEMPT n) + 1 := by
    rw [Stack.get_bump_sat, hattempt]
    exact Nat.min_le_left _ _
  refine (if_neg hgo).trans (if_neg ?_)
  rw [hcfg]
  exact Nat.not_le.2 (Nat.lt_of_le_of_lt hcount htries)

end

theorem Stack.laneRestart_waiting (h : (s.lane n).waiting = true) : s.laneRestart n = (s.bump (LANE.ERRCNT_RESTARTS n)).laneStage1 n := if_pos h

theorem Stack.lossOfSignal_ready (h : s.laneStage n = 8) : s.lossOfSignal n = (s.laneStage1 n).laneLeft n := if_pos h

theorem Stack.syncErrors_ready (h : s.laneStage n = 8) (huse : s.laneUse n = 3) :
    s.syncErrors n = (((s.bump (LANE.ERRCNT_SYNC_ERR n) 16).setStage n (s.nextStage n 2)).setLane n {}).laneLeft n := if_pos ⟨h, huse⟩

/-! ## Clocks (R434, R490) -/

theorem Stack.clockDead_running {m : Nat} (h : s.sourceRunning m = true) :
    s.clockDead m = ((s.setRunning m false).setDead m).writes [(CLK.INT_CLOCK_DEAD, 1)] := if_pos h

/-- A source that is no reference input of a quad is declared dead without an effect on lanes. -/
theorem Stack.sourceDead_other {m : Nat} (h : s.sourceRunning m = true) (hm : m < 8 ∨ 8 + s.build.lanes / 2 ≤ m) :
    s.sourceDead m = ((s.setRunning m false).setDead m).writes [(CLK.INT_CLOCK_DEAD, 1)] :=
  (if_neg (by omega)).trans (Stack.clockDead_running h)

theorem Stack.refStopped_running {q ab : Nat} (h : s.sourceRunning (8 + 2 * q + ab) = true) : s.refStopped q ab =
    let u := ((s.setRunning (8 + 2 * q + ab) false).setDead (8 + 2 * q + ab)).writes [(CLK.INT_CLOCK_DEAD, 1)]
    let u := u.writes [(LANE.QSTAT_REF_OK q, setBit (u.get (LANE.QSTAT_REF_OK q)) ab false), (LANE.INT_REF, 1)]
    ([4 * q, 4 * q + 1, 4 * q + 2, 4 * q + 3].foldl (fun t n =>
      if 1 ≤ t.laneStage n ∧ t.laneStage n ≤ 8 ∧ t.get (LANE.CFG_REFSEL n) = ab then (t.laneStage1 n).laneLeft n else t) u).syncPlls q := by
  unfold Stack.refStopped
  rw [Stack.clockDead_running h]
  rfl

theorem Stack.refRuns_enabled {q ab : Nat} (h : bit (s.get (LANE.QCTL_REF_EN q)) ab = true) : s.refRuns q ab =
    let u := s.setRunning (8 + 2 * q + ab) true
    let u := u.writes [(LANE.QSTAT_REF_OK q, setBit (s.get (LANE.QSTAT_REF_OK q)) ab true)]
    ([4 * q, 4 * q + 1, 4 * q + 2, 4 * q + 3].foldl (fun t n =>
      if (t.lane n).refWait ∧ t.get (LANE.CFG_REFSEL n) = ab then t.setLane n {} else t) u).syncPlls q :=
  if_neg (by simp [h])

end

end Sys2Proof.Machine
end

section
/-! The statement of the bring-up of lanes. -/

namespace Sys2Proof.Machine

/-- Settles O42: each command on the lane's stack, the ports and the pair following. -/
theorem laneBringUpCompletes : Obligations.LaneBringUpCompletes := by
  intro s k n hk
  refine ⟨fun v hoff hn => ?_, fun hon huse => ?_, fun inv height width h1 h7 hwait href => ⟨fun hst => ?_, fun hst huse => ?_,
    fun hst huse hrun => ?_, fun hst => ?_⟩, fun h1 h7 hwait href htries => ?_, fun h => ?_, fun h => ?_, fun h huse => ?_, fun m h hm => ?_,
    fun q ab h => ?_, fun q ab h => ?_⟩
  · exact exec_eq_of_nextLink rfl (Stack.laneEnable_off v hoff hn)
  · exact exec_eq_of_nextLink rfl (Stack.laneDisable_on hon huse)
  · exact exec_eq_of_nextLink rfl (Stack.stageComplete_found h1 h7 hwait href inv height width hst)
  · exact exec_eq_of_nextLink rfl (Stack.stageComplete_polarity h1 h7 hwait href inv height width hst huse)
  · exact exec_eq_of_nextLink rfl (Stack.stageComplete_lacingPolarity h1 h7 hwait href inv height width hst huse hrun)
  · exact exec_eq_of_nextLink rfl (Stack.stageComplete_entered h1 h7 hwait href inv height width hst)
  · exact exec_eq_of_nextLink rfl (Stack.stageOverrun_left h1 h7 hwait href htries)
  · exact exec_eq_of_nextLink rfl (Stack.laneRestart_waiting h)
  · exact exec_eq_of_nextLink rfl (Stack.lossOfSignal_ready h)
  · exact exec_eq_of_nextLink rfl (Stack.syncErrors_ready h huse)
  · exact exec_eq_of_nextLink rfl (Stack.sourceDead_other h hm)
  · exact exec_eq_of_nextLink rfl (Stack.refStopped_running h)
  · exact exec_eq_of_nextLink rfl (Stack.refRuns_enabled h)

end Sys2Proof.Machine
end

section
/-! SUPPORT. The tests of a lane, its training frames and its markers (R428, R435 to R441). -/

namespace Sys2Proof.Machine

section
variable {s : Stack} {n : Nat}

/-! ## Tests (R440) -/

/-- The generator's fields leave the signalling of a lane as it was (R428). -/
theorem Stack.nrz_writes (gen pattern : Nat) :
    (s.writes [(LANE.TEST_GEN n, gen), (LANE.TEST_PATTERN n, pattern)]).nrz n = s.nrz n := by
  have hrate : (s.writes [(LANE.TEST_GEN n, gen), (LANE.TEST_PATTERN n, pattern)]).get (LANE.CFG_RATE n) = s.get (LANE.CFG_RATE n) :=
    s.get_writes_ne (by simp [LANE.TEST_GEN, LANE.TEST_PATTERN, LANE.CFG_RATE])
  have hpam : (s.writes [(LANE.TEST_GEN n, gen), (LANE.TEST_PATTERN n, pattern)]).get (LANE.CFG_PAM4 n) = s.get (LANE.CFG_PAM4 n) :=
    s.get_writes_ne (by simp [LANE.TEST_GEN, LANE.TEST_PATTERN, LANE.CFG_PAM4])
  unfold Stack.nrz Stack.laneRate Stack.flag
  rw [hrate, hpam]

section
variable (hm : s.modeIn [.day, .workshop] = true)
include hm

/-- A changed LOOP of a lane that runs restarts it at stage 1. -/
theorem Stack.laneLoop_changed {v : Nat} (hv : s.get (LANE.TEST_LOOP n) ≠ v % 4) (h0 : s.laneStage n ≠ 0) (h9 : s.laneStage n ≠ 9) :
    s.laneLoop n v = ((s.writes [(LANE.TEST_LOOP n, v)]).laneStage1 n).laneLeft n := by
  have hgo : ¬ ((!s.laneTests) = true ∨ s.get (LANE.TEST_LOOP n) = v % 4) := by simp [Stack.laneTests, hm, hv]
  have hstage : (s.put (LANE.TEST_LOOP n) v).laneStage n = s.laneStage n :=
    s.get_put_ne _ (by simp [LANE.TEST_LOOP, LANE.STATUS_STAGE])
  refine (if_neg hgo).trans (if_neg ?_)
  rw [hstage]
  exact not_or.2 ⟨h0, h9⟩

theorem Stack.prbsGenerator_taken (gen pattern : Nat) : s.prbsGenerator n gen pattern =
    s.writes [(LANE.TEST_GEN n, gen), (LANE.TEST_PATTERN n, pattern), (LANE.PRBS_STAT_LOCK n,
      setBit (s.get (LANE.PRBS_STAT_LOCK n)) 1 (gen % 2 == 1 && pattern % 8 == 7 && s.nrz n))] := by
  have hlock : (s.writes [(LANE.TEST_GEN n, gen), (LANE.TEST_PATTERN n, pattern)]).get (LANE.PRBS_STAT_LOCK n) = s.get (LANE.PRBS_STAT_LOCK n) :=
    s.get_writes_ne (by simp [LANE.TEST_GEN, LANE.TEST_PATTERN, LANE.PRBS_STAT_LOCK])
  rw [← hlock, ← Stack.nrz_writes gen pattern]
  exact if_neg (by simp [Stack.laneTests, hm])

theorem Stack.prbsChecker_taken (chk pattern : Nat) (lock : Bool) (errors : Nat) : s.prbsChecker n chk pattern lock errors =
    let u := s.writes [(LANE.TEST_CHK n, chk), (LANE.TEST_PATTERN n, pattern)]
    let u := if chk % 2 = 1 ∧ s.flag (LANE.TEST_CHK n) = false then u.writes [(LANE.PRBS_ERR_ERRORS n, 0)] else u
    let u := u.writes [(LANE.PRBS_STAT_LOCK n, setBit (s.get (LANE.PRBS_STAT_LOCK n)) 0 (chk % 2 == 1 && lock))]
    if chk % 2 = 1 ∧ lock = true then u.bump (LANE.PRBS_ERR_ERRORS n) errors else u := by
  have hlock : (s.writes [(LANE.TEST_CHK n, chk), (LANE.TEST_PATTERN n, pattern)]).get (LANE.PRBS_STAT_LOCK n) = s.get (LANE.PRBS_STAT_LOCK n) :=
    s.get_writes_ne (by simp [LANE.TEST_CHK, LANE.TEST_PATTERN, LANE.PRBS_STAT_LOCK])
  have hlock' : (s.writes [(LANE.TEST_CHK n, chk), (LANE.TEST_PATTERN n, pattern), (LANE.PRBS_ERR_ERRORS n, 0)]).get (LANE.PRBS_STAT_LOCK n) =
      s.get (LANE.PRBS_STAT_LOCK n) :=
    s.get_writes_ne (by simp [LANE.TEST_CHK, LANE.TEST_PATTERN, LANE.PRBS_ERR_ERRORS, LANE.PRBS_STAT_LOCK])
  have hrise : (chk % 2 == 1 && !s.flag (LANE.TEST_CHK n)) = true ↔ chk % 2 = 1 ∧ s.flag (LANE.TEST_CHK n) = false := by simp
  refine (if_neg (by simp [Stack.laneTests, hm])).trans ?_
  dsimp only
  by_cases h : chk % 2 = 1 ∧ s.flag (LANE.TEST_CHK n) = false
  · rw [if_pos h, if_pos (hrise.2 h), ← hlock']
    rfl
  · rw [if_neg h, if_neg (mt hrise.1 h), ← hlock]
    rfl

theorem Stack.laneInject_on (h : s.laneStage n ≠ 0) : s.laneInject n = s.answered 0 [1] := if_pos ⟨hm, h⟩

end

/-! ## Training frames and markers (R435 to R441) -/

/-- What a training frame says of the far end, held (R435, R437, R438). -/
def Stack.frameHeard (s : Stack) (n : Nat) (inv : Bool) (f : Nat) : Stack :=
  let x := s.lane n
  let u := (s.setLane n { x with inverted := inv, run := (if inv = x.inverted then x.run + 1 else 1), farRole := some (bit f 38), farWidth := 2 ^ bits f 13 3, readyRun := (if bit f 37 then x.readyRun + 1 else 0) }).writes
    [(LANE.STATUS_LANE_ID n, bits f 8 5)]
  u.setLace (s.laneLink n) { s.lace (s.laneLink n) with farLastRx := bits f 39 12 }

/-- A frame leaves the state of the lane's own requests as it was. -/
theorem Stack.frameHeard_st (inv : Bool) (f : Nat) : ((s.frameHeard n inv f).lane n).st = (s.lane n).st := by
  change (mapGet {} (mapSet {} s.lanes n _) n).st = _
  rw [mapGet_mapSet, if_pos rfl]

theorem Stack.trainingFrame_heard (inv : Bool) (f : Nat) (huse : s.laneUse n = 3) (h3 : 3 ≤ s.laneStage n) (h7 : s.laneStage n ≤ 7) :
    s.trainingFrame n inv f = if s.laneStage n < 7 then s.frameHeard n inv f
      else if bit f 28 ∧ (s.lane n).st = 0 then (s.frameHeard n inv f).loadPreset n
      else if bit f 28 then s.frameHeard n inv f
      else [0, 1, 2, 3].foldl (fun t i => t.tapRequest n i (bits f (20 + 2 * i) 2)) (s.frameHeard n inv f) := by
  have hgo : ¬ (s.laneUse n ≠ 3 ∨ s.laneStage n < 3 ∨ 7 < s.laneStage n) := by omega
  have hunfold : s.trainingFrame n inv f = if s.laneStage n ≠ 7 then s.frameHeard n inv f
      else if bit f 28 ∧ ((s.frameHeard n inv f).lane n).st = 0 then (s.frameHeard n inv f).loadPreset n
      else if bit f 28 then s.frameHeard n inv f
      else (List.range 4).foldl (fun t i => t.tapRequest n i (bits f (20 + 2 * i) 2)) (s.frameHeard n inv f) := if_neg hgo
  rw [hunfold, Stack.frameHeard_st]
  by_cases h : s.laneStage n < 7
  · rw [if_pos h, if_pos (by omega)]
  · rw [if_neg h, if_neg (by omega)]
    rfl

theorem Stack.laneMarker_heard (f : Nat) (huse : s.laneUse n = 3) (h5 : 5 ≤ s.laneStage n) (h8 : s.laneStage n ≤ 8) :
    s.laneMarker n f = (s.writes [(LANE.STATUS_LANE_ID n, bits f 8 5)]).setLane n { s.lane n with farWidth := 2 ^ bits f 13 3 } :=
  if_neg (by omega)

end

end Sys2Proof.Machine
end

section
/-! The statement of the tests and the training of lanes. -/

namespace Sys2Proof.Machine

/-- Settles O43: each test in the modes that take it, and each frame by the stage of its lane. -/
theorem laneTestsAndTrainingComplete : Obligations.LaneTestsAndTrainingComplete := by
  refine ⟨fun s k n hk hm => ⟨fun v hv h0 h9 => ?_, fun gen pattern => ?_, fun chk pattern lock errors => ?_, fun h => ?_⟩,
    fun s k n f hk huse => ⟨fun inv h3 h7 => ?_, fun h5 h8 => ?_⟩⟩
  · exact exec_eq_of_nextLink rfl (Stack.laneLoop_changed hm hv h0 h9)
  · exact exec_eq_of_onStack rfl (Stack.prbsGenerator_taken hm gen pattern)
  · exact exec_eq_of_onStack rfl (Stack.prbsChecker_taken hm chk pattern lock errors)
  · exact exec_eq_of_onStack rfl (Stack.laneInject_on hm h)
  · exact exec_eq_of_onStack rfl (Stack.trainingFrame_heard inv f huse h3 h7)
  · exact exec_eq_of_onStack rfl (Stack.laneMarker_heard f huse h5 h8)

end Sys2Proof.Machine
end

section
/-! SUPPORT. Media ports, received frames and the host path: what each command leaves (R458 to R462, R473, R474, R479). -/

namespace Sys2Proof.Machine

section
variable {s : Stack} {q : Nat}

/-! ## Ports (R458, R479) -/

/-- The fields that a write of CFG with ENABLE 1 holds. -/
def Stack.mportHeld (s : Stack) (q v : Nat) : Stack :=
  s.writes [(MPORT.CFG_MODE q, v), (MPORT.CFG_FEC q, v / 16), (MPORT.CFG_HOST_UNMATCHED q, v / 32), (MPORT.CFG_ENABLE q, 1)]

/-- The lanes of a started port set to a rate and enabled (R458). -/
theorem laneEnabled_rate (rate : Nat) :
    (fun (t : Stack) n => ((t.put (LANE.CFG_RATE n) rate).put (LANE.CFG_PAM4 n) (b2n (decide (8 ≤ rate)))).laneEnabled n) =
      fun t n => (t.writes [(LANE.CFG_RATE n, rate), (LANE.CFG_PAM4 n, if 8 ≤ rate then 1 else 0)]).laneEnabled n := by
  have hpam : b2n (decide (8 ≤ rate)) = if 8 ≤ rate then 1 else 0 := by simp [b2n]
  rw [hpam]
  rfl

theorem Stack.mportEnable_off (v : Nat) (hoff : s.flag (MPORT.CFG_ENABLE q) = false) (hq : q < s.build.mports) : s.mportEnable q v =
    let u := s.mportHeld q v
    match portMode (v % 16) with
    | none => u.writes [(MPORT.STATUS_FAIL q, 1)]
    | some (_, rate) =>
      if ∀ n ∈ u.portLanes q, u.get (LANE.CFG_USE n) = 1 then
        (u.portLanes q).foldl (fun t n => (t.writes [(LANE.CFG_RATE n, rate), (LANE.CFG_PAM4 n, if 8 ≤ rate then 1 else 0)]).laneEnabled n)
          (u.writes [(MPORT.STATUS_FAIL q, 0)])
      else u.writes [(MPORT.STATUS_FAIL q, 2)] := by
  have hgo : ¬ (s.flag (MPORT.CFG_ENABLE q) = true ∨ s.build.mports ≤ q) := by simp [hoff, hq]
  have hheld : (((s.put (MPORT.CFG_MODE q) v).put (MPORT.CFG_FEC q) (v / 16)).put (MPORT.CFG_HOST_UNMATCHED q) (v / 32)).put (MPORT.CFG_ENABLE q) 1 =
      s.mportHeld q v := rfl
  refine (if_neg hgo).trans ?_
  dsimp only
  rw [hheld]
  generalize s.mportHeld q v = u
  cases portMode (v % 16) with
  | none => rfl
  | some p =>
    dsimp only
    rw [laneEnabled_rate]
    by_cases h : ∀ n ∈ u.portLanes q, u.get (LANE.CFG_USE n) = 1
    · rw [if_pos h, if_neg (by simpa using h)]
      rfl
    · rw [if_neg h, if_pos (by simpa using h)]
      rfl

theorem Stack.mportDisable_on (h : s.flag (MPORT.CFG_ENABLE q) = true) : s.mportDisable q =
    let u := s.writes [(MPORT.CFG_ENABLE q, 0)]
    (u.portLanes q).foldl (fun t n => if t.get (LANE.CFG_USE n) = 1 then (t.writes [(LANE.CFG_ENABLE n, 0)]).laneOff n else t) u :=
  if_neg (by simp [h])

/-! ## Received frames (R458 to R460) -/

/-- The FEC counts of a frame (R458). -/
def Stack.fecCounted (s : Stack) (q ce ue : Nat) : Stack := (s.bump (MPORT.FEC_CE_COUNT q) ce).bump (MPORT.FEC_UE_COUNT q) ue

/-- Whether a frame that is no PTP message goes to the host whatever the flow tables hold (R460). -/
abbrev frameToHost (l : List Nat) : Prop :=
  etherType l = 0x0806 ∨ etherType l = 0x86DD ∨
    (etherType l = 0x0800 ∧ (ipOdd l = true ∨ l.getD (netOffset l + 9) 0 = 1 ∨ l.getD (netOffset l + 9) 0 = 2))

/-- The flow entry that a frame matches, when it is UDP (R465). -/
def Stack.frameHit (s : Stack) (q : Nat) (l : List Nat) : Option Nat :=
  if isUdp l then s.rxMatch q (netNat l (netOffset l + 12) 4) (netNat l (netOffset l + 16) 4) (udpDst l) else none

section
variable {l : List Nat} {fcsOk : Bool} {ce ue : Nat} (hlink : s.flag (MPORT.STATUS_LINK q) = true)
include hlink

theorem Stack.frameReceive_linked : s.frameReceive q l fcsOk ce ue =
    let t := s.fecCounted q ce ue
    if frameBad l fcsOk then t.bump (MPORT.RX_BAD_COUNT q)
    else if !t.macAccepts q l then t
    else
      let u := t.bump (MPORT.RX_FRAMES_COUNT q)
      match ptpMessage l with
      | some m => u.hostFrame q l (decide (m.getD 0 0 % 16 ≤ 3)) false
      | none =>
        if frameToHost l then u.hostFrame q l false false
        else
          match u.frameHit q l with
          | some e => u.flowPacket q e ((l.drop (netOffset l + 28)).take (netNat l (netOffset l + 24) 2 - 8))
          | none => if u.flag (MPORT.CFG_HOST_UNMATCHED q) then u.hostFrame q l false true else u.bump (MPORT.RX_UNMATCHED_COUNT q) := by
  have hgo : ¬ (!s.flag (MPORT.STATUS_LINK q)) = true := by simp [hlink]
  exact if_neg hgo

theorem Stack.frameReceive_bad (hbad : frameBad l fcsOk = true) :
    s.frameReceive q l fcsOk ce ue = (s.fecCounted q ce ue).bump (MPORT.RX_BAD_COUNT q) :=
  (Stack.frameReceive_linked hlink).trans (if_pos hbad)

section
variable (hgood : frameBad l fcsOk = false)
include hgood

theorem Stack.frameReceive_refused (hmac : (s.fecCounted q ce ue).macAccepts q l = false) :
    s.frameReceive q l fcsOk ce ue = s.fecCounted q ce ue := by
  rw [Stack.frameReceive_linked hlink]
  simp [hgood, hmac]

section
variable (hmac : (s.fecCounted q ce ue).macAccepts q l = true)
include hmac

theorem Stack.frameReceive_accepted : s.frameReceive q l fcsOk ce ue =
    let u := (s.fecCounted q ce ue).bump (MPORT.RX_FRAMES_COUNT q)
    match ptpMessage l with
    | some m => u.hostFrame q l (decide (m.getD 0 0 % 16 ≤ 3)) false
    | none =>
      if frameToHost l then u.hostFrame q l false false
      else
        match u.frameHit q l with
        | some e => u.flowPacket q e ((l.drop (netOffset l + 28)).take (netNat l (netOffset l + 24) 2 - 8))
        | none => if u.flag (MPORT.CFG_HOST_UNMATCHED q) then u.hostFrame q l false true else u.bump (MPORT.RX_UNMATCHED_COUNT q) := by
  have hok : ¬ frameBad l fcsOk = true := by simp [hgood]
  have htaken : ¬ (!(s.fecCounted q ce ue).macAccepts q l) = true := by simp [hmac]
  exact ((Stack.frameReceive_linked hlink).trans (if_neg hok)).trans (if_neg htaken)

theorem Stack.frameReceive_ptp {m : List Nat} (hp : ptpMessage l = some m) : s.frameReceive q l fcsOk ce ue =
    ((s.fecCounted q ce ue).bump (MPORT.RX_FRAMES_COUNT q)).hostFrame q l (decide (m.getD 0 0 % 16 ≤ 3)) false := by
  rw [Stack.frameReceive_accepted hlink hgood hmac, hp]

section
variable (hp : ptpMessage l = none)
include hp

theorem Stack.frameReceive_host (hh : frameToHost l) : s.frameReceive q l fcsOk ce ue =
    ((s.fecCounted q ce ue).bump (MPORT.RX_FRAMES_COUNT q)).hostFrame q l false false := by
  rw [Stack.frameReceive_accepted hlink hgood hmac, hp]
  exact if_pos hh

theorem Stack.frameReceive_flow (hh : ¬ frameToHost l) {e : Nat}
    (hhit : ((s.fecCounted q ce ue).bump (MPORT.RX_FRAMES_COUNT q)).frameHit q l = some e) : s.frameReceive q l fcsOk ce ue =
    ((s.fecCounted q ce ue).bump (MPORT.RX_FRAMES_COUNT q)).flowPacket q e
      ((l.drop (netOffset l + 28)).take (netNat l (netOffset l + 24) 2 - 8)) := by
  rw [Stack.frameReceive_accepted hlink hgood hmac, hp]
  refine (if_neg hh).trans ?_
  rw [hhit]

theorem Stack.frameReceive_unmatched (hh : ¬ frameToHost l)
    (hhit : ((s.fecCounted q ce ue).bump (MPORT.RX_FRAMES_COUNT q)).frameHit q l = none) : s.frameReceive q l fcsOk ce ue =
    let u := (s.fecCounted q ce ue).bump (MPORT.RX_FRAMES_COUNT q)
    if u.flag (MPORT.CFG_HOST_UNMATCHED q) then u.hostFrame q l false true else u.bump (MPORT.RX_UNMATCHED_COUNT q) := by
  rw [Stack.frameReceive_accepted hlink hgood hmac, hp]
  refine (if_neg hh).trans ?_
  rw [hhit]

end
end
end
end

/-! ## The receive buffer and the host path (R461, R462, R473, R474) -/

theorem Stack.bufferDrain_moves {e : Nat} {u : RxUnit} {rest : List RxUnit} (hunit : takeUnit (1024 * q + e) (s.mport q).buffer = some (u, rest))
    (hhold : (s.rxFlow (1024 * q + e)).hold = false)
    (howner : mapGet 0 s.media.owner (32 * mediaStop q + u.queue) = 0 ∨ mapGet 0 s.media.owner (32 * mediaStop q + u.queue) = 1024 * q + e + 1) :
    let room := s.queueDepth 0 (mediaStop q) u.queue - (s.queueFlits 0 (mediaStop q) u.queue).length
    u.flits.take room ≠ [] → s.bufferDrain q e =
      let left := u.flits.drop room
      let v := (s.pushQueue 0 (mediaStop q) u.queue (u.flits.take room)).setMport q
        { s.mport q with buffer := if left = [] then rest else { u with flits := left } :: rest }
      { v with media := { v.media with owner := mapSet 0 v.media.owner (32 * mediaStop q + u.queue) (if left = [] then 0 else 1024 * q + e + 1) } } := by
  intro room hroom
  have hgo : ¬ ((s.rxFlow (1024 * q + e)).hold = true ∨ (mapGet 0 s.media.owner (32 * mediaStop q + u.queue) ≠ 0 ∧
      mapGet 0 s.media.owner (32 * mediaStop q + u.queue) ≠ 1024 * q + e + 1)) := by
    rw [hhold]
    exact fun h => h.elim Bool.false_ne_true fun hq => howner.elim hq.1 hq.2
  unfold Stack.bufferDrain
  dsimp only
  rw [hunit]
  exact (if_neg hgo).trans (if_neg hroom)

theorem Stack.hrxRead_cons {w : Nat} {words : List Nat} {more : List (List Nat)} (h : (s.mport q).hrx = (w :: words) :: more) :
    s.hrxRead q = (s.setMport q { s.mport q with hrx := if words = [] then more else words :: more }).answered 0 [w] := by
  unfold Stack.hrxRead
  dsimp only
  rw [h]
  rfl

theorem Stack.hrxRead_nil (h : (s.mport q).hrx = []) : s.hrxRead q = s.answered 0 [0] := by
  unfold Stack.hrxRead
  dsimp only
  rw [h]

theorem Stack.htxWrite_room {v : Nat} (h : (s.mport q).htx.length < 4096) : s.htxWrite q v =
    (s.setMport q { s.mport q with htx := (s.mport q).htx ++ [v % 2 ^ 32] }).writes [(MPORT.HTX_STATUS_SPACE q, 4095 - (s.mport q).htx.length)] :=
  if_neg (Nat.not_le.2 h)

end

end Sys2Proof.Machine
end

section
/-! The statement of the media ports and the host path. -/

namespace Sys2Proof.Machine

/-- Settles O45: a port by its CFG, a frame by the first row of R460 that takes it, and the buffers. -/
theorem mediaPortsAndHostPathComplete : Obligations.MediaPortsAndHostPathComplete := by
  refine ⟨fun s k q hk => ⟨fun v hoff hq => ?_, fun hon => ?_⟩,
    fun s k q l fcsOk ce ue hk hlink => ⟨fun hbad => ?_, fun hgood hmac => ?_, fun hgood hmac => ⟨fun m hp => ?_, fun hp hh => ?_,
      fun hp hh e hhit => ?_, fun hp hh hhit => ?_⟩⟩,
    fun s k q e u rest hk hunit hhold => fun howner hroom => ?_,
    fun s k q hk => ⟨fun w words more h => ?_, fun h => ?_, fun v h => ?_, fun len tsReq => rfl⟩⟩
  · exact exec_eq_of_nextLink rfl (Stack.mportEnable_off v hoff hq)
  · exact exec_eq_of_nextLink rfl (Stack.mportDisable_on hon)
  · exact exec_eq_of_onStack rfl (Stack.frameReceive_bad hlink hbad)
  · exact exec_eq_of_onStack rfl (Stack.frameReceive_refused hlink hgood hmac)
  · exact exec_eq_of_onStack rfl (Stack.frameReceive_ptp hlink hgood hmac hp)
  · exact exec_eq_of_onStack rfl (Stack.frameReceive_host hlink hgood hmac hp hh)
  · exact exec_eq_of_onStack rfl (Stack.frameReceive_flow hlink hgood hmac hp hh hhit)
  · exact exec_eq_of_onStack rfl (Stack.frameReceive_unmatched hlink hgood hmac hp hh hhit)
  · exact exec_eq_of_onStack rfl (Stack.bufferDrain_moves hunit hhold howner hroom)
  · exact exec_eq_of_onStack rfl (Stack.hrxRead_cons h)
  · exact exec_eq_of_onStack rfl (Stack.hrxRead_nil h)
  · exact exec_eq_of_onStack rfl (Stack.htxWrite_room h)

end Sys2Proof.Machine
end

section
/-! SUPPORT. Transmit channels, the pacer and the SDI framers (R469, R475 to R479). -/

namespace Sys2Proof.Machine

/-- A fold whose every step leaves the state as it is. -/
theorem foldl_fixed_of_mem {α β : Type} {f : α → β → α} {a : α} {l : List β} (h : ∀ b ∈ l, f a b = a) : l.foldl f a = a := by
  induction l with
  | nil => rfl
  | cons b l ih =>
    rw [List.foldl_cons, h b (by simp)]
    exact ih fun c hc => h c (by simp [hc])

section
variable {s : Stack} {stop chan : Nat} {flits : List Nat}

/-! ## Units of a transmit channel (R475 to R477) -/

/-- A unit handed to the SDI framers of its channel at a port (R477). -/
def Stack.sdiFed (chan : Nat) (samples : List Nat) (s : Stack) (q n : Nat) : Stack :=
  if s.flag (MPORT.SDI_CTL_ENABLE q n) ∧ s.get (MPORT.SDI_CTL_CHAN q n) = chan then
    let p := s.mport q
    s.setMport q { p with sdi := mapSet [] p.sdi n (mapGet [] p.sdi n ++ [samples]) }
  else s

/-- Where no framer of a stop takes the channel, none is fed. -/
theorem Stack.sdiFed_none (samples : List Nat) (hno : ∀ q < s.build.mports, mediaStop q = stop → ∀ n < 4,
      s.flag (MPORT.SDI_CTL_ENABLE q n) = true → s.get (MPORT.SDI_CTL_CHAN q n) ≠ chan) :
    ((List.range s.build.mports).filter fun q => mediaStop q == stop).foldl
      (fun s q => (List.range 4).foldl (fun s n => s.sdiFed chan samples q n) s) s = s := by
  refine foldl_fixed_of_mem fun q hq => foldl_fixed_of_mem fun n hn => if_neg ?_
  simp only [List.mem_filter, List.mem_range, beq_iff_eq] at hq hn
  exact fun h => hno q hq.1 hq.2 n hn h.1 h.2

theorem Stack.flowLoss_zero (s : Stack) (q : Nat) : s.flowLoss q 0 = s := if_pos rfl

section
variable (hno : ∀ q < s.build.mports, mediaStop q = stop → ∀ n < 4,
  s.flag (MPORT.SDI_CTL_ENABLE q n) = true → s.get (MPORT.SDI_CTL_CHAN q n) ≠ chan)
include hno

theorem Stack.transmitUnit_unclaimed (h : s.txEntries stop chan = []) : s.transmitUnit stop chan flits = s := by
  have hfed := Stack.sdiFed_none (unitSamples flits) hno
  unfold Stack.sdiFed at hfed
  simp only [Stack.transmitUnit, hfed, h]

/-- The channel of a video entry as a unit finds it: its first line starts a frame (R475, R476). -/
def Stack.videoChan (s : Stack) (stop chan w2 v : Nat) : TxChan :=
  let c0 := mapGet ({} : TxChan) s.media.chans (32 * stop + chan)
  if bit v 16 then s.txFrame c0 (bits w2 15 2) (bit w2 17) (bits v 32 32) 90000 else c0

theorem Stack.transmitUnit_video {q e : Nat} (h : s.txEntries stop chan = [(q, e)]) (hflows : s.flowsRun = true)
    (hkind : bits (s.txWord q e 2) 5 4 = 0) :
    let w2 := s.txWord q e 2
    let fmt := s.format q (bits w2 9 4)
    let v := flits.headD 0
    let c := s.videoChan stop chan w2 v
    let parts := linePackets fmt.1 ((unitSamples flits).take (lineSamples fmt.1))
    let height := bits fmt.1 16 13
    let period := s.framePeriod (bits w2 15 2)
    let total := Nat.max 1 (bits fmt.2 0 11)
    let npk := Nat.max 1 (parts.length * height)
    let trs := if bits w2 13 2 = 1 then period / npk else period * height / total / npk
    let due := fun i => c.start + bits fmt.2 16 5 * (period / total) + (c.next + i) * trs - (if bits w2 13 2 = 2 then 4 * trs else 0)
    let line := bits v 0 16
    ∀ seq, c.seq = some seq → ¬ (9 + lineSamples fmt.1 + 35) / 36 < flits.length → s.transmitUnit stop chan flits =
      let d : TxChan := { c with seq := some (seq + parts.length), next := c.next + parts.length }
      let u : Stack := { s with media := { s.media with chans := mapSet {} s.media.chans (32 * stop + chan) d } }
      let x := u.txFlow q e
      let packet := fun i =>
        let p := parts.getD i (0, [])
        TxPacket.mk (due i) ([b2n (line + 1 == height && i + 1 == parts.length), (seq + i) % 2 ^ 32, c.ts, line, p.1] ++ p.2)
      u.setTx q e { x with packets := x.packets ++ (List.range parts.length).map packet, drop := satAdd 32 x.drop 0 } := by
  intro w2 fmt v c parts height period total npk trs due line seq hseq hwhole
  have hfed := Stack.sdiFed_none (unitSamples flits) hno
  unfold Stack.sdiFed at hfed
  have hc : (if bit (flits.headD 0) 16 = true then
      s.txFrame (mapGet {} s.media.chans (32 * stop + chan)) (bits (s.txWord q e 2) 15 2) (bit (s.txWord q e 2) 17) (bits (flits.headD 0) 32 32) 90000
    else mapGet {} s.media.chans (32 * stop + chan)) = c := rfl
  have hcut : decide ((9 + lineSamples (s.format q (bits (s.txWord q e 2) 9 4)).1 + 35) / 36 < flits.length) = false := decide_eq_false hwhole
  simp only [Stack.transmitUnit, hfed, h, hflows, hkind, Bool.not_true, Bool.false_eq_true, if_false, if_true, Nat.zero_le, decide_true,
    bne_self_eq_false, Bool.or_false, Bool.true_and, Bool.false_or, Nat.zero_ne_one, hc, hseq, hcut]
  refine (congrArg (List.foldl _ _) h).trans ?_
  exact Stack.flowLoss_zero _ q

end

/-! ## The pacer (R476) -/

theorem Stack.packetRelease_late {q e : Nat} (hv : bit (s.txWord q e 2) 31 = true) (hf : s.flowsRun = true) (h : (s.txFlow q e).packets = []) :
    s.packetRelease q e = (s.setTx q e { s.txFlow q e with
      lost := satAdd 32 (s.txFlow q e).lost 1, late := (s.txFlow q e).late + 1 }).writes [(MPORT.INT_FLOW_LOSS q, 1)] := by
  simp only [Stack.packetRelease, hv, hf, h]
  rfl

theorem Stack.packetRelease_next {q e : Nat} {p : TxPacket} {l : List TxPacket} (hv : bit (s.txWord q e 2) 31 = true) (hf : s.flowsRun = true)
    (h : (s.txFlow q e).packets = p :: l) (hdue : (s.txFlow q e).late ≠ 0 ∨ p.release ≤ s.time) :
    s.packetRelease q e =
      let u := s.setTx q e { s.txFlow q e with packets := l, late := (s.txFlow q e).late - 1, pkts := satAdd 32 (s.txFlow q e).pkts 1 }
      if u.flag (MPORT.STATUS_LINK q) then (u.bump (MPORT.TX_FRAMES_COUNT q)).answered 0 (u.padOutput (u.portLanes q) (u.packetOut q e p)) else u := by
  have hgo : ¬ ((s.txFlow q e).late = 0 ∧ s.time < p.release) := by omega
  simp only [Stack.packetRelease, hv, hf, h, if_neg hgo]
  rfl

/-! ## SDI framers (R477, R478) -/

section
variable {q n v : Nat} (hq : q < s.build.mports)
include hq

theorem Stack.sdiEnable_stop (hv : bit v 31 = false) (h : s.flag (MPORT.SDI_CTL_ENABLE q n) = true) : s.sdiEnable q n v =
    (s.writes [(MPORT.SDI_CTL_ENABLE q n, 0), (MPORT.SDI_STAT_LOCKED q n, 0), (MPORT.SDI_STAT_PID_VALID q n, 0)]).setMport q
      { s.mport q with sdi := mapSet [] (s.mport q).sdi n [] } := by
  simp only [Stack.sdiEnable, if_neg (Nat.not_le.2 hq), h, hv]
  rfl

/-- SDI_CTL as a write of a stopped framer leaves it. -/
def Stack.sdiHeld (s : Stack) (q n v : Nat) : Stack :=
  s.writes [(MPORT.SDI_CTL_RATE q n, v), (MPORT.SDI_CTL_FRAC q n, v / 4), (MPORT.SDI_CTL_RAW q n, v / 8), (MPORT.SDI_CTL_QUEUE q n, v / 16),
    (MPORT.SDI_CTL_ANC_QUEUE q n, v / 2 ^ 9), (MPORT.SDI_CTL_CHAN q n, v / 2 ^ 14), (MPORT.SDI_CTL_RASTER q n, v / 2 ^ 19),
    (MPORT.SDI_CTL_ENABLE q n, v / 2 ^ 31)]

theorem Stack.sdiEnable_hold (h : s.flag (MPORT.SDI_CTL_ENABLE q n) = false) : s.sdiEnable q n v =
    let u := s.sdiHeld q n v
    if bit v 31 = true ∧ u.get (LANE.CFG_USE (4 * q + n)) = 2 ∧ u.flag (LANE.CFG_ENABLE (4 * q + n)) = false ∧ v % 4 < 3 then
      u.writes [(LANE.CFG_RATE (4 * q + n), if v % 4 = 0 then 1 else if v % 4 = 1 then 2 else 4), (LANE.CFG_FRAC (4 * q + n), v / 4)]
    else u := by
  have hfields : (((((((s.put (MPORT.SDI_CTL_RATE q n) v).put (MPORT.SDI_CTL_FRAC q n) (v / 4)).put (MPORT.SDI_CTL_RAW q n) (v / 8)).put
      (MPORT.SDI_CTL_QUEUE q n) (v / 16)).put (MPORT.SDI_CTL_ANC_QUEUE q n) (v / 2 ^ 9)).put (MPORT.SDI_CTL_CHAN q n) (v / 2 ^ 14)).put
      (MPORT.SDI_CTL_RASTER q n) (v / 2 ^ 19)).put (MPORT.SDI_CTL_ENABLE q n) (v / 2 ^ 31) = s.sdiHeld q n v := rfl
  simp only [Stack.sdiEnable, if_neg (Nat.not_le.2 hq), h, hfields, Bool.not_eq_true']
  rfl

end

section
variable {q n : Nat} (hrun : s.sdiRuns q n = true)
include hrun

theorem Stack.sdiLine_locked {row : Nat} {sof crcOk : Bool} {pid : Option Nat} {codes anc : List Nat}
    (hlock : s.flag (MPORT.SDI_STAT_LOCKED q n) = true) (hhouse : s.houseKind ≠ 2 ∨ s.houseIndex ≠ 4 * q + n) (hcodes : codes ≠ []) :
    s.sdiLine q n row sof crcOk pid codes anc =
      let u := s.writes [(MPORT.SDI_STAT_RATE q n, s.get (MPORT.SDI_CTL_RATE q n))]
      let u := if crcOk = true then u else (u.bump (MPORT.SDI_ERR_CRC q n)).writes [(MPORT.INT_SDI q, 1)]
      let u := match pid with
        | some v => u.writes [(MPORT.SDI_PID_PID q n, v), (MPORT.SDI_STAT_PID_VALID q n, 1)]
        | none => u
      let ts := u.freeNat
      let seq := u.draw.freeNat
      let u := u.draw.draw
      let f := 1024 * q + 512 + n
      let prev := (u.rxFlow f).prevInc
      let w := u.deliver f (u.get (MPORT.SDI_CTL_QUEUE q n)) (sampleUnit (unitHeader row sof prev q n true ts seq) (codes.map (widen 10)))
      if anc = [] then w
      else w.deliver f (w.get (MPORT.SDI_CTL_ANC_QUEUE q n)) (byteUnit (unitHeader anc.length false prev q n true ts seq) anc) := by
  have hkind : ¬ (s.houseKind = 2 ∧ s.houseIndex = 4 * q + n) := by omega
  unfold Stack.sdiLine
  rw [hrun]
  simp only [Bool.not_true, Bool.false_eq_true, if_false, hlock, if_true, if_neg hkind, if_neg hcodes]
  cases pid <;> rfl

theorem Stack.sdiTransmit_unit {black : Nat} {u : List Nat} {l : List (List Nat)} (hf : s.flowsRun = true)
    (h : mapGet [] (s.mport q).sdi n = u :: l) : s.sdiTransmit q n black =
      (s.setMport q { s.mport q with sdi := mapSet [] (s.mport q).sdi n l }).answered 0
        (s.padOutput [4 * q + n] (s.get (MPORT.SDI_TXPID_PID q n) :: u.map (narrow 10))) := by
  simp only [Stack.sdiTransmit, hrun, hf, h]
  rfl

theorem Stack.sdiTransmit_black {black : Nat} (hf : s.flowsRun = true) (h : mapGet [] (s.mport q).sdi n = []) : s.sdiTransmit q n black =
    ((s.bump (MPORT.SDI_ERR_LATE q n)).writes [(MPORT.INT_SDI q, 1)]).answered 0
      (s.padOutput [4 * q + n] (s.get (MPORT.SDI_TXPID_PID q n) :: (List.range black).map fun i => if i % 2 = 0 then 512 else 64)) := by
  simp only [Stack.sdiTransmit, hrun, hf, h]
  rfl

end

end

end Sys2Proof.Machine
end

section
/-! The statement of flows and SDI. -/

namespace Sys2Proof.Machine

/-- Settles O46: each clause is the equation of its operation. A stop's channel without a framer feeds none, and a channel of one entry has one
flow to give its packets to. -/
theorem flowsAndSdiComplete : Obligations.FlowsAndSdiComplete := by
  refine ⟨fun s k stop chan flits _ hno => ⟨fun h => ?_, fun q e h hflows hkind => ?_⟩, fun s k q e _ hv hf => ⟨fun h => ?_, fun p l h hdue => ?_⟩,
    fun s k q n _ hq => ⟨fun v hv h => ?_, fun v h => ?_⟩, fun s k q n _ hrun => ⟨fun row sof crcOk pid codes anc hlock hhouse hcodes => ?_,
      fun black hf => ⟨fun u l h => ?_, fun h => ?_⟩⟩⟩
  · exact congrArg Host.Outcome.next (State.onStack_fixed (Stack.transmitUnit_unclaimed hno h))
  · intro t w2 fmt v c0 c parts height period total npk trs due line cut seq hseq hcut
    have hwhole : ¬ (9 + lineSamples fmt.1 + 35) / 36 < flits.length := fun hlt => Nat.one_ne_zero ((if_pos hlt).symm.trans hcut)
    exact exec_eq_of_onStack rfl (Stack.transmitUnit_video hno h hflows hkind seq hseq hwhole)
  · exact exec_eq_of_onStack rfl (Stack.packetRelease_late hv hf h)
  · exact exec_eq_of_onStack rfl (Stack.packetRelease_next hv hf h hdue)
  · exact exec_eq_of_onStack rfl (Stack.sdiEnable_stop hq hv h)
  · exact exec_eq_of_onStack rfl (Stack.sdiEnable_hold hq h)
  · exact exec_eq_of_onStack rfl (Stack.sdiLine_locked hrun hlock hhouse hcodes)
  · exact exec_eq_of_onStack rfl (Stack.sdiTransmit_unit hrun hf h)
  · exact exec_eq_of_onStack rfl (Stack.sdiTransmit_black hrun hf h)

end Sys2Proof.Machine
end

section
/-! SUPPORT. The DMA engine's commands, its STATUS bytes and the step to the next group (R394, R398 to R401). -/

namespace Sys2Proof.Machine

section
variable {s t : Stack} {n : Nat}

/-! ## The state of a channel -/

@[simp] theorem Stack.chan_setChan (s : Stack) (n : Nat) (c : DmaChan) : (s.setChan n c).chan n = c := by
  simp [Stack.chan, Stack.setChan]

@[simp] theorem Stack.chan_put (s : Stack) (f : Field) (v m : Nat) : (s.put f v).chan m = s.chan m := rfl

theorem Stack.chan_setChan_ne (s : Stack) {m : Nat} (c : DmaChan) (h : m ≠ n) : (s.setChan n c).chan m = s.chan m :=
  mapGet_mapSet_ne _ _ _ _ _ _ h.symm

theorem Stack.OnlyChanges.setChan {P : List Part} {F : List Field} (h : s.OnlyChanges P F t) (n : Nat) (c : DmaChan) (hd : .dma ∈ P) :
    s.OnlyChanges P F (t.setChan n c) :=
  h.trans ⟨rfl, rfl, fun p hp => by cases p <;> first | rfl | exact absurd hd hp, fun _ _ => rfl⟩

theorem Stack.OnlyChanges.chan {P : List Part} {F : List Field} (h : s.OnlyChanges P F t) (hd : .dma ∉ P) (m : Nat) : t.chan m = s.chan m := by
  have hdma : t.dma = s.dma := h.part (p := .dma) hd
  rw [Stack.chan, Stack.chan, hdma]

/-! ## CUR and the next group (R398, R401) -/

/-- A channel stands at an address with a state of its own. -/
def Stack.dmaAt (s : Stack) (n a : Nat) (c : DmaChan) : Stack := (s.setDmaCur n a).setChan n c

theorem Stack.dmaAt_cur (s : Stack) (n a : Nat) (c : DmaChan) :
    (s.dmaAt n a c).get (DMA.CUR_LO_ADDR n) + 2 ^ 32 * (s.dmaAt n a c).get (DMA.CUR_HI_ADDR n) = a % 2 ^ 48 := by
  have hlo : (s.dmaAt n a c).get (DMA.CUR_LO_ADDR n) = a % 2 ^ 32 :=
    (Stack.get_put_ne _ _ (by simp [DMA.CUR_LO_ADDR, DMA.CUR_HI_ADDR])).trans (Stack.get_put_same _ _ _)
  have hhi : (s.dmaAt n a c).get (DMA.CUR_HI_ADDR n) = a / 2 ^ 32 % 2 ^ 16 := Stack.get_put_same _ _ _
  omega

/-- Fields other than CUR. -/
theorem Stack.dmaAt_get (s : Stack) {n a : Nat} {c : DmaChan} {f : Field} (hlo : (DMA.CUR_LO_ADDR n).key ≠ f.key)
    (hhi : (DMA.CUR_HI_ADDR n).key ≠ f.key) : (s.dmaAt n a c).get f = s.get f :=
  (Stack.get_put_ne _ _ hhi).trans (Stack.get_put_ne _ _ hlo)

theorem Stack.dmaAt_chan (s : Stack) (n a : Nat) (c : DmaChan) : (s.dmaAt n a c).chan n = c := Stack.chan_setChan _ _ _

theorem Stack.dmaAt_chan_ne (s : Stack) {m a : Nat} {c : DmaChan} (h : m ≠ n) : (s.dmaAt n a c).chan m = s.chan m :=
  Stack.chan_setChan_ne _ _ h

theorem Stack.OnlyChanges.dmaAt {P : List Part} {F : List Field} (h : s.OnlyChanges P F t) (n a : Nat) (c : DmaChan) (hd : .dma ∈ P)
    (hlo : DMA.CUR_LO_ADDR n ∈ F) (hhi : DMA.CUR_HI_ADDR n ∈ F) : s.OnlyChanges P F (t.dmaAt n a c) :=
  ((h.put _ hlo).put _ hhi).setChan n c hd

/-- A group without END is followed by the next in the list. -/
theorem Stack.dmaNext_list (h : (s.chan n).entries.any (·.finish) = false) :
    s.dmaNext n none = s.dmaAt n (s.chan n).next { stopCmd := (s.chan n).stopCmd } := by
  simp only [Stack.dmaNext, h, Bool.and_false, Bool.false_eq_true, if_false]
  rfl

/-! ## STATUS bytes (R394) -/

/-- The entry's STATUS byte can be written: its block lies in the commons, has no error, and no armed injection meets it. -/
structure Stack.StatusPlain (s : Stack) (e : DmaEntry) : Prop where
  aligned : e.at_ % 16 = 0
  below : e.at_ < 2 ^ 44
  target : targetOf (e.at_ / 64 * 64) = .commons
  marks : ∀ i < 4, s.mark (e.at_ / 64 * 64 / 16 + i) = .ok
  armed : s.flag CODE.INJECT_ARM = false

/-- A value stands in the entry's STATUS byte; beside it, only the flits written are counted. -/
structure Stack.StatusWritten (s : Stack) (e : DmaEntry) (v : Nat) (t : Stack) : Prop where
  frame : s.OnlyChanges [.mem, .health] [COMN.WR_FLITS (commonsPort (e.at_ / 64 * 64))] t
  mark : ∀ c, t.mark c = s.mark c
  byte : ∀ p, t.readByte p = if p = e.at_ + 15 then BitVec.ofNat 8 v else s.readByte p

/-- The STATUS byte of one entry is written back. -/
theorem Stack.dmaWriteBack_entry {e : DmaEntry} (v : Nat) (h : s.StatusPlain e) :
    ∃ t, s.dmaWriteBack [(e, v)] = (t, 0) ∧ s.StatusWritten e v t := by
  have hal := h.aligned
  have hbelow := h.below
  have hblock : (e.at_ + 15) / 64 * 64 = e.at_ / 64 * 64 := by omega
  obtain ⟨u, hu, hframe, hmark, hbyte⟩ := Stack.dmaWrite_byte (s := s) (a := e.at_ + 15) (v := v) (by omega) (hblock ▸ h.target)
    (hblock ▸ h.marks) h.armed
  rw [hblock] at hu
  refine ⟨u.bumpWrap (COMN.WR_FLITS (commonsPort (e.at_ / 64 * 64))) 1, by simp only [Stack.dmaWriteBack, hu, ne_eq, not_true, if_false],
    ?_, hmark, hbyte⟩
  exact (hframe.mono (fun _ h => h) (by simp)).bumpWrap 1 (by simp)

/-- A frame that leaves marks and the injection as they are leaves the STATUS byte writable. -/
theorem Stack.StatusPlain.writes {e : DmaEntry} (h : s.StatusPlain e) {l : List (Field × Nat)} (hl : ∀ p ∈ l, p.1.key ≠ CODE.INJECT_ARM.key) :
    (s.writes l).StatusPlain e := by
  have hm := (s.writes_onlyChanges (P := []) (F := l.map (·.1)) l fun _ hp => List.mem_map_of_mem hp).part (p := .health) (by simp)
  refine ⟨h.aligned, h.below, h.target, fun i hi => ?_, ?_⟩
  · exact (congrArg (fun x : Sparse Health => mapGet .ok x (e.at_ / 64 * 64 / 16 + i)) hm).trans (h.marks i hi)
  · rw [Stack.flag, s.get_writes_ne hl]
    exact h.armed

theorem Stack.writes_append (s : Stack) (l m : List (Field × Nat)) : s.writes (l ++ m) = (s.writes l).writes m := List.foldl_append

/-- Fields written and a channel's own state replaced. -/
theorem Stack.setChan_writes (s : Stack) (l : List (Field × Nat)) (n : Nat) (c : DmaChan) :
    { s.writes l with dma := mapSet {} s.dma n c } = (s.writes l).setChan n c := by
  have hdma : (s.writes l).dma = s.dma := s.writes_same l .dma
  rw [Stack.setChan, hdma]

/-! ## Commands (R398 to R400) -/

/-- What DMA.CMD leaves of its fields, and its RESULT (R400). -/
def dmaCmd (n op code : Nat) : List (Field × Nat) := [(DMA.CMD_CHANNEL, n), (DMA.CMD_OP, op), (DMA.CMD_STATUS_RESULT, code)]

section
variable {op : Nat} {rs : List (Bool × Nat)} {f : Stack → Stack}

theorem Stack.dmaCommand_busy (h : s.flag DMA.CMD_STATUS_BUSY = true) : s.dmaCommand n op rs f = s.writes [(DMA.CMD_STATUS_OVERRUN, 1)] :=
  if_pos h

theorem Stack.dmaCommand_refused (hb : s.flag DMA.CMD_STATUS_BUSY = false) {r : Bool × Nat} (h : rs.find? (·.1) = some r) :
    s.dmaCommand n op rs f = s.writes (dmaCmd n op r.2) := by
  simp only [Stack.dmaCommand, hb, h]
  rfl

theorem Stack.dmaCommand_taken (hb : s.flag DMA.CMD_STATUS_BUSY = false) (h : rs.find? (·.1) = none) :
    s.dmaCommand n op rs f = f (s.writes (dmaCmd n op 0)) := by
  simp only [Stack.dmaCommand, hb, h]
  rfl

end

theorem Stack.modeIn_dayOrWorkshop (s : Stack) : s.modeIn [.day, .workshop] = true ↔ s.mode = .day ∨ s.mode = .workshop := by
  simp [Stack.modeIn]

theorem Stack.dmaAtRest_iff (s : Stack) (n : Nat) : s.dmaAtRest n = true ↔ s.get (DMA.STATE_STATE n) = 3 ∨ s.get (DMA.STATE_STATE n) = 4 := by
  simp [Stack.dmaAtRest, Stack.dmaState]

/-- A frame with DMA.CMD's fields alone keeps the fields of the channels and of the codeword injection. -/
theorem dmaCmd_key_ne {op code : Nat} {f : Field} (h : f.key < 0x380000 ∨ 0x380080 ≤ f.key) : ∀ p ∈ dmaCmd n op code, p.1.key ≠ f.key := by
  simp only [dmaCmd, List.forall_mem_cons, DMA.CMD_CHANNEL, DMA.CMD_OP, DMA.CMD_STATUS_RESULT]
  exact ⟨by omega, by omega, by omega, by simp⟩

section
variable (hb : s.flag DMA.CMD_STATUS_BUSY = false)
include hb

/-- LIST of a channel as a device address (R401). -/
def Stack.dmaList (s : Stack) (n : Nat) : Nat := s.get (DMA.LIST_LO_ADDR n) + 2 ^ 32 * s.get (DMA.LIST_HI_ADDR n)

theorem Stack.dmaStart_taken (hst : s.get (DMA.STATE_STATE n) = 0) (hm : s.mode = .day ∨ s.mode = .workshop)
    (hal : s.get (DMA.LIST_LO_ADDR n) % 16 = 0) : s.dmaStart n =
    { s.writes (dmaCmd n 1 0 ++ [(DMA.STATE_STATE n, 1), (DMA.CUR_LO_ADDR n, s.dmaList n), (DMA.CUR_HI_ADDR n, s.dmaList n / 2 ^ 32),
        (DMA.BYTES_COUNT n, 0), (DMA.GROUPS_DONE n, 0), (DMA.GROUPS_FAILED n, 0)]) with dma := mapSet {} s.dma n {} } := by
  rw [s.setChan_writes, s.writes_append]
  exact Stack.dmaCommand_taken hb (by simp [Stack.dmaState, hst, s.modeIn_dayOrWorkshop.2 hm, hal])

theorem Stack.dmaStart_refused {code : Nat} (h : (s.get (DMA.STATE_STATE n) ≠ 0 ∧ code = 1) ∨
      (s.get (DMA.STATE_STATE n) = 0 ∧ ¬ (s.mode = .day ∨ s.mode = .workshop) ∧ code = 2) ∨
      (s.get (DMA.STATE_STATE n) = 0 ∧ (s.mode = .day ∨ s.mode = .workshop) ∧ s.get (DMA.LIST_LO_ADDR n) % 16 ≠ 0 ∧ code = 3)) :
    s.dmaStart n = s.writes (dmaCmd n 1 code) := by
  refine Stack.dmaCommand_refused (r := (true, code)) hb ?_
  rw [← s.modeIn_dayOrWorkshop] at h
  obtain ⟨hst, rfl⟩ | ⟨hst, hm, rfl⟩ | ⟨hst, hm, hal, rfl⟩ := h
  · simp [Stack.dmaState, hst]
  · simp [Stack.dmaState, hst, hm]
  · simp [Stack.dmaState, hst, hm, hal]

theorem Stack.dmaStop_taken (hst : s.get (DMA.STATE_STATE n) = 1) : s.dmaStop n =
    { s.writes (dmaCmd n 2 0 ++ [(DMA.STATE_STATE n, 2), (DMA.CMD_STATUS_BUSY, 1)]) with
      dma := mapSet {} s.dma n { s.chan n with stopCmd := true } } := by
  rw [s.setChan_writes, s.writes_append]
  exact Stack.dmaCommand_taken hb (by simp [Stack.dmaState, hst])

theorem Stack.dmaStop_refused (hst : s.get (DMA.STATE_STATE n) ≠ 1) : s.dmaStop n = s.writes (dmaCmd n 2 1) :=
  Stack.dmaCommand_refused (r := (true, 1)) hb (by simp [Stack.dmaState, hst])

theorem Stack.dmaResume_taken (hr : s.dmaAtRest n = true) (hm : s.modeIn [.day, .workshop] = true) : s.dmaResume n =
    { s.writes (dmaCmd n 3 0 ++ [(DMA.STATE_STATE n, 1)]) with dma := mapSet {} s.dma n {} } := by
  rw [s.setChan_writes, s.writes_append]
  exact Stack.dmaCommand_taken hb (by simp [hr, hm])

theorem Stack.dmaResume_refused {code : Nat} (h : (s.dmaAtRest n = false ∧ code = 1) ∨
    (s.dmaAtRest n = true ∧ s.modeIn [.day, .workshop] = false ∧ code = 2)) : s.dmaResume n = s.writes (dmaCmd n 3 code) := by
  refine Stack.dmaCommand_refused (r := (true, code)) hb ?_
  obtain ⟨hr, rfl⟩ | ⟨hr, hm, rfl⟩ := h
  · simp [hr]
  · simp [hr, hm]

theorem Stack.dmaReset_refused (hr : s.dmaAtRest n = false) : s.dmaReset n = s.writes (dmaCmd n 5 1) :=
  Stack.dmaCommand_refused (r := (true, 1)) hb (by simp [hr])

theorem Stack.dmaSkip_refused (hr : s.dmaAtRest n = false) : s.dmaSkip n = s.writes (dmaCmd n 4 1) :=
  Stack.dmaCommand_refused (r := (true, 1)) hb (by simp [hr])

theorem Stack.dmaReset_taken (hr : s.dmaAtRest n = true) : s.dmaReset n =
    { s.writes (dmaCmd n 5 0 ++ [(DMA.STATE_STATE n, 0), (DMA.DONE_PEND_PEND, setBit (s.get DMA.DONE_PEND_PEND) n true)]) with
      dma := mapSet {} s.dma n {} } := by
  have hpend : ((s.writes (dmaCmd n 5 0)).put (DMA.STATE_STATE n) 0).get DMA.DONE_PEND_PEND = s.get DMA.DONE_PEND_PEND :=
    (Stack.get_put_ne _ _ (by simp only [DMA.STATE_STATE, DMA.DONE_PEND_PEND]; omega)).trans
      (s.get_writes_ne (dmaCmd_key_ne (by decide)))
  rw [← hpend, s.setChan_writes, s.writes_append]
  exact Stack.dmaCommand_taken hb (by simp [hr])

/-- SKIP of a group of one entry without END that is not BAD (R398). -/
theorem Stack.dmaSkip_entry {e : DmaEntry} (hr : s.dmaAtRest n = true) (he : (s.chan n).entries = [e]) (hend : e.finish = false)
    (hst : (s.chan n).status = []) (hp : s.StatusPlain e) :
    ∃ t, (s.writes (dmaCmd n 4 0)).StatusWritten e 0x22 t ∧ s.dmaSkip n =
      ((t.setChan n { entries := [e], next := (s.dmaCur n + 16) % 2 ^ 48 }).put (DMA.STATE_STATE n) 1).dmaAt n ((s.dmaCur n + 16) % 2 ^ 48) {} := by
  obtain ⟨t, ht, hw⟩ := Stack.dmaWriteBack_entry 0x22 (hp.writes (dmaCmd_key_ne (n := n) (op := 4) (code := 0) (by decide)))
  refine ⟨t, hw, ?_⟩
  have hchan : (s.writes (dmaCmd n 4 0)).chan n = s.chan n := rfl
  have hcur : (s.writes (dmaCmd n 4 0)).dmaCur n = s.dmaCur n := by
    unfold Stack.dmaCur
    rw [s.get_writes_ne (dmaCmd_key_ne (by simp only [DMA.CUR_LO_ADDR]; omega)), s.get_writes_ne (dmaCmd_key_ne (by simp only [DMA.CUR_HI_ADDR]; omega))]
  have hbad : (List.range [e].length).filter (fun i => let v := mapGet 0 ([] : Sparse Nat) i; !(0x11 ≤ v && v ≤ 0x19)) = [0] := rfl
  refine (Stack.dmaCommand_taken hb (by simp [hr])).trans ?_
  simp only [hchan, he, hst, hcur, if_neg (List.cons_ne_nil e []), ne_eq, not_true, if_false, hbad, List.map_cons, List.map_nil,
    List.getD_cons_zero, ht]
  exact (Stack.dmaNext_list (by simp [hend])).trans (by simp)

end

end

end Sys2Proof.Machine
end

section
/-! The statement of the DMA engine's commands. -/

namespace Sys2Proof.Machine

/-- A GO while the command before is BUSY. -/
theorem dmaCommands_busy {s : State} {k : Side} {n : Nat} (hb : (s.stack k).flag DMA.CMD_STATUS_BUSY = true) :
    ∀ p ∈ ([(.dmaStart k n, 1), (.dmaStop k n, 2), (.dmaResume k n, 3), (.dmaSkip k n, 4), (.dmaReset k n, 5)] : List (Instr × Nat)),
      exec p.1 s = .next (s.onStack k fun t => t.writes [(DMA.CMD_STATUS_OVERRUN, 1)]) := by
  simp only [List.forall_mem_cons]
  exact ⟨exec_eq_of_onStack rfl (Stack.dmaCommand_busy hb), exec_eq_of_onStack rfl (Stack.dmaCommand_busy hb),
    exec_eq_of_onStack rfl (Stack.dmaCommand_busy hb), exec_eq_of_onStack rfl (Stack.dmaCommand_busy hb),
    exec_eq_of_onStack rfl (Stack.dmaCommand_busy hb), by simp⟩

/-- SKIP of an entry: its STATUS byte, the next group and the frame. -/
theorem dmaSkip_completes {s : State} {k : Side} {n : Nat} {e : DmaEntry} (hk : s.hasSide k = true)
    (hb : (s.stack k).flag DMA.CMD_STATUS_BUSY = false) (hr : (s.stack k).dmaAtRest n = true) (he : ((s.stack k).chan n).entries = [e])
    (hend : e.finish = false) (hst : ((s.stack k).chan n).status = []) (hp : (s.stack k).StatusPlain e) :
    Completes (.dmaSkip k n) s k [.mem, .health, .dma] [DMA.CMD_CHANNEL, DMA.CMD_OP, DMA.CMD_STATUS_RESULT, DMA.STATE_STATE n,
        DMA.CUR_LO_ADDR n, DMA.CUR_HI_ADDR n, COMN.WR_FLITS (commonsPort (e.at_ / 64 * 64))] fun t =>
      t.get (DMA.STATE_STATE n) = 1 ∧
      t.get (DMA.CUR_LO_ADDR n) + 2 ^ 32 * t.get (DMA.CUR_HI_ADDR n) = ((s.stack k).dmaCur n + 16) % 2 ^ 48 ∧
      t.get DMA.CMD_STATUS_RESULT = 0 ∧ t.chan n = {} ∧ (∀ m, m ≠ n → t.chan m = (s.stack k).chan m) ∧
      (∀ c, t.mark c = (s.stack k).mark c) ∧ ∀ p, t.readByte p = if p = e.at_ + 15 then 0x22 else (s.stack k).readByte p := by
  obtain ⟨t, hw, ht⟩ := Stack.dmaSkip_entry hb hr he hend hst hp
  have hcmd : (s.stack k).OnlyChanges [.mem, .health, .dma] [DMA.CMD_CHANNEL, DMA.CMD_OP, DMA.CMD_STATUS_RESULT, DMA.STATE_STATE n,
      DMA.CUR_LO_ADDR n, DMA.CUR_HI_ADDR n, COMN.WR_FLITS (commonsPort (e.at_ / 64 * 64))] ((s.stack k).writes (dmaCmd n 4 0)) :=
    Stack.writes_onlyChanges _ _ (by simp [dmaCmd])
  refine completes_of_onStack (f := Stack.dmaSkip n) hk rfl ?_ ?_ <;> rw [ht]
  · exact (((hcmd.trans (hw.frame.mono (by simp) (by simp))).setChan n _ (by simp)).put _ (by simp)).dmaAt n _ _ (by simp) (by simp) (by simp)
  · have hresult : t.get DMA.CMD_STATUS_RESULT = 0 := by
      rw [hw.frame.get_eq (by simp [COMN.WR_FLITS, DMA.CMD_STATUS_RESULT, commonsPort, bits]; omega)]
      exact Stack.get_put_same _ _ _
    refine ⟨?_, (Stack.dmaAt_cur _ _ _ _).trans (Nat.mod_mod _ _), ?_, Stack.dmaAt_chan _ _ _ _, fun m hm => ?_, hw.mark, hw.byte⟩
    · rw [Stack.dmaAt_get _ (by simp [DMA.CUR_LO_ADDR, DMA.STATE_STATE]) (by simp [DMA.CUR_HI_ADDR, DMA.STATE_STATE]), Stack.get_put_same]
      rfl
    · rw [Stack.dmaAt_get _ (by simp only [DMA.CUR_LO_ADDR, DMA.CMD_STATUS_RESULT]; omega)
        (by simp only [DMA.CUR_HI_ADDR, DMA.CMD_STATUS_RESULT]; omega),
        Stack.get_put_ne _ _ (by simp only [DMA.STATE_STATE, DMA.CMD_STATUS_RESULT]; omega)]
      exact hresult
    · rw [Stack.dmaAt_chan_ne _ hm, Stack.chan_put, Stack.chan_setChan_ne _ _ hm]
      exact hw.frame.chan (by simp) m

/-- Settles O33: a command refused, or taken while BUSY, is the one rule of DMA.CMD, and each command taken is the equation of its effect. -/
theorem dmaCommandsComplete : Obligations.DmaCommandsComplete := by
  intro s k n hk _ u cmd day rest list
  have hrest : u.dmaAtRest n = true ↔ rest := u.dmaAtRest_iff n
  have hnot : u.dmaAtRest n = false ↔ ¬ rest := by rw [← hrest, Bool.not_eq_true]
  have hday : u.modeIn [.day, .workshop] = true ↔ day := u.modeIn_dayOrWorkshop
  refine ⟨dmaCommands_busy, fun hb => ⟨fun op => ?_, fun hst hm hal => ?_, fun code hc => ?_, fun hst => ?_, fun hst => ?_, fun hr hm => ?_,
    fun code hc => ?_, fun hr => ?_, fun hr => ⟨?_, ?_⟩, fun e hr he hend hst h16 ha ht hm hi => ?_⟩⟩
  · exact exec_eq_of_onStack rfl (Stack.dmaCommand_taken hb rfl)
  · exact exec_eq_of_onStack rfl (Stack.dmaStart_taken hb hst hm hal)
  · exact exec_eq_of_onStack rfl (Stack.dmaStart_refused hb hc)
  · exact exec_eq_of_onStack rfl (Stack.dmaStop_taken hb hst)
  · exact exec_eq_of_onStack rfl (Stack.dmaStop_refused hb hst)
  · exact exec_eq_of_onStack rfl (Stack.dmaResume_taken hb (hrest.2 hr) (hday.2 hm))
  · rw [← hday, Bool.not_eq_true, ← hrest, Bool.not_eq_true] at hc
    exact exec_eq_of_onStack rfl (Stack.dmaResume_refused hb hc)
  · exact exec_eq_of_onStack rfl (Stack.dmaReset_taken hb (hrest.2 hr))
  · exact exec_eq_of_onStack rfl (Stack.dmaReset_refused hb (hnot.2 hr))
  · exact exec_eq_of_onStack rfl (Stack.dmaSkip_refused hb (hnot.2 hr))
  · exact dmaSkip_completes hk hb (hrest.2 hr) he hend hst ⟨h16, ha, ht, hm, hi⟩

end Sys2Proof.Machine
end

section
/-! SUPPORT. The DMA engine's groups: read, moved piece by piece, completed and stopped (R389 to R398). -/

namespace Sys2Proof.Machine

section
variable {s : Stack} {n : Nat}

/-! ## A group read (R389, R396) -/

/-- The bytes of a range inside the blocks read around it. -/
theorem Stack.readBytes_window (s : Stack) (b : Nat) {m d len : Nat} (h : d + len ≤ m) :
    (((s.readBytes b m).map BitVec.toNat).drop d).take len = (List.range len).map fun j => (s.readByte (b + d + j)).toNat := by
  apply List.ext_getElem
  · simp [Stack.readBytes]
    omega
  · intro i h1 h2
    simp [Stack.readBytes, Nat.add_assoc]

/-- The codewords of some blocks around an address of the commons have no error. -/
structure Stack.CleanCommons (s : Stack) (a blocks : Nat) : Prop where
  below : a < 2 ^ 44
  target : targetOf (a / 64 * 64) = .commons
  marks : ∀ i < 4 * blocks, s.mark (a / 64 * 64 / 16 + i) = .ok

/-- The blocks around a range that no 1 KiB boundary cuts are read. -/
theorem Stack.dmaRead_range {a len : Nat} (data : List Nat) (h : s.CleanCommons a ((a % 64 + len + 63) / 64)) (hcut : a % 1024 + len ≤ 1024) :
    s.dmaRead (a / 64 * 64) ((a % 64 + len + 63) / 64) 0 data =
      (s.bumpWrap (COMN.RD_FLITS (commonsPort (a / 64 * 64))) ((a % 64 + len + 63) / 64), 0,
        (s.readBytes (a / 64 * 64) (64 * ((a % 64 + len + 63) / 64))).map BitVec.toNat) :=
  Stack.dmaRead_commons data (Nat.lt_of_le_of_lt (Nat.div_mul_le_self a 64) h.below) h.target (Nat.mul_mod_left _ _) (by omega) h.marks

/-- A request that is answered with a status of its own reads nothing. -/
theorem Stack.dmaRead_failed {a len ext : Nat} (data : List Nat) (ha : a < 2 ^ 44) (ht : targetOf (a / 64 * 64) = .commons)
    (hcut : a % 1024 + len ≤ 1024) (h0 : ext ≠ 0) : s.dmaRead (a / 64 * 64) ((a % 64 + len + 63) / 64) ext data = (s, ext, []) := by
  have herr := Stack.interfaceError_commons s (op := 1) (h := { src := 10, tag := 0, rlen := (a % 64 + len + 63) / 64, addr := a / 64 * 64 })
    (Nat.lt_of_le_of_lt (Nat.div_mul_le_self a 64) ha) ht (Nat.mul_mod_left _ _) (by simp only [if_true]; omega)
  simp only [Stack.dmaRead, herr, Bool.false_eq_true, if_false, h0, ne_eq, not_false_eq_true, if_true]

/-- A request that is answered with a status of its own writes nothing. -/
theorem Stack.dmaWrite_failed {a ext : Nat} {l : List Nat} (hl : l ≠ []) (ha : a < 2 ^ 44) (ht : targetOf (a / 64 * 64) = .commons)
    (hcut : a % 1024 + l.length ≤ 1024) (h0 : ext ≠ 0) : s.dmaWrite a l ext = (s, ext) := by
  have hpos : 0 < l.length := List.length_pos_iff.2 hl
  have haddr : a - a % 64 = a / 64 * 64 := by omega
  have herr : ∀ first last, s.interfaceError 2
      { src := 10, tag := 0, len := (a % 64 + l.length + 63) / 64, addr := a / 64 * 64, beFirst := first, beLast := last } = false := fun _ _ =>
    Stack.interfaceError_commons s (Nat.lt_of_le_of_lt (Nat.div_mul_le_self a 64) ha) ht (Nat.mul_mod_left _ _) (by simp; omega)
  simp only [Stack.dmaWrite, haddr, herr, Bool.false_eq_true, if_false, h0, ne_eq, not_false_eq_true, if_true]

/-- The 16 bytes of an entry. -/
def Stack.dmaEntryAt (s : Stack) (a : Nat) : DmaEntry := dmaEntry a ((List.range 16).map fun i => (s.readByte (a + i)).toNat)

theorem Stack.readGroup_last {a : Nat} (m : Nat) (h16 : a % 16 = 0) (h : s.CleanCommons a 1) (hlast : (s.dmaEntryAt a).last = true) :
    s.readGroup (m + 1) a = (s.bumpWrap (COMN.RD_FLITS (commonsPort (a / 64 * 64))) 1, 0, [s.dmaEntryAt a]) := by
  have hone : (a % 64 + 16 + 63) / 64 = 1 := by omega
  have hread := Stack.dmaRead_range (s := s) (len := 16) [] (hone.symm ▸ h) (by omega)
  have hwin := s.readBytes_window (a / 64 * 64) (m := 64 * 1) (d := a % 64) (len := 16) (by omega)
  rw [show a / 64 * 64 + a % 64 = a by omega] at hwin
  have hentry : dmaEntry a ((List.range 16).map fun i => (s.readByte (a + i)).toNat) = s.dmaEntryAt a := rfl
  rw [hone] at hread
  simp only [Stack.readGroup, hread, ne_eq, not_true, if_false, hwin, hentry, hlast, if_true]

theorem dmaOverlaps_singleton (e : DmaEntry) : dmaOverlaps [e] = 0 := by
  cases hd : e.dest <;> cases ho : e.op == 0 <;> simp [dmaOverlaps, dmaSide, hd, ho, dmaSelfOverlap]

theorem Stack.dmaGroupRead_last (hrun : s.dmaState n = 1) (hnone : (s.chan n).entries = []) (h16 : s.dmaCur n % 16 = 0)
    (h : s.CleanCommons (s.dmaCur n) 1) (hlast : (s.dmaEntryAt (s.dmaCur n)).last = true) :
    s.dmaGroupRead n = (s.bumpWrap (COMN.RD_FLITS (commonsPort (s.dmaCur n / 64 * 64))) 1).setChan n
      { entries := [s.dmaEntryAt (s.dmaCur n)], next := (s.dmaCur n + 16) % 2 ^ 48,
        status := if dmaFormat [s.dmaEntryAt (s.dmaCur n)] then [] else [(0, 0x20)] } := by
  have hgo : ¬ (s.dmaState n ≠ 1 ∨ (s.chan n).entries ≠ []) := by simp [hrun, hnone]
  simp only [Stack.dmaGroupRead, if_neg hgo, Stack.readGroup_last 64 h16 h hlast, dmaOverlaps_singleton]
  cases hfmt : dmaFormat [s.dmaEntryAt (s.dmaCur n)] <;> simp

/-! ## Responses (R395 to R397) -/

/-- The channel as a response finds it: while Stopping, one more response has come. -/
def Stack.dmaCounted (s : Stack) (n : Nat) : DmaChan :=
  if s.get (DMA.STATE_STATE n) = 2 then { s.chan n with late := (s.chan n).late + 1 } else s.chan n

theorem Stack.dmaCounted_late (s : Stack) (n : Nat) : ∃ l, s.dmaCounted n = { s.chan n with late := l } := by
  unfold Stack.dmaCounted
  split
  · exact ⟨_, rfl⟩
  · exact ⟨_, rfl⟩

/-- A response arrives to piece p of entry i, e. -/
structure Stack.DmaAnswers (s : Stack) (n i p : Nat) (e : DmaEntry) : Prop where
  awaits : s.dmaAwaits n = true
  inside : i < (s.chan n).entries.length
  good : (s.chan n).failed = false
  first : (s.chan n).done i p = false
  entry : (s.chan n).entries.getD i (dmaEntry 0 []) = e
  piece : p < dmaPieces e

section
variable {i p : Nat} {e : DmaEntry} (h : s.DmaAnswers n i p e)
include h

theorem Stack.DmaAnswers.taken : ¬ ((!s.dmaAwaits n) = true ∨ (s.chan n).entries.length ≤ i ∨ (s.chan n).failed = true ∨
    dmaPieces e ≤ p ∨ (s.chan n).done i p = true) := by
  simp [h.awaits, h.good, h.first, h.inside, h.piece]

/-- The bytes of a source piece (R392, R395). -/
theorem Stack.dmaResponse_read {a : Nat} (data : List Nat) (hsrc : e.dest = false) (ha : a = e.addr + (dmaPiece e p).1)
    (hclean : s.CleanCommons a ((a % 64 + (dmaPiece e p).2 + 63) / 64)) (hcut : a % 1024 + (dmaPiece e p).2 ≤ 1024) :
    s.dmaResponse n i p 0 data =
      (s.bumpWrap (COMN.RD_FLITS (commonsPort (a / 64 * 64))) ((a % 64 + (dmaPiece e p).2 + 63) / 64)).setChan n
        { s.dmaCounted n with
          answered := mapSet false (s.chan n).answered (pieceKey i p) true
          buf := putWords (s.chan n).buf (dmaBase (dmaSide (s.chan n).entries false) (dmaOrdinal (s.chan n).entries i) + (dmaPiece e p).1)
            ((List.range (dmaPiece e p).2).map fun j => (s.readByte (a + j)).toNat) } := by
  have hread := Stack.dmaRead_range data hclean hcut
  have hwin := s.readBytes_window (a / 64 * 64) (m := 64 * ((a % 64 + (dmaPiece e p).2 + 63) / 64)) (d := a % 64) (len := (dmaPiece e p).2)
    (by omega)
  rw [show a / 64 * 64 + a % 64 = a by omega] at hwin
  have hcount : (if s.dmaState n = 2 then { s.chan n with late := (s.chan n).late + 1 } else s.chan n) = s.dmaCounted n := rfl
  obtain ⟨l, hl⟩ := s.dmaCounted_late n
  subst ha
  simp only [Stack.dmaResponse, h.entry, if_neg h.taken, hcount, hsrc, Bool.false_eq_true, if_false, hread, if_true, hwin, hl]

/-- A destination piece stored from the bytes that the operation reshapes (R391, R395). -/
theorem Stack.dmaResponse_write {a : Nat} (data : List Nat) (hdest : e.dest = true) (hmay : (s.chan n).mayWrite i p = true)
    (hlen : 0 < (dmaPiece e p).2) (ha : a = e.addr + (dmaPiece e p).1)
    (hclean : s.CleanCommons a ((a % 64 + (dmaPiece e p).2 + 63) / 64)) (hcut : a % 1024 + (dmaPiece e p).2 ≤ 1024)
    (hinj : s.flag CODE.INJECT_ARM = false) :
    ∃ u, s.OnlyChanges [.mem, .health] [] u ∧ (∀ c, u.mark c = s.mark c) ∧
      (∀ x, u.readByte x = if a ≤ x ∧ x < a + (dmaPiece e p).2 then
          BitVec.ofNat 8 (dmaByte (s.chan n) (dmaOrdinal (s.chan n).entries i) ((dmaPiece e p).1 + (x - a))) else s.readByte x) ∧
      s.dmaResponse n i p 0 data =
        ((u.bumpWrap (COMN.WR_FLITS (commonsPort (a / 64 * 64))) ((a % 64 + (dmaPiece e p).2 + 63) / 64)).bumpWrap
          (DMA.BYTES_COUNT n) (dmaPiece e p).2).setChan n
          { s.dmaCounted n with answered := mapSet false (s.chan n).answered (pieceKey i p) true } := by
  generalize hb : (List.range (dmaPiece e p).2).map (fun o => dmaByte (s.chan n) (dmaOrdinal (s.chan n).entries i) ((dmaPiece e p).1 + o)) = bytes
  have hbl : bytes.length = (dmaPiece e p).2 := by simp [← hb]
  obtain ⟨u, hu, hframe, hmark, hbyte⟩ := Stack.dmaWrite_commons (s := s) (a := a) (l := bytes) (List.ne_nil_of_length_pos (hbl ▸ hlen))
    hclean.below hclean.target (hbl ▸ hcut) (hbl ▸ hclean.marks) hinj
  rw [hbl] at hu hbyte
  have hcount : (if s.dmaState n = 2 then { s.chan n with late := (s.chan n).late + 1 } else s.chan n) = s.dmaCounted n := rfl
  obtain ⟨l, hl⟩ := s.dmaCounted_late n
  have hmay' : DmaChan.mayWrite { s.chan n with late := l } i p = true := hmay
  have hb' : (List.range (dmaPiece e p).2).map (fun o => dmaByte { s.chan n with late := l } (dmaOrdinal (s.chan n).entries i)
      ((dmaPiece e p).1 + o)) = bytes := hb
  subst ha
  refine ⟨u, hframe, hmark, fun x => ?_, ?_⟩
  · rw [hbyte]
    split
    · rw [← hb, List.getD_eq_getElem?_getD, List.getElem?_map, List.getElem?_range (by omega)]
      rfl
    · rfl
  · simp only [Stack.dmaResponse, h.entry, if_neg h.taken, hcount, hdest, if_true, hl, hmay', Bool.not_true, Bool.false_eq_true, if_false, hb', hu]

/-- A data request answered with a status that neither reads nor writes makes the entry BAD (R397). -/
theorem Stack.dmaResponse_bad {ext : Nat} (data : List Nat) {a : Nat} (ha : a = e.addr + (dmaPiece e p).1) (hbelow : a < 2 ^ 44)
    (ht : targetOf (a / 64 * 64) = .commons) (hcut : a % 1024 + (dmaPiece e p).2 ≤ 1024) (h0 : ext ≠ 0) (h3 : ext ≠ 3) (h4 : ext ≠ 4)
    (hdest : e.dest = true → (s.chan n).mayWrite i p = true ∧ 0 < (dmaPiece e p).2) :
    s.dmaResponse n i p ext data = s.setChan n { s.dmaCounted n with status := [(i, 0x10 + ext)] } := by
  have hcount : (if s.dmaState n = 2 then { s.chan n with late := (s.chan n).late + 1 } else s.chan n) = s.dmaCounted n := rfl
  obtain ⟨l, hl⟩ := s.dmaCounted_late n
  subst ha
  cases hd : e.dest
  case true =>
    obtain ⟨hmay, hlen⟩ := hdest hd
    have hmay' : DmaChan.mayWrite { s.chan n with late := l } i p = true := hmay
    have hfail : ∀ d, s.dmaWrite (e.addr + (dmaPiece e p).1) ((List.range (dmaPiece e p).2).map fun o => dmaByte { s.chan n with late := l } d
        ((dmaPiece e p).1 + o)) ext = (s, ext) := fun d =>
      Stack.dmaWrite_failed (List.ne_nil_of_length_pos (by simpa using hlen)) hbelow ht (by simpa using hcut) h0
    simp only [Stack.dmaResponse, h.entry, if_neg h.taken, hcount, hd, if_true, hl, hmay', Bool.not_true, Bool.false_eq_true, if_false, hfail, h0]
  case false =>
    simp only [Stack.dmaResponse, h.entry, if_neg h.taken, hcount, hd, hl, Bool.false_eq_true, if_false,
      Stack.dmaRead_failed data hbelow ht hcut h0, h0, h3, h4, false_or, false_and]

end

/-! ## Completion and STOP (R391, R394, R397, R398) -/

section
variable {e : DmaEntry} (hrun : s.dmaState n = 1) (he : (s.chan n).entries = [e]) (hp : s.StatusPlain e)
include hrun he hp

/-- A LINK that completes is DONE, and the list goes on at its address. -/
theorem Stack.dmaGroupComplete_link (hst : (s.chan n).status = []) (hop : e.op = 0xF) (hlen : e.len = 0) :
    ∃ t, s.StatusWritten e 1 t ∧ s.dmaGroupComplete n =
      (if e.int then (t.bump (DMA.GROUPS_DONE n)).pend DMA.DONE_PEND_PEND n else t.bump (DMA.GROUPS_DONE n)).dmaAt n e.addr
        { stopCmd := (s.chan n).stopCmd } := by
  obtain ⟨t, ht, hw⟩ := Stack.dmaWriteBack_entry 1 hp
  have hgood : (s.chan n).failed = false := by simp [DmaChan.failed, hst]
  have hmoved : (s.chan n).moved = true := by simp [DmaChan.moved, he, dmaPieces, hlen]
  have hstatus : (s.chan n).statuses = [(e, 1)] := by simp [DmaChan.statuses, he, hgood]
  have hlink : dmaLink [e] = true := by simp [dmaLink, hop]
  have hchan : ∀ u : Stack, u.dma = t.dma → u.chan n = s.chan n := fun u hu =>
    (congrArg (fun d : Sparse DmaChan => mapGet ({} : DmaChan) d n) hu).trans (hw.frame.chan (by simp) n)
  refine ⟨t, hw, ?_⟩
  simp only [Stack.dmaGroupComplete, hrun, he, hgood, hmoved, hstatus, ht, hlink]
  cases hint : e.int
  · simp [hint, Stack.dmaNext, hchan (t.bump (DMA.GROUPS_DONE n)) rfl, Stack.dmaAt]
  · simp [hint, Stack.dmaNext, hchan ((t.bump (DMA.GROUPS_DONE n)).pend DMA.DONE_PEND_PEND n) rfl, Stack.dmaAt]

/-- A group of one entry with FORMAT counts as failed, and the next entry follows. -/
theorem Stack.dmaGroupComplete_format (hst : (s.chan n).status = [(0, 0x20)]) (hend : e.finish = false) :
    ∃ t, s.StatusWritten e 0x20 t ∧ s.dmaGroupComplete n = (t.dmaFailed n).dmaAt n (s.chan n).next { stopCmd := (s.chan n).stopCmd } := by
  obtain ⟨t, ht, hw⟩ := Stack.dmaWriteBack_entry 0x20 hp
  have hbad : (s.chan n).failed = true := by simp [DmaChan.failed, hst]
  have hstatus : (s.chan n).statuses = [(e, 0x20)] := by simp [DmaChan.statuses, he, hbad, hst, mapGet]
  have hchan : (t.dmaFailed n).chan n = s.chan n := hw.frame.chan (by simp) n
  refine ⟨t, hw, ?_⟩
  have hnext := Stack.dmaNext_list (s := t.dmaFailed n) (n := n) (by simp [hchan, he, hend])
  rw [hchan] at hnext
  rw [← hnext]
  simp [Stack.dmaGroupComplete, hrun, he, hbad, hstatus, ht]

end

/-- A STATUS byte written, fields counted, and the channel at an address with a state of its own. -/
theorem Stack.StatusWritten.dmaAt {F : List Field} {e : DmaEntry} {v a : Nat} {c : DmaChan} {w x : Stack} (hw : s.StatusWritten e v w)
    (hx : w.OnlyChanges [] F x) :
    (∀ p, (x.dmaAt n a c).readByte p = if p = e.at_ + 15 then BitVec.ofNat 8 v else s.readByte p) ∧
      (∀ m, (x.dmaAt n a c).mark m = s.mark m) ∧
      (x.dmaAt n a c).get (DMA.CUR_LO_ADDR n) + 2 ^ 32 * (x.dmaAt n a c).get (DMA.CUR_HI_ADDR n) = a % 2 ^ 48 ∧
      (∀ m, m ≠ n → (x.dmaAt n a c).chan m = s.chan m) ∧ (x.dmaAt n a c).chan n = c := by
  have hmem : (x.dmaAt n a c).mem = w.mem := hx.part (p := .mem) (by simp)
  have hhealth : (x.dmaAt n a c).health = w.health := hx.part (p := .health) (by simp)
  refine ⟨fun p => (Stack.readByte_mem hmem p).trans (hw.byte p), fun m => ?_, x.dmaAt_cur n a c, fun m hm => ?_, x.dmaAt_chan n a c⟩
  · rw [Stack.mark, hhealth]
    exact hw.mark m
  · rw [Stack.dmaAt_chan_ne _ hm, hx.chan (by simp)]
    exact hw.frame.chan (by simp) m

/-- A Stopping channel without a COPY to complete is Stopped. -/
theorem Stack.dmaStopped_taken (hst : s.get (DMA.STATE_STATE n) = 2) (h : (s.chan n).overlap = 0 ∨ (s.chan n).failed = true) :
    s.dmaStopped n = { s.writes ((DMA.STATE_STATE n, 3) :: if (s.chan n).stopCmd then [(DMA.CMD_STATUS_BUSY, 0)] else []) with
      dma := mapSet {} s.dma n { s.chan n with stopCmd := false, status := [] } } := by
  have hgo : ¬ (s.dmaState n ≠ 2 ∨ ((s.chan n).overlap ≠ 0 ∧ (!(s.chan n).failed) = true)) := by
    rintro (hrun | ⟨hcopy, hgood⟩)
    · exact hrun hst
    · exact h.elim hcopy fun hbad => by simp [hbad] at hgood
  simp only [Stack.dmaStopped, if_neg hgo]
  cases (s.chan n).stopCmd <;> rfl

end

end Sys2Proof.Machine
end

section
/-! The statement of the DMA engine's groups. -/

namespace Sys2Proof.Machine

section
variable {s : State} {k : Side} {n : Nat} (hk : s.hasSide k = true)
include hk

/-- A destination piece stored: the bytes, the counts and the frame. -/
theorem dmaResponse_completes {i p a : Nat} {e : DmaEntry} (data : List Nat) (h : (s.stack k).DmaAnswers n i p e) (hdest : e.dest = true)
    (hmay : ((s.stack k).chan n).mayWrite i p = true) (hlen : 0 < (dmaPiece e p).2) (ha : a = e.addr + (dmaPiece e p).1)
    (hclean : (s.stack k).CleanCommons a ((a % 64 + (dmaPiece e p).2 + 63) / 64)) (hcut : a % 1024 + (dmaPiece e p).2 ≤ 1024)
    (hinj : (s.stack k).flag CODE.INJECT_ARM = false) :
    Completes (.dmaDataResponse k n i p 0 data) s k [.mem, .health, .dma] [COMN.WR_FLITS (commonsPort (a / 64 * 64)), DMA.BYTES_COUNT n] fun t =>
      (∀ x, t.readByte x = if a ≤ x ∧ x < a + (dmaPiece e p).2 then BitVec.ofNat 8 (dmaByte ((s.stack k).chan n)
          (dmaOrdinal ((s.stack k).chan n).entries i) ((dmaPiece e p).1 + (x - a))) else (s.stack k).readByte x) ∧
      (∀ m, t.mark m = (s.stack k).mark m) ∧
      t.get (DMA.BYTES_COUNT n) = ((s.stack k).get (DMA.BYTES_COUNT n) + (dmaPiece e p).2) % 2 ^ 32 ∧
      t.get (COMN.WR_FLITS (commonsPort (a / 64 * 64))) =
        ((s.stack k).get (COMN.WR_FLITS (commonsPort (a / 64 * 64))) + (a % 64 + (dmaPiece e p).2 + 63) / 64) % 2 ^ 32 ∧
      (∀ m, m ≠ n → t.chan m = (s.stack k).chan m) ∧
      t.chan n = { (s.stack k).dmaCounted n with answered := mapSet false ((s.stack k).chan n).answered (pieceKey i p) true } := by
  obtain ⟨u, hframe, hmark, hbyte, hu⟩ := Stack.dmaResponse_write h data hdest hmay hlen ha hclean hcut hinj
  have hkeys : (COMN.WR_FLITS (commonsPort (a / 64 * 64))).key ≠ (DMA.BYTES_COUNT n).key := by
    simp only [COMN.WR_FLITS, DMA.BYTES_COUNT, commonsPort, bits]
    omega
  generalize hwr : COMN.WR_FLITS (commonsPort (a / 64 * 64)) = wr at hu hkeys ⊢
  have hwidth : wr.width = 32 := by rw [← hwr]; rfl
  refine completes_of_onStack (f := Stack.dmaResponse n i p 0 data) hk rfl ?_ ?_ <;> rw [hu]
  · exact ((((hframe.mono (by simp) (by simp)).bumpWrap _ (by simp)).bumpWrap _ (by simp)).setChan n _ (by simp))
  · refine ⟨hbyte, hmark, ?_, ?_, fun m hm => ?_, Stack.chan_setChan _ _ _⟩
    · refine (Stack.get_bumpWrap_same _ _ _).trans ?_
      rw [Stack.bumpWrap, Stack.get_put_ne _ _ hkeys, hframe.get_eq (by simp)]
      rfl
    · refine (Stack.get_put_ne _ _ hkeys.symm).trans ((Stack.get_bumpWrap_same _ _ _).trans ?_)
      rw [hframe.get_eq (by simp), hwidth]
    · rw [Stack.chan_setChan_ne _ _ hm]
      exact hframe.chan (by simp) m

section
variable {e : DmaEntry} (hrun : (s.stack k).get (DMA.STATE_STATE n) = 1) (he : ((s.stack k).chan n).entries = [e]) (hp : (s.stack k).StatusPlain e)
include hrun he hp

/-- A LINK completed: the byte, the counts and the frame. -/
theorem dmaLink_completes (hst : ((s.stack k).chan n).status = []) (hop : e.op = 0xF) (hlen : e.len = 0) :
    Completes (.dmaGroupComplete k n) s k [.mem, .health, .dma] [COMN.WR_FLITS (commonsPort (e.at_ / 64 * 64)), DMA.GROUPS_DONE n,
        DMA.DONE_PEND_PEND, DMA.CUR_LO_ADDR n, DMA.CUR_HI_ADDR n] fun t =>
      ((∀ x, t.readByte x = if x = e.at_ + 15 then BitVec.ofNat 8 1 else (s.stack k).readByte x) ∧ (∀ m, t.mark m = (s.stack k).mark m) ∧
        t.get (DMA.CUR_LO_ADDR n) + 2 ^ 32 * t.get (DMA.CUR_HI_ADDR n) = e.addr % 2 ^ 48 ∧
        (∀ m, m ≠ n → t.chan m = (s.stack k).chan m) ∧ t.chan n = { stopCmd := ((s.stack k).chan n).stopCmd }) ∧
      t.get (DMA.GROUPS_DONE n) = min ((s.stack k).get (DMA.GROUPS_DONE n) + 1) 0xFFFF ∧
      t.get DMA.DONE_PEND_PEND =
        if e.int then setBit ((s.stack k).get DMA.DONE_PEND_PEND) n true % 2 ^ 32 else (s.stack k).get DMA.DONE_PEND_PEND := by
  obtain ⟨w, hw, hu⟩ := Stack.dmaGroupComplete_link hrun he hp hst hop hlen
  have hwr : commonsPort (e.at_ / 64 * 64) < 4 := Nat.mod_lt _ (by decide)
  generalize hx : (if e.int then (w.bump (DMA.GROUPS_DONE n)).pend DMA.DONE_PEND_PEND n else w.bump (DMA.GROUPS_DONE n)) = x at hu
  have hframe : w.OnlyChanges [] [DMA.GROUPS_DONE n, DMA.DONE_PEND_PEND] x := by
    have hbump : w.OnlyChanges [] [DMA.GROUPS_DONE n, DMA.DONE_PEND_PEND] (w.bump (DMA.GROUPS_DONE n)) :=
      (Stack.OnlyChanges.refl w _ _).bump 1 (by simp)
    rw [← hx]
    split
    · exact hbump.put _ (by simp)
    · exact hbump
  have hkeys : (DMA.GROUPS_DONE n).key ≠ DMA.DONE_PEND_PEND.key := by
    simp only [DMA.GROUPS_DONE, DMA.DONE_PEND_PEND]
    omega
  have hdone : w.get (DMA.GROUPS_DONE n) = (s.stack k).get (DMA.GROUPS_DONE n) :=
    hw.frame.get_eq (by simp [COMN.WR_FLITS, DMA.GROUPS_DONE]; omega)
  have hpend : w.get DMA.DONE_PEND_PEND = (s.stack k).get DMA.DONE_PEND_PEND :=
    hw.frame.get_eq (by simp [COMN.WR_FLITS, DMA.DONE_PEND_PEND]; omega)
  refine completes_of_onStack (f := Stack.dmaGroupComplete n) hk rfl ?_ ?_ <;> rw [hu]
  · exact ((hw.frame.mono (by simp) (by simp)).trans (hframe.mono (by simp) (by simp))).dmaAt n _ _ (by simp) (by simp) (by simp)
  · refine ⟨hw.dmaAt hframe, ?_, ?_⟩
    · rw [Stack.dmaAt_get _ (by simp [DMA.CUR_LO_ADDR, DMA.GROUPS_DONE]) (by simp [DMA.CUR_HI_ADDR, DMA.GROUPS_DONE]), ← hdone, ← hx]
      split
      · exact (Stack.get_put_ne _ _ hkeys.symm).trans (Stack.get_bump_sat _ _ _)
      · exact Stack.get_bump_sat _ _ _
    · rw [Stack.dmaAt_get _ (by simp only [DMA.CUR_LO_ADDR, DMA.DONE_PEND_PEND]; omega)
        (by simp only [DMA.CUR_HI_ADDR, DMA.DONE_PEND_PEND]; omega), ← hpend, ← hx]
      split
      · exact (Stack.get_put_same _ _ _).trans (by rw [Stack.get_bump_ne _ _ hkeys]; rfl)
      · exact Stack.get_bump_ne _ _ hkeys

/-- A group with FORMAT completed: the byte, the counts and the frame. -/
theorem dmaFormat_completes (hst : ((s.stack k).chan n).status = [(0, 0x20)]) (hend : e.finish = false) :
    Completes (.dmaGroupComplete k n) s k [.mem, .health, .dma] [COMN.WR_FLITS (commonsPort (e.at_ / 64 * 64)), DMA.GROUPS_FAILED n,
        DMA.ERR_PEND_PEND, DMA.CUR_LO_ADDR n, DMA.CUR_HI_ADDR n] fun t =>
      ((∀ x, t.readByte x = if x = e.at_ + 15 then BitVec.ofNat 8 0x20 else (s.stack k).readByte x) ∧ (∀ m, t.mark m = (s.stack k).mark m) ∧
        t.get (DMA.CUR_LO_ADDR n) + 2 ^ 32 * t.get (DMA.CUR_HI_ADDR n) = ((s.stack k).chan n).next % 2 ^ 48 ∧
        (∀ m, m ≠ n → t.chan m = (s.stack k).chan m) ∧ t.chan n = { stopCmd := ((s.stack k).chan n).stopCmd }) ∧
      t.get (DMA.GROUPS_FAILED n) = min ((s.stack k).get (DMA.GROUPS_FAILED n) + 1) 0xFFFF ∧
      t.get DMA.ERR_PEND_PEND = setBit ((s.stack k).get DMA.ERR_PEND_PEND) n true % 2 ^ 32 := by
  obtain ⟨w, hw, hu⟩ := Stack.dmaGroupComplete_format hrun he hp hst hend
  have hwr : commonsPort (e.at_ / 64 * 64) < 4 := Nat.mod_lt _ (by decide)
  have hframe : w.OnlyChanges [] [DMA.GROUPS_FAILED n, DMA.ERR_PEND_PEND] (w.dmaFailed n) :=
    ((Stack.OnlyChanges.refl w _ _).bump 1 (by simp)).put _ (by simp)
  have hkeys : (DMA.GROUPS_FAILED n).key ≠ DMA.ERR_PEND_PEND.key := by
    simp only [DMA.GROUPS_FAILED, DMA.ERR_PEND_PEND]
    omega
  have hfailed : w.get (DMA.GROUPS_FAILED n) = (s.stack k).get (DMA.GROUPS_FAILED n) :=
    hw.frame.get_eq (by simp [COMN.WR_FLITS, DMA.GROUPS_FAILED]; omega)
  have hpend : w.get DMA.ERR_PEND_PEND = (s.stack k).get DMA.ERR_PEND_PEND :=
    hw.frame.get_eq (by simp [COMN.WR_FLITS, DMA.ERR_PEND_PEND]; omega)
  refine completes_of_onStack (f := Stack.dmaGroupComplete n) hk rfl ?_ ?_ <;> rw [hu]
  · exact ((hw.frame.mono (by simp) (by simp)).trans (hframe.mono (by simp) (by simp))).dmaAt n _ _ (by simp) (by simp) (by simp)
  · refine ⟨hw.dmaAt hframe, ?_, ?_⟩
    · rw [Stack.dmaAt_get _ (by simp [DMA.CUR_LO_ADDR, DMA.GROUPS_FAILED]) (by simp [DMA.CUR_HI_ADDR, DMA.GROUPS_FAILED]), ← hfailed]
      exact (Stack.get_put_ne _ _ hkeys.symm).trans (Stack.get_bump_sat _ _ _)
    · rw [Stack.dmaAt_get _ (by simp only [DMA.CUR_LO_ADDR, DMA.ERR_PEND_PEND]; omega)
        (by simp only [DMA.CUR_HI_ADDR, DMA.ERR_PEND_PEND]; omega), ← hpend]
      exact (Stack.get_put_same _ _ _).trans (by rw [Stack.get_bump_ne _ _ hkeys]; rfl)

end

end

/-- Settles O34: each occurrence is the equation of its effect, over the engine's clean reads and writes of the commons. -/
theorem dmaGroupsComplete : Obligations.DmaGroupsComplete := by
  intro s k n hk _ u c clean rd wr cur
  have hclean {a blocks : Nat} (h : clean a blocks) : u.CleanCommons a blocks := ⟨h.1, h.2.1, h.2.2⟩
  refine ⟨fun hrun hnone h16 hc hlast => ?_, fun i p ext data hw hi hf hd hp ha ht hcut => ⟨fun hsrc hx hc => ?_,
    fun hdest hx hmay hlen hc hinj => ?_, fun h0 h3 h4 hdest => ?_⟩, fun e hrun he h16 hc hinj => ⟨fun hst hop hlen => ?_,
    fun hst hend => ?_⟩, fun hst hov => ?_⟩
  · exact exec_eq_of_onStack rfl (Stack.dmaGroupRead_last hrun hnone h16 (hclean hc) hlast)
  · subst hx
    exact exec_eq_of_onStack rfl (Stack.dmaResponse_read ⟨hw, hi, hf, hd, rfl, hp⟩ data hsrc rfl (hclean hc) hcut)
  · subst hx
    exact dmaResponse_completes hk data ⟨hw, hi, hf, hd, rfl, hp⟩ hdest hmay hlen rfl (hclean hc) hcut hinj
  · exact exec_eq_of_onStack rfl (Stack.dmaResponse_bad ⟨hw, hi, hf, hd, rfl, hp⟩ data rfl ha ht hcut h0 h3 h4 hdest)
  · exact dmaLink_completes hk hrun he ⟨h16, hc.1, hc.2.1, hc.2.2, hinj⟩ hst hop hlen
  · exact dmaFormat_completes hk hrun he ⟨h16, hc.1, hc.2.1, hc.2.2, hinj⟩ hst hend
  · exact exec_eq_of_onStack rfl (Stack.dmaStopped_taken hst hov)

end Sys2Proof.Machine
end

section
/-! SUPPORT. The moves of the package: power up and down, requests granted and refused, failures of Dawn, the release of the outputs
(R29 to R34, R42, R51, R52, R62 to R70). -/

namespace Sys2Proof.Machine

section
variable (t : Stack)

/-- Nothing but the fields carried over has another value than its reset. -/
theorem Stack.carry_get_ne (t s : Stack) {l : List Field} {f : Field} (h : ∀ g ∈ l, g.key ≠ f.key) : (t.carry s l).get f = t.get f := by
  induction l generalizing t with
  | nil => rfl
  | cons g l ih => exact (ih (t.put g _) fun x hx => h x (List.mem_cons_of_mem _ hx)).trans (t.get_put_ne _ (h g List.mem_cons_self))

theorem Stack.brownOut_get {f : Field} (ho : f.key ≠ TEST.JTAG_STAT_OPEN.key) (hs : f.key ≠ TEST.JTAG_STAT_OPENS.key) :
    t.brownOut.get f = f.reset :=
  Stack.carry_get_ne _ t (by simpa using ⟨ho.symm, hs.symm⟩)

end

/-- Dawn begun: every stack is powered down but for the vigil domain, and Dawn stands at step 1 (R52, R53). -/
theorem State.startDawn_stack (s : State) (work : Bool) {k : Side} (hk : s.hasSide k = true) :
    ((s.startDawn work).stack k).mode = .dawn ∧ ((s.startDawn work).stack k).get SYS.DAWN_STEP = 1 ∧
      ((s.startDawn work).stack k).get SYS.MODE_BUSY = 1 ∧ ((s.startDawn work).stack k).ledger.banks = (s.stack k).ledger.banks ∧
      ((s.startDawn work).stack k).loader.image = (s.stack k).loader.image := by
  let u := (s.stack k).powerDown .dawn
  have hstep : ((u.put SYS.DAWN_STEP 1).put SYS.MODE_BUSY 1).get SYS.DAWN_STEP = 1 := by
    rw [Stack.get_put_ne _ _ (by decide), Stack.get_put_same]
    rfl
  have hbusy : ((u.put SYS.DAWN_STEP 1).put SYS.MODE_BUSY 1).get SYS.MODE_BUSY = 1 := Stack.get_put_same _ _ _
  unfold State.startDawn
  rw [s.onBoth_stack _ hk]
  exact ⟨rfl, hstep, hbusy, rfl, rfl⟩

/-- WAKE in Vigil, every supply within specification. -/
theorem State.wake_vigil {s : State} (hm : s.recto.mode = .vigil) (hs : ∀ k, s.hasSide k = true → (s.stack k).suppliesOk = true) :
    s.wake = s.startDawn false := if_pos ⟨hm, State.every_iff.2 hs⟩

/-- The vigil wake timer, set, with every supply within specification. -/
theorem State.vigilTimer_runs {s : State} (hm : s.recto.mode = .vigil) (ht : s.recto.flag SYS.VIGIL_TIMER_SECONDS = true)
    (hs : ∀ k, s.hasSide k = true → (s.stack k).suppliesOk = true) : s.vigilTimer = s.startDawn false :=
  if_pos ⟨hm, ht, State.every_iff.2 hs⟩

/-- WAKE in Siesta, no wake in progress. -/
theorem State.wake_siesta {s : State} (hm : s.recto.mode = .siesta) (hw : s.recto.sys.siestaWake = 0) : s.wake = s.startWake := by
  unfold State.wake
  rw [if_neg fun h => by simp [State.mode, hm] at h, if_pos ⟨hm, hw⟩]

/-- A refusal: the three fields of each stack (R30). -/
theorem State.modeRefuse_stack (s : State) (cause : Nat) {k : Side} (hk : s.hasSide k = true) :
    ((s.modeRefuse cause).stack k).get SYS.MODE_REFUSED = 1 ∧
      ((s.modeRefuse cause).stack k).get SYS.MODE_REFUSE_CAUSE = cause % 2 ^ SYS.MODE_REFUSE_CAUSE.width ∧
      ((s.modeRefuse cause).stack k).get SYS.INT_MODE_REFUSED = 1 ∧
      (s.stack k).OnlyChanges [] [SYS.MODE_REFUSED, SYS.MODE_REFUSE_CAUSE, SYS.INT_MODE_REFUSED] ((s.modeRefuse cause).stack k) := by
  unfold State.modeRefuse
  rw [s.onBoth_stack _ hk]
  refine ⟨?_, ?_, Stack.get_raise_same _ _, (((Stack.OnlyChanges.refl _ _ _).put _ (by simp)).put _ (by simp)).raise (by simp)⟩
  · exact (Stack.get_raise_ne _ (by decide)).trans ((Stack.get_put_ne _ _ (by decide)).trans (Stack.get_put_same _ _ _))
  · exact (Stack.get_raise_ne _ (by decide)).trans (Stack.get_put_same _ _ _)

/-- The rows of R29's table: with no row for the mode and the target, no move. -/
theorem State.moveOf_none {s : State} {m : Mode} (h : (s.recto.mode, m) ∉ [(.siesta, .day), (.dusk, .day), (.day, .siesta), (.day, .dusk),
    (.workshop, .dusk), (.haven, .dawn), (.haven, .vigil)]) : s.moveOf m = none := by
  unfold State.moveOf State.mode
  generalize s.recto.mode = x at h ⊢
  cases x <;> cases m <;> simp at h ⊢

/-- A request for a move that R29's table lacks, as every stack sees it. -/
theorem State.modeReq_refused (s : State) (m : Mode) (a : Nat) (h : (s.holdRequest m a).moveOf m = none) {k : Side} (hk : s.hasSide k = true) :
    let t := (s.modeReq .recto m a).stack k
    t.get SYS.MODE_REFUSED = 1 ∧ t.get SYS.MODE_REFUSE_CAUSE = 1 ∧ t.get SYS.INT_MODE_REFUSED = 1 ∧ t.mode = (s.stack k).mode ∧
      (s.stack k).OnlyChanges [] [SYS.MODE_REFUSED, SYS.MODE_REFUSE_CAUSE, SYS.INT_MODE_REFUSED, SYS.MODE_REQ_TARGET,
        SYS.MODE_REQ_AFTER_DUSK] t := by
  dsimp only
  rw [s.modeReq_noMove m a h]
  obtain ⟨hr, hc, hi, hf⟩ := (s.holdRequest m a).modeRefuse_stack 1 (k := k) (by simpa using hk)
  have hframe := (s.holdRequest_onlyChanges m a k (P := []) (F := [SYS.MODE_REFUSED, SYS.MODE_REFUSE_CAUSE, SYS.INT_MODE_REFUSED,
    SYS.MODE_REQ_TARGET, SYS.MODE_REQ_AFTER_DUSK]) (by simp) (by simp)).trans (hf.mono (by simp) (by simp))
  exact ⟨hr, hc, hi, hframe.2.2.1 .mode (by simp), hframe⟩

/-- A failure of Dawn that goes to Haven, with its cause held in DAWN_FAIL (R70, log 72). -/
theorem State.dawnFail_haven (s : State) {cause : Nat} (hc : cause < 0xB ∨ cause = 0xD) {k : Side} (hk : s.hasSide k = true) :
    ((s.dawnFail cause).stack k).mode = .haven ∧ ((s.dawnFail cause).stack k).get SYS.DAWN_FAIL = cause ∧
      ((s.dawnFail cause).stack k).get SYS.DAWN_STEP = 0 ∧ ((s.dawnFail cause).stack k).get SYS.MODE_BUSY = 0 ∧
      ((s.dawnFail cause).stack k).get SYS.INT_MODE_DONE = 1 ∧ ((s.dawnFail cause).stack k).sys.outputs = .safe := by
  unfold State.dawnFail
  dsimp only
  rw [s.onBoth_stack _ hk, if_neg (by omega)]
  generalize (s.stack k).event _ = u
  obtain ⟨hmode, hout, -, hstep, hbusy, hdone⟩ := u.enterHaven_facts
  refine ⟨(Stack.put_mode _ _ _).trans hmode, ?_, ?_, ?_, ?_, by rw [Stack.put_sys, hout]⟩
  · rw [Stack.get_put_same]
    refine Nat.mod_eq_of_lt (Nat.lt_of_lt_of_le (?_ : cause < 16) (by decide))
    omega
  · rw [Stack.get_put_ne _ _ (by decide), hstep]
  · rw [Stack.get_put_ne _ _ (by decide), hbusy]
  · rw [Stack.get_put_ne _ _ (by decide), hdone]

/-- The release of the outputs after the last step of Dawn (R63, R65). -/
theorem Stack.releaseDelayEnd_last {t : Stack} (ha : t.sys.release.active = true) (hd : t.sys.release.delay = true) (hi : t.sys.release.idx = 3)
    (hr : t.sys.release.recovery = false) : t.releaseDelayEnd = { t with sys := { t.sys with release := {} } } := by
  simp [Stack.releaseDelayEnd, ha, hd, hi, hr]

/-- A release step before the last (R63). -/
theorem Stack.releaseDelayEnd_next {t : Stack} (ha : t.sys.release.active = true) (hd : t.sys.release.delay = true) (hi : t.sys.release.idx < 3) :
    t.releaseDelayEnd = { t with sys := { t.sys with release := { t.sys.release with idx := t.sys.release.idx + 1, delay := false } } } := by
  simp [Stack.releaseDelayEnd, ha, hd, hi]

/-- An effect that leaves its stack alone is no fault. -/
theorem State.onStackFault_same {p : State} {k : Side} {f : Stack → Stack} (h : f (p.stack k) = p.stack k) : p.onStackFault k f = p := by
  have hp : p.onStack k f = p := by
    unfold State.onStack
    split
    · rw [h, State.setStack_self]
    · rfl
  unfold State.onStackFault
  dsimp only
  rw [hp, if_neg fun hh => hh.2 hh.1]
  cases (p.stack k).stackRecovery <;> rfl

section
variable {P : List Part} {F : List Field}

theorem Stack.mode_onlyChanges (s : Stack) (m : Mode) (h : .mode ∈ P) : s.OnlyChanges P F { s with mode := m } :=
  ⟨rfl, rfl, fun p hp => by cases p <;> first | rfl | exact absurd h hp, fun _ _ => rfl⟩

theorem Stack.sys_onlyChanges (s : Stack) (x : Sys) (h : .sys ∈ P) : s.OnlyChanges P F { s with sys := x } :=
  ⟨rfl, rfl, fun p hp => by cases p <;> first | rfl | exact absurd h hp, fun _ _ => rfl⟩

end

/-- A move to Day at the end of Dawn (R55). -/
def Stack.toDay (t : Stack) : Stack := (({ t with mode := .day } : Stack).put SYS.DAWN_STEP 0).moveDone

theorem Stack.toDay_eq : (fun t : Stack => (({ t with mode := .day } : Stack).put SYS.DAWN_STEP 0).moveDone) = Stack.toDay := rfl

@[simp] theorem Stack.toDay_build (t : Stack) : t.toDay.build = t.build := rfl
@[simp] theorem Stack.toDay_vlink (t : Stack) (l : Nat) : t.toDay.vlink l = t.vlink l := rfl
@[simp] theorem Stack.toDay_sys (t : Stack) : t.toDay.sys = t.sys := rfl
@[simp] theorem Stack.toDay_mode (t : Stack) : t.toDay.mode = .day := rfl

theorem Stack.toDay_onlyChanges (t : Stack) : t.OnlyChanges [.mode] [SYS.DAWN_STEP, SYS.MODE_BUSY, SYS.INT_MODE_DONE] t.toDay :=
  (((t.mode_onlyChanges .day (by simp)).put _ (by simp)).put _ (by simp)).raise (by simp)

/-- The end of a move: MODE.BUSY and the interrupt. -/
theorem Stack.moveDone_get (t : Stack) : t.moveDone.get SYS.MODE_BUSY = 0 ∧ t.moveDone.get SYS.INT_MODE_DONE = 1 := by
  unfold Stack.moveDone
  refine ⟨?_, Stack.get_raise_same _ _⟩
  rw [Stack.get_raise_ne _ (by decide), Stack.get_put_same]
  rfl

theorem Stack.toDay_step (t : Stack) : t.toDay.get SYS.DAWN_STEP = 0 := by
  unfold Stack.toDay Stack.moveDone
  rw [Stack.get_raise_ne _ (by decide), Stack.get_put_ne _ _ (by decide), Stack.get_put_same]
  rfl

/-- While a release runs, Dawn does not end. -/
theorem State.dawnDone_not {s : State} {k : Side} (hk : s.hasSide k = true) (ha : (s.stack k).sys.release.active = true) : s.dawnDone = s :=
  if_neg fun h => by simpa [ha] using State.every_iff.1 h.2.2 k hk

/-- Dawn ends in Day where no vertical data link is retired. -/
theorem State.dawnDone_one {s : State} (hb : s.build ≠ .atlas) (hm : s.recto.mode = .dawn) (hstep : s.recto.get SYS.DAWN_STEP = 10)
    (ha : s.recto.sys.release.active = false) (hl : ∀ l ∈ s.recto.build.links, (s.recto.vlink l).state ≠ 2) :
    s.dawnDone = s.onBoth Stack.toDay := by
  have hevery : s.every (fun t => !t.sys.release.active) = true := by
    rw [State.every_iff]
    intro k hk
    cases k
    · simpa using ha
    · simp [State.hasSide, hb] at hk
  have hlinks : Stack.linksAtDay (s.onBoth Stack.toDay).recto = (s.onBoth Stack.toDay).recto := by
    rw [State.onBoth_recto]
    exact Stack.linksAtDay_none _ (by simpa using hl)
  unfold State.dawnDone
  rw [if_pos ⟨hm, hstep, hevery⟩, Stack.toDay_eq]
  dsimp only
  rw [State.onStackFault_same hlinks, if_neg (by simpa using hb)]

/-- The return to Day that a request in Dusk asked for (R42). -/
theorem State.returnToDay_stack (s : State) {k : Side} (hk : s.hasSide k = true) :
    (s.returnToDay.stack k).mode = .day ∧ (s.returnToDay.stack k).sys.duskStep = 0 ∧ (s.returnToDay.stack k).sys.overrideUntilTurn = true ∧
      Shutdown.duskBist ∉ (s.returnToDay.stack k).sys.reenables ∧ (s.returnToDay.stack k).get SYS.MODE_BUSY = 0 ∧
      (s.returnToDay.stack k).get SYS.INT_MODE_DONE = 1 := by
  unfold State.returnToDay
  rw [s.onBoth_stack _ hk]
  refine ⟨rfl, rfl, rfl, ?_, Stack.moveDone_get _⟩
  simp [Stack.moveDone]

section
variable {s : State} {m : Mode} {a : Nat} {k : Side}

/-- The stack of a move that acts on both. -/
theorem State.holdRequest_onBoth (hk : s.hasSide k = true) (f : Stack → Stack) :
    ((s.holdRequest m a).onBoth f).stack k = f ((s.holdRequest m a).stack k) :=
  State.onBoth_stack _ f (by simpa using hk)

theorem State.holdRequest_waiting : ((s.holdRequest m a).stack k).turn.waiting = (s.stack k).turn.waiting := by rw [State.holdRequest_turn]

end

section
variable {s : State} {a : Nat}

/-- Day from Siesta: the wake (R32). -/
theorem State.modeReq_wakes (hm : s.recto.mode = .siesta) (hb : s.recto.flag SYS.MODE_BUSY = false)
    (hr : ∀ k, s.hasSide k = true → ∀ r ∈ (s.stack k).sys.recoveries, r.res.level < 3) :
    s.modeReq .recto .day a = (s.holdRequest .day a).startWake :=
  s.modeReq_move .day a (v := .wake) (by simp [State.moveOf, hm]) (s.moveRefusal_zero .day a hb (by simp) hr)

/-- Day from Dusk steps 1 to 3: the return is queued (R42). BUSY stands, and the one request is admitted (log 55). -/
theorem State.modeReq_queues (hm : s.recto.mode = .dusk) (hstep : s.recto.sys.duskStep < 4) (hc : s.recto.sys.duskCritical = false)
    (hw : s.recto.sys.duskWorkshop = false) (hq : Shutdown.duskBist ∉ s.recto.sys.reenables)
    (hr : ∀ k, s.hasSide k = true → ∀ r ∈ (s.stack k).sys.recoveries, r.res.level < 3) :
    s.modeReq .recto .day a = (s.holdRequest .day a).move .back := by
  refine s.modeReq_move .day a ?_ ?_
  · simp [State.moveOf, hm, hc, hw, Nat.not_le.2 hstep]
  · have hrec : ((s.holdRequest .day a).anyStack fun t => t.sys.recoveries.any fun r => decide (3 ≤ r.res.level)) = false := by
      rw [State.anyStack_false]
      intro k hk
      simpa using hr k (by simpa using hk)
    have hasked : (s.holdRequest .day a).recto.returnAsked = false := by simpa [Stack.returnAsked] using hq
    simp only [State.moveRefusal, hasked, hrec]
    simp

/-- Siesta from Day: the stop turn (R29). -/
theorem State.modeReq_siesta (hm : s.recto.mode = .day) (hb : s.recto.flag SYS.MODE_BUSY = false)
    (ht : ∀ k, s.hasSide k = true → (s.stack k).flag TURN.STATUS_PENDING = false)
    (hr : ∀ k, s.hasSide k = true → ∀ r ∈ (s.stack k).sys.recoveries, r.res.level < 3) :
    s.modeReq .recto .siesta a = (s.holdRequest .siesta a).move .siesta :=
  s.modeReq_move .siesta a (by simp [State.moveOf, hm]) (s.moveRefusal_zero .siesta a hb (fun _ => ht) hr)

/-- Dusk from Day or Workshop (R34). -/
theorem State.modeReq_dusk (hm : s.recto.mode = .day ∨ s.recto.mode = .workshop) (hb : s.recto.flag SYS.MODE_BUSY = false)
    (ht : ∀ k, s.hasSide k = true → (s.stack k).flag TURN.STATUS_PENDING = false)
    (hr : ∀ k, s.hasSide k = true → ∀ r ∈ (s.stack k).sys.recoveries, r.res.level < 3) :
    s.modeReq .recto .dusk a = (s.holdRequest .dusk a).startDusk false :=
  s.modeReq_move .dusk a (v := .dusk) (by rcases hm with hm | hm <;> simp [State.moveOf, hm])
    (s.moveRefusal_zero .dusk a hb (fun _ => ht) hr)

/-- Dawn and Vigil from Haven (R29). -/
theorem State.modeReq_fromHaven (hm : s.recto.mode = .haven) (hb : s.recto.flag SYS.MODE_BUSY = false)
    (hr : ∀ k, s.hasSide k = true → ∀ r ∈ (s.stack k).sys.recoveries, r.res.level < 3) :
    s.modeReq .recto .dawn a = (s.holdRequest .dawn a).startDawn false ∧
      s.modeReq .recto .vigil a = (s.holdRequest .vigil a).onBoth fun t => t.powerDown .vigil :=
  ⟨s.modeReq_move .dawn a (v := .dawn) (by simp [State.moveOf, hm]) (s.moveRefusal_zero .dawn a hb (by simp) hr),
    s.modeReq_move .vigil a (v := .vigil) (by simp [State.moveOf, hm]) (s.moveRefusal_zero .vigil a hb (by simp) hr)⟩

end

section
variable (t : Stack)

/-- What the stop turn of Siesta finds: the entry noted and BUSY set. -/
def Stack.siestaEntered (t : Stack) : Stack := ({ t with sys := { t.sys with siestaEntry := true } } : Stack).moveBusy

theorem Stack.siestaEntered_onlyChanges : t.OnlyChanges [.sys] [SYS.MODE_BUSY] t.siestaEntered :=
  (t.sys_onlyChanges _ (by simp)).put 1 (by simp)

theorem Stack.siestaEntered_armed : t.siestaEntered.turnArmed = t.turnArmed := by
  unfold Stack.turnArmed Stack.flag
  rw [t.siestaEntered_onlyChanges.2.2.2 _ (by decide)]

/-- Siesta entered with no turn armed: its entry noted, BUSY set and the stop turn made (R29, R249). -/
theorem Stack.siestaEntry (h : t.turnArmed = false) (hw : t.turn.waiting = []) :
    let u := t.siestaEntered.makeDevTurn .stopSiesta
    u.sys = { t.sys with siestaEntry := true } ∧ u.get SYS.MODE_BUSY = 1 ∧ u.turn.dev = some .stopSiesta ∧ u.get TURN.STATUS_PENDING = 1 ∧
      t.OnlyChanges [.sys, .turn] [SYS.MODE_BUSY, TURN.ITEMS_COUNT, TURN.SEQ_NEXT, TURN.STATUS_PENDING, TURN.STATUS_STAGE,
        TURN.STATUS_DEVICE] u := by
  intro u
  have hu : u = t.siestaEntered.turnStart (some .stopSiesta) :=
    Stack.makeDevTurn_idle _ _ (t.siestaEntered_armed.trans h) hw
  have hturn := t.siestaEntered.turnStart_onlyChanges .stopSiesta
  rw [← hu] at hturn
  refine ⟨hturn.2.2.1 .sys (by simp), ?_, ?_, ?_, (t.siestaEntered_onlyChanges.mono (by simp) (by simp)).trans (hturn.mono (by simp) (by simp))⟩
  · exact (hturn.2.2.2 _ (by decide)).trans (Stack.get_put_same _ _ _)
  · rw [hu, Stack.turnStart_dev]
  · rw [hu, Stack.turnStart_pending]

/-- What the stop turn of Dusk finds: step 1, running DMA channels stopped and every layer on the regulated feed (R34, R399, log 110). -/
def Stack.duskEntered (t : Stack) : Stack :=
  ({ t.dmaStopAll.allRegulated with
    mode := .dusk
    sys := { t.sys with duskStep := 1, duskCritical := false, duskWorkshop := t.mode == .workshop } } : Stack).put SYS.MODE_BUSY 1

theorem State.startDusk_stack (s : State) {k : Side} (hk : s.hasSide k = true) :
    (s.startDusk false).stack k = (s.stack k).duskEntered.makeDevTurn .stopDusk := by
  unfold State.startDusk
  rw [s.onBoth_stack _ hk]
  rfl

/-- Dusk requested with no turn armed: step 1, the stop turn, and running DMA channels stopped (R34, R249, R399). -/
theorem Stack.duskBegins (h : t.turnArmed = false) (hw : t.turn.waiting = []) :
    let u := t.duskEntered.makeDevTurn .stopDusk
    u.mode = .dusk ∧ u.sys.duskStep = 1 ∧ u.sys.duskCritical = false ∧ u.get SYS.MODE_BUSY = 1 ∧ u.turn.dev = some .stopDusk ∧
      u.get TURN.STATUS_PENDING = 1 ∧ u.get SYS.MODE_REQ_TARGET = t.get SYS.MODE_REQ_TARGET ∧
      ∀ n < 32, u.get (DMA.STATE_STATE n) = if t.get (DMA.STATE_STATE n) = 1 then 2 else t.get (DMA.STATE_STATE n) := by
  have hkeep : ∀ {f : Field}, (∀ n, (DMA.STATE_STATE n).key ≠ f.key) → POWER.FEED_RAW.key ≠ f.key → POWER.REG_STATUS_BUSY.key ≠ f.key →
      t.dmaStopAll.allRegulated.get f = t.get f := fun hd hf hb => by
    rw [Stack.allRegulated_get _ hf hb, Stack.dmaStopAll_get_ne _ hd]
  have hpend : t.dmaStopAll.allRegulated.turnArmed = false := by
    unfold Stack.turnArmed Stack.flag at h ⊢
    rw [hkeep (by simp [DMA.STATE_STATE, TURN.STATUS_PENDING]; omega) (by decide) (by decide)]
    exact h
  have htarget : t.dmaStopAll.allRegulated.get SYS.MODE_REQ_TARGET = t.get SYS.MODE_REQ_TARGET :=
    hkeep (by simp [DMA.STATE_STATE, SYS.MODE_REQ_TARGET]; omega) (by decide) (by decide)
  have hdma : ∀ n < 32, t.dmaStopAll.allRegulated.get (DMA.STATE_STATE n) =
      if t.get (DMA.STATE_STATE n) = 1 then 2 else t.get (DMA.STATE_STATE n) := fun n hn => by
    rw [Stack.allRegulated_get _ (by simp [POWER.FEED_RAW, DMA.STATE_STATE]; omega)
      (by simp [POWER.REG_STATUS_BUSY, DMA.STATE_STATE]; omega), Stack.dmaStopAll_get _ hn]
  have hwaiting : t.dmaStopAll.allRegulated.turn.waiting = [] := by rw [Stack.allRegulated_turn, Stack.dmaStopAll_turn, hw]
  unfold Stack.duskEntered
  generalize t.dmaStopAll.allRegulated = v at *
  obtain ⟨hmode, hsys, hbusy, hdev, hpending, hrest⟩ := v.duskEntry
    { t.sys with duskStep := 1, duskCritical := false, duskWorkshop := t.mode == .workshop } .stopDusk hpend hwaiting
  refine ⟨hmode, (congrArg Sys.duskStep hsys).trans rfl, (congrArg Sys.duskCritical hsys).trans rfl, hbusy, hdev, hpending,
    (hrest _ (by decide)).trans htarget, fun n hn => (hrest _ ?_).trans (hdma n hn)⟩
  simp [DMA.STATE_STATE, SYS.MODE_BUSY, TURN.ITEMS_COUNT, TURN.SEQ_NEXT, TURN.STATUS_PENDING, TURN.STATUS_STAGE, TURN.STATUS_DEVICE]
  omega

end

end Sys2Proof.Machine
end

section
/-! The statements of the moves of the package. -/

namespace Sys2Proof.Machine

/-- Settles O5: a power-down and a brown-out are the initial stack with what stays powered. -/
theorem powerUpAndWakeComplete : Obligations.PowerUpAndWakeComplete := by
  refine ⟨fun s hm => ?_, fun s => ?_, fun s hm hs => ?_, fun s hm hw => ?_, fun s hm ht hs => ?_⟩
  · exact congrArg _ (if_pos hm)
  · refine ⟨_, rfl, s.onBoth_keeps _, fun k hk => ?_⟩
    rw [s.onBoth_stack _ hk]
    exact ⟨rfl, rfl, rfl, rfl, rfl, rfl, rfl, rfl, fun f => Stack.brownOut_get _⟩
  · exact ⟨_, congrArg Host.Outcome.next (State.wake_vigil hm hs), by simp, fun k hk => s.startDawn_stack false hk⟩
  · exact congrArg _ (State.wake_siesta hm hw)
  · exact ⟨_, congrArg Host.Outcome.next (State.vigilTimer_runs hm ht hs), by simp, fun k hk => s.startDawn_stack false hk⟩

/-- Settles O6: each request is permitted, and its move is the one of R29's table. -/
theorem requestedMovesBegin : Obligations.RequestedMovesBegin := by
  refine ⟨fun s a hm hb hr => ?_, fun s a hm hstep hc hw hq hr => ?_, fun s a hm hb h => ?_, fun s a hm hb h => ?_, fun s a hm hb hr => ?_,
    fun s a hm hb hr => ?_⟩
  · refine ⟨_, congrArg Host.Outcome.next (State.modeReq_wakes hm hb hr), by simp [State.holdRequest], ?_, fun k hk => ?_⟩
    · unfold State.startWake
      rw [State.onBoth_recto, Stack.get_put_ne _ _ (by decide)]
      exact s.holdRequest_target .day a
    · unfold State.startWake
      rw [State.holdRequest_onBoth hk]
      refine ⟨by simp, Stack.get_put_same _ _ _, Stack.OnlyChanges.trans (s.holdRequest_onlyChanges .day a k (by simp) (by simp)) ?_⟩
      exact (Stack.sys_onlyChanges _ _ (by simp)).put 1 (by simp)
  · refine ⟨_, congrArg Host.Outcome.next (State.modeReq_queues hm hstep hc hw hq hr), by simp [State.holdRequest], ?_, fun k hk => ?_⟩
    · unfold State.move Stack.moveBusy
      rw [State.onBoth_recto, Stack.get_put_ne _ _ (by decide)]
      exact s.holdRequest_target .day a
    · unfold State.move Stack.moveBusy
      rw [State.holdRequest_onBoth hk]
      refine ⟨by simp, Stack.get_put_same _ _ _, Stack.OnlyChanges.trans (s.holdRequest_onlyChanges .day a k (by simp) (by simp)) ?_⟩
      refine Stack.OnlyChanges.put ?_ 1 (by simp)
      refine ⟨rfl, rfl, fun p hp => ?_, fun _ _ => rfl⟩
      cases p <;> first | rfl | simp at hp
  · have hmove := State.modeReq_siesta (a := a) hm hb (fun k hk => (h k hk).1) fun k hk => (h k hk).2.2
    have hstack : ∀ k, s.hasSide k = true → ((s.holdRequest .siesta a).move .siesta).stack k =
        ((s.holdRequest .siesta a).stack k).siestaEntered.makeDevTurn .stopSiesta := fun k hk => State.holdRequest_onBoth hk _
    have hentry := fun k hk => ((s.holdRequest .siesta a).stack k).siestaEntry ((s.holdRequest_armed .siesta a k).trans (h k hk).1)
      (State.holdRequest_waiting.trans (h k hk).2.1)
    refine ⟨_, congrArg Host.Outcome.next hmove, by simp [State.holdRequest], ?_, fun k hk => ?_⟩
    · obtain ⟨-, -, -, -, hframe⟩ := hentry .recto rfl
      rw [← State.stack_recto, hstack .recto rfl, hframe.2.2.2 _ (by decide)]
      exact s.holdRequest_target .siesta a
    · obtain ⟨hsys, hbusy, hdev, hpend, hframe⟩ := hentry k hk
      rw [hstack k hk]
      exact ⟨by rw [hsys, State.holdRequest_sys], hbusy, hdev, hpend,
        (s.holdRequest_onlyChanges .siesta a k (by simp) (by simp)).trans (hframe.mono (by simp) (by simp))⟩
  · have hmove := State.modeReq_dusk (a := a) hm hb (fun k hk => (h k hk).1) fun k hk => (h k hk).2.2
    have hentry := fun k hk => ((s.holdRequest .dusk a).stack k).duskBegins ((s.holdRequest_armed .dusk a k).trans (h k hk).1)
      (State.holdRequest_waiting.trans (h k hk).2.1)
    refine ⟨_, congrArg Host.Outcome.next hmove, by simp [State.holdRequest], ?_, fun k hk => ?_⟩
    · obtain ⟨-, -, -, -, -, -, htarget, -⟩ := hentry .recto rfl
      rw [← State.stack_recto, State.startDusk_stack _ rfl, htarget]
      exact s.holdRequest_target .dusk a
    · obtain ⟨hmode, hstep, hcritical, hbusy, hdev, hpend, -, hdma⟩ := hentry k hk
      rw [State.startDusk_stack _ (by simpa using hk)]
      refine ⟨hmode, hstep, hcritical, hbusy, hdev, hpend, fun n hn => (hdma n hn).trans ?_⟩
      rw [s.holdRequest_get .dusk a k (by simp [SYS.MODE_REQ_TARGET, DMA.STATE_STATE]; omega)
        (by simp [SYS.MODE_REQ_AFTER_DUSK, DMA.STATE_STATE]; omega)]
  · refine ⟨_, congrArg Host.Outcome.next (State.modeReq_fromHaven hm hb hr).1, by simp [State.holdRequest], fun k hk => ?_⟩
    obtain ⟨hmode, hstep, hbusy, hbanks, -⟩ := (s.holdRequest .dawn a).startDawn_stack false (k := k) (by simpa using hk)
    exact ⟨hmode, hstep, hbusy, by rw [hbanks, State.holdRequest_ledger]⟩
  · refine ⟨_, congrArg Host.Outcome.next (State.modeReq_fromHaven hm hb hr).2, by simp [State.holdRequest], fun k hk => ?_⟩
    rw [State.holdRequest_onBoth hk]
    have hledger := s.holdRequest_ledger .vigil a k
    generalize (s.holdRequest .vigil a).stack k = u at hledger ⊢
    exact ⟨rfl, rfl, rfl, by rw [← hledger]; rfl, by rw [← hledger]; rfl⟩

/-- Settles O7: R29's table has no row for any of these requests. -/
theorem forbiddenMovesAreRefused : Obligations.ForbiddenMovesAreRefused := by
  intro s a c hc
  obtain ⟨m, he, hm⟩ : ∃ m, exec c s = .next (s.modeReq .recto m a) ∧ (s.holdRequest m a).moveOf m = none := by
    rcases hc with rfl | rfl | ⟨rfl, hm⟩ | ⟨rfl, hm⟩ | ⟨rfl, hm⟩ | ⟨rfl, hm⟩ | ⟨rfl, hm⟩ <;>
      refine ⟨_, rfl, State.moveOf_none ?_⟩ <;> rw [← State.mode, State.holdRequest_mode] <;>
      generalize s.recto.mode = x at * <;> cases x <;> simp_all
  exact ⟨_, he, by simp, fun k hk => s.modeReq_refused m a hm hk⟩

/-- Settles O9: each time-out at its step is a failure of Dawn. -/
theorem dawnFailuresEnterHaven : Obligations.DawnFailuresEnterHaven := by
  intro s c cause h
  have hrun : exec c s = .next (s.dawnFail cause) ∧ (cause < 0xB ∨ cause = 0xD) := by
    rcases h with ⟨hm, h⟩ | ⟨j, rfl, hj, hl, hr, rfl⟩
    · have fails : ∀ {n cause}, s.recto.get SYS.DAWN_STEP = n → s.failIn [n] cause = s.dawnFail cause :=
        fun hn => if_pos ⟨hm, by simp [hn]⟩
      rcases h with ⟨rfl, hn, rfl⟩ | ⟨rfl, hn, rfl⟩ | ⟨rfl, hn, rfl⟩ | ⟨rfl, hn, rfl⟩ | ⟨rfl, hn, rfl⟩ <;>
        exact ⟨congrArg Host.Outcome.next (fails hn), by decide⟩
    · have hend : s.lockTimeout j = s.dawnFail 0xD := by simp [State.lockTimeout, hj, hl, hr]
      exact ⟨congrArg Host.Outcome.next ((if_pos hj).trans hend), by decide⟩
  exact ⟨_, hrun.1, by simp, fun k hk => s.dawnFail_haven hrun.2 hk⟩

/-- Settles O10: a release step, the end of Dawn, the end of the wait for locks, and the boundary of a queued return. -/
theorem releaseStepsAndReenablesComplete : Obligations.ReleaseStepsAndReenablesComplete := by
  refine ⟨fun s k hk ha hd hi => ?_, fun s hb hm hstep ha hd hi hr hl => ?_, fun s k hk hw hmet => ?_, fun s k n hk hm hstep hq => ?_⟩
  · have hnext : s.onStack k Stack.releaseDelayEnd = s.setStack k { s.stack k with
        sys := { (s.stack k).sys with release := { (s.stack k).sys.release with idx := (s.stack k).sys.release.idx + 1, delay := false } } } := by
      rw [s.onStack_present _ hk, Stack.releaseDelayEnd_next ha hd hi]
    have hstays := State.dawnDone_not (s := s.onStack k Stack.releaseDelayEnd) (k := k) (by simpa using hk) (by simpa [hnext] using ha)
    exact congrArg Host.Outcome.next ((if_pos hk).trans (hstays.trans hnext))
  · let p : State := { s with recto := { s.recto with sys := { s.recto.sys with release := {} } } }
    have hlast : s.onStack .recto Stack.releaseDelayEnd = p := by
      rw [s.onStack_present _ rfl, State.stack_recto, Stack.releaseDelayEnd_last ha hd hi hr]
      rfl
    have hrecto : p.dawnDone.recto = p.recto.toDay := by
      rw [State.dawnDone_one (s := p) hb hm hstep rfl hl, State.onBoth_recto]
    have hkeep : s.KeepsPackage p.dawnDone := by
      rw [keeps_dawnDone]
      exact ⟨rfl, rfl, fun _ => rfl⟩
    refine ⟨p.dawnDone, congrArg Host.Outcome.next (congrArg State.dawnDone hlast), ?_, ?_, ?_, ?_, ?_, hkeep.1, hkeep.2.1, fun j hj => ?_, ?_⟩
    · rw [hrecto, Stack.toDay_mode]
    · rw [hrecto, Stack.toDay_sys]
    · rw [hrecto, Stack.toDay_step]
    · rw [hrecto]
      exact (Stack.moveDone_get _).1
    · rw [hrecto]
      exact (Stack.moveDone_get _).2
    · cases j
      · exact absurd rfl hj
      · exact hkeep.2.2 hb
    · rw [State.stack_recto, State.stack_recto, hrecto]
      exact (s.recto.sys_onlyChanges _ (by simp)).trans (p.recto.toDay_onlyChanges.mono (by simp) (by simp))
  · refine exec_eq_of_setStack hk rfl ?_
    simp [Stack.locksReported, hw, hmet, Stack.releaseDone]
  · let q := s.onBoth fun t => if t.bist.run = 0 then t else t.bistAbandon
    have hrun : s.reenable k 1 n = q.returnToDay := by
      have hkind : s.reenable k 1 n = if s.mode = .dusk ∧ (s.stack k).sys.duskStep = 3 ∧ (s.stack k).returnAsked = true then q.returnToDay else s :=
        if_neg (by simp [hk])
      rw [hkind, if_pos ⟨hm, hstep, by simpa [Stack.returnAsked] using hq⟩]
    refine ⟨q.returnToDay, congrArg Host.Outcome.next ((if_pos hk).trans hrun), by simp [q], fun j hj => q.returnToDay_stack ?_⟩
    simpa [q, State.onBoth] using hj

end Sys2Proof.Machine
end

section
/-! SUPPORT. Recoveries of the stack: how one starts, completes and escalates to the device (R41 to R48, R249). -/

namespace Sys2Proof.Machine

section
variable (t : Stack) (l : List Recovery)

theorem Stack.setRecoveries_onlyChanges {P : List Part} {F : List Field} (h : .sys ∈ P) (hb : SYS.RECOV_BUSY ∈ F) (hl : SYS.RECOV_LEVEL ∈ F) :
    t.OnlyChanges P F (t.setRecoveries l) :=
  ((t.sys_onlyChanges _ h).put _ hb).put _ hl

@[simp] theorem Stack.setRecoveries_sys : (t.setRecoveries l).sys = { t.sys with recoveries := l } := rfl

theorem Stack.setRecoveries_busy : (t.setRecoveries l).get SYS.RECOV_BUSY = b2n !l.isEmpty := by
  have hread : (t.setRecoveries l).get SYS.RECOV_BUSY = b2n (!l.isEmpty) % 2 :=
    (Stack.get_put_ne _ _ (by decide)).trans (Stack.get_put_same _ _ _)
  rw [hread]
  cases l.isEmpty <;> rfl

theorem Stack.setRecoveries_level : (t.setRecoveries l).get SYS.RECOV_LEVEL = l.foldl (fun m r => Nat.max m r.res.level) 0 % 8 :=
  Stack.get_put_same _ _ _

end

section
variable {t : Stack} {block cause : Nat}

/-- A fault of the stack, outside Haven and with no recovery in progress, starts its recovery (R43, R45). -/
theorem Stack.fault_stack_starts (hm : t.mode ≠ .haven) (hr : t.sys.recoveries = []) :
    t.fault .stack block cause 0 0 = (t.event { block := block, cause := cause, level := 3 }).startRecovery ⟨.stack, block, cause⟩ := by
  have hkind : t.faultKind .stack = .starts := by simp [Stack.faultKind, hm, hr]
  unfold Stack.fault Stack.faultLoads Stack.outermost
  dsimp only
  rw [hkind]
  rfl

/-- What an event leaves of a stack. -/
theorem Stack.event_frame (t : Stack) (e : Event) : t.OnlyChanges [.ledger] [LEDGER.PEND_HELD, LEDGER.PEND_DROPPED] (t.event e) :=
  t.event_onlyChanges e (by simp) (by simp) (by simp)

/-- The recovery of a stack starts, with no turn armed: its registers, the interrupt and the safe-output turn (R44, R249). -/
theorem Stack.startRecovery_stack (hr : t.sys.recoveries = []) (ha : t.turnArmed = false) (hw : t.turn.waiting = []) :
    let u := t.startRecovery ⟨.stack, block, cause⟩
    u.sys.recoveries = [⟨.stack, block, cause⟩] ∧ u.get SYS.RECOV_BUSY = 1 ∧ u.get SYS.RECOV_LEVEL = 3 ∧ u.get SYS.INT_RECOV = 1 ∧
      u.turn.dev = some .safeOutput ∧ u.ledger = t.ledger ∧
      t.OnlyChanges [.sys, .turn] [SYS.RECOV_BUSY, SYS.RECOV_LEVEL, SYS.INT_RECOV, TURN.ITEMS_COUNT, TURN.SEQ_NEXT, TURN.STATUS_PENDING,
        TURN.STATUS_STAGE, TURN.STATUS_DEVICE] u := by
  let v := (t.setRecoveries [⟨.stack, block, cause⟩]).raise SYS.INT_RECOV
  have hv : t.OnlyChanges [.sys] [SYS.RECOV_BUSY, SYS.RECOV_LEVEL, SYS.INT_RECOV] v :=
    (t.setRecoveries_onlyChanges _ (by simp) (by simp) (by simp)).raise (by simp)
  have hidle : v.turnArmed = false := by
    unfold Stack.turnArmed Stack.flag at ha ⊢
    rw [hv.2.2.2 _ (by decide)]
    exact ha
  intro u
  have hu : u = v.turnStart (some .safeOutput) := by
    have hstart : u = v.makeDevTurn .safeOutput := by
      unfold u Stack.startRecovery
      rw [hr]
      rfl
    rw [hstart, Stack.makeDevTurn_idle _ _ hidle hw]
  have hturn := v.turnStart_onlyChanges .safeOutput
  rw [← hu] at hturn
  refine ⟨?_, ?_, ?_, ?_, by rw [hu, Stack.turnStart_dev], hturn.2.2.1 .ledger (by simp),
    (hv.mono (by simp) (by simp)).trans (hturn.mono (by simp) (by simp))⟩
  · exact congrArg Sys.recoveries (hturn.2.2.1 .sys (by simp))
  · rw [hturn.2.2.2 _ (by decide), Stack.get_raise_ne _ (by decide), Stack.setRecoveries_busy]
    rfl
  · rw [hturn.2.2.2 _ (by decide), Stack.get_raise_ne _ (by decide), Stack.setRecoveries_level]
    rfl
  · rw [hturn.2.2.2 _ (by decide), Stack.get_raise_same]
    rfl

/-- The one recovery of a stack completes: no recovery is left, every section's RECOVERY bit is cleared, and an event records it (R45). -/
theorem Stack.recoveryComplete_stack (hr : t.sys.recoveries = [⟨.stack, block, cause⟩]) :
    t.recoveryComplete .stack = (((t.setRecoveries []).modSects t.sectionNumbers fun x => { x with hold := setBit x.hold 0 false }).event
      { block := block, cause := cause, level := 3, data1 := 1 }) := by
  unfold Stack.recoveryComplete
  rw [hr]
  simp [Resource.level, Stack.sectionNumbers_of_sections (s := t) (t := t.setRecoveries []) rfl]

/-- The one recovery of a stack at its limit: an event records it, and the device's recovery takes the stack to Haven (R45, R48). -/
theorem Stack.recoveryLimit_stack (hr : t.sys.recoveries = [⟨.stack, block, cause⟩]) : ∃ v : Stack, t.recoveryLimit .stack = v.enterHaven := by
  unfold Stack.recoveryLimit Stack.recoveryLapse
  rw [hr]
  exact ⟨_, rfl⟩

end

/-- A fault of a stack that leaves it out of Haven, in a package of no mirrored pair, reaches no other stack (R45, R580). -/
theorem State.onStackFault_unpaired (p : State) {k : Side} {f : Stack → Stack} (hk : p.hasSide k = true) (hm : (f (p.stack k)).mode ≠ .haven)
    (hp : (p.onStack k f).recto.flag PINS.PAIR_MODE = false) : p.onStackFault k f = p.onStack k f := by
  unfold State.onStackFault
  dsimp only
  rw [State.onStack_stack p f hk, if_neg fun h => hm h.1]
  have hmirror : (p.onStack k f).mirror = false := by simp [State.mirror, hp]
  cases (p.stack k).stackRecovery <;> cases (f (p.stack k)).stackRecovery <;> simp [hmirror]

/-- A fault of a stack that takes it to Haven takes the package there (R45). -/
theorem State.onStackFault_haven (p : State) {k : Side} {f : Stack → Stack} (hk : p.hasSide k = true) (hm : (p.stack k).mode ≠ .haven)
    (hf : (f (p.stack k)).mode = .haven) : p.onStackFault k f = (p.onStack k f).packageHaven := by
  unfold State.onStackFault
  dsimp only
  rw [State.onStack_stack p f hk, if_pos ⟨hf, hm⟩]

/-- The package enters Haven: a stack that is there stays as it is. -/
theorem State.packageHaven_stack (p : State) {k : Side} (hk : p.hasSide k = true) :
    p.packageHaven.stack k = if (p.stack k).mode = .haven then p.stack k else (p.stack k).enterHaven := p.onBoth_stack _ hk

end Sys2Proof.Machine
end

section
/-! The statement of recoveries. -/

namespace Sys2Proof.Machine

/-- A fault of the stack: its event, its recovery and the safe-output turn. -/
theorem baseRingFault_starts (s : State) (k : Side) (block cause : Nat) (hk : s.hasSide k = true) (hm : (s.stack k).mode ≠ .haven)
    (hr : (s.stack k).sys.recoveries = []) (hp : s.recto.flag PINS.PAIR_MODE = false) (ha : (s.stack k).turnArmed = false)
    (hw : (s.stack k).turn.waiting = []) :
    Completes (.baseRingFault k block cause) s k [.sys, .ledger, .turn]
      [SYS.RECOV_BUSY, SYS.RECOV_LEVEL, SYS.INT_RECOV, LEDGER.PEND_HELD, LEDGER.PEND_DROPPED, TURN.ITEMS_COUNT, TURN.SEQ_NEXT,
        TURN.STATUS_PENDING, TURN.STATUS_STAGE, TURN.STATUS_DEVICE] fun t =>
      t.sys.recoveries = [⟨.stack, block, cause⟩] ∧ t.get SYS.RECOV_BUSY = 1 ∧ t.get SYS.RECOV_LEVEL = 3 ∧ t.get SYS.INT_RECOV = 1 ∧
      t.turn.dev = some .safeOutput ∧ t.ledger = ((s.stack k).event { block := block, cause := cause, level := 3 }).ledger := by
  have hstart := Stack.fault_stack_starts (block := block) (cause := cause) hm hr
  have hevent := (s.stack k).event_frame { block := block, cause := cause, level := 3 }
  generalize (s.stack k).event _ = v at hstart hevent ⊢
  have hidle : v.turnArmed = false := by
    unfold Stack.turnArmed Stack.flag at ha ⊢
    rw [hevent.2.2.2 _ (by decide)]
    exact ha
  obtain ⟨hrec, hbusy, hlevel, hint, hdev, hledger, hframe⟩ := Stack.startRecovery_stack (block := block) (cause := cause)
    ((congrArg Sys.recoveries (hevent.2.2.1 .sys (by simp))).trans hr) hidle ((congrArg Turn.waiting (hevent.2.2.1 .turn (by simp))).trans hw)
  rw [← hstart] at hrec hbusy hlevel hint hdev hledger hframe
  have hall := (hevent.mono (by simp) (by simp)).trans (hframe.mono (by simp) (by simp) :
    v.OnlyChanges [.sys, .ledger, .turn] [SYS.RECOV_BUSY, SYS.RECOV_LEVEL, SYS.INT_RECOV, LEDGER.PEND_HELD, LEDGER.PEND_DROPPED,
      TURN.ITEMS_COUNT, TURN.SEQ_NEXT, TURN.STATUS_PENDING, TURN.STATUS_STAGE, TURN.STATUS_DEVICE] _)
  have hpair : (s.onStack k fun t => t.fault .stack block cause 0 0).recto.flag PINS.PAIR_MODE = false := by
    cases k with
    | recto =>
      rw [← State.stack_recto, State.onStack_stack _ _ hk]
      unfold Stack.flag at hp ⊢
      rw [hall.2.2.2 _ (by decide)]
      exact hp
    | verso =>
      rw [← State.stack_recto, State.onStack_stack_ne _ _ (by decide)]
      exact hp
  have hmode : ((s.stack k).fault .stack block cause 0 0).mode ≠ .haven := by
    rw [show ((s.stack k).fault .stack block cause 0 0).mode = (s.stack k).mode from hall.2.2.1 .mode (by simp)]
    exact hm
  exact completes_of_onStack hk (congrArg Host.Outcome.next (s.onStackFault_unpaired hk hmode hpair)) hall
    ⟨hrec, hbusy, hlevel, hint, hdev, hledger⟩

/-- The end of a recovery of the stack. -/
theorem recoveryComplete_completes (s : State) (k : Side) (id block cause : Nat) (hk : s.hasSide k = true)
    (hr : (s.stack k).sys.recoveries = [⟨.stack, block, cause⟩]) :
    Completes (.recoveryComplete k 3 id) s k [.sys, .ledger, .sections]
      [SYS.RECOV_BUSY, SYS.RECOV_LEVEL, LEDGER.PEND_HELD, LEDGER.PEND_DROPPED] fun t =>
      t.sys.recoveries = [] ∧ t.get SYS.RECOV_BUSY = 0 ∧ t.get SYS.RECOV_LEVEL = 0 ∧
      t.sections = ((s.stack k).modSects (s.stack k).sectionNumbers fun x => { x with hold := setBit x.hold 0 false }).sections := by
  have hend := Stack.recoveryComplete_stack hr
  have hset := (s.stack k).setRecoveries_onlyChanges [] (P := [.sys, .ledger, .sections])
    (F := [SYS.RECOV_BUSY, SYS.RECOV_LEVEL, LEDGER.PEND_HELD, LEDGER.PEND_DROPPED]) (by simp) (by simp) (by simp)
  have hsects := modSects_only (F := []) ((s.stack k).setRecoveries []) (s.stack k).sectionNumbers
    fun x => { x with hold := setBit x.hold 0 false }
  have heq := modSects_sections ((s.stack k).setRecoveries []) (s.stack k) rfl (s.stack k).sectionNumbers
    fun x => { x with hold := setBit x.hold 0 false }
  generalize ((s.stack k).setRecoveries []).modSects _ _ = v at hend hsects heq
  have hevent := v.event_frame { block := block, cause := cause, level := 3, data1 := 1 }
  rw [← hend] at hevent
  refine completes_of_onStack hk rfl
    ((hset.trans (hsects.mono (by simp) (by simp))).trans (hevent.mono (by simp) (by simp))) ⟨?_, ?_, ?_, ?_⟩
  · exact congrArg Sys.recoveries ((hevent.2.2.1 .sys (by simp)).trans (hsects.2.2.1 .sys (by simp)))
  · exact (hevent.2.2.2 _ (by decide)).trans ((hsects.2.2.2 _ (by simp)).trans ((s.stack k).setRecoveries_busy []))
  · exact (hevent.2.2.2 _ (by decide)).trans ((hsects.2.2.2 _ (by simp)).trans ((s.stack k).setRecoveries_level []))
  · exact (hevent.2.2.1 .sections (by simp)).trans heq

/-- Settles O11: a fault with nothing in its way, the end of a recovery, and its limit, at which the device's recovery is Haven. -/
theorem recoveriesStartCompleteAndEscalate : Obligations.RecoveriesStartCompleteAndEscalate := by
  refine ⟨baseRingFault_starts, recoveryComplete_completes, fun s k id block cause hk hm hr => ?_⟩
  obtain ⟨v, hv⟩ := Stack.recoveryLimit_stack hr
  have hhaven := s.onStackFault_haven (f := Stack.recoveryLimit .stack) hk (hm k hk) (by rw [hv]; exact v.enterHaven_facts.1)
  refine ⟨_, congrArg Host.Outcome.next hhaven, by simp, fun j hj => ?_⟩
  rw [State.packageHaven_stack _ (by simpa using hj)]
  by_cases hjk : k = j
  · subst hjk
    obtain ⟨hmode, hout, hrec, -, hbusy, -⟩ := v.enterHaven_facts
    rw [State.onStack_stack _ _ hk, hv, if_pos hmode]
    exact ⟨hmode, hrec, hout, hbusy⟩
  · rw [State.onStack_stack_ne _ _ hjk, if_neg (hm j hj)]
    obtain ⟨hmode, hout, hrec, -, hbusy, -⟩ := (s.stack j).enterHaven_facts
    exact ⟨hmode, hrec, hout, hbusy⟩

end Sys2Proof.Machine
end

section
/-! SUPPORT. SECT.CMD: what each command does to the sections, the planes and the fabric where it is taken (R38, R39, R170 to R177, R190, R191). -/

namespace Sys2Proof.Machine

section
variable {s : Stack} {i n op : Nat}

theorem Stack.rootOf_cmdFields (s : Stack) (i n op m : Nat) : (s.cmdFields i n op).rootOf m = s.rootOf m :=
  Stack.rootOf_of_sections (s := s) (t := s.cmdFields i n op) rfl m

/-- The fields of SECT.CMD as they are held. -/
theorem Stack.cmdFields_get (s : Stack) (i n op : Nat) : (s.cmdFields i n op).get (SECT.CMD_SECTION i) = n % 1024 ∧
    (s.cmdFields i n op).get (SECT.CMD_OP i) = op % 16 ∧ (s.cmdFields i n op).get (SECT.CMD_STATUS_RESULT i) = 0 := by
  have hso : (SECT.CMD_OP i).key ≠ (SECT.CMD_SECTION i).key := by simp [SECT.CMD_OP, SECT.CMD_SECTION]
  have hrs : (SECT.CMD_STATUS_RESULT i).key ≠ (SECT.CMD_SECTION i).key := by simp [SECT.CMD_STATUS_RESULT, SECT.CMD_SECTION]
  have hro : (SECT.CMD_STATUS_RESULT i).key ≠ (SECT.CMD_OP i).key := by simp [SECT.CMD_STATUS_RESULT, SECT.CMD_OP]
  unfold Stack.cmdFields
  rw [Stack.get_put_ne _ _ hrs, Stack.get_put_ne _ _ hso, Stack.get_put_same, Stack.get_put_ne _ _ hro, Stack.get_put_same, Stack.get_put_same]
  exact ⟨rfl, rfl, rfl⟩

/-- RUN of a section that exists is none of the fields of SECT.CMD. -/
theorem Stack.cmdFields_runReset (s : Stack) (i n op : Nat) {j m : Nat} (_hm : m < 1024) :
    (s.cmdFields i n op).get (SECT.RUN_RESET j m) = s.get (SECT.RUN_RESET j m) := by
  refine (s.cmdFields_onlyChanges (P := []) (F := [SECT.CMD_SECTION i, SECT.CMD_OP i, SECT.CMD_STATUS_RESULT i]) i n op
    (by simp) (by simp) (by simp)).get_eq ?_
  simp only [List.mem_cons, List.not_mem_nil, or_false, forall_eq_or_imp, forall_eq, SECT.CMD_SECTION, SECT.CMD_OP, SECT.CMD_STATUS_RESULT,
    SECT.RUN_RESET]
  omega

/-! ## RUN written by a command (R173) -/

/-- RUN written through a family, and the command in progress. -/
def Stack.runCommanded (s : Stack) (i n v : Nat) : Stack := (s.setRunLive n v).cmdStart i n

theorem Stack.setRunLive_family (s : Stack) (n v m : Nat) : (s.setRunLive n v).family m = s.family m :=
  Stack.family_of_sections (s.setRunLive_sections n v) m

theorem Stack.runCommanded_onlyChanges (s : Stack) (i n v : Nat) :
    s.OnlyChanges [.sections, .fabric] (SECT.CMD_STATUS_BUSY i :: (s.family n).flatMap s.runFields) (s.runCommanded i n v) :=
  ((s.setRunLive_onlyChanges n v (by simp)).mono (fun _ h => h) (fun _ h => List.mem_cons_of_mem _ h)).trans
    (Stack.cmdStart_onlyChanges _ i n (by simp) (by simp))

theorem Stack.runCommanded_state (s : Stack) (i n v m : Nat) : ((s.runCommanded i n v).sect m).state = (s.sect m).state :=
  (Stack.cmdStart_state _ i n m).trans (congrArg Section.state (Stack.sect_of_sections (s.setRunLive_sections n v) m))

theorem Stack.runCommanded_sect_ne (s : Stack) (i v : Nat) {n m : Nat} (h : m ≠ n) : (s.runCommanded i n v).sect m = s.sect m :=
  (Stack.cmdStart_sect_ne _ i h).trans (Stack.sect_of_sections (s.setRunLive_sections n v) m)

/-- Without RESET the fabric is as it was (R176). -/
theorem Stack.setRunLive_fabric (s : Stack) (n v : Nat) (h : s.get (SECT.RUN_RESET (s.sect n).home n) ≠ 1) :
    (s.setRunLive n v).fabric = s.fabric := by
  rw [Stack.setRunLive_eq]
  dsimp only
  rw [if_neg h]
  exact (Stack.foldRunLive_onlyChanges (P := []) s n v _ (s.family n) s rfl).part (p := .fabric) (by simp)

theorem Stack.runCommanded_fabric (s : Stack) (i n v : Nat) (h : s.get (SECT.RUN_RESET (s.sect n).home n) ≠ 1) :
    (s.runCommanded i n v).fabric = s.fabric :=
  ((Stack.cmdStart_onlyChanges (P := [.sections]) (F := [SECT.CMD_STATUS_BUSY i]) _ i n (by simp) (by simp)).part (p := .fabric)
    (by simp)).trans (s.setRunLive_fabric n v h)

/-- Both copies of RUN in every member of the family (R173). -/
def Stack.RunWritten (s t : Stack) (n v : Nat) : Prop :=
  ∀ m ∈ s.family n, m < 1024 → t.get (SECT.RUN_LIVE (s.sect m).home m) = v ∧ t.get (SECT.RUN_LIVE (s.sect m).home m).staged = v ∧
    (m ≠ n → t.get (SECT.RUN_RESET (s.sect m).home m) = s.get (SECT.RUN_RESET (s.sect n).home n) % 2 ∧
      t.get (SECT.RUN_RESET (s.sect m).home m).staged = s.get (SECT.RUN_RESET (s.sect n).home n) % 2)

/-- BUSY of an instance is in no section's RUN. -/
theorem SECT.busy_ne_run (i j : Nat) {m : Nat} (hm : m < 1024) :
    (SECT.CMD_STATUS_BUSY i).key ≠ (SECT.RUN_LIVE j m).key ∧ (SECT.CMD_STATUS_BUSY i).key ≠ (SECT.RUN_LIVE j m).staged.key ∧
      (SECT.CMD_STATUS_BUSY i).key ≠ (SECT.RUN_RESET j m).key ∧ (SECT.CMD_STATUS_BUSY i).key ≠ (SECT.RUN_RESET j m).staged.key := by
  simp only [SECT.CMD_STATUS_BUSY, SECT.RUN_LIVE, SECT.RUN_RESET, Field.staged]
  omega

/-- What a frame says of RUN when none of its fields is a RUN field. -/
theorem Stack.RunWritten.after {s t u : Stack} {n v : Nat} {P : List Part} {F : List Field} (h : s.RunWritten t n v) (hf : t.OnlyChanges P F u)
    (hk : ∀ j m, m < 1024 → ∀ g ∈ F, g.key ≠ (SECT.RUN_LIVE j m).key ∧ g.key ≠ (SECT.RUN_LIVE j m).staged.key ∧
      g.key ≠ (SECT.RUN_RESET j m).key ∧ g.key ≠ (SECT.RUN_RESET j m).staged.key) : s.RunWritten u n v := by
  intro m hm hlt
  obtain ⟨hlive, hstaged, hreset⟩ := h m hm hlt
  have hkm := hk (s.sect m).home m hlt
  rw [hf.get_eq fun g hg => (hkm g hg).1, hf.get_eq fun g hg => (hkm g hg).2.1, hf.get_eq fun g hg => (hkm g hg).2.2.1,
    hf.get_eq fun g hg => (hkm g hg).2.2.2]
  exact ⟨hlive, hstaged, hreset⟩

theorem Stack.runCommanded_written (s : Stack) (i n : Nat) {v : Nat} (hv : v < 2) : s.RunWritten (s.runCommanded i n v) n v := by
  have hwritten : s.RunWritten (s.setRunLive n v) n v := fun m hm _ => by
    obtain ⟨hlive, hstaged⟩ := s.setRunLive_get (v := v) hm
    exact ⟨hlive.trans (Nat.mod_eq_of_lt hv), hstaged.trans (Nat.mod_eq_of_lt hv), fun hn => s.setRunLive_reset hm hn⟩
  refine hwritten.after (Stack.cmdStart_onlyChanges (P := [.sections]) (F := [SECT.CMD_STATUS_BUSY i]) _ i n (by simp) (by simp)) ?_
  intro j m hm g hg
  rw [List.mem_singleton.1 hg]
  exact SECT.busy_ne_run i j hm

end

/-! ## SLEEP (R38, R177) -/

section
variable {s : Stack} {i n : Nat}

/-- Sleep entry of a Live section (R38). -/
def Section.sleeps (x : Section) : Section := if x.state = .live then { x with seq := .sleep 1 } else x

theorem Section.sleeps_live {x : Section} (h : x.state = .live) : x.sleeps = { x with seq := .sleep 1 } := if_pos h

theorem Section.sleeps_idem (x : Section) : x.sleeps.sleeps = x.sleeps := by
  unfold Section.sleeps
  split <;> simp_all

theorem Section.sleeps_state (x : Section) : x.sleeps.state = x.state := by
  unfold Section.sleeps
  split <;> rfl

/-- SLEEP of a Live idle section: RUN, the sleep entry, and the queues of the stops in bypass (R38, R173, R333). -/
theorem Stack.cmdSleep_taken (h : s.takesCommand i n) (hl : (s.sect n).state = .live) (hq : (s.sect n).seq = .idle) :
    s.cmdSleep i n = ((((s.cmdFields i n 1).runCommanded i n 0).modSects (s.family n) Section.sleeps).drainBypass) := by
  have hstate : (((s.cmdFields i n 1).runCommanded i n 0).sect n).state ≠ .capturing := by
    rw [Stack.runCommanded_state, Stack.sect_cmdFields, hl]
    decide
  refine (s.sectCmd_taken h (by simp [Stack.stateIn, hl, hq])).trans ((if_neg hstate).trans ?_)
  rw [← s.family_cmdFields i n 1 n]
  rfl

theorem Stack.drainBypass_frame (s : Stack) : s.OnlyChanges [.rings] [RING.DISCARD_BYPASS, RING.INT_DISCARD] s.drainBypass :=
  s.drainBypass_onlyChanges (by simp) (by simp) (by simp)

theorem Stack.sect_drainBypass (s : Stack) (m : Nat) : s.drainBypass.sect m = s.sect m :=
  Stack.sect_of_sections (s.drainBypass_frame.part (p := .sections) (by simp)) m

/-- The fields of a command are none of RUN, so what is written is what the stack before the command says. -/
theorem Stack.RunWritten.ofCmdFields {op v : Nat} {u : Stack} (hn : n < 1024) (h : (s.cmdFields i n op).RunWritten u n v) : s.RunWritten u n v := by
  intro m hm hlt
  have hm' : m ∈ (s.cmdFields i n op).family n := by rwa [Stack.family_cmdFields]
  have hfields := h m hm' hlt
  simp only [Stack.sect_cmdFields, s.cmdFields_runReset i n op hn] at hfields
  exact hfields

end

/-- The frame of a command that writes RUN. -/
theorem Stack.runCommanded_frame (s : Stack) (i n op v : Nat) : s.OnlyChanges [.sections, .fabric]
    ([SECT.CMD_SECTION i, SECT.CMD_OP i, SECT.CMD_STATUS_RESULT i, SECT.CMD_STATUS_BUSY i] ++ (s.family n).flatMap s.runFields)
    ((s.cmdFields i n op).runCommanded i n v) := by
  refine (s.cmdFields_onlyChanges i n op (by simp) (by simp) (by simp)).trans
    (((s.cmdFields i n op).runCommanded_onlyChanges i n v).mono (fun _ h => h) fun f hf => ?_)
  rw [Stack.family_cmdFields] at hf
  rcases List.mem_cons.1 hf with rfl | hf
  · simp
  · exact List.mem_append_right _ hf

/-- What SLEEP of a Live idle section leaves (R38, R173, R333). -/
theorem Stack.cmdSleep_does {u : Stack} {i n : Nat} (hn : n < 1024) (h : u.takesCommand i n) (hl : (u.sect n).state = .live)
    (hq : (u.sect n).seq = .idle) :
    u.OnlyChanges [.sections, .rings, .fabric] ([SECT.CMD_SECTION i, SECT.CMD_OP i, SECT.CMD_STATUS_RESULT i, SECT.CMD_STATUS_BUSY i,
        RING.DISCARD_BYPASS, RING.INT_DISCARD] ++ (u.family n).flatMap u.runFields) (u.cmdSleep i n) ∧
      (∀ m ∈ u.family n, (u.sect m).state = .live → ((u.cmdSleep i n).sect m).seq = .sleep 1) ∧
      (∀ m, ((u.cmdSleep i n).sect m).state = (u.sect m).state) ∧
      (∀ m, m ∉ u.family n → m ≠ n → (u.cmdSleep i n).sect m = u.sect m) ∧ u.RunWritten (u.cmdSleep i n) n 0 ∧
      (u.get (SECT.RUN_RESET (u.sect n).home n) ≠ 1 → (u.cmdSleep i n).fabric = u.fabric) := by
  have hrun := Stack.cmdSleep_taken h hl hq
  have hframe := u.runCommanded_frame i n 1 0
  have hstate : ∀ m, (((u.cmdFields i n 1).runCommanded i n 0).sect m).state = (u.sect m).state := fun m => by
    rw [Stack.runCommanded_state, Stack.sect_cmdFields]
  have hother : ∀ m, m ≠ n → ((u.cmdFields i n 1).runCommanded i n 0).sect m = u.sect m := fun m hm => by
    rw [Stack.runCommanded_sect_ne _ _ _ hm, Stack.sect_cmdFields]
  have hwritten := ((u.cmdFields i n 1).runCommanded_written i n (v := 0) (by decide)).ofCmdFields hn
  have hfabric : u.get (SECT.RUN_RESET (u.sect n).home n) ≠ 1 → ((u.cmdFields i n 1).runCommanded i n 0).fabric = u.fabric := fun hr =>
    Stack.runCommanded_fabric _ i n 0 (by rwa [Stack.sect_cmdFields, u.cmdFields_runReset i n 1 hn])
  generalize (u.cmdFields i n 1).runCommanded i n 0 = v at *
  have hsects := modSects_only (F := []) v (u.family n) Section.sleeps
  have hdrain := (v.modSects (u.family n) Section.sleeps).drainBypass_frame
  rw [← hrun] at hdrain
  have hsect : ∀ m, (u.cmdSleep i n).sect m = (v.modSects (u.family n) Section.sleeps).sect m := fun m => by rw [hrun, Stack.sect_drainBypass]
  refine ⟨(hframe.mono (by simp) (by simp; tauto)).trans ((hsects.mono (by simp) (by simp)).trans (hdrain.mono (by simp) (by simp))),
    fun m hm hlive => ?_, fun m => ?_, fun m hm hne => ?_, ?_, fun hr => ?_⟩
  · rw [hsect, modSects_idem v Section.sleeps_idem hm, Section.sleeps_live ((hstate m).trans hlive)]
  · rw [hsect, modSects_keeps v _ Section.state Section.sleeps_state, hstate]
  · rw [hsect, modSects_not_mem v _ hm, hother m hne]
  · refine (hwritten.after hsects (by simp)).after hdrain fun j m hm g hg => ?_
    rcases List.mem_pair.1 hg with rfl | rfl <;>
      simp only [RING.DISCARD_BYPASS, RING.INT_DISCARD, SECT.RUN_LIVE, SECT.RUN_RESET, Field.staged] <;> omega
  · exact (hdrain.part (p := .fabric) (by simp)).trans ((hsects.part (p := .fabric) (by simp)).trans (hfabric hr))

/-! ## WAKE (R39, R177) -/

/-- The wake of an Asleep section begins (R39). -/
def Section.wakes (x : Section) : Section := if x.state = .asleep then { x with seq := .wake 0 } else x

theorem Section.wakes_asleep {x : Section} (h : x.state = .asleep) : x.wakes = { x with seq := .wake 0 } := if_pos h

theorem Section.wakes_idem (x : Section) : x.wakes.wakes = x.wakes := by
  unfold Section.wakes
  split <;> simp_all

theorem Section.wakes_state (x : Section) : x.wakes.state = x.state := by
  unfold Section.wakes
  split <;> rfl

/-- Where no tile boundary is exhausted, no section takes a detour (R127). -/
theorem Stack.detour_none {u : Stack} (h : ∀ b t, u.exhausted b t = false) (n : Nat) : Stack.detour false n u = u := by
  have hnone : u.exhaustedUsed n = [] := by simp [Stack.exhaustedUsed, h]
  unfold Stack.detour
  rw [hnone]
  rfl

theorem foldl_detour_none {u : Stack} (h : ∀ b t, u.exhausted b t = false) (l : List Nat) : l.foldl (fun s m => Stack.detour false m s) u = u := by
  induction l with
  | nil => rfl
  | cons n l ih => rw [List.foldl, Stack.detour_none h, ih]

/-- Whether boundaries are exhausted is a matter of the repair map alone (R128). -/
theorem Stack.exhausted_of_integ {u t : Stack} (h : t.integ = u.integ) (b x : Nat) : t.exhausted b x = u.exhausted b x := by
  unfold Stack.exhausted Stack.vbyte
  rw [h]

/-- WAKE of an Asleep section where no tile boundary is exhausted (R39, R127, R173). -/
theorem Stack.cmdWake_taken {u : Stack} {i n : Nat} (h : u.takesCommand i n) (ha : (u.sect n).state = .asleep)
    (hx : ∀ b t, u.exhausted b t = false) :
    u.cmdWake (Stack.detour false) i n = ((u.cmdFields i n 2).runCommanded i n 1).modSects (u.family n) Section.wakes := by
  have hstate : (((u.cmdFields i n 2).runCommanded i n 1).sect n).state ≠ .live := by
    rw [Stack.runCommanded_state, Stack.sect_cmdFields, ha]
    decide
  have hframe := (u.runCommanded_frame i n 2 1).trans
    ((modSects_only (F := []) ((u.cmdFields i n 2).runCommanded i n 1) (u.family n) Section.wakes).mono (by simp) (by simp))
  refine (u.sectCmd_taken h (by simp [Stack.stateIn, ha])).trans ((if_neg hstate).trans ?_)
  rw [← foldl_detour_none (fun b t => (Stack.exhausted_of_integ (hframe.part (p := .integ) (by simp)) b t).trans (hx b t)) (u.family n),
    ← u.family_cmdFields i n 2 n]
  rfl

/-- What WAKE of an Asleep section leaves (R39, R173). -/
theorem Stack.cmdWake_does {u : Stack} {i n : Nat} (hn : n < 1024) (h : u.takesCommand i n) (ha : (u.sect n).state = .asleep)
    (hx : ∀ b t, u.exhausted b t = false) :
    u.OnlyChanges [.sections, .fabric] ([SECT.CMD_SECTION i, SECT.CMD_OP i, SECT.CMD_STATUS_RESULT i, SECT.CMD_STATUS_BUSY i] ++
        (u.family n).flatMap u.runFields) (u.cmdWake (Stack.detour false) i n) ∧
      (∀ m ∈ u.family n, (u.sect m).state = .asleep → ((u.cmdWake (Stack.detour false) i n).sect m).seq = .wake 0) ∧
      (∀ m, ((u.cmdWake (Stack.detour false) i n).sect m).state = (u.sect m).state) ∧
      (∀ m, m ∉ u.family n → m ≠ n → (u.cmdWake (Stack.detour false) i n).sect m = u.sect m) ∧
      u.RunWritten (u.cmdWake (Stack.detour false) i n) n 1 ∧
      (u.get (SECT.RUN_RESET (u.sect n).home n) ≠ 1 → (u.cmdWake (Stack.detour false) i n).fabric = u.fabric) := by
  rw [Stack.cmdWake_taken h ha hx]
  have hframe := u.runCommanded_frame i n 2 1
  have hstate : ∀ m, (((u.cmdFields i n 2).runCommanded i n 1).sect m).state = (u.sect m).state := fun m => by
    rw [Stack.runCommanded_state, Stack.sect_cmdFields]
  have hother : ∀ m, m ≠ n → ((u.cmdFields i n 2).runCommanded i n 1).sect m = u.sect m := fun m hm => by
    rw [Stack.runCommanded_sect_ne _ _ _ hm, Stack.sect_cmdFields]
  have hwritten := ((u.cmdFields i n 2).runCommanded_written i n (v := 1) (by decide)).ofCmdFields hn
  have hfabric : u.get (SECT.RUN_RESET (u.sect n).home n) ≠ 1 → ((u.cmdFields i n 2).runCommanded i n 1).fabric = u.fabric := fun hr =>
    Stack.runCommanded_fabric _ i n 1 (by rwa [Stack.sect_cmdFields, u.cmdFields_runReset i n 2 hn])
  generalize (u.cmdFields i n 2).runCommanded i n 1 = v at *
  have hsects := modSects_only (F := []) v (u.family n) Section.wakes
  refine ⟨hframe.trans (hsects.mono (by simp) (by simp)), fun m hm hasleep => ?_, fun m => ?_, fun m hm hne => ?_,
    hwritten.after hsects (by simp), fun hr => (hsects.part (p := .fabric) (by simp)).trans (hfabric hr)⟩
  · rw [modSects_idem v Section.wakes_idem hm, Section.wakes_asleep ((hstate m).trans hasleep)]
  · rw [modSects_keeps v _ Section.state Section.wakes_state, hstate]
  · rw [modSects_not_mem v _ hm, hother m hne]

/-! ## RESET_PULSE (R176) -/

/-- The reset of a section asserted or released by a pulse. -/
def Section.pulsed (b : Bool) (x : Section) : Section := { x with resetPulse := b }

/-- A command that starts keeps what it does not concern of every section. -/
theorem Stack.cmdStart_sect_keeps (s : Stack) (i n m : Nat) {α : Type} (q : Section → α) (hq : ∀ x, q x.commanded = q x) :
    q ((s.cmdStart i n).sect m) = q (s.sect m) := by
  rw [Stack.cmdStart_eq, Stack.sect_put]
  exact modSects_keeps s [n] q hq m

theorem Stack.fabric_onlyChanges {P : List Part} {F : List Field} (s : Stack) (x : Fabric) (h : .fabric ∈ P) :
    s.OnlyChanges P F { s with fabric := x } :=
  ⟨rfl, rfl, fun p hp => by cases p <;> first | rfl | exact absurd h hp, fun _ _ => rfl⟩

/-- RESET_PULSE before it reaches the flip-flops: the family's reset asserted and the command in progress (R176, R191). -/
def Stack.pulseBegun (u : Stack) (i n : Nat) : Stack := ((u.cmdFields i n 3).modSects (u.family n) (Section.pulsed true)).cmdStart i n

theorem Stack.pulseBegun_onlyChanges (u : Stack) (i n : Nat) :
    u.OnlyChanges [.sections] [SECT.CMD_SECTION i, SECT.CMD_OP i, SECT.CMD_STATUS_RESULT i, SECT.CMD_STATUS_BUSY i] (u.pulseBegun i n) :=
  ((u.cmdFields_onlyChanges i n 3 (by simp) (by simp) (by simp)).trans ((modSects_only (F := []) _ _ _).mono (by simp) (by simp))).trans
    (Stack.cmdStart_onlyChanges _ i n (by simp) (by simp))

/-- What neither the pulse nor the command concerns, every section keeps. -/
theorem Stack.pulseBegun_keeps (u : Stack) (i n m : Nat) {α : Type} (q : Section → α) (hc : ∀ x, q x.commanded = q x)
    (hq : ∀ x, q (x.pulsed true) = q x) : q ((u.pulseBegun i n).sect m) = q (u.sect m) :=
  (Stack.cmdStart_sect_keeps _ i n m q hc).trans (modSects_keeps (u.cmdFields i n 3) _ q hq m)

theorem Stack.pulseBegun_resetPulse (u : Stack) (i : Nat) {n m : Nat} (hm : m ∈ u.family n) : ((u.pulseBegun i n).sect m).resetPulse = true :=
  (Stack.cmdStart_sect_keeps _ i n m Section.resetPulse fun _ => rfl).trans
    (modSects_mem (u.cmdFields i n 3) (Q := fun x => x.resetPulse = true) hm fun _ => rfl)

/-- The flip-flops of a section's tiles take INIT in a plane (R76). -/
def Stack.flipFlopsReset (u : Stack) (n : Nat) : Stack := { u with fabric := u.fabric.resetFlipFlops (u.sect n).tiles (u.livePlane n) }

theorem Stack.flipFlopsReset_onlyChanges (u : Stack) (n : Nat) : u.OnlyChanges [.fabric] [] (u.flipFlopsReset n) := by
  unfold Stack.flipFlopsReset
  exact u.fabric_onlyChanges _ (by simp)

theorem Stack.flipFlopsReset_sections (u : Stack) (n : Nat) : (u.flipFlopsReset n).sections = u.sections := rfl

theorem Stack.flipFlopsReset_regs (u : Stack) (n : Nat) : (u.flipFlopsReset n).regs = u.regs := rfl

theorem Stack.sect_flipFlopsReset (u : Stack) (n m : Nat) : (u.flipFlopsReset n).sect m = u.sect m :=
  Stack.sect_of_sections (u.flipFlopsReset_sections n) m

theorem Stack.livePlane_flipFlopsReset (u : Stack) (n m : Nat) : (u.flipFlopsReset n).livePlane m = u.livePlane m :=
  Stack.livePlane_of_sections (u.flipFlopsReset_sections n) (u.flipFlopsReset_regs n) m

theorem Stack.cmdResetPulse_taken {u : Stack} {i n : Nat} (h : u.takesCommand i n) (hs : (u.sect n).state ∈ [SectState.live, .asleep, .held]) :
    u.cmdResetPulse i n = (u.pulseBegun i n).flipFlopsReset n := by
  refine (u.sectCmd_taken h (by simpa [Stack.stateIn] using hs)).trans ?_
  unfold Stack.pulseBegun
  rw [← u.family_cmdFields i n 3 n]
  rfl

/-- What RESET_PULSE leaves (R76, R176). -/
theorem Stack.cmdResetPulse_does {u : Stack} {i n : Nat} (h : u.takesCommand i n) (hs : (u.sect n).state ∈ [SectState.live, .asleep, .held]) :
    u.OnlyChanges [.sections, .fabric] [SECT.CMD_SECTION i, SECT.CMD_OP i, SECT.CMD_STATUS_RESULT i, SECT.CMD_STATUS_BUSY i]
        (u.cmdResetPulse i n) ∧
      (∀ m ∈ u.family n, ((u.cmdResetPulse i n).sect m).resetPulse = true) ∧
      (∀ m, ((u.cmdResetPulse i n).sect m).state = (u.sect m).state) ∧
      (u.cmdResetPulse i n).fabric = u.fabric.resetFlipFlops (u.sect n).tiles ((u.cmdResetPulse i n).livePlane n) := by
  have hframe := u.pulseBegun_onlyChanges i n
  have htiles := u.pulseBegun_keeps i n n Section.tiles (fun _ => rfl) fun _ => rfl
  have hstate := fun m => u.pulseBegun_keeps i n m Section.state (fun _ => rfl) fun _ => rfl
  have hpulse : ∀ m ∈ u.family n, ((u.pulseBegun i n).sect m).resetPulse = true := fun m hm => u.pulseBegun_resetPulse i hm
  rw [Stack.cmdResetPulse_taken h hs]
  generalize u.pulseBegun i n = v at *
  have hfabric : v.fabric = u.fabric := hframe.part (p := .fabric) (by simp)
  simp only [Stack.sect_flipFlopsReset]
  refine ⟨(hframe.mono (by simp) (by simp)).trans ((v.flipFlopsReset_onlyChanges n).mono (by simp) (by simp)), hpulse, hstate, ?_⟩
  rw [Stack.livePlane_flipFlopsReset, ← hfabric, ← htiles]
  rfl

/-- What the end of a reset pulse leaves where no command waits for it (R176). -/
theorem Stack.resetPulseEnd_does {u : Stack} {n : Nat} (hr : (u.sect n).resetPulse = true) (hc : (u.sect n).cmdBusy = false) :
    u.OnlyChanges [.sections] [] (u.resetPulseEnd n) ∧ (∀ m ∈ u.family n, ((u.resetPulseEnd n).sect m).resetPulse = false) ∧
      ∀ m, ((u.resetPulseEnd n).sect m).state = (u.sect m).state := by
  have hbusy : ((u.modSects (u.family n) (Section.pulsed false)).sect n).cmdBusy = false :=
    (modSects_keeps u (u.family n) (f := Section.pulsed false) Section.cmdBusy (fun _ => rfl) n).trans hc
  have hend : u.resetPulseEnd n = u.modSects (u.family n) (Section.pulsed false) :=
    (if_pos hr).trans (if_neg (ne_true_of_eq_false hbusy))
  rw [hend]
  exact ⟨modSects_only u _ _, fun m hm => modSects_mem u (Q := fun x => x.resetPulse = false) hm fun _ => rfl,
    fun m => modSects_keeps u (u.family n) (f := Section.pulsed false) Section.state (fun _ => rfl) m⟩

/-! ## HOLD and CLEAR_HOLD (R170, R172) -/

theorem Section.holdWith_idem (b : Nat) (x : Section) : (x.holdWith b).holdWith b = x.holdWith b := by
  have hor : x.hold ||| 2 ^ b ||| 2 ^ b = x.hold ||| 2 ^ b := by rw [Nat.or_assoc, Nat.or_self]
  cases hs : x.state <;> simp [Section.holdWith, hs, hor]

theorem Section.holdWith_bit (b : Nat) (x : Section) : bit (x.holdWith b).hold b = true := by
  have hhold : (x.holdWith b).hold = x.hold ||| 2 ^ b := by cases hs : x.state <;> simp [Section.holdWith, hs]
  rw [hhold, bit_or, bit_eq_testBit (2 ^ b), Nat.testBit_two_pow_self, Bool.or_true]

theorem Section.holdWith_held {b : Nat} {x : Section} (h : x.state ∈ [SectState.asleep, .live]) : (x.holdWith b).state = .held := by
  cases hs : x.state <;> simp_all [Section.holdWith]

/-- A member that a hold reaches has its bit, and is Held where it is not at work (R170, R172). -/
theorem Stack.holdSects_holds (u : Stack) {b m : Nat} {l : List Nat} (hm : m ∈ l)
    (hs : (u.sect m).state ∈ [SectState.asleep, .live, .capturing, .testing, .held]) :
    bit ((u.holdSects b l).sect m).hold b = true ∧
      ((u.sect m).state ∈ [SectState.asleep, .live] → ((u.holdSects b l).sect m).state = .held) := by
  have hmem : m ∈ u.holdable l := List.mem_filter.2 ⟨hm, by simpa using hs⟩
  obtain ⟨c, hc, -⟩ := u.holdSects_sect b l m
  rw [hc, modSects_idem u (Section.holdWith_idem b) hmem]
  exact ⟨(u.sect m).holdWith_bit b, fun h => Section.holdWith_held h⟩

/-- HOLD: the family held, and BUSY where the section is at work (R172, R191). -/
theorem Stack.cmdHold_taken {u : Stack} {i n : Nat} (h : u.takesCommand i n)
    (hs : (u.sect n).state ∈ [SectState.asleep, .live, .capturing, .testing]) :
    u.cmdHold i n = if (u.sect n).state ∈ [SectState.capturing, .testing] then ((u.cmdFields i n 4).holdSects 4 (u.family n)).cmdStart i n
      else (u.cmdFields i n 4).holdSects 4 (u.family n) := by
  refine (u.sectCmd_taken h (by simpa [Stack.stateIn] using hs)).trans ?_
  rw [← u.family_cmdFields i n 4 n]
  unfold Stack.cmdFields
  simp only [Stack.stateIn, Stack.sect_put, List.contains_iff_mem]

/-- What HOLD leaves (R170, R172, R191). -/
theorem Stack.cmdHold_does {u : Stack} {i n : Nat} (h : u.takesCommand i n)
    (hs : (u.sect n).state ∈ [SectState.asleep, .live, .capturing, .testing]) :
    u.OnlyChanges [.sections, .rings] ([SECT.CMD_SECTION i, SECT.CMD_OP i, SECT.CMD_STATUS_RESULT i, RING.DISCARD_BYPASS, RING.INT_DISCARD,
        SECT.CMD_STATUS_BUSY i] ++ (u.family n).map fun m => SECT.CMD_STATUS_BUSY (u.sect m).home) (u.cmdHold i n) ∧
      (∀ m ∈ u.family n, (u.sect m).state ∈ [SectState.asleep, .live] → ((u.cmdHold i n).sect m).state = .held) ∧
      (∀ m ∈ u.family n, (u.sect m).state ∈ [SectState.asleep, .live, .capturing, .testing, .held] →
        bit ((u.cmdHold i n).sect m).hold 4 = true) ∧
      (∀ m, m ∉ u.family n → m ≠ n → (u.cmdHold i n).sect m = u.sect m) ∧
      ((u.sect n).state ∈ [SectState.capturing, .testing] → (u.cmdHold i n).get (SECT.CMD_STATUS_BUSY i) = 1) := by
  have hframe : u.OnlyChanges [.sections, .rings] ([SECT.CMD_SECTION i, SECT.CMD_OP i, SECT.CMD_STATUS_RESULT i, RING.DISCARD_BYPASS,
      RING.INT_DISCARD, SECT.CMD_STATUS_BUSY i] ++ (u.family n).map fun m => SECT.CMD_STATUS_BUSY (u.sect m).home)
      ((u.cmdFields i n 4).holdSects 4 (u.family n)) :=
    (u.cmdFields_onlyChanges i n 4 (by simp) (by simp) (by simp)).trans
      (Stack.holdSects_onlyChanges _ 4 _ (by simp) (by simp) (by simp) (by simp) fun m hm =>
        List.mem_append_right _ (List.mem_map.2 ⟨m, hm, rfl⟩))
  have hheld : ∀ m ∈ u.family n, (u.sect m).state ∈ [SectState.asleep, .live, .capturing, .testing, .held] → _ := fun m hm hst =>
    (u.cmdFields i n 4).holdSects_holds (b := 4) hm hst
  have hother : ∀ m, m ∉ u.family n → ((u.cmdFields i n 4).holdSects 4 (u.family n)).sect m = u.sect m := fun m hm => by
    obtain ⟨-, -, hkeep⟩ := (u.cmdFields i n 4).holdSects_sect 4 (u.family n) m
    rw [hkeep hm, Stack.sect_cmdFields]
  simp only [Stack.sect_cmdFields] at hheld
  rw [Stack.cmdHold_taken h hs]
  generalize (u.cmdFields i n 4).holdSects 4 (u.family n) = v at *
  have hatRest : ∀ m, (u.sect m).state ∈ [SectState.asleep, .live] →
      (u.sect m).state ∈ [SectState.asleep, .live, .capturing, .testing, .held] := fun m hm => by simp at hm ⊢; tauto
  split
  · exact ⟨hframe.trans (v.cmdStart_onlyChanges i n (by simp) (by simp)),
      fun m hm hst => (v.cmdStart_state i n m).trans ((hheld m hm (hatRest m hst)).2 hst),
      fun m hm hst => (congrArg (bit · 4) (v.cmdStart_sect_keeps i n m Section.hold fun _ => rfl)).trans (hheld m hm hst).1,
      fun m hm hne => (v.cmdStart_sect_ne i hne).trans (hother m hm), fun _ => Stack.get_put_same _ _ _⟩
  · exact ⟨hframe, fun m hm hst => (hheld m hm (hatRest m hst)).2 hst, fun m hm hst => (hheld m hm hst).1, fun m hm _ => hother m hm,
      fun hw => absurd hw ‹_›⟩

/-- FIRMWARE cleared (R172). -/
def Section.released (x : Section) : Section := { x with hold := setBit x.hold 4 false }

/-- What CLEAR_HOLD leaves (R172, R177). -/
theorem Stack.cmdClearHold_does {u : Stack} {i n : Nat} (h : u.takesCommand i n) (hs : (u.sect n).state = .held) :
    u.OnlyChanges [.sections] [SECT.CMD_SECTION i, SECT.CMD_OP i, SECT.CMD_STATUS_RESULT i] (u.cmdClearHold i n) ∧
      (∀ m ∈ u.family n, bit ((u.cmdClearHold i n).sect m).hold 4 = false) ∧ (∀ m, ((u.cmdClearHold i n).sect m).state = (u.sect m).state) ∧
      (∀ m, m ∉ u.family n → (u.cmdClearHold i n).sect m = u.sect m) := by
  have hrun : u.cmdClearHold i n = (u.cmdFields i n 5).modSects (u.family n) Section.released := by
    refine (u.sectCmd_taken h (by simp [Stack.stateIn, hs])).trans ?_
    rw [← u.family_cmdFields i n 5 n]
    rfl
  rw [hrun]
  refine ⟨(u.cmdFields_onlyChanges i n 5 (by simp) (by simp) (by simp)).trans ((modSects_only (F := []) _ _ _).mono (by simp) (by simp)),
    fun m hm => modSects_mem _ (Q := fun x => bit x.hold 4 = false) hm fun x => bit_setBit_same _ _ _,
    fun m => modSects_keeps (u.cmdFields i n 5) _ (f := Section.released) Section.state (fun _ => rfl) m,
    fun m hm => modSects_not_mem (u.cmdFields i n 5) _ hm⟩

/-! ## DISCARD and REMOVE (R170, R177) -/

/-- A section becomes Empty (R170). -/
def Section.emptied (x : Section) : Section := { x with state := .empty, seq := .idle, detour := Option.none, avoids := [] }

/-- The planes of a root's nest freed (R170). -/
def Stack.planesFreed (u : Stack) (n : Nat) : Stack :=
  if (u.sect n).root then [0, 1, 2, 3].foldl (fun s p => s.setPlane n p {}) u else u

theorem Stack.planesFreed_onlyChanges (u : Stack) (n : Nat) : u.OnlyChanges [.pages] [] (u.planesFreed n) := by
  unfold Stack.planesFreed
  split
  · exact foldl_onlyChanges (fun s p => s.pages_onlyChanges _ (by simp)) _ _
  · exact Stack.OnlyChanges.refl _ _ _

theorem Stack.planesFreed_plane (u : Stack) {n p : Nat} (hr : (u.sect n).root = true) (hp : p < 4) : (u.planesFreed n).plane n p = {} := by
  unfold Stack.planesFreed
  rw [if_pos hr]
  simp only [List.foldl, Stack.plane, Stack.setPlane, mapGet_mapSet]
  obtain rfl | rfl | rfl | rfl : p = 0 ∨ p = 1 ∨ p = 2 ∨ p = 3 := by omega
  all_goals simp

/-- The slots of some tiles lose VALID (R170). -/
def Stack.slotsCleared (u : Stack) (ts : List Tile) : Stack := { u with fabric := u.fabric.clearSlots ts }

theorem Stack.slotsCleared_onlyChanges (u : Stack) (ts : List Tile) : u.OnlyChanges [.fabric] [] (u.slotsCleared ts) := by
  unfold Stack.slotsCleared
  exact u.fabric_onlyChanges _ (by simp)

/-- A discard before the detours and the domains are brought up to date: the planes, the slots and the sections (R170). -/
def Stack.discarded (u : Stack) (n : Nat) : Stack :=
  ((u.planesFreed n).slotsCleared (u.sect n).tiles).modSects (u.family n) Section.emptied

theorem Stack.discardFreed_frame (u : Stack) (n : Nat) :
    u.OnlyChanges [.pages, .fabric] [] ((u.planesFreed n).slotsCleared (u.sect n).tiles) :=
  ((u.planesFreed_onlyChanges n).mono (by simp) (by simp)).trans ((Stack.slotsCleared_onlyChanges _ _).mono (by simp) (by simp))

theorem Stack.discard_eq (u : Stack) (n : Nat) : u.discard n = ((u.discarded n).syncDetours).refreshDoms := by
  unfold Stack.discarded
  rw [← Stack.family_of_sections ((u.discardFreed_frame n).part (p := .sections) (by simp)) n]
  rfl

theorem Stack.discarded_onlyChanges (u : Stack) (n : Nat) : u.OnlyChanges [.sections, .pages, .fabric] [] (u.discarded n) :=
  ((u.discardFreed_frame n).mono (by simp) (by simp)).trans ((modSects_only (F := []) _ _ _).mono (by simp) (by simp))

theorem Stack.discarded_sect (u : Stack) (n m : Nat) :
    (u.discarded n).sect m = if m ∈ u.family n then (u.sect m).emptied else u.sect m := by
  have hsect := Stack.sect_of_sections ((u.discardFreed_frame n).part (p := .sections) (by simp)) m
  unfold Stack.discarded
  split
  · rw [modSects_idem _ (f := Section.emptied) (fun _ => rfl) ‹_›, hsect]
  · rw [modSects_not_mem _ _ ‹_›, hsect]

theorem Stack.discarded_plane (u : Stack) {n p : Nat} (hr : (u.sect n).root = true) (hp : p < 4) : (u.discarded n).plane n p = {} := by
  have hpages : (u.discarded n).pages = (u.planesFreed n).pages :=
    ((modSects_only (F := []) _ (u.family n) Section.emptied).part (p := .pages) (by simp)).trans
      ((Stack.slotsCleared_onlyChanges _ _).part (p := .pages) (by simp))
  unfold Stack.plane
  rw [hpages]
  exact u.planesFreed_plane hr hp

/-- The domains brought up to date are those of a section's own, so it keeps the rest (R613). -/
theorem Stack.refreshDoms_keeps (u : Stack) (m : Nat) : u.refreshDoms.sect m = { u.sect m with doms := (u.refreshDoms.sect m).doms } := by
  rcases (u.refreshDoms_sect m).1 with h | h <;> rw [h]
  rfl

/-- A section that is not configured and exists uses no domain (R613). -/
theorem Stack.refreshDoms_empty {u : Stack} {m : Nat} (h : (u.sect m).state = .empty) : u.refreshDoms.sect m = { u.sect m with doms := [] } := by
  rw [(u.refreshDoms_sect m).2 (Stack.mem_sectionNumbers (by rw [h]; decide))]
  simp [Stack.domsOf, Section.configured, h]

/-- What DISCARD leaves (R170, R177). -/
theorem Stack.cmdDiscard_does {u : Stack} {i n : Nat} (h : u.takesCommand i n) (hs : (u.sect n).state ∈ [SectState.asleep, .held, .torn])
    (hf : ∀ m ∈ u.family n, (u.sect m).state ∈ [SectState.asleep, .held, .torn, .empty]) :
    u.OnlyChanges [.sections, .pages, .fabric, .integ, .ledger] [SECT.CMD_SECTION i, SECT.CMD_OP i, SECT.CMD_STATUS_RESULT i]
        (u.cmdDiscard i n) ∧
      (∀ m ∈ u.family n, ((u.cmdDiscard i n).sect m).state = .empty ∧ ((u.cmdDiscard i n).sect m).doms = [] ∧
        ((u.cmdDiscard i n).sect m).detour = Option.none) ∧
      (∀ m, m ∉ u.family n → (u.cmdDiscard i n).sect m = { u.sect m with doms := ((u.cmdDiscard i n).sect m).doms }) ∧
      ((u.sect n).root = true → ∀ p < 4, (u.cmdDiscard i n).plane n p = {}) := by
  have hrun : u.cmdDiscard i n = (u.cmdFields i n 7).discard n :=
    u.sectCmd_taken h (by
      rw [Bool.and_eq_true, List.all_eq_true]
      exact ⟨List.contains_iff_mem.2 hs, fun m hm => List.contains_iff_mem.2 (hf m hm)⟩)
  have hfields := u.cmdFields_onlyChanges (P := [.sections, .pages, .fabric, .integ, .ledger]) (F := [SECT.CMD_SECTION i, SECT.CMD_OP i,
    SECT.CMD_STATUS_RESULT i]) i n 7 (by simp) (by simp) (by simp)
  have hdiscarded := (u.cmdFields i n 7).discarded_onlyChanges n
  have hsect := fun m => (u.cmdFields i n 7).discarded_sect n m
  simp only [Stack.family_cmdFields, Stack.sect_cmdFields] at hsect
  have hplanes : (u.sect n).root = true → ∀ p < 4, ((u.cmdFields i n 7).discarded n).plane n p = {} := fun hr p hp =>
    (u.cmdFields i n 7).discarded_plane hr hp
  rw [hrun, Stack.discard_eq]
  generalize (u.cmdFields i n 7).discarded n = v at *
  have hsync := v.syncDetours_onlyChanges (P := [.integ, .ledger]) (F := []) (by simp) (by simp)
  have hdoms := v.syncDetours.refreshDoms_onlyChanges (P := [.sections]) (F := []) (by simp)
  have hsynced : ∀ m, v.syncDetours.sect m = if m ∈ u.family n then (u.sect m).emptied else u.sect m := fun m => by
    rw [Stack.sect_of_sections (hsync.part (p := .sections) (by simp)), hsect]
  refine ⟨((hfields.trans (hdiscarded.mono (by simp) (by simp))).trans (hsync.mono (by simp) (by simp))).trans (hdoms.mono (by simp) (by simp)),
    fun m hm => ?_, fun m hm => ?_, fun hr p hp => ?_⟩
  · have hm' := (hsynced m).trans (if_pos hm)
    rw [Stack.refreshDoms_empty (by rw [hm']; rfl), hm']
    exact ⟨rfl, rfl, rfl⟩
  · have hm' := (hsynced m).trans (if_neg hm)
    rw [← hm']
    exact v.syncDetours.refreshDoms_keeps m
  · have hpages : v.syncDetours.refreshDoms.pages = v.pages :=
      (hdoms.part (p := .pages) (by simp)).trans (hsync.part (p := .pages) (by simp))
    unfold Stack.plane at hplanes ⊢
    rw [hpages]
    exact hplanes hr p hp

/-- Sections that cease to exist (R170). -/
def Section.gone (_ : Section) : Section := {}

/-- What REMOVE leaves (R170, R177). -/
theorem Stack.cmdRemove_does {u : Stack} {i n : Nat} (h : u.takesCommand i n) (hf : ∀ m ∈ u.family n, (u.sect m).state = .empty) :
    u.OnlyChanges [.sections] [SECT.CMD_SECTION i, SECT.CMD_OP i, SECT.CMD_STATUS_RESULT i] (u.cmdRemove i n) ∧
      (∀ m ∈ u.family n, (u.cmdRemove i n).sect m = {}) ∧
      (∀ m, m ∉ u.family n → (u.cmdRemove i n).sect m = { u.sect m with doms := ((u.cmdRemove i n).sect m).doms }) := by
  have hrun : u.cmdRemove i n = ((u.cmdFields i n 8).modSects (u.family n) Section.gone).refreshDoms := by
    refine (u.sectCmd_taken h (by simpa [Stack.stateIn] using hf)).trans ?_
    rw [← u.family_cmdFields i n 8 n]
    rfl
  have hgone : ∀ m ∈ u.family n, ((u.cmdFields i n 8).modSects (u.family n) Section.gone).sect m = {} := fun m hm =>
    modSects_mem _ (Q := fun x => x = {}) hm fun _ => rfl
  have hother : ∀ m, m ∉ u.family n → ((u.cmdFields i n 8).modSects (u.family n) Section.gone).sect m = u.sect m := fun m hm =>
    modSects_not_mem (u.cmdFields i n 8) _ hm
  have hsects := modSects_only (F := []) (u.cmdFields i n 8) (u.family n) Section.gone
  rw [hrun]
  generalize (u.cmdFields i n 8).modSects (u.family n) Section.gone = v at *
  refine ⟨((u.cmdFields_onlyChanges i n 8 (by simp) (by simp) (by simp)).trans (hsects.mono (by simp) (by simp))).trans
    (v.refreshDoms_onlyChanges (by simp)), fun m hm => ?_, fun m hm => ?_⟩
  · rcases (v.refreshDoms_sect m).1 with hd | hd
    · rw [hd, hgone m hm]
    · rw [hd, Stack.domsOf, hgone m hm]
      rfl
  · rw [← hother m hm]
    exact v.refreshDoms_keeps m

end Sys2Proof.Machine
end

section
/-! The statement of SECT.CMD's commands. -/

namespace Sys2Proof.Machine

/-- Settles O13: each command that is taken is the effect above on its stack; a wake reaches no other stack, since no mode and no recovery
changes. -/
theorem sectionCommandsComplete : Obligations.SectionCommandsComplete := by
  refine ⟨fun s k i n op hk h => ?_, fun s k i n hk hn h hl hq => ?_, fun s k i n hk hn h ha hx => ?_, fun s k i n hk h hs => ?_,
    fun s k n hk hr hc => ?_, fun s k i n hk h hs => ?_, fun s k i n hk h hs => ?_, fun s k i n hk h hs hf => ?_, fun s k i n hk h hf => ?_⟩
  · have hrun : (s.stack k).cmdNone i n op = (s.stack k).cmdFields i n op := (s.stack k).sectCmd_taken h rfl
    refine completes_of_onStack (f := Stack.cmdNone i n op) hk rfl ?_ ?_ <;> rw [hrun]
    · exact Stack.cmdFields_onlyChanges _ i n op (by simp) (by simp) (by simp)
    · exact Stack.cmdFields_get _ i n op
  · obtain ⟨hframe, hpost⟩ := Stack.cmdSleep_does hn h hl hq
    exact completes_of_onStack hk rfl hframe hpost
  · obtain ⟨hframe, hpost⟩ := Stack.cmdWake_does hn h ha hx
    have hquiet := s.onStackFault_quiet hk (hframe.part (p := .mode) (by simp)) (congrArg Sys.recoveries (hframe.part (p := .sys) (by simp)))
    exact completes_of_onStack hk (congrArg Host.Outcome.next hquiet) hframe hpost
  · obtain ⟨hframe, hpost⟩ := Stack.cmdResetPulse_does h hs
    exact completes_of_onStack hk rfl hframe hpost
  · obtain ⟨hframe, hpost⟩ := Stack.resetPulseEnd_does hr hc
    exact completes_of_onStack hk rfl hframe hpost
  · obtain ⟨hframe, hpost⟩ := Stack.cmdHold_does h hs
    exact completes_of_onStack hk rfl hframe hpost
  · obtain ⟨hframe, hpost⟩ := Stack.cmdClearHold_does h hs
    exact completes_of_onStack hk rfl hframe hpost
  · obtain ⟨hframe, hpost⟩ := Stack.cmdDiscard_does h hs hf
    exact completes_of_onStack hk rfl hframe hpost
  · obtain ⟨hframe, hpost⟩ := Stack.cmdRemove_does h hf
    exact completes_of_onStack hk rfl hframe hpost

end Sys2Proof.Machine
end

section
/-! SUPPORT. Filter-engine instructions that use memories, address registers, ports and special registers: what a program sees when one has run
through (R261, R262, R286, R291, R293 to R297, R299). -/

namespace Sys2Proof.Machine

variable {i n : Nat}

/-! ## The engines of a stack -/

/-- Of the engines of `t`, number n of layer i is `e`, and every other one is that of `s`. -/
structure Stack.EngineIs (s : Stack) (i n : Nat) (e : Engine) (t : Stack) : Prop where
  self : t.engine i n = e
  others : ∀ j m, 192 * j + m ≠ 192 * i + n → t.engine j m = s.engine j m

namespace Stack.EngineIs

variable {s t t' : Stack} {e : Engine}

theorem refl (s : Stack) : s.EngineIs i n (s.engine i n) s := ⟨rfl, fun _ _ _ => rfl⟩

theorem modEngine (h : s.EngineIs i n e t) (f : Engine → Engine) : s.EngineIs i n (f e) (t.modEngine i n f) :=
  ⟨(Stack.engine_setEngine _ _ _ _).trans (congrArg f h.self), fun j m hj => (Stack.engine_setEngine_ne _ _ hj).trans (h.others j m hj)⟩

theorem modFeBank (h : s.EngineIs i n e t) (sh : Bool) (f : FeBank → FeBank) : s.EngineIs i n (e.modBank sh f) (t.modFeBank i n sh f) :=
  h.modEngine fun e => e.modBank sh f

/-- An effect that leaves the engines alone. -/
theorem of_engines (h : s.EngineIs i n e t) (ht : t'.engines = t.engines) : s.EngineIs i n e t' :=
  ⟨(Stack.engine_of_engines ht i n).trans h.self, fun j m hj => (Stack.engine_of_engines ht j m).trans (h.others j m hj)⟩

end Stack.EngineIs

theorem Engine.modBank_modBank (e : Engine) (sh : Bool) (f g : FeBank → FeBank) :
    (e.modBank sh f).modBank sh g = e.modBank sh fun b => g (f b) := by
  cases sh <;> rfl

theorem Engine.interrupts_modBank (e : Engine) (sh : Bool) (f : FeBank → FeBank) : (e.modBank sh f).interrupts = e.interrupts := by
  cases sh <;> rfl

/-- No interrupt is taken in the shadow bank, nor with the global enable 0 (R267). -/
theorem Engine.interrupts_masked {e : Engine} (h : e.shadow = true ∨ bit e.ie 0 = false) : e.interrupts = false := by
  unfold Engine.interrupts
  rcases h with h | h <;> simp [h]

/-! ## Memory writes of stage W -/

section
variable {P : List Part} {F : List Field}

/-- The fields that a checker of an engine's memory counts in (R370). -/
abbrev feErrors : List Field := [CODE.UE_CNT_COUNT 4, CODE.CE_CNT_COUNT 4, CODE.INT_UE, CODE.LOG_STATUS_DROPPED]

theorem Stack.narrowMark_onlyChanges (s : Stack) (loc : Nat) (hh : .health ∈ P) (hi : .integ ∈ P) (hF : ∀ f ∈ feErrors, f ∈ F) :
    s.OnlyChanges P F (s.narrowMark loc) :=
  (s.meetCodeword_onlyChanges _ _ _ hi hh (hF _ (by simp)) (hF _ (by simp)) (hF _ (by simp)) (hF _ (by simp))).trans
    (Stack.setMark_onlyChanges _ _ _ hh)

theorem Stack.writeElem_onlyChanges (s : Stack) (mem a v : Nat) (hm : .mem ∈ P) (hh : .health ∈ P) (hi : .integ ∈ P)
    (hF : ∀ f ∈ feErrors, f ∈ F) : s.OnlyChanges P F (s.writeElem i n mem a v) :=
  (s.writeBytes_onlyChanges _ _ hm).trans (Stack.narrowMark_onlyChanges _ _ hh hi hF)

theorem Stack.writeQuad_onlyChanges (s : Stack) (mem a : Nat) (q : List Nat) (hm : .mem ∈ P) (hh : .health ∈ P) (hi : .integ ∈ P)
    (hF : ∀ f ∈ feErrors, f ∈ F) : s.OnlyChanges P F (s.writeQuad i n mem a q) :=
  ((((s.writeBytes_onlyChanges _ _ hm).trans (Stack.writeBytes_onlyChanges _ _ _ hm)).trans (Stack.writeBytes_onlyChanges _ _ _ hm)).trans
    (Stack.writeBytes_onlyChanges _ _ _ hm)).trans (Stack.narrowMark_onlyChanges _ _ hh hi hF)

end

theorem Stack.writeElem_engines (s : Stack) (mem a v : Nat) : (s.writeElem i n mem a v).engines = s.engines :=
  (Stack.narrowMark_engines _ _).1

theorem Stack.writeQuad_engines (s : Stack) (mem a : Nat) (q : List Nat) : (s.writeQuad i n mem a q).engines = s.engines :=
  (Stack.narrowMark_engines _ _).1

/-- A quad that is stored depends on the memories alone. -/
theorem Stack.QuadStored.of_mem {s s' t t' : Stack} {mem a : Nat} {q : List Nat} (h : s.QuadStored i n mem a q t) (hs : s'.mem = s.mem)
    (ht : t'.mem = t.mem) : s'.QuadStored i n mem a q t' :=
  ⟨fun k hk => (Stack.readElem_mem ht _ _).trans (h.1 k hk),
    fun p hp => ((Stack.readByte_mem ht p).trans (h.2 p hp)).trans (Stack.readByte_mem hs p).symm⟩

/-- An element that is stored depends on the memories alone. -/
theorem Stack.ElemStored.of_mem {s s' t t' : Stack} {mem a v : Nat} (h : s.ElemStored i n mem a v t) (hs : s'.mem = s.mem)
    (ht : t'.mem = t.mem) : s'.ElemStored i n mem a v t' :=
  ⟨(Stack.readElem_mem ht _ _).trans h.1,
    fun p h1 h2 => ((Stack.readByte_mem ht p).trans (h.2 p h1 h2)).trans (Stack.readByte_mem hs p).symm⟩

/-! ## What stage O reads -/

/-- What stage D does to the live bank (R299). -/
def Stack.decoded (s : Stack) (i n : Nat) (op : FeOp) : Stack :=
  s.modFeBank i n (s.engine i n).shadow fun b => b.decodeStage s.freeNat op

/-- What an instruction makes of its stack when it runs through with nothing beside it: stages D, O and W. -/
def Stack.ranThrough (s : Stack) (i n : Nat) (op : FeOp) : Stack :=
  let sh := (s.engine i n).shadow
  ((s.decoded i n op).feTake i n sh (((s.engine i n).bank sh).slotOf op)).feWrite i n sh (s.operandsRead i n op)

theorem Stack.decoded_engineIs (s : Stack) (op : FeOp) :
    s.EngineIs i n ((s.engine i n).modBank (s.engine i n).shadow fun b => b.decodeStage s.freeNat op) (s.decoded i n op) :=
  (Stack.EngineIs.refl s).modFeBank _ _

/-- Modification after use leaves what stage O reads of the bank. -/
theorem FeBank.afterUse_seen (b : FeBank) (free mem k : Nat) (u : Bool) :
    (b.afterUse free mem k u).g = b.g ∧ (b.afterUse free mem k u).acc = b.acc := by
  unfold FeBank.afterUse
  split <;> exact ⟨rfl, rfl⟩

theorem FeBank.decodeStage_seen_g (b : FeBank) (free : Nat) (op : FeOp) :
    (b.decodeStage free op).g = b.g ∧ (b.decodeStage free op).acc = b.acc := by
  have two : ∀ m1 k1 u1 m2 k2 u2, ((b.afterUse free m1 k1 u1).afterUse free m2 k2 u2).g = b.g ∧
      ((b.afterUse free m1 k1 u1).afterUse free m2 k2 u2).acc = b.acc := fun m1 k1 u1 m2 k2 u2 =>
    ⟨(FeBank.afterUse_seen _ _ _ _ _).1.trans (FeBank.afterUse_seen _ _ _ _ _).1,
      (FeBank.afterUse_seen _ _ _ _ _).2.trans (FeBank.afterUse_seen _ _ _ _ _).2⟩
  cases op
  case pushq | sendq | staq | ld | st | ldq | stq => exact b.afterUse_seen _ _ _ _
  case tap | macq | mace => exact two _ _ _ _ _ _
  all_goals exact ⟨rfl, rfl⟩

/-- Stage D of an instruction changes nothing that its own stage O reads (R263). -/
theorem Stack.feOperands_decoded (s : Stack) (sh : Bool) (x : FeSlot) (hsh : (s.engine i n).shadow = sh) :
    (s.decoded i n x.op).feOperands i n sh x = s.feOperands i n sh x := by
  have hb : ((s.decoded i n x.op).engine i n).bank sh = ((s.engine i n).bank sh).decodeStage s.freeNat x.op := by
    rw [(s.decoded_engineIs x.op).self, hsh, Engine.bank_modBank]
  have hf : ((s.decoded i n x.op).engine i n).fifo = (s.engine i n).fifo := by
    rw [(s.decoded_engineIs x.op).self]
    cases (s.engine i n).shadow <;> rfl
  have hq : ∀ m a, (s.decoded i n x.op).readQuad i n m a = s.readQuad i n m a := fun _ _ => rfl
  have he : ∀ m a, (s.decoded i n x.op).readElem i n m a = s.readElem i n m a := fun _ _ => rfl
  obtain ⟨hg, ha⟩ := ((s.engine i n).bank sh).decodeStage_seen_g s.freeNat x.op
  have hacc : (((s.engine i n).bank sh).decodeStage s.freeNat x.op).getAcc = ((s.engine i n).bank sh).getAcc :=
    congrArg (fun m h => mapGet 0 m h) ha
  have hspr : ∀ d k, x.op = .mfs d k → (s.decoded i n x.op).feSpr i n sh k = s.feSpr i n sh k := by
    intro d k hop
    have hs : s.decoded i n x.op = s.setEngine i n (s.engine i n) := by
      unfold Stack.decoded
      rw [hop]
      unfold Stack.modFeBank Stack.modEngine Engine.modBank
      cases (s.engine i n).shadow <;> rfl
    have : (s.setEngine i n (s.engine i n)).engine i n = s.engine i n := Stack.engine_setEngine _ _ _ _
    unfold Stack.feSpr
    rw [hs, this]
  unfold Stack.feOperands
  split
  case h_1 d k hop => rw [hspr d k hop]
  all_goals simp only [hb, hf, hq, he, hacc, FeBank.getG, FeBank.pair, hg]

/-! ## From the pipeline to the package -/

/-- A plain instruction runs through on the package when it is legal, meets no bad codeword and waits on no port: a program then sees what its
stages D, O and W make of the stack. -/
theorem feRuns_plain {c : Instr} {s : State} {k : Side} {op : FeOp} {P : List Part} {F : List Field} {eff : Engine → Engine} {post : Stack → Prop}
    {E : Engine} (hk : s.hasSide k = true) (hr : (s.stack k).feReady i n) (hc : exec c s = .next (s.onStack k (Stack.feIssue i n op)))
    (hop : op.plain = true) (hl : op.legal = true)
    (hv : op.readsLevels = false ∨ (((s.stack k).engine i n).bank ((s.stack k).engine i n).shadow).levels = [])
    (hclean : ∀ r ∈ ((((s.stack k).engine i n).bank ((s.stack k).engine i n).shadow).slotOf op).reads, (s.stack k).feClean i n r.1 r.2)
    (hin : ((s.stack k).engine i n).inBlocked (some ((((s.stack k).engine i n).bank ((s.stack k).engine i n).shadow).slotOf op)) = false)
    (hout : ((((s.stack k).decoded i n op).feTake i n ((s.stack k).engine i n).shadow
      ((((s.stack k).engine i n).bank ((s.stack k).engine i n).shadow).slotOf op)).engine i n).outBlocked
        (some ((s.stack k).operandsRead i n op)) = false)
    (hcalm : ((((s.stack k).decoded i n op).feTake i n ((s.stack k).engine i n).shadow
      ((((s.stack k).engine i n).bank ((s.stack k).engine i n).shadow).slotOf op)).engine i n).interrupts = false)
    (he : (s.stack k).EngineIs i n E ((s.stack k).ranThrough i n op))
    (hz : (s.stack k).OnlyChanges (.engines :: .freeCount :: P) F ((s.stack k).ranThrough i n op))
    (hE : E.visible = (eff ((s.stack k).engine i n)).visible)
    (hpost : ∀ t : Stack, t.mem = ((s.stack k).ranThrough i n op).mem → t.regs = ((s.stack k).ranThrough i n op).regs → post t) :
    FeRuns c s k i n P F eff post := by
  generalize hx : (((s.stack k).engine i n).bank ((s.stack k).engine i n).shadow).slotOf op = x at *
  have hxo : x.op = op := by rw [← hx]; exact FeBank.slotOf_op _ _
  have hy : ((s.stack k).decoded i n op).feOperands i n ((s.stack k).engine i n).shadow x = (s.stack k).operandsRead i n op := by
    have hs : (s.stack k).operandsRead i n op = (s.stack k).feOperands i n ((s.stack k).engine i n).shadow x := by rw [← hx]; rfl
    rw [hs, ← hxo]
    exact Stack.feOperands_decoded _ _ _ rfl
  have hruns := Stack.fe_runs hr hop hl (sh := ((s.stack k).engine i n).shadow) rfl hx.symm (u := (s.stack k).decoded i n op) rfl rfl hv hclean hin
    (by rw [hy]; exact hout) hcalm
  rw [hy] at hruns
  have hran : (s.stack k).ranThrough i n op = (((s.stack k).decoded i n op).feTake i n ((s.stack k).engine i n).shadow x).feWrite i n
      ((s.stack k).engine i n).shadow ((s.stack k).operandsRead i n op) := by rw [← hx]; rfl
  rw [← hran] at hruns
  exact feRuns_of_twin hk hc hruns hz he.others (by rw [he.self]; exact hE) fun t ht => hpost t ht.mem ht.regs

/-- An instruction that takes nothing in stage O and writes its bank alone runs through, and makes of the live bank what its stages D and W
write there. -/
theorem feRuns_bank {c : Instr} {s : State} {k : Side} {op : FeOp} {f : FeBank → FeBank} (hk : s.hasSide k = true)
    (hr : (s.stack k).feReady i n) (hc : exec c s = .next (s.onStack k (Stack.feIssue i n op))) (hop : op.plain = true) (hl : op.legal = true)
    (hv : op.readsLevels = false ∨ (((s.stack k).engine i n).bank ((s.stack k).engine i n).shadow).levels = [])
    (hclean : ∀ r ∈ ((((s.stack k).engine i n).bank ((s.stack k).engine i n).shadow).slotOf op).reads, (s.stack k).feClean i n r.1 r.2)
    (hin : ((s.stack k).engine i n).inBlocked (some ((((s.stack k).engine i n).bank ((s.stack k).engine i n).shadow).slotOf op)) = false)
    (hout : op.outPort = Option.none)
    (htake : ∀ x : FeSlot, x.op = op → ((s.stack k).decoded i n op).feTake i n ((s.stack k).engine i n).shadow x = (s.stack k).decoded i n op)
    (hran : (s.stack k).ranThrough i n op = ((s.stack k).decoded i n op).modFeBank i n ((s.stack k).engine i n).shadow fun b =>
      b.writeBack ((s.stack k).operandsRead i n op))
    (hop' : ((s.stack k).operandsRead i n op).op = op)
    (hf : (((((s.stack k).engine i n).bank ((s.stack k).engine i n).shadow).decodeStage (s.stack k).freeNat op).writeBack
      ((s.stack k).operandsRead i n op)) = f (((s.stack k).engine i n).bank ((s.stack k).engine i n).shadow)) :
    FeRuns c s k i n [] [] (Engine.live f) fun _ => True := by
  have hcalm : (((s.stack k).decoded i n op).engine i n).interrupts = false := by
    rw [((s.stack k).decoded_engineIs op).self, Engine.interrupts_modBank]
    exact hr.2.2.2.1
  refine feRuns_plain hk hr hc hop hl hv hclean hin ?_ ?_
    (by rw [hran]; exact ((s.stack k).decoded_engineIs op).modFeBank _ _)
    (by rw [hran]; exact ((s.stack k).re_onlyChanges _ _).trans (Stack.re_onlyChanges _ _ _)) ?_ fun _ _ _ => trivial
  · unfold Engine.outBlocked
    rw [Option.bind_some, hop', hout]
  · rw [htake _ (FeBank.slotOf_op _ _)]
    exact hcalm
  · rw [Engine.modBank_modBank]
    exact congrArg Engine.visible (Engine.live_congr hf)

/-- An instruction whose stage W writes its bank and then memory runs through; `z` is what its stages D and O leave, which differs in the engine
alone. -/
theorem feRuns_store {c : Instr} {s : State} {k : Side} {op : FeOp} {eff : Engine → Engine} {post : Stack → Prop} {W : Stack → Stack}
    {z : Stack} {E : Engine} (hk : s.hasSide k = true) (hr : (s.stack k).feReady i n)
    (hc : exec c s = .next (s.onStack k (Stack.feIssue i n op))) (hop : op.plain = true) (hl : op.legal = true) (hv : op.readsLevels = false)
    (hreads : ((((s.stack k).engine i n).bank ((s.stack k).engine i n).shadow).slotOf op).reads = [])
    (hin : ((s.stack k).engine i n).inBlocked (some ((((s.stack k).engine i n).bank ((s.stack k).engine i n).shadow).slotOf op)) = false)
    (hout : op.outPort = Option.none) (hop' : ((s.stack k).operandsRead i n op).op = op)
    (htake : ((s.stack k).decoded i n op).feTake i n ((s.stack k).engine i n).shadow
      ((((s.stack k).engine i n).bank ((s.stack k).engine i n).shadow).slotOf op) = z)
    (hz : (s.stack k).OnlyChanges [.engines, .freeCount] [] z) (hzE : (s.stack k).EngineIs i n E z) (hcalm : E.interrupts = false)
    (hran : (s.stack k).ranThrough i n op = W (z.modFeBank i n ((s.stack k).engine i n).shadow fun b => b.writeBack ((s.stack k).operandsRead i n op)))
    (hWe : ∀ u, (W u).engines = u.engines) (hWo : ∀ u : Stack, u.OnlyChanges [.engines, .freeCount, .mem, .health, .integ] feErrors (W u))
    (hE : (E.modBank ((s.stack k).engine i n).shadow fun b => b.writeBack ((s.stack k).operandsRead i n op)).visible =
      (eff ((s.stack k).engine i n)).visible)
    (hpost : ∀ u t : Stack, u.mem = (s.stack k).mem → t.mem = (W u).mem → post t) :
    FeRuns c s k i n [.mem, .health, .integ] feErrors eff post := by
  refine feRuns_plain hk hr hc hop hl (.inl hv) (by simp [hreads]) hin ?_ (by rw [htake, hzE.self]; exact hcalm)
    (by rw [hran]; exact (hzE.modFeBank _ _).of_engines (hWe _)) ?_ hE fun t ht _ => hpost _ t ?_ (by rw [ht, hran])
  · unfold Engine.outBlocked
    rw [Option.bind_some, hop', hout]
  · rw [hran]
    exact ((hz.mono (by simp) (by simp)).trans (Stack.re_onlyChanges _ _ _)).trans (hWo _)
  · exact hz.part (p := .mem) (by simp)

/-! ## What stage W writes into the bank -/

/-- Accumulators changed by functions that agree on them. -/
theorem FeBank.accEach_congr (b : FeBank) {hs : List Nat} {f g : Nat → Nat → Nat × Bool} (h : ∀ l ∈ hs, ∀ a, f l a = g l a) :
    b.accEach hs f = b.accEach hs g := by
  unfold FeBank.accEach
  refine List.foldl_ext _ _ _ fun c l hl => ?_
  rw [h l hl]

/-- The lanes of one quad read before another. -/
theorem getD_lanes {p q : List Nat} (f g : Nat → Nat) (hp : p = (List.range 4).map f) (hq : q = (List.range 4).map g) {h : Nat}
    (hh : h ∈ [0, 1, 2, 3]) : (p ++ q).getD h 0 = f h ∧ (p ++ q).getD (4 + h) 0 = g h := by
  subst hp hq
  simp only [List.mem_cons, List.not_mem_nil, or_false] at hh
  rcases hh with rfl | rfl | rfl | rfl <;> exact ⟨rfl, rfl⟩

/-- MACQ adds the products of the two quads that stage O read (R296). -/
theorem FeBank.writeBack_macq (b : FeBank) {x : FeSlot} {xa ya : Nat} {ux uy neg sx sy clr : Bool} {f g : Nat → Nat}
    (hx : x.op = .macq xa ya ux uy neg sx sy clr) (hv : ∀ h ∈ [0, 1, 2, 3], x.vals.getD h 0 = f h ∧ x.vals.getD (4 + h) 0 = g h) :
    b.writeBack x = b.accEach [0, 1, 2, 3] fun h a => accumulate a (operand14 (f h) sx) (operand14 (g h) sy) neg clr := by
  unfold FeBank.writeBack
  rw [hx]
  exact b.accEach_congr fun h hh a => by dsimp only; rw [(hv h hh).1, (hv h hh).2]

/-- TAP adds the products of the delay line and the coefficients that stage O read (R297). -/
theorem FeBank.writeBack_tap (b : FeBank) {x : FeSlot} {ya ca : Nat} {uy uc mv neg cq sy sc clr : Bool} {f g : Nat → Nat}
    (hx : x.op = .tap ya ca uy uc mv neg cq sy sc clr) (hv : ∀ h ∈ [0, 1, 2, 3], x.vals.getD h 0 = f h ∧ x.vals.getD (4 + h) 0 = g h) :
    b.writeBack x = b.accEach [0, 1, 2, 3] fun h a => accumulate a (operand14 (f h) sy) (operand14 (g h) sc) neg clr := by
  unfold FeBank.writeBack
  rw [hx]
  exact b.accEach_congr fun h hh a => by dsimp only; rw [(hv h hh).1, (hv h hh).2]

/-- The four lanes of TAP's delay line, then of its coefficients. -/
theorem Stack.operandsRead_tap (s : Stack) (i n ya ca : Nat) (uy uc mv neg cq sy sc clr : Bool) :
    let b := (s.engine i n).bank (s.engine i n).shadow
    let x := s.operandsRead i n (.tap ya ca uy uc mv neg cq sy sc clr)
    let d := if mv then b.pair 6 else s.readQuad i n 1 (b.getA ya)
    let c := fun h => if cq then s.readElem i n 2 (4 * (b.getA ca / 4) + h) else s.readElem i n 2 (b.getA ca)
    ∀ h ∈ [0, 1, 2, 3], x.vals.getD h 0 = d.getD h 0 ∧ x.vals.getD (4 + h) 0 = c h := by
  intro b x d c h hh
  simp only [List.mem_cons, List.not_mem_nil, or_false] at hh
  rcases hh with rfl | rfl | rfl | rfl <;> cases mv <;> cases cq <;> exact ⟨rfl, rfl⟩

/-- SUMA's sum, written out. -/
theorem FeBank.writeBack_suma (b : FeBank) {x : FeSlot} {acc : Nat} (hx : x.op = .suma acc) :
    b.writeBack x =
      let r := clamp48 (signed (b.getAcc 0) 48 + signed (b.getAcc 1) 48 + signed (b.getAcc 2) 48 + signed (b.getAcc 3) 48)
      { b.setAcc acc r.1 with flags := sticky b.flags flagAV r.2 } := by
  unfold FeBank.writeBack
  rw [hx]
  simp only [List.foldl, zero_add]

/-- Modification after use leaves the flags. -/
theorem FeBank.afterUse_flags (b : FeBank) (free mem k : Nat) (u : Bool) : (b.afterUse free mem k u).flags = b.flags := by
  unfold FeBank.afterUse
  split <;> rfl

/-- The accumulators that stage O read, narrowed (R293). -/
theorem narrowQuad_accs (f : Nat → Nat) (m : Nat) (uns : Bool) :
    narrowQuad ([0, 1, 2, 3].map f) m uns =
      (([0, 1, 2, 3].map fun h => narrowAcc (f h) m uns).map (fun r => r.1), ([0, 1, 2, 3].map fun h => narrowAcc (f h) m uns).any fun r => r.2) :=
  rfl

/-- What the narrowed accumulators leave of the live bank: OS on a clamp, and with CLR no accumulator (R293, R296). -/
theorem FeBank.writeBack_staq (b : FeBank) {x : FeSlot} {mem a m : Nat} {v uns clr : Bool} {f : Nat → Nat} {fl : Nat}
    (hx : x.op = .staq mem a v m uns clr) (hv : x.vals = [0, 1, 2, 3].map f) (hfl : b.flags = fl) :
    b.writeBack x =
      let c := { b with flags := sticky fl flagOS (([0, 1, 2, 3].map fun h => narrowAcc (f h) m uns).any fun r => r.2) }
      if clr then c.accClear [0, 1, 2, 3] else c := by
  unfold FeBank.writeBack
  rw [hx, hv, ← hfl]
  dsimp only
  rw [narrowQuad_accs]

end Sys2Proof.Machine
end

section
/-! The statement of the engines' accumulators. -/

namespace Sys2Proof.Machine

/-- Settles O17: every instruction but STAQ leaves what its stages D and W make of the live bank; STAQ stores a quad beside. -/
theorem engineAccumulatorInstructionsComplete : Obligations.EngineAccumulatorInstructionsComplete := by
  intro s k i n sh hk hr hsh u b runs
  subst hsh
  refine ⟨?_, ?_, ?_, ?_, ?_, ?_, ?_, ?_⟩
  · intro xa ya ux uy neg sx sy clr hx hy
    refine feRuns_bank (op := .macq xa ya ux uy neg sx sy clr) hk hr rfl rfl rfl (.inl rfl) ?_ rfl rfl ?_ rfl rfl
      (FeBank.writeBack_macq _ rfl fun h hh => getD_lanes _ _ rfl rfl hh)
    · intro r hm
      rcases List.mem_pair.1 hm with rfl | rfl
      · exact hx
      · exact hy
    · rintro ⟨_⟩ rfl
      rfl
  · intro acc mem a1 ac u1 uc neg s1 sc clr hm h1 hc
    refine feRuns_bank (op := .mace acc mem a1 ac u1 uc neg s1 sc clr) hk hr rfl rfl (decide_eq_true hm) (.inl rfl) ?_ rfl rfl ?_ rfl rfl rfl
    · intro r hm
      rcases List.mem_pair.1 hm with rfl | rfl
      · exact h1
      · exact hc
    · rintro ⟨_⟩ rfl
      rfl
  · exact fun mask => feRuns_inBank hk hr rfl (.clra mask) rfl rfl
  · exact fun d acc m rnd hm => feRuns_inBank hk hr rfl (.movag d acc m rnd) (decide_eq_true hm) rfl
  · exact fun acc s1 => feRuns_inBank hk hr rfl (.movga acc s1) rfl rfl
  · exact fun mask m => feRuns_inBank hk hr rfl (.shfa mask m) rfl rfl
  · exact fun acc => feRuns_inBank hk hr rfl (.suma acc) rfl (FeBank.writeBack_suma _ rfl)
  · intro mem a m v uns clr hmem hm q
    have hq : (narrowQuad ([0, 1, 2, 3].map b.getAcc) m uns).1 = q.map fun r => r.1 := congrArg Prod.fst (narrowQuad_accs b.getAcc m uns)
    refine feRuns_store (op := .staq mem a v m uns clr)
      (W := fun t => t.writeQuad i n mem (b.getA a) (narrowQuad ([0, 1, 2, 3].map b.getAcc) m uns).1) hk hr rfl rfl
      (Bool.and_eq_true_iff.2 ⟨bne_iff_ne.2 hmem, decide_eq_true hm⟩) rfl rfl rfl rfl rfl rfl
      (Stack.re_onlyChanges _ _ _) (u.decoded_engineIs _) ?_ rfl (fun t => t.writeQuad_engines _ _ _)
      (fun t => t.writeQuad_onlyChanges _ _ _ (by simp) (by simp) (by simp) fun _ h => h) ?_
      fun t' t hs ht => hq ▸ (t'.writeQuad_stored i n mem _ _).of_mem hs.symm ht
    · rw [Engine.interrupts_modBank]
      exact hr.2.2.2.1
    · rw [Engine.modBank_modBank]
      exact congrArg Engine.visible (Engine.live_congr (FeBank.writeBack_staq _ rfl rfl (b.afterUse_flags _ _ _ _)))

end Sys2Proof.Machine
end

section
/-! The statement of the engines' address registers and memories. -/

namespace Sys2Proof.Machine

/-- What an instruction that runs through leaves, with a weaker conclusion. -/
theorem FeRuns.weaken {c : Instr} {s : State} {k : Side} {i n : Nat} {P : List Part} {F : List Field} {eff : Engine → Engine}
    {p q : Stack → Prop} (h : FeRuns c s k i n P F eff p) (hpq : ∀ t, p t → q t) : FeRuns c s k i n P F eff q := by
  obtain ⟨t1, t2, t3, t, h1, h2, h3, h4, hf, ho, he, hp⟩ := h
  exact ⟨t1, t2, t3, t, h1, h2, h3, h4, hf, ho, he, hpq _ hp⟩

/-- TAP with MV exchanges a quad of the delay line with the pair G6:G7 in stage O (R297). -/
theorem Stack.feTake_tap (s : Stack) (i n : Nat) {ya ca : Nat} {uy uc neg cq sy sc clr : Bool} :
    let b := (s.engine i n).bank (s.engine i n).shadow
    let op := FeOp.tap ya ca uy uc true neg cq sy sc clr
    (s.decoded i n op).feTake i n (s.engine i n).shadow (b.slotOf op) =
      ((s.decoded i n op).writeQuad i n 1 (b.getA ya) (b.pair 6)).modFeBank i n (s.engine i n).shadow fun b =>
        b.setPair 6 (s.readQuad i n 1 (((s.engine i n).bank (s.engine i n).shadow).getA ya)) := by
  intro b op
  have hpair : ((((s.decoded i n op).engine i n).bank (s.engine i n).shadow).pair 6) = b.pair 6 := by
    rw [(s.decoded_engineIs _).self, Engine.bank_modBank]
    unfold FeBank.pair FeBank.getG
    rw [(b.decodeStage_seen_g _ _).1]
  rw [← hpair]
  rfl

/-- Settles O18: every instruction but ST, STQ and a moving TAP leaves what its stages D and W make of the live bank; ST and STQ store in
stage W, TAP in stage O. -/
theorem engineAddressAndMemoryInstructionsComplete : Obligations.EngineAddressAndMemoryInstructionsComplete := by
  intro s k i n sh hk hr hsh u b runs errs
  subst hsh
  have hcalm : (u.engine i n).interrupts = false := hr.2.2.2.1
  refine ⟨?_, ?_, ?_, ?_, ?_, ?_, ?_, ?_, ?_, ?_⟩
  · exact fun a r => feRuns_bank (op := .seta a true r 0) hk hr rfl rfl rfl (.inl rfl) (by simp [FeSlot.reads, FeBank.slotOf]) rfl rfl
      (by rintro ⟨_⟩ rfl; rfl) rfl rfl rfl
  · exact fun a imm => feRuns_bank (op := .seta a false 0 imm) hk hr rfl rfl rfl (.inl rfl) (by simp [FeSlot.reads, FeBank.slotOf]) rfl rfl
      (by rintro ⟨_⟩ rfl; rfl) rfl rfl rfl
  · exact fun a m st => feRuns_bank (op := .setm a m st) hk hr rfl rfl rfl (.inl rfl) (by simp [FeSlot.reads, FeBank.slotOf]) rfl rfl
      (by rintro ⟨_⟩ rfl; rfl) rfl rfl rfl
  · exact fun a len => feRuns_bank (op := .setbl a len) hk hr rfl rfl rfl (.inl rfl) (by simp [FeSlot.reads, FeBank.slotOf]) rfl rfl
      (by rintro ⟨_⟩ rfl; rfl) rfl rfl rfl
  · exact fun d a => feRuns_bank (op := .movra d a) hk hr rfl rfl rfl (.inl rfl) (by simp [FeSlot.reads, FeBank.slotOf]) rfl rfl
      (by rintro ⟨_⟩ rfl; rfl) rfl rfl rfl
  · intro d mem a v sg hm hc w
    exact feRuns_bank (op := .ld d mem a v sg) hk hr rfl rfl (bne_iff_ne.2 hm) (.inl rfl)
      (fun r hr => List.mem_singleton.1 hr ▸ hc) rfl rfl (by rintro ⟨_⟩ rfl; rfl) rfl rfl rfl
  · intro d mem a v hm hd hc
    exact feRuns_bank (op := .ldq d mem a v) hk hr rfl rfl (Bool.and_eq_true_iff.2 ⟨bne_iff_ne.2 hm, beq_iff_eq.2 hd⟩) (.inl rfl)
      (fun r hr => List.mem_singleton.1 hr ▸ hc) rfl rfl (by rintro ⟨_⟩ rfl; rfl) rfl rfl rfl
  · intro r mem a v hm
    refine feRuns_store (op := .st r mem a v) (W := fun t => t.writeElem i n mem (b.getA a) (b.getG r)) hk hr rfl rfl
      (bne_iff_ne.2 hm) rfl rfl rfl rfl rfl rfl
      (Stack.re_onlyChanges _ _ _) (u.decoded_engineIs _) ((Engine.interrupts_modBank _ _ _).trans hcalm) rfl (fun t => t.writeElem_engines _ _ _)
      (fun t => t.writeElem_onlyChanges _ _ _ (by simp) (by simp) (by simp) fun _ h => h) ?_
      fun t' t hs ht => (t'.writeElem_stored i n mem _ _).of_mem hs.symm ht
    rw [Engine.modBank_modBank]
    exact congrArg Engine.visible (Engine.live_congr rfl)
  · intro r mem a v hm hd
    refine feRuns_store (op := .stq r mem a v) (W := fun t => t.writeQuad i n mem (b.getA a) (b.pair r)) hk hr rfl rfl
      (Bool.and_eq_true_iff.2 ⟨bne_iff_ne.2 hm, beq_iff_eq.2 hd⟩) rfl rfl rfl rfl rfl rfl
      (Stack.re_onlyChanges _ _ _) (u.decoded_engineIs _) ((Engine.interrupts_modBank _ _ _).trans hcalm) rfl (fun t => t.writeQuad_engines _ _ _)
      (fun t => t.writeQuad_onlyChanges _ _ _ (by simp) (by simp) (by simp) fun _ h => h) ?_
      fun t' t hs ht => (t'.writeQuad_stored i n mem _ _).of_mem hs.symm ht
    rw [Engine.modBank_modBank]
    exact congrArg Engine.visible (Engine.live_congr rfl)
  · intro ya ca uy uc mv neg cq sy sc clr hy hc quad d c
    have hclean : ∀ r ∈ (b.slotOf (.tap ya ca uy uc mv neg cq sy sc clr)).reads, u.feClean i n r.1 r.2 := by
      intro r hm
      rcases List.mem_pair.1 hm with rfl | rfl
      · exact hy
      · exact hc
    have hlanes := u.operandsRead_tap i n ya ca uy uc mv neg cq sy sc clr
    cases mv with
    | false =>
      refine FeRuns.weaken (p := fun _ => True) ?_ fun t _ h => absurd h Bool.false_ne_true
      exact feRuns_bank (op := .tap ya ca uy uc false neg cq sy sc clr) hk hr rfl rfl rfl (.inl rfl) hclean rfl rfl (by rintro ⟨_⟩ rfl; rfl)
        rfl rfl (FeBank.writeBack_tap _ rfl hlanes)
    | true =>
      have htake := u.feTake_tap i n (ya := ya) (ca := ca) (uy := uy) (uc := uc) (neg := neg) (cq := cq) (sy := sy) (sc := sc) (clr := clr)
      have hran : u.ranThrough i n (.tap ya ca uy uc true neg cq sy sc clr) = _ :=
        congrArg (fun z => Stack.modFeBank z i n (u.engine i n).shadow fun b => b.writeBack (u.operandsRead i n _)) htake
      have hz := ((u.decoded_engineIs (i := i) (n := n) (.tap ya ca uy uc true neg cq sy sc clr)).of_engines
        (Stack.writeQuad_engines (i := i) (n := n) _ 1 (b.getA ya) (b.pair 6))).modFeBank (u.engine i n).shadow fun b => b.setPair 6 quad
      refine feRuns_plain (op := .tap ya ca uy uc true neg cq sy sc clr) hk hr rfl rfl rfl (.inl rfl) hclean rfl rfl ?_
        (by rw [hran]; exact hz.modFeBank _ _) ?_ ?_ fun t hm _ _ => ?_
      · rw [htake, hz.self, Engine.interrupts_modBank, Engine.interrupts_modBank]
        exact hcalm
      · rw [hran]
        exact (((Stack.re_onlyChanges _ _ _).trans (Stack.writeQuad_onlyChanges _ _ _ _ (by simp) (by simp) (by simp) fun _ h => h)).trans
          (Stack.re_onlyChanges _ _ _)).trans (Stack.re_onlyChanges _ _ _)
      · rw [Engine.modBank_modBank, Engine.modBank_modBank]
        exact congrArg Engine.visible (Engine.live_congr (FeBank.writeBack_tap _ rfl hlanes))
      · rw [hran] at hm
        exact ((u.decoded i n _).writeQuad_stored i n 1 (b.getA ya) (b.pair 6)).of_mem rfl hm

end Sys2Proof.Machine
end

section
/-! SUPPORT. Filter-engine instructions of the stream ports and the special registers (R286, R291 to R294). -/

namespace Sys2Proof.Machine

variable {i n : Nat}

theorem Engine.fifo_modBank (e : Engine) (sh : Bool) (f : FeBank → FeBank) (p : Nat) : (e.modBank sh f).fifo p = e.fifo p := by
  cases sh <;> rfl

theorem Engine.setFifo_modBank (e : Engine) (sh : Bool) (f : FeBank → FeBank) (p : Nat) (l : List Quad) :
    (e.modBank sh f).setFifo p l = (e.setFifo p l).modBank sh f := by
  cases sh <;> rfl

/-- An instruction that takes nothing in stage O and, beside its bank, changes the engine alone in stage W by `g` runs through. -/
theorem feRuns_engine {c : Instr} {s : State} {k : Side} {op : FeOp} {eff g : Engine → Engine} (hk : s.hasSide k = true)
    (hr : (s.stack k).feReady i n) (hc : exec c s = .next (s.onStack k (Stack.feIssue i n op))) (hop : op.plain = true) (hl : op.legal = true)
    (hv : op.readsLevels = false)
    (hclean : ∀ r ∈ ((((s.stack k).engine i n).bank ((s.stack k).engine i n).shadow).slotOf op).reads, (s.stack k).feClean i n r.1 r.2)
    (hin : ((s.stack k).engine i n).inBlocked (some ((((s.stack k).engine i n).bank ((s.stack k).engine i n).shadow).slotOf op)) = false)
    (hout : ((s.stack k).engine i n).outBlocked (some ((s.stack k).operandsRead i n op)) = false)
    (htake : ((s.stack k).decoded i n op).feTake i n ((s.stack k).engine i n).shadow
      ((((s.stack k).engine i n).bank ((s.stack k).engine i n).shadow).slotOf op) = (s.stack k).decoded i n op)
    (hran : (s.stack k).ranThrough i n op = (((s.stack k).decoded i n op).modFeBank i n ((s.stack k).engine i n).shadow fun b =>
      b.writeBack ((s.stack k).operandsRead i n op)).modEngine i n g)
    (hE : (g (((s.stack k).engine i n).modBank ((s.stack k).engine i n).shadow fun b =>
      (b.decodeStage (s.stack k).freeNat op).writeBack ((s.stack k).operandsRead i n op))).visible = (eff ((s.stack k).engine i n)).visible) :
    FeRuns c s k i n [] [] eff fun _ => True := by
  have hz := (s.stack k).decoded_engineIs (i := i) (n := n) op
  refine feRuns_plain hk hr hc hop hl (.inl hv) hclean hin ?_ ?_
    (by rw [hran]; exact (hz.modFeBank _ _).modEngine g)
    (by rw [hran]; exact ((Stack.re_onlyChanges _ _ _).trans (Stack.re_onlyChanges _ _ _)).trans (Stack.re_onlyChanges _ _ _))
    (by rw [Engine.modBank_modBank]; exact hE) fun _ _ _ => trivial
  · rw [htake, hz.self]
    unfold Engine.outBlocked at hout ⊢
    simp only [Engine.fifo_modBank]
    exact hout
  · rw [htake, hz.self, Engine.interrupts_modBank]
    exact hr.2.2.2.1

theorem Engine.modBank_id (e : Engine) (sh : Bool) : e.modBank sh (fun b => b) = e := by
  cases sh <;> rfl

/-- An instruction that writes one special register in stage W, and nothing else, runs through. -/
theorem feRuns_special {c : Instr} {s : State} {k : Side} {op : FeOp} {eff g : Engine → Engine} (hk : s.hasSide k = true)
    (hr : (s.stack k).feReady i n) (hc : exec c s = .next (s.onStack k (Stack.feIssue i n op))) (hop : op.plain = true) (hl : op.legal = true)
    (hv : op.readsLevels = false)
    (hreads : ((((s.stack k).engine i n).bank ((s.stack k).engine i n).shadow).slotOf op).reads = [])
    (hin : ((s.stack k).engine i n).inBlocked (some ((((s.stack k).engine i n).bank ((s.stack k).engine i n).shadow).slotOf op)) = false)
    (hout : ((s.stack k).engine i n).outBlocked (some ((s.stack k).operandsRead i n op)) = false)
    (htake : ((s.stack k).decoded i n op).feTake i n ((s.stack k).engine i n).shadow
      ((((s.stack k).engine i n).bank ((s.stack k).engine i n).shadow).slotOf op) = (s.stack k).decoded i n op)
    (hran : (s.stack k).ranThrough i n op = (((s.stack k).decoded i n op).modFeBank i n ((s.stack k).engine i n).shadow fun b =>
      b.writeBack ((s.stack k).operandsRead i n op)).modEngine i n g)
    (hbank : ∀ b : FeBank, (b.decodeStage (s.stack k).freeNat op).writeBack ((s.stack k).operandsRead i n op) = b)
    (hE : g ((s.stack k).engine i n) = eff ((s.stack k).engine i n)) :
    FeRuns c s k i n [] [] eff fun _ => True :=
  feRuns_engine hk hr hc hop hl hv (by simp [hreads]) hin hout htake hran
    (by simp only [hbank, Engine.modBank_id, hE])

/-- Stage O of an instruction that takes the head of an input FIFO (R291). -/
theorem Stack.decoded_drop (s : Stack) (op : FeOp) {p : Nat} {q : Quad} {rest : List Quad} (hq : (s.engine i n).fifo p = q :: rest) :
    s.EngineIs i n (((s.engine i n).setFifo p rest).modBank (s.engine i n).shadow fun b => b.decodeStage s.freeNat op)
      ((s.decoded i n op).modEngine i n fun e => e.setFifo p ((e.fifo p).drop 1)) := by
  have h := (s.decoded_engineIs (i := i) (n := n) op).modEngine fun e => e.setFifo p ((e.fifo p).drop 1)
  rw [Engine.fifo_modBank, hq, Engine.setFifo_modBank] at h
  exact h

/-- The quad at the head of an input FIFO, as stage O reads it. -/
theorem Engine.head_of_fifo {e : Engine} {p : Nat} {q : Quad} {rest : List Quad} (hq : e.fifo p = q :: rest) :
    ((e.fifo p).head?).getD ⟨0, 0⟩ = q := by
  rw [hq]
  rfl

/-- A special register that MFS may read (R286). -/
theorem Stack.feSpr_eq (s : Stack) {spr v : Nat}
    (h : let e := s.engine i n
      let b := e.bank e.shadow
      (spr = 0 ∧ v = b.flags) ∨ (spr = 1 ∧ v = e.ie) ∨ (spr = 2 ∧ v = e.ip) ∨ (spr = 3 ∧ v = e.thresh) ∨ (spr = 4 ∧ v = e.dbv) ∨
       (5 ≤ spr ∧ spr ≤ 8 ∧ b.levels = [] ∧ v = 0) ∨ (spr = 9 ∧ v = n + 256 * logicLayer i) ∨
       (16 ≤ spr ∧ spr < 24 ∧ v = mapGet 0 b.mode (spr - 16) + 0x10000 * mapGet 0 b.step (spr - 16)) ∨
       (24 ≤ spr ∧ spr < 32 ∧ v = mapGet 0 b.base (spr - 24) + 0x10000 * mapGet 0 b.len (spr - 24))) :
    s.feSpr i n (s.engine i n).shadow spr = v ∧ sprRead spr = true ∧
      ((5 ≤ spr ∧ spr ≤ 8) → ((s.engine i n).bank (s.engine i n).shadow).levels = []) := by
  rcases h with ⟨rfl, rfl⟩ | ⟨rfl, rfl⟩ | ⟨rfl, rfl⟩ | ⟨rfl, rfl⟩ | ⟨rfl, rfl⟩ | ⟨h1, h2, hl, rfl⟩ | ⟨rfl, rfl⟩ | ⟨h1, h2, rfl⟩ | ⟨h1, h2, rfl⟩
  case inr.inr.inr.inr.inr.inl =>
    have : spr = 5 ∨ spr = 6 ∨ spr = 7 ∨ spr = 8 := by omega
    refine ⟨?_, by simp [sprRead]; omega, fun _ => hl⟩
    rcases this with rfl | rfl | rfl | rfl <;> simp [Stack.feSpr, hl]
  case inr.inr.inr.inr.inr.inr.inr.inl =>
    exact ⟨by interval_cases spr <;> rfl, by simp [sprRead]; omega, by omega⟩
  case inr.inr.inr.inr.inr.inr.inr.inr =>
    exact ⟨by interval_cases spr <;> rfl, by simp [sprRead]; omega, by omega⟩
  all_goals exact ⟨rfl, rfl, by omega⟩

/-- What OUTQ leaves of the live bank: OS on a clamp, and with CLR no accumulator (R293). -/
theorem FeBank.writeBack_outq (b : FeBank) {x : FeSlot} {m p mark : Nat} {uns clr : Bool} {f : Nat → Nat}
    (hx : x.op = .outq m p mark clr uns) (hv : x.vals = [0, 1, 2, 3].map f) :
    b.writeBack x =
      let c := { b with flags := sticky b.flags flagOS (([0, 1, 2, 3].map fun h => narrowAcc (f h) m uns).any fun r => r.2) }
      if clr then c.accClear [0, 1, 2, 3] else c := by
  unfold FeBank.writeBack
  rw [hx, hv]
  dsimp only
  rw [narrowQuad_accs]

theorem Stack.fePend_onlyChanges (s : Stack) {P : List Part} {F : List Field} (f : Nat → Nat → Field) (h : f i (n / 32) ∈ F) :
    s.OnlyChanges P F (s.fePend f i n) :=
  s.put_onlyChanges _ h

theorem Stack.get_fePend (s : Stack) (f : Nat → Nat → Field) :
    (s.fePend f i n).get (f i (n / 32)) = setBit (s.get (f i (n / 32))) (n % 32) true % 2 ^ (f i (n / 32)).width :=
  s.get_put_same _ _

end Sys2Proof.Machine
end

section
/-! The statement of the engines' ports and special registers. -/

namespace Sys2Proof.Machine

/-- Settles O19: INQ and PUSHQ take their quad in stage O; SENDQ and OUTQ append theirs in stage W; the rest write the live bank, a special
register, or the engine's pending bit. -/
theorem enginePortAndSpecialRegisterInstructionsComplete : Obligations.EnginePortAndSpecialRegisterInstructionsComplete := by
  intro s k i n sh hk hr hsh u e b errs
  subst hsh
  have hcalm : e.interrupts = false := hr.2.2.2.1
  refine ⟨?_, ?_, ?_, ?_, ?_, ?_, ?_, ?_, ?_, ?_, ?_⟩
  · intro d p q rest hd hq hi
    have hz := u.decoded_drop (.inq d p) hq
    refine feRuns_plain (op := .inq d p) hk hr rfl rfl (beq_iff_eq.2 hd) (.inl rfl) (by simp [FeSlot.reads, FeBank.slotOf]) ?_ rfl ?_
      (hz.modFeBank _ _) (((Stack.re_onlyChanges _ _ _).trans (Stack.re_onlyChanges _ _ _)).trans (Stack.re_onlyChanges _ _ _)) ?_
      fun _ _ _ => trivial
    · exact congrArg List.isEmpty hq
    · refine (congrArg Engine.interrupts hz.self).trans ?_
      rw [Engine.interrupts_modBank]
      exact Engine.interrupts_masked hi
    · rw [Engine.modBank_modBank]
      refine congrArg Engine.visible (Engine.live_congr (e := e.setFifo p rest) ?_)
      dsimp only [Stack.operandsRead, Stack.feOperands, FeBank.slotOf]
      rw [Engine.head_of_fifo hq]
      rfl
  · intro mem a p cnt v q rest hm hq hi
    have hz := u.decoded_drop (.pushq mem a v p cnt) hq
    refine feRuns_store (op := .pushq mem a v p cnt) (W := fun t => t.writeQuad i n mem (b.getA a) (unpackQuad q.data)) hk hr rfl rfl
      (bne_iff_ne.2 hm) rfl rfl (congrArg List.isEmpty hq) rfl rfl rfl ((Stack.re_onlyChanges _ _ _).trans (Stack.re_onlyChanges _ _ _)) hz
      ((Engine.interrupts_modBank _ _ _).trans (Engine.interrupts_masked hi)) ?_ (fun t => t.writeQuad_engines _ _ _)
      (fun t => t.writeQuad_onlyChanges _ _ _ (by simp) (by simp) (by simp) fun _ h => h) ?_
      fun t' t hs ht => (t'.writeQuad_stored i n mem _ _).of_mem hs.symm ht
    · rw [← Engine.head_of_fifo hq]
      rfl
    · rw [Engine.modBank_modBank]
      refine congrArg Engine.visible (Engine.live_congr (e := e.setFifo p rest) ?_)
      show FeBank.writeBack (FeBank.afterUse _ _ _ _ _) _ = _
      unfold FeBank.writeBack
      dsimp only [Stack.operandsRead, Stack.feOperands, FeBank.slotOf]
      rw [FeBank.afterUse_flags, Engine.head_of_fifo hq]
  · intro p want q rest hq hw
    refine feRuns_bank (op := .waitm p want) hk hr rfl rfl rfl (.inl rfl) (by simp [FeSlot.reads, FeBank.slotOf]) ?_ rfl
      (by rintro ⟨_⟩ rfl; rfl) rfl rfl ?_
    · show (match (e.fifo p).head? with
        | some q => !waitmOk want q.mark
        | Option.none => true) = false
      rw [hq]
      exact congrArg not hw
    · dsimp only [Stack.operandsRead, Stack.feOperands, FeBank.slotOf]
      rw [Engine.head_of_fifo hq]
      rfl
  · intro mem a p mark v hm hc hroom
    refine feRuns_engine (op := .sendq mem a v p mark)
      (g := fun e => e.setFifo (4 + p) (e.fifo (4 + p) ++ [⟨packQuad (u.readQuad i n mem (b.getA a)), mark⟩])) hk hr rfl rfl (bne_iff_ne.2 hm) rfl
      (fun r hr => List.mem_singleton.1 hr ▸ hc) rfl (decide_eq_false (Nat.not_le.2 hroom)) rfl rfl ?_
    rw [Engine.fifo_modBank, Engine.setFifo_modBank]
    exact congrArg Engine.visible (Engine.live_congr (e := e.setFifo _ _) rfl)
  · intro m p mark clr uns hm hroom q
    have hn := narrowQuad_accs b.getAcc m uns
    refine feRuns_engine (op := .outq m p mark clr uns)
      (g := fun e => e.setFifo (4 + p) (e.fifo (4 + p) ++ [⟨packQuad (narrowQuad ([0, 1, 2, 3].map b.getAcc) m uns).1, mark⟩])) hk hr rfl rfl
      (decide_eq_true hm) rfl (by simp [FeSlot.reads, FeBank.slotOf]) rfl (decide_eq_false (Nat.not_le.2 hroom)) rfl rfl ?_
    rw [Engine.fifo_modBank, Engine.setFifo_modBank, hn]
    exact congrArg Engine.visible (Engine.live_congr (e := e.setFifo _ _) (FeBank.writeBack_outq _ rfl rfl))
  · intro d spr v h
    obtain ⟨hv, hl, hlev⟩ := u.feSpr_eq h
    refine feRuns_bank (op := .mfs d spr) hk hr rfl rfl hl ?_ (by simp [FeSlot.reads, FeBank.slotOf]) rfl rfl
      (by rintro ⟨_⟩ rfl; rfl) rfl rfl (congrArg (b.setG d) hv)
    by_cases h58 : 5 ≤ spr ∧ spr ≤ 8
    · exact .inr (hlev h58)
    · exact .inl (decide_eq_false h58)
  · exact fun r => feRuns_bank (op := .mts r 0) hk hr rfl rfl rfl (.inl rfl) (by simp [FeSlot.reads, FeBank.slotOf]) rfl rfl
      (by rintro ⟨_⟩ rfl; rfl) rfl rfl rfl
  · exact fun r => feRuns_special (op := .mts r 1) (g := fun e => { e with ie := b.getG r % 2 ^ 10 })
      hk hr rfl rfl rfl rfl rfl rfl rfl rfl rfl (fun _ => rfl) rfl
  · refine fun r => feRuns_special (op := .mts r 2)
      (g := fun e => if bit (b.getG r) 0 then { e with bell := false } else e) hk hr rfl rfl rfl rfl rfl rfl rfl rfl rfl
      (fun _ => rfl) ?_
    show (if bit (b.getG r) 0 then { e with bell := false } else e) = { e with bell := e.bell && !bit (b.getG r) 0 }
    cases bit (b.getG r) 0 <;> simp
  · exact fun r => feRuns_special (op := .mts r 3)
      (g := fun e => { e with thresh := bits (b.getG r) 0 5 + 256 * bits (b.getG r) 8 5 }) hk hr rfl rfl rfl rfl rfl rfl rfl rfl rfl
      (fun _ => rfl) rfl
  · have hz := (u.decoded_engineIs (i := i) (n := n) .signal).modFeBank (u.engine i n).shadow fun b => b
    have hran : u.ranThrough i n .signal =
        ((u.decoded i n .signal).modFeBank i n (u.engine i n).shadow fun b => b).fePend FE.SIGNAL_PEND_PEND i n := rfl
    refine feRuns_plain (op := .signal) hk hr rfl rfl rfl (.inl rfl) (by simp [FeSlot.reads, FeBank.slotOf]) rfl rfl ?_
      (by rw [hran]; exact hz.of_engines rfl)
      (by rw [hran]
          exact ((Stack.re_onlyChanges _ _ _).trans (Stack.re_onlyChanges _ _ _)).trans (Stack.fePend_onlyChanges _ _ (by simp))) ?_
      fun t _ ht => ?_
    · refine (congrArg Engine.interrupts (u.decoded_engineIs _).self).trans ?_
      rw [Engine.interrupts_modBank]
      exact hcalm
    · rw [Engine.modBank_modBank]
      exact congrArg Engine.visible (Engine.modBank_id e _)
    · rw [hran] at ht
      exact (Stack.get_of_regs ht _).trans (Stack.get_fePend _ _)

end Sys2Proof.Machine
end

section
/-! SUPPORT. One cycle of a filter engine with nothing in its pipeline: what the instruction that issues does to the program address, the
repeat levels and the banks (R262, R263, R268, R289, R302). -/

namespace Sys2Proof.Machine

variable {s t : Stack} {i n : Nat}

/-- An instruction that is legal and stands where it may issues. -/
theorem Stack.feNext_placed (hr : s.feReady i n) {op : FeOp} (hl : op.legal = true)
    (hd : ((match op with
        | .rep _ _ | .repr _ _ => decide (3 ≤ ((s.engine i n).bank (s.engine i n).shadow).levels.length)
        | _ => false) : Bool) = false)
    (hb : ((s.engine i n).bank (s.engine i n).shadow).badPlace (s.engine i n).shadow
      (((s.engine i n).bank (s.engine i n).shadow).slotOf op) = false) :
    s.feNext i n (some op) = some (some op, 0) := by
  obtain ⟨hst, hmode, hlayer, hcalm, hempty, hf, hhalt, hclean⟩ := hr
  obtain ⟨q, hq⟩ := Option.isSome_iff_exists.1 hf
  unfold Stack.feNext
  simp only [hhalt, hq, Bool.false_eq_true, if_false, Option.isNone_some, Bool.false_and, hb, hl, Bool.not_true, Bool.or_self]
  cases op <;> first | rfl | simpa using hd

/-- A bank with nothing in stages O, E and W does not change as its pipeline moves on. -/
theorem FeBank.shift_empty {b : FeBank} (h : b.o = Option.none ∧ b.e = Option.none ∧ b.w = Option.none) : b.shift = b := by
  obtain ⟨ho, he, hw⟩ := h
  obtain ⟨⟩ := b
  simp_all [FeBank.shift]

/-- An engine with no stall. -/
def Engine.going (e : Engine) : Engine := { e with stall := 0 }

theorem Engine.modBank_shift {e : Engine} {sh : Bool}
    (h : (e.bank sh).o = Option.none ∧ (e.bank sh).e = Option.none ∧ (e.bank sh).w = Option.none) : e.modBank sh FeBank.shift = e := by
  cases sh
  · exact (congrArg (fun b => { e with main := b }) (FeBank.shift_empty h) :)
  · exact (congrArg (fun b => { e with shad := b }) (FeBank.shift_empty h) :)

theorem Stack.draw_onlyChanges (s : Stack) {P : List Part} {F : List Field} : s.OnlyChanges (.engines :: .freeCount :: P) F s.draw :=
  s.re_onlyChanges s.engines _

/-- The cycle of an engine with nothing in its pipeline is the issue of its instruction, then HALT's check and the next fetch. -/
theorem Stack.feIssue_placed (hr : s.feReady i n) {op : FeOp} (hn : s.feNext i n (some op) = some (some op, 0)) :
    ∃ X : Stack, s.EngineIs i n ((s.engine i n).going.issue s.freeNat op) X ∧ s.OnlyChanges [.engines, .freeCount] [] X ∧
      s.feIssue i n op = (X.feHaltCheck i n).feStageF i n := by
  have hp := Piped.of_ready hr
  rw [Stack.feIssue_eq hp (hp.no_stall rfl rfl) hn _ rfl _ rfl (by simp)]
  refine ⟨_, ?_, ?_, rfl⟩
  · have h0 : s.EngineIs i n (s.engine i n).going (s.setEngine i n { s.engine i n with stall := 0 }) :=
      (Stack.EngineIs.refl s).modEngine Engine.going
    have hempty : ∀ b ∈ (s.engine i n).running, (s.engine i n).going.modBank b FeBank.shift = (s.engine i n).going := fun b hb => by
      refine Engine.modBank_shift ?_
      have := hr.2.2.2.2.1 b hb
      cases b <;> exact this
    unfold Engine.running at hempty
    cases hsh : (s.engine i n).shadow with
    | true =>
      rw [hsh] at hempty
      have h1 := h0.modFeBank true FeBank.shift
      rw [hempty true (by simp)] at h1
      exact (h1.of_engines (t' := Stack.draw _) rfl).modEngine fun e => e.issue s.freeNat op
    | false =>
      rw [hsh] at hempty
      have h1 := (h0.modFeBank true FeBank.shift).modFeBank false FeBank.shift
      rw [hempty true (by simp), hempty false (by simp)] at h1
      exact (h1.of_engines (t' := Stack.draw _) rfl).modEngine fun e => e.issue s.freeNat op
  · have h0 : s.OnlyChanges [.engines, .freeCount] [] (s.setEngine i n { s.engine i n with stall := 0 }) := s.re_onlyChanges _ _
    generalize s.setEngine i n { s.engine i n with stall := 0 } = T at h0
    have h1 := h0.trans (T.re_onlyChanges (P := []) (F := []) (T.modFeBank i n true FeBank.shift).engines T.freeCount)
    cases (s.engine i n).shadow with
    | true => exact (h1.trans (Stack.draw_onlyChanges _)).trans (Stack.re_onlyChanges _ _ _)
    | false => exact ((h1.trans (Stack.re_onlyChanges _ _ _)).trans (Stack.draw_onlyChanges _)).trans (Stack.re_onlyChanges _ _ _)

/-- Stage F of an engine whose program memory has no error leaves at most an instruction fetched. -/
theorem Stack.feStageF_fetches {e : Engine} (h : s.EngineIs i n e t) (hc : ∀ p, t.mark ((feBase i n + 0xC000 + 4 * p) / 16) = .ok) :
    ∃ q, s.EngineIs i n (e.modBank e.shadow fun b => { b with f := q }) (t.feStageF i n) ∧
      t.OnlyChanges [.engines, .freeCount] [] (t.feStageF i n) := by
  unfold Stack.feStageF
  rw [h.self]
  dsimp only
  split
  · refine ⟨(e.bank e.shadow).f, ?_, Stack.OnlyChanges.refl _ _ _⟩
    have : (e.modBank e.shadow fun b => { b with f := (e.bank e.shadow).f }) = e := by
      cases hs : e.shadow <;> simp [Engine.modBank, Engine.bank]
    rw [this]
    exact h
  · have hm : t.feMeet (feBase i n + 0xC000 + 4 * (e.bank e.shadow).pc) = t := Stack.meetCodeword_clean (hc _)
    rw [hm, ite_self]
    exact ⟨_, h.modFeBank _ _, t.re_onlyChanges _ _⟩

theorem Engine.modBank_visible_eq (e : Engine) (sh : Bool) {f : FeBank → FeBank} (h : (f (e.bank sh)).visible = (e.bank sh).visible) :
    (e.modBank sh f).visible = e.visible := by
  rw [Engine.modBank_visible e sh (g := fun b => b) h]
  exact congrArg Engine.visible (Engine.modBank_id e sh)

/-- HALT's check does nothing while no HALT has issued in the live bank. -/
theorem Stack.feHaltCheck_idle (h : (t.engine i n).shadow = true ∨ (t.engine i n).main.halting = false) : t.feHaltCheck i n = t := by
  unfold Stack.feHaltCheck
  rcases h with h | h <;> simp [h]

/-- What an instruction leaves that changes no more than the program address, the levels and the delay slot of its bank. -/
theorem completes_issue {c : Instr} {s : State} {k : Side} {op : FeOp} {p : FeBank → Prop} {d : FeBank} (hk : s.hasSide k = true)
    (hr : (s.stack k).feReady i n) (hc : exec c s = .next (s.onStack k (Stack.feIssue i n op)))
    (hn : (s.stack k).feNext i n (some op) = some (some op, 0))
    (hi : ((s.stack k).engine i n).going.issue (s.stack k).freeNat op =
      ((s.stack k).engine i n).going.modBank ((s.stack k).engine i n).shadow fun _ => d)
    (hd : d.visible = (((s.stack k).engine i n).bank ((s.stack k).engine i n).shadow).visible) (hhalt : d.halting = false)
    (hp : ∀ q, p { d with f := q }) :
    Completes c s k [.engines, .freeCount] [] fun t =>
      (∀ j m, 192 * j + m ≠ 192 * i + n → t.engine j m = (s.stack k).engine j m) ∧
        (t.engine i n).visible = ((s.stack k).engine i n).visible ∧ p ((t.engine i n).bank ((s.stack k).engine i n).shadow) := by
  generalize hu : s.stack k = u at *
  obtain ⟨X, hX, hXo, hcyc⟩ := Stack.feIssue_placed hr hn
  rw [hi] at hX
  generalize hsh : (u.engine i n).shadow = sh at *
  have hbs : ∀ e : Engine, (e.modBank sh fun _ => d).shadow = e.shadow := fun e => by cases sh <;> rfl
  have hcheck : X.feHaltCheck i n = X := by
    refine Stack.feHaltCheck_idle ?_
    rw [hX.self]
    cases sh with
    | true => exact .inl hsh
    | false => exact .inr hhalt
  rw [hcheck] at hcyc
  obtain ⟨q, hF, hFo⟩ := Stack.feStageF_fetches hX (fun p => by
    have : X.health = u.health := hXo.part (p := .health) (by simp)
    show mapGet _ X.health _ = _
    rw [this]
    exact hr.2.2.2.2.2.2.2 p)
  rw [← hcyc] at hF hFo
  rw [hbs, show (u.engine i n).going.shadow = sh from hsh, Engine.modBank_modBank] at hF
  refine completes_of_onStack hk (hc.trans rfl) (by rw [hu]; exact hXo.trans hFo) ?_
  rw [hu]
  refine ⟨hF.others, ?_, ?_⟩
  · rw [hF.self]
    refine (Engine.modBank_visible_eq _ _ ?_).trans rfl
    exact hd.trans (by cases sh <;> rfl)
  · rw [hF.self, Engine.bank_modBank]
    exact hp q

/-! ## Where an instruction may stand (R301, R303) -/

/-- The live bank of an engine with nothing in its pipeline. -/
theorem Stack.feReady.empty (hr : s.feReady i n) : ((s.engine i n).bank (s.engine i n).shadow).e = Option.none := (Piped.of_ready hr).e

section
variable {b : FeBank} (he : b.e = Option.none) (hslot : b.slot = false)
include he hslot

/-- A branch, or a HALT of the main bank, may stand outside a delay slot where no block ends. -/
theorem FeBank.badPlace_branch {op : FeOp} {sh : Bool} (hend : (b.levels.any fun l => l.last == b.pc || l.last == (b.pc + 1) % 4096) = false)
    (hop : op.isBranch = true ∨ (op = .halt ∧ sh = false)) : b.badPlace sh (b.slotOf op) = false := by
  have hpc : (b.slotOf op).pc = b.pc := by unfold FeBank.slotOf; split <;> rfl
  unfold FeBank.badPlace
  rw [hpc, FeBank.slotOf_op, he, hslot, hend]
  rcases hop with hop | ⟨rfl, rfl⟩
  · cases op <;> first | rfl | exact absurd hop Bool.false_ne_true
  · rfl

/-- A repeat may stand outside a delay slot when its block ends inside the innermost open one. -/
theorem FeBank.badPlace_repeat {op : FeOp} {len : Nat} (sh : Bool) (hop : (∃ c, op = .rep len c) ∨ ∃ r, op = .repr len r)
    (hfits : ∀ l, b.levels.head? = some l → (b.pc + 1 + len + 4096 - l.start) % 4096 ≤ (l.last + 4096 - l.start) % 4096) :
    b.badPlace sh (b.slotOf op) = false := by
  have hpc : (b.slotOf op).pc = b.pc := by unfold FeBank.slotOf; split <;> rfl
  unfold FeBank.badPlace
  rw [hpc, FeBank.slotOf_op, he, hslot]
  cases hl : b.levels with
  | nil => rcases hop with ⟨c, rfl⟩ | ⟨r, rfl⟩ <;> simp [FeOp.isBranch]
  | cons l ls =>
    have := hfits l (by rw [hl]; rfl)
    rcases hop with ⟨c, rfl⟩ | ⟨r, rfl⟩ <;> simp [FeOp.isBranch, this]

/-- A RETI may stand in the shadow bank outside a delay slot. -/
theorem FeBank.badPlace_reti : b.badPlace true (b.slotOf .reti) = false := by
  unfold FeBank.badPlace
  rw [FeBank.slotOf_op, he, hslot]
  simp [FeOp.isBranch]

end

/-! ## Repeats and BRL (R289, R302) -/

/-- A block opened with a count that is not 0. -/
theorem FeBank.openBlock_opens (b : FeBank) (len : Nat) {count : Nat} (h0 : 0 < count) (h1 : count ≤ 65536) :
    b.openBlock len count = { b with
      pc := (b.pc + 1) % 4096, f := Option.none
      levels := { start := (b.pc + 1) % 4096, last := (b.pc + 1 + len) % 4096, left := count - 1 } :: b.levels } := by
  unfold FeBank.openBlock
  rw [if_neg (by omega), show Nat.min count 65536 = count from Nat.min_eq_left h1]

/-- BRL with nothing ahead of it, run through, writes its return address (R289). -/
theorem feRuns_brl {s : State} {k : Side} {target : Nat} (hk : s.hasSide k = true) (hr : (s.stack k).feReady i n)
    (hn : (s.stack k).feNext i n (some (.brl target)) = some (some (.brl target), 0)) :
    FeRuns (.iBrl k i n target) s k i n [] [] (Engine.live fun b => b.setG 7 ((b.pc + 2) % 4096)) fun _ => True := by
  have hz := (s.stack k).decoded_engineIs (i := i) (n := n) (.brl target)
  have hruns := Stack.fe_runs_of hr (op := .brl target) rfl hn rfl rfl (u := (s.stack k).decoded i n (.brl target)) rfl rfl (.inl rfl)
    (by simp [FeSlot.reads, FeBank.slotOf]) rfl rfl
    (by refine (congrArg Engine.interrupts hz.self).trans ?_
        rw [Engine.interrupts_modBank]
        exact hr.2.2.2.1)
  have hw := hz.modFeBank ((s.stack k).engine i n).shadow fun b => b.writeBack ((s.stack k).operandsRead i n (.brl target))
  refine feRuns_of_twin hk rfl hruns ((Stack.re_onlyChanges _ _ _).trans (Stack.re_onlyChanges _ _ _)) hw.others ?_ fun _ _ => trivial
  refine (congrArg Engine.visible hw.self).trans ?_
  rw [Engine.modBank_modBank]
  exact congrArg Engine.visible (Engine.live_congr rfl)

/-! ## HALT and RETI (R268, R289) -/

/-- The main bank once HALT has issued (R289). -/
def FeBank.halted (b : FeBank) : FeBank := { b with pc := (b.pc + 1) % 4096, halting := true, o := Option.none, f := Option.none }

/-- An engine whose HALT has completed (R268). -/
def Engine.halted (e : Engine) : Engine := { e with st := 3, main := { e.main with halting := false } }

/-- An engine whose RETI has issued (R268). -/
def Engine.returned (e : Engine) : Engine :=
  { e with
    shadow := false, ie := setBit e.ie 0 true
    shad := { e.shad with pc := (e.shad.pc + 1) % 4096, o := some (e.shad.slotOf .reti), f := Option.none } }

theorem Engine.issue_halt {e : Engine} (h : e.shadow = false) (free : Nat) : e.issue free .halt = { e with main := e.main.halted } := by
  unfold Engine.issue Engine.modBank Engine.bank
  simp only [h]
  rfl

theorem Engine.issue_reti {e : Engine} (h : e.shadow = true) (free : Nat) : e.issue free .reti = e.returned := by
  unfold Engine.issue Engine.modBank Engine.bank
  simp only [h]
  rfl

/-- HALT's check, once nothing is in the pipeline of either bank. -/
theorem Stack.feHaltCheck_halts {e : Engine} (h : s.EngineIs i n e t) (hh : e.main.halting = true) (hs : e.shadow = false)
    (hm : e.main.o = Option.none ∧ e.main.e = Option.none ∧ e.main.w = Option.none)
    (hd : e.shad.o = Option.none ∧ e.shad.e = Option.none ∧ e.shad.w = Option.none) :
    t.feHaltCheck i n = (t.modEngine i n Engine.halted).fePend FE.HALT_PEND_PEND i n := by
  obtain ⟨m1, m2, m3⟩ := hm
  obtain ⟨d1, d2, d3⟩ := hd
  unfold Stack.feHaltCheck Stack.modEngine
  rw [h.self]
  exact if_pos (by simp only [hh, hs, m1, m2, m3, d1, d2, d3, Option.isNone_none, Bool.not_false, Bool.and_self])

/-- A HALT of the main bank, with nothing ahead of it, makes its engine Halted at once. -/
theorem completes_halt {s : State} {k : Side} (hk : s.hasSide k = true) (hr : (s.stack k).feReady i n)
    (hsh : ((s.stack k).engine i n).shadow = false)
    (hn : (s.stack k).feNext i n (some .halt) = some (some .halt, 0)) :
    Completes (.iHalt k i n) s k [.engines, .freeCount] [FE.HALT_PEND_PEND i (n / 32)] fun t =>
      (∀ j m, 192 * j + m ≠ 192 * i + n → t.engine j m = (s.stack k).engine j m) ∧
      (t.engine i n).visible = { ((s.stack k).engine i n).visible with st := 3 } ∧
      (t.engine i n).main.pc = (((s.stack k).engine i n).main.pc + 1) % 4096 ∧
      t.get (FE.HALT_PEND_PEND i (n / 32)) = setBit ((s.stack k).get (FE.HALT_PEND_PEND i (n / 32))) (n % 32) true % 2 ^ 32 := by
  generalize hu : s.stack k = u at *
  have hp := Piped.of_ready hr
  have hbank : (u.engine i n).bank (u.engine i n).shadow = (u.engine i n).main := by rw [hsh]; rfl
  obtain ⟨X, hX, hXo, hcyc⟩ := Stack.feIssue_placed hr hn
  rw [Engine.issue_halt (e := (u.engine i n).going) hsh] at hX
  have hcheck := Stack.feHaltCheck_halts hX rfl hsh ⟨rfl, hbank ▸ hp.e, hbank ▸ hp.w⟩ (hp.other hsh)
  have hH := (hX.modEngine Engine.halted).of_engines (t' := (X.modEngine i n Engine.halted).fePend FE.HALT_PEND_PEND i n) rfl
  have hHo : u.OnlyChanges [.engines, .freeCount] [FE.HALT_PEND_PEND i (n / 32)] ((X.modEngine i n Engine.halted).fePend FE.HALT_PEND_PEND i n) :=
    ((hXo.mono (fun _ h => h) (by simp)).trans (X.re_onlyChanges _ _)).trans (Stack.fePend_onlyChanges _ _ (by simp))
  rw [hcheck] at hcyc
  have hget : ((X.modEngine i n Engine.halted).fePend FE.HALT_PEND_PEND i n).get (FE.HALT_PEND_PEND i (n / 32)) =
      setBit (u.get (FE.HALT_PEND_PEND i (n / 32))) (n % 32) true % 2 ^ 32 := by
    rw [Stack.get_fePend, ← hXo.get_eq (f := FE.HALT_PEND_PEND i (n / 32)) (by simp)]
    rfl
  generalize (X.modEngine i n Engine.halted).fePend FE.HALT_PEND_PEND i n = Y at *
  obtain ⟨q, hF, hFo⟩ := Stack.feStageF_fetches hH fun p => by
    have : Y.health = u.health := hHo.part (p := .health) (by simp)
    show mapGet _ Y.health _ = _
    rw [this]
    exact hr.2.2.2.2.2.2.2 p
  rw [← hcyc] at hF hFo
  refine completes_of_onStack hk rfl (by rw [hu]; exact hHo.trans (hFo.mono (fun _ h => h) (by simp))) ?_
  rw [hu]
  refine ⟨hF.others, ?_, ?_, ?_⟩
  · rw [hF.self]
    refine (Engine.modBank_visible_eq _ _ ?_).trans ?_
    · rfl
    · rfl
  · rw [hF.self]
    show (Engine.main (Engine.modBank _ (u.engine i n).shadow _)).pc = _
    rw [hsh]
    rfl
  · rw [hFo.get_eq (by simp)]
    exact hget

/-- A RETI of the shadow bank makes the main bank live again. -/
theorem completes_reti {s : State} {k : Side} (hk : s.hasSide k = true) (hr : (s.stack k).feReady i n)
    (hsh : ((s.stack k).engine i n).shadow = true) (hm : ((s.stack k).engine i n).main.halting = false)
    (hn : (s.stack k).feNext i n (some .reti) = some (some .reti, 0)) :
    Completes (.iReti k i n) s k [.engines, .freeCount] [] fun t =>
      (∀ j m, 192 * j + m ≠ 192 * i + n → t.engine j m = (s.stack k).engine j m) ∧
      (t.engine i n).visible =
        { ((s.stack k).engine i n).visible with shadow := false, ie := setBit ((s.stack k).engine i n).ie 0 true } ∧
      (t.engine i n).shad.pc = (((s.stack k).engine i n).shad.pc + 1) % 4096 := by
  generalize hu : s.stack k = u at *
  obtain ⟨X, hX, hXo, hcyc⟩ := Stack.feIssue_placed hr hn
  rw [Engine.issue_reti (e := (u.engine i n).going) hsh] at hX
  rw [Stack.feHaltCheck_idle (by rw [hX.self]; exact .inr hm)] at hcyc
  obtain ⟨q, hF, hFo⟩ := Stack.feStageF_fetches hX fun p => by
    have : X.health = u.health := hXo.part (p := .health) (by simp)
    show mapGet _ X.health _ = _
    rw [this]
    exact hr.2.2.2.2.2.2.2 p
  rw [← hcyc] at hF hFo
  refine completes_of_onStack hk rfl (by rw [hu]; exact hXo.trans hFo) ?_
  rw [hu]
  refine ⟨hF.others, ?_, ?_⟩
  · rw [hF.self]
    exact (Engine.modBank_visible_eq _ _ rfl).trans rfl
  · rw [hF.self]
    rfl

end Sys2Proof.Machine
end

section
/-! The statement of the engines' control instructions. -/

namespace Sys2Proof.Machine

/-- Settles O20: with nothing in the pipeline the cycle is the issue of the instruction, which changes no more than the program address, the
levels and the delay slot of the live bank; HALT completes at once, and RETI leaves the shadow bank. -/
theorem engineControlInstructionsComplete : Obligations.EngineControlInstructionsComplete := by
  intro s k i n sh hk hr hsh u e b next steps atEnd fits
  subst hsh
  have hempty := hr.empty
  have hhalt : b.halting = false := hr.2.2.2.2.2.2.1
  refine ⟨?_, fun hslot hend => ⟨?_, ?_, ?_, ?_, ?_⟩, fun hslot hlev => ⟨?_, ?_⟩, ?_⟩
  · let d := FeBank.advancePc { b with o := some (b.slotOf .nop) }
    obtain ⟨hv, _, _, _, hh, _⟩ := FeBank.advancePc_seen { b with o := some (b.slotOf .nop) }
    refine completes_issue (op := .nop) (d := d) (p := fun c => (b.levels = [] → c.pc = b.target.getD next) ∧ c.slot = false) hk hr rfl
      (Stack.feNext_plain (Piped.of_ready hr) rfl rfl (.inl rfl)) rfl hv (hh.trans hhalt) fun q => ?_
    show (b.levels = [] → d.pc = _) ∧ d.slot = false
    unfold d FeBank.advancePc
    cases ht : b.target with
    | some a => exact ⟨fun _ => rfl, rfl⟩
    | none => exact ⟨fun hl => by simp only [hl]; rfl, rfl⟩
  · intro cond target
    exact completes_issue (op := .br cond target)
      (p := fun c => c.pc = next ∧ c.slot = true ∧ c.target = if condHolds cond b.flags then some target else none) hk hr rfl
      (Stack.feNext_placed hr rfl rfl (FeBank.badPlace_branch hempty hslot hend (.inl rfl))) rfl rfl hhalt fun q => ⟨rfl, rfl, rfl⟩
  · intro target
    exact completes_issue (op := .brl target) (p := fun c => c.pc = next ∧ c.slot = true ∧ c.target = some target) hk hr rfl
      (Stack.feNext_placed hr rfl rfl (FeBank.badPlace_branch hempty hslot hend (.inl rfl))) rfl rfl hhalt fun q => ⟨rfl, rfl, rfl⟩
  · intro target
    exact feRuns_brl hk hr (Stack.feNext_placed hr rfl rfl (FeBank.badPlace_branch hempty hslot hend (.inl rfl)))
  · intro r
    exact completes_issue (op := .jr r) (p := fun c => c.pc = next ∧ c.slot = true ∧ c.target = some (b.getG r % 4096)) hk hr rfl
      (Stack.feNext_placed hr rfl rfl (FeBank.badPlace_branch hempty hslot hend (.inl rfl))) rfl rfl hhalt fun q => ⟨rfl, rfl, rfl⟩
  · intro hs
    have hbm : b = e.main := by show (u.engine i n).bank (u.engine i n).shadow = _; rw [hs]; rfl
    have := completes_halt hk hr hs (Stack.feNext_placed hr rfl rfl (FeBank.badPlace_branch hempty hslot hend (.inr ⟨rfl, hs⟩)))
    rw [← hbm] at this
    exact this
  · intro len count hcount hfits
    exact completes_issue (op := .rep len count)
      (p := fun c => c.pc = next ∧ c.levels = { start := next, last := (b.pc + 1 + len) % 4096, left := count } :: b.levels) hk hr rfl
      (Stack.feNext_placed hr rfl (decide_eq_false (Nat.not_le.2 hlev)) (FeBank.badPlace_repeat hempty hslot _ (.inl ⟨_, rfl⟩) hfits))
      (congrArg (fun d => e.going.modBank e.shadow fun _ => d) (FeBank.openBlock_opens _ len (Nat.succ_pos count) hcount)) rfl hhalt
      fun q => ⟨rfl, rfl⟩
  · intro len r hfits
    have hn := Stack.feNext_placed hr (op := .repr len r) rfl (decide_eq_false (Nat.not_le.2 hlev))
      (FeBank.badPlace_repeat hempty hslot _ (.inr ⟨_, rfl⟩) hfits)
    refine ⟨fun h0 => ?_, fun h0 h1 => ?_⟩
    · exact completes_issue (op := .repr len r) (p := fun c => c.pc = (b.pc + len + 2) % 4096 ∧ c.levels = b.levels) hk hr rfl hn
        (congrArg (fun d => e.going.modBank e.shadow fun _ => d) (if_pos h0)) rfl hhalt fun q => ⟨rfl, rfl⟩
    · exact completes_issue (op := .repr len r)
        (p := fun c => c.pc = next ∧ c.levels = { start := next, last := (b.pc + 1 + len) % 4096, left := b.getG r - 1 } :: b.levels) hk hr rfl hn
        (congrArg (fun d => e.going.modBank e.shadow fun _ => d) (FeBank.openBlock_opens _ len h0 h1)) rfl hhalt fun q => ⟨rfl, rfl⟩
  · intro hslot hs hm
    have hbm : b = e.shad := by show (u.engine i n).bank (u.engine i n).shadow = _; rw [hs]; rfl
    have := completes_reti hk hr hs hm (Stack.feNext_placed hr rfl rfl (by rw [hs]; exact FeBank.badPlace_reti (hs ▸ hempty) (hs ▸ hslot)))
    rw [← hbm] at this
    exact this

end Sys2Proof.Machine
end

section
/-! SUPPORT. The commands and events of a filter engine: what FE.CMD does once it is taken, and a fill, a trap, an external access
(R256, R270, R277 to R279). -/

namespace Sys2Proof.Machine

variable {i n : Nat}

theorem Stack.modEngine_onlyChanges (s : Stack) (g : Engine → Engine) {P : List Part} {F : List Field} (h : .engines ∈ P) :
    s.OnlyChanges P F (s.modEngine i n g) :=
  ⟨rfl, rfl, fun p hp => by cases p <;> first | rfl | exact absurd h hp, fun _ _ => rfl⟩

/-! ## FE.CMD (R279, R281) -/

/-- FE.CMD with its fields held and RESULT 0. -/
def Stack.feHeld (s : Stack) (i n op fill : Nat) : Stack :=
  s.writes [(FE.CMD_ENGINE i, n), (FE.CMD_OP i, op), (FE.CMD_FILL i, fill), (FE.CMD_STATUS_RESULT i, 0)]

/-- The fields that a command which is taken writes. -/
abbrev feCmdFields (i : Nat) : List Field := [FE.CMD_ENGINE i, FE.CMD_OP i, FE.CMD_FILL i, FE.CMD_STATUS_RESULT i]

theorem Stack.feHeld_onlyChanges (s : Stack) (i n op fill : Nat) {P : List Part} {F : List Field} (hF : ∀ f ∈ feCmdFields i, f ∈ F) :
    s.OnlyChanges P F (s.feHeld i n op fill) :=
  s.writes_onlyChanges _ fun p hp => hF _ (by
    simp only [List.mem_cons, List.not_mem_nil, or_false] at hp
    rcases hp with rfl | rfl | rfl | rfl <;> simp)

theorem Stack.get_result_feHeld (s : Stack) (i n op fill : Nat) : (s.feHeld i n op fill).get (FE.CMD_STATUS_RESULT i) = 0 :=
  Stack.get_put_same _ _ 0

section
variable {s : Stack} {op fill : Nat} {ok : Engine → Bool} {mode : Bool} {f : Stack → Stack}

theorem Stack.feCmd_busy (hb : s.flag (FE.CMD_STATUS_BUSY i) = true) : s.feCmd i n op fill ok mode f = s.raise (FE.CMD_STATUS_OVERRUN i) := by
  unfold Stack.feCmd
  rw [if_pos hb]

/-- A command that the state and the mode permit has its effect. -/
theorem Stack.feCmd_taken (hb : s.flag (FE.CMD_STATUS_BUSY i) = false) (hn : n < 192) (hok : ok (s.engine i n) = true) (hm : mode = true) :
    s.feCmd i n op fill ok mode f = f (s.feHeld i n op fill) := by
  unfold Stack.feCmd
  rw [if_neg (by simp [hb]), if_neg (by omega), if_neg (by simp [hok]), if_neg (by simp [hm])]
  rfl

end

/-- A command that holds its fields and changes its engine. -/
theorem Stack.feHeld_modEngine (s : Stack) (i n op fill : Nat) (g : Engine → Engine) :
    let t := (s.feHeld i n op fill).modEngine i n g
    s.OnlyChanges [.engines] (feCmdFields i) t ∧ (∀ j m, 192 * j + m ≠ 192 * i + n → t.engine j m = s.engine j m) ∧
      t.get (FE.CMD_STATUS_RESULT i) = 0 ∧ t.engine i n = g (s.engine i n) := by
  intro t
  have hE := ((Stack.EngineIs.refl s (i := i) (n := n)).of_engines (t' := s.feHeld i n op fill) rfl).modEngine g
  exact ⟨(s.feHeld_onlyChanges i n op fill fun _ h => h).trans (Stack.modEngine_onlyChanges _ _ (by simp)), hE.others,
    s.get_result_feHeld i n op fill, hE.self⟩

/-- What a RESET leaves of an engine, filling or not (R278, R279). -/
def Engine.atReset (e : Engine) (fill : Bool) : Engine := { thresh := e.thresh, filling := fill || e.filling }

/-- TRAP and STALLS are cleared with an engine (R278, R282). -/
theorem Stack.feClear_does (s : Stack) (i n : Nat) :
    let t := s.feClear i n
    s.OnlyChanges [.engines] [FE.TRAP_CAUSE i n, FE.TRAP_PC i n, FE.TRAP_DOUBLE i n, FE.STALLS_CYCLES i n] t ∧
      t.get (FE.TRAP_CAUSE i n) = 0 ∧ t.get (FE.TRAP_PC i n) = 0 ∧ t.get (FE.TRAP_DOUBLE i n) = 0 ∧ t.get (FE.STALLS_CYCLES i n) = 0 := by
  have hne : ∀ {a b : Nat}, a ≠ b → a + i * 0x80000 + n * 256 ≠ b + i * 0x80000 + n * 256 := by omega
  refine ⟨?_, ?_, ?_, ?_, ?_⟩
  · exact ((((s.modEngine_onlyChanges _ (by simp)).put _ (by simp)).put _ (by simp)).put _ (by simp)).put _ (by simp)
  · exact (Stack.get_put_ne _ _ (hne (by decide))).trans ((Stack.get_put_ne _ _ (hne (by decide))).trans
      ((Stack.get_put_ne _ _ (hne (by decide))).trans (Stack.get_put_same _ _ 0)))
  · exact (Stack.get_put_ne _ _ (hne (by decide))).trans ((Stack.get_put_ne _ _ (hne (by decide))).trans (Stack.get_put_same _ _ 0))
  · exact (Stack.get_put_ne _ _ (hne (by decide))).trans (Stack.get_put_same _ _ 0)
  · exact Stack.get_put_same _ _ 0

/-- RESET, once it is taken: the engine in Reset, TRAP and STALLS cleared, and BUSY with FILL. -/
theorem Stack.feReset_does {s : Stack} (fill : Bool) (hb : s.flag (FE.CMD_STATUS_BUSY i) = false) (hn : n < 192) :
    let t := s.feReset i n fill
    s.OnlyChanges [.engines]
        (feCmdFields i ++ [FE.TRAP_CAUSE i n, FE.TRAP_PC i n, FE.TRAP_DOUBLE i n, FE.STALLS_CYCLES i n, FE.CMD_STATUS_BUSY i]) t ∧
      s.EngineIs i n ((s.engine i n).atReset fill) t ∧ t.get (FE.TRAP_CAUSE i n) = 0 ∧ t.get (FE.TRAP_PC i n) = 0 ∧
      t.get (FE.TRAP_DOUBLE i n) = 0 ∧ t.get (FE.STALLS_CYCLES i n) = 0 ∧ t.flag (FE.CMD_STATUS_BUSY i) = fill := by
  intro t
  have ht : t = bif fill then (((s.feHeld i n 4 (b2n fill)).feClear i n).modEngine i n fun e => { e with filling := true }).put
      (FE.CMD_STATUS_BUSY i) 1 else (s.feHeld i n 4 (b2n fill)).feClear i n := by
    have h : t = _ := Stack.feCmd_taken hb hn rfl rfl
    rw [h]
    cases fill <;> rfl
  have hheld := s.feHeld_onlyChanges i n 4 (b2n fill) (P := [.engines])
    (F := feCmdFields i ++ [FE.TRAP_CAUSE i n, FE.TRAP_PC i n, FE.TRAP_DOUBLE i n, FE.STALLS_CYCLES i n]) fun f hf => by simp only [List.mem_append, hf, true_or]
  have hE := (Stack.EngineIs.refl s (i := i) (n := n)).of_engines (t' := s.feHeld i n 4 (b2n fill)) rfl
  generalize s.feHeld i n 4 (b2n fill) = u at *
  have hcE : s.EngineIs i n (s.engine i n).cleared (u.feClear i n) := (hE.modEngine Engine.cleared).of_engines rfl
  obtain ⟨hframe, g1, g2, g3, g4⟩ := u.feClear_does i n
  have hf := hheld.trans (hframe.mono (fun _ h => h) fun f hf => by simp only [List.mem_append, hf, or_true])
  have hbusy : (u.feClear i n).flag (FE.CMD_STATUS_BUSY i) = false := by
    unfold Stack.flag at hb ⊢
    rw [hf.get_eq (f := FE.CMD_STATUS_BUSY i) (by
      simp only [List.forall_mem_append, List.forall_mem_cons, FE.CMD_ENGINE, FE.CMD_OP, FE.CMD_FILL, FE.CMD_STATUS_RESULT, FE.CMD_STATUS_BUSY,
        FE.TRAP_CAUSE, FE.TRAP_PC, FE.TRAP_DOUBLE, FE.STALLS_CYCLES]
      simp
      omega)]
    exact hb
  have hsub : ∀ f ∈ feCmdFields i ++ [FE.TRAP_CAUSE i n, FE.TRAP_PC i n, FE.TRAP_DOUBLE i n, FE.STALLS_CYCLES i n],
      f ∈ feCmdFields i ++ [FE.TRAP_CAUSE i n, FE.TRAP_PC i n, FE.TRAP_DOUBLE i n, FE.STALLS_CYCLES i n, FE.CMD_STATUS_BUSY i] := fun f hf => by
    simp only [List.mem_append, List.mem_cons] at hf ⊢
    tauto
  rw [ht]
  cases fill with
  | false => exact ⟨hf.mono (fun _ h => h) hsub, hcE, g1, g2, g3, g4, hbusy⟩
  | true =>
    have hne : ∀ c ∈ [0x2808020, 0x2808024, 0x2808030, 0x28080E0], 0x2800020 + i * 0x80000 ≠ c + i * 0x80000 + n * 256 := by
      simp
      omega
    refine ⟨((hf.mono (fun _ h => h) hsub).trans (Stack.modEngine_onlyChanges _ _ (by simp))).put _ (by simp),
      (hcE.modEngine fun e => { e with filling := true }).of_engines rfl, ?_, ?_, ?_, ?_, by simp [Stack.flag, FE.CMD_STATUS_BUSY]⟩
    · exact (Stack.get_put_ne _ _ (hne _ (by simp))).trans g1
    · exact (Stack.get_put_ne _ _ (hne _ (by simp))).trans g2
    · exact (Stack.get_put_ne _ _ (hne _ (by simp))).trans g3
    · exact (Stack.get_put_ne _ _ (hne _ (by simp))).trans g4

theorem Stack.feZero_onlyChanges (s : Stack) (i n : Nat) {F : List Field} : s.OnlyChanges [.mem, .health, .engines] F (s.feZero i n) :=
  ⟨rfl, rfl, fun p hp => by cases p <;> first | rfl | exact absurd (by simp) hp, fun _ _ => rfl⟩

/-- The memories of an engine after a zero fill (R256). -/
theorem Stack.readByte_feZero (s : Stack) (i n a : Nat) :
    (s.feZero i n).readByte a = if feBase i n ≤ a ∧ a < feBase i n + 0x10000 then 0 else s.readByte a :=
  mapGet_mapClear 0 s.mem _ _ a

/-- PORT_CLK's fields in the order of its bits (R282). -/
theorem Stack.fePortClk_inReset {s : Stack} (h : (s.engine i n).st = 0) (v : Nat) :
    s.fePortClk i n v = s.writes
        [(FE.PORT_CLK_IN_DOM_0 i n, bits v 0 3), (FE.PORT_CLK_IN_DOM_1 i n, bits v 3 3), (FE.PORT_CLK_IN_DOM_2 i n, bits v 6 3),
         (FE.PORT_CLK_IN_DOM_3 i n, bits v 9 3), (FE.PORT_CLK_OUT_DOM_0 i n, bits v 12 3), (FE.PORT_CLK_OUT_DOM_1 i n, bits v 15 3),
         (FE.PORT_CLK_OUT_DOM_2 i n, bits v 18 3), (FE.PORT_CLK_OUT_DOM_3 i n, bits v 21 3)] := by
  have hkey : ∀ c, (c + i * 0x80000 + n * 256) % 32 = c % 32 := fun c => by omega
  unfold Stack.fePortClk
  rw [if_neg (by simp [h])]
  simp only [List.foldl, FE.PORT_CLK_IN_DOM_0, FE.PORT_CLK_IN_DOM_1, FE.PORT_CLK_IN_DOM_2, FE.PORT_CLK_IN_DOM_3, FE.PORT_CLK_OUT_DOM_0,
    FE.PORT_CLK_OUT_DOM_1, FE.PORT_CLK_OUT_DOM_2, FE.PORT_CLK_OUT_DOM_3, hkey]
  rfl

end Sys2Proof.Machine
end

section
/-! The statement of the engines' commands. -/

namespace Sys2Proof.Machine

/-- Settles O21: a command that is taken holds its fields and has its effect on the engine, and a fill and the two registers act alone. -/
theorem engineCommandsComplete : Obligations.EngineCommandsComplete := by
  intro s k i n hk u e held names others
  refine ⟨?_, fun hb hn => ⟨?_, ?_, ?_, ?_, ?_⟩, ?_, fun v => ⟨?_, ?_, ?_, ?_⟩⟩
  · rintro hb c (⟨op, fill, rfl⟩ | rfl | rfl | rfl | ⟨fill, rfl⟩)
    all_goals exact exec_eq_of_setStack hk rfl (Stack.feCmd_busy hb)
  · exact fun op fill => exec_eq_of_setStack hk rfl (Stack.feCmd_taken hb hn rfl rfl)
  · intro hst hm
    have hmode : u.feMode = true := by unfold Stack.feMode; rcases hm with h | h <;> simp [h]
    have ht : u.feStart i n = (u.feHeld i n 1 0).modEngine i n fun e =>
        if e.st = 0 then { e with st := 2, main := { e.main with pc := u.get (FE.START_PC_PC i n), f := Option.none } } else { e with st := 2 } := by
      rw [← Stack.get_writes_ne u (l := [(FE.CMD_ENGINE i, n), (FE.CMD_OP i, 1), (FE.CMD_FILL i, 0), (FE.CMD_STATUS_RESULT i, 0)])
        (f := FE.START_PC_PC i n) (by simp [FE.CMD_ENGINE, FE.CMD_OP, FE.CMD_FILL, FE.CMD_STATUS_RESULT, FE.START_PC_PC]; omega)]
      exact Stack.feCmd_taken hb hn (by rcases hst with h | h | h <;> simp [show (u.engine i n).st = _ from h]) hmode
    obtain ⟨hf, ho, hr, he⟩ := u.feHeld_modEngine i n 1 0 fun e =>
        if e.st = 0 then { e with st := 2, main := { e.main with pc := u.get (FE.START_PC_PC i n), f := Option.none } } else { e with st := 2 }
    rw [← ht] at hf ho hr he
    exact completes_of_onStack hk rfl hf ⟨ho, hr, fun h => he.trans (if_neg h), fun h => he.trans (if_pos h)⟩
  · intro hst
    have ht : u.feStop i n = (u.feHeld i n 2 0).modEngine i n fun e => { e with st := 1 } :=
      Stack.feCmd_taken hb hn (by simp [show (u.engine i n).st = 2 from hst]) rfl
    obtain ⟨hf, ho, hr, he⟩ := u.feHeld_modEngine i n 2 0 fun e => { e with st := 1 }
    rw [← ht] at hf ho hr he
    exact completes_of_onStack hk rfl hf ⟨ho, hr, he⟩
  · exact fun hst => exec_eq_of_setStack hk rfl (Stack.feCmd_taken hb hn (beq_iff_eq.2 hst) rfl)
  · intro fill
    obtain ⟨hf, he, hrest⟩ := Stack.feReset_does fill hb hn
    exact completes_of_onStack hk rfl hf ⟨he.others, he.self, hrest⟩
  · intro hfill base
    have ht : u.feFillDone i = ((u.feZero i n).modEngine i n fun e => { e with filling := false }).put (FE.CMD_STATUS_BUSY i) 0 := by
      unfold Stack.feFillDone
      rw [hfill]
    have hE : u.EngineIs i n { e with filling := false } (u.feFillDone i) := by
      rw [ht]
      exact (((Stack.EngineIs.refl u).of_engines (t' := u.feZero i n) rfl).modEngine fun e => { e with filling := false }).of_engines rfl
    refine completes_of_onStack hk rfl (?_ : u.OnlyChanges _ _ (u.feFillDone i)) ⟨?_, hE.others, hE.self, fun a => ?_⟩
    · rw [ht]
      exact ((u.feZero_onlyChanges i n).trans (Stack.modEngine_onlyChanges _ _ (by simp))).put _ (by simp)
    · show (u.feFillDone i).flag _ = _
      rw [ht]
      simp [Stack.flag]
    · show (u.feFillDone i).readByte a = _
      rw [ht]
      exact u.readByte_feZero i n a
  · intro hst
    have h : (s.stack k).feDoorbell i n v = s.stack k := if_pos hst
    exact (exec_eq_of_setStack hk rfl h).trans (by rw [State.setStack_self])
  · intro hst
    have ht : u.feDoorbell i n v = (u.put (FE.DOORBELL_VALUE i n) v).modEngine i n fun e => { e with dbv := v, bell := true } := if_neg hst
    have hE := ((Stack.EngineIs.refl u).of_engines (t' := u.put (FE.DOORBELL_VALUE i n) v) rfl).modEngine (i := i) (n := n)
      fun e => { e with dbv := v, bell := true }
    rw [← ht] at hE
    refine completes_of_onStack hk rfl (?_ : u.OnlyChanges _ _ (u.feDoorbell i n v)) ⟨hE.others, hE.self, ?_⟩
    · rw [ht]
      exact (u.put_onlyChanges _ (by simp)).trans (Stack.modEngine_onlyChanges _ _ (by simp))
    · show (u.feDoorbell i n v).get _ = _
      rw [ht]
      exact Stack.get_put_same _ _ _
  · intro hst
    have h : (s.stack k).fePortClk i n v = s.stack k := if_pos (by simpa using hst)
    exact (exec_eq_of_setStack hk rfl h).trans (by rw [State.setStack_self])
  · exact fun hst => exec_eq_of_setStack hk rfl (Stack.fePortClk_inReset hst v)

end Sys2Proof.Machine
end

section
/-! SUPPORT. Traps, external accesses and stream ports of a filter engine (R269 to R273, R276, R277). -/

namespace Sys2Proof.Machine

variable {i n : Nat}

theorem Stack.EngineIs.setEngine {s t : Stack} {e : Engine} (h : s.EngineIs i n e t) (e' : Engine) : s.EngineIs i n e' (t.setEngine i n e') :=
  h.modEngine fun _ => e'

theorem Stack.setEngine_onlyChanges (s : Stack) (e : Engine) {P : List Part} {F : List Field} (h : .engines ∈ P) :
    s.OnlyChanges P F (s.setEngine i n e) :=
  s.modEngine_onlyChanges (fun _ => e) h

/-- The fault of an engine raises SYS.INT.RECOV and records its event, at most (R270, R271). -/
theorem Stack.engineFault_onlyChanges (s : Stack) (i n cause : Nat) :
    s.OnlyChanges [.ledger] [SYS.INT_RECOV, LEDGER.PEND_HELD, LEDGER.PEND_DROPPED] (s.engineFault i n cause) := by
  unfold Stack.engineFault
  have hr : ∀ own : Bool, s.OnlyChanges [.ledger] [SYS.INT_RECOV, LEDGER.PEND_HELD, LEDGER.PEND_DROPPED] (if own then s.raise SYS.INT_RECOV else s) := by
    intro own
    split
    · exact (Stack.OnlyChanges.refl _ _ _).raise (by simp)
    · exact Stack.OnlyChanges.refl _ _ _
  dsimp only
  split
  · exact (hr _).trans (Stack.event_onlyChanges _ _ (by simp) (by simp) (by simp))
  · exact hr _

/-- The end of a trap: the pending bit of its engine and its fault (R270, R271). -/
theorem Stack.trapEnd_does (u : Stack) (i n cause : Nat) :
    let t := (u.fePend FE.TRAP_PEND_PEND i n).engineFault i n cause
    u.OnlyChanges [.ledger] [FE.TRAP_PEND_PEND i (n / 32), SYS.INT_RECOV, LEDGER.PEND_HELD, LEDGER.PEND_DROPPED] t ∧
      t.get (FE.TRAP_PEND_PEND i (n / 32)) = setBit (u.get (FE.TRAP_PEND_PEND i (n / 32))) (n % 32) true % 2 ^ 32 := by
  intro t
  have hf := (u.fePend FE.TRAP_PEND_PEND i n).engineFault_onlyChanges i n cause
  refine ⟨(Stack.fePend_onlyChanges _ _ (by simp)).trans (hf.mono (fun _ h => h) fun f h => List.mem_cons_of_mem _ h), ?_⟩
  rw [hf.get_eq (f := FE.TRAP_PEND_PEND i (n / 32)) (by simp [FE.TRAP_PEND_PEND, SYS.INT_RECOV, LEDGER.PEND_HELD, LEDGER.PEND_DROPPED]; omega)]
  exact Stack.get_fePend _ _

/-- TRAP's fields are none of those that the end of a trap writes. -/
theorem trapFields_apart {f : Field} {c : Nat} (hf : f.key = c + i * 0x80000 + n * 256) (hc : 0x2808020 ≤ c) :
    ∀ g ∈ [FE.TRAP_PEND_PEND i (n / 32), SYS.INT_RECOV, LEDGER.PEND_HELD, LEDGER.PEND_DROPPED], g.key ≠ f.key := by
  simp only [List.forall_mem_cons, hf, FE.TRAP_PEND_PEND, SYS.INT_RECOV, LEDGER.PEND_HELD, LEDGER.PEND_DROPPED]
  simp
  omega

/-- A trap from the main bank enters the shadow bank and records its cause and address (R270). -/
theorem Stack.feTrap_main {s : Stack} (hsh : (s.engine i n).shadow = false) (cause pc : Nat) :
    let t := s.feTrap i n cause pc
    s.OnlyChanges [.engines, .ledger] [FE.TRAP_CAUSE i n, FE.TRAP_PC i n, FE.TRAP_PEND_PEND i (n / 32), SYS.INT_RECOV, LEDGER.PEND_HELD,
        LEDGER.PEND_DROPPED] t ∧
      s.EngineIs i n ((s.engine i n).enterShadow 0x008) t ∧
      t.get (FE.TRAP_PEND_PEND i (n / 32)) = setBit (s.get (FE.TRAP_PEND_PEND i (n / 32))) (n % 32) true % 2 ^ 32 ∧
      t.get (FE.TRAP_CAUSE i n) = cause % 2 ^ (FE.TRAP_CAUSE i n).width ∧ t.get (FE.TRAP_PC i n) = pc % 2 ^ (FE.TRAP_PC i n).width := by
  intro t
  have ht : t = ((((s.setEngine i n ((s.engine i n).enterShadow 0x008)).put (FE.TRAP_CAUSE i n) cause).put (FE.TRAP_PC i n) pc).fePend
      FE.TRAP_PEND_PEND i n).engineFault i n cause :=
    congrArg (fun u => (Stack.fePend u FE.TRAP_PEND_PEND i n).engineFault i n cause) (if_neg (by simp [hsh]))
  have hE := (Stack.EngineIs.refl s (i := i) (n := n)).setEngine ((s.engine i n).enterShadow 0x008)
  have hu := s.setEngine_onlyChanges (i := i) (n := n) ((s.engine i n).enterShadow 0x008) (P := [.engines]) (F := []) (by simp)
  generalize s.setEngine i n ((s.engine i n).enterShadow 0x008) = u at *
  obtain ⟨hend, hpend⟩ := ((u.put (FE.TRAP_CAUSE i n) cause).put (FE.TRAP_PC i n) pc).trapEnd_does i n cause
  rw [← ht] at hend hpend
  have hpc : (FE.TRAP_PC i n).key ≠ (FE.TRAP_CAUSE i n).key := by simp only [FE.TRAP_PC, FE.TRAP_CAUSE]; omega
  refine ⟨?_, (hE.of_engines (t' := (u.put (FE.TRAP_CAUSE i n) cause).put (FE.TRAP_PC i n) pc) rfl).of_engines (hend.part (p := .engines) (by simp)),
    ?_, ?_, ?_⟩
  · exact ((((hu.mono (by simp) (by simp)).put _ (by simp)).put _ (by simp)).trans (hend.mono (by simp) (by simp)))
  · rw [hpend, Stack.get_put_ne _ _ (by simp only [FE.TRAP_PC, FE.TRAP_PEND_PEND]; omega),
      Stack.get_put_ne _ _ (by simp only [FE.TRAP_CAUSE, FE.TRAP_PEND_PEND]; omega), hu.get_eq (by simp)]
  · rw [hend.get_eq (trapFields_apart rfl (by decide)), Stack.get_put_ne _ _ hpc, Stack.get_put_same]
  · rw [hend.get_eq (trapFields_apart rfl (by decide)), Stack.get_put_same]

/-- A trap in the shadow bank makes its engine Trapped (R270). -/
theorem Stack.feTrap_shadow {s : Stack} (hsh : (s.engine i n).shadow = true) (cause pc : Nat) :
    let t := s.feTrap i n cause pc
    s.OnlyChanges [.engines, .ledger] [FE.TRAP_DOUBLE i n, FE.TRAP_PEND_PEND i (n / 32), SYS.INT_RECOV, LEDGER.PEND_HELD,
        LEDGER.PEND_DROPPED] t ∧
      s.EngineIs i n { s.engine i n with st := 4 } t ∧
      t.get (FE.TRAP_PEND_PEND i (n / 32)) = setBit (s.get (FE.TRAP_PEND_PEND i (n / 32))) (n % 32) true % 2 ^ 32 ∧
      t.get (FE.TRAP_DOUBLE i n) = 1 := by
  intro t
  have ht : t = (((s.setEngine i n { s.engine i n with st := 4 }).put (FE.TRAP_DOUBLE i n) 1).fePend FE.TRAP_PEND_PEND i n).engineFault i n cause :=
    congrArg (fun u => (Stack.fePend u FE.TRAP_PEND_PEND i n).engineFault i n cause) (if_pos hsh)
  have hE := (Stack.EngineIs.refl s (i := i) (n := n)).setEngine { s.engine i n with st := 4 }
  have hu := s.setEngine_onlyChanges (i := i) (n := n) { s.engine i n with st := 4 } (P := [.engines]) (F := []) (by simp)
  generalize s.setEngine i n { s.engine i n with st := 4 } = u at *
  obtain ⟨hend, hpend⟩ := (u.put (FE.TRAP_DOUBLE i n) 1).trapEnd_does i n cause
  rw [← ht] at hend hpend
  refine ⟨?_, (hE.of_engines (t' := u.put (FE.TRAP_DOUBLE i n) 1) rfl).of_engines (hend.part (p := .engines) (by simp)), ?_, ?_⟩
  · exact ((hu.mono (by simp) (by simp)).put _ (by simp)).trans (hend.mono (by simp) (by simp))
  · rw [hpend, Stack.get_put_ne _ _ (by simp only [FE.TRAP_DOUBLE, FE.TRAP_PEND_PEND]; omega), hu.get_eq (by simp)]
  · rw [hend.get_eq (trapFields_apart rfl (by decide)), Stack.get_put_same]
    rfl

/-! ## External accesses (R276, R277) -/

/-- A read whose codewords have no error is performed (R277). -/
theorem Stack.feExtRead_clean {s : Stack} {off len : Nat} (hw : feWindow off len = true) (hc : ∀ c, s.mark c = .ok) :
    s.feExtRead i n off len = { (if 0xC000 ≤ off ∧ (s.engine i n).st ≠ 2 then s.modEngine i n Engine.uncache else s) with
      answer := { status := 0, data := (s.readBytes (feBase i n + off) len).map BitVec.toNat } } := by
  have hbad : ∀ l : List Nat, l.any s.cwBad = false := fun l => by
    rw [List.any_eq_false]
    intro a _
    unfold Stack.cwBad
    rw [hc]
    decide
  unfold Stack.feExtRead
  simp only [hw, Bool.not_true, Bool.false_eq_true, if_false, hbad, Stack.feMeet_clean fun a _ => hc (a / 16)]
  by_cases h : 0xC000 ≤ off ∧ (s.engine i n).st ≠ 2
  · rw [if_pos h, if_pos (by simpa using h)]
    rfl
  · rw [if_neg h, if_neg (by simpa using h)]

/-- The codewords that a write through the window covers, marked: those that it covers whole have valid check bits, the others are read first
(R277, R370). -/
def Stack.markWritten (s : Stack) (a off len : Nat) : Stack :=
  ((List.range ((off % 16 + len + 15) / 16)).map fun j => a / 16 + j).foldl
    (fun s c => if a ≤ 16 * c && decide (16 * c + 16 ≤ a + len) then s.setMark c .ok else s.narrowMark (16 * c)) s

theorem Stack.markWritten_onlyChanges (s : Stack) (a off len : Nat) : s.OnlyChanges [.health, .integ] feErrors (s.markWritten a off len) := by
  unfold Stack.markWritten
  refine List.foldlRecOn _ _ (Stack.OnlyChanges.refl s _ _) fun t h c _ => h.trans ?_
  split
  · exact Stack.setMark_onlyChanges _ _ _ (by simp)
  · exact Stack.narrowMark_onlyChanges _ _ (by simp) (by simp) fun _ h => h

/-- A write to X, Y or C is performed byte for byte (R277). -/
theorem Stack.feExtWrite_data {s : Stack} {off : Nat} {data : List Nat} (hw : feWindow off data.length = true) (ho : off < 0xC000) :
    let t := s.feExtWrite i n off data
    s.OnlyChanges [.mem, .health, .integ, .answer] feErrors t ∧ t.answer = { status := 0, data := [] } ∧
      ∀ a, t.readByte a = if feBase i n + off ≤ a ∧ a < feBase i n + off + data.length
        then BitVec.ofNat 8 (data.getD (a - (feBase i n + off)) 0) else s.readByte a := by
  intro t
  have hm := s.markWritten_onlyChanges (feBase i n + off) off data.length
  have ht : t = { (s.markWritten (feBase i n + off) off data.length).writeBytes (feBase i n + off) (data.map (BitVec.ofNat 8)) with
      answer := { status := 0, data := [] } } := by
    have h1 : ¬0xC000 ≤ off := by omega
    unfold t Stack.feExtWrite
    simp only [hw, h1, decide_false, Bool.not_true, Bool.false_and, Bool.or_self, Bool.false_eq_true, if_false]
    rfl
  generalize s.markWritten (feBase i n + off) off data.length = u at *
  rw [ht]
  refine ⟨?_, rfl, fun a => ?_⟩
  · refine ((hm.mono (by simp) fun _ h => h).trans
      (u.writeBytes_onlyChanges (feBase i n + off) (data.map (BitVec.ofNat 8)) (by simp))).trans ?_
    exact ⟨rfl, rfl, fun p hp => by cases p <;> first | rfl | exact absurd (by simp) hp, fun _ _ => rfl⟩
  · refine (Stack.readByte_writeBytes _ _ _ _).trans ?_
    rw [List.length_map, Stack.readByte_mem (hm.part (p := .mem) (by simp))]
    refine if_congr Iff.rfl ?_ rfl
    exact List.getD_map (d := 0) ..

end Sys2Proof.Machine
end

section
/-! The statement of the engines' events. -/

namespace Sys2Proof.Machine

/-- Settles O22: each event changes its engine, and beside it only what its own fields and memory hold. -/
theorem engineEventsComplete : Obligations.EngineEventsComplete := by
  intro s k i n hk u e others pend enter
  refine ⟨?_, ?_, ?_, ?_, ?_, ?_, ?_, ?_, ?_⟩
  · intro hst hsh hie hip
    have hint : e.interrupts = true := by
      unfold Engine.interrupts
      simp [hsh, hie, hip]
    have hcond : (u.engine i n).st = 2 ∧ (u.engine i n).interrupts = true := ⟨hst, hint⟩
    have ht : u.feInterrupt i n = u.setEngine i n (e.enterShadow 0x004) := if_pos hcond
    have hE := (Stack.EngineIs.refl u).setEngine (i := i) (n := n) (e.enterShadow 0x004)
    rw [← ht] at hE
    exact completes_of_onStack hk rfl (ht ▸ u.setEngine_onlyChanges _ (by simp)) ⟨hE.others, hE.self⟩
  · intro cause hst hsh
    obtain ⟨hf, hE, hp, hc, hpc⟩ := u.feTrap_main hsh cause (e.trapPc cause)
    rw [← show u.feTrapEvent i n cause = _ from if_pos hst] at hf hE hp hc hpc
    refine completes_of_onStack hk rfl hf ⟨hE.others, hp, hE.self, hc, hpc.trans ?_⟩
    unfold Engine.trapPc Engine.bank
    rw [hsh]
    rfl
  · intro cause hst hsh
    obtain ⟨hf, hE, hp, hd⟩ := u.feTrap_shadow hsh cause (e.trapPc cause)
    rw [← show u.feTrapEvent i n cause = _ from if_pos hst] at hf hE hp hd
    exact completes_of_onStack hk rfl hf ⟨hE.others, hp, hE.self, hd⟩
  · intro hst
    have ht : u.feStallRelease i n = u.modEngine i n fun e => { e with stall := 0 } := if_pos hst
    have hE := (Stack.EngineIs.refl u).modEngine (i := i) (n := n) fun e => { e with stall := 0 }
    rw [← ht] at hE
    exact completes_of_onStack hk rfl (ht ▸ u.modEngine_onlyChanges _ (by simp)) ⟨hE.others, hE.self⟩
  · intro off kid len write data hkid
    exact exec_eq_of_setStack hk rfl (if_pos (bne_iff_ne.2 hkid))
  · intro off data hw ho
    obtain ⟨hf, ha, hb⟩ := u.feExtWrite_data (i := i) (n := n) hw ho
    exact completes_of_onStack hk rfl hf ⟨ha, hb⟩
  · intro off len data hw hc
    exact exec_eq_of_setStack hk rfl (Stack.feExtRead_clean hw hc)
  · intro p data mark hst hroom hopen
    have ht : u.streamIn i n p data mark = u.setEngine i n (e.setFifo p (e.fifo p ++ [⟨data % 2 ^ 56, mark⟩])) :=
      if_pos (by simp [show (u.engine i n).st ≠ 0 from hst, show ((u.engine i n).fifo p).length < 16 from hroom, hopen])
    have hE := (Stack.EngineIs.refl u).setEngine (i := i) (n := n) (e.setFifo p (e.fifo p ++ [⟨data % 2 ^ 56, mark⟩]))
    rw [← ht] at hE
    exact completes_of_onStack hk rfl (ht ▸ u.setEngine_onlyChanges _ (by simp)) ⟨hE.others, hE.self⟩
  · intro p q rest hst hq hopen
    have ht : u.streamOut i n p = { u.setEngine i n (e.setFifo (4 + p) rest) with answer := { status := 0, data := [q.data, q.mark] } } := by
      unfold Stack.streamOut
      dsimp only
      rw [show (u.engine i n).fifo (4 + p) = _ from hq]
      exact if_pos (by simp [show (u.engine i n).st ≠ 0 from hst, hopen])
    have hE := ((Stack.EngineIs.refl u).setEngine (i := i) (n := n) (e.setFifo (4 + p) rest)).of_engines (t' := u.streamOut i n p) (by rw [ht])
    refine completes_of_onStack hk rfl (?_ : u.OnlyChanges _ _ (u.streamOut i n p)) ⟨hE.others, hE.self, ?_⟩
    · rw [ht]
      exact ⟨rfl, rfl, fun p hp => by cases p <;> first | rfl | exact absurd (by simp) hp, fun _ _ => rfl⟩
    · show (u.streamOut i n p).answer = _
      rw [ht]

end Sys2Proof.Machine
end

section
/-! SUPPORT. Responses, timers and message vectors at the interfaces of a stack, and HOSTIF's own registers (R329, R330, R541, R548, R549). -/

namespace Sys2Proof.Machine

section
variable {P : List Part} {F : List Field} {s : Stack} {n tag status : Nat} {data : List Nat}

/-! ## Responses (R330) -/

theorem Stack.received_onlyChanges (s : Stack) (n tag : Nat) (h : .rings ∈ P) : s.OnlyChanges P F (s.received n tag) := s.rings_onlyChanges _ h

theorem Stack.cursorAnswer_other (h1 : n ≠ 11) (h2 : n ≠ 12) : s.cursorAnswer n tag status = s := if_pos ⟨h1, h2⟩

@[simp] theorem Stack.ringTag_answered (s : Stack) (status : Nat) (data : List Nat) (n tag : Nat) :
    (s.answered status data).ringTag n tag = s.ringTag n tag := rfl

/-- A response for a tag in flight frees the tag and is handed on. -/
theorem Stack.response_live (h : (s.ringTag n tag).st = 2) : s.response n tag status data = (s.setTag n tag {}).answered status data := if_pos h

/-- A tag that a late response frees, if it was quarantined. -/
def Stack.lateTag (s : Stack) (n tag : Nat) : Stack := if (s.ringTag n tag).st = 3 then s.setTag n tag {} else s

theorem Stack.response_late (h : (s.ringTag n tag).st ≠ 2) :
    s.response n tag status data = ((s.lateTag n tag).bump (RING.ISTAT_LATE n)).raise RING.INT_LATE := if_neg h

theorem Stack.lateTag_onlyChanges (s : Stack) (n tag : Nat) (h : .rings ∈ P) : s.OnlyChanges P F (s.lateTag n tag) := by
  unfold Stack.lateTag
  split
  · exact Stack.setTag_onlyChanges _ _ _ _ h
  · exact Stack.OnlyChanges.refl _ _ _

theorem Stack.ringTag_lateTag (h : (s.ringTag n tag).st = 3) : ((s.lateTag n tag).ringTag n tag).st = 0 := by
  unfold Stack.lateTag
  rw [if_pos h, Stack.ringTag_setTag]

end

/-- A response away from the debug port, or one that is late, acts on its stack alone. -/
theorem State.respond_onStack {s : State} {k : Side} {n tag status : Nat} {data : List Nat} {ack : Bool} {u : Stack}
    (hdbg : n ≠ 15 ∨ ((s.stack k).ringTag n tag).st ≠ 2)
    (hu : (let live := ((s.stack k).ringTag n tag).st == 2
      let x := (s.stack k).received n tag
      let t := Stack.response n tag status data (if live && ack then x.cursorAnswer n tag status else x)
      if live && n == 0 then t.hostDeliver tag status data else t) = u) :
    s.respond k n tag status data ack = s.onStack k fun _ => u := by
  subst hu
  unfold State.respond
  dsimp only
  split
  · rename_i h
    have hn : n ≠ 15 := hdbg.resolve_right (by simpa using h)
    exact if_pos (.inl hn)
  · rfl

/-- What a response does that acts on its stack alone. -/
theorem completes_of_respond {c : Instr} {s : State} {k : Side} {n tag status : Nat} {data : List Nat} {ack : Bool} {u : Stack} {P : List Part}
    {F : List Field} {post : Stack → Prop} (hk : s.hasSide k = true) (hc : exec c s = nextSide s k fun s => s.respond k n tag status data ack)
    (hdbg : n ≠ 15 ∨ ((s.stack k).ringTag n tag).st ≠ 2)
    (hu : (let live := ((s.stack k).ringTag n tag).st == 2
      let x := (s.stack k).received n tag
      let t := Stack.response n tag status data (if live && ack then x.cursorAnswer n tag status else x)
      if live && n == 0 then t.hostDeliver tag status data else t) = u)
    (hf : (s.stack k).OnlyChanges P F u) (hp : post u) : Completes c s k P F post := by
  refine completes_of_onStack (f := fun _ => u) hk ?_ hf hp
  rw [hc, ← State.respond_onStack hdbg hu]
  exact congrArg _ (if_pos hk)

/-! ## Timers (R329) -/

/-- Device time, once it runs, is that of an instant (log 60). -/
theorem Stack.elapse_onlyChanges (s : Stack) (u : Nat) {P : List Part} {F : List Field} (ht : .time ∈ P) (hc : .clk ∈ P) :
    s.OnlyChanges P F (s.elapse u) :=
  ⟨rfl, rfl, fun p hp => by cases p <;> first | rfl | exact absurd ht hp | exact absurd hc hp, fun _ _ => rfl⟩

/-- A timer that expires: device time is that of the expiry, the tag is as the request's injection leaves it, and the initiator receives TIMEOUT. -/
def Stack.timedOut (s : Stack) (n tag : Nat) (x : RingTag) : Stack :=
  (((s.elapse (s.ringTag n tag).due).setTag n tag x).bump (RING.ISTAT_TIMEOUTS n)).answered 2 []

theorem Stack.timedOut_onlyChanges (s : Stack) (n tag : Nat) (x : RingTag) :
    s.OnlyChanges [.rings, .answer, .time, .clk] [RING.ISTAT_TIMEOUTS n] (s.timedOut n tag x) :=
  (((s.elapse_onlyChanges _ (by simp) (by simp)).trans (Stack.setTag_onlyChanges _ _ _ _ (by simp))).bump _ (by simp)).answered _ _ (by simp)

theorem Stack.ringTag_timedOut (s : Stack) (n tag : Nat) (x : RingTag) : (s.timedOut n tag x).ringTag n tag = x :=
  Stack.ringTag_setTag _ _ _ _

/-- Away from the Lacing stop a timer of a request that waits or is in flight expires so. -/
theorem Stack.requestTimeout_expires {s : Stack} {n tag : Nat} (hn : n ≠ 13) (h : (s.ringTag n tag).st = 1 ∨ (s.ringTag n tag).st = 2) :
    s.requestTimeout n tag = s.timedOut n tag (if (s.ringTag n tag).st = 1 then {} else { s.ringTag n tag with st := 3 }) := by
  unfold Stack.requestTimeout
  dsimp only
  rcases h with h | h <;> simp [h, hn, Stack.timedOut]

/-- The timer of a request away from HOSTIF, the media ports, the Lacing stop and the debug port. -/
theorem completes_of_timeout {s : State} {k : Side} {n tag : Nat} {post : Stack → Prop} (hk : s.hasSide k = true) (hn : n ∉ [0, 11, 12, 13, 15])
    (h : ((s.stack k).ringTag n tag).st = 1 ∨ ((s.stack k).ringTag n tag).st = 2)
    (hp : post ((s.stack k).timedOut n tag
      (if ((s.stack k).ringTag n tag).st = 1 then {} else { (s.stack k).ringTag n tag with st := 3 }))) :
    Completes (.requestTimeout k n tag) s k [.rings, .answer, .time, .clk] [RING.ISTAT_TIMEOUTS n] post := by
  simp only [List.mem_cons, List.not_mem_nil, or_false, not_or] at hn
  obtain ⟨h0, h11, h12, h13, h15⟩ := hn
  have hlive : (((s.stack k).ringTag n tag).st == 1 || ((s.stack k).ringTag n tag).st == 2) = true := by simpa using h
  have hst : s.timeout k n tag = s.onStack k fun _ => (s.stack k).timedOut n tag
      (if ((s.stack k).ringTag n tag).st = 1 then {} else { (s.stack k).ringTag n tag with st := 3 }) := by
    unfold State.timeout
    simp only [hlive, if_true, Bool.true_and, beq_iff_eq, h0, if_false]
    refine (if_pos (.inl h15)).trans ?_
    unfold State.onStack
    simp only [Stack.cursorAnswer_other h11 h12, Stack.requestTimeout_expires h13 h]
  refine completes_of_onStack (f := fun _ => _) hk ?_ (Stack.timedOut_onlyChanges _ _ _ _) hp
  rw [← hst]
  exact congrArg _ (if_pos hk)

/-! ## Message vectors (R548, R549) -/

section
variable {s : Stack} {v : Nat}

theorem bit_put (v i : Nat) (hi : i < 32) (b : Bool) : bit (setBit v i b % 2 ^ 32) i = b := by
  rw [bit_eq_testBit, Nat.testBit_mod_two_pow, ← bit_eq_testBit, bit_setBit_same]
  simp [hi]

theorem Stack.setVec_onlyChanges (s : Stack) (v : Nat) (b : Bool) {P : List Part} {F : List Field} (h : HOSTIF.VEC_PEND_PEND (v / 32) ∈ F) :
    s.OnlyChanges P F (s.setVec v b) :=
  s.put_onlyChanges _ h

theorem Stack.vecPending_setVec (s : Stack) (v : Nat) (b : Bool) : (s.setVec v b).vecPending v = b := by
  unfold Stack.vecPending Stack.setVec
  rw [Stack.get_put_same]
  exact bit_put _ _ (Nat.mod_lt _ (by decide)) b

/-- The pending bits lie apart from a vector's configuration and the modules' state. -/
theorem Stack.get_setVec (s : Stack) {v : Nat} (hv : v < 256) (b : Bool) {f : Field} (hf : f.key < 0x701000 ∨ 0x701100 ≤ f.key) :
    (s.setVec v b).get f = s.get f :=
  Stack.get_put_ne _ _ (by simp only [HOSTIF.VEC_PEND_PEND]; omega)

/-- A vector that is not pending becomes so, and its message goes to its core where it is enabled and the link is up (R549). -/
theorem Stack.vecRaise_sent (hp : s.vecPending v = false) (hv : v < 256) (he : s.flag (HOSTIF.VEC_CFG_EN v) = true) (hl : s.linkUp = true) :
    let t := s.vecRaise v
    s.OnlyChanges [.hostif, .answer] [HOSTIF.VEC_PEND_PEND (v / 32)] t ∧ t.vecPending v = true ∧
      t.answer = ⟨0, [v, s.get (HOSTIF.VEC_CFG_CORE v)]⟩ ∧ v ∉ t.hostif.unsent := by
  intro t
  have hcond : ((s.setVec v true).flag (HOSTIF.VEC_CFG_EN v) && (s.setVec v true).linkUp) = true := by
    unfold Stack.flag Stack.linkUp at *
    rw [s.get_setVec hv true (.inr (by simp only [HOSTIF.VEC_CFG_EN]; omega)), s.get_setVec hv true (.inl (by decide)), he, hl]
    rfl
  have ht : t = ({ s.setVec v true with hostif := { s.hostif with unsent := s.hostif.unsent.filter (· != v) } } : Stack).answered 0
      [v, s.get (HOSTIF.VEC_CFG_CORE v)] := by
    have h1 : t = (s.setVec v true).vecSend v := if_neg (by simp [hp])
    rw [h1, ← s.get_setVec hv true (f := HOSTIF.VEC_CFG_CORE v) (.inr (by simp only [HOSTIF.VEC_CFG_CORE]; omega))]
    exact if_pos hcond
  have hset := s.setVec_onlyChanges v true (P := [.hostif, .answer]) (F := [HOSTIF.VEC_PEND_PEND (v / 32)]) (by simp)
  have hpend := s.vecPending_setVec v true
  generalize s.setVec v true = u at *
  rw [ht]
  exact ⟨(hset.trans (u.hostif_onlyChanges _ (by simp))).answered _ _ (by simp), hpend, rfl, by simp [Stack.answered]⟩

/-- Where it is not enabled, its message waits. -/
theorem Stack.vecRaise_waits (hp : s.vecPending v = false) (hv : v < 256) (he : s.flag (HOSTIF.VEC_CFG_EN v) = false) :
    let t := s.vecRaise v
    s.OnlyChanges [.hostif] [HOSTIF.VEC_PEND_PEND (v / 32)] t ∧ t.vecPending v = true ∧ v ∈ t.hostif.unsent := by
  intro t
  have hcond : ((s.setVec v true).flag (HOSTIF.VEC_CFG_EN v) && (s.setVec v true).linkUp) = false := by
    unfold Stack.flag at *
    rw [s.get_setVec hv true (.inr (by simp only [HOSTIF.VEC_CFG_EN]; omega)), he]
    rfl
  have ht : t = (s.setVec v true).vecSend v := if_neg (by simp [hp])
  have hset := s.setVec_onlyChanges v true (P := [.hostif]) (F := [HOSTIF.VEC_PEND_PEND (v / 32)]) (by simp)
  have hpend := s.vecPending_setVec v true
  generalize s.setVec v true = u at *
  have hsend : u.vecSend v = if u.hostif.unsent.contains v then u else { u with hostif := { u.hostif with unsent := u.hostif.unsent ++ [v] } } :=
    if_neg (by simp [hcond])
  rw [ht, hsend]
  split
  · rename_i hmem
    exact ⟨hset, hpend, by simpa using hmem⟩
  · exact ⟨hset.trans (u.hostif_onlyChanges _ (by simp)), hpend, by simp⟩

/-- The line of a vector depends on the registers alone. -/
theorem Stack.vectorLine_congr {s t : Stack} (hr : t.regs = s.regs) (hs : t.side = s.side) (hb : t.build = s.build) (v : Nat) :
    t.vectorLine v = s.vectorLine v := by
  have hget : ∀ f, t.get f = s.get f := Stack.get_of_regs hr
  unfold Stack.vectorLine Stack.sourceLine Stack.intLine Stack.storedWord Stack.flag
  simp only [hget, hs, hb]

/-- VEC_EOI of a pending vector whose line is then low. -/
theorem Stack.vecEoi_ends (hp : s.vecPending v = true) (hl : (s.setVec v false).vectorLine v = false) :
    s.vecEoi v = { s.setVec v false with hostif := { s.hostif with unsent := s.hostif.unsent.filter (· != v) } } := by
  unfold Stack.vecEoi
  rw [if_pos hp]
  exact if_neg (Bool.eq_false_iff.1 ((Stack.vectorLine_congr (s := s.setVec v false) rfl rfl rfl v).trans hl))

end

/-! ## HOSTIF's own registers (R541) -/

section
variable {s : Stack} {core off v : Nat}

theorem ownAddr_target (ho : off < 0x10000) : targetOf (ownAddr off % 2 ^ 44) = .regs ∧ ownLoc (ownAddr off % 2 ^ 44) = true := by
  have hm : ownAddr off % 2 ^ 44 = 0xF000E0000 + off := by unfold ownAddr; omega
  have ht : targetOf (0xF000E0000 + off) = .regs := by
    unfold targetOf
    rw [if_neg (by omega), if_neg (by omega), if_neg (by omega), if_neg (by omega), if_neg (by omega), if_neg (by omega), if_pos (by omega)]
  rw [hm]
  refine ⟨ht, ?_⟩
  unfold ownLoc blockOf
  rw [ht, show (0xF000E0000 + off) / 0x10000 % 0x10000 = 0xE by omega]
  rfl

/-- An access of four bytes to one of HOSTIF's own registers is served there, without the rings. -/
theorem Stack.hostDo_own (hr : s.hostRuns = true) (hl : s.linkUp = true) (hw : s.hostif.waiting = []) (write : Bool) (ho : off < 0x10000)
    (h4 : off % 4 = 0) :
    let r := wordReq core write true (ownAddr off) v
    s.hostDo r = if write then s.ownWrite (Stack.hostAccess 3) r (ofBytes (r.data.map (BitVec.ofNat 8))) else s.ownRead (Stack.hostAccess 3) r := by
  intro r
  obtain ⟨ht, hown⟩ := ownAddr_target ho
  have hn : r.normal = r := HostReq.normal_of_kind (by cases write <;> exact HostKind.noConfusion) (by cases write <;> exact HostKind.noConfusion)
  have haddr : r.addr = ownAddr off := by cases write <;> rfl
  have ha : r.accepted = true := by
    have h0 : ownAddr off % 4 = 0 := by unfold ownAddr; omega
    unfold HostReq.accepted
    simp only [haddr, ht, h0]
    cases write <;> rfl
  unfold Stack.hostDo Stack.hostAccess
  dsimp only
  rw [hn, hr, hl, hw, haddr, hown, ha]
  cases write <;> rfl

theorem ownAddr_off (ho : off < 0x10000) : ownAddr off % 0x10000 = off := by
  unfold ownAddr
  omega

/-- The word that a write to a register carries. -/
theorem ofBytes_wordList (hv : v < 2 ^ 32) : ofBytes ((wordList v).map (BitVec.ofNat 8)) = v := by
  simp only [wordList, List.map, ofBytes, BitVec.toNat_ofNat, bits]
  omega

/-- A write to VEC_EOI (R549). -/
theorem Stack.hostDo_vecEoi (hr : s.hostRuns = true) (hl : s.linkUp = true) (hw : s.hostif.waiting = []) (hv : v < 256) :
    s.hostDo (wordReq core true true (ownAddr 0x220) v) = (s.answered 0 []).vecEoi v := by
  refine (Stack.hostDo_own hr hl hw true (by decide) (by decide)).trans ?_
  have hword : ofBytes ((wordReq core true true (ownAddr 0x220) v).data.map (BitVec.ofNat 8)) = v := ofBytes_wordList (by omega)
  have haddr : (wordReq core true true (ownAddr 0x220) v).addr % 0x10000 = 0x220 := ownAddr_off (by omega)
  rw [if_pos rfl, hword]
  unfold Stack.ownWrite
  dsimp only
  rw [haddr, if_neg (by omega), if_neg (by omega), if_pos rfl, Nat.mod_eq_of_lt hv]

/-- A write to VEC_CFG (R549). -/
theorem Stack.hostDo_vecCfg {w : Nat} (hr : s.hostRuns = true) (hl : s.linkUp = true) (hw : s.hostif.waiting = []) (hv : v < 256)
    (h32 : w < 2 ^ 32) : s.hostDo (wordReq core true true (ownAddr (0x1000 + 4 * v)) w) = (s.answered 0 []).vecCfg v w := by
  refine (Stack.hostDo_own hr hl hw true (by omega) (by omega)).trans ?_
  have hword : ofBytes ((wordReq core true true (ownAddr (0x1000 + 4 * v)) w).data.map (BitVec.ofNat 8)) = w := ofBytes_wordList h32
  have haddr : (wordReq core true true (ownAddr (0x1000 + 4 * v)) w).addr % 0x10000 = 0x1000 + 4 * v := ownAddr_off (by omega)
  rw [if_pos rfl, hword]
  unfold Stack.ownWrite
  dsimp only
  rw [haddr, if_neg (by omega), if_neg (by omega), if_neg (by omega), if_pos (by omega), show (0x1000 + 4 * v - 0x1000) / 4 = v by omega]

end

/-! ## Accesses in flight at HOSTIF (R542) -/

/-- An access that has ended, taken from those in flight. -/
def Stack.landed (s : Stack) (tag : Nat) : Stack := { s with hostif := { s.hostif with out := mapSet [] s.hostif.out tag [] } }

theorem Stack.landed_onlyChanges (s : Stack) (tag : Nat) {P : List Part} {F : List Field} (h : .hostif ∈ P) : s.OnlyChanges P F (s.landed tag) :=
  s.hostif_onlyChanges _ h

@[simp] theorem Stack.ringTag_landed (s : Stack) (n g tag : Nat) : (s.landed tag).ringTag n g = s.ringTag n g := rfl

theorem Stack.landed_out (s : Stack) (tag : Nat) : mapGet [] (s.landed tag).hostif.out tag = [] := by
  simp [Stack.landed]

/-- A load that ends with OK is handed to its core, with nothing waiting (R542). -/
theorem Stack.hostDeliver_load {s : Stack} {tag : Nat} {data : List Nat} {r : HostReq} (hout : mapGet [] s.hostif.out tag = [r])
    (hr : r.isWrite = false) (hw : s.hostif.waiting = []) : s.hostDeliver tag 0 data = (s.landed tag).answered 0 (r.value data) := by
  have hdone : (s.landed tag).hostDone (some tag) r 0 data = (s.landed tag).answered 0 (r.value data) := by
    unfold Stack.hostDone
    rw [hr]
    rfl
  have hwait : ((s.landed tag).answered 0 (r.value data)).hostWaiting = (s.landed tag).answered 0 (r.value data) := by
    unfold Stack.hostWaiting
    rw [show ((s.landed tag).answered 0 (r.value data)).hostif.waiting = [] from hw]
    show ({ (s.landed tag).answered 0 (r.value data) with hostif := { (s.landed tag).hostif with waiting := [] } } : Stack) = _
    rw [← hw]
    rfl
  unfold Stack.hostDeliver
  rw [hout]
  refine (congrArg (fun t : Stack => if t.linkUp then t.hostWaiting else t) hdone).trans ?_
  rw [hwait, ite_self]

end Sys2Proof.Machine
end

section
/-! The statement of responses and vectors. -/

namespace Sys2Proof.Machine

/-- Settles O31: each clause is the equation of its operation under the conditions that it names, with the frames of its updates. -/
theorem responsesAndVectorsComplete : Obligations.ResponsesAndVectorsComplete := by
  refine ⟨fun s k n tag status d data p hk hp => ?_, fun s k tag core addr data hk hst => ?_, fun s k n tag hk hn => ⟨?_, ?_⟩,
    fun s k h hk hu hv => ?_, fun s k h v c hk hp hc => ?_, fun s k core v hk hr hl hw hv hp hline => ?_,
    fun s k core v w hk hr hl hw hv h32 hun => ?_, fun s hm hsw hwp => ?_⟩
  · have hexec : ∃ ack, exec p.1 s = nextSide s k fun s => s.respond k n tag status p.2 ack := by
      simp only [List.mem_cons, List.not_mem_nil, or_false] at hp
      rcases hp with rfl | rfl | rfl
      · exact ⟨false, rfl⟩
      · exact ⟨false, rfl⟩
      · exact ⟨true, rfl⟩
    obtain ⟨ack, hexec⟩ := hexec
    refine ⟨fun hst hn => ?_, fun hst => ?_⟩
    · simp only [List.mem_cons, List.not_mem_nil, or_false, not_or] at hn
      obtain ⟨h0, h11, h12, h15⟩ := hn
      refine completes_of_respond (u := (((s.stack k).received n tag).setTag n tag {}).answered status p.2) hk hexec (.inl h15) ?_ ?_ ?_
      · have hz : (n == 0) = false := by simpa using h0
        simp only [Stack.cursorAnswer_other h11 h12, ite_self, hz, Bool.and_false, Bool.false_eq_true, if_false]
        exact Stack.response_live hst
      · exact ((Stack.received_onlyChanges _ _ _ (by simp)).trans (Stack.setTag_onlyChanges _ _ _ _ (by simp))).answered _ _ (by simp)
      · exact ⟨congrArg RingTag.st (Stack.ringTag_setTag ..), rfl⟩
    · have hlive : (((s.stack k).ringTag n tag).st == 2) = false := by simpa using hst
      refine completes_of_respond (u := ((((s.stack k).received n tag).lateTag n tag).bump (RING.ISTAT_LATE n)).raise RING.INT_LATE) hk hexec
        (.inr hst) ?_ ?_ ⟨Stack.get_raise_same _ _, fun h3 => ?_⟩
      · simp only [hlive, Bool.false_and, Bool.false_eq_true, if_false]
        exact Stack.response_late hst
      · exact (((Stack.received_onlyChanges _ _ _ (by simp)).trans (Stack.lateTag_onlyChanges _ _ _ (by simp))).bump _ (by simp)).raise (by simp)
      · exact Stack.ringTag_lateTag (s := (s.stack k).received n tag) h3
  · intro r hout hw
    refine completes_of_respond (ack := false) hk rfl (.inl (by decide)) (u :=
      (((((s.stack k).received 0 tag).setTag 0 tag {}).answered 0 data).landed tag).answered 0 data) ?_ ?_ ?_
    · have hlive : (((s.stack k).ringTag 0 tag).st == 2) = true := by simpa using hst
      simp only [hlive, Bool.and_false, Bool.false_eq_true, if_false, Bool.true_and, beq_self_eq_true, if_true]
      rw [Stack.response_live (s := (s.stack k).received 0 tag) hst]
      exact Stack.hostDeliver_load (r := r) hout rfl hw
    · exact ((((Stack.received_onlyChanges _ _ _ (by simp)).trans (Stack.setTag_onlyChanges _ _ _ _ (by simp))).answered _ _ (by simp)).trans
        (Stack.landed_onlyChanges _ _ (by simp))).answered _ _ (by simp)
    · exact ⟨by simp, rfl, Stack.landed_out _ _⟩
  · intro hst
    refine completes_of_timeout hk hn (.inl hst) ⟨rfl, rfl, ?_, rfl⟩
    rw [Stack.ringTag_timedOut, if_pos hst]
  · intro hst
    refine completes_of_timeout hk hn (.inr hst) ⟨rfl, rfl, ?_, rfl⟩
    rw [Stack.ringTag_timedOut, if_neg (by omega)]
  · refine completes_of_uncarried hk rfl hu (if_pos hv) (((Stack.OnlyChanges.refl _ _ _).bump _ (by simp)).raise (by simp)) ⟨?_, Stack.get_raise_same _ _⟩
    exact (Stack.get_raise_ne _ (by decide)).trans (Stack.get_bump_sat _ _ _)
  · obtain ⟨f, hexec, hf⟩ : ∃ f : Stack → Stack, exec c s = .next (s.onStack k f) ∧ f (s.stack k) = (s.stack k).vecRaise v := by
      rcases hc with ⟨rfl, hu, rfl, hv⟩ | ⟨rfl, hline⟩
      · exact ⟨_, rfl, (Stack.serve_uncarried hu _).trans (if_neg (by omega))⟩
      · exact ⟨_, rfl, if_pos hline⟩
    refine ⟨fun he hl hv => ?_, fun he hv => ?_⟩
    · obtain ⟨hframe, hpost⟩ := Stack.vecRaise_sent hp hv he hl
      exact completes_of_onStack hk hexec (hf ▸ hframe) (hf ▸ hpost)
    · obtain ⟨hframe, hpost⟩ := Stack.vecRaise_waits hp hv he
      exact completes_of_onStack hk hexec (hf ▸ hframe) (hf ▸ hpost)
  · have hdo : (s.stack k).hostDo (wordReq core true true (ownAddr 0x220) v) = _ :=
      (Stack.hostDo_vecEoi hr hl hw hv).trans (Stack.vecEoi_ends (s := (s.stack k).answered 0 []) hp
        ((Stack.vectorLine_congr (s := (s.stack k).setVec v false) rfl rfl rfl v).trans hline))
    refine completes_of_onStack (f := Stack.hostDo _) hk rfl ?_ ?_ <;> rw [hdo]
    · exact (((s.stack k).answered_onlyChanges 0 [] (by simp)).trans (Stack.setVec_onlyChanges _ v false (by simp))).trans
        (Stack.hostif_onlyChanges _ _ (by simp))
    · exact ⟨Stack.vecPending_setVec _ v false, by simp, rfl⟩
  · have hwait : (s.stack k).hostif.unsent.contains v ≠ true := by simpa using hun
    have hdo : (s.stack k).hostDo (wordReq core true true (ownAddr (0x1000 + 4 * v)) w) = _ :=
      (Stack.hostDo_vecCfg hr hl hw hv h32).trans (if_neg hwait)
    refine completes_of_onStack (f := Stack.hostDo _) hk rfl ?_ ?_ <;> rw [hdo]
    · exact ((((s.stack k).answered_onlyChanges 0 [] (by simp)).put _ (by simp)).put _ (by simp)).put _ (by simp)
    · have hkey : (HOSTIF.VEC_CFG_EN v).key ≠ (HOSTIF.VEC_CFG_CORE v).key ∧ (HOSTIF.VEC_CFG_CORE v).key ≠ (HOSTIF.VEC_CFG_WAKE v).key ∧
          (HOSTIF.VEC_CFG_EN v).key ≠ (HOSTIF.VEC_CFG_WAKE v).key := by simp [HOSTIF.VEC_CFG_EN, HOSTIF.VEC_CFG_CORE, HOSTIF.VEC_CFG_WAKE]
      obtain ⟨k1, k2, k3⟩ := hkey
      refine ⟨?_, ?_, Stack.get_put_same _ _ _, rfl⟩
      · rw [Stack.get_put_ne _ _ (Ne.symm k3), Stack.get_put_ne _ _ (Ne.symm k1), Stack.get_put_same]
        rfl
      · rw [Stack.get_put_ne _ _ (Ne.symm k2), Stack.get_put_same]
        rfl
  · refine ⟨_, congrArg Host.Outcome.next (if_pos ⟨hm, hsw, .inl hwp⟩), s.onBoth_keeps _, fun k hk => ?_⟩
    unfold State.startWake
    rw [s.onBoth_stack _ hk]
    exact ⟨rfl, Stack.get_put_same _ _ _, (Stack.sys_onlyChanges _ _ (by simp)).put 1 (by simp)⟩

end Sys2Proof.Machine
end

section
/-! SUPPORT. The UCIe link, HOSTIF's windows, the fence and the debug port (R538, R539, R544 to R546, R593). -/

namespace Sys2Proof.Machine

section
variable {P : List Part} {F : List Field} {s : Stack} {core n v : Nat}

/-! ## Modules (R538, R539) -/

/-- What the state of the modules holds after one comes up or goes down. -/
theorem Stack.get_setModule (s : Stack) (m : Nat) (up : Bool) :
    (s.setModule m up).get HOSTIF.UCIE_STAT_MODULES = setBit (s.get HOSTIF.UCIE_STAT_MODULES) m up % 4 := Stack.get_put_same _ _ _

theorem Stack.setModule_onlyChanges (s : Stack) (m : Nat) (up : Bool) (h : HOSTIF.UCIE_STAT_MODULES ∈ F) :
    s.OnlyChanges P F (s.setModule m up) := s.put_onlyChanges _ h

/-- A module of two goes down: the link runs on the other one. -/
theorem Stack.moduleDown_degrades {m : Nat} (hm : m < 2) (h : s.get HOSTIF.UCIE_STAT_MODULES = 3) :
    s.moduleDown m = (s.setModule m false).raise HOSTIF.INT_DEGRADED ∧ (s.setModule m false).get HOSTIF.UCIE_STAT_MODULES = 3 - 2 ^ m := by
  have hget : (s.setModule m false).get HOSTIF.UCIE_STAT_MODULES = 3 - 2 ^ m := by
    rw [Stack.get_setModule, h]
    interval_cases m <;> decide
  have hlink : (s.setModule m false).linkUp = true := by
    unfold Stack.linkUp
    rw [hget]
    interval_cases m <;> decide
  have hbit : bit (s.get HOSTIF.UCIE_STAT_MODULES) m = true := by
    rw [h]
    interval_cases m <;> decide
  exact ⟨(if_pos hbit).trans (if_pos hlink), hget⟩

/-- The only module up goes down: there is no link. -/
theorem Stack.moduleDown_ends {m : Nat} (hm : m < 2) (h : s.get HOSTIF.UCIE_STAT_MODULES = 2 ^ m) :
    s.moduleDown m = s.setModule m false ∧ (s.setModule m false).linkUp = false := by
  have hlink : (s.setModule m false).linkUp = false := by
    unfold Stack.linkUp
    rw [Stack.get_setModule, h]
    interval_cases m <;> decide
  have hbit : bit (s.get HOSTIF.UCIE_STAT_MODULES) m = true := by
    rw [h]
    interval_cases m <;> decide
  exact ⟨(if_pos hbit).trans (if_neg (Bool.eq_false_iff.1 hlink)), hlink⟩

/-- A fault of the device, outside Haven and with no recovery in progress, starts its recovery, which is Haven (R45). -/
theorem Stack.fault_device_starts {block cause : Nat} (hm : s.mode ≠ .haven) (hr : s.sys.recoveries = []) :
    ∃ t : Stack, s.fault .device block cause 0 0 = t.enterHaven := by
  have hkind : s.faultKind .device = .starts := by simp [Stack.faultKind, hm, hr]
  unfold Stack.fault Stack.faultLoads Stack.outermost
  dsimp only
  rw [hkind]
  exact ⟨_, rfl⟩

/-- With nothing waiting, no access is performed. -/
theorem Stack.hostWaiting_none (h : s.hostif.waiting = []) : s.hostWaiting = s := by
  unfold Stack.hostWaiting
  rw [h]
  show ({ s with hostif := { s.hostif with waiting := [] } } : Stack) = s
  rw [← h]

/-- A module retrains with nothing waiting. -/
theorem Stack.moduleUp_idle {m rate : Nat} (hm : m < s.build.modules) (hr : s.hostRuns = true) (hd : s.mode ≠ .dawn)
    (hun : s.hostif.unsent = []) (hw : s.hostif.waiting = []) :
    s.moduleUp m rate = (s.setModule m true).put HOSTIF.UCIE_STAT_RATE rate := by
  unfold Stack.moduleUp
  rw [if_neg (by simp [hr, hd]; omega)]
  dsimp only
  rw [show ((s.setModule m true).put HOSTIF.UCIE_STAT_RATE rate).hostif.unsent = [] from hun]
  exact Stack.hostWaiting_none hw

/-! ## Windows (R544, R545) -/

theorem Stack.winFlush_none (h : mapGet [] s.hostif.windows n = []) : s.winFlush n = s := by
  unfold Stack.winFlush
  rw [h]

/-- The stack with a window's collected bytes taken from it. -/
def Stack.winEmptied (s : Stack) (n : Nat) : Stack := { s with hostif := { s.hostif with windows := mapSet [] s.hostif.windows n [] } }

theorem Stack.winEmptied_onlyChanges (s : Stack) (n : Nat) (h : .hostif ∈ P) : s.OnlyChanges P F (s.winEmptied n) := s.hostif_onlyChanges _ h

theorem Stack.winEmptied_windows (s : Stack) (n : Nat) : mapGet [] (s.winEmptied n).hostif.windows n = [] := by
  simp [Stack.winEmptied]

/-- The WRITE of a window's collected bytes. -/
abbrev Stack.winWrite (s : Stack) (n a : Nat) (bytes : List Nat) : HostReq :=
  { kind := .store, core := mapGet 0 s.hostif.cores n, size := bytes.length, addr := a, data := bytes, window := true }

/-- The bytes that a window has collected go out as one WRITE under the lowest free tag. -/
theorem Stack.winFlush_sends {a x g : Nat} {l : Sparse Nat} (h : mapGet [] s.hostif.windows n = (a, x) :: l)
    (hm : s.hostServes (s.winWrite n a (((a, x) :: l).map fun p => p.2 - 1)) = true)
    (hg : ((List.range 1024).find? fun g => (s.ringTag 0 g).st == 0) = some g)
    (he : s.interfaceError ((s.winWrite n a (((a, x) :: l).map fun p => p.2 - 1)).header g).1
      ((s.winWrite n a (((a, x) :: l).map fun p => p.2 - 1)).header g).2 = false) :
    let r := s.winWrite n a (((a, x) :: l).map fun p => p.2 - 1)
    s.winFlush n = ((s.winEmptied n).inject (r.header g).1 (r.header g).2 0 true).inFlight g r := by
  intro r
  have hsend : (s.winEmptied n).hostSend' r = ((s.winEmptied n).inject (r.header g).1 (r.header g).2 0 true).inFlight g r := by
    unfold Stack.hostSend'
    rw [show ((List.range 1024).find? fun g => ((s.winEmptied n).ringTag 0 g).st == 0) = some g from hg]
    exact if_neg (Bool.eq_false_iff.1 he)
  unfold Stack.winFlush
  rw [h]
  exact (if_pos hm).trans hsend

/-- A write to a window's address, with nothing collected (R545). -/
theorem Stack.hostDo_winMove (hr : s.hostRuns = true) (hl : s.linkUp = true) (hw : s.hostif.waiting = []) (hn : n < 4) (hv : v < 2 ^ 32)
    (he : mapGet [] s.hostif.windows n = []) (hi : Bool) :
    s.hostDo (wordReq core true true (ownAddr (16 * n + 4 * b2n hi)) v) =
      if hi then ((s.answered 0 []).put (HOSTIF.WIN_ADDR_HI_ADDR n) v).put (HOSTIF.WIN_ADDR_HI_AUTOINC n) (v / 2 ^ 31)
      else (s.answered 0 []).put (HOSTIF.WIN_ADDR_LO_ADDR n) v := by
  have hb : b2n hi < 2 := by cases hi <;> decide
  refine (Stack.hostDo_own hr hl hw true (by omega) (by omega)).trans ?_
  have hword : ofBytes ((wordReq core true true (ownAddr (16 * n + 4 * b2n hi)) v).data.map (BitVec.ofNat 8)) = v := ofBytes_wordList hv
  have haddr : (wordReq core true true (ownAddr (16 * n + 4 * b2n hi)) v).addr % 0x10000 = 16 * n + 4 * b2n hi := ownAddr_off (by omega)
  rw [if_pos rfl, hword]
  unfold Stack.ownWrite
  dsimp only
  rw [haddr, if_neg (by omega), if_pos (by omega), show (16 * n + 4 * b2n hi) / 16 = n by omega,
    show ((16 * n + 4 * b2n hi) % 16 == 4) = hi by cases hi <;> simp [b2n]]
  unfold Stack.winMove
  dsimp only
  rw [Stack.winFlush_none (s := s.answered 0 []) he]

/-- The bytes of a word as a window collects them. -/
def wordCells (a v : Nat) : Sparse Nat := [(a, v % 256 + 1), (a + 1, v / 2 ^ 8 % 256 + 1), (a + 2, v / 2 ^ 16 % 256 + 1), (a + 3, v / 2 ^ 24 % 256 + 1)]

theorem wordCells_collected (a v : Nat) :
    ((wordList v).zipIdx).foldl (fun m p => mapInsert (a + p.2) (p.1 + 1) m) ([] : Sparse Nat) = wordCells a v := by
  simp [wordList, wordCells, List.zipIdx, mapInsert, bits, Nat.shiftRight_eq_div_pow]

/-- A window with a word collected. -/
def Stack.winCollected (s : Stack) (core n a v : Nat) : Stack :=
  { s with hostif := { s.hostif with windows := mapSet [] s.hostif.windows n (wordCells a v), cores := mapSet 0 s.hostif.cores n core } }

theorem Stack.winCollected_windows (s : Stack) (core n a v : Nat) :
    mapGet [] (s.winCollected core n a v).hostif.windows n = wordCells a v := by
  simp [Stack.winCollected]

theorem Stack.winAddr_aligned (s : Stack) (n : Nat) : s.winAddr n % 4 = 0 := by unfold Stack.winAddr; omega

/-- A window's address written. -/
def Stack.winAt (s : Stack) (n a : Nat) : Stack := (s.put (HOSTIF.WIN_ADDR_LO_ADDR n) a).put (HOSTIF.WIN_ADDR_HI_ADDR n) (a / 2 ^ 32)

theorem Stack.winAddr_winAt (s : Stack) (n : Nat) {a : Nat} (ha : a < 2 ^ 48) (h4 : a % 4 = 0) : (s.winAt n a).winAddr n = a := by
  unfold Stack.winAddr Stack.winAt
  rw [Stack.get_put_same, Stack.get_put_ne _ _ (by simp [HOSTIF.WIN_ADDR_HI_ADDR, HOSTIF.WIN_ADDR_LO_ADDR]), Stack.get_put_same]
  simp only [HOSTIF.WIN_ADDR_HI_ADDR, HOSTIF.WIN_ADDR_LO_ADDR]
  omega

/-- A write to a window's data that stays inside its block, with nothing collected before (R544, R545). -/
theorem Stack.hostDo_winData (hr : s.hostRuns = true) (hl : s.linkUp = true) (hw : s.hostif.waiting = []) (hn : n < 4) (hv : v < 2 ^ 32)
    (he : mapGet [] s.hostif.windows n = []) (hinc : s.flag (HOSTIF.WIN_ADDR_HI_AUTOINC n) = true) (ha : s.winAddr n < 2 ^ 48 - 64)
    (hreg : targetOf (s.winAddr n % 2 ^ 44) ≠ .regs) (hin : s.winAddr n % 64 < 60) :
    s.hostDo (wordReq core true true (ownAddr (16 * n + 8)) v) =
      ((((s.answered 0 []).winCollected core n (s.winAddr n) v).winAt n (s.winAddr n + 4)).answered 0 []) := by
  refine (Stack.hostDo_own hr hl hw true (by omega) (by omega)).trans ?_
  have hword : ofBytes ((wordReq core true true (ownAddr (16 * n + 8)) v).data.map (BitVec.ofNat 8)) = v := ofBytes_wordList hv
  have haddr : (wordReq core true true (ownAddr (16 * n + 8)) v).addr % 0x10000 = 16 * n + 8 := ownAddr_off (by omega)
  have ha4 : s.winAddr n % 4 = 0 := by unfold Stack.winAddr; omega
  rw [if_pos rfl, hword]
  unfold Stack.ownWrite
  dsimp only
  rw [haddr, if_pos (by omega), show (16 * n + 8) / 16 = n by omega]
  have hcollect : (true && (s.answered 0 []).flag (HOSTIF.WIN_ADDR_HI_AUTOINC n) && !(targetOf ((s.answered 0 []).winAddr n % 2 ^ 44) == .regs)) = true := by
    rw [show (s.answered 0 []).flag (HOSTIF.WIN_ADDR_HI_AUTOINC n) = true from hinc, show (s.answered 0 []).winAddr n = s.winAddr n from rfl]
    simpa using hreg
  have hcells : ((wordList v).zipIdx).foldl (fun m p => mapInsert ((s.answered 0 []).winAddr n + p.2) (p.1 + 1) m)
      (mapGet [] (s.answered 0 []).hostif.windows n) = wordCells (s.winAddr n) v := by
    rw [show mapGet [] (s.answered 0 []).hostif.windows n = [] from he]
    exact wordCells_collected _ _
  have hnext : ((s.answered 0 []).winCollected core n (s.winAddr n) v).winNext n =
      ((s.answered 0 []).winCollected core n (s.winAddr n) v).winAt n (s.winAddr n + 4) := if_pos hinc
  unfold Stack.winAccess
  rw [if_pos hcollect]
  dsimp only
  rw [hcells]
  refine (congrArg (fun t : Stack => if (t.answered 0 []).winAddr n % 64 = 0 then (t.answered 0 []).winFlush n else t.answered 0 []) hnext).trans ?_
  refine if_neg ?_
  show ¬(Stack.winAt _ n (s.winAddr n + 4)).winAddr n % 64 = 0
  rw [Stack.winAddr_winAt _ _ (by omega) (by omega)]
  omega

/-! ## The fence (R546) -/

/-- A read of FENCE with nothing collected, no write in flight and no fence before it returns at once. -/
theorem Stack.fence_returns (hw : ∀ n < 4, mapGet [] s.hostif.windows n = []) (hf : s.hostif.fences = [])
    (ho : ∀ e ∈ s.hostif.out, e.2.any HostReq.isWrite = false) :
    s.fence = ({ s with hostif := { s.hostif with fenceStatus := 0, fenceFailed := 0 } } : Stack).fenceReturn
      { wait := [], status := s.hostif.fenceStatus, failed := s.hostif.fenceFailed } := by
  have hflush : [0, 1, 2, 3].foldl Stack.winFlush s = s := by
    simp only [List.foldl, Stack.winFlush_none (hw 0 (by decide)), Stack.winFlush_none (hw 1 (by decide)),
      Stack.winFlush_none (hw 2 (by decide)), Stack.winFlush_none (hw 3 (by decide))]
  have hwait : (s.hostif.out.filter fun e => e.2.any HostReq.isWrite).map (·.1) = [] := by
    rw [List.filter_eq_nil_iff.2 fun e he => by simp [ho e he]]
    rfl
  unfold Stack.fence
  dsimp only
  rw [hflush, hwait]
  exact if_pos ⟨rfl, hf⟩

theorem Stack.hostDo_fence (hr : s.hostRuns = true) (hl : s.linkUp = true) (hw : s.hostif.waiting = []) :
    s.hostDo (wordReq core false true (ownAddr 0x100) 0) = s.fence := by
  refine (Stack.hostDo_own hr hl hw false (by decide) (by decide)).trans ?_
  have haddr : (wordReq core false true (ownAddr 0x100) 0).addr % 0x10000 = 0x100 := ownAddr_off (by omega)
  rw [if_neg (by decide)]
  unfold Stack.ownRead
  dsimp only
  rw [haddr, if_neg (by omega), if_pos rfl]

/-! ## The debug port's access (R593) -/

/-- An access of the debug port, taken: the last result captured, and the request of the new one on its way from stop 15. -/
def Stack.debugIssued (s : Stack) (op : Nat) (h : Header) (g addr : Nat) : Stack :=
  let t := s.shifted 0x20 [s.jtag.dbgStatus, s.jtag.dbgData, 1]
  let u : Stack := { t.inject op h 9 true with answer := t.answer }
  { u with jtag := { u.jtag with dbgDone := false, dbgOut := some (.recto, g), dbgAddr := addr } }

/-- A request under a free tag changes the rings, and the count of its regulator's waits; its tag is busy where the regulator holds its tokens,
and waits where not. -/
theorem Stack.inject_free {op reg : Nat} {h : Header} (hr : .rings ∈ P) (hw : RING.REG_STAT_WAITS reg ∈ F)
    (hg : (s.ringTag h.src h.tag).st = 0) (htake : takesTag op = true) (he : s.interfaceError op h = false) :
    s.OnlyChanges P F (s.inject op h reg true) ∧
      ((s.inject op h reg true).ringTag h.src h.tag).st = if s.tokensFor reg (1 + h.len) then 2 else 1 := by
  have hfree : (s.ringTag h.src h.tag).st < 2 := by omega
  cases hk : s.tokensFor reg (1 + h.len) with
  | true =>
    rw [Stack.inject_sent hfree he (.inl rfl) hk, if_pos htake, Stack.ringTag_setTag]
    exact ⟨(s.sent_onlyChanges _ _ _ hr).trans (Stack.setTag_onlyChanges _ _ _ _ hr), rfl⟩
  | false =>
    rw [Stack.inject_waits hfree he htake hk, Stack.ringTag_setTag]
    exact ⟨(s.waitCounted_onlyChanges _ _ hw).trans (Stack.setTag_onlyChanges _ _ _ _ hr), rfl⟩

theorem Stack.debugIssued_facts {op g addr : Nat} {h : Header} (hs : h.src = 15) (ht : h.tag = g) (hg : (s.ringTag 15 g).st = 0)
    (htake : takesTag op = true) (he : s.interfaceError op h = false) :
    let t := s.debugIssued op h g addr
    s.OnlyChanges [.jtag, .rings, .answer] [RING.REG_STAT_WAITS 9] t ∧
      t.jtag = { s.jtag with ir := 0x20, dbgDone := false, dbgOut := some (.recto, g), dbgAddr := addr } ∧
      t.answer = ⟨0, [s.jtag.dbgStatus, s.jtag.dbgData, 1]⟩ ∧ (t.ringTag 15 g).st = if s.tokensFor 9 (1 + h.len) then 2 else 1 := by
  subst ht
  let t := s.shifted 0x20 [s.jtag.dbgStatus, s.jtag.dbgData, 1]
  have hbegun : s.OnlyChanges [.jtag, .rings, .answer] [RING.REG_STAT_WAITS 9] t :=
    (Stack.shifted_onlyChanges s 0x20 _).mono (by simp) (by simp)
  have hfree : (t.ringTag h.src h.tag).st = 0 := by rw [hs]; exact hg
  obtain ⟨hframe, hst⟩ := Stack.inject_free (P := [.rings]) (F := [RING.REG_STAT_WAITS 9]) (reg := 9) (by simp) (by simp) hfree htake
    (show t.interfaceError op h = false from he)
  rw [hs] at hst
  have hjtag : (t.inject op h 9 true).jtag = t.jtag := hframe.part (p := .jtag) (by simp)
  refine ⟨?_, ?_, rfl, hst⟩
  · exact ((hbegun.trans (hframe.mono (by simp) (by simp))).trans (Stack.answered_onlyChanges _ t.answer.status t.answer.data (by simp))).trans
      (Stack.jtag_onlyChanges _ _ (by simp))
  · show ({ (t.inject op h 9 true).jtag with dbgDone := false, dbgOut := some (.recto, h.tag), dbgAddr := addr } : Jtag) = _
    rw [hjtag]
    rfl

end

/-- An open port with no access in flight issues its access under the lowest free tag. -/
theorem State.debugAccess_issues {s : State} {addr v g : Nat} {write : Bool} (hm : s.recto.mode ∈ [Mode.workshop, Mode.haven])
    (ho : s.recto.flag TEST.JTAG_STAT_OPEN = true) (hd : s.recto.jtag.dbgDone = true)
    (ha : (wordReq 0 write (targetOf (addr % 2 ^ 44) == .regs) addr v).accepted = true)
    (hg : ((List.range 1024).find? fun g => (s.recto.ringTag 15 g).st == 0) = some g)
    (he : s.recto.interfaceError ((wordReq 0 write (targetOf (addr % 2 ^ 44) == .regs) addr v).header g).1
      { ((wordReq 0 write (targetOf (addr % 2 ^ 44) == .regs) addr v).header g).2 with src := 15 } = false) :
    s.debugAccess .recto addr write v = s.onStack .recto fun t =>
      t.debugIssued ((wordReq 0 write (targetOf (addr % 2 ^ 44) == .regs) addr v).header g).1
        { ((wordReq 0 write (targetOf (addr % 2 ^ 44) == .regs) addr v).header g).2 with src := 15 } g addr := by
  have hup : s.portUp = true := by
    rcases List.mem_cons.1 hm with h | h
    · simp [State.portUp, h]
    · simp [State.portUp, List.mem_singleton.1 h]
  have hopen : ¬ ((!s.recto.flag TEST.JTAG_STAT_OPEN) = true ∨ s.recto.modeIn [.workshop, .haven] = false) := by
    have hin : s.recto.modeIn [.workshop, .haven] = true := by simpa [Stack.modeIn] using hm
    simp [ho, hin]
  unfold State.debugAccess
  rw [if_neg (by simp [hup]), if_neg hopen]
  dsimp only
  rw [show (s.setIr 0x20).recto.jtag.dbgDone = true from hd, if_neg (by decide), ite_self]
  rw [show ((List.range 1024).find? fun g => ((((s.setIr 0x20).onStack .recto fun t => t.answered 0
    [(s.setIr 0x20).recto.jtag.dbgStatus, (s.setIr 0x20).recto.jtag.dbgData, b2n true]).stack .recto).ringTag 15 g).st == 0) = some g from hg, ha]
  exact (if_neg (Bool.eq_false_iff.1 he)).trans rfl

/-- A port that is up and locked acts as BYPASS (R593). -/
theorem State.debugAccess_locked {s : State} (hm : s.recto.mode ≠ .off) (ho : s.recto.flag TEST.JTAG_STAT_OPEN = false) (k : Side) (addr v : Nat)
    (write : Bool) : s.debugAccess k addr write v = s.bypass := by
  unfold State.debugAccess
  rw [if_neg (by simp [State.portUp, hm]), if_pos (by simp [ho])]

end Sys2Proof.Machine
end

section
/-! The statement of the windows, the fence and the link. -/

namespace Sys2Proof.Machine

/-- Settles O32: the modules of the link, the faults of a link that is lost, the windows, the fence and the debug port's access, each by the equation
of its operation. -/
theorem windowsFenceAndLinkComplete : Obligations.WindowsFenceAndLinkComplete := by
  refine ⟨fun s k hk => ?_, fun s k m hk hm => ⟨fun h => ?_, fun h => ?_, fun rate hb hr hd h4 hbit hun hw => ?_⟩,
    fun s hl hr hv hrec hm => ?_, fun s k hb hl hr ho => ?_, fun s k n a x g l hk hwin => ?_,
    fun s k core n v hk hr hl hw hn hv he => ⟨?_, ?_, ?_⟩, fun s k core hk hr hl hw hwin hf ho h16 => ?_,
    fun s addr v g write hm ho hd => ?_, fun s k addr v write hm ho => ?_⟩
  · exact completes_of_onStack (f := fun t => t.bump HOSTIF.UCIE_STAT_RETRIES) hk rfl ((Stack.OnlyChanges.refl _ _ _).bump _ (by simp))
      (Stack.get_bump_sat _ _ _)
  · obtain ⟨hdown, hget⟩ := Stack.moduleDown_degrades hm h
    refine completes_of_onStack (f := fun t => t.moduleDown m) hk rfl ?_ ?_ <;> rw [hdown]
    · exact (Stack.setModule_onlyChanges _ _ _ (by simp)).raise (by simp)
    · exact ⟨(Stack.get_raise_ne _ (by decide)).trans hget, Stack.get_raise_same _ _⟩
  · obtain ⟨hdown, hlink⟩ := Stack.moduleDown_ends hm h
    refine completes_of_onStack (f := fun t => t.moduleDown m) hk rfl ?_ ?_ <;> rw [hdown]
    · exact Stack.setModule_onlyChanges _ _ _ (by simp)
    · exact hlink
  · refine completes_of_onStack (f := fun t => t.moduleUp m rate) hk rfl ?_ ?_ <;> rw [Stack.moduleUp_idle hb hr hd hun hw]
    · exact (Stack.setModule_onlyChanges _ _ _ (by simp)).put _ (by simp)
    · refine ⟨?_, Stack.get_put_same _ _ _⟩
      rw [Stack.get_put_ne _ _ (by decide), Stack.get_setModule]
      interval_cases m <;> interval_cases (s.stack k).get HOSTIF.UCIE_STAT_MODULES <;> simp_all [setBit, bit]
  · have hbegin : exec .ucieLinkLost s = .next (s.onStackFault .recto fun t => t.fault .device 0xE 0 0 0) := by
      refine if_neg ?_
      rintro (h | h | ⟨hb, h⟩)
      · exact absurd h (by simp [hl])
      · exact absurd h (by simp [hr])
      · exact absurd h (by simp [hv hb])
    obtain ⟨v, hfault⟩ := Stack.fault_device_starts (block := 0xE) (cause := 0) (hm .recto rfl) hrec
    rw [State.onStackFault_haven _ rfl (hm .recto rfl) (by rw [hfault]; exact v.enterHaven_facts.1)] at hbegin
    refine ⟨_, hbegin, by simp, fun j hj => ?_⟩
    rw [State.packageHaven_stack _ (by simpa using hj)]
    cases j with
    | recto =>
      obtain ⟨hmode, hout, hrec, -, -, -⟩ := v.enterHaven_facts
      rw [State.onStack_stack _ _ hj, hfault, if_pos hmode]
      exact ⟨hmode, hrec, hout⟩
    | verso =>
      rw [State.onStack_stack_ne _ _ (by decide), if_neg (hm .verso hj)]
      obtain ⟨hmode, hout, hrec, -, -, -⟩ := (s.stack .verso).enterHaven_facts
      exact ⟨hmode, hrec, hout⟩
  · exact ⟨_, if_neg (by simp [hb, hl, hr, ho]), rfl⟩
  · intro bytes r hm hg he
    have hsend := Stack.winFlush_sends hwin hm hg he
    have hfree : ((s.stack k).ringTag 0 g).st = 0 := by simpa using List.find?_some hg
    have hempty := (s.stack k).winEmptied_windows n
    obtain ⟨hframe, -⟩ := Stack.inject_header (P := [.rings]) (F := [RING.REG_STAT_WAITS 0]) (by simp) (by simp)
      (show (((s.stack k).winEmptied n).ringTag 0 g).st = 0 from hfree) (show ((s.stack k).winEmptied n).interfaceError (r.header g).1 (r.header g).2 = false from he)
    have hwin := (s.stack k).winEmptied_onlyChanges n (P := [.rings, .hostif, .answer]) (F := [RING.REG_STAT_WAITS 0]) (by simp)
    generalize (s.stack k).winEmptied n = u at *
    have hhost : (u.inject (r.header g).1 (r.header g).2 0 true).hostif = u.hostif := hframe.part (p := .hostif) (by simp)
    refine completes_of_onStack (f := fun t => t.winFlush n) hk rfl ?_ ?_ <;> rw [hsend]
    · exact ((hwin.trans (hframe.mono (by simp) (by simp))).trans (Stack.hostif_onlyChanges _ _ (by simp))).answered _ _ (by simp)
    · refine ⟨?_, Stack.inFlight_out _ _ _⟩
      rw [← hhost] at hempty
      exact hempty
  · have hdo := Stack.hostDo_winMove (core := core) hr hl hw hn hv he false
    refine completes_of_onStack (f := Stack.hostDo _) hk rfl ?_ ?_ <;> rw [hdo]
    · exact (Stack.answered_onlyChanges _ _ _ (by simp)).put _ (by simp)
    · exact ⟨(Stack.get_put_same _ _ _).trans (Nat.mod_eq_of_lt hv), rfl⟩
  · have hdo := Stack.hostDo_winMove (core := core) hr hl hw hn hv he true
    refine completes_of_onStack (f := Stack.hostDo _) hk rfl ?_ ?_ <;> rw [hdo]
    · exact ((Stack.answered_onlyChanges _ _ _ (by simp)).put _ (by simp)).put _ (by simp)
    · refine ⟨(Stack.get_put_ne _ _ (by simp [HOSTIF.WIN_ADDR_HI_ADDR, HOSTIF.WIN_ADDR_HI_AUTOINC])).trans (Stack.get_put_same _ _ _),
        (Stack.get_put_same _ _ _).trans (Nat.mod_eq_of_lt ?_), rfl⟩
      simp only [HOSTIF.WIN_ADDR_HI_AUTOINC]
      omega
  · intro a hinc ha hreg hin
    have hdo := Stack.hostDo_winData (core := core) hr hl hw hn hv he hinc ha hreg hin
    have ha4 : a % 4 = 0 := Stack.winAddr_aligned _ _
    refine completes_of_onStack (f := Stack.hostDo _) hk rfl ?_ ?_ <;> rw [hdo]
    · exact ((((Stack.answered_onlyChanges _ _ _ (by simp)).trans (Stack.hostif_onlyChanges _ _ (by simp))).put _ (by simp)).put _
        (by simp)).answered _ _ (by simp)
    · refine ⟨Stack.winAddr_winAt _ _ (by omega) (by omega), rfl, ?_⟩
      exact Stack.winCollected_windows _ _ _ _ _
  · have hdo : (s.stack k).hostDo (wordReq core false true (ownAddr 0x100) 0) = _ := (Stack.hostDo_fence hr hl hw).trans (Stack.fence_returns hwin hf ho)
    refine completes_of_onStack (f := Stack.hostDo _) hk rfl ?_ ?_ <;> rw [hdo]
    · exact (((Stack.hostif_onlyChanges _ _ (by simp)).put _ (by simp)).put _ (by simp)).answered _ _ (by simp)
    · refine ⟨rfl, ?_, ?_, rfl⟩
      · exact (Stack.get_put_ne _ _ (by decide)).trans ((Stack.get_put_same _ _ _).trans (Nat.mod_eq_of_lt h16))
      · exact (Stack.get_put_same _ _ _).trans (Nat.mod_eq_of_lt (Nat.lt_succ_of_le (Nat.min_le_right _ _)))
  · intro r h ha hg he
    have hfree : (s.recto.ringTag 15 g).st = 0 := by simpa using List.find?_some hg
    obtain ⟨hframe, hjtag, hanswer, hst⟩ := Stack.debugIssued_facts (addr := addr) (h := h) rfl (r.header_src g).2 hfree (r.header_takesTag g) he
    exact completes_of_onStack rfl (congrArg Host.Outcome.next (State.debugAccess_issues hm ho hd ha hg he)) hframe ⟨hjtag, hanswer, hst⟩
  · exact ⟨_, congrArg Host.Outcome.next (State.debugAccess_locked hm ho k addr v write), rfl⟩

end Sys2Proof.Machine
end

section
/-! SUPPORT. Lacing links: units, credits, resends, enabling, retrains and the remote window (R422, R441 to R453). -/

namespace Sys2Proof.Machine

section
variable {s : Stack} {l : Nat}

/-! ## Sending (R442, R445, R446) -/

/-- A link with nothing to resend sends the next unit of a class, and keeps it for replay (R442, R445, R446). -/
theorem Stack.unitSend_sends {cls n queue : Nat} {flits : List Nat} {y : Lace} (hst : s.laceState l = 2) (hd : s.laceDrives = true)
    (hr : (s.lace l).resend = none) (htake : (s.lace l).take cls (min n 16) = some (flits, queue, y)) (hf : cls = 2 → s.flowsRun = true)
    (hne : flits ≠ []) (hcr : flits.length ≤ (s.lace l).credit cls)
    (hheld : (s.lace l).replay.foldl (fun a u => a + u.flits.length) 0 + flits.length ≤ 4096) (hlen : (s.lace l).replay.length < 1024)
    (hcount : (s.lace l).txCount + 1 ≠ 2 ^ 32) (hkey : s.mayEncrypt l (s.effectiveAttr l cls flits) = true) :
    s.unitSend l cls n =
      let attr := s.effectiveAttr l cls flits
      let u : LaceUnit := ⟨(s.lace l).txCount, cls == 2, cls, queue, attr, (s.linkSlot attr).getD 0, (s.lace l).kp, flits⟩
      (s.setLace l { y.spend cls flits.length with
        since := if (s.lace l).replay = [] then s.clk.up else (s.lace l).since
        txCount := (s.lace l).txCount + 1
        replay := (s.lace l).replay ++ [u] }).answered 0 (s.laceOutput l (s.unitWire l u)) := by
  have hgo : ¬ (s.laceState l ≠ 2 ∨ (!s.laceDrives) = true) := by simp [hst, hd]
  have hmay : ¬ ((cls = 2 ∧ (!s.flowsRun) = true) ∨ (s.lace l).credit cls < flits.length ∨
      4096 < (s.lace l).replay.foldl (fun a u => a + u.flits.length) 0 + flits.length ∨ 1024 ≤ (s.lace l).replay.length ∨ flits = [] ∨
      (!s.mayEncrypt l (s.effectiveAttr l cls flits)) = true) := by
    rintro (⟨h, h'⟩ | h | h | h | h | h)
    · simp [hf h] at h'
    · omega
    · omega
    · omega
    · exact hne h
    · simp [hkey] at h
  unfold Stack.unitSend
  dsimp only
  rw [if_neg hgo, hr]
  dsimp only
  rw [show (s.lace l).take cls (Nat.min n 16) = some (flits, queue, y) from htake]
  dsimp only
  rw [if_neg hmay, if_neg hcount]

/-- A CREDIT block is sent on a link whose lanes are all Ready, and what was owed is cleared (R445, R446). -/
theorem Stack.creditSend_sends (h0 : s.laceState l ≠ 0) (h4 : s.laceState l ≠ 4) (hd : s.laceDrives = true)
    (hready : ∀ n ∈ s.members l, s.laneStage n = 8) : s.creditSend l =
      (s.setLace l { s.lace l with owedReq := 0, owedRsp := 0, owedGuar := 0, ackDue := false }).answered 0
        (s.laceOutput l [((s.lace l).rxCount + 4095) % 4096, b2n (s.lace l).discarding, (s.lace l).owedReq, (s.lace l).owedRsp, (s.lace l).owedGuar]) := by
  refine if_neg ?_
  have hall : ((s.members l).all fun n => s.laneStage n == 8) = true := by simpa using hready
  simp [h0, h4, hd, hall]

/-- A NAK is repeated while everything is discarded. -/
theorem Stack.nakRepeat_discarding (h : (s.lace l).discarding = true) : s.nakRepeat l = s.creditSend l := if_pos h

/-- The moment of the timer's expiry leaves the links as they were. -/
theorem Stack.lace_elapse (s : Stack) (u l : Nat) : (s.elapse u).lace l = s.lace l := rfl

/-- The resend timer of an Up link with units unacknowledged sends them again, and for the eighth time retrains the link (R446). -/
theorem Stack.resendTimer_expires (hst : s.laceState l = 2) (hr : (s.lace l).replay ≠ []) : s.resendTimer l =
    let d := s.elapse (s.resendDue l)
    let u := d.setLace l { s.lace l with resend := some 0, since := d.clk.up, resends := (s.lace l).resends + 1 }
    if (s.lace l).resends < 7 then u else u.laceRetrain l := by
  have hgo : ¬ (s.laceState l ≠ 2 ∨ (s.lace l).replay = []) := by simp [hst, hr]
  refine (if_neg hgo).trans ((if_neg hr).trans ?_)
  dsimp only
  rw [Stack.lace_elapse]
  by_cases h : (s.lace l).resends < 7
  · rw [if_pos h, if_neg (by omega)]
  · rw [if_neg h, if_pos (by omega)]

/-! ## Receiving (R444, R446, R453) -/

section
variable {seq cls queue tag ce far : Nat} {guaranteed enc kp : Bool} {flits : List Nat}

/-- Whether the flits of a unit are as many as its kind has (R442, R444). -/
def unitFits (guaranteed : Bool) (flits : List Nat) : Prop :=
  if guaranteed = true then 1 ≤ flits.length ∧ flits.length ≤ 16 else flits.length = 1 + (headerOf 13 (flits.headD 0)).len

/-- The check of the number of flits finds that they fit. -/
theorem unitFits.checked (h : unitFits guaranteed flits) :
    (if guaranteed then decide (1 ≤ flits.length) && decide (flits.length ≤ 16) else flits.length == 1 + (headerOf 13 (flits.headD 0)).len) = true := by
  unfold unitFits at h
  cases guaranteed
  · simpa using h
  · simpa using h

variable (hst : s.laceState l = 2) (hseq : seq = (s.lace l).rxCount % 4096)
include hst hseq

omit hst hseq in
/-- A count leaves the links as they were. -/
theorem Stack.lace_bump (s : Stack) (f : Field) (n l : Nat) : (s.bump f n).lace l = s.lace l := rfl

/-- A broken unit is counted and NAKed. -/
theorem Stack.unitReceive_broken : s.unitReceive l seq guaranteed enc kp cls queue flits tag ce true far =
    (s.bump (LANE.LACE_ERR_CE l) ce).unitFails l := by
  unfold Stack.unitReceive
  rw [if_neg (not_not_intro hst)]
  exact (if_neg (not_not_intro hseq)).trans (if_pos (.inl rfl))

variable (hfits : unitFits guaranteed flits)
include hfits

/-- A plain unit whose tag is the CRC of its flits is accepted. -/
theorem Stack.unitReceive_plain (htag : unitCrc flits = tag) : s.unitReceive l seq guaranteed false kp cls queue flits tag ce false far =
    (s.bump (LANE.LACE_ERR_CE l) ce).unitAccept l guaranteed false cls queue flits := by
  unfold Stack.unitReceive
  rw [if_neg (not_not_intro hst)]
  refine (if_neg (not_not_intro hseq)).trans ((if_neg ?_).trans (if_neg ?_))
  · rw [hfits.checked]
    decide
  · simp [htag]

/-- An encrypted unit whose tag is that of its key is decrypted and accepted. -/
theorem Stack.unitReceive_encrypted {v : Nat} :
    let t := s.bump (LANE.LACE_ERR_CE l) ce
    let attr := t.effectiveAttr l (if guaranteed then 2 else cls) flits
    let role := 1 - t.get (LANE.LACE_CTL_ROLE l)
    let ctr := far % 2 ^ 32 * 2 ^ 32 + (s.lace l).rxCount % 2 ^ 32
    t.receiveKey l attr kp = some v → linkTag v attr ctr role flits = tag →
    s.unitReceive l seq guaranteed true kp cls queue flits tag ce false far =
      t.unitAccept l guaranteed true cls queue (cryptFlits v attr ctr role guaranteed flits) := by
  intro t attr role ctr hkey htag
  unfold Stack.unitReceive
  rw [if_neg (not_not_intro hst)]
  dsimp only
  rw [Stack.lace_bump, if_neg (not_not_intro hseq), hkey]
  rw [hfits.checked, if_neg (by decide)]
  refine if_neg ?_
  show ¬ (!(linkTag v attr ctr role flits == tag)) = true
  rw [beq_iff_eq.2 htag]
  decide

end

/-! ## CREDIT blocks (R445 to R448) -/

/-- A CREDIT block makes a training link Up once its lanes are Ready without a loop (R447). -/
theorem Stack.credit_up {ack req rsp guar : Nat} {nak : Bool} (hst : s.laceState l = 1 ∨ s.laceState l = 3)
    (hready : ∀ n ∈ s.members l, s.laneStage n = 8 ∧ s.get (LANE.TEST_LOOP n) = 0) (hrx : (s.lace l).rxGuar = [])
    (hm : s.modeIn [.dawn, .day, .workshop] = true) : s.credit l ack nak req rsp guar = s.laceUp l := by
  have hall : ((s.members l).all fun n => s.laneStage n == 8 && s.get (LANE.TEST_LOOP n) == 0) = true := by simpa using hready
  refine (if_pos hst).trans (if_pos ?_)
  rw [hall, hrx, hm]
  rfl

/-- A CREDIT block on an Up link returns credits and acknowledges, and with NAK resends (R445, R446). -/
theorem Stack.credit_returns {ack req rsp guar : Nat} {nak : Bool} (hst : s.laceState l = 2) : s.credit l ack nak req rsp guar =
    let x := s.lace l
    let y := ({ x with crReq := min 256 (x.crReq + req), crRsp := min 256 (x.crRsp + rsp), crGuar := min 512 (x.crGuar + guar) } : Lace).acked ack
    let y := if y.replay.length < x.replay.length then { y with since := s.clk.up } else y
    if nak = true then (s.setLace l y).laceResend l else s.setLace l y :=
  (if_neg (by omega)).trans (if_neg (not_not_intro hst))

/-! ## Enabling and retrains (R447, R455) -/

theorem Stack.laceEnable_present (h : l < s.build.laces) : s.laceEnable l = (s.writes [(LANE.LACE_CTL_ENABLE l, 1)]).lacePoll l :=
  if_neg (Nat.not_le.2 h)

/-- ENABLE does not change the link's state. -/
theorem Stack.laceState_enable (s : Stack) (l v : Nat) : (s.put (LANE.LACE_CTL_ENABLE l) v).laceState l = s.laceState l :=
  s.get_put_ne _ (by simp [LANE.LACE_CTL_ENABLE, LANE.LACE_STAT_STATE])

theorem Stack.laceDisable_down (h : s.laceState l = 0) : s.laceDisable l = s.writes [(LANE.LACE_CTL_ENABLE l, 0)] :=
  if_pos ((s.laceState_enable l 0).trans h)

/-- A link that is not Down goes Down with what it holds lost and its lanes off. -/
theorem Stack.laceDisable_running (h : s.laceState l ≠ 0) : s.laceDisable l =
    let u := s.writes (if s.laceState l = 2 then [(LANE.LACE_CTL_ENABLE l, 0), (LANE.INT_LINK_DOWN, 1)] else [(LANE.LACE_CTL_ENABLE l, 0)])
    let v := ((u.writes [(LANE.LACE_STAT_STATE l, 0)]).laceDiscard l).laceDrop l (s.lace l).rxGuar.length
    let w := v.setLace l { s.lace l with
      replay := [], resend := none, unsent := 0, resends := 0, req := [], rsp := [], rxGuar := [], discarding := false }
    (w.members l).foldl (fun t n => t.laneOff n) w := by
  have hstate := s.laceState_enable l 0
  have hwrites : s.writes (if s.laceState l = 2 then [(LANE.LACE_CTL_ENABLE l, 0), (LANE.INT_LINK_DOWN, 1)] else [(LANE.LACE_CTL_ENABLE l, 0)]) =
      if (s.put (LANE.LACE_CTL_ENABLE l) 0).laceState l = 2 then (s.put (LANE.LACE_CTL_ENABLE l) 0).raise LANE.INT_LINK_DOWN
      else s.put (LANE.LACE_CTL_ENABLE l) 0 := by
    rw [hstate]
    split <;> rfl
  rw [hwrites]
  exact if_neg (hstate ▸ h)

theorem Stack.retrainTimeout_fails (h : s.laceState l = 3) : s.retrainTimeout l =
    (s.writes [(LANE.LACE_STAT_STATE l, 4), (LANE.LACE_STAT_FAIL l, 0xC), (LANE.INT_LINK_FAIL, 1)]).laceDiscard l := if_pos h

/-! ## The remote window (R450) -/

/-- A field that is not an interface's time-out leaves when its requests are due as it was. -/
theorem Stack.requestDue_put {f : Field} {v n tag : Nat} (h : f.key ≠ (RING.TMO_US n).key) : (s.put f v).requestDue n tag = s.requestDue n tag := by
  unfold Stack.requestDue Stack.timeoutUs
  rw [s.get_put_ne _ h]
  rfl

/-- GO of a remote window: its request waits in the link and the window is BUSY, else OVERRUN. -/
theorem Stack.rwinGo_taken (h : l < s.build.laces) (write : Bool) : s.rwinGo l write =
    let u := s.writes [(LANE.RWIN_CTL_WRITE l, b2n write)]
    if s.flag (LANE.RWIN_STATUS_BUSY l) then u.writes [(LANE.RWIN_STATUS_OVERRUN l, 1)]
    else
      let tag := (((List.range 204).map fun j => l + 5 * j).find? fun g => (s.ringTag 13 g).st == 0).getD l
      let addr := s.get (LANE.RWIN_ADDR_LO_ADDR l) + 2 ^ 32 * s.get (LANE.RWIN_ADDR_HI_ADDR l)
      let w := addr / 4 % 16
      let n := if write then 1 else 0
      let h : Header := { src := 13, tag := tag, len := n, rlen := 1 - n, addr := addr / 64 * 64, beFirst := n * 0xF * 16 ^ w }
      let packet := headerFlit h (if write then 2 else 1) 0 :: (if write then [s.get (LANE.RWIN_DATA_DATA l) * 2 ^ (32 * w)] else [])
      ((u.writes [(LANE.RWIN_STATUS_BUSY l, 1)]).setTag 13 tag { st := 2, birth := s.get RING.EPOCH_COUNT % 65536, due := s.requestDue 13 tag }).setLace l
        { s.lace l with rwinTag := tag, rwinWrite := write, rwinWord := w, req := (s.lace l).req ++ [packet] } := by
  have hget : ∀ f : Field, (LANE.RWIN_CTL_WRITE l).key ≠ f.key → (s.put (LANE.RWIN_CTL_WRITE l) (b2n write)).get f = s.get f :=
    fun f hf => s.get_put_ne _ hf
  have hbusy : (s.put (LANE.RWIN_CTL_WRITE l) (b2n write)).flag (LANE.RWIN_STATUS_BUSY l) = s.flag (LANE.RWIN_STATUS_BUSY l) := by
    unfold Stack.flag
    rw [hget _ (by simp [LANE.RWIN_CTL_WRITE, LANE.RWIN_STATUS_BUSY])]
  have hlo := hget (LANE.RWIN_ADDR_LO_ADDR l) (by simp [LANE.RWIN_CTL_WRITE, LANE.RWIN_ADDR_LO_ADDR])
  have hhi := hget (LANE.RWIN_ADDR_HI_ADDR l) (by simp [LANE.RWIN_CTL_WRITE, LANE.RWIN_ADDR_HI_ADDR])
  have hdata := hget (LANE.RWIN_DATA_DATA l) (by simp [LANE.RWIN_CTL_WRITE, LANE.RWIN_DATA_DATA])
  have hepoch := hget RING.EPOCH_COUNT (by simp [LANE.RWIN_CTL_WRITE, RING.EPOCH_COUNT]; omega)
  have hdue := fun tag => Stack.requestDue_put (s := s) (f := LANE.RWIN_CTL_WRITE l) (v := b2n write) (n := 13) (tag := tag)
    (by simp [LANE.RWIN_CTL_WRITE, RING.TMO_US]; omega)
  refine (if_neg (Nat.not_le.2 h)).trans ?_
  dsimp only
  rw [hbusy, hlo, hhi, hdata, hepoch, hdue]
  rfl

end

end Sys2Proof.Machine
end

section
/-! The statement of Lacing links. -/

namespace Sys2Proof.Machine

/-- Settles O44: each command on the link's stack, those that may move lanes followed by the ports and the pair. -/
theorem lacingCommandsComplete : Obligations.LacingCommandsComplete := by
  intro s k l hk
  refine ⟨fun cls n queue flits y hst hd hr htake hf hne hcr hheld hlen hcount hkey => ?_,
    fun seq guaranteed enc kp cls queue flits tag ce far hst hseq => ⟨?_, fun henc hfits htag => ?_, fun v henc hfits hkey htag => ?_⟩,
    fun ack nak req rsp guar => ⟨fun hst hready hrx hm => ?_, fun hst => ?_⟩, fun h0 h4 hd hready => ⟨?_, fun h => ?_⟩, fun hst hr => ?_,
    fun hl => ⟨?_, fun write => ?_⟩, fun h => ?_, fun h => ?_, fun h => ?_⟩
  · exact exec_eq_of_nextLink rfl (Stack.unitSend_sends hst hd hr htake hf hne hcr hheld hlen hcount hkey)
  · exact exec_eq_of_nextLink rfl (Stack.unitReceive_broken hst hseq)
  · subst henc
    exact exec_eq_of_nextLink rfl (Stack.unitReceive_plain hst hseq hfits htag)
  · subst henc
    exact exec_eq_of_nextLink rfl (Stack.unitReceive_encrypted hst hseq hfits hkey htag)
  · exact exec_eq_of_nextLink rfl (Stack.credit_up hst hready hrx hm)
  · exact exec_eq_of_nextLink rfl (Stack.credit_returns hst)
  · exact exec_eq_of_onStack rfl (Stack.creditSend_sends h0 h4 hd hready)
  · exact exec_eq_of_onStack rfl ((Stack.nakRepeat_discarding h).trans (Stack.creditSend_sends h0 h4 hd hready))
  · exact exec_eq_of_nextLink rfl (Stack.resendTimer_expires hst hr)
  · exact exec_eq_of_nextLink rfl (Stack.laceEnable_present hl)
  · exact exec_eq_of_onStack rfl (Stack.rwinGo_taken hl write)
  · exact exec_eq_of_nextLink rfl (Stack.laceDisable_down h)
  · exact exec_eq_of_nextLink rfl (Stack.laceDisable_running h)
  · exact exec_eq_of_nextLink rfl (Stack.retrainTimeout_fails h)

end Sys2Proof.Machine
end
